-- ==== Sys2Proof/Word.lean ====
section
/-! DEFINITION. The machine's word types (01 R4: little-endian bytes, 64-bit scalar words, 32-bit vector words). -/

namespace Sys2Proof

/-- A 64-bit scalar register, program counter or register-file value. -/
abbrev Word := BitVec 64
/-- A 32-bit vector-register element or a 32-bit device register. -/
abbrev W32 := BitVec 32
/-- One byte of memory. -/
abbrev Byte := BitVec 8
/-- One bit for each of the 64 threads of a warp (04 R101: WARPW is 64). -/
abbrev Mask := BitVec 64
/-- A scalar or vector register number as a field carries it (06 R162). -/
abbrev Reg := BitVec 7

end Sys2Proof
end

