-- ==== Sys2Proof/Config.lean ====
section
/-! DEFINITION. What the spec leaves to an implementation or to its fuses: constants without a body, so that nothing can be
proved of their values. -/

namespace Sys2Proof.Config

/-- The fixed f32 result that a special function proposes for an operand (08 R215: any value within the bound; R3: a fixed
function of the operand bits). The first argument is 2 * fn + aux6 bit 0 (log 10). -/
opaque specialResult : Nat → W32 → W32

/-- Whether lane n of a core's pipe p is good: the lane map that the fuses give (04 R105, log 11). -/
opaque laneGood : Nat → Nat → Nat → Bool

/-- Free values, one for each number drawn (State.free): the value that VDWR, QWR and IRTWR leave in sd (19 R428, log 23). -/
opaque freeWord : Nat → Word

/-- The energy in µJ that the fuses give a count of events of a kind: 0 core-time, 1 matrix-unit clk, 2 link bytes, 3 HBM bytes
(03 R90 MENERGY, log 24). -/
opaque freeEnergy : Nat → Nat → Word

/-- The HBM frames that the lifecycle pair reserves outside quotas for each VD: its save area and its overflow area (02 R47,
16 R386, 03 R96; log 26). -/
opaque reservedFrames : Nat

/-- The bytes of the save area that it reserves among them for a VD's images (16 R386; log 26). -/
opaque saveArea : Nat

/-- Whether SLH-DSA-SHAKE-256s (FIPS 205, which the spec names) accepts a signature: public key, message, signature (01 R25, R34;
19 R432; log 77). -/
opaque slhDsaVerify : List Byte → List Byte → List Byte → Bool

/-- What the fuses hold beside the life-cycle state, the key digest and the serial number, which MEAS5 covers too (01 R26; log
77). -/
opaque fuseBytes : List Byte

/-- The body of the security core's answer to the nth kind of supported request but GET_MEASUREMENTS, in the order of 01 R27:
DMTF SPDM 1.3, which the spec names, gives it (log 29). -/
opaque spdmBody : Nat → List Byte

/-- The ECDSA P-384 signature over the SHA-384 digest of a message, under the module's key (01 R27; log 29). -/
opaque spdmSign : List Byte → List Byte

end Sys2Proof.Config
end

