-- ==== Sys2Proof/Fields.lean ====
section
/-! DEFINITION. What the operand fields of an instruction hold, layout by layout (06 R153-R167), and what an event of
the opcode table carries with it. -/

namespace Sys2Proof

/-- The element types of 06 R163, in the order of their codes 0x00 to 0x17. -/
inductive Ty where
  | s32 | n32 | f32 | bf16x2 | f16x2 | s16x2 | n16x2 | s8x4
  | n8x4 | e4m3x4 | e5m2x4 | f64 | s64 | n64 | bf16 | f16
  | e3m2 | e2m3 | e2m1 | e8m0 | s8 | n8 | s16 | n16
  deriving DecidableEq, Repr

/-- The rounding modes of 05 R137, in the order of their codes 0 to 4. -/
inductive Rnd where
  | rne | rtz | rdn | rup | rsr
  deriving DecidableEq, Repr

/-- The widths of a G-M access, 8 to 128 bits a thread (06 R164). -/
inductive Width where
  | w8 | w16 | w32 | w64 | w128
  deriving DecidableEq, Repr

/-- The orders of a memory access (06 R160, R164). -/
inductive Order where
  | none | acq | rel | acqrel
  deriving DecidableEq, Repr

/-- The element types of the G-MM dtype field, codes 0x0 to 0x8 (06 R164). -/
inductive MTy where
  | bf16 | f16 | e4m3 | e5m2 | e3m2 | e2m3 | e2m1 | s8 | n8
  deriving DecidableEq, Repr

/-- Layout G-V (06 R158). -/
structure GV where
  p : BitVec 3
  pneg : Bool
  dtype : Ty
  rnd : Rnd
  sat : Bool
  aux : BitVec 6
  vd : Reg
  va : Reg
  vb : Reg
  vc : Reg
  deriving DecidableEq, Repr

/-- Layout G-VI (06 R158). -/
structure GVI where
  p : BitVec 3
  pneg : Bool
  vd : Reg
  va : Reg
  ty : BitVec 2
  imm : W32
  deriving DecidableEq, Repr

/-- Layout G-S (06 R158); `cw` is the cond/width field. -/
structure GS where
  sd : Reg
  sa : Reg
  sb : Reg
  sc : Reg
  cw : BitVec 4
  deriving DecidableEq, Repr

/-- Layout G-SI (06 R158). -/
structure GSI where
  sd : Reg
  sa : Reg
  aux : BitVec 6
  imm : W32
  deriving DecidableEq, Repr

/-- Layout G-B (06 R158, R167); `cond` is the cond or p field. -/
structure GB where
  sa : Reg
  sb : Reg
  cond : BitVec 3
  neg : Bool
  off : W32
  deriving DecidableEq, Repr

/-- Layout G-M (06 R158, R161, R236). -/
structure GM where
  p : BitVec 3
  pneg : Bool
  width : Width
  order : Order
  vdata : Reg
  sa : Reg
  vb : Reg
  iw : BitVec 2
  isgn : Bool
  scale : BitVec 3
  off : BitVec 9
  deriving DecidableEq, Repr

/-- Layout G-MM (06 R158, R164). -/
structure GMM where
  cv : BitVec 3
  vidx : Reg
  sa : Reg
  sb : Reg
  sc : Reg
  arow : BitVec 11
  dtype : MTy
  deriving DecidableEq, Repr

/-- Layout G-K (06 R158). -/
structure GK where
  sd : Reg
  sa : Reg
  sb : Reg
  sc : Reg
  tag : BitVec 6
  se : Reg
  flags : BitVec 5
  deriving DecidableEq, Repr

/-- The four limits of WAIT (06 R159, 07 R194). -/
structure WaitOp where
  loads : BitVec 6
  stores : BitVec 6
  copies : BitVec 6
  tiles : BitVec 6
  deriving DecidableEq, Repr

/-- The compact layout C (06 R153). -/
structure CV where
  pred : Bool
  va : BitVec 5
  vb : BitVec 5
  deriving DecidableEq, Repr

/-- The short layout S32-V3 (06 R155). -/
structure SV3 where
  p : BitVec 3
  vd : Reg
  va : Reg
  vb : Reg
  deriving DecidableEq, Repr

/-- The short layout S32-VI (06 R155). -/
structure SVI where
  p : BitVec 3
  vd : Reg
  va : Reg
  imm : BitVec 7
  deriving DecidableEq, Repr

/-- The short layout S32-S3 (06 R155). -/
structure SS3 where
  sd : Reg
  sa : Reg
  sb : Reg
  deriving DecidableEq, Repr

/-- The short layout of VLD.32 and VST.32 (06 R155). -/
structure SVM where
  p : BitVec 3
  vd : Reg
  sa : Reg
  imm : BitVec 7
  deriving DecidableEq, Repr

/-- The fields of any general form (06 R158, R159). -/
inductive Layout where
  | sys (bits : BitVec 46)
  | s (o : GS)
  | si (o : GSI)
  | b (o : GB)
  | v (o : GV)
  | vi (o : GVI)
  | m (o : GM)
  | mm (o : GMM)
  | k (o : GK)
  deriving DecidableEq, Repr

/-- The general form that an encoding stands for (06 R151), and the bytes of the encoding it came from. -/
structure Form where
  len : Nat
  cls : BitVec 6
  fn : Nat
  lay : Layout
  deriving DecidableEq, Repr

/-- The four instructions of the fused softmax idiom (06 R170): their common registers and predicate, the rounding
mode of the final sum, and the bytes of each encoding. -/
structure FusedOp where
  p : BitVec 3
  pneg : Bool
  rnd : Rnd
  vm : Reg
  vx : Reg
  vy : Reg
  vz : Reg
  vs : Reg
  n1 : Nat
  n2 : Nat
  n3 : Nat
  n4 : Nat
  deriving DecidableEq, Repr

/-- An agent that executes instructions (13 R318): warp `w` of workgroup `g`, the stoker thread of workgroup `g`, or
control core `c` (0, 1 scheduler pair; 2, 3 lifecycle pair; 4, 5 fault pair; 6 security core). -/
inductive AgentId where
  | warp (g w : Nat)
  | stoker (g : Nat)
  | ctl (c : Nat)
  deriving DecidableEq, Repr

end Sys2Proof
end

