-- ==== Sys2Proof/Events.lean ====
section
/-! DEFINITION. What an event of the opcode table carries from outside the model: the parts of its effect that the spec
leaves to sensors, the host, images in NVM, cryptographic checks or the order of completions. -/

namespace Sys2Proof

/-- A margin plan (01 R31): the supply offset of each cluster in steps of 5 mV, 0 to 6, and the cores withheld. -/
structure MarginPlan where
  offsets : List Nat
  withheld : List Nat
  deriving DecidableEq, Repr

/-- An interface that cold boot trains (01 R22, R24): an HBM stack, the link to a compute die, a UALink station or an Ethernet
port. -/
inductive Interface where
  | stack (n : Nat)
  | link (n : Nat)
  | station (n : Nat)
  | port (n : Nat)
  deriving DecidableEq, Repr

/-- A stored training record (01 R24): the stack identity or configuration it names, the die temperature in °C at which it was
written, the training values, and its SHAKE256 digest. -/
structure TrainingRecord where
  identity : List Byte
  temp : Int
  values : List Byte
  digest : List Byte
  deriving DecidableEq, Repr

/-- What the training of an interface meets in a boot (01 R24): its identity or configuration as found, whether the quick check
of a loaded record passes, and the values that full training gives, none when the interface does not train. -/
structure TrainingRun where
  iface : Interface
  found : List Byte
  quick : Bool
  full : Option (List Byte)
  deriving DecidableEq, Repr

/-- An image in NVM, with its signature and the public key it is signed with (01 R25). -/
structure SignedImage where
  bytes : List Byte
  key : List Byte
  signature : List Byte
  deriving DecidableEq, Repr

/-- What a cold-boot phase works on (01 R22-R26, R31): nothing; the first-stage image; the firmware of the security core and the
Swearos images of the scheduler, lifecycle and fault pairs; the die temperature and the interfaces to train; or, by core, the
fewest steps of 5 mV at which the path-delay monitors find its minimum margin (an unlisted core needs none, and one that needs
more than 6 lacks it at +30 mV). -/
inductive BootStep where
  | advance
  | firstStage (image : SignedImage)
  | swearos (security scheduler lifecycle fault : SignedImage)
  | train (temp : Int) (runs : List TrainingRun)
  | margins (needs : List (Nat × Nat))
  deriving DecidableEq, Repr

/-- The SPDM 1.3 requests the security core supports, and any other (01 R27). -/
inductive SpdmRequest where
  | getVersion | getCapabilities | negotiateAlgorithms | getDigests | getCertificate | challenge
  | getMeasurements (block : Nat)
  | other
  deriving DecidableEq, Repr

/-- What the security core answers: the body of a response with its signature, if it is a signed one, or ERROR with a code
(01 R27, 19 R432). -/
inductive SpdmReply where
  | response (data : List Byte) (signature : Option (List Byte))
  | busy | unspecified | unsupported
  deriving DecidableEq, Repr

/-- A life-cycle request (01 R34): the state asked for, the module serial number it names, and its signature with the public key
it is signed with. -/
structure LifeCycleRequest where
  target : BitVec 2
  serial : List Byte
  key : List Byte
  signature : List Byte
  deriving DecidableEq, Repr

/-- A write to a device register: in BAR0 of the physical function, or in BAR0 of the virtual function of a VD; `bytes`
is the width of the write, 4 or 8 (01 R7-R12). -/
inductive RegAccess where
  | pf (off : Nat) (value : Word) (bytes : Nat)
  | vf (vd off : Nat) (value : Word) (bytes : Nat)
  deriving DecidableEq, Repr

/-- A write of a PCIe or CXL requester, to HBM at a machine physical address or to host memory (13 R327), and whether the
transfer is poisoned (17 R390, R391). -/
structure HostWrite where
  requester : Nat
  host : Bool
  addr : Nat
  bytes : List Byte
  poisoned : Bool
  deriving DecidableEq, Repr

/-- A read of a PCIe or CXL requester: of HBM at a machine physical address or of host memory (13 R327), or of a device
register in BAR0 of the physical function or of a VD's virtual function, `len` being the bytes it asks for (00 R9-R12). -/
inductive HostRead where
  | memory (requester : Nat) (host : Bool) (addr len : Nat)
  | pf (requester off len : Nat)
  | vf (requester vd off len : Nat)
  deriving DecidableEq, Repr

/-- An engine that KILL addresses (17 R402). -/
inductive Engine where
  | cores | copies | matrix | paging | systemCopy | queue | flue | stations | translation
  deriving DecidableEq, Repr

/-- What a request asks of a remote home (15 R356, R363): a write carries its byte enables as the bytes that it has, and the
provenance tag of its line if that is poisoned (17 R390). -/
inductive RemoteKind where
  | read (len : Nat)
  | write (bytes : List (Option Byte)) (poison : Option (BitVec 12))
  | atomic (op : BitVec 4) (wide : Bool) (operand compare : Word)
  deriving DecidableEq, Repr

/-- A fabric request (15 R357, R363): the station it travels on, the sender's accelerator and VD, the VD and VD-physical
address it asks for, and the sender's number for it, which the reply carries. -/
structure RemoteRequest where
  station : Nat
  source : Nat
  sourceVd : Nat
  vd : Nat
  addr : Nat
  tag : Nat
  kind : RemoteKind
  deriving DecidableEq, Repr

/-- A response from a remote home (15 R364): its bytes and, for poison, its tag, of which the requester keeps the record
(17 R391); a write's acknowledgment; or a refusal. -/
inductive RemoteReply where
  | data (bytes : List Byte) (poison : Option (BitVec 12))
  | done
  | refused
  deriving DecidableEq, Repr

/-- The state of a station (15 R359). -/
inductive StationState where
  | down | training | up | failed
  deriving DecidableEq, Repr

/-- What a flue engine tells a neighbour of a partition (14 R350): C, none when the partition has no state; the ghost width of the
slab that the neighbour fills; the partition's extents; whether its NBR on that face names the neighbour (R354), and
whether it asks the neighbour for the same (log 84). -/
structure FlueNote where
  steps : Option Nat
  width : Nat
  ext : List Nat
  names : Bool
  ask : Bool
  deriving DecidableEq, Repr

/-- Where a flue message goes (14 R350, 15 R363): the sender's VD, die and grid, the VD and the partition's die and grid at the
receiver, and the face there. -/
structure FlueDest where
  sourceVd : Nat
  sourceDie : Nat
  sourceGrid : Nat
  vd : Nat
  die : Nat
  grid : Nat
  face : Nat
  deriving DecidableEq, Repr

/-- Transaction-layer content (15 R356, R363): requests and replies, and the counters and pushes of flue engines (14 R350), whose
cells carry their tags. -/
inductive FlitContent where
  | request (r : RemoteRequest)
  | reply (tag : Nat) (r : RemoteReply)
  | counter (dest : FlueDest) (note : FlueNote)
  | push (dest : FlueDest) (step : Nat) (cells : List (Byte × Option (BitVec 12)))
  deriving DecidableEq, Repr

/-- A push that a flue engine moves (14 R350): one of the partition's own, or one that arrives from another accelerator in plaintext,
with its step and its cells. -/
inductive FlueMove where
  | move (push : Nat)
  | arrive (station source : Nat) (dest : FlueDest) (step : Nat) (cells : List (Byte × Option (BitVec 12)))
  deriving DecidableEq, Repr

/-- What a sealed flit carries, by its KIND (15 R368): DATA, a MARKER with N, or an ACK with B and M. -/
inductive FlitBody where
  | data (c : FlitContent)
  | marker (n : Nat)
  | ack (base : Nat) (bitmap : BitVec 64)
  deriving DecidableEq, Repr

/-- A flit of a sealed channel as it arrives (15 R370): SEQ, GEN, whether it authenticates, and what it carries. -/
structure Flit where
  seq : Nat
  gen : Bool
  genuine : Bool
  body : FlitBody
  deriving DecidableEq, Repr

/-- What the comparison of a paired execution finds (11 R290, 17 R398): the elements that differ at first, and those that differ
still after the retry. -/
structure PairDiffer where
  differ : List Nat
  still : List Nat
  deriving DecidableEq, Repr

/-- The end of a load (04 R120): its operation, and whether the integrity tag of the first HBM sector that it read does not match
(17 R395). -/
structure LoadEnd where
  op : Nat
  mismatch : Bool
  deriving DecidableEq, Repr

/-- The end of a matrix-unit operation (11 R290): its operation, and what the comparison of its paired executions finds. -/
structure TileEnd where
  op : Nat
  differ : PairDiffer
  deriving DecidableEq, Repr

/-- A storage error that a read finds (04 R119, 17 R390, R391, R395, 19 R422, R430): in register n of a warp's lane, in one copy or
in both; in a scalar register, a thread's predicate file, an accumulator element, a scratchpad word; in an HBM sector, correctable or
not, or uncorrectable in one that holds table entries of a VD; in a line that an LLC holds or in one of die scratch; in an
instruction of a control core; in every copy of a journal entry of a pair; or in a byte that the paging engine or a system copy engine has
just moved. `mismatch` is an integrity tag that does not match in a sector that work of a VD reads by another way than a load (17
R395), and `failed` the failure of a core or of a control core that the fault pair attributes to the gang of a workgroup, with the cause
that the gang ends with (17 R396; log 94). -/
inductive Upset where
  | register (g w n lane : Nat) (both : Bool)
  | scalar (a : AgentId) (r : Nat)
  | preds (g w lane : Nat)
  | accumulator (core row elem : Nat)
  | scratch (g off : Nat)
  | sector (addr : Nat) (corrected : Bool)
  | table (vd addr : Nat)
  | cache (addr : Nat)
  | carve (vd die off : Nat)
  | instruction (core : Nat)
  | journal (pair seq : Nat)
  | mover (addr : Nat)
  | mismatch (vd addr : Nat)
  | failed (g : Nat) (cause : BitVec 8)
  deriving DecidableEq, Repr

end Sys2Proof
end

