-- ==== Sys2Proof/Syntax.lean ====
section
/-! DEFINITION. The instructions and events of spec/opcode_table.json, one constructor for each of its rows. -/

namespace Sys2Proof

/-- One constructor for each row of the opcode table: device events (rows 0 to 124, 440, 441), general instructions
(rows 125 to 336) and compact and short encodings (rows 337 to 439). -/
inductive Instr where
  /-- PACKAGE_RESET (R22): A package reset in any power state wipes the device and starts a cold boot in BOOTING. -/
  | packageReset
  /-- BOOT_PHASE_COMPLETE (R22): A cold-boot phase ends and PHASE advances, or PHASE takes a failure code and the module stays in BOOTING. -/
  | bootPhaseComplete (b : BootStep)
  /-- PCIE_CONFIG_REQUEST (R23): A configuration request is answered with Request Retry Status until phase 0x02 ends, and normally after that. -/
  | pcieConfigRequest
  /-- ENTER_BANKED (R28): PWRCTL.REQ = 1 moves ACTIVE to ENTERING and starts banked entry; in every other state it is ignored. -/
  | enterBanked
  /-- LEAVE_BANKED (R30): PWRCTL.REQ = 2 starts the exit from BANKED, or is recorded during ENTERING; in every other state it is ignored. -/
  | leaveBanked
  /-- BANKED_ENTRY_COMPLETE (R28): Banked entry finishes, STATE becomes BANKED, BANKCNT counts, and any exit recorded during ENTERING begins. -/
  | bankedEntryComplete
  /-- BANKED_EXIT_COMPLETE (R30): Exit finishes retraining, margin planning and journal restore, resumes the saved VDs, STATE becomes ACTIVE, and the scheduler scans the pending-kick bitmap. -/
  | bankedExitComplete (needs : List (Nat × Nat))
  /-- POWER_WINDOW_END (R21): At the end of each 1 ms averaging window, the controller withholds issue slots while the average exceeds the cap. -/
  | powerWindowEnd (watts : Nat)
  /-- THERMAL_SAMPLE (R33): A 10 ms sample of the hottest compute-die sensor may count a thermal cycle in THCYC. -/
  | thermalSample (deg : Int)
  /-- POWER_ON_HOUR (R33): Each hour spent outside the off state increments PONHRS. -/
  | powerOnHour
  /-- HBM_REFRESH_RAISE (R33): A stack raises its refresh rate because of temperature, and HBMESC counts it. -/
  | hbmRefreshRaise
  /-- SPDM_REQUEST (R27): The security core answers an SPDM 1.3 request received over DOE or MCTP, or returns ERROR. -/
  | spdmRequest (r : SpdmRequest)
  /-- MEASUREMENT_REQUEST (R26): A host driver measurement request extends one of MEAS8 to MEAS15 with a digest. -/
  | measurementRequest (n : BitVec 4) (digest : BitVec 512)
  /-- LIFE_CYCLE_CHANGE (R34): A signed life-cycle request makes the security core wipe, erase the training records, blow the fuses and reset the package. -/
  | lifeCycleChange (r : LifeCycleRequest)
  /-- CREATE (R47): The PF command CREATE allocates queues and quota for a FREE VD and moves it to CREATING, or completes NOSPACE or INVALID. -/
  | create
  /-- CREATE_COMPLETE (R41): Once stage 2, the key slot and the IRT entries are ready, the VD becomes LIVE and CREATE completes OK. -/
  | createComplete (vd : Nat) (found : Bool)
  /-- DESTROY (R48): The PF command DESTROY disables the queues, invalidates endpoints and kills the VD's engines; in RESETTING it only sets DESTROYPEND. -/
  | destroy
  /-- DESTROY_DRAINED (R41): Once every engine reports DRAINED and translations are invalid, a DESTROYING VD moves to WIPING and DESTROY completes OK. -/
  | destroyDrained (vd : Nat)
  /-- WIPE_COMPLETE (R35): The last frame of a WIPING VD is wiped, and the VD becomes FREE. -/
  | wipeComplete (vd : Nat)
  /-- RESET (R407): The PF command RESET starts a scoped reset of the VD, or is absorbed by a reset that is already running. -/
  | reset
  /-- SETSHARE (R84): The PF command SETSHARE changes the selected WEIGHT, SLICE, damper and CORES fields of a VD. -/
  | setshare
  /-- QUERY (R46): The PF command QUERY writes the VD's state, queues and resident HBM into VDCMDBUF words 1 and 2. -/
  | query
  /-- SHAREMAP (R49): The PF command SHAREMAP fills a shared slot if needed and maps its frames read-only into a LIVE VD. -/
  | sharemap
  /-- SHAREMAP_COMPLETE (R49): Once the copy into a new shared slot ends, its pages are mapped, the slot's count rises and the command completes. -/
  | sharemapComplete (slot : Nat)
  /-- RESETREQ (R407): A write of VDCTL.RESETREQ = 1 starts a scoped reset of the VD. -/
  | resetreq (vd : Nat)
  /-- ASHPIT_DUMP_DONE (R409): The ashpit dump has been written, or skipped, so the VD moves to RESETTING and KILL is issued on every engine. -/
  | ashpitDumpDone (vd : Nat)
  /-- RESET_DRAINED (R407): Every engine has reported DRAINED, so translations are invalidated and state is cleared and, under WIPE, wiped. -/
  | resetDrained (vd : Nat)
  /-- RESET_REARM (R407): The queues are rearmed, RESETCNT and RESETDONE are updated, and the VD returns to LIVE or, under DESTROYPEND, moves to DESTROYING. -/
  | resetRearm (vd : Nat)
  /-- QUEUE_ENABLE (R58): A write of QCFG.EN = 1 enables a queue with zeroed indices, or is refused with CFGERR or ignored while the queue is STOPPING. -/
  | queueEnable (q : Nat) (value : BitVec 32)
  /-- QUEUE_DISABLE (R59): A write of QCFG.EN = 0 moves the queue to STOPPING and discards records that have not started. -/
  | queueDisable (q : Nat) (value : BitVec 32)
  /-- QUEUE_STOPPED (R59): When no record of a STOPPING queue is still in flight, the queue becomes DISABLED. -/
  | queueStopped (q : Nat)
  /-- KICK (R62): A 32-bit write to KTAIL stores the tail latch and sets the queue's pending-kick bit, in any state including BANKED. -/
  | kick (q : Nat) (value : BitVec 32)
  /-- KCCONS_WRITE (R72): Software records consumed completions, which frees ring room; an out-of-range value is ignored. -/
  | kcconsWrite (q : Nat) (value : BitVec 32)
  /-- FAULT_QUEUE_ENABLE (R306): A write of FQCFG.EN = 1 enables fault posting with zeroed indices, or is refused with CFGERR. -/
  | faultQueueEnable (vd : Nat) (value : BitVec 32)
  /-- FQCONS_WRITE (R307): Software records consumed fault records, which frees ring room for waiting posts; an out-of-range value is ignored. -/
  | fqconsWrite (vd : Nat) (value : BitVec 32)
  /-- FAULT_RETRY (R313): An FQRESP answer with ABORT = 0 makes the parked parts of the record walk again. -/
  | faultRetry (vd : Nat) (index : BitVec 32)
  /-- FAULT_ABORT (R313): An FQRESP answer with ABORT = 1 makes the parked lanes trap PERMISSION, ends parked sectors in error and withdraws sibling parts from other records. -/
  | faultAbort (vd : Nat) (index : BitVec 32)
  /-- FQRESP_ABORT_STORE (R309): A 32-bit write to FQRESP bits 63:32 stores ABORT for later low-half answers and answers nothing. -/
  | fqrespAbortStore (vd : Nat) (abort : Bool)
  /-- DIE_SCRATCH_REQUEST (R235): A write of DSCFG.REQ asks for a die-scratch share; a request that cannot be granted sets DSERR. -/
  | dieScratchRequest (vd : Nat) (value : BitVec 32)
  /-- DIE_SCRATCH_GRANT (R235): GRANT takes the requested value, with added space zeroed and released space wiped. -/
  | dieScratchGrant (vd : Nat)
  /-- ASHBASE_WRITE (R404): A nonzero ASHBASE makes the ashpit resident and pinned, or sets NOASH when that is not possible. -/
  | ashbaseWrite (vd : Nat) (value : Word)
  /-- CHECKPOINT (R415): CKCTL.GO with OP = 0 checks the descriptor, arms CBW on the regions and zeroes the slot's manifests. -/
  | checkpoint (vd : Nat) (value : BitVec 32)
  /-- CHECKPOINT_ARMED (R415): Once every CBW completion point has passed, ARMED reads 1 and the regions are copied, narrowed and striped to the holders. -/
  | checkpointArmed (vd : Nat)
  /-- CHECKPOINT_COMMIT (R415): Once every unit has reached its ordering point, the manifests are written, DONE is set and the generation is committed. -/
  | checkpointCommit (vd : Nat) (answered : Bool)
  /-- RESTORE (R418): CKCTL.GO with OP = 1 reads the manifests, chooses the newest valid generation and rebuilds the image from its units. -/
  | restore (vd : Nat) (value : BitVec 32) (parts : List (Nat × List (Byte × Option (BitVec 12))))
  /-- RESTORE_COMPLETE (R418): The restored writes reach their ordering points, CKGEN takes the generation and DONE is set. -/
  | restoreComplete (vd : Nat)
  /-- PARTCFG_WRITE (R80): A write that changes MODE is taken only while every VD is FREE, and is otherwise refused with REFUSED set. -/
  | partcfgWrite (value : BitVec 32)
  /-- FWLOG_CLEAR (R81): A write of FWCTLd.CLR = 1 zeroes FWLOGd. -/
  | fwlogClear (die : Nat) (value : BitVec 32)
  /-- DSCARVE_WRITE (R233): A write that changes MIB is clamped at 256 and taken only while every VD is FREE, and is otherwise refused with REFUSED set. -/
  | dscarveWrite (die : Nat) (value : BitVec 32)
  /-- FABCFG_WRITE (R358): A write sets the fabric configuration; ACCID is taken only while every VD is FREE. -/
  | fabcfgWrite (value : BitVec 32)
  /-- PORT_ENABLE (R371): A write of PCFGn.EN = 1 enables an Ethernet port, or is refused with CFGERR set. -/
  | portEnable (n : Nat) (value : BitVec 32)
  /-- PORT_DISABLE (R371): A write of PCFGn.EN = 0 stops the port once the frame in progress ends. -/
  | portDisable (n : Nat) (value : BitVec 32)
  /-- PTXTAIL_WRITE (R373): Software posts transmit descriptors, which the port sends as frames. -/
  | ptxtailWrite (n : Nat) (value : BitVec 32)
  /-- PRXTAIL_WRITE (R373): Software posts receive descriptors for incoming frames. -/
  | prxtailWrite (n : Nat) (value : BitVec 32)
  /-- FRAME_SENT (R373): The port finishes sending a frame, sets DONE and ERR in its descriptor and advances PTXHEAD. -/
  | frameSent (n : Nat) (bad : Bool)
  /-- FRAME_RECEIVED (R373): An incoming frame is written into the next posted receive descriptor, or dropped when none is posted. -/
  | frameReceived (n : Nat) (bytes : List Byte) (bad : Bool)
  /-- REGISTER_WRITE (R9): A write to a register with no row of its own applies its access codes, its reserved bits and R12. -/
  | registerWrite (w : RegAccess)
  /-- HOST_WRITE (R327): A PCIe or CXL write reaches the LLC home in requester order, revokes ownership and acts as a tracked store where R300 applies. -/
  | hostWrite (w : HostWrite)
  /-- HOST_READ (R327): A host read returns the value at the home or the owner's forwarded value, after the requester's earlier tracked writes. -/
  | hostRead (r : HostRead)
  /-- DISPATCH_DECISION (R86): The scheduler picks the backlogged VD with the least VT and places one workgroup, gang or resumed image on eligible cores. -/
  | dispatchDecision (part : Nat) (cores : List Nat)
  /-- SLICE_END (R88): A VD's slice ends on a core, and the core either pre-empts its workgroups or charges VT and starts a new slice. -/
  | sliceEnd (vd core : Nat)
  /-- DAMPER_WINDOW_END (R89): A 10 µs damper window ends, carrying any excess forward and releasing the requests that were waiting. -/
  | damperWindowEnd (vd : Nat)
  /-- BANK_POWER_GATE (R95): A core-store bank unused for 10,000 clk is written back and power-gated. -/
  | bankPowerGate (core bank : Nat)
  /-- FORWARD_PROGRESS_SWAP (R127): A core idle for N clk swaps out one swappable workgroup and records its wake condition. -/
  | forwardProgressSwap (core : Nat)
  /-- QUEUE_WATCHDOG (R70): The head record outlives WDOG, so HUNG is set and the fault pair acts by WDACT. -/
  | queueWatchdog (q : Nat)
  /-- SEMPOLL_TICK (R69): Every SEMPOLL µs, waiting WAITSEM conditions are evaluated again. -/
  | sempollTick (vd : Nat)
  /-- WAITSEM_TIMEOUT (R68): A WAITSEM's timeout expires, and the record completes with TIMEOUT. -/
  | waitsemTimeout (q : Nat)
  /-- LAUNCH_RECORD_COMPLETE (R68): A LAUNCH record's grid tree has ended with its writes ordered, so the queue's done bit is set. -/
  | launchRecordComplete (q : Nat) (index : BitVec 32)
  /-- SYSTEM_COPY_COMPLETE (R68): A COPY record's last byte reaches its ordering point, so the record completes. -/
  | systemCopyComplete (q : Nat) (index : BitVec 32)
  /-- FENCEQ_COMPLETE (R68): The writes of every earlier record have reached their ordering points, so the FENCEQ completes. -/
  | fenceqComplete (q : Nat) (index : BitVec 32)
  /-- WORKGROUP_END (R191): Once all of its warps and its stoker thread have ended with zero counters, the workgroup frees its core store. -/
  | workgroupEnd (g : Nat)
  /-- GRID_END (R96): Every workgroup of a grid has ended, so its pending-launch entry is freed and DEPEND children become placeable. -/
  | gridEnd (grid : Nat)
  /-- LOAD_COMPLETE (R121): A counted load's lanes write their destinations, and CNTLD completes it in issue order. -/
  | loadComplete (a : AgentId) (op : LoadEnd)
  /-- STORE_ORDERING_POINT (R320): A store, scatter or engine write reaches its ordering point and completes for CNTST. -/
  | storeOrderingPoint (a : AgentId) (op : Nat)
  /-- TRACKED_STORE_COMPLETE (R300): The home has invalidated the derived translations and drained their users, so it acknowledges the tracked store. -/
  | trackedStoreComplete (a : AgentId) (op : Nat)
  /-- WAIT_RESUME (R194): The dependence counters fall within a stalled WAIT's limits, so the head proceeds. -/
  | waitResume (a : AgentId)
  /-- BWAIT_COMPLETE (R333): A barrier phase completion satisfies a waiting BWAIT, which acquires. -/
  | bwaitComplete (a : AgentId)
  /-- MWAIT_REREAD (R334): A write to the watched line, or a 1 µs interval, re-reads the MWAIT word and completes it when the comparison holds. -/
  | mwaitReread (a : AgentId)
  /-- QPOP_RESUME (R339): An entry becomes available, so a waiting QPOP reserves it and copies it out. -/
  | qpopResume (a : AgentId)
  /-- QPUSH_RESUME (R339): Room appears in the queue, so a waiting QPUSH reserves and fills an entry. -/
  | qpushResume (a : AgentId)
  /-- QUEUE_OP_COMPLETE (R337): A push or pop finishes moving its entry, so PCOM or CCOM advances and CNTCP completes it. -/
  | queueOpComplete (a : AgentId) (op : Nat)
  /-- TAG_WAIT_COMPLETE (R267): The tag condition of a TWANY or TWALL holds, so it completes 2 clk later as an acquire. -/
  | tagWaitComplete (a : AgentId)
  /-- GSTEP_RESUME (R349): The round being counted reaches the attachment's ROUND, so the waiting GSTEP arrival is counted. -/
  | gstepResume (a : AgentId)
  /-- VLDSTEP_WAKE (R248): The waiting VLDSTEP lanes observe a retag with T at least r and load the data of that step. -/
  | vldstepWake (a : AgentId) (op : Nat)
  /-- HALO_WAIT_EXPIRE (R248): HALOWAIT.LIMIT clk pass with the slab still stale, so the waiting lanes take HALO_STALE. -/
  | haloWaitExpire (a : AgentId) (op : Nat)
  /-- COPY_SECTOR_COMPLETE (R266): A copy sector reaches its ordering point and credits its bytes to the barrier, or meets a cause and ends the copy in error. -/
  | copySectorComplete (g op sector : Nat)
  /-- COPY_COMPLETE (R266): The last sector is credited, so the locks are removed and then the tag and CNTCP are updated. -/
  | copyComplete (g op : Nat)
  /-- COPY_DEFERRED_START (R265): A copy that waited for a conflicting engine operation, or for queue room under Q, starts. -/
  | copyDeferredStart (g op : Nat)
  /-- STREAM_PUSH (R269): Queue room lets a stream read its next element and push it as one entry; the last push completes the stream. -/
  | streamPush (g slot : Nat)
  /-- MATRIX_OP_START (R284): An accepted matrix-unit operation that waited for a queue entry, a conflicting copy or earlier parked rows starts its gather and computation. -/
  | matrixOpStart (core : Nat)
  /-- TILE_OP_COMPLETE (R282): A matrix or ACC operation has written its rows or registers, sets its flags and completes for CNTTL. -/
  | tileOpComplete (core : Nat) (op : TileEnd)
  /-- FAULT_POST_RESUME (R312): A waiting fault post gains ring room or a resident ring page and writes its record, or clears EN on a ring fault. -/
  | faultPostResume (vd : Nat)
  /-- PAGE_MIGRATION_COMPLETE (R314): The paging engine finishes copying a page, evicting first if needed, and writes the stage-2 leaf present as a tracked store. -/
  | pageMigrationComplete (vd page : Nat)
  /-- PARKED_REPLAY (R317): After resolution, only the parked lanes, sectors or rows are performed again with a new walk. -/
  | parkedReplay (vd page : Nat)
  /-- HANDLER_ENTRY (R378): Once the halt has settled, a warp saves its frontier block and enters its trap or slice handler with the trap record. -/
  | handlerEntry (g : Nat)
  /-- ASYNC_TRAP (R377): A failed copy, stream, flue push or remote write delivers PERMISSION to the workgroup's delivery warp. -/
  | asyncTrap (g : Nat)
  /-- SLICE_BUDGET_EXPIRE (R382): SLICEBUD runs out before every slice handler has returned, so the warps are halted for a forced save. -/
  | sliceBudgetExpire (g : Nat)
  /-- CONTEXT_SAVE (R384): Once the workgroup's outstanding work has completed or parked, its image is written to the save area. -/
  | contextSave (g : Nat)
  /-- GANG_KILL (R396): Every member of a gang is halted and released, and its engine operations are killed and drained. -/
  | gangKill (g : Nat)
  /-- GANG_RELAUNCH (R397): Once the drained operations report DRAINED, a killed relaunchable gang restarts ahead of the VD's other workgroups. -/
  | gangRelaunch (grid gang : Nat)
  /-- ENGINE_DRAINED (R402): An engine finishes dropping a killed VD's work and reports DRAINED. -/
  | engineDrained (vd : Nat) (e : Engine)
  /-- SHARED_FRAME_REPAIR (R401): The fault pair rewrites or replaces a poisoned shared read-only frame and rewrites each VD's leaf. -/
  | sharedFrameRepair (slot page : Nat) (readable persistent : Bool)
  /-- IRQ_COALESCE_TIMEOUT (R74): CTIME µs after the first pending request of an IRT entry, the coalesced message is sent. -/
  | irqCoalesceTimeout (entry : Nat)
  /-- REMOTE_REQUEST (R363): A fabric request for a local VD is served or refused after the LIVE and endpoint checks. -/
  | remoteRequest (r : RemoteRequest)
  /-- REMOTE_RESPONSE (R364): A response from a remote home completes a remote load, atomic or write. -/
  | remoteResponse (id : Nat) (r : RemoteReply)
  /-- REMOTE_LOAD_TIMEOUT (R364): A remote load has no response after 2 ms, so its lane takes PERMISSION. -/
  | remoteLoadTimeout (id : Nat)
  /-- REMOTE_WRITE_FAILURE (R366): A sent write is refused or times out, so its bytes are discarded and PERMISSION is delivered or logged. -/
  | remoteWriteFailure (id : Nat)
  /-- WC_AGE_FLUSH (R365): AGE passes since a write-combining entry was allocated, so the entry is sent. -/
  | wcAgeFlush (core : Nat) (entry : Nat)
  /-- STATION_STATE_CHANGE (R357): A station comes up or fails, and its outstanding requests are resent on the replacement station. -/
  | stationStateChange (n : Nat) (state : StationState)
  /-- CHANNEL_SEAL (R367): The security cores finish establishing keys and salts, and the channel becomes sealed. -/
  | channelSeal (station peer : Nat)
  /-- SEALED_FLIT_RECEIVE (R370): The receiver authenticates a sealed flit and resequences and delivers it, or applies an ACK, or discards it. -/
  | sealedFlitReceive (station peer : Nat) (f : Flit)
  /-- SEALED_ACK_TIMER (R370): Every 1 µs while flits are held or newly delivered, the receiver sends an ACK. -/
  | sealedAckTimer (station peer : Nat)
  /-- FLIT_RESEND_TIMEOUT (R369): A flit unacknowledged for 10 µs is resent byte for byte. -/
  | flitResendTimeout (station peer : Nat)
  /-- KEY_ROLLOVER (R369): Before the key limit, the next key is loaded and a MARKER fixes the switch point. -/
  | keyRollover (station peer : Nat)
  /-- FLUE_PUSH (R350): Once the receiver's C reaches the step, a partition's cells are pushed into the neighbour's ghost slab. -/
  | fluePush (die part : Nat) (push : FlueMove)
  /-- SLAB_RETAG (R350): Once every write of a slab has reached its ordering point, the slab is tagged (1, S) as a release. -/
  | slabRetag (die : Nat) (part face : Nat)
  /-- FLUE_COUNTER_UPDATE (R350): A neighbour's step counter arrives and may release waiting pushes. -/
  | flueCounterUpdate (station source : Nat) (dest : FlueDest) (note : FlueNote)
  /-- GSTEP_CREDIT (R349): Once a round's exchange has read its sources, the read locks are removed and the barrier is credited. -/
  | gstepCredit (die part : Nat)
  /-- FLUE_STATE_DELETE (R353): A partition state with no attachment is deleted once its own pushes have completed. -/
  | flueStateDelete (die part : Nat)
  /-- HEARTBEAT_EXPIRE (R430): An active control core writes no HBEAT for 100 µs, which raises machine check code 4. -/
  | heartbeatExpire (core : Nat)
  /-- TAKEOVER_HANDOVER (R431): After a pair's machine check, holds and lost kicks are set, and the standby becomes active with IPEND.TAKE set. -/
  | takeoverHandover (pair : Nat)
  /-- CONTROL_TIMER_TICK (R421): The 100 µs tick sets IPEND.TIMER. -/
  | controlTimerTick
  /-- CORE_RELOAD_COMPLETE (R431): The security core finishes reloading a failed control core, which becomes the standby. -/
  | coreReloadComplete (core : Nat) (image : List Byte) (works : Bool)
  /-- SECURITY_CORE_RESTART (R432): After a machine check, the security core restarts from ROM and resumes its deferred services. -/
  | securityCoreRestart (image : SignedImage)
  /-- FUSED_SOFTMAX (R170): Four adjacent instructions that meet the idiom execute as one indivisible operation. -/
  | fusedSoftmax (o : FusedOp)
  /-- NOP (R190): No effect. -/
  | nop
  /-- EXIT (R191): Marks the head's threads exited, and may release WSYNC groups or issue a convergence operation. -/
  | exit
  /-- YIELD (R190): Defers the warp's next issue. -/
  | yield
  /-- TRAP (R192): Raises SOFTWARE with a 16-bit code. -/
  | trap (code : BitVec 16)
  /-- TRET (R380): Returns from a trap or slice handler and restores the frontier. -/
  | tret
  /-- PRIO (R193): Sets the priority of the head's threads. -/
  | prio (n : BitVec 3)
  /-- WAIT (R194): Stalls until the four dependence counters are within their limits. -/
  | wait (o : WaitOp)
  /-- LAUNCH (R195): Releases, then queues a child grid and writes its status. -/
  | launch (sd sa : Reg)
  /-- HALT (R196): Stops a control core. -/
  | halt
  /-- WFI (R196): Waits until IPEND is nonzero. -/
  | wfi
  /-- SRD (R197): Reads a special register into a scalar register. -/
  | srd (sd : Reg) (num : BitVec 12)
  /-- SWR (R197): Writes the writable fields of a special register. -/
  | swr (sa : Reg) (num : BitVec 12)
  /-- SADD (R181): 64-bit add. -/
  | sadd (o : GS)
  /-- SSUB (R181): 64-bit subtract. -/
  | ssub (o : GS)
  /-- SMUL (R181): Low 64 bits of the product. -/
  | smul (o : GS)
  /-- SMULH_S (R181): High half of the signed product. -/
  | smulhS (o : GS)
  /-- SMULH_N (R181): High half of the unsigned product. -/
  | smulhN (o : GS)
  /-- SDIV_S (R181): Signed quotient. -/
  | sdivS (o : GS)
  /-- SDIV_N (R181): Unsigned quotient. -/
  | sdivN (o : GS)
  /-- SREM_S (R181): Signed remainder. -/
  | sremS (o : GS)
  /-- SREM_N (R181): Unsigned remainder. -/
  | sremN (o : GS)
  /-- SAND (R181): Bitwise AND. -/
  | sand (o : GS)
  /-- SOR (R181): Bitwise OR. -/
  | sor (o : GS)
  /-- SXOR (R181): Bitwise XOR. -/
  | sxor (o : GS)
  /-- SANDN (R181): AND with the complement of sb. -/
  | sandn (o : GS)
  /-- SSHL (R181): Shift left. -/
  | sshl (o : GS)
  /-- SSHR_S (R181): Arithmetic shift right. -/
  | sshrS (o : GS)
  /-- SSHR_N (R181): Logical shift right. -/
  | sshrN (o : GS)
  /-- SROTR (R181): Rotate right. -/
  | srotr (o : GS)
  /-- SMIN_S (R181): Signed minimum. -/
  | sminS (o : GS)
  /-- SMIN_N (R181): Unsigned minimum. -/
  | sminN (o : GS)
  /-- SMAX_S (R181): Signed maximum. -/
  | smaxS (o : GS)
  /-- SMAX_N (R181): Unsigned maximum. -/
  | smaxN (o : GS)
  /-- SCLZ (R181): Count leading zeros. -/
  | sclz (o : GS)
  /-- SFFS (R181): Index of the lowest set bit. -/
  | sffs (o : GS)
  /-- SPOPC (R181): Population count. -/
  | spopc (o : GS)
  /-- SBREV (R181): Bit reversal. -/
  | sbrev (o : GS)
  /-- SSEL (R181): Conditional select of sc into sd. -/
  | ssel (o : GS)
  /-- SCMP (R181): Writes a comparison result. -/
  | scmp (o : GS)
  /-- SEXT (R182): Sign or zero extension from 8, 16 or 32 bits. -/
  | sext (o : GS)
  /-- SMOV (R181): Register move. -/
  | smov (o : GS)
  /-- SBFX (R182): Bit-field extract. -/
  | sbfx (o : GS)
  /-- SBFI (R182): Bit-field insert. -/
  | sbfi (o : GS)
  /-- SMAD (R181): Multiply-add. -/
  | smad (o : GS)
  /-- SADDI (R183): Add an immediate. -/
  | saddi (o : GSI)
  /-- SANDI (R183): AND with an immediate. -/
  | sandi (o : GSI)
  /-- SORI (R183): OR with an immediate. -/
  | sori (o : GSI)
  /-- SXORI (R183): XOR with an immediate. -/
  | sxori (o : GSI)
  /-- SSHLI (R183): Shift left by an immediate. -/
  | sshli (o : GSI)
  /-- SSHRI_S (R183): Arithmetic shift right by an immediate. -/
  | sshriS (o : GSI)
  /-- SSHRI_N (R183): Logical shift right by an immediate. -/
  | sshriN (o : GSI)
  /-- SLI (R183): Loads a sign-extended immediate. -/
  | sli (o : GSI)
  /-- SLIH (R183): Loads an immediate into the high 32 bits. -/
  | slih (o : GSI)
  /-- SCMPI (R183): Compares with an immediate. -/
  | scmpi (o : GSI)
  /-- BR (R184): Uniform branch. -/
  | br (o : GB)
  /-- BRZ (R184): Branches if the register is zero. -/
  | brz (o : GB)
  /-- BRNZ (R184): Branches if the register is nonzero. -/
  | brnz (o : GB)
  /-- BRC (R184): Branches on a condition. -/
  | brc (o : GB)
  /-- CALL (R184): Branches and links. -/
  | call (o : GB)
  /-- JMPR (R185): Register-indirect jump. -/
  | jmpr (o : GB)
  /-- CALLR (R185): Register-indirect call. -/
  | callr (o : GB)
  /-- RET (R184): Returns to the address in a register. -/
  | ret (o : GB)
  /-- BRP (R186): Per-thread predicated branch. -/
  | brp (o : GB)
  /-- LOOP (R184): Decrements a counter and branches while it is nonzero. -/
  | loop (o : GB)
  /-- SLD (R188): Scalar load. -/
  | sld (o : GSI)
  /-- SST (R188): Scalar store. -/
  | sst (o : GSI)
  /-- SATOM (R189): Scalar atomic. -/
  | satom (o : GS)
  /-- VADD (R206): Integer add. -/
  | vadd (o : GV)
  /-- VSUB (R206): Integer subtract. -/
  | vsub (o : GV)
  /-- VMUL (R206): Low half of the product. -/
  | vmul (o : GV)
  /-- VMULH (R206): High half of the product. -/
  | vmulh (o : GV)
  /-- VMAD (R206): Multiply-add. -/
  | vmad (o : GV)
  /-- VADDS (R206): Saturating add. -/
  | vadds (o : GV)
  /-- VSUBS (R206): Saturating subtract. -/
  | vsubs (o : GV)
  /-- VABSD (R206): Absolute difference. -/
  | vabsd (o : GV)
  /-- VMIN (R206): Minimum. -/
  | vmin (o : GV)
  /-- VMAX (R206): Maximum. -/
  | vmax (o : GV)
  /-- VAND (R206): Bitwise AND. -/
  | vand (o : GV)
  /-- VOR (R206): Bitwise OR. -/
  | vor (o : GV)
  /-- VXOR (R206): Bitwise XOR. -/
  | vxor (o : GV)
  /-- VANDN (R206): AND with the complement of vb. -/
  | vandn (o : GV)
  /-- VNOT (R206): Bitwise NOT. -/
  | vnot (o : GV)
  /-- VSHL (R206): Shift left. -/
  | vshl (o : GV)
  /-- VSHR (R206): Shift right. -/
  | vshr (o : GV)
  /-- VROTR (R206): Rotate right. -/
  | vrotr (o : GV)
  /-- VCLZ (R206): Count leading zeros. -/
  | vclz (o : GV)
  /-- VFFS (R206): Find first set bit. -/
  | vffs (o : GV)
  /-- VPOPC (R206): Population count. -/
  | vpopc (o : GV)
  /-- VBREV (R206): Bit reversal. -/
  | vbrev (o : GV)
  /-- VSEL (R207): Selects between va and vb by a predicate. -/
  | vsel (o : GV)
  /-- VCMP (R207): Writes a predicate from an integer comparison. -/
  | vcmp (o : GV)
  /-- VADDMIN (R206): Minimum of a saturated sum and vc. -/
  | vaddmin (o : GV)
  /-- VBFX (R207): Bit-field extract. -/
  | vbfx (o : GV)
  /-- VBFI (R207): Bit-field insert. -/
  | vbfi (o : GV)
  /-- VMOV (R206): Vector move. -/
  | vmov (o : GV)
  /-- VSRD (R207): Reads TID, LANE, QUAD or WARP. -/
  | vsrd (o : GV)
  /-- VINTI_VADD (R208): Adds an immediate. -/
  | vintiVadd (o : GVI)
  /-- VINTI_VAND (R208): ANDs an immediate. -/
  | vintiVand (o : GVI)
  /-- VINTI_VOR (R208): ORs an immediate. -/
  | vintiVor (o : GVI)
  /-- VINTI_VXOR (R208): XORs an immediate. -/
  | vintiVxor (o : GVI)
  /-- VINTI_VSHL (R208): Shifts left by an immediate. -/
  | vintiVshl (o : GVI)
  /-- VINTI_VSHR (R208): Shifts right by an immediate. -/
  | vintiVshr (o : GVI)
  /-- VINTI_VMIN (R208): Minimum with an immediate. -/
  | vintiVmin (o : GVI)
  /-- VINTI_VMAX (R208): Maximum with an immediate. -/
  | vintiVmax (o : GVI)
  /-- VINTI_VCMP (R208): Writes a predicate from a comparison with an immediate. -/
  | vintiVcmp (o : GVI)
  /-- VMOVI (R208): Moves an immediate. -/
  | vmovi (o : GVI)
  /-- VINTI_VADDMIN (R208): Minimum of a saturated immediate sum and vd. -/
  | vintiVaddmin (o : GVI)
  /-- FADD (R209): Floating-point add. -/
  | fadd (o : GV)
  /-- FSUB (R209): Floating-point subtract. -/
  | fsub (o : GV)
  /-- FMUL (R209): Floating-point multiply. -/
  | fmul (o : GV)
  /-- FFMA (R209): Fused multiply-add. -/
  | ffma (o : GV)
  /-- FFMS (R209): Fused multiply-subtract. -/
  | ffms (o : GV)
  /-- FMIN (R210): FMinNum. -/
  | fmin (o : GV)
  /-- FMAX (R210): FMaxNum. -/
  | fmax (o : GV)
  /-- FABS (R209): Clears the sign bit. -/
  | fabs (o : GV)
  /-- FNEG (R209): Inverts the sign bit. -/
  | fneg (o : GV)
  /-- FCMP (R211): Writes a predicate from a floating-point comparison. -/
  | fcmp (o : GV)
  /-- FCLASS (R212): One-hot class of the operand. -/
  | fclass (o : GV)
  /-- FSCALEB (R213): Scales by a power of two. -/
  | fscaleb (o : GV)
  /-- FRND (R213): Rounds to an integral value. -/
  | frnd (o : GV)
  /-- FDIV (R209): Correctly rounded divide. -/
  | fdiv (o : GV)
  /-- FADDMIN (R209): FMinNum of a rounded sum and vc. -/
  | faddmin (o : GV)
  /-- CVT (R218): Converts one element. -/
  | cvt (o : GV)
  /-- PACK (R219): Narrows and packs elements. -/
  | pack (o : GV)
  /-- UNPACK (R220): Widens one element, with an optional scale. -/
  | unpack (o : GV)
  /-- MXSCALE (R221): Forms microscaled blocks. -/
  | mxscale (o : GV)
  /-- VSHFL (R223): Reads from an indexed thread. -/
  | vshfl (o : GV)
  /-- VSHUP (R223): Shifts values up by o threads. -/
  | vshup (o : GV)
  /-- VSHDN (R223): Shifts values down by o threads. -/
  | vshdn (o : GV)
  /-- VROTW (R223): Rotates values across the warp. -/
  | vrotw (o : GV)
  /-- VBCAST (R223): Broadcasts thread k's value. -/
  | vbcast (o : GV)
  /-- VREDUCE (R224): Fixed-tree reduction over the warp. -/
  | vreduce (o : GV)
  /-- VSCAN (R224): Fixed-step inclusive scan. -/
  | vscan (o : GV)
  /-- QSWAP (R223): Exchanges values within a quad. -/
  | qswap (o : GV)
  /-- QBCAST (R223): Broadcasts within a quad. -/
  | qbcast (o : GV)
  /-- VBALLOT (R225): Gathers a predicate into a scalar mask. -/
  | vballot (o : GV)
  /-- VVOTE (R225): all, any or uni vote over a predicate. -/
  | vvote (o : GV)
  /-- VMATCH (R225): Lowest active thread holding an equal value. -/
  | vmatch (o : GV)
  /-- PAND (R227): Predicate AND. -/
  | pand (o : GV)
  /-- POR (R227): Predicate OR. -/
  | por (o : GV)
  /-- PXOR (R227): Predicate XOR. -/
  | pxor (o : GV)
  /-- PNOT (R227): Predicate NOT. -/
  | pnot (o : GV)
  /-- PSET (R227): Sets a predicate from a vector bit. -/
  | pset (o : GV)
  /-- PGET (R227): Copies the thread's predicates into a vector register. -/
  | pget (o : GV)
  /-- FRCP (R215): Reciprocal. -/
  | frcp (o : GV)
  /-- FRSQ (R215): Reciprocal square root. -/
  | frsq (o : GV)
  /-- FSQRT (R214): Correctly rounded square root. -/
  | fsqrt (o : GV)
  /-- FEXP2 (R215): 2 to the power a, or e to the power a with .e. -/
  | fexp2 (o : GV)
  /-- FLOG2 (R215): Base-2 logarithm. -/
  | flog2 (o : GV)
  /-- FSIN (R215): Sine. -/
  | fsin (o : GV)
  /-- FCOS (R215): Cosine. -/
  | fcos (o : GV)
  /-- FTANH (R215): Hyperbolic tangent. -/
  | ftanh (o : GV)
  /-- VLD (R245): Unit-stride vector load. -/
  | vld (o : GM)
  /-- VST (R245): Unit-stride vector store. -/
  | vst (o : GM)
  /-- VGATHER (R246): Indexed vector load. -/
  | vgather (o : GM)
  /-- VSCATTER (R246): Indexed vector store. -/
  | vscatter (o : GM)
  /-- VLDSTEP (R248): Step-tagged indexed load. -/
  | vldstep (o : GM)
  /-- VPREF (R247): Prefetches lines into L1. -/
  | vpref (o : GM)
  /-- VSPILL (R249): Spills a register to a compressed slot. -/
  | vspill (o : GM)
  /-- VFILL (R249): Fills a register from a spill slot. -/
  | vfill (o : GM)
  /-- VATOM (R252): Vector atomic that returns the old value. -/
  | vatom (o : GM)
  /-- VRED (R252): Vector atomic reduction with no return. -/
  | vred (o : GM)
  /-- FENCE (R331): Acquire, release or both. -/
  | fence (o : GS)
  /-- BINIT (R333): Initialises a barrier object. -/
  | binit (o : GS)
  /-- BARRIVE (R333): Releases, then arrives at a barrier and returns its token. -/
  | barrive (o : GS)
  /-- BWAIT (R333): Waits for a barrier phase flip, then acquires. -/
  | bwait (o : GS)
  /-- BTEST (R333): Tests for a barrier phase flip. -/
  | btest (o : GS)
  /-- WSYNC (R335): Synchronises a group of threads of one warp. -/
  | wsync (o : GS)
  /-- CVINIT (R336): Sets a convergence register's declared set. -/
  | cvinit (o : GS)
  /-- MWAIT (R334): Waits until a memory word meets a condition. -/
  | mwait (o : GS)
  /-- QPUSH (R339): Pushes an entry into a feed queue. -/
  | qpush (o : GV)
  /-- QPOP (R339): Pops a feed-queue entry, waiting if empty. -/
  | qpop (o : GV)
  /-- QPOPS (R339): Pops a feed-queue entry if one is available. -/
  | qpops (o : GV)
  /-- QSTAT (R340): Reads a feed queue's status. -/
  | qstat (o : GV)
  /-- MMA (R281): Signs a convergence register; the completing signature issues a gathered dense product. -/
  | mma (o : GMM)
  /-- MMAS (R283): Gathered product with structured-sparse A. -/
  | mmas (o : GMM)
  /-- MMAI (R281): Gathered integer product. -/
  | mmai (o : GMM)
  /-- MMAX (R281): Gathered microscaled product. -/
  | mmax (o : GMM)
  /-- AWIN (R286): Narrows a warp's accumulator window. -/
  | awin (o : GMM)
  /-- AZERO (R287): Zeroes 64 accumulator rows. -/
  | azero (o : GMM)
  /-- ALD (R288): Loads accumulator rows from memory. -/
  | ald (o : GMM)
  /-- AST (R288): Stores accumulator rows to memory. -/
  | ast (o : GMM)
  /-- ARSTAT (R289): Writes row statistics to vectors. -/
  | arstat (o : GMM)
  /-- CPY (R262): Starts a flat or layout-shaped bulk copy. -/
  | cpy (o : GK)
  /-- CPYG (R263): Starts a gathered-row copy. -/
  | cpyg (o : GK)
  /-- CPYZ (R262): Starts a zero fill. -/
  | cpyz (o : GK)
  /-- SEAL (R260): Seals or unseals a layout record. -/
  | sealRecord (o : GK)
  /-- STRDEF (R268): Loads a stream record into a slot. -/
  | strdef (o : GK)
  /-- STRRUN (R269): Starts the stream in a slot. -/
  | strrun (o : GK)
  /-- TWANY (R267): Waits for any masked tag. -/
  | twany (o : GK)
  /-- TWALL (R267): Waits for all masked tags. -/
  | twall (o : GK)
  /-- TFIRST (R267): Index of the lowest set masked tag. -/
  | tfirst (o : GK)
  /-- TCLR (R267): Clears masked tag bits. -/
  | tclr (o : GK)
  /-- GATTACH (R347): Attaches the workgroup to a partition state. -/
  | gattach (o : GK)
  /-- GSTEP (R349): Counts a step arrival and may trigger an exchange. -/
  | gstep (o : GK)
  /-- GSTAT (R352): Reads partition or slab state. -/
  | gstat (o : GK)
  /-- GDETACH (R353): Removes an attachment. -/
  | gdetach (o : GK)
  /-- KSCAN (R426): Takes the lowest set bit of a kick, done or sem bitmap. -/
  | kscan (o : GS)
  /-- JAPPEND (R427): Appends a journal entry. -/
  | jappend (o : GS)
  /-- JREAD (R427): Reads a journal word. -/
  | jread (o : GS)
  /-- VDRD (R428): Reads a VD table word. -/
  | vdrd (o : GS)
  /-- VDWR (R428): Writes a VD table word raw. -/
  | vdwr (o : GS)
  /-- QRD (R428): Reads a queue table word. -/
  | qrd (o : GS)
  /-- QWR (R428): Writes VD and LOCAL of a queue table entry. -/
  | qwr (o : GS)
  /-- IRTRD (R428): Reads an IRT entry. -/
  | irtrd (o : GS)
  /-- IRTWR (R428): Writes an IRT entry except HOLD. -/
  | irtwr (o : GS)
  /-- VDCMD_START (R428): Starts a work record, which performs its effect. -/
  | vdcmdStart (o : GS)
  /-- VDCMD_RETIRE (R429): Retires or stages a completed record. -/
  | vdcmdRetire (o : GS)
  /-- VDCMD_KILL (R402): Issues KILL for a VD and waits for DRAINED. -/
  | vdcmdKill (o : GS)
  /-- IRQSEND (R429): Requests an interrupt through an IRT entry. -/
  | irqsend (o : GS)
  /-- CHOLD (R429): Sets HOLD on IRT entries. -/
  | chold (o : GS)
  /-- CRELEASE (R429): Clears HOLD and writes staged completions. -/
  | crelease (o : GS)
  /-- C_MOV (R153): Compact VMOV. -/
  | cMov (o : CV)
  /-- C_ADD_S32 (R153): Compact VADD.s32. -/
  | cAddS32 (o : CV)
  /-- C_SUB_S32 (R153): Compact VSUB.s32. -/
  | cSubS32 (o : CV)
  /-- C_AND (R153): Compact VAND. -/
  | cAnd (o : CV)
  /-- C_OR (R153): Compact VOR. -/
  | cOr (o : CV)
  /-- C_XOR (R153): Compact VXOR. -/
  | cXor (o : CV)
  /-- C_SHL_N32 (R153): Compact VSHL.n32. -/
  | cShlN32 (o : CV)
  /-- C_SHR_N32 (R153): Compact VSHR.n32. -/
  | cShrN32 (o : CV)
  /-- C_FADD_F32 (R153): Compact FADD.f32. -/
  | cFaddF32 (o : CV)
  /-- C_FSUB_F32 (R153): Compact FSUB.f32. -/
  | cFsubF32 (o : CV)
  /-- C_FMUL_F32 (R153): Compact FMUL.f32. -/
  | cFmulF32 (o : CV)
  /-- C_FMIN_F32 (R153): Compact FMIN.f32. -/
  | cFminF32 (o : CV)
  /-- C_FMAX_F32 (R153): Compact FMAX.f32. -/
  | cFmaxF32 (o : CV)
  /-- C_MIN_S32 (R153): Compact VMIN.s32. -/
  | cMinS32 (o : CV)
  /-- C_MAX_S32 (R153): Compact VMAX.s32. -/
  | cMaxS32 (o : CV)
  /-- C_NOT (R153): Compact VNOT. -/
  | cNot (o : CV)
  /-- NOP_SHORT (R156): Short NOP. -/
  | nopShort
  /-- EXIT_SHORT (R156): Short EXIT. -/
  | exitShort
  /-- YIELD_SHORT (R156): Short YIELD. -/
  | yieldShort
  /-- TRAP_SHORT (R156): Short TRAP. -/
  | trapShort (code : BitVec 16)
  /-- TRET_SHORT (R156): Short TRET. -/
  | tretShort
  /-- PRIO_SHORT (R156): Short PRIO. -/
  | prioShort (n : BitVec 3)
  /-- HALT_SHORT (R156): Short HALT. -/
  | haltShort
  /-- WFI_SHORT (R156): Short WFI. -/
  | wfiShort
  /-- VADD_S32_SHORT (R157): Short VADD.s32. -/
  | vaddS32Short (o : SV3)
  /-- VSUB_S32_SHORT (R157): Short VSUB.s32. -/
  | vsubS32Short (o : SV3)
  /-- VMUL_S32_SHORT (R157): Short VMUL.s32. -/
  | vmulS32Short (o : SV3)
  /-- VMIN_S32_SHORT (R157): Short VMIN.s32. -/
  | vminS32Short (o : SV3)
  /-- VMAX_S32_SHORT (R157): Short VMAX.s32. -/
  | vmaxS32Short (o : SV3)
  /-- VMIN_N32_SHORT (R157): Short VMIN.n32. -/
  | vminN32Short (o : SV3)
  /-- VMAX_N32_SHORT (R157): Short VMAX.n32. -/
  | vmaxN32Short (o : SV3)
  /-- VAND_SHORT (R157): Short VAND. -/
  | vandShort (o : SV3)
  /-- VOR_SHORT (R157): Short VOR. -/
  | vorShort (o : SV3)
  /-- VXOR_SHORT (R157): Short VXOR. -/
  | vxorShort (o : SV3)
  /-- VSHL_N32_SHORT (R157): Short VSHL.n32. -/
  | vshlN32Short (o : SV3)
  /-- VSHR_N32_SHORT (R157): Short VSHR.n32. -/
  | vshrN32Short (o : SV3)
  /-- VSHR_S32_SHORT (R157): Short VSHR.s32. -/
  | vshrS32Short (o : SV3)
  /-- FADD_F32_SHORT (R157): Short FADD.f32. -/
  | faddF32Short (o : SV3)
  /-- FSUB_F32_SHORT (R157): Short FSUB.f32. -/
  | fsubF32Short (o : SV3)
  /-- FMUL_F32_SHORT (R157): Short FMUL.f32. -/
  | fmulF32Short (o : SV3)
  /-- FMIN_F32_SHORT (R157): Short FMIN.f32. -/
  | fminF32Short (o : SV3)
  /-- FMAX_F32_SHORT (R157): Short FMAX.f32. -/
  | fmaxF32Short (o : SV3)
  /-- FADD_BF16X2_SHORT (R157): Short FADD.bf16x2. -/
  | faddBf16x2Short (o : SV3)
  /-- FMUL_BF16X2_SHORT (R157): Short FMUL.bf16x2. -/
  | fmulBf16x2Short (o : SV3)
  /-- VSEL_SHORT (R157): Short VSEL; the p field names the selector. -/
  | vselShort (o : SV3)
  /-- VSHFL_SHORT (R157): Short VSHFL. -/
  | vshflShort (o : SV3)
  /-- VADDMIN_S32_SHORT (R157): Short VADDMIN.s32 with vc = vd. -/
  | vaddminS32Short (o : SV3)
  /-- FFMA_F32_SHORT (R157): Short FFMA.f32 with vc = vd. -/
  | ffmaF32Short (o : SV3)
  /-- FFMA_BF16X2_SHORT (R157): Short FFMA.bf16x2 with vc = vd. -/
  | ffmaBf16x2Short (o : SV3)
  /-- VCMP_LT_S32_SHORT (R157): Short VCMP.lt.s32. -/
  | vcmpLtS32Short (o : SV3)
  /-- FCMP_LT_F32_SHORT (R157): Short FCMP.lt.f32. -/
  | fcmpLtF32Short (o : SV3)
  /-- VINTI_VADD_SHORT (R157): Short immediate VADD.s32. -/
  | vintiVaddShort (o : SVI)
  /-- VINTI_VAND_SHORT (R157): Short immediate VAND. -/
  | vintiVandShort (o : SVI)
  /-- VINTI_VSHL_SHORT (R157): Short immediate VSHL.n32. -/
  | vintiVshlShort (o : SVI)
  /-- VINTI_VSHR_N32_SHORT (R157): Short immediate VSHR.n32. -/
  | vintiVshrN32Short (o : SVI)
  /-- VINTI_VSHR_S32_SHORT (R157): Short immediate VSHR.s32. -/
  | vintiVshrS32Short (o : SVI)
  /-- VINTI_VMIN_SHORT (R157): Short immediate VMIN.s32. -/
  | vintiVminShort (o : SVI)
  /-- VINTI_VMAX_SHORT (R157): Short immediate VMAX.s32. -/
  | vintiVmaxShort (o : SVI)
  /-- VINTI_VCMP_EQ_SHORT (R157): Short immediate VCMP.eq.s32. -/
  | vintiVcmpEqShort (o : SVI)
  /-- SADD_SHORT (R155): Short SADD. -/
  | saddShort (o : SS3)
  /-- SSUB_SHORT (R155): Short SSUB. -/
  | ssubShort (o : SS3)
  /-- SMUL_SHORT (R155): Short SMUL. -/
  | smulShort (o : SS3)
  /-- SMULH_S_SHORT (R155): Short SMULH.s. -/
  | smulhSShort (o : SS3)
  /-- SMULH_N_SHORT (R155): Short SMULH.n. -/
  | smulhNShort (o : SS3)
  /-- SDIV_S_SHORT (R155): Short SDIV.s. -/
  | sdivSShort (o : SS3)
  /-- SDIV_N_SHORT (R155): Short SDIV.n. -/
  | sdivNShort (o : SS3)
  /-- SREM_S_SHORT (R155): Short SREM.s. -/
  | sremSShort (o : SS3)
  /-- SREM_N_SHORT (R155): Short SREM.n. -/
  | sremNShort (o : SS3)
  /-- SAND_SHORT (R155): Short SAND. -/
  | sandShort (o : SS3)
  /-- SOR_SHORT (R155): Short SOR. -/
  | sorShort (o : SS3)
  /-- SXOR_SHORT (R155): Short SXOR. -/
  | sxorShort (o : SS3)
  /-- SANDN_SHORT (R155): Short SANDN. -/
  | sandnShort (o : SS3)
  /-- SSHL_SHORT (R155): Short SSHL. -/
  | sshlShort (o : SS3)
  /-- SSHR_S_SHORT (R155): Short SSHR.s. -/
  | sshrSShort (o : SS3)
  /-- SSHR_N_SHORT (R155): Short SSHR.n. -/
  | sshrNShort (o : SS3)
  /-- SROTR_SHORT (R155): Short SROTR. -/
  | srotrShort (o : SS3)
  /-- SMIN_S_SHORT (R155): Short SMIN.s. -/
  | sminSShort (o : SS3)
  /-- SMIN_N_SHORT (R155): Short SMIN.n. -/
  | sminNShort (o : SS3)
  /-- SMAX_S_SHORT (R155): Short SMAX.s. -/
  | smaxSShort (o : SS3)
  /-- SMAX_N_SHORT (R155): Short SMAX.n. -/
  | smaxNShort (o : SS3)
  /-- SCLZ_SHORT (R155): Short SCLZ. -/
  | sclzShort (o : SS3)
  /-- SFFS_SHORT (R155): Short SFFS. -/
  | sffsShort (o : SS3)
  /-- SPOPC_SHORT (R155): Short SPOPC. -/
  | spopcShort (o : SS3)
  /-- SBREV_SHORT (R155): Short SBREV. -/
  | sbrevShort (o : SS3)
  /-- SSEL_SHORT (R155): Short SSEL, which compares with eq and selects s0. -/
  | sselShort (o : SS3)
  /-- SCMP_SHORT (R155): Short SCMP, which compares with eq. -/
  | scmpShort (o : SS3)
  /-- SEXT_SHORT (R155): Short SEXT, with width 8 signed. -/
  | sextShort (o : SS3)
  /-- SMOV_SHORT (R155): Short SMOV. -/
  | smovShort (o : SS3)
  /-- SBFX_SHORT (R155): Short SBFX.n with sc = 0. -/
  | sbfxShort (o : SS3)
  /-- SBFI_SHORT (R155): Short SBFI with sc = 0. -/
  | sbfiShort (o : SS3)
  /-- SMAD_SHORT (R155): Short SMAD with sc = 0. -/
  | smadShort (o : SS3)
  /-- SADDI_SHORT (R155): Short SADDI with a 10-bit immediate. -/
  | saddiShort (sd sa : Reg) (imm : BitVec 10)
  /-- SLI_SHORT (R155): Short SLI with a 17-bit immediate. -/
  | sliShort (sd : Reg) (imm : BitVec 17)
  /-- SLD_64_SHORT (R155): Short SLD.64 with a scaled offset. -/
  | sld64Short (sd sa : Reg) (imm : BitVec 10)
  /-- SST_64_SHORT (R155): Short SST.64 with a scaled offset. -/
  | sst64Short (sd sa : Reg) (imm : BitVec 10)
  /-- VLD_32_SHORT (R155): Short VLD.32. -/
  | vld32Short (o : SVM)
  /-- VST_32_SHORT (R155): Short VST.32. -/
  | vst32Short (o : SVM)
  /-- BR_SHORT (R155): Short BR. -/
  | brShort (off : BitVec 24)
  /-- CALL_SHORT (R155): Short CALL linking s94. -/
  | callShort (off : BitVec 24)
  /-- BRZ_SHORT (R155): Short BRZ. -/
  | brzShort (sa : Reg) (off : BitVec 16)
  /-- BRNZ_SHORT (R155): Short BRNZ. -/
  | brnzShort (sa : Reg) (off : BitVec 16)
  /-- BRP_SHORT (R155): Short BRP. -/
  | brpShort (p : BitVec 3) (neg : Bool) (off : BitVec 20)
  /-- WAIT_SHORT (R155): Short WAIT. -/
  | waitShort (o : WaitOp)
  /-- UNKNOWN_OP_COMMAND (R45): A GO that submits VDCMDBUF with an OP no operation names completes INVALID, and a GO written while BUSY is 1 is discarded and sets OVERRUN. -/
  | unknownOpCommand
  /-- MIRROR_COPY_FINISHED (R119): The copy of a warp's register window into its mirror finishes, and from then on the mirror is effective and corrects uncorrectable register reads. -/
  | mirrorCopyFinished (g w : Nat)
  deriving DecidableEq, Repr

end Sys2Proof
end

