-- ==== Sys2Proof/Machine/State.lean ====
section
/-! DEFINITION. The machine's state as plain data, every piece of it that the spec names, and State.reset. Reset values the
spec does not give are named in the assumption log (entries 1 to 7). -/

namespace Sys2Proof.Machine

/-- Why the machine stops: never. Every failure that the spec describes is a trap, a machine check, a status, an event or a
reset that the machine itself takes, so that no meaning raises a fault. -/
inductive Fault where
  deriving DecidableEq, Repr

/-- Why a step has no meaning in the model. -/
inductive Refusal where
  /-- Raised by an arm of exec that has no meaning yet. Safe. -/
  | notModelled (mnemonic : String)
  deriving DecidableEq, Repr

/-- A table from numbers to values, in rising order of the numbers; an unlisted number has the default of its use. -/
abbrev Table (β : Type) := List (Nat × β)

/-- Memory: address keys (Machine/Ops.lean: Loc.key) in rising order with their bytes, none of them the byte 0 that an
unlisted address reads as (01 R35: HBM and SRAM are wiped; log 7 for host memory). -/
abbrev Memory := List Host.Cell

/-- A poison provenance tag: UNIT in bits 11:7, RECORD in bits 6:0 (17 R390, R391). -/
abbrev Prov := BitVec 12

/-- The cause codes of 07 R200. -/
inductive Cause where
  | illegal | wrongAgent | priv | misalign | permission | rangeLock | poison | notPresent | haloStale | layoutSeal
  | accWindow | syncMask | software | sliceEnd | integrity | queueFault | watchdog
  deriving DecidableEq, Repr

/-- Where a byte lies: HBM by machine physical address, host memory, a fabric address, a workgroup's scratchpad, a warp's
register window, a VD's die scratch on a die, and a control core's instruction and data SRAM (09 R230, 19 R420). -/
inductive Space where
  | hbm | host | fabric
  | scratch (g : Nat)
  | window (g w : Nat)
  | die (vd d : Nat)
  | inst (c : Nat)
  | data (c : Nat)
  deriving DecidableEq, Repr

/-- A byte's place. -/
structure Loc where
  space : Space
  off : Nat
  deriving DecidableEq, Repr

/-- A frontier entry (04 R110). -/
structure Entry where
  prio : BitVec 3
  pc : Word
  mask : Mask
  deriving DecidableEq, Repr

/-- Threads parked at one WSYNC: their priority, its PC and its length (13 R335). -/
structure ParkedAt where
  at_ : Entry
  len : Nat
  deriving DecidableEq, Repr

/-- A pending WSYNC group (13 R335). -/
structure SyncGroup where
  mask : Mask
  parked : List ParkedAt
  deriving DecidableEq, Repr

/-- A convergence register CVn (11 R279, R456): declared and signed sets, the function, dtype and arow of the first
signature, the row index each thread gave, the scalar fields of the most recent signature, and the counted operation. -/
structure Conv where
  declared : Mask
  signed : Mask
  fn : Nat
  dtype : MTy
  arow : BitVec 11
  rows : Table (W32 × Option Prov)
  sa : Reg
  sb : Reg
  sc : Reg
  op : Nat
  deriving DecidableEq, Repr

/-- The replay mask of an instruction (09 R241, R243) for the threads it was executed for: the lanes still to be performed or, for
ALD and AST, the rows. -/
structure Replay where
  pc : Word
  head : Mask
  parts : Mask
  rows : Bool
  deriving DecidableEq, Repr

/-- The frontier block saved at handler entry (16 R378). -/
structure FrontierBlock where
  frontier : List Entry
  replay : List Replay
  groups : List SyncGroup
  deriving DecidableEq, Repr

/-- The kinds of trap record (16 R379). -/
inductive TrapKind where
  | sync | async | slice
  deriving DecidableEq, Repr

/-- A trap record held for a warp (16 R379), with the replay mask of its instruction. -/
structure TrapRec where
  kind : TrapKind
  cause : Word
  pc : Word
  mask : Mask
  s90 : Word
  s91 : Word
  s92 : Word
  replay : Option Replay
  deriving DecidableEq, Repr

/-- A handler being run: why, the first identity unused at its entry, what was saved, and TRAPPC and TRAPMASK at entry
(16 R375, R378, R380). -/
structure Handler where
  kind : TrapKind
  entered : Nat
  saved : FrontierBlock
  entryPc : Word
  mask : Mask
  deriving DecidableEq, Repr

/-- A byte to write with its place, and the poison tag it carries. -/
structure ByteWrite where
  loc : Loc
  byte : Byte
  prov : Option Prov
  deriving DecidableEq, Repr

/-- A register write that a counted operation makes when it completes. -/
inductive RegWrite where
  | scalar (r : Nat) (value : Word) (prov : Option Prov)
  | vector (key : Nat) (value : W32) (prov : Option Prov)
  deriving DecidableEq, Repr

/-- One lane of a memory instruction as read at issue (09 R237): its address, and the bytes it stores or the operand and
comparand of an atomic. -/
structure LaneAcc where
  lane : Nat
  addr : Word
  data : List Byte
  prov : Option Prov
  compare : List Byte
  deriving DecidableEq, Repr

/-- What a memory instruction does with each lane. -/
inductive MemAct where
  | load
  | store
  | atomic (code : BitVec 4) (keep : Bool)
  | step (required : Word)
  | spill
  | fill
  | barrier
  deriving DecidableEq, Repr

/-- An issued memory instruction: what it does, the bytes of a lane, its destination register (a vector or the scalar
register), sign extension, its PC and head, and whether it acquires (09 R236, 07 R188). -/
structure MemOp where
  act : MemAct
  bytes : Nat
  vector : Bool
  dst : Reg
  signed : Bool
  acquires : Bool
  pc : Word
  head : Mask
  deriving DecidableEq, Repr

/-- A part parked on a page that is not present (09 R242, 10 R266, 11 R288). -/
structure Parked where
  part : Nat
  page : Nat
  phys : Bool
  deriving DecidableEq, Repr

/-- The four counter classes (04 R120). -/
inductive OpClass where
  | loads | stores | copies | tiles
  deriving DecidableEq, Repr

/-- A sealed layout, or the shape of a copy's strided side (10 R259). -/
structure LayoutRec where
  addr : Word
  base : Word
  elog : Nat
  ndim : Nat
  mode : Nat
  ext : List Nat
  strides : List Nat
  deriving DecidableEq, Repr

/-- A copy in progress (10 R262-R266): operands as read at issue (`src` is the index list of a gathered copy), the layout
and whether it shapes the destination, the queue and first entry it reserved, the sectors done and the bytes they credited,
the sectors whose remote writes are on their way, parked sectors, the first failure, and whether it has started. `snapshot`
holds the source bytes where source and destination overlap. -/
structure Copy where
  zero : Bool
  gather : Bool
  layout : Option LayoutRec
  shapesDst : Bool
  src : Word
  dst : Word
  len : Nat
  tag : BitVec 6
  barrier : Word
  queue : Option Nat
  entry : Nat
  sectors : List Nat
  credited : Nat
  sending : List Nat
  parked : List Parked
  failed : Option (Nat × Cause)
  started : Bool
  snapshot : Option (List (Byte × Option Prov))
  deriving DecidableEq, Repr

/-- A stream record (10 R268). -/
structure StreamRec where
  base : Word
  stride : Word
  bound : Nat
  esize : Nat
  qnum : Nat
  index : Bool
  islot : Nat
  use : Bool
  ibound : Nat
  deriving DecidableEq, Repr

/-- A running stream: its slot, the next element, and the page it is parked on (10 R269). -/
structure Stream where
  slot : Nat
  record : StreamRec
  source : Option StreamRec
  next : Nat
  parked : List Parked
  deriving DecidableEq, Repr

/-- A push or pop that has reserved entry `entry` of queue `queue` (13 R337, R339). -/
structure QueueMove where
  push : Bool
  queue : Nat
  entry : Nat
  addr : Word
  deriving DecidableEq, Repr

/-- What remains of a counted operation; `reads` holds the lanes of a load with the HBM sectors they read (17 R395), and a tracked one has performed writes to the given lines and waits for its completion
point (12 R300). -/
inductive OpWork where
  | load (m : MemOp) (writes : List RegWrite) (waiting : List LaneAcc) (parked : List (Parked × LaneAcc)) (remote : List Nat)
    (reads : List (LaneAcc × Nat))
  | store (m : MemOp) (writes : List ByteWrite) (parked : List (Parked × LaneAcc)) (remote : List Nat)
  | tracked (m : MemOp) (writes : List RegWrite) (parked : List (Parked × LaneAcc)) (remote : List Nat) (lines : List Nat)
  | copy (c : Copy)
  | stream (x : Stream)
  | queue (q : QueueMove)
  | tile
  | finished
  deriving DecidableEq, Repr

/-- A counted operation of an agent, in issue order (04 R120, R121). -/
structure Op where
  id : Nat
  cls : OpClass
  work : OpWork
  deriving DecidableEq, Repr

/-- Why an agent's head waits (04 R112). -/
inductive WaitKind where
  | counters (o : WaitOp)
  | barrier (at_ : Loc) (token : Bool) (flipped : Bool)
  | word (addr : Word) (cond : BitVec 4) (comparand : Word) (sd : Reg)
  | popEmpty (queue : Nat) (addr : Word)
  | pushFull (queue : Nat) (addr : Word)
  | tags (mask : Word) (sd : Reg) (all : Bool)
  | round (addr barrier : Word) (k : Nat)
  deriving DecidableEq, Repr

/-- A waiting instruction: what it waits for, its PC and the PC after it. -/
structure Wait where
  kind : WaitKind
  pc : Word
  next : Word
  deriving DecidableEq, Repr

/-- What every agent has (04 R117, R120; 10 R254; 19 R420): scalar registers 1 to 95, the tags of poisoned ones, its
counted operations, its waiting instruction, whether it has ended, the instructions it issued since a halt broadcast, and
whether its head could not issue when it was last tried (04 R112). An unlisted scalar register is 0. -/
structure Agent where
  sregs : Table Word
  spoison : Table Prov
  ops : List Op
  wait : Option Wait
  ended : Bool
  skid : Nat
  stalled : Bool
  deriving DecidableEq, Repr

/-- A warp (04 R101, R110-R124; 05 R139-R144; 11 R279; 16 R377-R379). An unlisted vector register is 0, keyed
n * 64 + lane; an unlisted predicate k, 0 to 6, is all zeros; an unlisted generator state is 0. `haltPc` and `haltMask` are
the head when the last halt settled (16 R376, R379), `dirty` the dirty bits of the window's segments (16 R385). -/
structure Warp where
  agent : Agent
  frontier : List Entry
  exited : Mask
  unstarted : Mask
  groups : List SyncGroup
  vregs : Table W32
  vpoison : Table Prov
  preds : Table Mask
  ppoison : Table Prov
  gens : Table W32
  fpflags : BitVec 5
  rngSeed : W32
  spillSp : Word
  trapCause : Word
  trapPc : Word
  trapMask : Mask
  skidReg : BitVec 3
  haloWait : W32
  abase : Nat
  alimit : Nat
  convs : Table Conv
  replay : List Replay
  handler : List Handler
  held : List TrapRec
  mirror : Bool
  pipe : Nat
  vbase : Nat
  haltPc : Word
  haltMask : Mask
  dirty : BitVec 8
  deriving DecidableEq, Repr

/-- A stoker thread (10 R254, R268); slots hold the records that STRDEF entered. -/
structure Stoker where
  agent : Agent
  pc : Word
  slots : Table StreamRec
  deriving DecidableEq, Repr

/-- A feed queue (03 R76, 13 R337): slots at `base` in the scratchpad, the four counters, and which reserved entries are
filled or consumed out of order. -/
structure FeedQueue where
  base : Nat
  depthLog : Nat
  sizeLog : Nat
  pres : BitVec 16
  pcom : BitVec 16
  cres : BitVec 16
  ccom : BitVec 16
  filled : List Nat
  consumed : List Nat
  deriving DecidableEq, Repr

/-- An attachment to a partition state (14 R345): the record's address, the die of its flue engine, its GRIDID, and ROUND. -/
structure Attach where
  addr : Word
  die : Nat
  grid : Nat
  round : Nat
  deriving DecidableEq, Repr

/-- A halt of a workgroup (16 R376-R382): for traps, for a slice end, for a save, or frozen by a scoped reset. `settled`
says that the skid is over and handlers may be entered; the `returned` warps of a slice end have executed TRET. -/
inductive Halt where
  | trap (settled : Bool)
  | slice (settled : Bool) (returned : List Nat)
  | saving (cooperative swap : Bool)
  | frozen (settled : Bool)
  deriving DecidableEq, Repr

/-- Where a workgroup stands: on its core; saved and waiting to be resumed (04 R127, 16 R388); or ended, `kept` while its gang keeps
its scratchpad and feed queues (09 R231), on its core or saved with the gang. -/
inductive Residence where
  | resident
  | saved (cooperative swapped : Bool)
  | kept (onCore : Bool)
  | ended
  deriving DecidableEq, Repr

/-- An operation of the matrix unit (11 R281-R289), with the operands its issue read. -/
inductive MatKind where
  | mma (fn : Nat) (dtype : MTy) (rows : Table (W32 × Option Prov)) (sa sb sc : Word)
  | zero
  | load (fmt : BitVec 3) (addr stride : Word) (done : Mask)
  | store (fmt : BitVec 3) (addr stride : Word) (done : Mask)
  | stats (fmt : BitVec 3) (dst : Reg) (head : Mask)
  deriving DecidableEq, Repr

/-- An accepted matrix-unit operation: its identity, warp and counted operation, first row, what it does, whether it has
started, the bytes it has in the latch, its parked rows, the flags of the rows moved so far, PC and head. -/
structure MatOp where
  id : Nat
  op : Nat
  g : Nat
  w : Nat
  row : Nat
  kind : MatKind
  started : Bool
  latchA : List (Nat × List (Byte × Option Prov))
  latchS : List (Nat × List (Byte × Option Prov))
  latchB : List (Byte × Option Prov)
  parked : List Parked
  flags : BitVec 5
  pc : Word
  head : Mask
  deriving DecidableEq, Repr

/-- A workgroup (03 R79, 04 R114, 10 R256, R260, 14 R345, 16 R385). `doomed` holds the cause of its coming gang kill; while
it is saved, `carried` holds its matrix-unit operations and `accSaved` its accumulator elements by row and element.
`lastCause` is the TRAPCAUSE of its last trap (17 R409), `segments` the 4 KiB segments of the core store that hold its
scratchpad, its queues and its forced mirrors (04 R114). -/
structure Group where
  vd : Nat
  grid : Nat
  wgid : Nat
  core : Nat
  residence : Residence
  extent : Nat
  vregs : Nat
  queues : Table FeedQueue
  warps : List Warp
  stoker : Option Stoker
  tagBits : BitVec 64
  tagCounts : Table Nat
  seals : List LayoutRec
  attached : List Attach
  halt : Option Halt
  doomed : Option (Cause × Prov)
  asyncHeld : List TrapRec
  accFirst : Nat
  dirty : List Nat
  accDirty : List Nat
  placed : Nat
  sliceStart : Nat
  charged : Nat
  wakeable : Bool
  carried : List MatOp
  sliceDue : Bool
  accSaved : Table (W32 × Option Prov)
  lastCause : Word
  segments : List Nat
  deriving DecidableEq, Repr

/-- The launch record as read (03 R75), byte for byte in words, with ARGS as R78 leaves it. -/
structure LaunchRec where
  words : List Word
  args : Word
  deriving DecidableEq, Repr

/-- A grid (03 R78, R93, R96, R99; 17 R397): its VD, global queue and root record, its parent, whether it waits for its
parent, the pending-launch entry that holds it, how many workgroups are placed and ended, kills per gang, the tag of a gang's last kill by POISON, gangs that await
their drain and gangs to be placed again, its core-time in 1/48 clk, the first failure of its tree and whether that was a gang kill
(02 R72). The record of a root grid has no words until it is read. -/
structure Grid where
  vd : Nat
  queue : Nat
  index : Nat
  parent : Option Nat
  record : LaunchRec
  inStore : Option Nat
  inOverflow : Bool
  placed : Nat
  endedGroups : Nat
  kills : Table Nat
  poisons : Table Prov
  relaunch : List Nat
  ready : List Nat
  coreTime : Nat
  failure : Option (Cause × Prov)
  gangKill : Bool
  killed : Bool
  ended : Bool
  deriving DecidableEq, Repr

/-- A range-lock entry (10 R270): the operation that holds it, its VD, the space of its addresses, the range and kind;
`virt` marks a tenant virtual range, of the stage-1 space with the given root. -/
structure RangeLock where
  op : Nat
  vd : Nat
  root : Nat
  virt : Bool
  space : Space
  lo : Nat
  hi : Nat
  write : Bool
  deriving DecidableEq, Repr

/-- A write-combining entry (15 R365): its VD, fabric line and the endpoint entry that its stores looked up, the stores that wrote
bytes of it (agent and operation), and its bytes by offset. -/
structure WcEntry where
  id : Nat
  vd : Nat
  line : Nat
  endpoint : Word
  writers : List (AgentId × Nat)
  bytes : List (Nat × Byte × Option Prov)
  deriving DecidableEq, Repr

/-- A core (04 R102): accumulator elements keyed row * 64 + element with their poison, range locks, unowned L1 words keyed
by HBM word address, write-combining entries, the matrix unit's operations in acceptance order, and gated banks. -/
structure Core where
  acc : Table W32
  accPoison : Table Prov
  locks : List RangeLock
  l1 : Table W32
  wc : List WcEntry
  matrix : List MatOp
  gated : List Nat
  deriving DecidableEq, Repr

/-- A grid record (14 R342). -/
structure GridRec where
  base : Word
  elog : Nat
  ndim : Nat
  depth : Nat
  radius : Nat
  ext : List Nat
  ghost : List Nat
  rule : List Nat
  const : Word
  nbr : List Nat
  gridId : Nat
  arrive : Nat
  raw : List Byte
  deriving DecidableEq, Repr

/-- A push of an exchange (14 R350): its face and step, whether it fills the partition's own slab, whether it came from another
accelerator, the cells it has read, and whether they are written. -/
structure Push where
  id : Nat
  face : Nat
  step : Nat
  own : Bool
  incoming : Bool
  cells : Option (List (Byte × Option Prov))
  wrote : Bool
  parked : List Parked
  deriving DecidableEq, Repr

/-- A barrier credit that a round owes (14 R349): the workgroup and object, and, once the round has completed, the step of the
exchange it waits for. -/
structure Credit where
  g : Nat
  barrier : Word
  step : Option Nat
  deriving DecidableEq, Repr

/-- A partition state on the flue engine of a die (14 R345), with the global queue and KTAG of the workgroup that created it,
its pushes, its credits, the exchanges whose read locks stand (step and lock identity), and what remote neighbours last told,
by face. -/
structure Partition where
  vd : Nat
  record : GridRec
  queue : Nat
  ktag : W32
  steps : Nat
  done0 : Bool
  arrivals : Nat
  tags : List (Option Nat)
  error : Nat
  attached : Nat
  pushes : List Push
  credits : List Credit
  exchanges : List (Nat × Nat)
  known : Table FlueNote
  deriving DecidableEq, Repr

/-- Who has parts parked under a fault record (12 R311, R313): an agent's counted operation (0 for an instruction that waits at
its PC), a matrix-unit operation, a flue push, a work record, an instruction fetch, a remote device's request, a checkpoint or
an Ethernet port. -/
inductive ParkOwner where
  | agent (a : AgentId) (op : Nat)
  | matrix (core op : Nat)
  | flue (die part push : Nat)
  | record (q index : Nat)
  | fetch (g w : Nat)
  | request
  | checkpoint (vd : Nat)
  | port (n : Nat)
  deriving DecidableEq, Repr

/-- A fault record as posted or waiting (12 R311-R313): its ring index once written (2^32 for one that is never posted),
ENGINE, whether it is answered, its four words, its page, and the owner and parts parked under it (for an instruction that
waits at its PC, the address it formed). -/
structure FaultRec where
  index : Option Nat
  engine : Bool
  answered : Bool
  words : List Word
  page : Nat
  phys : Bool
  owner : ParkOwner
  parts : Mask
  deriving DecidableEq, Repr

/-- Why a scoped reset was started (17 R409). -/
inductive ResetReason where
  | request | command | integrity | watchdog | tableError
  deriving DecidableEq, Repr

/-- A scoped reset in progress (02 R41; 17 R407-R409): why it started, the local queue of a watchdog, the cycle count and MCORE
at the freeze, and whether its state is cleared. -/
structure ResetRun where
  reason : ResetReason
  byOther : Bool
  queue : Nat
  prov : Prov
  clk : Word
  mcore : Word
  cleared : Bool
  deriving DecidableEq, Repr

/-- A checkpoint or restore under way (18 R415-R418): its phase (0 reads the descriptor, 1 walks the regions, 2 has set the
CBWs, 3 is armed, 4 has sent the units, 5 the manifests; a restore that has written is in 2), its generation, the stage-1 root
and local queue, the unit size, the descriptor's bytes, the pages whose leaf still has its CBW set, with the leaf's VD-physical
address, the image, the pages read or, for a restore, the parts read, and the lines of the phase that are sent or the pages that a
restore has written. -/
structure CkRun where
  restore : Bool
  phase : Nat
  gen : Nat
  root : Nat
  queue : Nat
  unit : Nat
  desc : List Byte
  leaves : List (Nat × Nat)
  image : List (Byte × Option Prov)
  parts : Table (List (Byte × Option Prov))
  sent : Nat
  deriving DecidableEq, Repr

/-- A reservation of a cluster for a gang of a grid (03 R94). -/
structure Reservation where
  cluster : Nat
  grid : Nat
  gang : Nat
  deriving DecidableEq, Repr

/-- A virtual device (02 R40-R53 and the chapters its registers come from). `entry` is the VD table entry as eight raw
words (02 R40, 03 R83); `kill` the engines that have not reported DRAINED since a KILL (17 R402), `coreTime` MCORE in 1/48 clk up to the
last charges, `coreIds` the COREIDs of the cores it holds, `reserved` its gang reservation (03 R94), `shareStop` whether SETSHARE
has taken its CORES below INUSE (03 R84), `hand` where
its eviction sweep stands (12 R315), `shared` the first pages and slots of its shared mappings (02 R49), `saveArea` the bytes of the
save area that the lifecycle pair has reserved for it (16 R386). -/
structure Vd where
  entry : List Word
  backing : Word
  guest : Bool
  vdctl : W32
  resetCnt : BitVec 8
  vdevt : BitVec 4
  dsGrant : BitVec 9
  dsErr : Bool
  dsReq : BitVec 9
  dsPend : Option (BitVec 9)
  coreTime : Nat
  mmatrix : Word
  mhbm : Word
  mlink : Word
  menergy : Word
  hbmWindow : Nat
  linkWindow : Nat
  fqBase : Word
  fqEn : Bool
  fqSize : BitVec 5
  fqProd : W32
  fqCons : W32
  fqRingErr : Bool
  fqCfgErr : Bool
  fqAborted : Bool
  fqAbort : Bool
  faults : List FaultRec
  pgAhead : BitVec 4
  saveForced : BitVec 16
  saveCoop : BitVec 16
  mirFix : BitVec 16
  pairFix : BitVec 8
  pairPois : BitVec 8
  wipe : Bool
  wdAct : BitVec 2
  ashBase : Word
  ashPinned : Bool
  ashNo : Bool
  ashFailed : Bool
  ashTrunc : Bool
  ashSeq : BitVec 8
  reset : Option ResetRun
  kill : Option (List Engine)
  ckDesc : Word
  ckOp : Bool
  ckQueue : BitVec 6
  ckUsize : BitVec 4
  ckGen : W32
  ckErr : BitVec 8
  ckDone : Bool
  ckArmed : Bool
  ckBusy : Bool
  ckRun : Option CkRun
  msix : Table Word
  msixPending : BitVec 64
  fepFirst : BitVec 15
  fepCount : BitVec 11
  gridOrder : List Nat
  coreIds : Table Nat
  reserved : Option Reservation
  shareStop : Bool
  hand : Nat
  shared : List (Nat × Nat)
  saveArea : Nat
  deriving DecidableEq, Repr

/-- What a started record has come to (02 R68, 19 R428): still running, with the chunks a COPY has moved, whether a SIGNAL to a
remote home is sent, or whether an evaluation of a WAITSEM is still to be carried out (`moved`), or completed with its outcome. -/
structure RecordRun where
  index : W32
  words : List Word
  grid : Option Nat
  completed : Bool
  status : BitVec 8
  cause : BitVec 8
  prov : Prov
  coreTime : Word
  startedAt : Nat
  moved : Nat
  deriving DecidableEq, Repr

/-- A work queue (02 R54-R63; 19 R424, R426). `state` is the code of 02 R59; `staged` holds completions under a held IRT entry
(19 R429), and `retiring` those whose completion record waits for its ring page (02 R68). -/
structure Queue where
  qbase : Word
  cbase : Word
  qs1 : Word
  qcfg : W32
  qcoal : W32
  latch : W32
  kccons : W32
  err : BitVec 8
  cfgErr : Bool
  hung : Bool
  state : BitVec 3
  vd : BitVec 9
  local_ : BitVec 6
  head : W32
  tail : W32
  next : W32
  cprod : W32
  kick : Bool
  done : Bool
  sem : Bool
  runs : List RecordRun
  staged : List RecordRun
  retiring : List RecordRun
  deriving DecidableEq, Repr

/-- An interrupt remap entry (02 R73, R74): the raw word, the requests pending under coalescing or HOLD, and whether CTIME has
passed while they were held. -/
structure Irt where
  word : Word
  pending : Nat
  due : Bool
  deriving DecidableEq, Repr

/-- Whom HBM frames belong to (17 R394, R401): a VD, inside or outside its quota, a shared slot, or no one any more. -/
inductive FrameOwner where
  | vd (n : Nat)
  | outside (n : Nat)
  | slot (n : Nat)
  | retired
  deriving DecidableEq, Repr

/-- A run of 4 KiB frames that are not free: how many, their owner, and the VD-physical page of the first. -/
structure FrameRun where
  len : Nat
  owner : FrameOwner
  page : Nat
  deriving DecidableEq, Repr

/-- A shared slot (02 R49); `filled` once its content has been copied in. -/
structure SharedSlot where
  host : Word
  pages : Nat
  part : Bool
  frames : List Nat
  count : Nat
  filled : Bool
  deriving DecidableEq, Repr

/-- A control core (19 R420, R421). Its SRAMs are spaces of memory. -/
structure CtlCore where
  agent : Agent
  pc : Word
  halted : Bool
  active : Bool
  peerUp : Bool
  pendTimer : Bool
  pendTake : Bool
  loaded : Bool
  deriving DecidableEq, Repr

/-- A journal entry (19 R422, R423). -/
structure JournalEntry where
  kind : BitVec 4
  a : Word
  b : Word
  c : Word
  deriving DecidableEq, Repr

/-- A pair of control cores (19 R421-R423, R431-R433). The journal is keyed by SEQ; `badEntries`
has the entries of which every copy is uncorrectable (R422). -/
structure Pair where
  jnext : W32
  jtrim : W32
  mcpeer : BitVec 8
  journal : Table JournalEntry
  badEntries : List Nat
  mcause : BitVec 3
  lost : Bool
  taken : Bool
  standby : Bool
  acore : Bool
  takeover : Option Nat
  reloads : Nat
  deriving DecidableEq, Repr

/-- An Ethernet port (15 R371-R373). `stopping` and `receiving` let the frame in progress end after EN is cleared, in each direction;
`txWait` says that the flags of the descriptor at PTXHEAD are on their way to a remote home, `rxWait` holds the length of a received
frame whose bytes are, and whether it is bad, and `rxDone` says that its descriptor is. -/
structure Port where
  enabled : Bool
  cfgErr : Bool
  owned : Bool
  owner : BitVec 9
  lanes : BitVec 2
  txRing : Word
  rxRing : Word
  txHead : W32
  txTail : W32
  rxHead : W32
  rxTail : W32
  stopping : Bool
  receiving : Bool
  txWait : Bool
  rxWait : Option (Nat × Bool)
  rxDone : Bool
  deriving DecidableEq, Repr

/-- A sealed flit kept for resending (15 R369): its SEQ and GEN, what it carries, and when it was last sent. -/
structure SentFlit where
  seq : Nat
  gen : Bool
  body : FlitBody
  sentAt : Word
  deriving DecidableEq, Repr

/-- A channel between a station and a peer (15 R367-R370). As sender: the next SEQ, the key generation, unacknowledged flits,
what waits to be sent, the flits sealed under the key, and N while a switch is under way. As receiver: the SEQ to deliver next,
the key generation, N of a switch, flits held out of order, failures in a row by SEQ, flits authenticated since the last ACK,
whether any was delivered since then, and the count of ACKs. -/
structure Channel where
  established : Bool
  sendSeq : Nat
  sendGen : Nat
  unacked : List SentFlit
  waiting : List FlitBody
  sealed : Nat
  switchAt : Option Nat
  recvSeq : Nat
  recvGen : Nat
  recvN : Option Nat
  held : Table FlitBody
  fails : Table Nat
  unreported : Nat
  delivered : Bool
  ackSeq : Nat
  deriving DecidableEq, Repr

/-- A UALink station (15 R357, R359). -/
structure Station where
  state : StationState
  authFail : BitVec 16
  resent : BitVec 8
  channels : Table Channel
  deriving DecidableEq, Repr

/-- What an outstanding remote request is for (15 R364): `ring` carries a fault record to its ring (12 R312), `completion` a completion
record to its ring (02 R71), and `failed` holds a lane's cause until the other lanes of its operation
have their answers (09 R243). -/
inductive RemoteUse where
  | lane (a : AgentId) (op : Nat) (acc : LaneAcc)
  | wait (a : AgentId)
  | write (core : Nat) (writers : List (AgentId × Nat))
  | engineRead (who : ParkOwner) (part pos : Nat)
  | engineWrite (who : ParkOwner) (part : Nat)
  | ring (vd : Nat)
  | completion (q : Nat)
  | failed (a : AgentId) (op : Nat) (acc : LaneAcc) (c : Cause) (prov : Option Prov)
  deriving DecidableEq, Repr

/-- An outstanding remote request (15 R357, R364-R366): its VD and virtual peer, the station and accelerator it goes to, the VD
and VD-physical address there, what it asks for, whether it may travel only sealed (R360), and whether it has been sent. -/
structure RemoteOut where
  id : Nat
  vd : Nat
  station : Nat
  peer : Nat
  vpeer : Nat
  rvd : Nat
  addr : Nat
  kind : RemoteKind
  use : RemoteUse
  sealed : Bool
  sent : Bool
  deriving DecidableEq, Repr

/-- A byte that came from a remote home for an engine operation, by its part and position (15 R364). -/
structure EngineByte where
  who : ParkOwner
  part : Nat
  pos : Nat
  byte : Byte
  prov : Option Prov
  deriving DecidableEq, Repr

/-- A message that leaves the device. -/
inductive Message where
  | pfMsix (vector : Nat)
  | msix (vd vector : Nat)
  | frame (port : Nat) (bytes : List Byte)
  | fabric (station peer : Nat) (c : FlitContent)
  | flit (station peer : Nat) (f : SentFlit)
  | spdm (r : SpdmReply)
  | hostRead (requester : Nat) (bytes : List (Byte × Option Prov))
  | config (retry : Bool)
  | event (pair : Nat) (code vd : Nat)
  deriving DecidableEq, Repr

/-- A latched PF command (02 R43-R45): its words, and whether the lifecycle pair has begun to carry it out. -/
structure Command where
  words : List W32
  started : Bool
  deriving DecidableEq, Repr

/-- The power, boot, upkeep and life-cycle registers (01). `state` is the code of 01 R16, `retrained` says that an interface needed
full training in this boot, `training` the stored training records (R24), `inUse` the training values that the interfaces use and
`upAtEntry` the stations that were up at the last banked entry (R29, R30), `withheld` the cores that the latest plan withheld,
`thMin` and `thMax` the last minimum of R33 and the maximum since a rise of 40 °C above it, `keyDigest` and `serial` the fused
digest of the public key and the module's serial number (R25, R34). -/
structure Power where
  capEn : Bool
  state : BitVec 3
  phase : BitVec 8
  capping : Bool
  trained : Bool
  retrained : Bool
  capW : BitVec 8
  exitRecorded : Bool
  training : List (Interface × TrainingRecord)
  inUse : List (Interface × List Byte)
  upAtEntry : List Nat
  meas : List (BitVec 512)
  plans : List (W32 × MarginPlan)
  withheld : List Nat
  thcyc : W32
  ponhrs : W32
  bankcnt : W32
  hbmesc : W32
  thMin : Option Int
  thMax : Option Int
  lcState : BitVec 2
  refurb : BitVec 8
  keyDigest : List Byte
  serial : List Byte
  deriving DecidableEq, Repr

/-- The physical function's own registers (02 R42-R44; 03 R80, R81; 04 R125; 09 R233; 15 R358; 19 R433). -/
structure Pf where
  cmdBuf : List W32
  seq : BitVec 8
  status : BitVec 8
  overrun : Bool
  busy : Option Command
  slots : Table SharedSlot
  partRefused : Bool
  partMode : Bool
  fwIrq : List Bool
  fwCount : List (BitVec 16)
  fwLast : List (BitVec 9)
  fpIdle : BitVec 8
  fpSwap : Bool
  dsRefused : List Bool
  dsMib : List (BitVec 9)
  secMc : BitVec 3
  secDead : Bool
  takeovers : BitVec 8
  fabAge : BitVec 8
  fabSeal : Bool
  fabWc : Bool
  fabAcc : BitVec 10
  deriving DecidableEq, Repr

/-- What the machine is to do next: let an agent issue, take an event of the opcode table, or find a storage error. -/
inductive Sched where
  | issue (a : AgentId)
  | event (e : Instr)
  | strike (u : Upset)
  deriving DecidableEq, Repr

/-- An error record of the fault pair (17 R391): its index, the unit and cause it names (07 R200), the peer's tag it refers to, the
HBM frame of a shared slot that the error struck (R401), and whether the fault pair has closed it. -/
structure ErrorRecord where
  index : Nat
  unit : BitVec 5
  cause : BitVec 8
  peer : Option Prov
  shared : Option Nat
  closed : Bool
  deriving DecidableEq, Repr

/-- The keys of an index of the key store, by identity: a data key and an integrity key (17 R394; their values appear nowhere). -/
structure KeyPair where
  data : Nat
  integrity : Nat
  deriving DecidableEq, Repr

/-- A combined translation of a cache (12 R297): its VD, its stage-1 root (none for a VD-physical page), its page, where that
page lies, the permissions that both leaves grant, whether the D bits of both were set, and the lines its walk read (R299). -/
structure Cached where
  vd : Nat
  root : Option Nat
  page : Nat
  loc : Loc
  r : Bool
  w : Bool
  x : Bool
  dirty : Bool
  lines : List Nat
  deriving DecidableEq, Repr

/-- A non-leaf entry in a walk cache (12 R297): its VD, whether it is of stage 2, its address (VD-physical at stage 1, machine
physical at stage 2), the entry, and the lines it is derived from. -/
structure WalkEntry where
  vd : Nat
  stage2 : Bool
  addr : Nat
  entry : Word
  lines : List Nat
  deriving DecidableEq, Repr

/-- The whole machine. `keys` is the key store by key index: VD n at n, shared slot k at 512 + k (17 R394). `cur` is the agent whose instruction executes, `inputs` what is to come, `free` the counter of free
values, `l1Choice` whether each coming load uses the unowned L1 copies and leaves one (13 R321), `tlbChoice` whether each coming
translation uses the translation caches and is kept in them (12 R297; in both lists false once used up), `tables` the lines that
walkers have read, each with its translation-sharer vector (R299), `tlb` the translation caches (core c's L1 at c, cluster k's L2
at 512 + k, the I/O die's at 1024), newest first, `walks` the walk caches by die (2 for the I/O die), `owners` the core that has
registered an HBM word by word address (13 R321), `tracked` the remote requests that were under way when a requester wrote a
tracked line (12 R302), `errors` the error records, oldest first (17 R391), `pairing` what the comparisons of the coming
paired executions find (17 R398), `uid` the next unused identity. An unlisted entry of a table is the reset value of its kind. -/
structure State where
  cur : AgentId
  inputs : List Sched
  free : Nat
  l1Choice : List Bool
  clk : Word
  uid : Nat
  sent : List Message
  power : Power
  pf : Pf
  vds : Table Vd
  queues : Table Queue
  irt : Table Irt
  ctl : Table CtlCore
  pairs : Table Pair
  grids : Table Grid
  groups : Table Group
  cores : Table Core
  parts : Table Partition
  tables : Table (BitVec 43)
  tlb : Table (List Cached)
  walks : Table (List WalkEntry)
  tlbChoice : List Bool
  owners : Table Nat
  tracked : List (Nat × List Nat)
  errors : List ErrorRecord
  pairing : List PairDiffer
  endpoints : Table Word
  stations : Table Station
  remote : List RemoteOut
  heldRequests : List RemoteRequest
  engineData : List EngineByte
  ports : Table Port
  frames : Table FrameRun
  keys : Table KeyPair
  mem : Memory
  poison : Table Prov
  deriving DecidableEq, Repr

/-- An agent with all registers 0 and nothing outstanding (03 R79, 19 R450). -/
def Agent.start : Agent := ⟨[], [], [], none, false, 0, false⟩

/-- Control core `c` at reset: PC 0, halted until the control cluster starts in phase 0x07 (01 R22, 19 R450); core 0 of a pair
is active (19 R433). The security core reads as active, and every core counts as loaded (DESIGN CHOICE, log 5). -/
def CtlCore.start (c : Nat) : CtlCore :=
  ⟨Agent.start, 0, true, c % 2 == 0, true, false, false, true⟩

/-- A pair at reset (19 R421, R433). -/
def Pair.start : Pair := ⟨1, 1, 0, [], [], 0, false, false, true, false, none, 0⟩

/-- A VD's registers at reset: the VD is FREE (02 R40, R51-R53 and the register tables of the other chapters). -/
def Vd.start : Vd where
  entry := [0, 0, 0, 0, 0, 0, 0, 0]
  backing := 0
  guest := false
  vdctl := 0x1400
  resetCnt := 0
  vdevt := 0
  dsGrant := 0
  dsErr := false
  dsReq := 0
  dsPend := none
  coreTime := 0
  mmatrix := 0
  mhbm := 0
  mlink := 0
  menergy := 0
  hbmWindow := 0
  linkWindow := 0
  fqBase := 0
  fqEn := false
  fqSize := 0
  fqProd := 0
  fqCons := 0
  fqRingErr := false
  fqCfgErr := false
  fqAborted := false
  fqAbort := false
  faults := []
  pgAhead := 0
  saveForced := 0
  saveCoop := 0
  mirFix := 0
  pairFix := 0
  pairPois := 0
  wipe := false
  wdAct := 0
  ashBase := 0
  ashPinned := false
  ashNo := false
  ashFailed := false
  ashTrunc := false
  ashSeq := 0
  reset := none
  kill := none
  ckDesc := 0
  ckOp := false
  ckQueue := 0
  ckUsize := 4
  ckGen := 0
  ckErr := 0
  ckDone := false
  ckArmed := false
  ckBusy := false
  ckRun := none
  msix := []
  msixPending := 0
  fepFirst := 0
  fepCount := 0
  gridOrder := []
  coreIds := []
  reserved := none
  shareStop := false
  hand := 0
  shared := []
  saveArea := 0

/-- A queue's registers at reset (02 R54-R61; 19 R424). -/
def Queue.start : Queue where
  qbase := 0
  cbase := 0
  qs1 := 0
  qcfg := 0x06400000
  qcoal := 0
  latch := 0
  kccons := 0
  err := 0
  cfgErr := false
  hung := false
  state := 0
  vd := 0
  local_ := 0
  head := 0
  tail := 0
  next := 0
  cprod := 0
  kick := false
  done := false
  sem := false
  runs := []
  staged := []
  retiring := []

/-- An empty core (04 R102). -/
def Core.start : Core := ⟨[], [], [], [], [], [], []⟩

/-- A warp with no threads. -/
def Warp.start : Warp where
  agent := Agent.start
  frontier := []
  exited := 0
  unstarted := 0
  groups := []
  vregs := []
  vpoison := []
  preds := []
  ppoison := []
  gens := []
  fpflags := 0
  rngSeed := 0
  spillSp := 0
  trapCause := 0
  trapPc := 0
  trapMask := 0
  skidReg := 0
  haloWait := 0xC350
  abase := 0
  alimit := 0
  convs := []
  replay := []
  handler := []
  held := []
  mirror := false
  pipe := 0
  vbase := 0
  haltPc := 0
  haltMask := 0
  dirty := 0

/-- A workgroup that does not exist. -/
def Group.start : Group where
  vd := 0
  grid := 0
  wgid := 0
  core := 0
  residence := .ended
  extent := 0
  vregs := 0
  queues := []
  warps := []
  stoker := none
  tagBits := 0
  tagCounts := []
  seals := []
  attached := []
  halt := none
  doomed := none
  asyncHeld := []
  accFirst := 0
  dirty := []
  accDirty := []
  placed := 0
  sliceStart := 0
  charged := 0
  wakeable := false
  carried := []
  sliceDue := false
  accSaved := []
  lastCause := 0
  segments := []

/-- A grid that does not exist. -/
def Grid.start : Grid where
  vd := 0
  queue := 0
  index := 0
  parent := none
  record := ⟨[], 0⟩
  inStore := none
  inOverflow := false
  placed := 0
  endedGroups := 0
  kills := []
  poisons := []
  relaunch := []
  ready := []
  coreTime := 0
  failure := none
  gangKill := false
  killed := false
  ended := true

/-- The power and upkeep registers at reset (01 R18-R36; values the spec does not give: log 4). -/
def Power.start : Power where
  capEn := true
  state := 0
  phase := 0
  capping := false
  trained := false
  retrained := false
  capW := 0xB4
  exitRecorded := false
  training := []
  inUse := []
  upAtEntry := []
  meas := List.replicate 16 0
  plans := []
  withheld := []
  thcyc := 0
  ponhrs := 0
  bankcnt := 0
  hbmesc := 0
  thMin := none
  thMax := none
  lcState := 1
  refurb := 0
  keyDigest := List.replicate 64 0
  serial := []

/-- The physical function's registers at reset. -/
def Pf.start : Pf where
  cmdBuf := List.replicate 16 0
  seq := 0
  status := 0
  overrun := false
  busy := none
  slots := []
  partRefused := false
  partMode := false
  fwIrq := [false, false]
  fwCount := [0, 0]
  fwLast := [0, 0]
  fpIdle := 0x64
  fpSwap := true
  dsRefused := [false, false]
  dsMib := [0, 0]
  secMc := 0
  secDead := false
  takeovers := 0
  fabAge := 0x08
  fabSeal := false
  fabWc := true
  fabAcc := 0

/-- The machine right after package reset: BOOTING, every VD FREE, nothing running, memory wiped. -/
def State.reset : State where
  cur := .ctl 0
  inputs := []
  free := 0
  l1Choice := []
  clk := 0
  uid := 1
  sent := []
  power := Power.start
  pf := Pf.start
  vds := []
  queues := []
  irt := []
  ctl := []
  pairs := []
  grids := []
  groups := []
  cores := []
  parts := []
  tables := []
  tlb := []
  walks := []
  tlbChoice := []
  owners := []
  tracked := []
  errors := []
  pairing := []
  endpoints := []
  stations := []
  remote := []
  heldRequests := []
  engineData := []
  ports := []
  frames := []
  keys := []
  mem := []
  poison := []

end Sys2Proof.Machine
end

