-- ==== Sys2Proof/Machine/Bits.lean ====
section
/-! DEFINITION. Bit fields, byte order and tables: the helpers every meaning uses. -/

namespace Sys2Proof.Machine

/-- The value of a key, `d` when it is not listed. -/
def Table.get {β : Type} (d : β) : Table β → Nat → β
  | [], _ => d
  | (k, v) :: t, n => if n == k then v else Table.get d t n

/-- The table with `v` at key `n`, in rising order. -/
def Table.put {β : Type} (n : Nat) (v : β) : Table β → Table β
  | [] => [(n, v)]
  | (k, u) :: t => if n < k then (n, v) :: (k, u) :: t else if n == k then (n, v) :: t else (k, u) :: Table.put n v t

/-- The table without key `n`. -/
def Table.drop {β : Type} (n : Nat) (t : Table β) : Table β := t.filter fun e => e.1 != n

/-- The table with `v` at key `n`, not listed when it is the default: the canonical form is kept. -/
def Table.set {β : Type} [DecidableEq β] (d : β) (n : Nat) (v : β) (t : Table β) : Table β :=
  if v = d then Table.drop n t else Table.put n v t

/-- Keys strictly rising. -/
def Table.rising {β : Type} : Table β → Bool
  | [] => true
  | [_] => true
  | (k, _) :: (l, v) :: t => decide (k < l) && Table.rising ((l, v) :: t)

/-- The canonical form of a table with default `d`. -/
def Table.wf {β : Type} [DecidableEq β] (d : β) (t : Table β) : Bool := Table.rising t && t.all fun e => decide (e.2 ≠ d)

/-- An optional entry: none when the key is not listed. -/
def Table.look {β : Type} (t : Table β) (n : Nat) : Option β := Table.get none (t.map fun e => (e.1, some e.2)) n

/-- Bit `l` of a mask. -/
def bit (m : Mask) (l : Nat) : Bool := m.getLsbD l

/-- The mask of the threads that `f` selects. -/
def maskOf (f : Nat → Bool) : Mask :=
  BitVec.ofNat 64 ((List.range 64).foldl (fun acc l => if f l then acc + 2 ^ l else acc) 0)

/-- The threads of a mask in rising order. -/
def lanesOf (m : Mask) : List Nat := (List.range 64).filter (bit m)

/-- The lowest 1 bit of a 64-bit value, 64 for 0 (05 R145). -/
def lowestBit (m : Mask) : Nat := ((List.range 64).find? (bit m)).getD 64

/-- Sets bit `l` to `b`. -/
def setBit (m : Mask) (l : Nat) (b : Bool) : Mask :=
  let one : Mask := BitVec.ofNat 64 (2 ^ l)
  if b then m ||| one else m &&& ~~~one

/-- Bits hi:lo of a word as a number. -/
def fieldN {w : Nat} (x : BitVec w) (hi lo : Nat) : Nat := x.toNat / 2 ^ lo % 2 ^ (hi + 1 - lo)

/-- A word with bits hi:lo replaced. -/
def putField {w : Nat} (x : BitVec w) (hi lo v : Nat) : BitVec w :=
  let m := 2 ^ (hi + 1 - lo)
  BitVec.ofNat w (x.toNat - fieldN x hi lo * 2 ^ lo + v % m * 2 ^ lo)

/-- Little-endian bytes as a number (01 R4). -/
def leN : List Byte → Nat
  | [] => 0
  | b :: bs => b.toNat + 256 * leN bs

/-- The low `n` bytes of a number, little-endian (01 R4). -/
def leB : Nat → Nat → List Byte
  | 0, _ => []
  | n + 1, v => BitVec.ofNat 8 v :: leB n (v / 256)

/-- Bytes as a 64-bit word. -/
def wordOf (bs : List Byte) : Word := BitVec.ofNat 64 (leN bs)

/-- A 64-bit word as bytes. -/
def bytesOf (w : Word) : List Byte := leB 8 w.toNat

/-- The code of a cause (07 R200). -/
def Cause.code : Cause → Nat
  | .illegal => 0x01 | .wrongAgent => 0x02 | .priv => 0x03 | .misalign => 0x04 | .permission => 0x05
  | .rangeLock => 0x06 | .poison => 0x07 | .notPresent => 0x08 | .haloStale => 0x09 | .layoutSeal => 0x0A
  | .accWindow => 0x0B | .syncMask => 0x0C | .software => 0x0D | .sliceEnd => 0x0E | .integrity => 0x0F
  | .queueFault => 0x10 | .watchdog => 0x11

/-- The priority of a cause within an instruction, 1 taken first (09 R240). -/
def Cause.priority : Cause → Nat
  | .illegal | .wrongAgent | .priv => 1
  | .misalign => 2
  | .permission => 3
  | .rangeLock => 4
  | .layoutSeal => 5
  | .poison => 6
  | .haloStale => 7
  | .notPresent => 8
  | _ => 9

/-- The lower of two poison tags, where either may be absent (17 R390, R392). -/
def minProv : Option Prov → Option Prov → Option Prov
  | none, p => p
  | p, none => p
  | some a, some b => some (if a.toNat ≤ b.toNat then a else b)

/-- The lowest tag of a list. -/
def lowestProv (l : List (Option Prov)) : Option Prov := l.foldl minProv none

/-- Replaces the element at `n` of a list. -/
def listSet {α : Type} : List α → Nat → α → List α
  | [], _, _ => []
  | _ :: t, 0, v => v :: t
  | h :: t, n + 1, v => h :: listSet t n v

/-- The element at `n`, or `d`. -/
def listGet {α : Type} (d : α) : List α → Nat → α
  | [], _ => d
  | h :: _, 0 => h
  | _ :: t, n + 1 => listGet d t n

end Sys2Proof.Machine
end

