-- ==== Sys2Proof/Machine/Ops.lean ====
section
/-! DEFINITION. The named operations over the machine's state: agents and their registers, the frontier, memory with its
poison, counted operations, and taking and returning from a trap. -/

namespace Sys2Proof.Machine

/-- What a meaning answers. -/
abbrev Res := Host.Outcome State Fault Refusal

/-! Entities. -/

/-- The VD numbered `n` (02 R37). -/
def State.vd (s : State) (n : Nat) : Vd := Table.get Vd.start s.vds n
def State.setVd (s : State) (n : Nat) (v : Vd) : State := { s with vds := Table.put n v s.vds }
def State.updVd (s : State) (n : Nat) (f : Vd → Vd) : State := s.setVd n (f (s.vd n))

/-- The global queue `q` (02 R62). -/
def State.queue (s : State) (q : Nat) : Queue := Table.get Queue.start s.queues q
def State.setQueue (s : State) (q : Nat) (v : Queue) : State := { s with queues := Table.put q v s.queues }
def State.updQueue (s : State) (q : Nat) (f : Queue → Queue) : State := s.setQueue q (f (s.queue q))

/-- The workgroup with identity `g`. -/
def State.group (s : State) (g : Nat) : Group := Table.get Group.start s.groups g
def State.setGroup (s : State) (g : Nat) (v : Group) : State := { s with groups := Table.put g v s.groups }
def State.updGroup (s : State) (g : Nat) (f : Group → Group) : State := s.setGroup g (f (s.group g))

/-- Warp `w` of workgroup `g`. -/
def State.warp (s : State) (g w : Nat) : Warp := listGet Warp.start (s.group g).warps w
def State.setWarp (s : State) (g w : Nat) (v : Warp) : State :=
  s.updGroup g fun x => { x with warps := listSet x.warps w v }
def State.updWarp (s : State) (g w : Nat) (f : Warp → Warp) : State := s.setWarp g w (f (s.warp g w))

/-- The stoker thread of workgroup `g`. -/
def State.stoker (s : State) (g : Nat) : Stoker := (s.group g).stoker.getD ⟨Agent.start, 0, []⟩
def State.setStoker (s : State) (g : Nat) (v : Stoker) : State := s.updGroup g fun x => { x with stoker := some v }

/-- The grid with identity `n`. -/
def State.grid (s : State) (n : Nat) : Grid := Table.get Grid.start s.grids n
def State.setGrid (s : State) (n : Nat) (v : Grid) : State := { s with grids := Table.put n v s.grids }
def State.updGrid (s : State) (n : Nat) (f : Grid → Grid) : State := s.setGrid n (f (s.grid n))

/-- Core `c`: die c / 160, cluster c mod 160 / 8 on its die (04 R102, R124). -/
def State.core (s : State) (c : Nat) : Core := Table.get Core.start s.cores c
def State.setCore (s : State) (c : Nat) (v : Core) : State := { s with cores := Table.put c v s.cores }
def State.updCore (s : State) (c : Nat) (f : Core → Core) : State := s.setCore c (f (s.core c))

/-- Control core `c` (19 R420). -/
def State.ctlCore (s : State) (c : Nat) : CtlCore := Table.get (CtlCore.start c) s.ctl c
def State.setCtl (s : State) (c : Nat) (v : CtlCore) : State := { s with ctl := Table.put c v s.ctl }
def State.updCtl (s : State) (c : Nat) (f : CtlCore → CtlCore) : State := s.setCtl c (f (s.ctlCore c))

/-- Pair `p` of control cores (19 R421). -/
def State.pair (s : State) (p : Nat) : Pair := Table.get Pair.start s.pairs p
def State.setPair (s : State) (p : Nat) (v : Pair) : State := { s with pairs := Table.put p v s.pairs }
def State.updPair (s : State) (p : Nat) (f : Pair → Pair) : State := s.setPair p (f (s.pair p))

/-- The compute die and the cluster of a core (04 R124). -/
def dieOf (core : Nat) : Nat := core / 160
def clusterOf (core : Nat) : Nat := core % 160 / 8

/-- A 64-bit word of a launch record (03 R75). -/
def LaunchRec.word (r : LaunchRec) (i : Nat) : Word := listGet 0 r.words i

/-- The launch record of a workgroup's grid. -/
def State.launchOf (s : State) (g : Nat) : LaunchRec := (s.grid (s.group g).grid).record

/-- Threads of a workgroup, gang size and handler entries (03 R75). -/
def LaunchRec.threads (r : LaunchRec) : Nat :=
  fieldN (r.word 3) 10 0 * fieldN (r.word 3) 21 11 * fieldN (r.word 3) 32 22
def LaunchRec.gang (r : LaunchRec) : Nat := fieldN (r.word 3) 35 33 + 1
def LaunchRec.vregs (r : LaunchRec) : Nat := fieldN (r.word 3) 47 40
def LaunchRec.scratch (r : LaunchRec) : Nat := fieldN (r.word 4) 20 0
def LaunchRec.accRows (r : LaunchRec) : Nat := fieldN (r.word 4) 43 32
def LaunchRec.thpc (r : LaunchRec) : Word := r.word 7
def LaunchRec.shpc (r : LaunchRec) : Word := r.word 8
def LaunchRec.budget (r : LaunchRec) : Nat :=
  if fieldN (r.word 9) 19 0 == 0 then 20000 else fieldN (r.word 9) 19 0
def LaunchRec.relaunch (r : LaunchRec) : Bool := (r.word 9).getLsbD 32
def LaunchRec.paired (r : LaunchRec) : Bool := (r.word 9).getLsbD 33
def LaunchRec.mirror (r : LaunchRec) : Nat := fieldN (r.word 9) 35 34
def LaunchRec.depend (r : LaunchRec) : Bool := (r.word 9).getLsbD 36
def LaunchRec.ktag (r : LaunchRec) : W32 := (r.word 13).setWidth 32

/-! The agent that executes, and its scalar registers. -/

/-- An agent by its name. -/
def State.agent (s : State) : AgentId → Agent
  | .warp g w => (s.warp g w).agent
  | .stoker g => (s.stoker g).agent
  | .ctl c => (s.ctlCore c).agent

/-- Replaces an agent. -/
def State.setAgent (s : State) (a : AgentId) (v : Agent) : State :=
  match a with
  | .warp g w => s.updWarp g w fun x => { x with agent := v }
  | .stoker g => s.setStoker g { s.stoker g with agent := v }
  | .ctl c => s.updCtl c fun x => { x with agent := v }

def State.updAgent (s : State) (a : AgentId) (f : Agent → Agent) : State := s.setAgent a (f (s.agent a))

/-- Scalar register r of an agent; s0 reads 0 (07 R180). -/
def Agent.sreg (a : Agent) (r : Reg) : Word := if r == 0 then 0 else Table.get 0 a.sregs r.toNat

/-- Writes a scalar register and clears or sets its poison; a write to s0 is discarded (06 R162, 17 R390). -/
def Agent.setSreg (a : Agent) (r : Nat) (v : Word) (p : Option Prov) : Agent :=
  if r == 0 then a
  else { a with sregs := Table.set 0 r v a.sregs,
                spoison := match p with | none => Table.drop r a.spoison | some t => Table.put r t a.spoison }

/-- S[r] of the executing agent. -/
def State.sreg (s : State) (r : Reg) : Word := (s.agent s.cur).sreg r

/-- S[r] ← v for the executing agent. -/
def State.setSreg (s : State) (r : Reg) (v : Word) : State :=
  s.updAgent s.cur fun a => a.setSreg r.toNat v none

/-- The workgroup of an agent, if it has one. -/
def groupOf : AgentId → Option Nat
  | .warp g _ => some g
  | .stoker g => some g
  | .ctl _ => none

/-! The frontier (04 R110, R111). -/

/-- Whether one frontier position comes before another: higher priority, then lower PC. -/
def Entry.before (a b : Entry) : Bool :=
  decide (b.prio.toNat < a.prio.toNat) || (a.prio == b.prio && decide (a.pc.toNat < b.pc.toNat))

/-- Adds threads to a frontier, merging an entry of the same priority and PC. -/
def frontierAdd (e : Entry) : List Entry → List Entry
  | [] => [e]
  | h :: t =>
    if h.prio == e.prio && h.pc == e.pc then { h with mask := h.mask ||| e.mask } :: t
    else if e.before h then e :: h :: t
    else h :: frontierAdd e t

/-- The frontier of a list of entries, without empty ones. -/
def frontierOf (es : List Entry) : List Entry :=
  es.foldl (fun acc e => if e.mask == 0 then acc else frontierAdd e acc) []

/-- The head of a warp: its first frontier entry. -/
def Warp.head (w : Warp) : Entry := w.frontier.headD ⟨0, 0, 0⟩

/-- The replay masks without some threads at a PC: they no longer re-execute that instruction. -/
def replayWithout (pc : Word) (m : Mask) (rs : List Replay) : List Replay :=
  (rs.map fun r => if r.pc == pc then { r with head := r.head &&& ~~~m } else r).filter fun r => r.head != 0

/-- Moves the head's threads to the given entries (an entry per part of the head); what they re-executed is over. -/
def Warp.moveHead (w : Warp) (es : List Entry) : Warp :=
  { w with frontier := frontierOf (w.frontier.drop 1 ++ es), replay := replayWithout w.head.pc w.head.mask w.replay }

/-- The program counter of an agent's next instruction. -/
def State.pcOf (s : State) : AgentId → Word
  | .warp g w => (s.warp g w).head.pc
  | .stoker g => (s.stoker g).pc
  | .ctl c => (s.ctlCore c).pc

/-- The PC of the executing agent. -/
def State.pc (s : State) : Word := s.pcOf s.cur

/-- Sets the PC of every head thread of an agent. -/
def State.setPcOf (s : State) (a : AgentId) (pc : Word) : State :=
  match a with
  | .warp g w => s.updWarp g w fun x => x.moveHead [{ x.head with pc := pc }]
  | .stoker g => s.setStoker g { s.stoker g with pc := pc }
  | .ctl c => s.updCtl c fun x => { x with pc := pc }

/-- Moves the executing agent to `pc`. -/
def State.setPc (s : State) (pc : Word) : State := s.setPcOf s.cur pc

/-- Next (07 R180): the PC after an instruction of `len` bytes. -/
def State.nextPc (s : State) (len : Nat) : Word := s.pc + BitVec.ofNat 64 len

/-- Moves the executing agent past an instruction of `len` bytes. -/
def State.advance (s : State) (len : Nat) : State := s.setPc (s.nextPc len)

/-- Writes S[sd] and moves past the instruction. -/
def State.writeNext (s : State) (len : Nat) (sd : Reg) (v : Word) : State := (s.setSreg sd v).advance len

/-- HeadThreads (07 R180): the threads of the executing warp's head; 1 for other agents. -/
def State.headMask (s : State) : Mask :=
  match s.cur with
  | .warp g w => (s.warp g w).head.mask
  | _ => 1

/-- The threads an instruction is executed for: the head, or the lanes of its replay mask when it is re-executed
(09 R243, 16 R380). -/
def Warp.issueMask (w : Warp) : Mask :=
  w.replay.foldl (fun m r => if r.pc == w.head.pc && !r.rows then m &&& ~~~(r.head &&& ~~~r.parts) else m) w.head.mask

/-! Vector registers, predicates and generators. -/

/-- The key of lane l of vn (04 R115). -/
def vkey (n l : Nat) : Nat := n * 64 + l

/-- V[n][l] at 32 bits. -/
def Warp.v (w : Warp) (n l : Nat) : W32 := Table.get 0 w.vregs (vkey n l)

/-- V[n][l] of a pair as one 64-bit value (04 R115). -/
def Warp.v64 (w : Warp) (n l : Nat) : Word := w.v (n + 1) l ++ w.v n l

/-- Marks the 4 KiB segment of vn dirty (16 R385). -/
def Warp.markWindow (w : Warp) (n : Nat) : Warp := { w with dirty := w.dirty ||| BitVec.ofNat 8 (2 ^ (n / 16)) }

/-- Writes V[n][l] and its poison. -/
def Warp.setV (w : Warp) (n l : Nat) (x : W32) (p : Option Prov) : Warp :=
  Warp.markWindow { w with vregs := Table.set 0 (vkey n l) x w.vregs,
                           vpoison := match p with
                             | none => Table.drop (vkey n l) w.vpoison
                             | some t => Table.put (vkey n l) t w.vpoison } n

/-- Writes a 64-bit value to a pair. -/
def Warp.setV64 (w : Warp) (n l : Nat) (x : Word) : Warp :=
  (w.setV n l (x.setWidth 32) none).setV (n + 1) l ((x >>> 32).setWidth 32) none

/-- Predicate pk over the threads; p7 reads 1 (06 R162). -/
def Warp.pred (w : Warp) (k : Nat) : Mask := if k == 7 then BitVec.allOnes 64 else Table.get 0 w.preds k

/-- Writes predicate pk of the threads of `m`; a write to p7 is discarded. -/
def Warp.setPred (w : Warp) (k : Nat) (m v : Mask) : Warp :=
  if k == 7 then w else { w with preds := Table.set 0 k (w.pred k &&& ~~~m ||| v &&& m) w.preds }

/-- The active threads under p and pneg (08 R203). -/
def Warp.active (w : Warp) (p : BitVec 3) (pneg : Bool) : Mask :=
  if pneg then ~~~w.pred p.toNat else w.pred p.toNat

/-- Seed (05 R139). -/
def seedOf (seed : W32) (tid : Nat) : W32 :=
  let x := seed ^^^ BitVec.ofNat 32 tid
  if x == 0 then 0x6D2B79F5 else x

/-- RngNext (05 R139): the new state, which is also the draw. -/
def rngNext (x : W32) : W32 :=
  let x := x ^^^ x <<< 13
  let x := x ^^^ x >>> 17
  x ^^^ x <<< 5

/-! Memory. -/

/-- A number for each space, so that one list holds every byte of the machine. -/
def Space.tag : Space → Nat
  | .hbm => 0
  | .host => 1
  | .fabric => 2
  | .inst c => 8 + 2 * c
  | .data c => 9 + 2 * c
  | .die vd d => 64 + 2 * vd + d
  | .scratch g => 2048 + g * 32
  | .window g w => 2048 + g * 32 + 1 + w % 31

/-- The key of a place. -/
def Loc.key (l : Loc) : Nat := 2 ^ 64 * l.space.tag + l.off

/-- The place `n` bytes further on. -/
def Loc.plus (l : Loc) (n : Nat) : Loc := { l with off := l.off + n }

/-- The byte at a key; an unlisted byte reads 0. -/
def memGet (m : Memory) (k : Nat) : Byte := Table.get 0 m k

/-- Writes a byte, keeping the canonical form. -/
def memSet (m : Memory) (k : Nat) (b : Byte) : Memory := Table.set 0 k b m

/-- The canonical form of memory: addresses strictly rising, no listed 0. -/
def Memory.wf (m : Memory) : Bool := Table.wf 0 m

/-- The poison granule of a place, in bytes: 64 for HBM, die scratch and fabric lines, 4 for the core store (17 R390). -/
def Space.granule : Space → Nat
  | .scratch _ | .window _ _ => 4
  | _ => 64

/-- The key of the poison granule that holds a place. -/
def Loc.granuleKey (l : Loc) : Nat := { l with off := l.off / l.space.granule * l.space.granule : Loc }.key

/-- Splits a place of a register window into its register and lane (04 R115). -/
def windowReg (off : Nat) : Nat × Nat := (off / 256, off % 256 / 4)

/-- Reads one byte at its home: a register window reads the warp's register (04 R116). -/
def State.readByte (s : State) (l : Loc) : Byte :=
  match l.space with
  | .window g w =>
    let (n, t) := windowReg l.off
    ((s.warp g w).v n t >>> (l.off % 4 * 8)).setWidth 8
  | _ => memGet s.mem l.key

/-- The poison of the granule that holds a byte. -/
def State.poisonAt (s : State) (l : Loc) : Option Prov :=
  match l.space with
  | .window g w =>
    let (n, t) := windowReg l.off
    Table.look (s.warp g w).vpoison (vkey n t)
  | _ => Table.look s.poison l.granuleKey

/-- Writes one byte of data at its home, poison apart. -/
def State.writeByte (s : State) (l : Loc) (b : Byte) : State :=
  match l.space with
  | .window g w =>
    let (n, t) := windowReg l.off
    s.updWarp g w fun x =>
      let sh := l.off % 4 * 8
      let old := x.v n t
      let v := old &&& ~~~(0xFF#32 <<< sh) ||| b.setWidth 32 <<< sh
      Warp.markWindow { x with vregs := Table.set 0 (vkey n t) v x.vregs } n
  | _ => { s with mem := memSet s.mem l.key b }

/-- Sets or clears the poison of the granule of a place. -/
def State.setPoison (s : State) (l : Loc) (p : Option Prov) : State :=
  match l.space with
  | .window g w =>
    let (n, t) := windowReg l.off
    s.updWarp g w fun x => { x with vpoison := match p with
      | none => Table.drop (vkey n t) x.vpoison
      | some q => Table.put (vkey n t) q x.vpoison }
  | _ => { s with poison := (match p with
              | none => Table.drop l.granuleKey s.poison
              | some q => Table.put l.granuleKey q s.poison) }

/-- Marks the 4 KiB scratchpad segment of a place dirty (16 R385). -/
def State.markDirty (s : State) (l : Loc) : State :=
  match l.space with
  | .scratch g =>
    let n := l.off / 4096
    if (s.group g).dirty.contains n then s else s.updGroup g fun x => { x with dirty := n :: x.dirty }
  | _ => s

/-- The poison a granule has after a write (17 R390): a write of poison keeps the lower tag; unpoisoned data clears the
poison only when it writes the whole granule. -/
def poisonAfter (old written : Option Prov) (whole : Bool) : Option Prov :=
  match written with
  | some p => minProv old (some p)
  | none => if whole then none else old

/-- Whether a list of byte writes covers a whole granule. -/
def coversGranule (ws : List ByteWrite) (k : Nat) (size : Nat) : Bool :=
  decide (size ≤ ((ws.filter fun w => w.loc.granuleKey == k).map fun w => w.loc.off % size).eraseDups.length)

/-- Performs a group of byte writes as one write: bytes first, then the poison of each granule. -/
def State.performWrites (s : State) (ws : List ByteWrite) : State :=
  let s1 := ws.foldl (fun s w => (s.writeByte w.loc w.byte).markDirty w.loc) s
  let grans := ws.foldl (fun (acc : List Loc) w => if acc.any (·.granuleKey == w.loc.granuleKey) then acc else w.loc :: acc) []
  grans.foldl (fun st l =>
    let written := lowestProv ((ws.filter fun w => w.loc.granuleKey == l.granuleKey).map (·.prov))
    let after := poisonAfter (s.poisonAt l) written (coversGranule ws l.granuleKey l.space.granule)
    if after == st.poisonAt l then st else st.setPoison l after) s1

/-- Writes bytes from a place on, with one poison tag. -/
def writesAt (l : Loc) (bs : List Byte) (p : Option Prov) : List ByteWrite :=
  (List.range bs.length).map fun i => ⟨l.plus i, listGet 0 bs i, p⟩

/-- Reads `n` bytes from a place on. -/
def State.readBytes (s : State) (l : Loc) (n : Nat) : List Byte := (List.range n).map fun i => s.readByte (l.plus i)

/-- The lowest poison tag of `n` bytes. -/
def State.poisonOf (s : State) (l : Loc) (n : Nat) : Option Prov :=
  lowestProv ((List.range n).map fun i => s.poisonAt (l.plus i))

/-- A 64-bit word of HBM. -/
def State.hbmWord (s : State) (a : Nat) : Word := wordOf (s.readBytes ⟨.hbm, a⟩ 8)

/-- Writes unpoisoned bytes at a place. -/
def State.store (s : State) (l : Loc) (bs : List Byte) : State := s.performWrites (writesAt l bs none)

/-! Counted operations (04 R120, R121). -/

/-- Whether an operation has completed by itself. -/
def Op.over (o : Op) : Bool := match o.work with | .finished => true | _ => false

/-- The operations of a class in issue order, without those counted complete: within a class completions count in issue
order, so the finished ones before the first unfinished one are gone. -/
def Agent.outstanding (a : Agent) (c : OpClass) : List Op :=
  (a.ops.filter fun o => o.cls == c).dropWhile Op.over

/-- The counter of a class. -/
def Agent.count (a : Agent) (c : OpClass) : Nat := (a.outstanding c).length

/-- Drops operations that are counted complete. -/
def Agent.settle (a : Agent) : Agent :=
  { a with ops := a.ops.filter fun o => (a.outstanding o.cls).any fun x => x.id == o.id }

/-- A fresh identity. -/
def State.fresh (s : State) : Nat × State := (s.uid, { s with uid := s.uid + 1 })

/-- Adds a counted operation to an agent. -/
def State.addOp (s : State) (a : AgentId) (c : OpClass) (w : OpWork) : Nat × State :=
  let (n, s) := s.fresh
  (n, s.updAgent a fun x => { x with ops := x.ops ++ [⟨n, c, w⟩] })

/-- The operation of an agent with an identity. -/
def State.op? (s : State) (a : AgentId) (n : Nat) : Option Op := (s.agent a).ops.find? fun o => o.id == n

/-- Replaces what remains of an operation, and drops what is counted complete. -/
def State.setWork (s : State) (a : AgentId) (n : Nat) (w : OpWork) : State :=
  s.updAgent a fun x => Agent.settle { x with ops := x.ops.map fun (o : Op) => if o.id == n then { o with work := w } else o }

/-- Whether a class already has 63 outstanding operations, so that one more would bring it to 64 (04 R121). -/
def State.classFull (s : State) (a : AgentId) (c : OpClass) : Bool := decide (63 ≤ (s.agent a).count c)

/-- Sends a message out of the device. -/
def State.send (s : State) (m : Message) : State := { s with sent := s.sent ++ [m] }

/-- Logs an event to a pair of control cores (2 the fault pair). -/
def State.logEvent (s : State) (code vd : Nat) : State := s.send (.event 2 code vd)

/-- Draws the number of the next free value. -/
def State.drawFree (s : State) : Nat × State := (s.free, { s with free := s.free + 1 })

/-! Error records and paired executions (17 R391, R398). -/

/-- A record that the fault pair makes of an error: while fewer than 128 exist the next index, then that of the oldest closed one,
and of the oldest when none is closed (17 R391, log 83). One of which nothing is left to be done counts as closed. Answers the tag
that names it. -/
def State.newError (s : State) (unit cause : Nat) (peer : Option Prov) : Prov × State :=
  let i := if s.errors.length < 128 then s.errors.length
    else (((s.errors.find? (·.closed)).map (·.index)).getD ((s.errors.map (·.index)).headD 0))
  (BitVec.ofNat 12 (unit * 128 + i),
    { s with errors := s.errors.filter (fun e => e.index != i) ++ [⟨i, BitVec.ofNat 5 unit, BitVec.ofNat 8 cause, peer, none, true⟩] })

/-- Whether the fault pair has an action for the record of a tag still to finish (17 R397, R401). -/
def State.errorOpen (s : State) (p : Prov) : Bool :=
  s.errors.any fun e => e.index == p.toNat % 128 && e.unit.toNat == p.toNat / 128 && !e.closed

/-- A count that saturates at the top of its field. -/
def addSat {n : Nat} (x : BitVec n) (k : Nat) : BitVec n := BitVec.ofNat n (min (x.toNat + k) (2 ^ n - 1))

/-- What the comparison of a workgroup's coming paired execution finds; nothing without paired issue (03 R75, 17 R398). -/
def State.pairTurn (s : State) (g : Nat) : PairDiffer × State :=
  if (s.launchOf g).paired then (s.pairing.headD ⟨[], []⟩, { s with pairing := s.pairing.drop 1 }) else (⟨[], []⟩, s)

/-- Mismatches that a retry cured, and elements poisoned, are counted for the VD (17 R400). -/
def State.countPair (s : State) (vd : Nat) (d : PairDiffer) : State :=
  if d.differ.isEmpty && d.still.isEmpty then s
  else s.updVd vd fun v => { v with
    pairFix := addSat v.pairFix (d.differ.filter fun x => !d.still.contains x).length
    pairPois := addSat v.pairPois d.still.length }

/-- The tag of elements that still differ after the retry, where there are any: UNIT `unit` with a new record (17 R391, R398). -/
def State.pairTag (s : State) (unit : Nat) (d : PairDiffer) : Option Prov × State :=
  if d.still.isEmpty then (none, s)
  else
    let (p, s) := s.newError unit 0x07 none
    (some p, s)

/-! Taking a trap (16 R374-R380) and a machine check (19 R430-R432). -/

/-- The TRAPCAUSE word (07 R199). -/
def causeWord (c : Cause) (second : Option Cause) (code : Nat) (prov : Option Prov) : Word :=
  BitVec.ofNat 64 (c.code + (match second with | some x => x.code * 2 ^ 8 | none => 0) + 2 ^ 16 * (code % 2 ^ 16) +
    (match c, prov with | .poison, some p => 2 ^ 32 * p.toNat | _, _ => 0))

/-- A machine check of the security core; a second one before its restart completes leaves it halted for good (19 R432). -/
def State.securityCheck (s : State) (code : Nat) : State :=
  let dead := !(s.ctlCore 6).loaded
  let s : State := { s with pf := { s.pf with
    secMc := BitVec.ofNat 3 code
    secDead := s.pf.secDead || dead } }
  (s.updCtl 6 fun x => { x with halted := true, loaded := false }).send (.pfMsix 2)

/-- A machine check of control core `c` with a code of 19 R430: it halts, its peer and CCSTAT receive the code, and a takeover
is due, the pair halts for want of a standby, or the pair goes on without its standby (19 R431, R432). -/
def State.machineCheck (s : State) (c code : Nat) : State :=
  if c == 6 then s.securityCheck code
  else
    let p := c / 2
    let peer := c + 1 - 2 * (c % 2)
    let s := s.updPair p fun x => { x with mcause := BitVec.ofNat 3 code, mcpeer := BitVec.ofNat 8 code }
    let s := s.updCtl c fun x => { x with halted := true, loaded := false }
    if (s.ctlCore c).active then
      if (s.pair p).standby then s.updPair p fun x => { x with takeover := some c }
      else (s.updPair p fun x => { x with lost := true }).send (.pfMsix 2)
    else
      (s.updPair p fun x => { x with standby := false }).updCtl peer fun x => { x with peerUp := false }

/-- Whether a pair's role stands still: it has halted, or its takeover is under way (19 R431). -/
def State.roleStopped (s : State) (p : Nat) : Bool := (s.pair p).lost || (s.pair p).takeover.isSome

/-- Whether the security core serves requests, and whether it is restarting (19 R432). -/
def State.secUp (s : State) : Bool := (s.ctlCore 6).loaded
def State.secWaits (s : State) : Bool := !s.secUp && !s.pf.secDead

/-- Whether a warp's innermost handler is a trap handler, or a slice handler. -/
def Warp.inTrapHandler (w : Warp) : Bool :=
  match w.handler with
  | h :: _ => h.kind != .slice
  | [] => false
def Warp.inSliceHandler (w : Warp) : Bool :=
  match w.handler with
  | h :: _ => h.kind == .slice
  | [] => false

/-- Whether a warp holds a trap that is to be delivered: one that came while its slice handler runs is held until that handler has
executed TRET (16 R377, R389). -/
def Warp.due (w : Warp) : Bool := !w.held.isEmpty && !w.inSliceHandler

/-- Raises the halt broadcast in a workgroup that is not halted (16 R376): skid counts start at 0. -/
def State.haltBroadcast (s : State) (g : Nat) : State :=
  match (s.group g).halt with
  | some _ => s
  | none => s.updGroup g fun x => { x with
      halt := some (.trap false),
      warps := x.warps.map fun w => { w with agent := { w.agent with skid := 0 } },
      stoker := x.stoker.map fun k => { k with agent := { k.agent with skid := 0 } } }

/-- Whether a synchronous trap of a warp is unhandled (16 R375): the grid has no handler, or the warp raised it in a handler.
A counted operation that was issued before the handler was entered raised its trap outside it (R377). -/
def State.unhandled (s : State) (g w : Nat) (op : Option Nat) : Bool :=
  (s.launchOf g).thpc == 0 || (s.warp g w).handler.any fun h =>
    match op with
    | some n => decide (h.entered ≤ n)
    | none => true

/-- Holds a synchronous trap for the warp that raised it, behind those it already holds (16 R377); an unhandled one dooms
the gang (R375). A workgroup whose warp is in its slice handler is not halted for it. -/
def State.holdTrap (s : State) (a : AgentId) (op : Option Nat) (c : Cause) (prov : Option Prov) (t : TrapRec) : State :=
  match a with
  | .warp g w =>
    if s.unhandled g w op then s.updGroup g fun x => { x with doomed := some (x.doomed.getD (c, prov.getD 0)) }
    else (if (s.warp g w).inSliceHandler then s else s.haltBroadcast g).updWarp g w fun x =>
      { x with held := x.held ++ [t], replay := replayWithout t.pc t.mask x.replay }
  | .stoker g => s.updGroup g fun x => { x with doomed := some (x.doomed.getD (c, prov.getD 0)) }
  | .ctl c => s.machineCheck c 3

/-- The executing agent's trap with a cause: TRAPPC is the instruction's PC, TRAPMASK the head, and `lanes`, `lanes2` and
`addr` go to s90 to s92 (16 R379). `replay` is the mask of parts to perform again. -/
def State.trapWith (s : State) (c : Cause) (second : Option Cause) (prov : Option Prov) (lanes lanes2 : Mask) (addr : Word)
    (replay : Option Mask) : State :=
  let m := s.headMask
  s.holdTrap s.cur none c prov ⟨.sync, causeWord c second 0 prov, s.pc, m, lanes, lanes2, addr,
    replay.map fun r => ⟨s.pc, m, r, false⟩⟩

/-- A whole-instruction trap of the executing agent with an address in s92 (16 R379): s90 is TRAPMASK. -/
def State.trapAt (s : State) (c : Cause) (addr : Word) : State := s.trapWith c none none s.headMask 0 addr none

/-- A whole-instruction trap without an address. -/
def State.trap (s : State) (c : Cause) : State := s.trapAt c 0

/-- The frontier block of a warp (16 R378), with the replay mask of the trapped instruction. -/
def Warp.block (w : Warp) (r : Option Replay) : FrontierBlock :=
  ⟨w.frontier, (match r with | some x => replayWithout x.pc x.head w.replay ++ [x] | none => w.replay), w.groups⟩

/-- Handler entry (16 R378): the frontier block is saved, every unexited thread holds (0, entry), and the trap record is
written. -/
def Warp.enterHandler (w : Warp) (uid : Nat) (entry : Word) (t : TrapRec) : Warp :=
  let all := (w.frontier.map (·.mask) ++ w.groups.flatMap fun g => g.parked.map (·.at_.mask)).foldl (· ||| ·) 0
  { w with
    handler := ⟨t.kind, uid, w.block t.replay, t.pc, t.mask⟩ :: w.handler
    frontier := frontierOf [⟨0, entry, all⟩]
    groups := []
    replay := []
    trapCause := t.cause
    trapPc := t.pc
    trapMask := t.mask
    agent := { (((w.agent.setSreg 90 t.s90 none).setSreg 91 t.s91 none).setSreg 92 t.s92 none) with wait := none } }

/-- Moves threads of a frontier to a PC. -/
def moveThreads (fr : List Entry) (m : Mask) (pc : Word) : List Entry :=
  frontierOf (fr.map (fun e => { e with mask := e.mask &&& ~~~m }) ++
    fr.map (fun e => { e with mask := e.mask &&& m, pc := pc }))

/-- TRET (16 R380): restores the frontier block; the trapped threads take PC = TRAPPC, and the replay mask is kept when
TRAPPC still holds its value at entry. -/
def Warp.leaveHandler (w : Warp) : Warp :=
  match w.handler with
  | [] => w
  | h :: hs =>
    let live := ~~~(w.exited ||| w.unstarted)
    let keep (es : List Entry) := es.map fun e => { e with mask := e.mask &&& live }
    let fr := keep h.saved.frontier
    let groups := h.saved.groups.filterMap fun g =>
      let pk := (g.parked.map fun (p : ParkedAt) => { p with at_ := { p.at_ with mask := p.at_.mask &&& live } }).filter
        fun (p : ParkedAt) => p.at_.mask != 0
      if pk.isEmpty then none else some { g with mask := g.mask &&& ~~~w.exited, parked := pk }
    let w := { w with handler := hs, groups := groups }
    match h.kind with
    | .async => { w with frontier := frontierOf fr, replay := h.saved.replay }
    | .sync =>
      { w with frontier := moveThreads fr h.mask w.trapPc
               replay := if w.trapPc == h.entryPc then h.saved.replay else replayWithout h.entryPc h.mask h.saved.replay }
    | .slice =>
      let same := w.trapPc == h.entryPc
      { w with frontier := if same then frontierOf fr else moveThreads fr h.mask w.trapPc
               replay := if same then h.saved.replay else replayWithout h.entryPc h.mask h.saved.replay }

end Sys2Proof.Machine
end

