-- ==== Sys2Proof/Machine/Translate.lean ====
section
/-! DEFINITION. Nested translation (12 R292-R303): table entries, the walks of both stages, and the A and D updates. -/

namespace Sys2Proof.Machine

/-- The permissions an access needs (12 R296): R, W and X. -/
structure Need where
  r : Bool
  w : Bool
  x : Bool
  deriving DecidableEq, Repr

def Need.read : Need := ⟨true, false, false⟩
def Need.write : Need := ⟨false, true, false⟩
def Need.update : Need := ⟨true, true, false⟩
def Need.fetch : Need := ⟨false, false, true⟩

/-- Why a walk gave no address (12 R296, R455): an entry not present, with its stage, the VD-physical page of an absent
stage-2 leaf, and whether that page holds a stage-1 table; a copy-before-write leaf; or a permission. -/
inductive WalkFault where
  | absent (stage2 : Bool) (vdpa : Nat) (table : Bool)
  | cbw (pa : Nat)
  | permission (logged : Bool)
  deriving DecidableEq, Repr

/-- VD table fields (02 R40, 03 R83). -/
def Vd.word (v : Vd) (i : Nat) : Word := listGet 0 v.entry i
def Vd.setWord (v : Vd) (i : Nat) (w : Word) : Vd := { v with entry := listSet v.entry i w }
def Vd.state (v : Vd) : Nat := fieldN (v.word 0) 2 0
def Vd.setState (v : Vd) (n : Nat) : Vd := v.setWord 0 (putField (v.word 0) 2 0 n)

/-- Whether a VF's registers respond (02 R37). -/
def Vd.responds (v : Vd) : Bool := v.state == 2 || v.state == 3 || v.state == 4

/-- Whether the engines accept a VD's work: it is LIVE and no KILL is under way (02 R41, 17 R402). -/
def Vd.works (v : Vd) : Bool := v.state == 2 && v.kill.isNone

def Vd.part (v : Vd) : Bool := (v.word 0).getLsbD 3
def Vd.qfirst (v : Vd) : Nat := fieldN (v.word 0) 13 4
def Vd.qcount (v : Vd) : Nat := fieldN (v.word 0) 20 14
def Vd.cores (v : Vd) : Nat := fieldN (v.word 0) 29 21
def Vd.destroyPend (v : Vd) : Bool := (v.word 0).getLsbD 30
def Vd.s2root (v : Vd) : Nat := fieldN (v.word 1) 51 0
def Vd.hbmQuota (v : Vd) : Nat := fieldN (v.word 2) 31 0
def Vd.vspan (v : Vd) : Nat := fieldN (v.word 2) 51 32
def Vd.weight (v : Vd) : Nat := fieldN (v.word 3) 10 0
def Vd.slice (v : Vd) : Nat := fieldN (v.word 3) 27 11
def Vd.vt (v : Vd) : Word := v.word 4
def Vd.hbmDamp (v : Vd) : Nat := fieldN (v.word 5) 31 0
def Vd.linkDamp (v : Vd) : Nat := fieldN (v.word 5) 63 32
def Vd.inUse (v : Vd) : Nat := fieldN (v.word 6) 8 0
def Vd.backlog (v : Vd) : Bool := (v.word 6).getLsbD 9

/-- Entry fields (12 R294). -/
def pteP (e : Word) : Bool := e.getLsbD 0
def pteLeaf (e : Word) : Bool := e.getLsbD 1
def pteAddr (e : Word) : Nat := 4096 * fieldN e 51 12
def pteTgt (e : Word) : Nat := fieldN e 11 10

/-- Whether a present entry at a level keeps the format of 12 R294 and R295. -/
def pteOk (stage2 : Bool) (lvl : Nat) (e : Word) : Bool :=
  fieldN e 63 59 == 0 &&
  if pteLeaf e then
    decide (lvl ≤ 3) && !e.getLsbD 9 && (if stage2 then !e.getLsbD 8 && pteTgt e != 3 else pteTgt e == 0) &&
    (lvl == 1 || !e.getLsbD 7) && (lvl != 2 || fieldN e 20 12 == 0) && (lvl != 3 || fieldN e 29 12 == 0)
  else decide (1 < lvl) && fieldN e 11 2 == 0

/-- Whether a leaf permits what an access needs. -/
def ptePermits (e : Word) (n : Need) : Bool := (!n.r || e.getLsbD 2) && (!n.w || e.getLsbD 3) && (!n.x || e.getLsbD 4)

/-- The bytes a leaf of a level maps. -/
def levelSize (lvl : Nat) : Nat := 2 ^ (12 + 9 * (lvl - 1))

/-- The index of an address at a level (12 R293). -/
def levelIndex (lvl a : Nat) : Nat := a / levelSize lvl % 512

/-! Translation caches (12 R297, R299). -/

/-- Who walks: a core, the flue engine or walker of a compute die, or a unit of the I/O die (12 R297, R298). -/
inductive Site where
  | core (c : Nat)
  | die (d : Nat)
  | io
  deriving DecidableEq, Repr

/-- The walk cache of a site. -/
def Site.walker : Site → Nat
  | .core c => dieOf c
  | .die d => d
  | .io => 2

/-- The translation caches of a site with their sizes: the core's L1 and its cluster's L2, or the I/O die's. -/
def Site.caches : Site → List (Nat × Nat)
  | .core c => [(c, 64), (512 + 20 * dieOf c + clusterOf c, 2048)]
  | .die _ => []
  | .io => [(1024, 2048)]

/-- The bits of a site in a translation-sharer vector: clusters in bits 39:0, the compute dies in 41:40, the I/O die in 42. -/
def Site.shares : Site → BitVec 43
  | .core c => BitVec.ofNat 43 (2 ^ (20 * dieOf c + clusterOf c) + 2 ^ (40 + dieOf c))
  | .die d => BitVec.ofNat 43 (2 ^ (40 + d))
  | .io => BitVec.ofNat 43 (2 ^ 42)

/-- Whether the coming translation uses the caches and is kept in them (log 95). -/
def State.lookaside (s : State) : Bool × State := (s.tlbChoice.headD false, { s with tlbChoice := s.tlbChoice.drop 1 })

/-- Whether a cached translation serves an access: it grants what is needed, and a write finds both D bits set. -/
def Cached.serves (c : Cached) (n : Need) : Bool := (!n.r || c.r) && (!n.w || (c.w && c.dirty)) && (!n.x || c.x)

/-- The cached translation of a page that serves an access at a site. -/
def State.cachedFor (s : State) (site : Site) (vd : Nat) (root : Option Nat) (page : Nat) (n : Need) : Option Cached :=
  site.caches.findSome? fun k => (Table.get [] s.tlb k.1).find? fun c =>
    c.vd == vd && c.root == root && c.page == page && c.serves n

/-- Keeps a translation in the caches of a site; the oldest leaves a full one. -/
def State.keepCached (s : State) (site : Site) (c : Cached) : State :=
  { s with tlb := site.caches.foldl (fun t k => Table.put k.1 ((c :: (Table.get [] t k.1).filter fun x =>
      !(x.vd == c.vd && x.root == c.root && x.page == c.page)).take k.2) t) s.tlb }

/-- The entry that a site's walk cache holds at an address of a stage. -/
def State.walkCached (s : State) (site : Site) (vd : Nat) (stage2 : Bool) (addr : Nat) : Option WalkEntry :=
  (Table.get [] s.walks site.walker).find? fun e => e.vd == vd && e.stage2 == stage2 && e.addr == addr

/-- Keeps a non-leaf entry in a site's walk cache of 4,096 entries. -/
def State.keepWalk (s : State) (site : Site) (e : WalkEntry) : State :=
  { s with walks := Table.put site.walker ((e :: (Table.get [] s.walks site.walker).filter fun x =>
      !(x.vd == e.vd && x.stage2 == e.stage2 && x.addr == e.addr)).take 4096) s.walks }

/-- Records lines in the directory as read by a walker for a site (12 R299). -/
def State.recordLines (s : State) (site : Site) (ls : List Nat) : State :=
  { s with tables := ls.foldl (fun t l => Table.put l (Table.get 0 t l ||| site.shares) t) s.tables }

/-- Invalidates, at every sharer, each translation derived from some lines (12 R299, R300). -/
def State.invalidate (s : State) (ls : List Nat) : State :=
  { s with
    tlb := s.tlb.map fun e => (e.1, e.2.filter fun c => !c.lines.any ls.contains)
    walks := s.walks.map fun e => (e.1, e.2.filter fun c => !c.lines.any ls.contains)
    tables := s.tables.map fun e => (e.1, if ls.contains e.1 then 0 else e.2) }

/-- Drops every cached translation of a VD (17 R402). -/
def State.forgetVd (s : State) (vd : Nat) : State :=
  { s with
    tlb := s.tlb.map fun e => (e.1, e.2.filter fun c => c.vd != vd)
    walks := s.walks.map fun e => (e.1, e.2.filter fun c => c.vd != vd) }

/-! The walks. -/

/-- A leaf found by a walk: the HBM address of its entry, the entry, and the address it gives. -/
structure LeafHit where
  at_ : Nat
  entry : Word
  addr : Nat
  deriving DecidableEq, Repr

/-- What a stage-2 walk comes to: the lines it is derived from, the non-leaf entries it read, and the leaf or the fault. -/
structure Walked where
  lines : List Nat
  inner : List (Nat × Word)
  found : Except WalkFault LeafHit

/-- The stage-2 walk from a table, level by level (12 R292, R293); `known` gives the non-leaf entries that the walk cache holds. -/
def walkStage2 (s : State) (known : Nat → Option Word) : Nat → Nat → Nat → Walked
  | 0, _, _ => ⟨[], [], .error (.permission true)⟩
  | lvl + 1, table, pa =>
    let slot := table + levelIndex (lvl + 1) pa * 8
    let e := (known slot).getD (s.hbmWord slot)
    if !pteP e then ⟨[slot / 64], [], .error (.absent true (4096 * (pa / 4096)) false)⟩
    else if !pteOk true (lvl + 1) e then ⟨[slot / 64], [], .error (.permission true)⟩
    else if pteLeaf e then ⟨[slot / 64], [], .ok ⟨slot, e, pteAddr e + pa % levelSize (lvl + 1)⟩⟩
    else
      let w := walkStage2 s known lvl (pteAddr e) pa
      ⟨slot / 64 :: w.lines, (slot, e) :: w.inner, w.found⟩

/-- Sets A, and D for a write, in a leaf (12 R303): the entry is a byte of flags at its address, bits 5 and 6. -/
def State.markLeaf (s : State) (l : Loc) (e : Word) (write : Bool) : State :=
  let e' := e ||| 0x20 ||| (if write then 0x40 else 0)
  if e' == e then s else s.writeByte l (e'.setWidth 8)

/-- Where a stage-2 leaf points (12 R294 TGT). -/
def leafLoc (h : LeafHit) : Loc :=
  match pteTgt h.entry with
  | 1 => ⟨.host, h.addr⟩
  | 2 => ⟨.fabric, h.addr⟩
  | _ => ⟨.hbm, h.addr⟩

/-- The stage-2 walk of a VD-physical address by a site, with what it leaves behind (12 R293, R294, R299, R303): the lines
recorded, a malformed entry logged, the leaf's A bit set, and its D bit for a write that the leaf permits (log 81). `use` says
whether the walk cache serves and keeps entries. -/
def State.stage2Walk (s : State) (site : Site) (use : Bool) (vd pa : Nat) (n : Need) (marksD : Bool) :
    Except WalkFault LeafHit × List Nat × State :=
  let v := s.vd vd
  if 2 ^ 30 * v.vspan ≤ pa then (.error (.permission false), [], s)
  else
    let w := walkStage2 s (fun a => if use then (s.walkCached site vd true a).map (·.entry) else none) 5 v.s2root pa
    let s := s.recordLines site w.lines
    let s := if use then w.inner.foldl (fun s e => s.keepWalk site ⟨vd, true, e.1, e.2, [e.1 / 64]⟩) s else s
    match w.found with
    | .error (.permission true) => (.error (.permission true), w.lines, s.logEvent 0x12 vd)
    | .error f => (.error f, w.lines, s)
    | .ok h =>
      let permits := ptePermits h.entry n
      let s := s.markLeaf ⟨.hbm, h.at_⟩ h.entry (n.w && marksD && permits)
      (if permits then .ok h else .error (.permission false), w.lines, s)

/-- Stage 2 of a VD-physical address for a unit of the I/O die (12 R292, R293, R296, R297). -/
def State.stage2 (s : State) (vd pa : Nat) (n : Need) : Except WalkFault Loc × State :=
  let (use, s) := s.lookaside
  match (if use then s.cachedFor .io vd none (pa / 4096) n else none) with
  | some c => (.ok (c.loc.plus (pa % 4096)), s)
  | none =>
    match s.stage2Walk .io use vd pa n true with
    | (.error f, _, s) => (.error f, s)
    | (.ok h, lines, s) =>
      let e := h.entry
      let l := leafLoc h
      (.ok l, if use then s.keepCached .io ⟨vd, none, pa / 4096, { l with off := l.off - pa % 4096 }, e.getLsbD 2, e.getLsbD 3,
        e.getLsbD 4, e.getLsbD 6 || n.w, lines⟩ else s)

/-- A stage-1 table entry, read through stage 2, whose leaf must map HBM (12 R292, R294): its place, the entry and the lines it is
derived from. -/
def State.tableWord (s : State) (site : Site) (use : Bool) (vd pa : Nat) : Except WalkFault (Loc × Word) × List Nat × State :=
  match (if use then s.walkCached site vd false pa else none) with
  | some e => (.ok (⟨.hbm, 0⟩, e.entry), e.lines, s)
  | none =>
    match s.stage2Walk site use vd pa Need.read false with
    | (.error (.absent st a _), ls, s) => (.error (.absent st a true), ls, s)
    | (.error e, ls, s) => (.error e, ls, s)
    | (.ok h, ls, s) =>
      let l := leafLoc h
      match l.space with
      | .hbm => (.ok (l, wordOf (s.readBytes l 8)), ls ++ [l.off / 64], s.recordLines site [l.off / 64])
      | _ => (.error (.permission true), ls, s.logEvent 0x12 vd)

/-- The stage-1 walk from a VD-physical table, level by level (12 R292, R293): the leaf's place, entry and VD-physical
address. -/
def walkStage1 (site : Site) (use : Bool) (vd : Nat) (va : Nat) : Nat → Nat → State →
    Except WalkFault (Loc × Word × Nat) × List Nat × State
  | 0, _, s => (.error (.permission false), [], s)
  | lvl + 1, table, s =>
    let at_ := table + levelIndex (lvl + 1) va * 8
    match s.tableWord site use vd at_ with
    | (.error e, ls, s) => (.error e, ls, s)
    | (.ok (l, e), ls, s) =>
      if !pteP e then (.error (.absent false 0 false), ls, s)
      else if !pteOk false (lvl + 1) e then (.error (.permission false), ls, s)
      else if pteLeaf e then (.ok (l, e, pteAddr e + va % levelSize (lvl + 1)), ls, s)
      else
        let s := if use then s.keepWalk site ⟨vd, false, at_, e, ls⟩ else s
        let (r, ls', s) := walkStage1 site use vd va lvl (pteAddr e) s
        (r, ls ++ ls', s)

/-- The stage-1 root of a queue (02 R55). -/
def Queue.root (q : Queue) : Nat := 4096 * fieldN q.qs1 51 12

/-- Nested translation of a tenant virtual address by a site (12 R292-R297, R303). -/
def State.translate (s : State) (site : Site) (vd root va : Nat) (n : Need) : Except WalkFault Loc × State :=
  let (use, s) := s.lookaside
  match (if use then s.cachedFor site vd (some root) (va / 4096) n else none) with
  | some c => (.ok (c.loc.plus (va % 4096)), s)
  | none =>
    match walkStage1 site use vd va 5 root s with
    | (.error e, _, s) => (.error e, s)
    | (.ok (l, e, pa), ls, s) =>
      let cbw := n.w && e.getLsbD 8
      let permits := ptePermits e n
      let s := s.markLeaf l e (n.w && permits && !cbw)
      if !permits then (.error (.permission false), s)
      else
        match s.stage2Walk site use vd pa n (!cbw) with
        | (.error (.permission b), _, s) => (.error (.permission b), s)
        | (.error f, _, s) => (.error (if cbw then .cbw pa else f), s)
        | (.ok h, ls', s) =>
          if cbw then (.error (.cbw pa), s)
          else
            let f := h.entry
            let loc := leafLoc h
            let both (i : Nat) : Bool := e.getLsbD i && f.getLsbD i
            (.ok loc, if use then s.keepCached site ⟨vd, some root, va / 4096, { loc with off := loc.off - va % 4096 }, both 2,
              both 3 && !e.getLsbD 8, both 4, both 6 || n.w, ls ++ ls'⟩ else s)

/-- The compute die that holds an HBM address: the lower half of the 384 GiB is die 0's four stacks (log 8). -/
def hbmDie (a : Nat) : Nat := if a < 192 * 2 ^ 30 then 0 else 1

end Sys2Proof.Machine
end

