-- ==== Sys2Proof/Machine/Coherence.lean ====
section
/-! DEFINITION. Ownership and the unowned L1 words, ordering points, and tracked stores (12 R299-R304; 13 R319-R323, R327). -/

namespace Sys2Proof.Machine

/-- The core of an agent that has one. -/
def State.coreOf (s : State) (a : AgentId) : Option Nat := (groupOf a).map fun g => (s.group g).core

/-- Invalidates the unowned words of a core's L1. -/
def State.acquireCore (s : State) (c : Nat) : State := s.updCore c fun x => { x with l1 := [] }

/-- An acquire by an agent invalidates the unowned words of its core's L1 (13 R323). -/
def State.acquire (s : State) (a : AgentId) : State :=
  match s.coreOf a with
  | some c => s.acquireCore c
  | none => s

/-- The HBM word addresses that some writes touch. -/
def hbmWords (ws : List ByteWrite) : List Nat :=
  ((ws.filter fun w => w.loc.space == .hbm).map fun w => w.loc.off / 4).eraseDups

/-- A store of a core registers each HBM word it writes for that core, which then holds no unowned copy of it (13 R321). -/
def State.ownWords (s : State) (a : AgentId) (ws : List ByteWrite) : State :=
  match s.coreOf a with
  | some c =>
    let ks := hbmWords ws
    { s.updCore c fun x => { x with l1 := ks.foldl (fun t k => Table.drop k t) x.l1 } with
      owners := ks.foldl (fun t k => Table.put k c t) s.owners }
  | none => { s with owners := (hbmWords ws).foldl (fun t k => Table.drop k t) s.owners }

/-- Performs an agent's writes at their homes. -/
def State.performBy (s : State) (a : AgentId) (ws : List ByteWrite) : State := (s.ownWords a ws).performWrites ws

/-- Writes that come from outside the cores: before they complete, the home revokes the ownership of each word they write
(13 R321, R327). -/
def State.performOutside (s : State) (ws : List ByteWrite) : State :=
  { s with owners := (hbmWords ws).foldl (fun t k => Table.drop k t) s.owners }.performWrites ws

/-- The words of `n` HBM bytes leave every L1: their ownership ends and no copy stays (12 R315). -/
def State.revoke (s : State) (at_ n : Nat) : State :=
  let out (k : Nat) : Bool := decide (k * 4 + 4 ≤ at_) || decide (at_ + n ≤ k * 4)
  { s with
    owners := s.owners.filter fun e => out e.1
    cores := s.cores.map fun e => (e.1, if e.2.l1.all fun x => out x.1 then e.2 else { e.2 with l1 := e.2.l1.filter fun x => out x.1 }) }

/-- The lines recorded as read by a walker among those that some writes touch (12 R299). -/
def State.trackedLines (s : State) (ws : List ByteWrite) : List Nat :=
  (((ws.filter fun w => w.loc.space == .hbm).map fun w => w.loc.off / 64).eraseDups).filter fun l => (Table.look s.tables l).isSome

/-- A pending store reaches its ordering point (13 R320): its writes are performed; one to tracked lines then waits for its
completion point (12 R300). -/
def State.orderOp (s : State) (a : AgentId) (o : Op) : State :=
  match o.work with
  | .store m ws pk rm =>
    if ws.isEmpty then (if pk.isEmpty && rm.isEmpty then s.setWork a o.id .finished else s)
    else
      let ls := s.trackedLines ws
      (s.performBy a ws).setWork a o.id
        (if !ls.isEmpty then .tracked m [] pk rm ls else if pk.isEmpty && rm.isEmpty then .finished else .store m [] pk rm)
  | _ => s

/-- The keys of the bytes that a pending store writes. -/
def Op.keys (o : Op) : List Nat :=
  match o.work with
  | .store _ ws _ _ => ws.map fun w => w.loc.key
  | _ => []

/-- Whether a pending store writes host memory. -/
def Op.writesHost (o : Op) : Bool :=
  match o.work with
  | .store _ ws _ _ => ws.any fun w => w.loc.space == .host
  | _ => false

/-- The pending stores among an agent's operations that must be performed before an access to some bytes, in issue order: each
that touches one of them, or a byte of a later one taken; and those to host memory before one to host memory, which leave in
program order (13 R319, R327). -/
def mustPrecede (ks : List Nat) (host : Bool) (ops : List Op) : List Op :=
  (ops.foldr (fun o (acc : List Op × List Nat × Bool) =>
    if o.keys.any acc.2.1.contains || (acc.2.2 && o.writesHost) then (o :: acc.1, acc.2.1 ++ o.keys, acc.2.2 || o.writesHost) else acc)
    ([], ks, host)).1

/-- Performs an agent's pending stores that touch any of some bytes, so that its later access at the home follows them
(13 R319). -/
def State.flushOverlap (s : State) (a : AgentId) (ks : List Nat) : State :=
  (mustPrecede ks false (s.agent a).ops).foldl (fun s o => s.orderOp a o) s

/-- Performs the stores of an agent that come before operation `id` and must precede writes to some bytes. -/
def State.flushBefore (s : State) (a : AgentId) (id : Nat) (ks : List Nat) (host : Bool) : State :=
  (mustPrecede ks host ((s.agent a).ops.takeWhile fun o => o.id != id)).foldl (fun s o => s.orderOp a o) s

/-- STORE_ORDERING_POINT of a pending store (13 R320), after those that must precede it. -/
def State.orderStore (s : State) (a : AgentId) (id : Nat) : State :=
  match s.op? a id with
  | some o =>
    let s := s.flushBefore a id o.keys o.writesHost
    s.orderOp a o
  | none => s

/-- Every agent of the workgroups. -/
def State.tenantAgents (s : State) : List AgentId :=
  s.groups.flatMap fun e => (List.range e.2.warps.length).map (AgentId.warp e.1) ++
    (match e.2.stoker with | some _ => [AgentId.stoker e.1] | none => [])

/-- Performs every pending store of every tenant agent, in each agent's order, so that accesses made with an old translation reach
their ordering points (12 R300). -/
def State.flushAgents (s : State) : State :=
  s.tenantAgents.foldl (fun s a => (s.agent a).ops.foldl (fun s o => s.orderOp a o) s) s

/-- The home's part of a tracked store to some lines (12 R300): derived translations are invalidated, and accesses that used them
reach their ordering points. -/
def State.retranslate (s : State) (ls : List Nat) : State := if ls.isEmpty then s else (s.invalidate ls).flushAgents

/-- A write by a unit that keeps no counted operation, with its completion point (12 R300). -/
def State.engineStore (s : State) (ws : List ByteWrite) : State :=
  (s.performOutside ws).retranslate (s.trackedLines ws)

/-- The same for a write that an agent's core registers. -/
def State.engineStoreBy (s : State) (a : AgentId) (ws : List ByteWrite) : State :=
  (s.performBy a ws).retranslate (s.trackedLines ws)

end Sys2Proof.Machine
end

