-- ==== Sys2Proof/Machine/Faults.lean ====
section
/-! DEFINITION. Fault records as they are made, and interrupts (12 R308-R311, 02 R73, R74). -/

namespace Sys2Proof.Machine

/-- FQSTAT.WAITING (12 R308): a post waits. -/
def Vd.fqWaiting (v : Vd) : Bool := v.faults.any fun f => f.index.isNone

/-- Whether a fault is the paging engine's to resolve (12 R313). -/
def Vd.engineFault (v : Vd) (stage2 : Bool) : Bool := stage2 && !v.guest

/-- Where a fault was found: its page (VD-physical when `phys`), the stage and VD-physical page of the absent entry, and
whether the walk could not read a stage-1 table (12 R311, R455). -/
structure AbsentAt where
  page : Nat
  phys : Bool
  stage2 : Bool
  vdpa : Nat
  table : Bool
  cbw : Bool
  deriving DecidableEq, Repr

/-- Who made the access of a fault, for its record (12 R311). -/
structure FaultBy where
  source : Nat
  ktag : W32
  queue : Nat
  ctag : Nat
  fetch : Bool
  write : Bool
  detail : Word
  deriving DecidableEq, Repr

/-- The four words of a fault record, PHASE apart (12 R311, R455). -/
def faultWords (f : AbsentAt) (b : FaultBy) (engine : Bool) : List Word :=
  let flag (c : Bool) (n : Nat) := if c then n else 0
  [BitVec.ofNat 64 (4096 * (f.page / 4096) + flag f.phys 16 + flag f.stage2 8 + flag b.fetch 4 + flag b.write 2),
   BitVec.ofNat 64 (if f.stage2 && !f.phys then 4096 * (f.vdpa / 4096) else 0),
   BitVec.ofNat 64 (b.ktag.toNat + 2 ^ 32 * (b.queue % 64) + 2 ^ 38 * (if f.table then 7 else b.source) +
     2 ^ 42 * (if f.table then 0 else b.ctag) + flag engine (2 ^ 48)),
   if f.table then 0 else b.detail]

/-- An IRT entry (02 R73). -/
def State.irtEntry (s : State) (n : Nat) : Irt := Table.get ⟨0, 0, false⟩ s.irt n
def State.setIrt (s : State) (n : Nat) (e : Irt) : State := { s with irt := Table.put n e s.irt }

/-- The reset value of a word of an MSI-X table: PCIe's, with each entry masked (log 8). -/
def msixReset (k : Nat) : Word := if k % 2 == 1 then 0x100000000#64 else 0

/-- Delivers the pending messages of a VD's MSI-X table that are not masked (02 R74): an entry of the table is 16 bytes,
its vector control word bit 0 the mask. -/
def State.deliverMsix (s : State) (vd : Nat) : State :=
  let v := s.vd vd
  let ready := (List.range 64).filter fun n => v.msixPending.getLsbD n && !(Table.get (msixReset 1) v.msix (2 * n + 1)).getLsbD 32
  ready.foldl (fun s n => (s.updVd vd fun v => { v with msixPending := setBit v.msixPending n false }).send (.msix vd n)) s

/-- Sends `n` messages through an entry's vector. -/
def State.sendVector (s : State) (owner vec : Nat) : Nat → State
  | 0 => s
  | n + 1 => ((s.updVd owner fun v => { v with msixPending := v.msixPending ||| BitVec.ofNat 64 (2 ^ vec) }).deliverMsix
      owner).sendVector owner vec n

/-- Sends what the rules of 02 R74 let go through an entry. -/
def State.flushIrt (s : State) (n : Nat) : State :=
  let e := s.irtEntry n
  let count := fieldN e.word 23 16
  let owner := fieldN e.word 9 1
  let vec := fieldN e.word 15 10
  if e.word.getLsbD 32 || e.pending == 0 then s
  else if count == 0 then (s.setIrt n { e with pending := 0, due := false }).sendVector owner vec e.pending
  else if count ≤ e.pending || e.due then (s.setIrt n { e with pending := 0, due := false }).sendVector owner vec 1
  else s

/-- An interrupt requested through an entry with a source VD (02 R74). -/
def State.interrupt (s : State) (entry source : Nat) : State :=
  let e := s.irtEntry entry
  if !e.word.getLsbD 0 || fieldN e.word 9 1 != source then s.logEvent 0x10 source
  else (s.setIrt entry { e with pending := e.pending + 1 }).flushIrt entry

end Sys2Proof.Machine
end

