-- ==== Sys2Proof/Machine/Access.lean ====
section
/-! DEFINITION. How an agent's access finds its bytes (09 R230-R244): the address windows, the checks of range locks,
seals and ghost slabs, the L1, and the classification of each lane. -/

namespace Sys2Proof.Machine

/-- What an address names for an agent before translation (09 R230; 19 R420): a tenant virtual address, a place, or a
PERMISSION fault. -/
inductive Target where
  | virt (va : Nat)
  | at_ (l : Loc) (limit : Nat)
  | none
  deriving DecidableEq, Repr

/-- The gang of a workgroup: its members by member number (03 R94, 04 R124), ended ones too while the gang keeps their scratchpads
(09 R231). -/
def State.gangMember (s : State) (g k : Nat) : Option Nat :=
  let x := s.group g
  let size := (s.launchOf g).gang
  if size ≤ k then none
  else (s.groups.find? fun e => e.2.grid == x.grid && e.2.wgid == x.wgid / size * size + k && e.2.residence != .ended).map (·.1)

/-- The die-scratch extent of a VD in bytes (09 R234). -/
def Vd.dieScratch (v : Vd) : Nat := 2 ^ 20 * v.dsGrant.toNat

/-- Decodes a generic address for an agent (09 R230; 19 R420). -/
def State.target (s : State) (a : AgentId) (x : Word) : Target :=
  match a with
  | .ctl c =>
    if x.getLsbD 63 then .at_ ⟨.data c, fieldN x 62 0⟩ (128 * 1024)
    else if fieldN x 62 52 == 0 then .at_ ⟨.hbm, x.toNat⟩ (2 ^ 52) else .none
  | _ =>
    let g := (groupOf a).getD 0
    let off := fieldN x 56 0
    if !x.getLsbD 63 then (if fieldN x 62 57 == 0 then .virt x.toNat else .none)
    else
      let k := fieldN x 59 57
      match fieldN x 62 60 with
      | 0 => if k == 0 then .at_ ⟨.scratch g, off⟩ (s.group g).extent else .none
      | 1 =>
        match s.gangMember g k with
        | some p => .at_ ⟨.scratch p, off⟩ (s.group p).extent
        | none => .none
      | 2 =>
        match a with
        | .warp _ w => if k == 0 then .at_ ⟨.window g w, off⟩ ((s.group g).vregs * 256) else .none
        | _ => .none
      | 3 =>
        let x := s.group g
        if k == 0 then .at_ ⟨.die x.vd (dieOf x.core), off⟩ (s.vd x.vd).dieScratch else .none
      | _ => .none

/-- The address span that checks compare: tenant virtual or a space (10 R261, R270). -/
structure Span where
  virt : Bool
  space : Space
  lo : Nat
  len : Nat
  deriving DecidableEq, Repr

/-- The span of `n` bytes from a target. -/
def Target.span (t : Target) (n : Nat) : Option Span :=
  match t with
  | .virt va => some ⟨true, .hbm, va, n⟩
  | .at_ l _ => some ⟨false, l.space, l.off, n⟩
  | .none => Option.none

/-- Whether two spans share a byte. -/
def Span.meets (x y : Span) : Bool :=
  x.virt == y.virt && (x.virt || x.space == y.space) && decide (x.lo < y.lo + y.len) && decide (y.lo < x.lo + x.len)

/-- The bytes from the lowest to the highest of a layout (10 R259). -/
def LayoutRec.extent (l : LayoutRec) : Nat :=
  let e := 2 ^ l.elog
  let dims := (List.range 4).map fun k => (listGet 1 l.ext k - 1) * (if k == 0 then e else listGet 0 l.strides (k - 1))
  dims.foldl (· + ·) 0 + e

/-- The total bytes of a layout's elements (10 R259). -/
def LayoutRec.total (l : LayoutRec) : Nat := l.ext.foldl (· * ·) 1 * 2 ^ l.elog

/-- Whether an access of an agent breaks one of its workgroup's seals (10 R261). -/
def State.breaksSeal (s : State) (a : AgentId) (x : Span) (writes : Bool) : Bool :=
  match groupOf a with
  | none => false
  | some g => (s.group g).seals.any fun l =>
      (l.mode == 2 || (l.mode == 1 && writes)) &&
      match (s.target a l.base).span l.extent with
      | some y => x.meets y
      | none => false

/-- The core that checks locks for a span: the agent's own for tenant addresses, the bank's for local windows (10 R271). -/
def State.lockCore (s : State) (a : AgentId) (x : Span) : Nat :=
  match x.virt, x.space with
  | false, .scratch g => (s.group g).core
  | false, .window g _ => (s.group g).core
  | _, _ => (s.group ((groupOf a).getD 0)).core

/-- Where an agent's accesses are translated (12 R297). -/
def State.siteOf (s : State) (a : AgentId) : Site := .core ((s.coreOf a).getD 0)

/-- The VD and stage-1 root that an agent works for (12 R292). -/
def State.vdOf (s : State) (a : AgentId) : Nat := (s.group ((groupOf a).getD 0)).vd
def State.rootOf (s : State) (a : AgentId) : Nat :=
  (s.queue (s.grid (s.group ((groupOf a).getD 0)).grid).queue).root

/-- Whether an access takes RANGE_LOCK (10 R271): a load against write locks, a store or atomic against every lock. -/
def State.locked (s : State) (a : AgentId) (x : Span) (writes : Bool) : Bool :=
  match a with
  | .ctl _ => false
  | _ =>
    let vd := (s.group ((groupOf a).getD 0)).vd
    (s.core (s.lockCore a x)).locks.any fun k =>
      k.vd == vd && (!k.virt || k.root == s.rootOf a) && (writes || k.write) && (⟨k.virt, k.space, k.lo, k.hi + 1 - k.lo⟩ : Span).meets x

/-- The padded extent of a dimension (14 R342). -/
def GridRec.padded (r : GridRec) (k : Nat) : Nat :=
  listGet 0 r.ghost (2 * k) + listGet 1 r.ext k + listGet 0 r.ghost (2 * k + 1)

/-- The half-open range of a dimension's indices that a slab covers (14 R343). -/
def GridRec.slabRange (r : GridRec) (f k : Nat) : Nat × Nat :=
  let lo := listGet 0 r.ghost (2 * k)
  let hi := lo + listGet 1 r.ext k
  if f / 2 == k then (if f % 2 == 0 then (0, lo) else (hi, r.padded k)) else (lo, hi)

/-- Whether a run of consecutive (y, z) rows, numbered y + PY * z, meets the rows of a slab. -/
def rowsMeet (py y0 y1 z0 z1 lo hi : Nat) : Bool :=
  let lo := max lo (py * z0)
  let hi := min hi (py * z1)
  if hi ≤ lo || y1 ≤ y0 then false
  else if py ≤ hi - lo then true
  else
    let z := lo / py
    let hit (b : Nat) := decide (max lo (b * py + y0) < min hi (b * py + y1))
    hit z || hit (z + 1)

/-- Whether the bytes [lo, lo + len), counted from BASE, meet the slab of face f (14 R343). -/
def GridRec.slabMeets (r : GridRec) (f lo len : Nat) : Bool :=
  let e := 2 ^ r.elog
  let (x0, x1) := r.slabRange f 0
  let (y0, y1) := r.slabRange f 1
  let (z0, z1) := r.slabRange f 2
  let px := r.padded 0 * e
  if x1 ≤ x0 || len == 0 then false
  else
    -- row t holds bytes t * px + [x0 * e, x1 * e)
    let first := if lo < x1 * e then 0 else (lo - x1 * e) / px + 1
    let last := if lo + len ≤ x0 * e then 0 else (lo + len - 1 - x0 * e) / px + 1
    rowsMeet (r.padded 1) y0 y1 z0 z1 first last

/-- The faces that exist (14 R342). -/
def GridRec.faces (r : GridRec) : List Nat := List.range (2 * r.ndim)

/-- The partition states attached to a workgroup, with their keys. -/
def State.attachedParts (s : State) (g : Nat) : List (Nat × Partition) :=
  let x := s.group g
  (s.group g).attached.filterMap fun t =>
    s.parts.find? fun p => p.2.vd == x.vd && p.2.record.gridId == t.grid && p.1 / 64 == t.die

/-- The span of some bytes of a partition on a die, counted from its BASE (14 R342). -/
def Partition.span (p : Partition) (die lo len : Nat) : Span :=
  let x := p.record.base + BitVec.ofNat 64 lo
  if x.getLsbD 63 then ⟨false, .die p.vd die, fieldN x 56 0, len⟩ else ⟨true, .hbm, x.toNat, len⟩

/-- The slab of an attached partition that a span meets, if any: the partition's key and the face (14 R348, 09 R248). -/
def State.slabOf (s : State) (a : AgentId) (x : Span) : Option (Nat × Nat) :=
  match groupOf a with
  | none => none
  | some g =>
    (s.attachedParts g).findSome? fun p =>
      let b := p.2.span (p.1 / 64) 0 1
      if b.virt == x.virt && (b.virt || b.space == x.space) && decide (b.lo ≤ x.lo + x.len) then
        let lo := x.lo - b.lo
        let len := x.len - (b.lo - x.lo)
        (p.2.record.faces.find? fun f => p.2.record.slabMeets f lo len).map fun f => (p.1, f)
      else none

/-- What a lane's access needs at translation (12 R296): VRED, the vector atomic that returns nothing, needs W alone. -/
def MemOp.need (m : MemOp) : Need :=
  match m.act with
  | .load | .step _ | .fill | .barrier => Need.read
  | .store | .spill => Need.write
  | .atomic _ keep => if m.vector && !keep then Need.write else Need.update

/-- Whether an access writes for the checks of locks and seals (10 R261, R271). -/
def MemAct.writes : MemAct → Bool
  | .store | .spill | .atomic _ _ => true
  | _ => false

/-- What one access comes to (09 R240). -/
inductive Found where
  | ok (l : Loc)
  | cause (c : Cause) (p : Option Prov)
  | absent (f : AbsentAt)
  deriving DecidableEq, Repr

/-- Whether the firewall refuses an HBM access of an agent (03 R82). -/
def State.firewalled (s : State) (a : AgentId) (l : Loc) : Bool :=
  match a, l.space with
  | .ctl _, _ => false
  | _, .hbm => s.pf.partMode && hbmDie l.off != dieOf (s.group ((groupOf a).getD 0)).core
  | _, .scratch g => s.pf.partMode && dieOf (s.group g).core != dieOf (s.group ((groupOf a).getD 0)).core
  | _, _ => false

/-- A crossing that the firewall of die d refuses is recorded for the VD (03 R81, R82). -/
def State.logCrossingAt (s : State) (d vd : Nat) : State :=
  let n := listGet 0 s.pf.fwCount d
  let s := { s with pf := { s.pf with
    fwCount := listSet s.pf.fwCount d (if n.toNat == 0xFFFF then n else n + 1)
    fwLast := listSet s.pf.fwLast d (BitVec.ofNat 9 vd) } }
  if listGet false s.pf.fwIrq d then s.send (.pfMsix 1) else s

/-- The same for an agent's access. -/
def State.logCrossing (s : State) (a : AgentId) : State :=
  s.logCrossingAt (dieOf (s.group ((groupOf a).getD 0)).core) (s.vdOf a)

/-- Resolves a target to a place: limits, translation, the firewall (09 R230, 12 R296, 03 R82). -/
def State.place (s : State) (a : AgentId) (t : Target) (n : Nat) (need : Need) : Found × State :=
  match t with
  | .none => (.cause .permission none, s)
  | .at_ l limit =>
    if l.off + n ≤ limit then
      if s.firewalled a l then (.cause .permission none, s.logCrossing a) else (.ok l, s)
    else (.cause .permission none, s)
  | .virt va =>
    if 2 ^ 57 < va + n then (.cause .permission none, s)
    else
      match s.translate (s.siteOf a) (s.vdOf a) (s.rootOf a) va need with
      | (.ok l, s) => if s.firewalled a l then (.cause .permission none, s.logCrossing a) else (.ok l, s)
      | (.error (.permission _), s) => (.cause .permission none, s)
      | (.error (.absent st2 vdpa tbl), s) => (.absent ⟨4096 * (va / 4096), false, st2, vdpa, tbl, false⟩, s)
      | (.error (.cbw pa), s) => (.absent ⟨4096 * (pa / 4096), true, false, 0, false, true⟩, s)

/-- Whether a place may take an atomic operation (09 R252, 07 R189): none in a register window; to host memory add,
exchange and compare only. -/
def atomicAllowed (l : Loc) (hostOk : Bool) : Bool :=
  match l.space with
  | .window _ _ => false
  | .host => hostOk
  | _ => true

/-! What a load returns (13 R319, R321). -/

/-- The newest byte that an agent's own pending stores write at a place. -/
def Agent.pending (a : Agent) (k : Nat) : Option (Byte × Option Prov) :=
  a.ops.foldl (fun acc o =>
    match o.work with
    | .store _ ws _ _ => ws.foldl (fun acc w => if w.loc.key == k then some (w.byte, w.prov) else acc) acc
    | _ => acc) none

/-- The pending byte of a core's write-combining buffer at a fabric place (13 R328, 15 R365). -/
def State.combined (s : State) (a : AgentId) (l : Loc) : Option (Byte × Option Prov) :=
  match s.coreOf a with
  | none => none
  | some c => (s.core c).wc.findSome? fun e =>
      if e.vd == (s.group ((groupOf a).getD 0)).vd && e.line == l.off / 64 then
        (e.bytes.find? fun b => b.1 == l.off % 64).map (·.2)
      else none

/-- One byte as an agent loads it: its own pending store, an unowned L1 copy, or the home. -/
def State.loadByte (s : State) (a : AgentId) (l : Loc) : Byte × Option Prov :=
  match (s.agent a).pending l.key with
  | some x => x
  | none =>
    match (if l.space == .fabric then s.combined a l else none) with
    | some x => x
    | none =>
      match (if l.space == .hbm then (s.coreOf a).bind fun c => Table.look (s.core c).l1 (l.off / 4) else none) with
      | some w => ((w >>> (l.off % 4 * 8)).setWidth 8, s.poisonAt l)
      | none => (s.readByte l, s.poisonAt l)

/-- The bytes an agent loads from a place on, with the lowest tag among them. -/
def State.loadBytes (s : State) (a : AgentId) (l : Loc) (n : Nat) : List Byte × Option Prov :=
  let xs := (List.range n).map fun i => s.loadByte a (l.plus i)
  (xs.map (·.1), lowestProv (xs.map (·.2)))

/-- Drops a core's unowned copies of some HBM bytes. -/
def State.dropCopies (s : State) (a : AgentId) (l : Loc) (n : Nat) : State :=
  match l.space, s.coreOf a with
  | .hbm, some c => s.updCore c fun x => { x with l1 :=
      (List.range ((l.off + n - 1) / 4 + 1 - l.off / 4)).foldl (fun t i => Table.drop (l.off / 4 + i) t) x.l1 }
  | _, _ => s

/-- Leaves unowned copies of the HBM words that a load read in its core's L1; a word that the core has registered is its own, and is
no unowned copy (13 R321). -/
def State.keepCopies (s : State) (a : AgentId) (l : Loc) (n : Nat) : State :=
  match l.space, s.coreOf a with
  | .hbm, some c =>
    let w0 := l.off / 4
    let words := ((List.range ((l.off + n - 1) / 4 + 1 - w0)).map (· + w0)).filter fun w => Table.look s.owners w != some c
    s.updCore c fun x => { x with l1 := words.foldl (fun t w =>
      match Table.look t w with
      | some _ => t
      | none => Table.put w (BitVec.ofNat 32 (leN (s.readBytes ⟨.hbm, w * 4⟩ 4))) t) x.l1 }
  | _, _ => s

/-- Whether the coming load of HBM bytes by an agent uses its core's unowned copies and leaves one (13 R321). -/
def State.l1Turn (s : State) (a : AgentId) (l : Loc) : Bool × State :=
  match l.space, s.coreOf a with
  | .hbm, some _ => (s.l1Choice.headD false, { s with l1Choice := s.l1Choice.drop 1 })
  | _, _ => (false, s)

/-- One byte's copies have left the L1 where the coming load does not use them, or must not: a step-tagged load reads what the retag
it observed covers, never an older copy (09 R248, 14 R351). -/
def State.loadTurn (s : State) (a : AgentId) (l : Loc) (n : Nat) (tagged : Bool) : Bool × State :=
  let (keep, s) := s.l1Turn a l
  (keep, if keep && !tagged then s else s.dropCopies a l n)

/-- Whether a release of an agent may be performed before its operation `upTo` (all operations with none): every earlier store has
reached its ordering point, every earlier load has bound its value, its earlier queue operations are complete, and nothing of them
stands in a write-combining buffer (13 R322). -/
def State.releasedBefore (s : State) (a : AgentId) (upTo : Option Nat) : Bool :=
  let earlier (n : Nat) : Bool := match upTo with | some k => decide (n < k) | none => true
  ((s.agent a).ops.all fun o => !earlier o.id ||
    match o.work with
    | .store _ _ _ _ | .tracked _ _ _ _ _ | .queue _ => false
    | .load _ _ waiting parked remote _ => waiting.isEmpty && parked.isEmpty && remote.isEmpty
    | _ => true) &&
  match s.coreOf a with
  | some c => (s.core c).wc.all fun e => e.writers.all fun w => w.1 != a || !earlier w.2
  | none => true

def State.released (s : State) (a : AgentId) : Bool := s.releasedBefore a none

/-- Whether every earlier load of an agent has bound its value: an acquire fence is performed only then (13 R324). -/
def State.loadsBound (s : State) (a : AgentId) : Bool :=
  (s.agent a).ops.all fun o =>
    match o.work with
    | .load _ _ waiting parked remote _ => waiting.isEmpty && parked.isEmpty && remote.isEmpty
    | .tracked _ rs parked remote _ => rs.isEmpty && parked.isEmpty && remote.isEmpty
    | _ => true

/-- Whether an earlier load of an agent still has its acquire to perform (13 R323). -/
def State.acquiring (s : State) (a : AgentId) : Bool :=
  (s.agent a).ops.any fun o =>
    match o.work with
    | .load m _ _ _ _ _ => m.acquires
    | .tracked m _ _ _ _ => m.acquires
    | _ => false

end Sys2Proof.Machine
end

