-- ==== Sys2Proof/Machine/General.lean ====
section
/-! DEFINITION. The general form that each instruction stands for (06 R151): the class and function of 06 R166, and for a
compact or short encoding the general fields that 06 R153 and R155 to R157 give. -/

namespace Sys2Proof

/-- The payload bits 63:18 of WAIT (06 R159). -/
def waitBits (o : WaitOp) : BitVec 46 := (o.tiles ++ o.copies ++ o.stores ++ o.loads : BitVec 24).setWidth 46

/-- The general fields of a compact operation on two registers (06 R153): vd = va, va = va, vb = vb. -/
def compact (t : Ty) (o : CV) : GV :=
  ⟨if o.pred then 0 else 7, false, t, .rne, false, 0, o.va.setWidth 7, o.va.setWidth 7, o.vb.setWidth 7, 0⟩

/-- The general fields of C.MOV and C.NOT (06 R153): vd = va, va = vb, vb = 0. -/
def compactUnary (t : Ty) (o : CV) : GV :=
  ⟨if o.pred then 0 else 7, false, t, .rne, false, 0, o.va.setWidth 7, o.vb.setWidth 7, 0, 0⟩

/-- The general fields of an S32-V3 form (06 R157). -/
def shortV (t : Ty) (aux : BitVec 6) (o : SV3) : GV := ⟨o.p, false, t, .rne, false, aux, o.vd, o.va, o.vb, 0⟩

/-- The accumulating S32-V3 forms set vc = vd (06 R157). -/
def shortAcc (t : Ty) (o : SV3) : GV := ⟨o.p, false, t, .rne, false, 0, o.vd, o.va, o.vb, o.vd⟩

/-- The short VSEL: p names the selecting predicate, and the general p is 7 (06 R157). -/
def shortSel (o : SV3) : GV := ⟨7, false, .s32, .rne, false, o.p.setWidth 6, o.vd, o.va, o.vb, 0⟩

/-- The general fields of an S32-VI form (06 R155). -/
def shortVI (t : BitVec 2) (o : SVI) : GVI := ⟨o.p, false, o.vd, o.va, t, o.imm.signExtend 32⟩

/-- The general fields of an S32-S3 form (06 R155). -/
def shortS3 (o : SS3) : GS := ⟨o.sd, o.sa, o.sb, 0, 0⟩

/-- The general fields of the short VLD.32 and VST.32 (06 R155). -/
def shortVM (o : SVM) : GM := ⟨o.p, false, .w32, .none, o.vd, o.sa, 0, 0, false, 0, o.imm.signExtend 9⟩

/-- The general form of an instruction; none for an event, and for the fused idiom, which is four instructions. -/
def Instr.form : Instr → Option Form
  | .packageReset => none
  | .bootPhaseComplete _ => none
  | .pcieConfigRequest => none
  | .enterBanked => none
  | .leaveBanked => none
  | .bankedEntryComplete => none
  | .bankedExitComplete _ => none
  | .powerWindowEnd _ => none
  | .thermalSample _ => none
  | .powerOnHour => none
  | .hbmRefreshRaise => none
  | .spdmRequest _ => none
  | .measurementRequest _ _ => none
  | .lifeCycleChange _ => none
  | .create => none
  | .createComplete _ _ => none
  | .destroy => none
  | .destroyDrained _ => none
  | .wipeComplete _ => none
  | .reset => none
  | .setshare => none
  | .query => none
  | .sharemap => none
  | .sharemapComplete _ => none
  | .resetreq _ => none
  | .ashpitDumpDone _ => none
  | .resetDrained _ => none
  | .resetRearm _ => none
  | .queueEnable _ _ => none
  | .queueDisable _ _ => none
  | .queueStopped _ => none
  | .kick _ _ => none
  | .kcconsWrite _ _ => none
  | .faultQueueEnable _ _ => none
  | .fqconsWrite _ _ => none
  | .faultRetry _ _ => none
  | .faultAbort _ _ => none
  | .fqrespAbortStore _ _ => none
  | .dieScratchRequest _ _ => none
  | .dieScratchGrant _ => none
  | .ashbaseWrite _ _ => none
  | .checkpoint _ _ => none
  | .checkpointArmed _ => none
  | .checkpointCommit _ _ => none
  | .restore _ _ _ => none
  | .restoreComplete _ => none
  | .partcfgWrite _ => none
  | .fwlogClear _ _ => none
  | .dscarveWrite _ _ => none
  | .fabcfgWrite _ => none
  | .portEnable _ _ => none
  | .portDisable _ _ => none
  | .ptxtailWrite _ _ => none
  | .prxtailWrite _ _ => none
  | .frameSent _ _ => none
  | .frameReceived _ _ _ => none
  | .registerWrite _ => none
  | .hostWrite _ => none
  | .hostRead _ => none
  | .dispatchDecision _ _ => none
  | .sliceEnd _ _ => none
  | .damperWindowEnd _ => none
  | .bankPowerGate _ _ => none
  | .forwardProgressSwap _ => none
  | .queueWatchdog _ => none
  | .sempollTick _ => none
  | .waitsemTimeout _ => none
  | .launchRecordComplete _ _ => none
  | .systemCopyComplete _ _ => none
  | .fenceqComplete _ _ => none
  | .workgroupEnd _ => none
  | .gridEnd _ => none
  | .loadComplete _ _ => none
  | .storeOrderingPoint _ _ => none
  | .trackedStoreComplete _ _ => none
  | .waitResume _ => none
  | .bwaitComplete _ => none
  | .mwaitReread _ => none
  | .qpopResume _ => none
  | .qpushResume _ => none
  | .queueOpComplete _ _ => none
  | .tagWaitComplete _ => none
  | .gstepResume _ => none
  | .vldstepWake _ _ => none
  | .haloWaitExpire _ _ => none
  | .copySectorComplete _ _ _ => none
  | .copyComplete _ _ => none
  | .copyDeferredStart _ _ => none
  | .streamPush _ _ => none
  | .matrixOpStart _ => none
  | .tileOpComplete _ _ => none
  | .faultPostResume _ => none
  | .pageMigrationComplete _ _ => none
  | .parkedReplay _ _ => none
  | .handlerEntry _ => none
  | .asyncTrap _ => none
  | .sliceBudgetExpire _ => none
  | .contextSave _ => none
  | .gangKill _ => none
  | .gangRelaunch _ _ => none
  | .engineDrained _ _ => none
  | .sharedFrameRepair _ _ _ _ => none
  | .irqCoalesceTimeout _ => none
  | .remoteRequest _ => none
  | .remoteResponse _ _ => none
  | .remoteLoadTimeout _ => none
  | .remoteWriteFailure _ => none
  | .wcAgeFlush _ _ => none
  | .stationStateChange _ _ => none
  | .channelSeal _ _ => none
  | .sealedFlitReceive _ _ _ => none
  | .sealedAckTimer _ _ => none
  | .flitResendTimeout _ _ => none
  | .keyRollover _ _ => none
  | .fluePush _ _ _ => none
  | .slabRetag _ _ _ => none
  | .flueCounterUpdate _ _ _ _ => none
  | .gstepCredit _ _ => none
  | .flueStateDelete _ _ => none
  | .heartbeatExpire _ => none
  | .takeoverHandover _ => none
  | .controlTimerTick => none
  | .coreReloadComplete _ _ _ => none
  | .securityCoreRestart _ => none
  | .fusedSoftmax _ => none
  | .nop => some ⟨8, 0, 1, .sys 0⟩
  | .exit => some ⟨8, 0, 2, .sys 0⟩
  | .yield => some ⟨8, 0, 3, .sys 0⟩
  | .trap c => some ⟨8, 0, 4, .sys (c.setWidth 46)⟩
  | .tret => some ⟨8, 0, 5, .sys 0⟩
  | .prio n => some ⟨8, 0, 6, .sys (n.setWidth 46)⟩
  | .wait o => some ⟨8, 0, 7, .sys (waitBits o)⟩
  | .launch d a => some ⟨8, 0, 8, .sys ((a ++ d : BitVec 14).setWidth 46)⟩
  | .halt => some ⟨8, 0, 9, .sys 0⟩
  | .wfi => some ⟨8, 0, 10, .sys 0⟩
  | .srd d n => some ⟨8, 0, 11, .sys ((n ++ (0 : BitVec 7) ++ d : BitVec 26).setWidth 46)⟩
  | .swr a n => some ⟨8, 0, 12, .sys ((n ++ a ++ (0 : BitVec 7) : BitVec 26).setWidth 46)⟩
  | .sadd o => some ⟨8, 1, 0, .s o⟩
  | .ssub o => some ⟨8, 1, 1, .s o⟩
  | .smul o => some ⟨8, 1, 2, .s o⟩
  | .smulhS o => some ⟨8, 1, 3, .s o⟩
  | .smulhN o => some ⟨8, 1, 4, .s o⟩
  | .sdivS o => some ⟨8, 1, 5, .s o⟩
  | .sdivN o => some ⟨8, 1, 6, .s o⟩
  | .sremS o => some ⟨8, 1, 7, .s o⟩
  | .sremN o => some ⟨8, 1, 8, .s o⟩
  | .sand o => some ⟨8, 1, 9, .s o⟩
  | .sor o => some ⟨8, 1, 10, .s o⟩
  | .sxor o => some ⟨8, 1, 11, .s o⟩
  | .sandn o => some ⟨8, 1, 12, .s o⟩
  | .sshl o => some ⟨8, 1, 13, .s o⟩
  | .sshrS o => some ⟨8, 1, 14, .s o⟩
  | .sshrN o => some ⟨8, 1, 15, .s o⟩
  | .srotr o => some ⟨8, 1, 16, .s o⟩
  | .sminS o => some ⟨8, 1, 17, .s o⟩
  | .sminN o => some ⟨8, 1, 18, .s o⟩
  | .smaxS o => some ⟨8, 1, 19, .s o⟩
  | .smaxN o => some ⟨8, 1, 20, .s o⟩
  | .sclz o => some ⟨8, 1, 21, .s o⟩
  | .sffs o => some ⟨8, 1, 22, .s o⟩
  | .spopc o => some ⟨8, 1, 23, .s o⟩
  | .sbrev o => some ⟨8, 1, 24, .s o⟩
  | .ssel o => some ⟨8, 1, 25, .s o⟩
  | .scmp o => some ⟨8, 1, 26, .s o⟩
  | .sext o => some ⟨8, 1, 27, .s o⟩
  | .smov o => some ⟨8, 1, 28, .s o⟩
  | .sbfx o => some ⟨8, 1, 29, .s o⟩
  | .sbfi o => some ⟨8, 1, 30, .s o⟩
  | .smad o => some ⟨8, 1, 31, .s o⟩
  | .saddi o => some ⟨8, 2, 0, .si o⟩
  | .sandi o => some ⟨8, 2, 1, .si o⟩
  | .sori o => some ⟨8, 2, 2, .si o⟩
  | .sxori o => some ⟨8, 2, 3, .si o⟩
  | .sshli o => some ⟨8, 2, 4, .si o⟩
  | .sshriS o => some ⟨8, 2, 5, .si o⟩
  | .sshriN o => some ⟨8, 2, 6, .si o⟩
  | .sli o => some ⟨8, 2, 7, .si o⟩
  | .slih o => some ⟨8, 2, 8, .si o⟩
  | .scmpi o => some ⟨8, 2, 9, .si o⟩
  | .br o => some ⟨8, 3, 0, .b o⟩
  | .brz o => some ⟨8, 3, 1, .b o⟩
  | .brnz o => some ⟨8, 3, 2, .b o⟩
  | .brc o => some ⟨8, 3, 3, .b o⟩
  | .call o => some ⟨8, 3, 4, .b o⟩
  | .jmpr o => some ⟨8, 3, 5, .b o⟩
  | .callr o => some ⟨8, 3, 6, .b o⟩
  | .ret o => some ⟨8, 3, 7, .b o⟩
  | .brp o => some ⟨8, 3, 8, .b o⟩
  | .loop o => some ⟨8, 3, 9, .b o⟩
  | .sld o => some ⟨8, 4, 0, .si o⟩
  | .sst o => some ⟨8, 4, 1, .si o⟩
  | .satom o => some ⟨8, 4, 2, .s o⟩
  | .vadd o => some ⟨8, 8, 0, .v o⟩
  | .vsub o => some ⟨8, 8, 1, .v o⟩
  | .vmul o => some ⟨8, 8, 2, .v o⟩
  | .vmulh o => some ⟨8, 8, 3, .v o⟩
  | .vmad o => some ⟨8, 8, 4, .v o⟩
  | .vadds o => some ⟨8, 8, 5, .v o⟩
  | .vsubs o => some ⟨8, 8, 6, .v o⟩
  | .vabsd o => some ⟨8, 8, 7, .v o⟩
  | .vmin o => some ⟨8, 8, 8, .v o⟩
  | .vmax o => some ⟨8, 8, 9, .v o⟩
  | .vand o => some ⟨8, 8, 10, .v o⟩
  | .vor o => some ⟨8, 8, 11, .v o⟩
  | .vxor o => some ⟨8, 8, 12, .v o⟩
  | .vandn o => some ⟨8, 8, 13, .v o⟩
  | .vnot o => some ⟨8, 8, 14, .v o⟩
  | .vshl o => some ⟨8, 8, 15, .v o⟩
  | .vshr o => some ⟨8, 8, 16, .v o⟩
  | .vrotr o => some ⟨8, 8, 17, .v o⟩
  | .vclz o => some ⟨8, 8, 18, .v o⟩
  | .vffs o => some ⟨8, 8, 19, .v o⟩
  | .vpopc o => some ⟨8, 8, 20, .v o⟩
  | .vbrev o => some ⟨8, 8, 21, .v o⟩
  | .vsel o => some ⟨8, 8, 22, .v o⟩
  | .vcmp o => some ⟨8, 8, 23, .v o⟩
  | .vaddmin o => some ⟨8, 8, 24, .v o⟩
  | .vbfx o => some ⟨8, 8, 25, .v o⟩
  | .vbfi o => some ⟨8, 8, 26, .v o⟩
  | .vmov o => some ⟨8, 8, 27, .v o⟩
  | .vsrd o => some ⟨8, 8, 28, .v o⟩
  | .vintiVadd o => some ⟨8, 9, 0, .vi o⟩
  | .vintiVand o => some ⟨8, 9, 1, .vi o⟩
  | .vintiVor o => some ⟨8, 9, 2, .vi o⟩
  | .vintiVxor o => some ⟨8, 9, 3, .vi o⟩
  | .vintiVshl o => some ⟨8, 9, 4, .vi o⟩
  | .vintiVshr o => some ⟨8, 9, 5, .vi o⟩
  | .vintiVmin o => some ⟨8, 9, 6, .vi o⟩
  | .vintiVmax o => some ⟨8, 9, 7, .vi o⟩
  | .vintiVcmp o => some ⟨8, 9, 8, .vi o⟩
  | .vmovi o => some ⟨8, 9, 9, .vi o⟩
  | .vintiVaddmin o => some ⟨8, 9, 10, .vi o⟩
  | .fadd o => some ⟨8, 10, 0, .v o⟩
  | .fsub o => some ⟨8, 10, 1, .v o⟩
  | .fmul o => some ⟨8, 10, 2, .v o⟩
  | .ffma o => some ⟨8, 10, 3, .v o⟩
  | .ffms o => some ⟨8, 10, 4, .v o⟩
  | .fmin o => some ⟨8, 10, 5, .v o⟩
  | .fmax o => some ⟨8, 10, 6, .v o⟩
  | .fabs o => some ⟨8, 10, 7, .v o⟩
  | .fneg o => some ⟨8, 10, 8, .v o⟩
  | .fcmp o => some ⟨8, 10, 9, .v o⟩
  | .fclass o => some ⟨8, 10, 10, .v o⟩
  | .fscaleb o => some ⟨8, 10, 11, .v o⟩
  | .frnd o => some ⟨8, 10, 12, .v o⟩
  | .fdiv o => some ⟨8, 10, 13, .v o⟩
  | .faddmin o => some ⟨8, 10, 14, .v o⟩
  | .cvt o => some ⟨8, 11, 0, .v o⟩
  | .pack o => some ⟨8, 11, 1, .v o⟩
  | .unpack o => some ⟨8, 11, 2, .v o⟩
  | .mxscale o => some ⟨8, 11, 3, .v o⟩
  | .vshfl o => some ⟨8, 12, 0, .v o⟩
  | .vshup o => some ⟨8, 12, 1, .v o⟩
  | .vshdn o => some ⟨8, 12, 2, .v o⟩
  | .vrotw o => some ⟨8, 12, 3, .v o⟩
  | .vbcast o => some ⟨8, 12, 4, .v o⟩
  | .vreduce o => some ⟨8, 12, 5, .v o⟩
  | .vscan o => some ⟨8, 12, 6, .v o⟩
  | .qswap o => some ⟨8, 12, 7, .v o⟩
  | .qbcast o => some ⟨8, 12, 8, .v o⟩
  | .vballot o => some ⟨8, 12, 9, .v o⟩
  | .vvote o => some ⟨8, 12, 10, .v o⟩
  | .vmatch o => some ⟨8, 12, 11, .v o⟩
  | .pand o => some ⟨8, 13, 0, .v o⟩
  | .por o => some ⟨8, 13, 1, .v o⟩
  | .pxor o => some ⟨8, 13, 2, .v o⟩
  | .pnot o => some ⟨8, 13, 3, .v o⟩
  | .pset o => some ⟨8, 13, 4, .v o⟩
  | .pget o => some ⟨8, 13, 5, .v o⟩
  | .frcp o => some ⟨8, 14, 0, .v o⟩
  | .frsq o => some ⟨8, 14, 1, .v o⟩
  | .fsqrt o => some ⟨8, 14, 2, .v o⟩
  | .fexp2 o => some ⟨8, 14, 3, .v o⟩
  | .flog2 o => some ⟨8, 14, 4, .v o⟩
  | .fsin o => some ⟨8, 14, 5, .v o⟩
  | .fcos o => some ⟨8, 14, 6, .v o⟩
  | .ftanh o => some ⟨8, 14, 7, .v o⟩
  | .vld o => some ⟨8, 16, 0, .m o⟩
  | .vst o => some ⟨8, 16, 1, .m o⟩
  | .vgather o => some ⟨8, 16, 2, .m o⟩
  | .vscatter o => some ⟨8, 16, 3, .m o⟩
  | .vldstep o => some ⟨8, 16, 4, .m o⟩
  | .vpref o => some ⟨8, 16, 5, .m o⟩
  | .vspill o => some ⟨8, 16, 6, .m o⟩
  | .vfill o => some ⟨8, 16, 7, .m o⟩
  | .vatom o => some ⟨8, 17, 0, .m o⟩
  | .vred o => some ⟨8, 17, 1, .m o⟩
  | .fence o => some ⟨8, 18, 0, .s o⟩
  | .binit o => some ⟨8, 18, 1, .s o⟩
  | .barrive o => some ⟨8, 18, 2, .s o⟩
  | .bwait o => some ⟨8, 18, 3, .s o⟩
  | .btest o => some ⟨8, 18, 4, .s o⟩
  | .wsync o => some ⟨8, 18, 5, .s o⟩
  | .cvinit o => some ⟨8, 18, 6, .s o⟩
  | .mwait o => some ⟨8, 18, 7, .s o⟩
  | .qpush o => some ⟨8, 19, 0, .v o⟩
  | .qpop o => some ⟨8, 19, 1, .v o⟩
  | .qpops o => some ⟨8, 19, 2, .v o⟩
  | .qstat o => some ⟨8, 19, 3, .v o⟩
  | .mma o => some ⟨8, 24, 0, .mm o⟩
  | .mmas o => some ⟨8, 24, 1, .mm o⟩
  | .mmai o => some ⟨8, 24, 2, .mm o⟩
  | .mmax o => some ⟨8, 24, 3, .mm o⟩
  | .awin o => some ⟨8, 25, 0, .mm o⟩
  | .azero o => some ⟨8, 25, 1, .mm o⟩
  | .ald o => some ⟨8, 25, 2, .mm o⟩
  | .ast o => some ⟨8, 25, 3, .mm o⟩
  | .arstat o => some ⟨8, 25, 4, .mm o⟩
  | .cpy o => some ⟨8, 28, 0, .k o⟩
  | .cpyg o => some ⟨8, 28, 1, .k o⟩
  | .cpyz o => some ⟨8, 28, 2, .k o⟩
  | .sealRecord o => some ⟨8, 28, 3, .k o⟩
  | .strdef o => some ⟨8, 28, 4, .k o⟩
  | .strrun o => some ⟨8, 28, 5, .k o⟩
  | .twany o => some ⟨8, 28, 6, .k o⟩
  | .twall o => some ⟨8, 28, 7, .k o⟩
  | .tfirst o => some ⟨8, 28, 8, .k o⟩
  | .tclr o => some ⟨8, 28, 9, .k o⟩
  | .gattach o => some ⟨8, 29, 0, .k o⟩
  | .gstep o => some ⟨8, 29, 1, .k o⟩
  | .gstat o => some ⟨8, 29, 2, .k o⟩
  | .gdetach o => some ⟨8, 29, 3, .k o⟩
  | .kscan o => some ⟨8, 30, 0, .s o⟩
  | .jappend o => some ⟨8, 30, 1, .s o⟩
  | .jread o => some ⟨8, 30, 2, .s o⟩
  | .vdrd o => some ⟨8, 30, 3, .s o⟩
  | .vdwr o => some ⟨8, 30, 3, .s o⟩
  | .qrd o => some ⟨8, 30, 3, .s o⟩
  | .qwr o => some ⟨8, 30, 3, .s o⟩
  | .irtrd o => some ⟨8, 30, 3, .s o⟩
  | .irtwr o => some ⟨8, 30, 3, .s o⟩
  | .vdcmdStart o => some ⟨8, 30, 3, .s o⟩
  | .vdcmdRetire o => some ⟨8, 30, 3, .s o⟩
  | .vdcmdKill o => some ⟨8, 30, 3, .s o⟩
  | .irqsend o => some ⟨8, 30, 4, .s o⟩
  | .chold o => some ⟨8, 30, 5, .s o⟩
  | .crelease o => some ⟨8, 30, 6, .s o⟩
  | .cMov o => some ⟨2, 8, 27, .v (compactUnary .s32 o)⟩
  | .cAddS32 o => some ⟨2, 8, 0, .v (compact .s32 o)⟩
  | .cSubS32 o => some ⟨2, 8, 1, .v (compact .s32 o)⟩
  | .cAnd o => some ⟨2, 8, 10, .v (compact .s32 o)⟩
  | .cOr o => some ⟨2, 8, 11, .v (compact .s32 o)⟩
  | .cXor o => some ⟨2, 8, 12, .v (compact .s32 o)⟩
  | .cShlN32 o => some ⟨2, 8, 15, .v (compact .n32 o)⟩
  | .cShrN32 o => some ⟨2, 8, 16, .v (compact .n32 o)⟩
  | .cFaddF32 o => some ⟨2, 10, 0, .v (compact .f32 o)⟩
  | .cFsubF32 o => some ⟨2, 10, 1, .v (compact .f32 o)⟩
  | .cFmulF32 o => some ⟨2, 10, 2, .v (compact .f32 o)⟩
  | .cFminF32 o => some ⟨2, 10, 5, .v (compact .f32 o)⟩
  | .cFmaxF32 o => some ⟨2, 10, 6, .v (compact .f32 o)⟩
  | .cMinS32 o => some ⟨2, 8, 8, .v (compact .s32 o)⟩
  | .cMaxS32 o => some ⟨2, 8, 9, .v (compact .s32 o)⟩
  | .cNot o => some ⟨2, 8, 14, .v (compactUnary .s32 o)⟩
  | .nopShort => some ⟨4, 0, 1, .sys 0⟩
  | .exitShort => some ⟨4, 0, 2, .sys 0⟩
  | .yieldShort => some ⟨4, 0, 3, .sys 0⟩
  | .trapShort c => some ⟨4, 0, 4, .sys (c.setWidth 46)⟩
  | .tretShort => some ⟨4, 0, 5, .sys 0⟩
  | .prioShort n => some ⟨4, 0, 6, .sys (n.setWidth 46)⟩
  | .haltShort => some ⟨4, 0, 9, .sys 0⟩
  | .wfiShort => some ⟨4, 0, 10, .sys 0⟩
  | .vaddS32Short o => some ⟨4, 8, 0, .v (shortV .s32 0 o)⟩
  | .vsubS32Short o => some ⟨4, 8, 1, .v (shortV .s32 0 o)⟩
  | .vmulS32Short o => some ⟨4, 8, 2, .v (shortV .s32 0 o)⟩
  | .vminS32Short o => some ⟨4, 8, 8, .v (shortV .s32 0 o)⟩
  | .vmaxS32Short o => some ⟨4, 8, 9, .v (shortV .s32 0 o)⟩
  | .vminN32Short o => some ⟨4, 8, 8, .v (shortV .n32 0 o)⟩
  | .vmaxN32Short o => some ⟨4, 8, 9, .v (shortV .n32 0 o)⟩
  | .vandShort o => some ⟨4, 8, 10, .v (shortV .s32 0 o)⟩
  | .vorShort o => some ⟨4, 8, 11, .v (shortV .s32 0 o)⟩
  | .vxorShort o => some ⟨4, 8, 12, .v (shortV .s32 0 o)⟩
  | .vshlN32Short o => some ⟨4, 8, 15, .v (shortV .n32 0 o)⟩
  | .vshrN32Short o => some ⟨4, 8, 16, .v (shortV .n32 0 o)⟩
  | .vshrS32Short o => some ⟨4, 8, 16, .v (shortV .s32 0 o)⟩
  | .faddF32Short o => some ⟨4, 10, 0, .v (shortV .f32 0 o)⟩
  | .fsubF32Short o => some ⟨4, 10, 1, .v (shortV .f32 0 o)⟩
  | .fmulF32Short o => some ⟨4, 10, 2, .v (shortV .f32 0 o)⟩
  | .fminF32Short o => some ⟨4, 10, 5, .v (shortV .f32 0 o)⟩
  | .fmaxF32Short o => some ⟨4, 10, 6, .v (shortV .f32 0 o)⟩
  | .faddBf16x2Short o => some ⟨4, 10, 0, .v (shortV .bf16x2 0 o)⟩
  | .fmulBf16x2Short o => some ⟨4, 10, 2, .v (shortV .bf16x2 0 o)⟩
  | .vselShort o => some ⟨4, 8, 22, .v (shortSel o)⟩
  | .vshflShort o => some ⟨4, 12, 0, .v (shortV .s32 0 o)⟩
  | .vaddminS32Short o => some ⟨4, 8, 24, .v (shortAcc .s32 o)⟩
  | .ffmaF32Short o => some ⟨4, 10, 3, .v (shortAcc .f32 o)⟩
  | .ffmaBf16x2Short o => some ⟨4, 10, 3, .v (shortAcc .bf16x2 o)⟩
  | .vcmpLtS32Short o => some ⟨4, 8, 23, .v (shortV .s32 2 o)⟩
  | .fcmpLtF32Short o => some ⟨4, 10, 9, .v (shortV .f32 2 o)⟩
  | .vintiVaddShort o => some ⟨4, 9, 0, .vi (shortVI 0 o)⟩
  | .vintiVandShort o => some ⟨4, 9, 1, .vi (shortVI 0 o)⟩
  | .vintiVshlShort o => some ⟨4, 9, 4, .vi (shortVI 1 o)⟩
  | .vintiVshrN32Short o => some ⟨4, 9, 5, .vi (shortVI 1 o)⟩
  | .vintiVshrS32Short o => some ⟨4, 9, 5, .vi (shortVI 0 o)⟩
  | .vintiVminShort o => some ⟨4, 9, 6, .vi (shortVI 0 o)⟩
  | .vintiVmaxShort o => some ⟨4, 9, 7, .vi (shortVI 0 o)⟩
  | .vintiVcmpEqShort o => some ⟨4, 9, 8, .vi (shortVI 0 o)⟩
  | .saddShort o => some ⟨4, 1, 0, .s (shortS3 o)⟩
  | .ssubShort o => some ⟨4, 1, 1, .s (shortS3 o)⟩
  | .smulShort o => some ⟨4, 1, 2, .s (shortS3 o)⟩
  | .smulhSShort o => some ⟨4, 1, 3, .s (shortS3 o)⟩
  | .smulhNShort o => some ⟨4, 1, 4, .s (shortS3 o)⟩
  | .sdivSShort o => some ⟨4, 1, 5, .s (shortS3 o)⟩
  | .sdivNShort o => some ⟨4, 1, 6, .s (shortS3 o)⟩
  | .sremSShort o => some ⟨4, 1, 7, .s (shortS3 o)⟩
  | .sremNShort o => some ⟨4, 1, 8, .s (shortS3 o)⟩
  | .sandShort o => some ⟨4, 1, 9, .s (shortS3 o)⟩
  | .sorShort o => some ⟨4, 1, 10, .s (shortS3 o)⟩
  | .sxorShort o => some ⟨4, 1, 11, .s (shortS3 o)⟩
  | .sandnShort o => some ⟨4, 1, 12, .s (shortS3 o)⟩
  | .sshlShort o => some ⟨4, 1, 13, .s (shortS3 o)⟩
  | .sshrSShort o => some ⟨4, 1, 14, .s (shortS3 o)⟩
  | .sshrNShort o => some ⟨4, 1, 15, .s (shortS3 o)⟩
  | .srotrShort o => some ⟨4, 1, 16, .s (shortS3 o)⟩
  | .sminSShort o => some ⟨4, 1, 17, .s (shortS3 o)⟩
  | .sminNShort o => some ⟨4, 1, 18, .s (shortS3 o)⟩
  | .smaxSShort o => some ⟨4, 1, 19, .s (shortS3 o)⟩
  | .smaxNShort o => some ⟨4, 1, 20, .s (shortS3 o)⟩
  | .sclzShort o => some ⟨4, 1, 21, .s (shortS3 o)⟩
  | .sffsShort o => some ⟨4, 1, 22, .s (shortS3 o)⟩
  | .spopcShort o => some ⟨4, 1, 23, .s (shortS3 o)⟩
  | .sbrevShort o => some ⟨4, 1, 24, .s (shortS3 o)⟩
  | .sselShort o => some ⟨4, 1, 25, .s (shortS3 o)⟩
  | .scmpShort o => some ⟨4, 1, 26, .s (shortS3 o)⟩
  | .sextShort o => some ⟨4, 1, 27, .s (shortS3 o)⟩
  | .smovShort o => some ⟨4, 1, 28, .s (shortS3 o)⟩
  | .sbfxShort o => some ⟨4, 1, 29, .s (shortS3 o)⟩
  | .sbfiShort o => some ⟨4, 1, 30, .s (shortS3 o)⟩
  | .smadShort o => some ⟨4, 1, 31, .s (shortS3 o)⟩
  | .saddiShort d a i => some ⟨4, 2, 0, .si ⟨d, a, 0, i.signExtend 32⟩⟩
  | .sliShort d i => some ⟨4, 2, 7, .si ⟨d, 0, 0, i.signExtend 32⟩⟩
  | .sld64Short d a i => some ⟨4, 4, 0, .si ⟨d, a, 3, i.signExtend 32 <<< 3⟩⟩
  | .sst64Short d a i => some ⟨4, 4, 1, .si ⟨d, a, 3, i.signExtend 32 <<< 3⟩⟩
  | .vld32Short o => some ⟨4, 16, 0, .m (shortVM o)⟩
  | .vst32Short o => some ⟨4, 16, 1, .m (shortVM o)⟩
  | .brShort f => some ⟨4, 3, 0, .b ⟨0, 0, 0, false, f.signExtend 32⟩⟩
  | .callShort f => some ⟨4, 3, 4, .b ⟨94, 0, 0, false, f.signExtend 32⟩⟩
  | .brzShort a f => some ⟨4, 3, 1, .b ⟨a, 0, 0, false, f.signExtend 32⟩⟩
  | .brnzShort a f => some ⟨4, 3, 2, .b ⟨a, 0, 0, false, f.signExtend 32⟩⟩
  | .brpShort p n f => some ⟨4, 3, 8, .b ⟨0, 0, p, n, f.signExtend 32⟩⟩
  | .waitShort o => some ⟨4, 0, 7, .sys (waitBits o)⟩
  | .unknownOpCommand => none
  | .mirrorCopyFinished _ _ => none

/-- The general form of an instruction with a form; an event gets the SYS form 0, which is no instruction (06 R166). -/
def Instr.general (i : Instr) : Form := i.form.getD ⟨8, 0, 0, .sys 0⟩

end Sys2Proof
end

