-- ==== Sys2Proof/Machine/Legal.lean ====
section
/-! DEFINITION. What the decoder accepts of each general form (06 R152, R160-R168): which fields a function uses, which
types, codes and register kinds it permits. Checks that depend on the executing agent (vector registers against VREGS,
R162, and R169) are in Machine/Checks.lean. -/

namespace Sys2Proof

/-- The code of a type in a 6-bit field (06 R163). -/
def Ty.code : Ty → BitVec 6
  | .s32 => 0x0 | .n32 => 0x1 | .f32 => 0x2 | .bf16x2 => 0x3 | .f16x2 => 0x4 | .s16x2 => 0x5 | .n16x2 => 0x6
  | .s8x4 => 0x7 | .n8x4 => 0x8 | .e4m3x4 => 0x9 | .e5m2x4 => 0xA | .f64 => 0xB | .s64 => 0xC | .n64 => 0xD
  | .bf16 => 0xE | .f16 => 0xF | .e3m2 => 0x10 | .e2m3 => 0x11 | .e2m1 => 0x12 | .e8m0 => 0x13 | .s8 => 0x14
  | .n8 => 0x15 | .s16 => 0x16 | .n16 => 0x17

/-- The type that a 6-bit field names, if any (06 R163). -/
def Ty.ofCode (c : BitVec 6) : Option Ty :=
  [Ty.s32, .n32, .f32, .bf16x2, .f16x2, .s16x2, .n16x2, .s8x4, .n8x4, .e4m3x4, .e5m2x4, .f64, .s64, .n64, .bf16, .f16,
   .e3m2, .e2m3, .e2m1, .e8m0, .s8, .n8, .s16, .n16][c.toNat]?

/-- The code of a rounding mode (05 R137). -/
def Rnd.code : Rnd → BitVec 3
  | .rne => 0 | .rtz => 1 | .rdn => 2 | .rup => 3 | .rsr => 4

/-- The rounding mode of a code; 5 to 7 are none (05 R137). -/
def Rnd.ofCode (c : BitVec 3) : Option Rnd := [Rnd.rne, .rtz, .rdn, .rup, .rsr][c.toNat]?

/-- The code of a G-M width (06 R164). -/
def Width.code : Width → BitVec 3
  | .w8 => 0 | .w16 => 1 | .w32 => 2 | .w64 => 3 | .w128 => 4

/-- The width of a code; 5 to 7 are none (06 R164). -/
def Width.ofCode (c : BitVec 3) : Option Width := [Width.w8, .w16, .w32, .w64, .w128][c.toNat]?

/-- The bytes of a G-M width. -/
def Width.bytes : Width → Nat
  | .w8 => 1 | .w16 => 2 | .w32 => 4 | .w64 => 8 | .w128 => 16

/-- The vector registers that one thread's data of a G-M width fills (06 R162). -/
def Width.regs : Width → Nat
  | .w8 | .w16 | .w32 => 1 | .w64 => 2 | .w128 => 4

/-- The code of an order (06 R160, R164). -/
def Order.code : Order → BitVec 3
  | .none => 0 | .acq => 1 | .rel => 2 | .acqrel => 3

/-- The order of a code; 4 to 7 are none (06 R164). -/
def Order.ofCode (c : BitVec 3) : Option Order := [Order.none, .acq, .rel, .acqrel][c.toNat]?

/-- Whether an order includes an acquire. -/
def Order.acquires : Order → Bool
  | .acq | .acqrel => true
  | _ => false

/-- Whether an order includes a release. -/
def Order.releases : Order → Bool
  | .rel | .acqrel => true
  | _ => false

/-- The code of a G-MM type (06 R164). -/
def MTy.code : MTy → BitVec 4
  | .bf16 => 0 | .f16 => 1 | .e4m3 => 2 | .e5m2 => 3 | .e3m2 => 4 | .e2m3 => 5 | .e2m1 => 6 | .s8 => 7 | .n8 => 8

/-- The G-MM type of a code; 9 to 15 are none (06 R164). -/
def MTy.ofCode (c : BitVec 4) : Option MTy :=
  [MTy.bf16, .f16, .e4m3, .e5m2, .e3m2, .e2m3, .e2m1, .s8, .n8][c.toNat]?

/-- Whether a type fills a register pair (06 R163). -/
def Ty.pair : Ty → Bool
  | .f64 | .s64 | .n64 => true
  | _ => false

/-- What a 7-bit register field holds (06 R162): nothing, a vector register or pair by the dtype, one vector register,
a vector register or pair by the type in aux6, one or a pair of the sources of PACK, a scalar register, a predicate in
bits 2:0, or an immediate that the function checks itself. -/
inductive FieldKind where
  | none | vec | one | src | pack | scalar | pred | imm
  deriving DecidableEq, Repr

/-- One row of a G-V function table: the types it permits, whether it uses rnd and sat, what aux6 may hold, and what the
four register fields hold. -/
structure LaneRule where
  types : List Ty
  rnd : Bool := false
  sat : Bool := false
  aux : BitVec 6 → Bool := fun a => a == 0
  vd : FieldKind := .vec
  va : FieldKind := .none
  vb : FieldKind := .none
  vc : FieldKind := .none

/-- The type groups of 08 R205. -/
def tyI32 : List Ty := [.s32, .n32]
def tyI64 : List Ty := [.s64, .n64]
def tyIP : List Ty := [.s16x2, .n16x2, .s8x4, .n8x4]
def tyIA : List Ty := tyI32 ++ tyI64 ++ tyIP
def tyFA : List Ty := [.f32, .f64, .bf16x2, .f16x2]
def tyMove : List Ty := [.s32, .s64]
def tySfu : List Ty := [.f32, .bf16x2, .f16x2]

/-- VINT, functions 0 to 28 (08 R206, R207). -/
def vintRules : List LaneRule :=
  let bin : LaneRule := { types := tyIA, va := .vec, vb := .vec }
  let log : LaneRule := { types := tyI32 ++ tyI64, va := .vec, vb := .vec }
  let un : LaneRule := { types := tyIA, va := .vec }
  [bin, bin, bin, bin, { bin with vc := .vec }, bin, bin, bin, bin, bin, log, log, log, log,
   { log with vb := .none }, bin, bin, bin, un, un, un, un,
   { types := tyMove, aux := fun a => a.toNat < 8, va := .vec, vb := .vec },
   { types := tyI32 ++ tyI64, aux := fun a => a.toNat < 6, vd := .pred, va := .vec, vb := .vec },
   { types := [.s32, .n32, .s16x2, .n16x2], va := .vec, vb := .vec, vc := .vec },
   { types := tyI32, va := .vec, vb := .vec, vc := .vec },
   { types := [.s32], va := .vec, vb := .vec, vc := .vec },
   { types := tyMove, va := .vec },
   { types := [.s32], aux := fun a => a.toNat < 4 }]

/-- VFLT, functions 0 to 14 (08 R209-R213). -/
def vfltRules : List LaneRule :=
  let bin : LaneRule := { types := tyFA, rnd := true, sat := true, va := .vec, vb := .vec }
  let sel : LaneRule := { types := tyFA, va := .vec, vb := .vec }
  let un : LaneRule := { types := tyFA, va := .vec }
  [bin, bin, bin, { bin with vc := .vec }, { bin with vc := .vec }, sel, sel, un, un,
   { types := [.f32, .f64], aux := fun a => a.toNat < 8, vd := .pred, va := .vec, vb := .vec },
   { types := [.f32, .f64], va := .vec },
   bin, { un with rnd := true }, bin, { bin with types := tySfu, vc := .vec }]

/-- The destination and source types of CVT (08 R218). -/
def cvtDst : List Ty := [.s32, .n32, .f32, .f64, .s64, .n64, .bf16, .f16]
def cvtSrc : List Ty :=
  [.s32, .n32, .f32, .f64, .s64, .n64, .bf16, .f16, .e3m2, .e2m3, .e2m1, .e8m0, .s8, .n8, .s16, .n16]

/-- The type that aux6 names, when it is one of `l`. -/
def auxTy (l : List Ty) (a : BitVec 6) : Bool :=
  match Ty.ofCode a with
  | some t => l.contains t
  | none => false

/-- VCVT, functions 0 to 3 (08 R218-R221). -/
def vcvtRules : List LaneRule :=
  [{ types := cvtDst, rnd := true, sat := true, aux := auxTy cvtSrc, va := .src },
   { types := [.bf16x2, .f16x2, .e4m3x4, .e5m2x4, .s16x2, .n16x2, .s8x4, .n8x4], rnd := true, sat := true,
     aux := auxTy [.f32, .s32, .n32], va := .pack, vb := .pack },
   { types := [.f32, .s32],
     aux := auxTy [.bf16x2, .f16x2, .e4m3x4, .e5m2x4, .e8m0, .e3m2, .e2m3, .e2m1, .s16x2, .n16x2, .s8x4, .n8x4],
     va := .one, vb := .imm, vc := .one },
   { types := [.f32], aux := auxTy [.e4m3x4, .e5m2x4, .e3m2, .e2m3, .e2m1], va := .vec }]

/-- The offsets of VSHUP, VSHDN and VROTW: a number 0 to 31, or REL with bits 4:3 zero (08 R223). -/
def auxOffset (a : BitVec 6) : Bool := !a.getLsbD 5 || a.extractLsb' 3 2 == 0

/-- VXL, functions 0 to 11 (08 R223-R225). -/
def vxlRules : List LaneRule :=
  let red : LaneRule := { types := [.f32, .f64, .bf16x2, .f16x2] ++ tyI32 ++ tyI64, rnd := true,
                          aux := fun a => a.toNat < 6, va := .vec }
  [{ types := tyMove, va := .vec, vb := .one },
   { types := tyMove, aux := auxOffset, va := .vec, vb := .vec },
   { types := tyMove, aux := auxOffset, va := .vec, vb := .vec },
   { types := tyMove, aux := auxOffset, va := .vec },
   { types := tyMove, va := .vec, vb := .imm },
   red, red,
   { types := tyMove, aux := fun a => a.toNat < 3, va := .vec },
   { types := tyMove, aux := fun a => a.toNat < 4, va := .vec },
   { types := [.s32], vd := .scalar, va := .pred },
   { types := [.s32], aux := fun a => a.toNat < 3, vd := .pred, va := .pred },
   { types := tyMove, vd := .one, va := .vec }]

/-- VPRED, functions 0 to 5 (08 R227); dtype 0 is s32. -/
def vpredRules : List LaneRule :=
  let bin : LaneRule := { types := [.s32], vd := .pred, va := .pred, vb := .pred }
  [bin, bin, bin, { bin with vb := .none },
   { types := [.s32], aux := fun a => a.toNat < 32, vd := .pred, va := .one },
   { types := [.s32], vd := .one }]

/-- VSFU, functions 0 to 7 (08 R214). -/
def vsfuRules : List LaneRule :=
  let un : LaneRule := { types := tySfu, va := .vec }
  [un, un, { types := tyFA, rnd := true, sat := false, va := .vec }, { un with aux := fun a => a.toNat < 2 },
   un, un, un, un]

/-- QUE, functions 0 to 3: the vd and va fields name scalar registers (13 R338). -/
def queRules : List LaneRule :=
  let q : LaneRule := { types := [.s32], aux := fun a => a.toNat < 16, vd := .none }
  [{ q with va := .scalar }, { q with va := .scalar }, { q with vd := .scalar, va := .scalar }, { q with vd := .scalar }]

/-- The G-V rules of a class (06 R166). -/
def laneRules (cls : BitVec 6) : List LaneRule :=
  match cls.toNat with
  | 0x08 => vintRules
  | 0x0A => vfltRules
  | 0x0B => vcvtRules
  | 0x0C => vxlRules
  | 0x0D => vpredRules
  | 0x0E => vsfuRules
  | 0x13 => queRules
  | _ => []

/-- The row of a G-V function. -/
def laneRule? (cls : BitVec 6) (fn : Nat) : Option LaneRule := (laneRules cls)[fn]?

/-- A field that must hold 0, a scalar register (0 to 95), or a predicate in bits 2:0 (06 R162). -/
def fieldOk : FieldKind → Reg → Bool
  | .none, r => r == 0
  | .scalar, r => r.toNat < 96
  | .pred, r => r.toNat < 8
  | _, _ => true

/-- The further limits of 08 R218-R225 and 13 R338, by class and function. -/
def laneExtra (cls : BitVec 6) (fn : Nat) (o : GV) : Bool :=
  match cls.toNat, fn with
  | 0x0B, 0 =>
    let int (t : Ty) := [Ty.s32, .n32, .s64, .n64, .s8, .n8, .s16, .n16].contains t
    match Ty.ofCode o.aux with
    | some s => !(int s && int o.dtype) || o.rnd == .rne
    | none => false
  | 0x0B, 1 =>
    if [Ty.bf16x2, .f16x2, .e4m3x4, .e5m2x4].contains o.dtype then o.aux == Ty.code .f32
    else o.aux != Ty.code .f32 && o.rnd == .rne
  | 0x0B, 2 =>
    let int := auxTy [.s16x2, .n16x2, .s8x4, .n8x4] o.aux
    let lim := if auxTy [.bf16x2, .f16x2, .s16x2, .n16x2] o.aux then 2
               else if auxTy [.e3m2, .e2m3, .e2m1] o.aux then 1 else 4
    (if int then o.dtype == .s32 && o.vc == 0 else o.dtype == .f32) && o.vb.toNat < lim
  | 0x0C, 4 => o.vb.toNat < 64
  | 0x0C, 5 | 0x0C, 6 =>
    let fl := [Ty.f32, .f64, .bf16x2, .f16x2].contains o.dtype
    (if o.aux.toNat < 3 then true else !fl) && (if o.aux == 0 && fl then o.rnd != .rsr else o.rnd == .rne)
  | 0x13, _ => o.p == 7 && !o.pneg
  | _, _ => true

/-- Whether a G-V form is an instruction (06 R168; agent checks apart). -/
def legalV (cls : BitVec 6) (fn : Nat) (o : GV) : Bool :=
  match laneRule? cls fn with
  | none => false
  | some r =>
    r.types.contains o.dtype && (r.rnd || o.rnd == .rne) && (r.sat || !o.sat) && r.aux o.aux &&
    fieldOk r.vd o.vd && fieldOk r.va o.va && fieldOk r.vb o.vb && fieldOk r.vc o.vc && laneExtra cls fn o

/-- Whether a G-VI form is an instruction (08 R208). -/
def legalVI (fn : Nat) (o : GVI) : Bool :=
  match fn with
  | 0 | 1 | 2 | 3 | 6 | 7 | 10 => o.ty.toNat < 2
  | 4 | 5 => o.ty.toNat < 2 && o.imm.toNat < 32
  | 8 => o.ty.toNat < 2 && (o.vd.extractLsb' 3 4).toNat < 6
  | 9 => o.va == 0
  | _ => false

/-- Whether a register field is a scalar register (06 R162). -/
def sreg (r : Reg) : Bool := r.toNat < 96

/-- SALU: which of sb and sc a function uses, and what cond/width may hold (07 R181, R182). -/
def legalSalu (fn : Nat) (o : GS) : Bool :=
  let sb0 := o.sb == 0
  let sc0 := o.sc == 0
  match fn with
  | 21 | 22 | 23 | 24 | 28 => sb0 && sc0 && o.cw == 0
  | 25 => o.cw.toNat < 10
  | 26 => sc0 && o.cw.toNat < 10
  | 27 => sb0 && sc0 && o.cw.toNat < 8 && o.cw.extractLsb' 0 2 != 3
  | 29 => o.cw.toNat < 2
  | 30 | 31 => o.cw == 0
  | n => n < 21 && sc0 && o.cw == 0

/-- SYNC (13 R330). -/
def legalSync (fn : Nat) (o : GS) : Bool :=
  o.sc == 0 &&
  match fn with
  | 0 => o.sd == 0 && o.sa == 0 && o.sb == 0 && (o.cw == 1 || o.cw == 2 || o.cw == 3)
  | 1 | 3 => o.sd == 0 && o.cw == 0
  | 2 | 4 => o.cw == 0
  | 5 => o.sd == 0 && o.sb == 0 && o.cw == 0
  | 6 => o.sd == 0 && o.sb == 0 && o.cw.toNat < 8
  | 7 => o.cw.toNat < 10
  | _ => false

/-- CTLC (19 R425, R428). R425 names four operands of every VDCMD operation, so that one its operation does not use may name any
register (log 30). -/
def legalCtlc (fn : Nat) (o : GS) : Bool :=
  match fn with
  | 0 => o.sb == 0 && o.sc == 0 && o.cw.toNat < 3
  | 1 => o.cw != 0
  | 2 => o.sc == 0 && o.cw == 0
  | 3 => o.cw.toNat < 9
  | 4 => o.sd == 0 && o.sc == 0 && o.cw == 0
  | 5 | 6 => o.sd == 0 && o.sb == 0 && o.sc == 0 && o.cw == 0
  | _ => false

/-- Whether a G-S form is an instruction. -/
def legalS (cls : BitVec 6) (fn : Nat) (o : GS) : Bool :=
  sreg o.sd && sreg o.sa && sreg o.sb && sreg o.sc &&
  match cls.toNat with
  | 0x01 => legalSalu fn o
  | 0x04 => fn == 2 && o.cw.toNat < 14 && (o.cw == 9 || o.cw == 12 || o.sc == 0)
  | 0x12 => legalSync fn o
  | 0x1E => legalCtlc fn o
  | _ => false

/-- Whether a G-SI form is an instruction (07 R183; 06 R160). -/
def legalSI (cls : BitVec 6) (fn : Nat) (o : GSI) : Bool :=
  sreg o.sd && sreg o.sa &&
  match cls.toNat, fn with
  | 0x02, 0 | 0x02, 1 | 0x02, 2 | 0x02, 3 | 0x02, 8 => o.aux == 0
  | 0x02, 4 | 0x02, 5 | 0x02, 6 => o.aux == 0 && o.imm.toNat < 64
  | 0x02, 7 => o.aux == 0 && o.sa == 0
  | 0x02, 9 => o.aux.toNat < 10
  | 0x04, 0 => !o.aux.getLsbD 5 && (o.aux.extractLsb' 2 2).toNat < 2 &&
      !(o.aux.extractLsb' 0 2 == 3 && o.aux.getLsbD 4)
  | 0x04, 1 => !o.aux.getLsbD 5 && !o.aux.getLsbD 4 && !o.aux.getLsbD 2
  | _, _ => false

/-- Whether a G-B form is an instruction (06 R167; 07 R184, R186). -/
def legalB (fn : Nat) (o : GB) : Bool :=
  sreg o.sa && sreg o.sb &&
  let plain := o.cond == 0 && !o.neg
  match fn with
  | 0 => o.sa == 0 && o.sb == 0 && plain
  | 1 | 2 | 4 => o.sb == 0 && plain
  | 3 => o.cond.toNat < 6 && !o.neg
  | 5 | 7 => o.sb == 0 && plain && o.off == 0
  | 6 => plain && o.off == 0
  | 8 => o.sa == 0 && o.sb == 0
  | 9 => o.sa != 0 && o.sb == 0 && plain
  | _ => false

/-- The operation codes of VATOM and VRED by width (09 R251). -/
def atomOpOk (red wide : Bool) (c : BitVec 9) : Bool :=
  c.toNat < 12 && !(red && (c.toNat == 8 || c.toNat == 9)) && !(wide && 10 ≤ c.toNat)

/-- Whether a G-M form is an instruction (09 R236, R251). -/
def legalM (cls : BitVec 6) (fn : Nat) (o : GM) : Bool :=
  let noIndex := o.vb == 0 && o.iw == 0 && !o.isgn && o.scale == 0
  let index := !(o.iw == 3 && o.isgn)
  let ld := o.order == .none || o.order == .acq
  let st := o.order == .none || o.order == .rel
  sreg o.sa &&
  match cls.toNat, fn with
  | 0x10, 0 => noIndex && ld
  | 0x10, 1 => noIndex && st
  | 0x10, 2 => index && ld
  | 0x10, 3 => index && st
  | 0x10, 4 => index && ld && o.sa.toNat % 2 == 0
  | 0x10, 5 => index && o.width == .w8 && o.order == .none && o.vdata == 0
  | 0x10, 6 | 0x10, 7 => noIndex && o.width == .w32 && o.order == .none && o.sa == 0 && o.p == 7 && !o.pneg
  | 0x11, 0 => index && (o.width == .w32 || o.width == .w64) && atomOpOk false (o.width == .w64) o.off
  | 0x11, 1 => index && (o.width == .w32 || o.width == .w64) && st && atomOpOk true (o.width == .w64) o.off
  | _, _ => false

/-- Whether a G-MM form is an instruction (11 R273, R275, R287); ACC carries dtype 0, bf16. -/
def legalMM (cls : BitVec 6) (fn : Nat) (o : GMM) : Bool :=
  sreg o.sa && sreg o.sb && sreg o.sc &&
  let int := o.dtype == .s8 || o.dtype == .n8
  let acc := o.dtype == .bf16 && o.sc == 0
  match cls.toNat, fn with
  | 0x18, 0 => !int && o.sc == 0
  | 0x18, 1 => !int
  | 0x18, 2 => int && o.sc == 0
  | 0x18, 3 => !int && o.dtype != .bf16 && o.dtype != .f16
  | 0x19, 0 => acc && o.cv == 0 && o.vidx == 0
  | 0x19, 1 => acc && o.cv == 0 && o.vidx == 0 && o.sa == 0 && o.sb == 0
  | 0x19, 2 | 0x19, 3 => acc && o.cv.toNat < 6 && o.vidx == 0
  | 0x19, 4 => acc && (o.cv == 0 || o.cv == 5) && o.sa == 0 && o.sb == 0
  | _, _ => false

/-- Whether a G-K form is an instruction (10 R257, R265; 14 R346). -/
def legalK (cls : BitVec 6) (fn : Nat) (o : GK) : Bool :=
  sreg o.sd && sreg o.sa && sreg o.sb && sreg o.sc && sreg o.se &&
  let z (l : List Reg) := l.all (· == 0)
  let tag0 := o.tag == 0
  let fl := o.flags.toNat
  match cls.toNat, fn with
  | 0x1C, 0 => fl < 3
  | 0x1C, 1 => (fl == 0 || fl == 2) && o.sc != 0
  | 0x1C, 2 => (fl == 0 || fl == 2) && o.sa == 0
  | 0x1C, 3 => fl < 2 && z [o.sa, o.sb, o.se] && tag0
  | 0x1C, 4 => fl == 0 && z [o.sb, o.sc, o.se] && o.tag.toNat < 8
  | 0x1C, 5 => fl == 0 && z [o.sa, o.sb, o.sc, o.se] && o.tag.toNat < 8
  | 0x1C, 6 | 0x1C, 8 => fl == 0 && z [o.sb, o.sc, o.se] && tag0
  | 0x1C, 7 | 0x1C, 9 => fl == 0 && z [o.sd, o.sb, o.sc, o.se] && tag0
  | 0x1D, 0 => fl == 0 && z [o.sb, o.sc, o.se] && tag0
  | 0x1D, 1 => fl < 2 && z [o.sd, o.sb, o.sc] && tag0
  | 0x1D, 2 => fl == 0 && z [o.sb, o.sc, o.se] && o.tag.toNat < 7
  | 0x1D, 3 => fl == 0 && z [o.sd, o.sb, o.sc, o.se] && tag0
  | _, _ => false

/-- Whether a SYS form is an instruction (06 R159): bits outside the named fields hold 0. -/
def legalSys (fn : Nat) (b : BitVec 46) : Bool :=
  match fn with
  | 1 | 2 | 3 | 5 | 9 | 10 => b == 0
  | 4 => b.toNat < 2 ^ 16
  | 6 => b.toNat < 8
  | 7 => b.toNat < 2 ^ 24
  | 8 => b.toNat < 2 ^ 14 && sreg (b.extractLsb' 0 7) && sreg (b.extractLsb' 7 7)
  | 11 => b.toNat < 2 ^ 26 && b.extractLsb' 7 7 == 0 && sreg (b.extractLsb' 0 7)
  | 12 => b.toNat < 2 ^ 26 && b.extractLsb' 0 7 == 0 && sreg (b.extractLsb' 7 7)
  | _ => false

/-- Whether a general form is an instruction (06 R168), agent checks apart. -/
def legalForm (f : Form) : Bool :=
  match f.lay with
  | .sys b => f.cls == 0 && legalSys f.fn b
  | .s o => legalS f.cls f.fn o
  | .si o => legalSI f.cls f.fn o
  | .b o => f.cls == 3 && legalB f.fn o
  | .v o => legalV f.cls f.fn o
  | .vi o => f.cls == 9 && legalVI f.fn o
  | .m o => legalM f.cls f.fn o
  | .mm o => legalMM f.cls f.fn o
  | .k o => legalK f.cls f.fn o

/-- The limits of an encoding that its general form does not show: C.MOV with va = vb is no instruction (06 R154), the
short VCMP.eq keeps vd bits 6:3 zero (R157), and each VDCMD row carries its own operation (19 R428). -/
def legalEncoding : Instr → Bool
  | .cMov o => o.va != o.vb
  | .vintiVcmpEqShort o => o.vd.toNat < 8
  | .vdrd o => o.cw == 0
  | .vdwr o => o.cw == 1
  | .qrd o => o.cw == 2
  | .qwr o => o.cw == 3
  | .irtrd o => o.cw == 4
  | .irtwr o => o.cw == 5
  | .vdcmdStart o => o.cw == 6
  | .vdcmdRetire o => o.cw == 7
  | .vdcmdKill o => o.cw == 8
  | _ => true

/-- One of the four instructions' operands: p, pneg and the dtype are common. -/
def FusedOp.gv (o : FusedOp) (r : Rnd) (aux : BitVec 6) (vd va vb : Reg) : GV := ⟨o.p, o.pneg, .f32, r, false, aux, vd, va, vb, 0⟩
def FusedOp.i1 (o : FusedOp) : GV := o.gv .rne 1 o.vm o.vx 0
def FusedOp.i2 (o : FusedOp) : GV := o.gv .rne 0 o.vy o.vx o.vm
def FusedOp.i3 (o : FusedOp) : GV := o.gv .rne 1 o.vz o.vy 0
def FusedOp.i4 (o : FusedOp) : GV := o.gv o.rnd 0 o.vs o.vz 0

/-- The general forms of the four instructions of the fused idiom (06 R170). -/
def FusedOp.forms (o : FusedOp) : List Form :=
  [⟨o.n1, 0x0C, 5, .v o.i1⟩, ⟨o.n2, 0x0A, 1, .v o.i2⟩, ⟨o.n3, 0x0E, 3, .v o.i3⟩, ⟨o.n4, 0x0C, 5, .v o.i4⟩]

/-- Whether an instruction is one the decoder accepts: its general form is legal, and so is its own encoding; the fused
idiom meets the register rules of 06 R170. Every event is well formed. -/
def legalInstr (i : Instr) : Bool :=
  match i with
  | .fusedSoftmax o => o.forms.all legalForm && o.vm != o.vx
  | i =>
    legalEncoding i &&
    match i.form with
    | some f => legalForm f
    | none => true

end Sys2Proof
end

