-- ==== Sys2Proof/Machine/Checks.lean ====
section
/-! DEFINITION. The checks every instruction makes before its effect: decode and agent (06 R162, R168, R169; 07 R197; 19
R425, R428), and the consumption of poisoned scalar registers (17 R392). -/

namespace Sys2Proof.Machine

/-- The vector register fields of a form: register, alignment, and how many registers it names (06 R162). -/
def vectorFields (f : Form) : List (Reg × Nat × Nat) :=
  let sz (n : Nat) (r : Reg) : Reg × Nat × Nat := (r, n, n)
  match f.lay with
  | .v o =>
    match laneRule? f.cls f.fn with
    | none => []
    | some rule =>
      let x4 := [Ty.e4m3x4, .e5m2x4, .s8x4, .n8x4].contains o.dtype
      let field (k : FieldKind) (r : Reg) : List (Reg × Nat × Nat) :=
        match k with
        | .vec => [sz (if o.dtype.pair then 2 else 1) r]
        | .one => [sz 1 r]
        | .src => [sz (if ((Ty.ofCode o.aux).map Ty.pair).getD false then 2 else 1) r]
        | .pack => [sz (if x4 then 2 else 1) r]
        | _ => []
      field rule.vd o.vd ++ field rule.va o.va ++ field rule.vb o.vb ++ field rule.vc o.vc
  | .vi o =>
    (if f.fn == 8 then [] else [sz 1 o.vd]) ++ (if f.fn == 9 then [] else [sz 1 o.va])
  | .m o =>
    let idx := if f.cls == 0x10 && (f.fn == 0 || f.fn == 1 || f.fn == 6 || f.fn == 7) then [] else
      [sz (if o.iw == 3 then 2 else 1) o.vb]
    let n := o.width.regs
    let data := if f.cls == 0x10 && f.fn == 5 then []
      else if f.cls == 0x11 && o.off == 9 then [sz (2 * n) o.vdata] else [sz n o.vdata]
    data ++ idx
  | .mm o =>
    if f.cls == 0x18 then [sz 1 o.vidx] else if f.fn == 4 then [(o.vidx, 4, 3)] else []
  | _ => []

/-- Whether every vector field names registers below VREGS, pairs and quads aligned (06 R162). -/
def vectorsOk (f : Form) (vregs : Nat) : Bool :=
  (vectorFields f).all fun (r, al, n) => r.toNat % al == 0 && decide (r.toNat + n ≤ vregs)

/-- The kinds of agent (06 R169). -/
inductive AgentKind where
  | warp | stoker | ctl
  deriving DecidableEq, Repr

def kindOf : AgentId → AgentKind
  | .warp _ _ => .warp
  | .stoker _ => .stoker
  | .ctl _ => .ctl

/-- What each agent may execute (06 R169). -/
def permitted (k : AgentKind) (cls : BitVec 6) (fn : Nat) : Bool :=
  let scalar := cls.toNat < 5
  match k with
  | .warp => cls != 0x1C && cls != 0x1E && !(cls == 0 && (fn == 9 || fn == 10))
  | .stoker =>
    (scalar && !(cls == 0 && (fn == 5 || fn == 6 || fn == 9 || fn == 10)) && !(cls == 3 && fn == 8)) ||
    (cls == 0x12 && (fn < 5 || fn == 7)) || (cls == 0x13 && fn != 1) || cls == 0x1C || cls == 0x1D
  | .ctl =>
    (scalar && !(cls == 0 && (fn == 2 || fn == 6 || fn == 8)) && !(cls == 3 && fn == 8)) || cls == 0x1E

/-- The special registers assigned to each agent (07 R198; 19 R421). -/
def specialAssigned (k : AgentKind) (n : Nat) : Bool :=
  let shared := [0x000, 0x001, 0x002, 0x004, 0x005, 0x006, 0x007, 0x010, 0x011, 0x012, 0x018, 0x019, 0x01A, 0x040,
    0x048, 0x049, 0x04A, 0x04B, 0x050]
  match k with
  | .warp => (shared ++ [0x020, 0x021, 0x022, 0x028, 0x030, 0x031, 0x060, 0x061, 0x062, 0x063, 0x070]).contains n
  | .stoker => shared.contains n
  | .ctl => [0x040, 0x048, 0x049, 0x800, 0x801, 0x802, 0x803, 0x804, 0x805].contains n

/-- The special registers with a field that SWR may write (07 R197, R199; 04 R124; 05 R140, R144; 19 R421). -/
def specialWritable (n : Nat) : Bool := [0x028, 0x030, 0x031, 0x061, 0x070, 0x802, 0x803, 0x804].contains n

/-- Whether SRD or SWR names a register its agent may not name at all (07 R197). Privileged numbers are left to PRIV for
warps and stoker threads. -/
def specialIllegal (k : AgentKind) (fn : Nat) (n : Nat) : Bool :=
  if 0x800 ≤ n && k != .ctl then false
  else !specialAssigned k n || (fn == 12 && !specialWritable n)

/-- The roles that may use a CTLC function (19 R425, R428): 0 scheduler, 1 lifecycle, 2 fault; the security core none. -/
def ctlcRoles (fn : Nat) (cw : BitVec 4) : List Nat :=
  match fn with
  | 0 => [0]
  | 1 | 2 | 4 => [0, 1, 2]
  | 3 =>
    match cw.toNat with
    | 0 => [0, 1, 2]
    | 1 => [1]
    | 2 => [0, 1, 2]
    | 3 => [1]
    | 4 => [0, 1, 2]
    | 5 => [1]
    | 6 | 7 => [0]
    | 8 => [2]
    | _ => []
  | _ => [0]

/-- The special register number that a SYS form names. -/
def specialNumber (b : BitVec 46) : Nat := fieldN b 25 14

/-- The cause that the decode checks give, if any: ILLEGAL, then WRONG_AGENT, then PRIV (06 R168). -/
def State.decodeCause (s : State) (f : Form) : Option Cause :=
  let k := kindOf s.cur
  let illegal := !legalForm f ||
    (match s.cur with
     | .warp g _ => !vectorsOk f (s.group g).vregs
     | _ => false) ||
    (match f.lay with
     | .sys b => (f.fn == 11 || f.fn == 12) && specialIllegal k f.fn (specialNumber b)
     | _ => false)
  if illegal then some .illegal
  else if !permitted k f.cls f.fn then some .wrongAgent
  else
    match f.lay, s.cur with
    | .sys _, .ctl _ => none
    | .sys b, _ => if (f.fn == 11 || f.fn == 12) && 0x800 ≤ specialNumber b then some .priv else none
    | .s o, .ctl c =>
      if f.cls == 0x1E && !(ctlcRoles f.fn o.cw).contains (c / 2) then some .priv else none
    | _, _ => none

/-- The scalar registers whose values an instruction consumes (17 R392): its sources, addresses and conditions; SST's data
is moved, not consumed. -/
def scalarSources (f : Form) : List Reg :=
  match f.lay with
  | .sys b =>
    match f.fn with
    | 8 | 12 => [b.extractLsb' 7 7]
    | _ => []
  | .s o =>
    let base := [o.sa, o.sb, o.sc]
    if f.cls == 1 && (f.fn == 25 || f.fn == 30) then o.sd :: base else base
  | .si o => [o.sa]
  | .b o => if f.fn == 4 then [] else if f.fn == 6 then [o.sa] else [o.sa, o.sb]
  | .v o => if f.cls == 0x13 then [o.va] else []
  | .vi _ => []
  | .m o => if f.cls == 0x10 && f.fn == 4 then [o.sa, o.sa + 1] else if f.cls == 0x10 && f.fn == 5 then [] else [o.sa]
  | .mm o => if f.cls == 0x18 then [] else [o.sa, o.sb]
  | .k o => if f.cls == 0x1C then [o.sa, o.sb, o.sc, o.se] ++ (if f.fn < 3 then [o.sd] else []) else [o.sa, o.se]

/-- The lowest poison tag among the scalar registers an instruction consumes. -/
def State.scalarPoison (s : State) (f : Form) : Option Prov :=
  let a := s.agent s.cur
  lowestProv ((scalarSources f).map fun r => if r == 0 then none else Table.look a.spoison r.toNat)

/-- The threads an instruction is executed for now (09 R243): the head, or its replay mask. -/
def State.issueMask (s : State) : Mask :=
  match s.cur with
  | .warp g w => (s.warp g w).issueMask
  | _ => 1

/-- An instruction's effect under the checks of 06 R168 and the consumption of poisoned scalars (17 R392). -/
def checked (f : Form) (s : State) (k : State → Res) : Res :=
  match s.decodeCause f with
  | some c => .next (s.trap c)
  | none =>
    match s.scalarPoison f with
    | some p => .next (s.trapWith .poison none (some p) s.issueMask 0 0 none)
    | none => k s

end Sys2Proof.Machine
end

