-- ==== Sys2Proof/Machine/Operands.lean ====
section
/-! DEFINITION. Operand forms and pure results: conditions, scalar arithmetic, bit fields, integer elements and packed types
(05 R133, R145; 06 R165; 07 R180-R183; 08 R206, R207). -/

namespace Sys2Proof.Machine

/-- Signed and unsigned comparisons by the condition codes of G-S and G-SI (06 R165). -/
def compareS (c : Nat) (a b : Word) : Bool :=
  match c with
  | 0 => a == b
  | 1 => a != b
  | 2 => a.slt b
  | 3 => a.sle b
  | 4 => b.slt a
  | 5 => b.sle a
  | 6 => a.ult b
  | 7 => a.ule b
  | 8 => b.ult a
  | 9 => b.ule a
  | _ => false

/-- The condition codes of G-B (06 R165): eq, ne, lt.s, ge.s, lt.n, ge.n. -/
def compareB (c : Nat) (a b : Word) : Bool :=
  match c with
  | 0 => a == b
  | 1 => a != b
  | 2 => a.slt b
  | 3 => b.sle a
  | 4 => a.ult b
  | 5 => b.ule a
  | _ => false

/-- 1 or 0 as a word. -/
def flagWord (b : Bool) : Word := if b then 1 else 0

/-! Edge results of integers (05 R145), at any width. -/

/-- Unsigned quotient; all ones for divisor 0. -/
def divN {w : Nat} (a b : BitVec w) : BitVec w := if b == 0 then BitVec.allOnes w else a / b

/-- Unsigned remainder; the dividend for divisor 0. -/
def remN {w : Nat} (a b : BitVec w) : BitVec w := if b == 0 then a else a % b

/-- Signed quotient toward zero; all ones for divisor 0; the most negative value over -1 gives itself. -/
def divS {w : Nat} (a b : BitVec w) : BitVec w :=
  if b == 0 then BitVec.allOnes w else BitVec.ofInt w (a.toInt.tdiv b.toInt)

/-- Signed remainder with the dividend's sign; the dividend for divisor 0. -/
def remS {w : Nat} (a b : BitVec w) : BitVec w := if b == 0 then a else BitVec.ofInt w (a.toInt.tmod b.toInt)

/-- High half of the product of two elements, signed or unsigned. -/
def mulHigh {w : Nat} (signed : Bool) (a b : BitVec w) : BitVec w :=
  if signed then BitVec.ofInt w (a.toInt * b.toInt / 2 ^ w) else BitVec.ofNat w (a.toNat * b.toNat / 2 ^ w)

/-- Shift left by an unsigned count; 0 from the width on. -/
def shlSat {w : Nat} (a : BitVec w) (n : Nat) : BitVec w := if w ≤ n then 0 else a <<< n

/-- Logical shift right; 0 from the width on. -/
def shrSat {w : Nat} (a : BitVec w) (n : Nat) : BitVec w := if w ≤ n then 0 else a >>> n

/-- Arithmetic shift right; copies of the sign from the width on. -/
def sarSat {w : Nat} (a : BitVec w) (n : Nat) : BitVec w := a.sshiftRight (min n w)

/-- Rotate right by the count modulo the width. -/
def rotR {w : Nat} (a : BitVec w) (n : Nat) : BitVec w := a.rotateRight (n % w)

/-- Lesser and greater, signed or unsigned. -/
def minBy {w : Nat} (signed : Bool) (a b : BitVec w) : BitVec w :=
  if (if signed then a.slt b else a.ult b) then a else b
def maxBy {w : Nat} (signed : Bool) (a b : BitVec w) : BitVec w :=
  if (if signed then a.slt b else a.ult b) then b else a

/-- Number of 1 bits. -/
def popCount {w : Nat} (a : BitVec w) : Nat := ((List.range w).filter fun i => a.getLsbD i).length

/-- Leading zeros; the width for 0. -/
def leadingZeros {w : Nat} (a : BitVec w) : Nat :=
  ((List.range w).find? fun i => a.getLsbD (w - 1 - i)).getD w

/-- Index of the lowest 1 bit; the width for 0. -/
def firstSet {w : Nat} (a : BitVec w) : Nat := ((List.range w).find? fun i => a.getLsbD i).getD w

/-- Bit i of the result is bit w - 1 - i. -/
def bitReverse {w : Nat} (a : BitVec w) : BitVec w :=
  BitVec.ofNat w ((List.range w).foldl (fun acc i => acc * 2 + (if a.getLsbD i then 1 else 0)) 0)

/-- Bits pos + len - 1 : pos of a value, extended; 0 for len 0 (07 R182, 08 R207). -/
def bitFieldGet {w : Nat} (signed : Bool) (a : BitVec w) (pos len : Nat) : BitVec w :=
  if len == 0 then 0
  else
    let x := a.toNat / 2 ^ pos % 2 ^ len
    if signed && 2 ^ (len - 1) ≤ x then BitVec.ofInt w ((x : Int) - 2 ^ len) else BitVec.ofNat w x

/-- `d` with bits pos + len - 1 : pos replaced by the low bits of `a` (07 R182, 08 R207). -/
def bitFieldPut {w : Nat} (d a : BitVec w) (pos len : Nat) : BitVec w :=
  let m := BitVec.ofNat w ((2 ^ len - 1) * 2 ^ pos)
  d &&& ~~~m ||| (BitVec.ofNat w (a.toNat % 2 ^ len * 2 ^ pos) &&& m)

/-- SEXT.k (07 R182). -/
def sextResult (cw : BitVec 4) (a : Word) : Word :=
  let w := 8 * 2 ^ fieldN cw 1 0
  if cw.getLsbD 2 then BitVec.ofNat 64 (a.toNat % 2 ^ w) else bitFieldGet true a 0 w

/-- The position and length of SBFX and SBFI (07 R182). -/
def scalarField (b c : Word) : Nat × Nat :=
  let pos := fieldN b 5 0
  (pos, min (fieldN c 6 0) (64 - pos))

/-- The value each SALU function writes to S[sd] (07 R181, R182), from S[sa], S[sb], S[sc] and S[sd]. -/
def saluResult (fn : Nat) (cw : BitVec 4) (a b c d : Word) : Word :=
  match fn with
  | 0 => a + b
  | 1 => a - b
  | 2 => a * b
  | 3 => mulHigh true a b
  | 4 => mulHigh false a b
  | 5 => divS a b
  | 6 => divN a b
  | 7 => remS a b
  | 8 => remN a b
  | 9 => a &&& b
  | 10 => a ||| b
  | 11 => a ^^^ b
  | 12 => a &&& ~~~b
  | 13 => shlSat a b.toNat
  | 14 => sarSat a b.toNat
  | 15 => shrSat a b.toNat
  | 16 => rotR a b.toNat
  | 17 => minBy true a b
  | 18 => minBy false a b
  | 19 => maxBy true a b
  | 20 => maxBy false a b
  | 21 => BitVec.ofNat 64 (leadingZeros a)
  | 22 => BitVec.ofNat 64 (firstSet a)
  | 23 => BitVec.ofNat 64 (popCount a)
  | 24 => bitReverse a
  | 25 => if compareS cw.toNat a b then c else d
  | 26 => flagWord (compareS cw.toNat a b)
  | 27 => sextResult cw a
  | 28 => a
  | 29 => let (pos, len) := scalarField b c; bitFieldGet (cw.getLsbD 0) a pos len
  | 30 => let (pos, len) := scalarField b c; bitFieldPut d a pos len
  | _ => a * b + c

/-- The value each SALUI function writes to S[sd] (07 R183), from S[sa], aux6 and imm32. -/
def saluiResult (fn : Nat) (aux : BitVec 6) (imm : W32) (a : Word) : Word :=
  let i : Word := imm.signExtend 64
  match fn with
  | 0 => a + i
  | 1 => a &&& i
  | 2 => a ||| i
  | 3 => a ^^^ i
  | 4 => shlSat a imm.toNat
  | 5 => sarSat a imm.toNat
  | 6 => shrSat a imm.toNat
  | 7 => i
  | 8 => imm ++ (a.setWidth 32 : W32)
  | _ => flagWord (compareS (fieldN aux 3 0) a i)

/-! Integer elements and packed types (05 R133). -/

/-- Whether an integer type is signed. -/
def Ty.signed : Ty → Bool
  | .s32 | .s64 | .s16x2 | .s8x4 | .s8 | .s16 => true
  | _ => false

/-- The element width and the number of elements of a packed or plain type (05 R133). -/
def Ty.elems : Ty → Nat × Nat
  | .bf16x2 | .f16x2 | .s16x2 | .n16x2 => (16, 2)
  | .s8x4 | .n8x4 | .e4m3x4 | .e5m2x4 => (8, 4)
  | .f64 | .s64 | .n64 => (64, 1)
  | .bf16 | .f16 | .s16 | .n16 => (16, 1)
  | .e3m2 | .e2m3 => (6, 1)
  | .e2m1 => (4, 1)
  | .e8m0 | .s8 | .n8 => (8, 1)
  | .s32 | .n32 | .f32 => (32, 1)

/-- SatInt: an exact value clamped to an element type's range (08 R204). -/
def satInt (signed : Bool) (w : Nat) (x : Int) : BitVec w :=
  let lo : Int := if signed then -2 ^ (w - 1) else 0
  let hi : Int := if signed then 2 ^ (w - 1) - 1 else 2 ^ w - 1
  BitVec.ofInt w (if x < lo then lo else if hi < x then hi else x)

/-- An element as an integer by its signedness. -/
def elemInt {w : Nat} (signed : Bool) (a : BitVec w) : Int := if signed then a.toInt else a.toNat

/-- Element results of VINT (08 R206, R207), from the elements of va, vb, vc and vd. -/
def vintElem (fn : Nat) (sg : Bool) (w : Nat) (a b c d : BitVec w) : BitVec w :=
  match fn with
  | 0 => a + b
  | 1 => a - b
  | 2 => a * b
  | 3 => mulHigh sg a b
  | 4 => a * b + c
  | 5 => satInt sg w (elemInt sg a + elemInt sg b)
  | 6 => satInt sg w (elemInt sg a - elemInt sg b)
  | 7 => BitVec.ofNat w (elemInt sg a - elemInt sg b).natAbs
  | 8 => minBy sg a b
  | 9 => maxBy sg a b
  | 10 => a &&& b
  | 11 => a ||| b
  | 12 => a ^^^ b
  | 13 => a &&& ~~~b
  | 14 => ~~~a
  | 15 => shlSat a b.toNat
  | 16 => if sg then sarSat a b.toNat else shrSat a b.toNat
  | 17 => rotR a b.toNat
  | 18 => BitVec.ofNat w (leadingZeros a)
  | 19 => BitVec.ofNat w (firstSet a)
  | 20 => BitVec.ofNat w (popCount a)
  | 21 => bitReverse a
  | 24 => minBy sg (satInt sg w (elemInt sg a + elemInt sg b)) c
  | 25 => let pos := fieldN b 4 0; bitFieldGet sg a pos (min (fieldN c 5 0) (32 - pos))
  | 26 => let pos := fieldN b 4 0; bitFieldPut d a pos (min (fieldN c 5 0) (32 - pos))
  | _ => a

/-- Element i of a packed 64-bit carrier. -/
def elemAt (x : Word) (w i : Nat) : BitVec w := x.extractLsb' (w * i) w

/-- A result from its elements, element 0 lowest (05 R133). -/
def packElems (w n : Nat) (f : Nat → BitVec w) : Word :=
  (List.range n).foldl (fun acc i => acc ||| (f i).setWidth 64 <<< (w * i)) 0

/-- The result of a VINT function on whole values, element by element. -/
def vintResult (fn : Nat) (t : Ty) (a b c d : Word) : Word :=
  let (w, n) := Ty.elems t
  packElems w n fun i => vintElem fn (Ty.signed t) w (elemAt a w i) (elemAt b w i) (elemAt c w i) (elemAt d w i)

/-- Conditions of VCMP between two values of a type (06 R165, 08 R207). -/
def vcmpResult (c : Nat) (t : Ty) (a b : Word) : Bool :=
  let (w, _) := Ty.elems t
  let x := elemInt (Ty.signed t) (a.setWidth w)
  let y := elemInt (Ty.signed t) (b.setWidth w)
  match c with
  | 0 => x == y
  | 1 => x != y
  | 2 => decide (x < y)
  | 3 => decide (x ≤ y)
  | 4 => decide (y < x)
  | _ => decide (y ≤ x)

/-- The VINT function of each VINTI function with an operator (08 R208). -/
def vintiFn (fn : Nat) : Nat :=
  match fn with
  | 0 => 0
  | 1 => 10
  | 2 => 11
  | 3 => 12
  | 4 => 15
  | 5 => 16
  | 6 => 8
  | 7 => 9
  | _ => 24

end Sys2Proof.Machine
end

