-- ==== Sys2Proof/Machine/Flags.lean ====
section
/-! DEFINITION. The exception flags of FPFLAGS (05 R143, R144). -/

namespace Sys2Proof.Machine

/-- The five sticky bits: NV 4, DZ 3, OF 2, UF 1, NX 0 (05 R144). -/
abbrev FpFlags := BitVec 5

def fpNone : FpFlags := 0
def fpNX : FpFlags := 0x01
def fpUF : FpFlags := 0x02
def fpOF : FpFlags := 0x04
def fpDZ : FpFlags := 0x08
def fpNV : FpFlags := 0x10

/-- A flag when a condition holds. -/
def fpWhen (c : Bool) (f : FpFlags) : FpFlags := if c then f else fpNone

/-- Sets sticky bits in a warp (05 R143). -/
def Warp.raise (w : Warp) (f : FpFlags) : Warp := { w with fpflags := w.fpflags ||| f }

end Sys2Proof.Machine
end

