-- ==== Sys2Proof/Machine/Float.lean ====
section
/-! DEFINITION. Floating-point formats, exact results and their rounding (05 R129-R143, R146). A bit pattern is a natural
number; exact values are fractions and square roots, so that every rounding is decided on exact values. -/

namespace Sys2Proof.Machine

/-- How a format treats its all-ones exponent (05 R129): infinities and NaNs, one NaN per sign (e4m3), or numbers. -/
inductive Specials where
  | ieee | oneNan | none
  deriving DecidableEq, Repr

/-- A floating-point format (05 R129): exponent and fraction widths and the bias. -/
structure Fmt where
  ew : Nat
  mw : Nat
  bias : Nat
  special : Specials
  deriving DecidableEq, Repr

/-- The formats of 05 R129. -/
def fmtF64 : Fmt := ⟨11, 52, 1023, .ieee⟩
def fmtF32 : Fmt := ⟨8, 23, 127, .ieee⟩
def fmtF16 : Fmt := ⟨5, 10, 15, .ieee⟩
def fmtBf16 : Fmt := ⟨8, 7, 127, .ieee⟩
def fmtE5m2 : Fmt := ⟨5, 2, 15, .ieee⟩
def fmtE4m3 : Fmt := ⟨4, 3, 7, .oneNan⟩
def fmtE3m2 : Fmt := ⟨3, 2, 3, .none⟩
def fmtE2m3 : Fmt := ⟨2, 3, 1, .none⟩
def fmtE2m1 : Fmt := ⟨2, 1, 1, .none⟩

/-- The bits of a format. -/
def Fmt.bits (f : Fmt) : Nat := 1 + f.ew + f.mw

/-- The format of a type's elements, when they are floating-point. -/
def Ty.fmt : Ty → Option Fmt
  | .f64 => some fmtF64
  | .f32 => some fmtF32
  | .bf16 | .bf16x2 => some fmtBf16
  | .f16 | .f16x2 => some fmtF16
  | .e4m3x4 => some fmtE4m3
  | .e5m2x4 => some fmtE5m2
  | .e3m2 => some fmtE3m2
  | .e2m3 => some fmtE2m3
  | .e2m1 => some fmtE2m1
  | _ => none

/-- A decoded value: a NaN (signalling or not), an infinity, or ±m * 2^e. -/
inductive FVal where
  | nan (signalling : Bool)
  | inf (neg : Bool)
  | num (neg : Bool) (m : Nat) (e : Int)
  deriving DecidableEq, Repr

/-- The value of a bit pattern (05 R129, R130). -/
def Fmt.decode (f : Fmt) (x : Nat) : FVal :=
  let neg := x / 2 ^ (f.ew + f.mw) % 2 == 1
  let e := x / 2 ^ f.mw % 2 ^ f.ew
  let m := x % 2 ^ f.mw
  let top := 2 ^ f.ew - 1
  let lo : Int := 1 - (f.bias : Int) - f.mw
  let number := if e == 0 then FVal.num neg m lo else .num neg (2 ^ f.mw + m) (lo + (e - 1 : Nat))
  match f.special with
  | .ieee =>
    if e == top then
      if m == 0 then .inf neg else .nan (decide (m < 2 ^ (f.mw - 1)) && f.bits != 8)
    else number
  | .oneNan => if e == top && m == 2 ^ f.mw - 1 then .nan false else number
  | .none => number

/-- The default NaN (05 R130); a format without one has 0 (R142). -/
def Fmt.defaultNan (f : Fmt) : Nat :=
  match f.special with
  | .ieee => (2 ^ f.ew - 1) * 2 ^ f.mw + 2 ^ (f.mw - 1)
  | .oneNan => 2 ^ (f.ew + f.mw) - 1
  | .none => 0

/-- The code of the largest finite magnitude (05 R129). -/
def Fmt.largest (f : Fmt) : Nat :=
  match f.special with
  | .ieee => (2 ^ f.ew - 1) * 2 ^ f.mw - 1
  | .oneNan => 2 ^ (f.ew + f.mw) - 2
  | .none => 2 ^ (f.ew + f.mw) - 1

/-- A sign put on a magnitude's code. -/
def Fmt.signed (f : Fmt) (neg : Bool) (code : Nat) : Nat := if neg then 2 ^ (f.ew + f.mw) + code else code

/-- The code of an infinity. -/
def Fmt.infinity (f : Fmt) (neg : Bool) : Nat := f.signed neg ((2 ^ f.ew - 1) * 2 ^ f.mw)

/-- An exact result: a NaN (invalid or from a signalling operand sets NV), an infinity, ±n/d * 2^e, or the square root of
n * 2^(2h). -/
inductive Exact where
  | nan (nv : Bool)
  | inf (neg : Bool)
  | ratio (neg : Bool) (n d : Nat) (e : Int)
  | root (n : Nat) (h : Int)
  deriving DecidableEq, Repr

def FVal.exact : FVal → Exact
  | .nan s => .nan s
  | .inf neg => .inf neg
  | .num neg m e => .ratio neg m 1 e

/-- Floor of the square root, bit by bit from bit `k` down. -/
def isqrtGo (n : Nat) : Nat → Nat → Nat
  | 0, acc => if (acc + 1) * (acc + 1) ≤ n then acc + 1 else acc
  | k + 1, acc =>
    let c := acc + 2 ^ (k + 1)
    isqrtGo n k (if c * c ≤ n then c else acc)

def isqrt (n : Nat) : Nat := isqrtGo n (Nat.log2 n / 2 + 1) 0

/-- Floor of n/d * 2^s with whether anything is left. -/
def floorShift (n d : Nat) (s : Int) : Nat × Bool :=
  if 0 ≤ s then (n * 2 ^ s.toNat / d, n * 2 ^ s.toNat % d != 0)
  else (n / (d * 2 ^ (-s).toNat), n % (d * 2 ^ (-s).toNat) != 0)

/-- Floor of the magnitude divided by 2^q, with whether anything is left. -/
def Exact.scaled (x : Exact) (q : Int) : Nat × Bool :=
  match x with
  | .ratio _ n d e => floorShift n d (e - q)
  | .root n h =>
    let k := 2 * (h - q)
    if 0 ≤ k then
      let m := n * 2 ^ k.toNat
      let r := isqrt m
      (r, r * r != m)
    else
      let r := isqrt (n / 2 ^ (-k).toNat)
      (r, r * r * 2 ^ (-k).toNat != n)
  | _ => (0, false)

/-- Floor of the base-2 logarithm of a nonzero magnitude. -/
def Exact.ilog2 : Exact → Int
  | .ratio neg n d e =>
    let k : Int := (Nat.log2 n : Int) - Nat.log2 d + e
    if 0 < (Exact.scaled (.ratio neg n d e) k).1 then k else k - 1
  | .root n h => (Nat.log2 n / 2 : Nat) + h
  | _ => 0

/-- Whether an exact result is zero. -/
def Exact.isZero : Exact → Bool
  | .ratio _ n _ _ => n == 0
  | .root n _ => n == 0
  | _ => false

def Exact.neg? : Exact → Bool
  | .inf s => s
  | .ratio s _ _ _ => s
  | _ => false

/-- A magnitude rounded to a multiple of 2^q (05 R137, R138), with whether it was exact; `u` is the draw under rsr. -/
def Exact.roundAt (x : Exact) (q : Int) (rnd : Rnd) (u : W32) : Nat × Bool :=
  let (fine, rest) := x.scaled (q - 32)
  let n := fine / 2 ^ 32
  let f := fine % 2 ^ 32
  let exact := f == 0 && !rest
  let up := match rnd with
    | .rne => decide (2 ^ 31 < f) || (f == 2 ^ 31 && (rest || n % 2 == 1))
    | .rtz => false
    | .rdn => !exact && x.neg?
    | .rup => !exact && !x.neg?
    | .rsr => decide (u.toNat < f) || (f == u.toNat && rest)
  (if up then n + 1 else n, exact)

/-- Whether overflow in a mode goes to the infinity side (05 R141). -/
def roundsAway (rnd : Rnd) (neg : Bool) : Bool :=
  match rnd with
  | .rne => true
  | .rdn => neg
  | .rup => !neg
  | _ => false

/-- Whether a nonzero result is tiny (05 R143): rounded with unbounded exponent it is below the smallest normal. -/
def Fmt.tiny (f : Fmt) (rnd : Rnd) (u : W32) (x : Exact) : Bool :=
  let e := x.ilog2
  let emin : Int := 1 - (f.bias : Int)
  decide (e < emin) &&
    let (n, _) := x.roundAt (e - f.mw) rnd u
    !(decide (e + 1 = emin) && n == 2 ^ (f.mw + 1))

/-- Round and Convert (05 R137, R141, R142): the code of an exact result in a format, and its flags. -/
def Fmt.round (f : Fmt) (rnd : Rnd) (sat : Bool) (u : W32) (x : Exact) : Nat × FpFlags :=
  match x with
  | .nan nv => (f.defaultNan, fpWhen (nv || f.special == .none) fpNV)
  | .inf neg =>
    match f.special with
    | .ieee => if sat then (f.signed neg f.largest, fpNX) else (f.infinity neg, fpNone)
    | .oneNan => if sat then (f.signed neg f.largest, fpNV) else (f.defaultNan, fpNV)
    | .none => (f.signed neg f.largest, fpNV)
  | _ =>
    let neg := x.neg?
    if x.isZero then (f.signed neg 0, fpNone)
    else
      let qmin : Int := 1 - (f.bias : Int) - f.mw
      let q := max (x.ilog2 - f.mw) qmin
      let (n, exact) := x.roundAt q rnd u
      let code := (q - qmin).toNat * 2 ^ f.mw + n
      if f.largest < code then
        if sat || f.special == .none || !roundsAway rnd neg then (f.signed neg f.largest, fpOF ||| fpNX)
        else if f.special == .oneNan then (f.defaultNan, fpOF ||| fpNX)
        else (f.infinity neg, fpOF ||| fpNX)
      else (f.signed neg code, fpWhen (!exact) (fpNX ||| fpWhen (f.tiny rnd u x) fpUF))

/-! Exact arithmetic (08 R209, 05 R131). -/

/-- Whether a decoded value is a signalling NaN, a NaN, zero. -/
def FVal.isSig : FVal → Bool
  | .nan s => s
  | _ => false
def FVal.isNan : FVal → Bool
  | .nan _ => true
  | _ => false
def FVal.isZero : FVal → Bool
  | .num _ m _ => m == 0
  | _ => false
def FVal.neg? : FVal → Bool
  | .num s _ _ => s
  | .inf s => s
  | _ => false

def FVal.negate : FVal → FVal
  | .num s m e => .num (!s) m e
  | .inf s => .inf (!s)
  | x => x

/-- A finite value as an integer multiple of 2^q, for q at most its exponent. -/
def FVal.at_ (x : FVal) (q : Int) : Int :=
  match x with
  | .num s m e => let v : Int := m * 2 ^ (e - q).toNat; if s then -v else v
  | _ => 0

/-- The exact sum (05 R131): opposite zeros and exact cancellations give +0, and -0 under rdn. -/
def addExact (rnd : Rnd) (a b : FVal) : Exact :=
  match a, b with
  | .nan s, y => .nan (s || y.isSig)
  | x, .nan s => .nan (s || x.isSig)
  | .inf s, .inf t => if s == t then .inf s else .nan true
  | .inf s, _ => .inf s
  | _, .inf t => .inf t
  | .num s m e, .num t n k =>
    let q := min e k
    let v := FVal.at_ (.num s m e) q + FVal.at_ (.num t n k) q
    if v == 0 then .ratio (if s == t then s else rnd == .rdn) 0 1 0 else .ratio (decide (v < 0)) v.natAbs 1 q

/-- The exact product. -/
def mulVal (a b : FVal) : FVal :=
  match a, b with
  | .nan s, y => .nan (s || y.isSig)
  | x, .nan s => .nan (s || x.isSig)
  | .inf s, y => if y.isZero then .nan true else .inf (s != y.neg?)
  | x, .inf t => if x.isZero then .nan true else .inf (x.neg? != t)
  | .num s m e, .num t n k => .num (s != t) (m * n) (e + k)

/-- The exact fused product and sum (08 R209): infinity times zero is an invalid NaN whatever c is. -/
def fmaExact (rnd : Rnd) (a b c : FVal) : Exact :=
  match mulVal a b with
  | .nan true => .nan true
  | p => addExact rnd p c

/-- The exact quotient with the division-by-zero flag (08 R209). An infinite dividend over a finite divisor is exactly infinite: 05
R141 says what sat = 1 delivers of the infinite results that it lists, and this is not one of them; DESIGN CHOICE (log 93): it is
delivered as those are, ±M with NX. -/
def divExact (a b : FVal) : Exact × FpFlags :=
  match a, b with
  | .nan s, y => (.nan (s || y.isSig), fpNone)
  | x, .nan s => (.nan (s || x.isSig), fpNone)
  | .inf _, .inf _ => (.nan true, fpNone)
  | .inf s, y => (.inf (s != y.neg?), fpNone)
  | x, .inf t => (.ratio (x.neg? != t) 0 1 0, fpNone)
  | .num s m e, .num t n k =>
    if n == 0 then (if m == 0 then (.nan true, fpNone) else (.inf (s != t), fpDZ))
    else (.ratio (s != t) m n (e - k), fpNone)

/-- The exact square root (08 R214, R216). The root of +∞ under sat = 1 is delivered as the infinite results of 05 R141 are:
DESIGN CHOICE (log 93). -/
def sqrtExact (a : FVal) : Exact :=
  match a with
  | .nan s => .nan s
  | .inf neg => if neg then .nan true else .inf false
  | .num neg m e =>
    if m == 0 then .ratio neg 0 1 0
    else if neg then .nan true
    else if e % 2 == 0 then .root m (e / 2) else .root (2 * m) ((e - 1) / 2)

/-- a * 2^n (08 R213). A count beyond 5,000 either way rounds as 5,000 does in every format. -/
def scalebExact (a : FVal) (n : Int) : Exact :=
  match a with
  | .num neg m e => .ratio neg m 1 (e + max (-5000) (min 5000 n))
  | x => x.exact

/-- FRND (08 R213): rounded to an integral value in its own format. -/
def Fmt.frnd (f : Fmt) (rnd : Rnd) (u : W32) (x : Nat) : Nat × FpFlags :=
  match f.decode x with
  | .num neg m e =>
    let (n, exact) := Exact.roundAt (.ratio neg m 1 e) 0 rnd u
    ((f.round .rne false 0 (.ratio neg n 1 0)).1, fpWhen (!exact) fpNX)
  | v => f.round .rne false 0 v.exact

/-- FMinNum and FMaxNum (08 R210). -/
def Fmt.minMax (f : Fmt) (lesser : Bool) (a b : Nat) : Nat × FpFlags :=
  let x := f.decode a
  let y := f.decode b
  let nv := fpWhen (x.isSig || y.isSig) fpNV
  let less (u v : FVal) : Bool :=
    match u, v with
    | .inf s, .inf t => s && !t
    | .inf s, _ => s
    | _, .inf t => !t
    | .num s m e, .num t n k => decide (FVal.at_ (.num s m e) (min e k) < FVal.at_ (.num t n k) (min e k))
    | _, _ => false
  if x.isNan then (if y.isNan then f.defaultNan else b, nv)
  else if y.isNan then (a, nv)
  else if x.isZero && y.isZero then (if x.neg? == lesser then a else b, nv)
  else if lesser then (if less y x then b else a, nv)
  else (if less x y then b else a, nv)

/-- FCMP's relation and its NV (08 R211; conditions of 06 R165). -/
def Fmt.compare (f : Fmt) (c : Nat) (a b : Nat) : Bool × FpFlags :=
  let x := f.decode a
  let y := f.decode b
  let nan := x.isNan || y.isNan
  let sig := fpWhen (x.isSig || y.isSig) fpNV
  let lt (u v : FVal) : Bool :=
    match u, v with
    | .inf s, .inf t => s && !t
    | .inf s, _ => s
    | _, .inf t => !t
    | .num s m e, .num t n k => decide (FVal.at_ (.num s m e) (min e k) < FVal.at_ (.num t n k) (min e k))
    | _, _ => false
  match c with
  | 0 => (!nan && !lt x y && !lt y x, sig)
  | 1 => (nan || lt x y || lt y x, sig)
  | 2 => (!nan && lt x y, fpWhen nan fpNV)
  | 3 => (!nan && !lt y x, fpWhen nan fpNV)
  | 4 => (!nan && lt y x, fpWhen nan fpNV)
  | 5 => (!nan && !lt x y, fpWhen nan fpNV)
  | 6 => (nan, sig)
  | _ => (!nan, sig)

/-- FCLASS (08 R212): the number of the one bit that is set. -/
def Fmt.classBit (f : Fmt) (a : Nat) : Nat :=
  match f.decode a with
  | .nan s => if s then 8 else 9
  | .inf neg => if neg then 0 else 7
  | .num neg m _ =>
    if m == 0 then (if neg then 3 else 4)
    else if m < 2 ^ f.mw then (if neg then 2 else 5)
    else (if neg then 1 else 6)

/-- Convert of an exact value to an integer type (05 R142). -/
def toIntType (signed : Bool) (w : Nat) (rnd : Rnd) (u : W32) (x : Exact) : Nat × FpFlags :=
  let lo : Int := if signed then -2 ^ (w - 1) else 0
  let hi : Int := if signed then 2 ^ (w - 1) - 1 else 2 ^ w - 1
  let code (v : Int) : Nat := (v % 2 ^ w).toNat
  match x with
  | .nan _ => (0, fpNV)
  | .inf neg => (code (if neg then lo else hi), fpNV)
  | _ =>
    let (n, exact) := x.roundAt 0 rnd u
    let v : Int := if x.neg? then -(n : Int) else n
    if v < lo then (code lo, fpNV) else if hi < v then (code hi, fpNV) else (code v, fpWhen (!exact) fpNX)

/-- The exact value of an integer. -/
def intExact (v : Int) : Exact := .ratio (decide (v < 0)) v.natAbs 1 0

/-- The value of an e8m0 code (05 R132). -/
def e8m0Val (x : Nat) : FVal := if x == 0xFF then .nan false else .num false 1 ((x : Int) - 127)

/-- The value of a source type's element (08 R218, R220). -/
def Ty.value (t : Ty) (x : Nat) : FVal :=
  if t == .e8m0 then e8m0Val x
  else
    match Ty.fmt t with
    | some f => f.decode x
    | none =>
      let v := elemInt (Ty.signed t) (BitVec.ofNat (Ty.elems t).1 x)
      .num (decide (v < 0)) v.natAbs 0

/-- Whether a type is an integer type. -/
def Ty.isInt (t : Ty) : Bool := (Ty.fmt t).isNone && t != .e8m0

/-- Convert between the element formats of two types (05 R142, 08 R218, R219). -/
def convertElem (src dst : Ty) (x : Nat) (rnd : Rnd) (sat : Bool) (u : W32) : Nat × FpFlags :=
  let sw := (Ty.elems src).1
  let dw := (Ty.elems dst).1
  if Ty.isInt src && Ty.isInt dst then
    let v := elemInt (Ty.signed src) (BitVec.ofNat sw x)
    ((if sat then satInt (Ty.signed dst) dw v else BitVec.ofInt dw v).toNat, fpNone)
  else
    match Ty.fmt dst with
    | none => toIntType (Ty.signed dst) dw rnd u (Ty.value src x).exact
    | some f =>
      if Ty.fmt src == some f && !(Ty.value src x).isNan then (x % 2 ^ sw, fpNone)
      else f.round rnd sat u (Ty.value src x).exact

/-- The chunk sum of MMA, MMAS and MMAX (05 R146). -/
def chunkSum (products : List FVal) : FVal :=
  let infs := products.filter fun p => match p with | .inf _ => true | _ => false
  if products.any FVal.isNan || (infs.any FVal.neg? && infs.any fun p => !p.neg?) then .nan true
  else
    match infs with
    | p :: _ => p
    | [] =>
      let q := products.foldl (fun (acc : Int) p => match p with | .num _ _ e => min acc e | _ => acc) 0
      let v := products.foldl (fun (acc : Int) p => acc + p.at_ q) 0
      if v == 0 then .num (products.all FVal.neg?) 0 0 else .num (decide (v < 0)) v.natAbs q

/-- One chunk added to an f32 accumulator with one rne rounding (05 R146). -/
def accumulate (acc : W32) (chunk : FVal) : W32 × FpFlags :=
  let (c, f) := fmtF32.round .rne false 0 (addExact .rne (fmtF32.decode acc.toNat) chunk)
  (BitVec.ofNat 32 c, f)

end Sys2Proof.Machine
end

