-- ==== Sys2Proof/Machine/Special.lean ====
section
/-! DEFINITION. Special functions (08 R214-R217). The exact mathematical value is approximated with 320 fraction bits, far
below every bound; the result is the implementation's own value where that lies within the bound of R215, and the correctly
rounded one otherwise (log 10). -/

namespace Sys2Proof.Machine

/-- Fraction bits of the fixed-point values. -/
def fxBits : Nat := 320

/-- 1 in fixed point. -/
def fxOne : Int := 2 ^ fxBits

/-- The sum of `n` terms of a series: term, step from index and term to the next term. -/
def fxSeries (next : Nat → Int → Int) : Nat → Nat → Int → Int → Int
  | 0, _, _, acc => acc
  | n + 1, k, t, acc => fxSeries next n (k + 1) (next k t) (acc + t)

/-- Sum of z^(2k+1)/(2k+1) or its alternating form, for |z| at most 1/3 in fixed point. -/
def fxOddPowers (alternate : Bool) (z : Int) : Int :=
  let z2 := z * z / fxOne
  let rec go : Nat → Nat → Int → Int → Int
    | 0, _, _, acc => acc
    | n + 1, k, p, acc =>
      let t := p / (2 * (k : Int) + 1)
      go n (k + 1) (p * z2 / fxOne) (if alternate && k % 2 == 1 then acc - t else acc + t)
  go 112 0 z 0

/-- The natural logarithm of 2: 2 artanh(1/3). -/
def fxLn2 : Int := 2 * fxOddPowers false (fxOne / 3)

/-- Pi: 16 arctan(1/5) - 4 arctan(1/239). -/
def fxPi : Int := 16 * fxOddPowers true (fxOne / 5) - 4 * fxOddPowers true (fxOne / 239)

/-- e^r for 0 ≤ r < 1. -/
def fxExp (r : Int) : Int := fxSeries (fun k t => t * r / fxOne / ((k : Int) + 1)) 90 0 fxOne 0

/-- sin r and cos r for |r| at most 7. -/
def fxSin (r : Int) : Int :=
  let r2 := r * r / fxOne
  fxSeries (fun k t => -(t * r2 / fxOne / ((2 * (k : Int) + 2) * (2 * k + 3)))) 70 0 r 0
def fxCos (r : Int) : Int :=
  let r2 := r * r / fxOne
  fxSeries (fun k t => -(t * r2 / fxOne / ((2 * (k : Int) + 1) * (2 * k + 2)))) 70 0 fxOne 0

/-- A finite value ±m * 2^e in fixed point, clamped to ±2^140. -/
def fxOf (neg : Bool) (m : Nat) (e : Int) : Int :=
  let v : Int := (floorShift m 1 (min 140 e + fxBits)).1
  if neg then -v else v

/-- A fixed-point value times 2^k. -/
def fxExact (v k : Int) : Exact := .ratio (decide (v < 0)) v.natAbs 1 (k - fxBits)

/-- e^x for a fixed-point x within ±1024. -/
def expOf (x : Int) : Exact :=
  let k := x / fxLn2
  fxExact (fxExp (x - k * fxLn2)) k

/-- Clamps a fixed-point exponent argument: beyond it every f32 result is 0 or infinite. -/
def fxClamp (x : Int) : Int := max (-1000 * fxOne) (min (1000 * fxOne) x)

/-- The functions that have a bound (08 R214): FRCP, FRSQ, FEXP2 (with its .e form), FLOG2, FSIN, FCOS, FTANH. -/
inductive SpecialFn where
  | rcp | rsq | exp2 (e : Bool) | log2 | sin | cos | tanh
  deriving DecidableEq, Repr

/-- The mathematical value at ±m * 2^e, m not 0. -/
def SpecialFn.value (fn : SpecialFn) (neg : Bool) (m : Nat) (e : Int) : Exact :=
  match fn with
  | .rcp => .ratio neg 1 m (-e)
  | .rsq =>
    -- 1 / sqrt(m * 2^e) = sqrt(2^800 / m) * 2^(-400) * 2^(-e/2), the root taken as a fraction of 340 and more bits
    let (m, e) := if e % 2 == 0 then (m, e) else (2 * m, e - 1)
    .ratio false (isqrt (2 ^ 800 / m)) 1 (-400 - e / 2)
  | .exp2 byE =>
    let x := fxClamp (fxOf neg m (min e 20))
    if byE then expOf x
    else
      let k := x / fxOne
      fxExact (fxExp ((x - k * fxOne) * fxLn2 / fxOne)) k
  | .log2 =>
    let l := Nat.log2 m
    let y : Int := (m : Int) * fxOne / 2 ^ l
    let ln := 2 * fxOddPowers false ((y - fxOne) * fxOne / (y + fxOne))
    fxExact (((l : Int) + e) * fxOne + ln * fxOne / fxLn2) 0
  | .sin => fxExact (fxSin (fxOf neg m e % (2 * fxPi))) 0
  | .cos => fxExact (fxCos (fxOf neg m e % (2 * fxPi))) 0
  | .tanh =>
    let a := min (100 * fxOne) (fxOf false m (min e 20))
    let x := -2 * a
    let k := x / fxLn2
    let t := (floorShift (fxExp (x - k * fxLn2)).natAbs 1 k).1
    .ratio neg (fxOne - t).natAbs (fxOne + t).natAbs 0

/-- The exponent of an f32 ulp of a real value (08 R214). -/
def ulpExp (y : Exact) : Int := if y.isZero then -149 else max (y.ilog2 - 23) (-149)

/-- The bound of R215 as a number of 2^(-600) units, from the value and the operand's magnitude m * 2^e. -/
def SpecialFn.bound (fn : SpecialFn) (m : Nat) (e : Int) (y : Exact) : Nat :=
  let ulps (n : Nat) : Nat := n * 2 ^ (ulpExp y + 600).toNat
  let small := (floorShift m 1 e).1 < 2 ^ 15 || floorShift m 1 e == (2 ^ 15, false)
  match fn with
  | .rcp => ulps 1
  | .rsq | .exp2 _ | .tanh => ulps 2
  | .log2 =>
    let l := (Nat.log2 m : Int) + e
    if l == -1 || l == 0 then max (ulps 2) (2 ^ 578) else ulps 2
  | .sin | .cos => if small then max (ulps 2) (2 ^ 578) else 2 ^ 584

/-- A signed magnitude in 2^(-600) units. -/
def fineUnits (x : Exact) : Int :=
  let v : Int := (x.scaled (-600)).1
  if x.neg? then -v else v

/-- Whether a finite f32 code is an allowed result (08 R215): within the bound, less 2^(-60) of it for the approximation,
and within -1 to 1 for sine, cosine and hyperbolic tangent. -/
def SpecialFn.allows (fn : SpecialFn) (m : Nat) (e : Int) (y : Exact) (code : Nat) : Bool :=
  match fmtF32.decode code with
  | .num s n k =>
    let b := fn.bound m e y
    let c := fineUnits (.ratio s n 1 k)
    let unit := match fn with
      | .sin | .cos | .tanh => decide (c.natAbs ≤ 2 ^ 600)
      | _ => true
    unit && decide ((c - fineUnits y).natAbs + b / 2 ^ 60 + 1 ≤ b)
  | _ => false

/-- The operands with an exact result (08 R217): ±m * 2^e with m odd. -/
def SpecialFn.exactRow (fn : SpecialFn) (neg : Bool) (m : Nat) (e : Int) : Option Exact :=
  let l := (Nat.log2 m : Int) + e
  let pow := m == 2 ^ Nat.log2 m
  match fn with
  | .rcp => if pow && -127 ≤ l && l ≤ 127 then some (.ratio neg 1 1 (-l)) else none
  | .rsq => if pow && l % 2 == 0 && -148 ≤ l && l ≤ 126 then some (.ratio false 1 1 (-(l / 2))) else none
  | .exp2 false =>
    let (n, rest) := floorShift m 1 e
    let k : Int := if neg then -(n : Int) else n
    if !rest && -149 ≤ k && k ≤ 127 then some (.ratio false 1 1 k) else none
  | .log2 => if pow && -149 ≤ l && l ≤ 127 then some (intExact l) else none
  | _ => none

/-- An f32 operand's result and flags (08 R215-R217). -/
def SpecialFn.apply (fn : SpecialFn) (key : Nat) (a : Nat) : Nat × FpFlags :=
  let nan := fmtF32.defaultNan
  let one := 0x3F800000
  match fmtF32.decode a with
  | .nan s => (nan, fpWhen s fpNV)
  | .inf neg =>
    match fn with
    | .rcp => (fmtF32.signed neg 0, fpNone)
    | .rsq => if neg then (nan, fpNV) else (0, fpNone)
    | .exp2 _ => if neg then (0, fpNone) else (fmtF32.infinity false, fpNone)
    | .log2 => if neg then (nan, fpNV) else (fmtF32.infinity false, fpNone)
    | .sin | .cos => (nan, fpNV)
    | .tanh => (fmtF32.signed neg one, fpNone)
  | .num neg m e =>
    if m == 0 then
      match fn with
      | .rcp | .rsq => (fmtF32.infinity neg, fpDZ)
      | .exp2 _ | .cos => (one, fpNone)
      | .log2 => (fmtF32.infinity true, fpDZ)
      | .sin | .tanh => (fmtF32.signed neg 0, fpNone)
    else if neg && (fn == .rsq || fn == .log2) then (nan, fpNV)
    else
      match fn.exactRow neg m e with
      | some y => ((fmtF32.round .rne false 0 y).1, fpNone)
      | none =>
        let y := fn.value neg m e
        let (r, f) := fmtF32.round .rne false 0 y
        if f &&& fpOF != 0 then (r, f)
        else
          let own := (Config.specialResult key (BitVec.ofNat 32 a)).toNat
          (if fn.allows m e y own then own else r, fpNX ||| fpWhen (fmtF32.tiny .rne 0 y) fpUF)

end Sys2Proof.Machine
end

