-- ==== Sys2Proof/Machine/Lane.lean ====
section
/-! DEFINITION. How a lane instruction executes (08 R203, R222; 17 R392): active threads, poisoned sources, draws, and the
writes of each thread. -/

namespace Sys2Proof.Machine

/-- What one thread of a lane instruction writes: a vector register, a pair or a predicate; the flags it raises and its
generator state after its draws. -/
inductive LaneWrite where
  | reg (r : Reg) (v : W32)
  | pair (r : Reg) (v : Word)
  | pred (k : Nat) (b : Bool)
  deriving DecidableEq, Repr

structure LaneOut where
  write : LaneWrite
  flags : FpFlags
  gen : W32
  deriving DecidableEq, Repr

/-- Writes one thread's result. -/
def Warp.putLane (w : Warp) (t : Nat) (o : LaneOut) : Warp :=
  let w := match o.write with
    | .reg r v => w.setV r.toNat t v none
    | .pair r v => w.setV64 r.toNat t v
    | .pred k b => w.setPred k (BitVec.ofNat 64 (2 ^ t)) (if b then BitVec.allOnes 64 else 0)
  { w with fpflags := w.fpflags ||| o.flags, gens := Table.set 0 t o.gen w.gens }

/-- A thread's generator state (05 R139). -/
def Warp.gen (w : Warp) (t : Nat) : W32 := Table.get 0 w.gens t

/-- The vector registers a G-V form reads, with how many each names (06 R162; 08 R207: VBFI reads vd). -/
def laneSources (cls : BitVec 6) (fn : Nat) (o : GV) : List (Reg × Nat) :=
  match laneRule? cls fn with
  | none => []
  | some rule =>
    let x4 := [Ty.e4m3x4, .e5m2x4, .s8x4, .n8x4].contains o.dtype
    let n := if o.dtype.pair then 2 else 1
    let field (k : FieldKind) (r : Reg) : List (Reg × Nat) :=
      match k with
      | .vec => [(r, n)]
      | .one => [(r, 1)]
      | .src => [(r, if ((Ty.ofCode o.aux).map Ty.pair).getD false then 2 else 1)]
      | .pack => [(r, if x4 then 2 else 1)]
      | _ => []
    let unpackScale := cls == 0x0B && fn == 2 && o.vc == 0
    field rule.va o.va ++ field rule.vb o.vb ++ (if unpackScale then [] else field rule.vc o.vc) ++
      (if cls == 0x08 && fn == 26 then [(o.vd, n)] else [])

/-- The lowest tag of a thread's poisoned registers among some sources. -/
def Warp.sourcePoison (w : Warp) (t : Nat) (srcs : List (Reg × Nat)) : Option Prov :=
  lowestProv (srcs.flatMap fun x => (List.range x.2).map fun i => Table.look w.vpoison (vkey (x.1.toNat + i) t))

/-- The tag of a thread's predicate file when a predicate other than p7 is read (17 R390). -/
def Warp.predPoison (w : Warp) (t : Nat) (ks : List Nat) : Option Prov :=
  if ks.any (· != 7) then Table.look w.ppoison t else none

/-- The executing warp, if the executing agent is one. -/
def State.curWarp (s : State) : Option (Nat × Nat) :=
  match s.cur with
  | .warp g w => some (g, w)
  | _ => none

/-- Completes an instruction of `len` bytes that was executed for part of its lanes: it moves on when no lane is bad, and
otherwise traps for the bad ones, which are performed again (09 R243, 17 R392). -/
def State.finishLanes (s : State) (len : Nat) (bad : Mask) (prov : Option Prov) : State :=
  if bad == 0 then s.advance len else s.trapWith .poison none prov bad 0 0 (some bad)

/-- Poisons what one thread's result was written to (17 R398). -/
def Warp.poisonLane (w : Warp) (t : Nat) (o : LaneOut) (p : Prov) : Warp :=
  match o.write with
  | .reg r _ => { w with vpoison := Table.put (vkey r.toNat t) p w.vpoison }
  | .pair r _ => { w with vpoison := Table.put (vkey (r.toNat + 1) t) p (Table.put (vkey r.toNat t) p w.vpoison) }
  | .pred _ _ => { w with ppoison := Table.put t p w.ppoison }

/-- The threads among some whose results differ, with the tag for those that differ still; the counts of R400 follow. -/
def State.pairLanes (s : State) (g : Nat) (m : Mask) : (Mask × Option Prov) × State :=
  let (d, s) := s.pairTurn g
  let d : PairDiffer := ⟨d.differ.filter (bit m), d.still.filter (bit m)⟩
  let x := s.group g
  let (p, s) := (s.countPair x.vd d).pairTag (18 + dieOf x.core) d
  ((maskOf fun t => d.still.contains t, p), s)

/-- A lane instruction: `poison` gives the tag a thread would consume and `f` what an active thread does, from the warp as
it stands at issue (08 R203); under paired issue an element that still differs is written poisoned (17 R398). -/
def laneOp (len : Nat) (p : BitVec 3) (pneg : Bool) (poison : Warp → Nat → Option Prov) (f : Warp → Nat → Nat → LaneOut)
    (s : State) : Res :=
  match s.cur with
  | .warp g wn =>
    let w := s.warp g wn
    let m := w.issueMask
    let act := w.active p pneg
    let blind := maskOf fun t => bit m t && (w.predPoison t [p.toNat]).isSome
    let tag (t : Nat) : Option Prov :=
      if bit blind t then w.predPoison t [p.toNat] else if bit act t then poison w t else none
    let bad := maskOf fun t => bit m t && (tag t).isSome
    let good := m &&& act &&& ~~~bad
    let ((still, p), s) := s.pairLanes g good
    let w' := (lanesOf good).foldl (fun x t => x.putLane t (f w wn t)) w
    let w' := match p with
      | some q => (lanesOf still).foldl (fun x t => x.poisonLane t (f w wn t) q) w'
      | none => w'
    .next ((s.setWarp g wn w').finishLanes len bad (lowestProv ((lanesOf bad).map tag)))
  | _ => .next (s.trap .wrongAgent)

/-- The value of a source register of a thread under a type: a pair for 64-bit types (08 R204). -/
def Warp.src (w : Warp) (t : Ty) (r : Reg) (l : Nat) : Word :=
  if t.pair then w.v64 r.toNat l else (w.v r.toNat l).setWidth 64

/-- A write of a result under a type. -/
def destWrite (t : Ty) (r : Reg) (v : Word) : LaneWrite := if t.pair then .pair r v else .reg r (v.setWidth 32)

/-- A thread's result without flags or draws. -/
def Warp.plain (w : Warp) (l : Nat) (x : LaneWrite) : LaneOut := ⟨x, fpNone, w.gen l⟩

/-- The element results of a thread, element 0 up, each with its flags; each draws once under rsr (05 R138, R139). -/
def elemResults (rnd : Rnd) (width : Nat) (f : Nat → W32 → Nat × FpFlags) : Nat → Nat → W32 → Word → FpFlags →
    Word × FpFlags × W32
  | 0, _, gen, acc, fl => (acc, fl, gen)
  | n + 1, i, gen, acc, fl =>
    let gen := if rnd == .rsr then rngNext gen else gen
    let (c, g) := f i gen
    elemResults rnd width f n (i + 1) gen (acc ||| BitVec.ofNat 64 (c % 2 ^ width) <<< (width * i)) (fl ||| g)

/-- A thread's float result, element by element, under the instruction's type. -/
def Warp.floatLane (w : Warp) (o : GV) (l : Nat) (f : Nat → W32 → Nat × FpFlags) : LaneOut :=
  let (ew, n) := Ty.elems o.dtype
  let (v, fl, gen) := elemResults o.rnd ew f n 0 (w.gen l) 0 fpNone
  ⟨destWrite o.dtype o.vd v, fl, gen⟩

/-- A G-V lane instruction whose sources are its register fields. -/
def laneV (f : Form) (o : GV) (s : State) (k : Warp → Nat → Nat → LaneOut) : Res :=
  checked f s (laneOp f.len o.p o.pneg (fun w t => w.sourcePoison t (laneSources f.cls f.fn o)) k)

end Sys2Proof.Machine
end

