-- ==== Sys2Proof/Machine/Branch.lean ====
section
/-! DEFINITION. Control flow, SCTL (07 R184-R186). -/

namespace Sys2Proof.Machine

/-- Target(off) (07 R180). -/
def State.branchTarget (s : State) (off : W32) : Word := s.pc + (off.signExtend 64) * 2

/-- Moves every head thread to Target(off) or to Next (07 R184). -/
def State.branchIf (s : State) (len : Nat) (off : W32) (c : Bool) : State :=
  s.setPc (if c then s.branchTarget off else s.nextPc len)

/-- BR, BRZ, BRNZ and BRC (07 R184). -/
def uniformOp (len fn : Nat) (o : GB) (s : State) : Res :=
  checked ⟨len, 0x03, fn, .b o⟩ s fun s =>
    .next (s.branchIf len o.off (match fn with
      | 0 => true
      | 1 => s.sreg o.sa == 0
      | 2 => s.sreg o.sa != 0
      | _ => compareB o.cond.toNat (s.sreg o.sa) (s.sreg o.sb)))

/-- CALL (07 R184): the link, then the branch. -/
def callOp (len : Nat) (o : GB) (s : State) : Res :=
  checked ⟨len, 0x03, 4, .b o⟩ s fun s =>
    .next ((s.setSreg o.sa (s.nextPc len)).setPc (s.branchTarget o.off))

/-- Jumps to a register's value, or traps MISALIGN with the target in s92 when bit 0 is set (07 R185, 16 R379). -/
def State.jumpTo (s : State) (t : Word) (k : State → State) : State :=
  if t.getLsbD 0 then s.trapAt .misalign t else (k s).setPc t

/-- JMPR and RET (07 R184). -/
def jumpOp (len fn : Nat) (o : GB) (s : State) : Res :=
  checked ⟨len, 0x03, fn, .b o⟩ s fun s => .next (s.jumpTo (s.sreg o.sa) fun s => s)

/-- CALLR (07 R184): the target is read before the link is written. -/
def callrOp (len : Nat) (o : GB) (s : State) : Res :=
  checked ⟨len, 0x03, 6, .b o⟩ s fun s => .next (s.jumpTo (s.sreg o.sa) fun s => s.setSreg o.sb (s.nextPc len))

/-- BRP (07 R186): each head thread goes by its own predicate; the branch conditions of poisoned predicate files are
consumed (17 R392), and then no thread moves. -/
def brpOp (len : Nat) (o : GB) (s : State) : Res :=
  checked ⟨len, 0x03, 8, .b o⟩ s fun s =>
    match s.cur with
    | .warp g wn =>
      let w := s.warp g wn
      let head := w.head
      match lowestProv ((lanesOf head.mask).map fun t => w.predPoison t [o.cond.toNat]) with
      | some p => .next (s.trapWith .poison none (some p)
          (maskOf fun t => bit head.mask t && (w.predPoison t [o.cond.toNat]).isSome) 0 0 none)
      | none =>
        let take := head.mask &&& w.active o.cond o.neg
        .next (s.setWarp g wn (w.moveHead [{ head with pc := s.branchTarget o.off, mask := take },
          { head with pc := s.nextPc len, mask := head.mask &&& ~~~take }]))
    | _ => .next (s.trap .wrongAgent)

/-- LOOP (07 R184). -/
def loopOp (len : Nat) (o : GB) (s : State) : Res :=
  checked ⟨len, 0x03, 9, .b o⟩ s fun s =>
    let v := s.sreg o.sa - 1
    .next ((s.setSreg o.sa v).branchIf len o.off (v != 0))

/-- BR (R184). -/
def execBr (o : GB) (s : State) : Res := uniformOp 8 0 o s

/-- BRZ (R184). -/
def execBrz (o : GB) (s : State) : Res := uniformOp 8 1 o s

/-- BRNZ (R184). -/
def execBrnz (o : GB) (s : State) : Res := uniformOp 8 2 o s

/-- BRC (R184). -/
def execBrc (o : GB) (s : State) : Res := uniformOp 8 3 o s

/-- CALL (R184). -/
def execCall (o : GB) (s : State) : Res := callOp 8 o s

/-- JMPR (R185). -/
def execJmpr (o : GB) (s : State) : Res := jumpOp 8 5 o s

/-- CALLR (R185). -/
def execCallr (o : GB) (s : State) : Res := callrOp 8 o s

/-- RET (R184). -/
def execRet (o : GB) (s : State) : Res := jumpOp 8 7 o s

/-- BRP (R186). -/
def execBrp (o : GB) (s : State) : Res := brpOp 8 o s

/-- LOOP (R184). -/
def execLoop (o : GB) (s : State) : Res := loopOp 8 o s

end Sys2Proof.Machine
end

