-- ==== Sys2Proof/Machine/Sha.lean ====
section
/-! DEFINITION. SHAKE256 (FIPS 202), which images, training records, measurements and manifests use (01 R24-R26; 18 R414). The
round constants come from the standard's shift register and the rotations from its walk over the lanes. -/

namespace Sys2Proof.Machine

/-- The shift register of the round constants after `n` steps: x^8 + x^6 + x^5 + x^4 + 1, from 1. -/
def iotaReg : Nat → Nat
  | 0 => 1
  | n + 1 =>
    let r := iotaReg n
    if r < 128 then 2 * r else (2 * r) ^^^ 0x171

/-- What round `i` adds to the first lane: bit 2^j - 1 is the register's low bit after 7i + j steps. -/
def iotaWord (i : Nat) : Word :=
  BitVec.ofNat 64 ((List.range 7).map fun j => iotaReg (7 * i + j) % 2 * 2 ^ (2 ^ j - 1)).sum

/-- The lane of column x and row y of a state of 25 lanes. -/
def lane5 (s : List Word) (x y : Nat) : Word := listGet 0 s (5 * y + x)

/-- The parity of a column. -/
def columnParity (s : List Word) (x : Nat) : Word := (List.range 5).foldl (fun p y => p ^^^ lane5 s (x % 5) y) 0

/-- θ: each lane takes the parities of the columns beside its own. -/
def mixColumns5 (s : List Word) : List Word :=
  let gain := (List.range 5).map fun x => columnParity s (x + 4) ^^^ (columnParity s (x + 1)).rotateLeft 1
  (List.range 25).map fun i => listGet 0 s i ^^^ listGet 0 gain (i % 5)

/-- ρ and π in one walk: from (1, 0), lane (x, y) goes to (y, 2x + 3y), turned by the next triangular number. -/
def walkLanes (s : List Word) : List Word :=
  ((List.range 24).foldl (fun (w : List Word × Nat × Nat) t =>
    let (out, x, y) := w
    let z := (2 * x + 3 * y) % 5
    (listSet out (5 * z + y) ((lane5 s x y).rotateLeft ((t + 1) * (t + 2) / 2 % 64)), y, z)) (s, 1, 0)).1

/-- χ on a row. -/
def chiRow (r : List Word) : List Word :=
  (List.range 5).map fun x => listGet 0 r x ^^^ (listGet 0 r ((x + 2) % 5) &&& ~~~listGet 0 r ((x + 1) % 5))

/-- Round `i` of the permutation. -/
def spongeRound (s : List Word) (i : Nat) : List Word :=
  let w := walkLanes (mixColumns5 s)
  match (List.range 5).flatMap fun y => chiRow ((w.drop (5 * y)).take 5) with
  | l :: ls => (l ^^^ iotaWord i) :: ls
  | [] => []

/-- The bytes of a message and its padding: 0x1F, then zeros, and bit 7 of the last byte of a block of 136. -/
def spongeInput (bs : List Byte) : List Byte :=
  let room := 135 - bs.length % 136
  if room == 0 then bs ++ [0x9F] else bs ++ 0x1F :: List.replicate (room - 1) 0 ++ [0x80]

/-- Takes in `n` blocks of 17 lanes. -/
def takeBlocks : Nat → List Byte → List Word → List Word
  | 0, _, s => s
  | n + 1, bs, s =>
    let words := (List.range 17).map fun i => wordOf ((bs.drop (8 * i)).take 8)
    takeBlocks n (bs.drop 136) ((List.range 24).foldl spongeRound (List.zipWith (· ^^^ ·) s (words ++ List.replicate 8 0)))

/-- SHAKE256 with an output of `n` bytes, at most 136. -/
def shake256 (bs : List Byte) (n : Nat) : List Byte :=
  let input := spongeInput bs
  ((takeBlocks (input.length / 136) input (List.replicate 25 0)).flatMap bytesOf).take n

end Sys2Proof.Machine
end

