-- ==== Sys2Proof/Machine/VFlt.lean ====
section
/-! DEFINITION. Floating-point lane instructions, VFLT (08 R209-R213). -/

namespace Sys2Proof.Machine

/-- The format of a G-V form's elements; f32 where it has none. -/
def formatOf (o : GV) : Fmt := (Ty.fmt o.dtype).getD fmtF32

/-- One element of a VFLT arithmetic function (08 R209, R210, R213), from the codes of its operands. -/
def vfltElem (fn : Nat) (f : Fmt) (rnd : Rnd) (sat : Bool) (a b c : Nat) (u : W32) : Nat × FpFlags :=
  let x := f.decode a
  let y := f.decode b
  let z := f.decode c
  match fn with
  | 0 => f.round rnd sat u (addExact rnd x y)
  | 1 => f.round rnd sat u (addExact rnd x y.negate)
  | 2 => f.round rnd sat u (mulVal x y).exact
  | 3 => f.round rnd sat u (fmaExact rnd x y z)
  | 4 => f.round rnd sat u (fmaExact rnd x y z.negate)
  | 5 => f.minMax true a b
  | 6 => f.minMax false a b
  | 7 => (a % 2 ^ (f.ew + f.mw), fpNone)
  | 8 => (if a < 2 ^ (f.ew + f.mw) then a + 2 ^ (f.ew + f.mw) else a - 2 ^ (f.ew + f.mw), fpNone)
  | 11 => f.round rnd sat u (scalebExact x (elemInt true (BitVec.ofNat (min f.bits 32) b)))
  | 12 => f.frnd rnd u a
  | 13 =>
    let (e, dz) := divExact x y
    let (r, g) := f.round rnd sat u e
    (r, dz ||| g)
  | _ =>
    let (r, g) := f.round rnd sat u (addExact rnd x y)
    let (m, h) := f.minMax true r c
    (m, g ||| h)

/-- A VFLT function with a register result of its own type (08 R209). -/
def vfltOp (len fn : Nat) (o : GV) (s : State) : Res :=
  laneV ⟨len, 0x0A, fn, .v o⟩ o s fun w _ t =>
    let ew := (Ty.elems o.dtype).1
    let x (r : Reg) (i : Nat) : Nat := (elemAt (w.src o.dtype r t) ew i).toNat
    w.floatLane o t fun i u => vfltElem fn (formatOf o) o.rnd o.sat (x o.va i) (x o.vb i) (x o.vc i) u

/-- FCMP (08 R211). -/
def fcmpOp (len : Nat) (o : GV) (s : State) : Res :=
  laneV ⟨len, 0x0A, 9, .v o⟩ o s fun w _ t =>
    let (b, f) := (formatOf o).compare o.aux.toNat (w.src o.dtype o.va t).toNat (w.src o.dtype o.vb t).toNat
    ⟨.pred o.vd.toNat b, f, w.gen t⟩

/-- FCLASS (08 R212): one bit; under f64 the high register of the pair receives 0. -/
def fclassOp (len : Nat) (o : GV) (s : State) : Res :=
  laneV ⟨len, 0x0A, 10, .v o⟩ o s fun w _ t =>
    w.plain t (destWrite o.dtype o.vd (BitVec.ofNat 64 (2 ^ (formatOf o).classBit (w.src o.dtype o.va t).toNat)))

/-- FADD (R209). -/
def execFadd (o : GV) (s : State) : Res := vfltOp 8 0 o s

/-- FSUB (R209). -/
def execFsub (o : GV) (s : State) : Res := vfltOp 8 1 o s

/-- FMUL (R209). -/
def execFmul (o : GV) (s : State) : Res := vfltOp 8 2 o s

/-- FFMA (R209). -/
def execFfma (o : GV) (s : State) : Res := vfltOp 8 3 o s

/-- FFMS (R209). -/
def execFfms (o : GV) (s : State) : Res := vfltOp 8 4 o s

/-- FMIN (R210). -/
def execFmin (o : GV) (s : State) : Res := vfltOp 8 5 o s

/-- FMAX (R210). -/
def execFmax (o : GV) (s : State) : Res := vfltOp 8 6 o s

/-- FABS (R209). -/
def execFabs (o : GV) (s : State) : Res := vfltOp 8 7 o s

/-- FNEG (R209). -/
def execFneg (o : GV) (s : State) : Res := vfltOp 8 8 o s

/-- FCMP (R211). -/
def execFcmp (o : GV) (s : State) : Res := fcmpOp 8 o s

/-- FCLASS (R212). -/
def execFclass (o : GV) (s : State) : Res := fclassOp 8 o s

/-- FSCALEB (R213). -/
def execFscaleb (o : GV) (s : State) : Res := vfltOp 8 11 o s

/-- FRND (R213). -/
def execFrnd (o : GV) (s : State) : Res := vfltOp 8 12 o s

/-- FDIV (R209). -/
def execFdiv (o : GV) (s : State) : Res := vfltOp 8 13 o s

/-- FADDMIN (R209). -/
def execFaddmin (o : GV) (s : State) : Res := vfltOp 8 14 o s

end Sys2Proof.Machine
end

