-- ==== Sys2Proof/Machine/VCvt.lean ====
section
/-! DEFINITION. Conversion, VCVT (08 R218-R221; 05 R136, R142). -/

namespace Sys2Proof.Machine

/-- The source type that aux6 names. -/
def sourceTy (o : GV) : Ty := (Ty.ofCode o.aux).getD .s32

/-- CVT (08 R218): one element; a 16-bit destination is zero-extended. -/
def cvtOp (len : Nat) (o : GV) (s : State) : Res :=
  laneV ⟨len, 0x0B, 0, .v o⟩ o s fun w _ t =>
    let x := (w.src (sourceTy o) o.va t).toNat % 2 ^ (Ty.elems (sourceTy o)).1
    w.floatLane o t fun _ u => convertElem (sourceTy o) o.dtype x o.rnd o.sat u

/-- The type of one element of a packed destination. -/
def elementTy : Ty → Ty
  | .bf16x2 => .bf16 | .f16x2 => .f16 | .s16x2 => .s16 | .n16x2 => .n16 | .s8x4 => .s8 | .n8x4 => .n8
  | t => t

/-- PACK (08 R219): elements from va and vb, or from the pairs va, va + 1, vb and vb + 1. -/
def packOp (len : Nat) (o : GV) (s : State) : Res :=
  laneV ⟨len, 0x0B, 1, .v o⟩ o s fun w _ t =>
    let four := (Ty.elems o.dtype).2 == 4
    let x (i : Nat) : Nat :=
      (if four then w.v ((if i < 2 then o.va else o.vb).toNat + i % 2) t else w.v (if i == 0 then o.va else o.vb).toNat t).toNat
    w.floatLane o t fun i u => convertElem (sourceTy o) (elementTy o.dtype) (x i) o.rnd o.sat u

/-- UNPACK (08 R220): element vb of va, widened; with vc not 0 a float element times the scale X, of which 0xFF is NaN. -/
def unpackOp (len : Nat) (o : GV) (s : State) : Res :=
  laneV ⟨len, 0x0B, 2, .v o⟩ o s fun w _ t =>
    let src := elementTy (sourceTy o)
    let ew := (Ty.elems src).1
    let x := (w.v o.va.toNat t).toNat / 2 ^ (ew * o.vb.toNat) % 2 ^ ew
    if Ty.isInt src then w.plain t (.reg o.vd (BitVec.ofInt 32 (elemInt (Ty.signed src) (BitVec.ofNat ew x))))
    else
      let v := Ty.value src x
      let scaled := if o.vc == 0 then v else mulVal v (e8m0Val (fieldN (w.v o.vc.toNat t) 15 8))
      let (r, f) := fmtF32.round .rne false 0 scaled.exact
      ⟨.reg o.vd (BitVec.ofNat 32 r), f, w.gen t⟩

/-- The exponent of the largest power of two of a block element format (05 R136). -/
def blockEmax (f : Fmt) : Int := (Exact.ilog2 (f.decode f.largest).exact)

/-- The scale code of a block (05 R136) from the f32 values of its active threads. -/
def blockScale (f : Fmt) (vs : List FVal) : Nat :=
  if vs.any fun v => match v with | .num _ _ _ => false | _ => true then 0xFF
  else
    let logs := vs.filterMap fun v => match v with
      | .num _ m e => if m == 0 then none else some (Exact.ilog2 (.ratio false m 1 e))
      | _ => none
    match logs with
    | [] => 0
    | l :: ls => (min (max (ls.foldl max l - blockEmax f) (-127)) 127 + 127).toNat

/-- MXSCALE (08 R221): a block is the active threads with LANE 32b to 32b + 31. -/
def mxscaleOp (len : Nat) (o : GV) (s : State) : Res :=
  let block (w : Warp) (t : Nat) : List Nat :=
    (lanesOf (w.head.mask &&& w.active o.p o.pneg)).filter fun l => l / 32 == t / 32
  checked ⟨len, 0x0B, 3, .v o⟩ s (laneOp len o.p o.pneg
    (fun w t => lowestProv ((block w t).map fun l => w.sourcePoison l [(o.va, 1)])) fun w _ t =>
    let f := (Ty.fmt (sourceTy o)).getD fmtE4m3
    let value (l : Nat) : FVal := fmtF32.decode (w.v o.va.toNat l).toNat
    let x := blockScale f ((block w t).map value)
    let e : Exact := match value t with
      | .num s m k => .ratio s m 1 (k - ((x : Int) - 127))
      | v => v.exact
    let (r, g) := f.round .rne true 0 e
    ⟨.reg o.vd (BitVec.ofNat 32 (r + x * 256)), g, w.gen t⟩)

/-- CVT (R218). -/
def execCvt (o : GV) (s : State) : Res := cvtOp 8 o s

/-- PACK (R219). -/
def execPack (o : GV) (s : State) : Res := packOp 8 o s

/-- UNPACK (R220). -/
def execUnpack (o : GV) (s : State) : Res := unpackOp 8 o s

/-- MXSCALE (R221). -/
def execMxscale (o : GV) (s : State) : Res := mxscaleOp 8 o s

end Sys2Proof.Machine
end

