-- ==== Sys2Proof/Machine/Halt.lean ====
section
/-! DEFINITION. Which agent may issue (04 R112; 16 R376, R377, R382; 19 R420). -/

namespace Sys2Proof.Machine

/-- Whether the workgroup of an agent lets it issue (16 R376, R377, R382): during the skid, agents that neither wait nor
hold a trap issue up to 4 more; afterwards only the warp in its handler issues. -/
def State.haltAllows (s : State) (a : AgentId) : Bool :=
  match groupOf a with
  | none => true
  | some g =>
    let x := s.group g
    x.residence == .resident && x.doomed.isNone &&
    match x.halt, a with
    | none, _ => true
    | some (.trap false), .warp _ w => (s.warp g w).held.isEmpty && decide ((s.agent a).skid < 4)
    | some (.trap false), _ => decide ((s.agent a).skid < 4)
    | some (.trap true), .warp _ w => (s.warp g w).inTrapHandler
    | some (.frozen false), .warp _ w => (s.warp g w).held.isEmpty && decide ((s.agent a).skid < 4)
    | some (.frozen false), _ => decide ((s.agent a).skid < 4)
    | some (.slice false _), .warp _ w => (s.warp g w).held.isEmpty && decide ((s.agent a).skid < 4)
    | some (.slice false _), _ => decide ((s.agent a).skid < 4)
    | some (.slice true returned), .warp _ w => (s.warp g w).inSliceHandler && !returned.contains w
    | _, _ => false

/-- Whether an agent has an instruction to issue. -/
def State.live (s : State) (a : AgentId) : Bool :=
  match a with
  | .warp g w => decide (w < (s.group g).warps.length) && !(s.warp g w).frontier.isEmpty
  | .stoker g => (s.group g).stoker.isSome && !(s.stoker g).agent.ended
  | .ctl c => decide (c < 7) && !(s.ctlCore c).halted

/-- Whether an agent can issue now (04 R112; 16 R376). -/
def State.canIssue (s : State) (a : AgentId) : Bool := s.live a && (s.agent a).wait.isNone && s.haltAllows a

end Sys2Proof.Machine
end

