-- ==== Sys2Proof/Machine/Atomic.lean ====
section
/-! DEFINITION. The new values of atomic operations (07 R189, 09 R251). -/

namespace Sys2Proof.Machine

/-- RoundF32Rne of a sum, raising no flag (07 R189, 09 R251). -/
def addF32 (a b : Nat) : Nat := (fmtF32.round .rne false 0 (addExact .rne (fmtF32.decode a) (fmtF32.decode b))).1

/-- A bf16 sum rounded by rne (09 R251). -/
def addBf16 (a b : Nat) : Nat := (fmtBf16.round .rne false 0 (addExact .rne (fmtBf16.decode a) (fmtBf16.decode b))).1

/-- AtomicNew (09 R251) on `w`-bit values by the codes of VATOM. -/
def atomicNew (code : Nat) (w : Nat) (old d c : BitVec w) : BitVec w :=
  match code with
  | 0 => old + d
  | 1 => minBy true old d
  | 2 => minBy false old d
  | 3 => maxBy true old d
  | 4 => maxBy false old d
  | 5 => old &&& d
  | 6 => old ||| d
  | 7 => old ^^^ d
  | 8 => d
  | 9 => if old == c then d else old
  | 10 => BitVec.ofNat w (addF32 old.toNat d.toNat)
  | _ =>
    let half (x : BitVec w) (i : Nat) : Nat := x.toNat / 2 ^ (16 * i) % 2 ^ 16
    BitVec.ofNat w (addBf16 (half old 0) (half d 0) + 2 ^ 16 * addBf16 (half old 1) (half d 1))

/-- AtomicNew on little-endian bytes of 4 or 8. -/
def atomicBytes (code : Nat) (old d c : List Byte) : List Byte :=
  let n := old.length
  let v (x : List Byte) : BitVec (8 * n) := BitVec.ofNat (8 * n) (leN x)
  leB n (atomicNew code (8 * n) (v old) (v d) (v c)).toNat

/-- Whether a code may go to host memory: FetchAdd, Swap and CAS (07 R189, 09 R252). -/
def atomicHost (code : Nat) : Bool := code == 0 || code == 8 || code == 9

/-- The VATOM code and width in bytes of a SATOM cond/width code (07 R189). -/
def satomCode (cw : BitVec 4) : BitVec 4 × Nat :=
  match cw.toNat with
  | 0 => (0, 8) | 1 => (5, 8) | 2 => (6, 8) | 3 => (7, 8) | 4 => (1, 8) | 5 => (3, 8) | 6 => (2, 8) | 7 => (4, 8)
  | 8 => (8, 8) | 9 => (9, 8) | 10 => (0, 4) | 11 => (8, 4) | 12 => (9, 4) | _ => (10, 4)

end Sys2Proof.Machine
end

