-- ==== Sys2Proof/Machine/Remote.lean ====
section
/-! DEFINITION. Remote access (15 R357-R366): virtual peers, stations, the write-combining buffer, outstanding requests, and
requests served for a VD of this device. -/

namespace Sys2Proof.Machine

/-- The virtual peer and the remote address of a fabric place (15 R362). -/
def fabricPeer (off : Nat) : Nat := off / 2 ^ 42 % 1024
def fabricAddr (off : Nat) : Nat := off % 2 ^ 42

/-- Endpoint-table fields (15 R360). -/
def epValid (e : Word) : Bool := e.getLsbD 63
def epSealReq (e : Word) : Bool := e.getLsbD 62
def epOwner (e : Word) : Nat := fieldN e 40 32
def epRvd (e : Word) : Nat := fieldN e 24 16
def epPacc (e : Word) : Nat := fieldN e 9 0

/-- The entry of virtual peer p of a VD, if it serves the VD (15 R361, R362). -/
def State.endpoint (s : State) (vd p : Nat) : Option Word :=
  let v := s.vd vd
  if v.fepCount.toNat ≤ p then none
  else
    let e := Table.get 0 s.endpoints ((v.fepFirst.toNat + p) % 32768)
    if epValid e && epOwner e == vd then some e else none

def Station.start : Station := ⟨.down, 0, 0, []⟩
def Channel.start : Channel := ⟨false, 0, 0, [], [], 0, none, 0, 0, none, [], [], 0, false, 0⟩
def State.station (s : State) (n : Nat) : Station := Table.get Station.start s.stations n
def State.setStation (s : State) (n : Nat) (v : Station) : State := { s with stations := Table.put n v s.stations }
def State.updStation (s : State) (n : Nat) (f : Station → Station) : State := s.setStation n (f (s.station n))
def State.channel (s : State) (n peer : Nat) : Channel := Table.get Channel.start (s.station n).channels peer
def State.setChannel (s : State) (n peer : Nat) (c : Channel) : State :=
  s.updStation n fun x => { x with channels := Table.put peer c x.channels }

/-- The station of a request (15 R357): the first one up from s on; s itself when none is up. -/
def State.stationFor (s : State) (addr acc : Nat) : Nat :=
  let first := (addr / 64 % 16) ^^^ (acc % 16)
  (((List.range 16).map fun i => (first + i) % 16).find? fun n => (s.station n).state == .up).getD first

/-- Whether an entry names this accelerator (15 R363). -/
def State.isOwn (s : State) (e : Word) : Bool := epPacc e == s.pf.fabAcc.toNat

/-- Whether a VD may use a fabric place (15 R362). -/
def State.fabricOk (s : State) (vd off : Nat) : Bool :=
  match s.endpoint vd (fabricPeer off) with
  | none => false
  | some e => !epSealReq e || (s.channel (s.stationFor (fabricAddr off) (epPacc e)) (epPacc e)).established

/-- Counts link bytes for a VD (03 R89, R90). -/
def State.meterLink (s : State) (vd n : Nat) : State :=
  s.updVd vd fun v => { v with
    mlink := v.mlink + BitVec.ofNat 64 n
    menergy := v.menergy + Config.freeEnergy 2 n
    linkWindow := v.linkWindow + n }

/-- Counts HBM bytes for a VD (03 R89, R90). -/
def State.meterHbm (s : State) (vd n : Nat) : State :=
  s.updVd vd fun v => { v with
    mhbm := v.mhbm + BitVec.ofNat 64 n
    menergy := v.menergy + Config.freeEnergy 3 n
    hbmWindow := v.hbmWindow + n }

/-- Whether a VD's damper holds a request that touches some places at its issue point (03 R89). -/
def Vd.hbmHeld (v : Vd) : Bool := v.hbmDamp != 0 && decide (4096 * v.hbmDamp ≤ v.hbmWindow)
def Vd.linkHeld (v : Vd) : Bool := v.linkDamp != 0 && decide (4096 * v.linkDamp ≤ v.linkWindow)
def State.damps (s : State) (vd : Nat) (ls : List Loc) : Bool :=
  ((s.vd vd).hbmHeld && ls.any fun l => l.space == .hbm) || ((s.vd vd).linkHeld && ls.any fun l => l.space == .fabric)

/-- The payload bytes of a request. -/
def requestSize : RemoteKind → Nat
  | .read _ => 0
  | .write bs _ => (bs.filter Option.isSome).length
  | .atomic _ wide _ _ => if wide then 8 else 4

/-! Sealed channels, the sender's side (15 R369). -/

/-- Whether the key may seal one more flit: 2^32 in all, of which the last is kept for a MARKER, so that a switch can always be
started (15 R369, log 82). -/
def Channel.mayUseKey (c : Channel) (b : FlitBody) : Bool :=
  match b with
  | .marker _ => decide (c.sealed < 2 ^ 32)
  | _ => decide (c.sealed + 1 < 2 ^ 32)

/-- Whether the sender may seal a flit: its window is open, no switch holds it, and the key's limit is not reached (15 R369). -/
def Channel.open_ (c : Channel) (b : FlitBody) : Bool :=
  (match c.unacked with
   | f :: _ => decide (c.sendSeq < f.seq + 64)
   | [] => true) && c.switchAt.isNone && c.mayUseKey b

/-- Seals what waits, as far as the sender may. -/
def Channel.flush (now : Word) : Nat → Channel → List SentFlit × Channel
  | 0, c => ([], c)
  | fuel + 1, c =>
    match c.waiting with
    | [] => ([], c)
    | b :: bs =>
      if !c.open_ b then ([], c)
      else
        let f : SentFlit := ⟨c.sendSeq, c.sendGen % 2 == 1, b, now⟩
        let c := { c with
          sendSeq := c.sendSeq + 1
          unacked := c.unacked ++ [f]
          waiting := bs
          sealed := c.sealed + 1
          switchAt := match b with
            | .marker n => some n
            | _ => none }
        let (fs, c) := c.flush now fuel
        (f :: fs, c)

/-- Sends what a channel may send now. -/
def State.flushChannel (s : State) (n peer : Nat) : State :=
  let (fs, c) := (s.channel n peer).flush s.clk (s.channel n peer).waiting.length
  fs.foldl (fun s f => s.send (.flit n peer f)) (s.setChannel n peer c)

/-- Sends content to a peer: through the sealed channel where there is one. -/
def State.transmit (s : State) (n peer : Nat) (c : FlitContent) : State :=
  let x := s.channel n peer
  if x.established then (s.setChannel n peer { x with waiting := x.waiting ++ [.data c] }).flushChannel n peer
  else s.send (.fabric n peer c)

/-- Whether content may go to a peer now (15 R360, R362): a peer that demands sealing is sent nothing in plaintext. -/
def State.mayTransmit (s : State) (n peer : Nat) (sealedOnly : Bool) : Bool := !sealedOnly || (s.channel n peer).established

/-- The request as it travels. -/
def RemoteOut.request (r : RemoteOut) (acc : Nat) : RemoteRequest := ⟨r.station, acc, r.vd, r.rvd, r.addr, r.id, r.kind⟩

/-- Sends an outstanding request on its station if it may travel now; one that may not, or whose station is not up, stays unsent. -/
def State.sendOut (s : State) (r : RemoteOut) : State :=
  if r.station == 16 || (s.station r.station).state != .up then s
  else if s.mayTransmit r.station r.peer r.sealed then
    let r := { r with sent := true }
    ({ s with remote := s.remote.map fun (x : RemoteOut) => if x.id == r.id then r else x } : State).transmit r.station r.peer (.request (r.request s.pf.fabAcc.toNat))
  else s

/-- Sends a request under an endpoint entry and keeps it outstanding (15 R357, R362, R364). -/
def State.sendUnder (s : State) (e : Word) (vd off : Nat) (kind : RemoteKind) (use : RemoteUse) : Nat × State :=
  let (id, s) := s.fresh
  let own := s.isOwn e
  let st := if own then 16 else s.stationFor (fabricAddr off) (epPacc e)
  let r : RemoteOut := ⟨id, vd, st, epPacc e, fabricPeer off, epRvd e, fabricAddr off, kind, use, epSealReq e, own⟩
  let s := { s with remote := s.remote ++ [r] }
  (id, if own then s else (s.sendOut r).meterLink vd (requestSize kind))

/-- Sends a request to the remote home of a fabric place, by the entry of its virtual peer. -/
def State.sendRemote (s : State) (vd off : Nat) (kind : RemoteKind) (use : RemoteUse) : Nat × State :=
  s.sendUnder ((s.endpoint vd (fabricPeer off)).getD 0) vd off kind use

/-- A write of some consecutive bytes with the lowest tag among them. -/
def writeOf (bs : List (Byte × Option Prov)) : RemoteKind := .write (bs.map fun b => some b.1) (lowestProv (bs.map (·.2)))

/-- Replaces an identity in a store's remote list by another. -/
def Op.renameRemote (o : Op) (id new : Nat) : Op :=
  let f (l : List Nat) : List Nat := l.map fun x => if x == id then new else x
  match o.work with
  | .store m ws pk rm => { o with work := .store m ws pk (f rm) }
  | .tracked m ws pk rm ls => { o with work := .tracked m ws pk (f rm) ls }
  | .load m ws wt pk rm rd => { o with work := .load m ws wt pk (f rm) rd }
  | _ => o

/-- Sends one write-combining entry as one write with its byte mask and its line's poison (15 R365, 16 R374). -/
def State.sendEntry (s : State) (core : Nat) (e : WcEntry) : State :=
  let s := s.updCore core fun c => { c with wc := c.wc.filter fun x => x.id != e.id }
  let bytes := (List.range 64).map fun i => (Table.look e.bytes i).map (·.1)
  let (id, s) := s.sendUnder e.endpoint e.vd (e.line * 64) (.write bytes (lowestProv (e.bytes.map (·.2.2)))) (.write core e.writers)
  e.writers.foldl (fun s w => s.updAgent w.1 fun a =>
    { a with ops := a.ops.map fun o => if o.id == w.2 then o.renameRemote e.id id else o }) s

/-- Sends the entries of a core that satisfy a condition, oldest first. -/
def State.sendEntries (s : State) (core : Nat) (f : WcEntry → Bool) : State :=
  ((s.core core).wc.filter f).foldl (fun s e => s.sendEntry core e) s

/-- Sends the entries of a VD on a core: its workgroups there end, are swapped or are pre-empted (15 R365). -/
def State.sendVd (s : State) (core vd : Nat) : State := s.sendEntries core fun e => e.vd == vd

/-- Sends the entries that an agent holds, as a release does (13 R322, 15 R365). -/
def State.drainFor (s : State) (a : AgentId) : State :=
  match s.coreOf a with
  | some c => s.sendEntries c fun e => e.writers.any fun w => w.1 == a
  | none => s

/-- Adds bytes in rising order of their offsets, a later byte replacing an earlier one. -/
def mergeBytes (old new : List (Nat × Byte × Option Prov)) : List (Nat × Byte × Option Prov) :=
  new.foldl (fun t b => Table.put b.1 b.2 t) old

/-- A store's bytes to one fabric line enter the write-combining buffer (15 R365); answers the entry's identity. An entry whose
virtual peer has another endpoint entry by now is sent first. -/
def State.combineStore (s : State) (a : AgentId) (op vd off : Nat) (bs : List (Byte × Option Prov)) : Nat × State :=
  let core := (s.coreOf a).getD 0
  let line := off / 64
  let ep := (s.endpoint vd (fabricPeer off)).getD 0
  let new := (List.range bs.length).map fun i => (off % 64 + i, listGet (0, none) bs i)
  let s := s.sendEntries core fun e => e.vd == vd && e.line == line && e.endpoint != ep
  let found := (s.core core).wc.find? fun e => e.vd == vd && e.line == line
  let s := match found, (s.core core).wc with
    | none, e :: _ => if 64 ≤ (s.core core).wc.length then s.sendEntry core e else s
    | _, _ => s
  let (id, s) := match found with
    | some e => (e.id, s)
    | none => s.fresh
  let old := (found.map (·.bytes)).getD []
  let writers := (found.map (·.writers)).getD []
  let e : WcEntry := ⟨id, vd, line, ep, if writers.contains (a, op) then writers else writers ++ [(a, op)], mergeBytes old new⟩
  let s := s.updCore core fun c => { c with wc := (match found with
    | some _ => c.wc.map fun x => if x.id == id then e else x
    | none => c.wc ++ [e]) }
  (id, s)

/-- Entries that are sent at once: full ones, and all of them when WCEN is 0 (15 R365). -/
def State.flushFull (s : State) (core : Nat) : State :=
  s.sendEntries core fun e => !s.pf.fabWc || decide (64 ≤ e.bytes.length)

/-- Sends every write-combining entry, so that stores made with an old translation go out (12 R300, R301). -/
def State.sendAllEntries (s : State) : State := s.cores.foldl (fun s e => s.sendEntries e.1 fun _ => true) s

/-- The outstanding remote requests of accesses and engines: what a completion point may have to wait for (12 R300). -/
def State.remoteIds (s : State) : List Nat :=
  (s.remote.filter fun r => match r.use with
    | .wait _ | .failed _ _ _ _ _ => false
    | _ => true).map (·.id)

/-- Whether a request of another accelerator and VD is served for a VD, having come on a station (15 R360, R363): an entry that
demands sealing serves nothing that came in plaintext. -/
def State.peerServed (s : State) (station vd acc rvd : Nat) : Bool :=
  let v := s.vd vd
  v.works && (List.range v.fepCount.toNat).any fun p =>
    match s.endpoint vd p with
    | some e => epPacc e == acc && epRvd e == rvd && s.mayTransmit station acc (epSealReq e)
    | none => false

/-- What becomes of a request served here: an answer, or a wait for the page. -/
inductive Served where
  | reply (r : RemoteReply)
  | waits (page : Nat)
  deriving DecidableEq, Repr

/-- What a request needs at stage 2 (12 R296). -/
def requestNeed : RemoteKind → Need
  | .read _ => Need.read
  | .write _ _ => Need.write
  | .atomic _ _ _ _ => Need.update

/-- The tag of poison received on a station (17 R391): UNIT 20 with a local record that refers to the peer's; what never left the
package keeps its own. -/
def State.receivedTag (s : State) (station : Nat) (p : Option Prov) : Option Prov × State :=
  match p with
  | none => (none, s)
  | some x =>
    if station == 16 then (some x, s)
    else
      let (q, s) := s.newError 20 0x07 (some x)
      (some q, s)

/-- The same for bytes with their tags. -/
def State.receivedBytes (s : State) (station : Nat) (bs : List (Byte × Option Prov)) : List (Byte × Option Prov) × State :=
  if station == 16 then (bs, s)
  else
    let (q, s) := s.receivedTag station (lowestProv (bs.map (·.2)))
    (bs.map fun b => (b.1, b.2.bind fun _ => q), s)

/-- The enabled bytes of a write. -/
def enabledBytes (l : Loc) (bs : List (Option Byte)) (p : Option Prov) : List ByteWrite :=
  (List.range bs.length).filterMap fun i => (listGet none bs i).map fun b => ⟨l.plus i, b, p⟩

/-- Performs a request that came on a station at its place (15 R363, 09 R252): a write to a tracked line has its completion point
before it is answered (12 R300). -/
def State.serveAt (s : State) (station : Nat) (l : Loc) (kind : RemoteKind) : RemoteReply × State :=
  match kind with
  | .read n => (.data (s.readBytes l n) (s.poisonOf l n), s)
  | .write bs p =>
    let (q, s) := s.receivedTag station p
    (.done, s.engineStore (enabledBytes l bs q))
  | .atomic code wide d c =>
    let n := if wide then 8 else 4
    let old := s.readBytes l n
    if (s.poisonOf l n).isSome then (.data old (s.poisonOf l n), s)
    else if l.space == .host && !atomicHost code.toNat then (.refused, s)
    else (.data old none, s.engineStore (writesAt l (atomicBytes code.toNat old (leB n d.toNat) (leB n c.toNat)) none))

/-- The HBM bytes that a request moves (03 R89). -/
def requestBytes : RemoteKind → Nat
  | .read n => n
  | .write bs _ => (bs.filter Option.isSome).length
  | .atomic _ wide _ _ => if wide then 8 else 4

/-- Serves a request for a VD of this device (15 R362, R363); the VD's HBM bytes are counted (03 R90). -/
def State.serve (s : State) (r : RemoteRequest) : Served × State :=
  if !s.peerServed r.station r.vd r.source r.sourceVd then (.reply .refused, s)
  else
    match s.stage2 r.vd r.addr (requestNeed r.kind) with
    | (.ok l, s) =>
      if l.space == .fabric then (.reply .refused, s)
      else
        let s := if l.space == .hbm then s.meterHbm r.vd (requestBytes r.kind) else s
        let (a, s) := s.serveAt r.station l r.kind
        (.reply a, s)
    | (.error (.absent _ _ _), s) => if (s.vd r.vd).guest then (.reply .refused, s) else (.waits (r.addr / 4096), s)
    | (.error _, s) => (.reply .refused, s)

end Sys2Proof.Machine
end

