-- ==== Sys2Proof/Machine/Posting.lean ====
section
/-! DEFINITION. Posting fault records into a VD's fault ring (12 R312). -/

namespace Sys2Proof.Machine

/-- What writing the next record into a fault ring meets (12 R312): no room, a page the paging engine will bring, any other fault,
or a place. -/
inductive RingWrite where
  | full | absent | fault
  | at_ (l : Loc)
  deriving DecidableEq, Repr

/-- Where the next record of a VD's fault ring would go, at stage 2 only (12 R312). -/
def State.ringWrite (s : State) (vd : Nat) : RingWrite × State :=
  let v := s.vd vd
  if (v.fqProd - v.fqCons).toNat == 2 ^ v.fqSize.toNat then (.full, s)
  else
    match s.stage2 vd (4096 * fieldN v.fqBase 51 12 + v.fqProd.toNat % 2 ^ v.fqSize.toNat * 32) Need.write with
    | (.ok l, s) => (if l.space == .fabric && !s.fabricOk vd l.off then .fault else .at_ l, s)
    | (.error (.absent true _ _), s) => (if v.guest then .fault else .absent, s)
    | (.error _, s) => (.fault, s)

/-- Whether a record of a VD is on its way to a ring behind a fabric leaf. -/
def State.posting (s : State) (vd : Nat) : Bool := s.remote.any fun r => r.use == .ring vd

/-- A record has become visible: FQPROD advances past it, it takes its index, and an interrupt is requested (12 R311, R312). -/
def State.recordPosted (s : State) (vd : Nat) (f : FaultRec) : State :=
  let j := (s.vd vd).fqProd
  (s.updVd vd fun v => { v with fqProd := v.fqProd + 1, faults := v.faults.map fun g =>
    if g.index.isNone && g.words == f.words && g.owner == f.owner then { g with index := some j.toNat } else g }).interrupt
      (1024 + 2 * vd) vd

/-- Writes a record into the fault ring where it can be written now and no damper holds it (12 R312, 03 R89); behind a fabric leaf it is sent, and becomes visible
when the remote home acknowledges it (13 R320). -/
def State.postRecord (s : State) (vd : Nat) (f : FaultRec) : State :=
  if s.posting vd then s
  else
    match s.ringWrite vd with
    | (.at_ l, s) =>
      if s.damps vd [l] then s
      else
      let v := s.vd vd
      let phase := if v.fqProd.toNat / 2 ^ v.fqSize.toNat % 2 == 0 then 1 else 0
      let bytes := ((listGet 0 f.words 0 ||| BitVec.ofNat 64 phase) :: f.words.drop 1).flatMap bytesOf
      if l.space == .fabric then (s.sendRemote vd l.off (writeOf (bytes.map fun b => (b, none))) (.ring vd)).2
      else
        let s := s.engineStore (writesAt l bytes none)
        (if l.space == .hbm then s.meterHbm vd 32 else s).recordPosted vd f
    | (_, s) => s

/-- Whether a write of the next record is due and meets a fault that is no wait (12 R312): then EN is cleared and RINGERR set. -/
def State.ringFaults (s : State) (vd : Nat) : Bool :=
  !(s.vd vd).fqWaiting && (s.ringWrite vd).1 == .fault

/-- EN cleared by a ring fault (12 R312). -/
def State.ringError (s : State) (vd : Nat) : State :=
  ((s.updVd vd fun v => { v with fqEn := false, fqRingErr := true }).logEvent 0x11 vd).interrupt (1024 + 2 * vd) vd

/-- Whether a fault of a VD finds no one to answer it: posting is off and it is not the engine's (12 R312). -/
def State.faultAborts (s : State) (vd : Nat) (f : AbsentAt) : Bool :=
  let v := s.vd vd
  !f.cbw && !v.engineFault f.stage2 && (!v.fqEn || s.ringFaults vd)

/-- Marks ABORTED (12 R308, R312). -/
def State.markAborted (s : State) (vd : Nat) : State := s.updVd vd fun v => { v with fqAborted := true }

/-- The abort of a fault that no one answers (12 R312). -/
def State.abortNow (s : State) (vd : Nat) : State := (if (s.vd vd).fqEn then s.ringError vd else s).markAborted vd

/-- Registers parked parts under a record and posts it where it can be posted (12 R312). Copy-before-write faults have no
record of their own (R296): they are kept unposted and answered by the checkpoint. -/
def State.parkUnder (s : State) (vd : Nat) (f : AbsentAt) (b : FaultBy) (owner : ParkOwner) (parts : Mask) : State :=
  let v := s.vd vd
  let engine := v.engineFault f.stage2
  let r : FaultRec := ⟨if f.cbw then some (2 ^ 32) else none, engine || f.cbw, false, faultWords f b engine, f.page / 4096,
    f.phys, owner, parts⟩
  let s := if v.fqEn && !f.cbw && s.ringFaults vd then s.ringError vd else s
  let v := s.vd vd
  if v.state == 3 then s
  else if !v.fqEn && !f.cbw then
    if engine then s.setVd vd { v with faults := v.faults ++ [{ r with index := some (2 ^ 32) }] } else s
  else
    let waiting := v.fqWaiting
    let s := s.setVd vd { v with faults := v.faults ++ [r] }
    if f.cbw || waiting then s else s.postRecord vd r

end Sys2Proof.Machine
end

