-- ==== Sys2Proof/Machine/MemOps.lean ====
section
/-! DEFINITION. The parts of memory instructions (09 R236-R252): classifying each lane, performing it, parking, trapping, and
the counted operation that carries what is left. -/

namespace Sys2Proof.Machine

/-- What a lane's access comes to (09 R240): the places of its pieces, a cause, a wait for a step tag, or an absent page. -/
inductive LaneFound where
  | ok (ls : List Loc)
  | cause (c : Cause) (p : Option Prov)
  | wait
  | absent (f : AbsentAt)
  deriving DecidableEq, Repr

/-- Whether an operation is counted as a store (04 R120). -/
def MemAct.stores : MemAct → Bool
  | .store | .spill => true
  | .atomic _ keep => !keep
  | _ => false

/-- Whether an access delivers what it reads (17 R392, 09 R252). -/
def MemAct.consumes : MemAct → Bool
  | .store | .spill => false
  | _ => true

/-- Whether an atomic returns the old value, and so consumes its operands (17 R392, 09 R240). -/
def MemAct.returns : MemAct → Bool
  | .atomic _ keep => keep
  | _ => false

/-- The slot access is one access of the whole instruction (09 R249). -/
def MemAct.whole : MemAct → Bool
  | .spill | .fill => true
  | _ => false

/-- What a step-tagged load finds (09 R248, 14 R351). -/
inductive StepFound where
  | ready | stale | wait
  deriving DecidableEq, Repr

/-- HALOWAIT.LIMIT of a warp; 0 for other agents (07 R199). -/
def State.haloLimit (s : State) (a : AgentId) : W32 :=
  match a with
  | .warp g w => (s.warp g w).haloWait
  | _ => 0

/-- The tag test of VLDSTEP (09 R248, 14 R351). -/
def State.stepFound (s : State) (a : AgentId) (m : MemOp) (x : Span) (expired : Bool) : StepFound :=
  match m.act with
  | .step r =>
    match s.slabOf a x with
    | none => .ready
    | some (key, face) =>
      match s.parts.find? fun p => p.1 == key with
      | none => .ready
      | some (_, p) =>
        if r.toNat % max 1 p.record.depth != 0 || p.error != 0 then .stale
        else
          match listGet none p.tags face with
          | some t => if r.toNat ≤ t then .ready else if expired || s.haloLimit a == 0 then .stale else .wait
          | none => if expired || s.haloLimit a == 0 then .stale else .wait
  | _ => .ready

/-- Places the pieces of an access one after another. -/
def State.placePieces (s : State) (a : AgentId) (base : Word) (need : Need) (size : Nat) : Nat → Nat → List Loc →
    Found × List Loc × State
  | 0, _, acc => (.ok ⟨.hbm, 0⟩, acc, s)
  | n + 1, i, acc =>
    match s.place a (s.target a (base + BitVec.ofNat 64 (i * size))) size need with
    | (.ok l, s) => s.placePieces a base need size n (i + 1) (acc ++ [l])
    | (f, s) => (f, acc, s)

/-- The payload bytes of a slot's FORMAT; none for 6 and above (04 R123). -/
def spillBytes (format : Nat) : Option Nat :=
  match format with
  | 0 => some 0 | 1 => some 32 | 2 => some 64 | 3 => some 128 | 4 => some 256 | 5 => some 256
  | _ => none

/-- The bytes an agent loads from pieces. -/
def State.loadPieces (s : State) (a : AgentId) (ls : List Loc) (size : Nat) : List Byte × Option Prov :=
  let xs := ls.map fun l => s.loadBytes a l size
  (xs.flatMap (·.1), lowestProv (xs.map (·.2)))

/-- The size of the pieces that an access is made in: 16 bytes of a slot, at most 64 of a record, else the access itself. -/
def MemOp.piece (m : MemOp) : Nat := if m.act.whole then 16 else min m.bytes 64

/-- The bytes of a slot that VFILL reads (04 R123): the header first, and then the payload that FORMAT gives; none when FORMAT is
reserved. `known` holds what came from remote homes. -/
def State.fillBytes (s : State) (a : AgentId) (known : List Byte) (header : List Loc) : Option Nat :=
  if 16 ≤ known.length then (spillBytes (leN (known.take 1))).map (· + 16)
  else if header.any fun l => l.space == .fabric && !(List.range 16).all fun i => (s.combined a (l.plus i)).isSome then some 16
  else (spillBytes (leN ((s.loadPieces a header 16).1.take 1))).map (· + 16)

/-- Classifies one lane by 09 R240 (14 R348 for ghost slabs); `expired` ends the wait of R248. -/
def State.classify (s : State) (a : AgentId) (m : MemOp) (expired : Bool) (x : LaneAcc) : LaneFound × State :=
  let size := m.piece
  if x.addr.toNat % size != 0 then (.cause .misalign none, s)
  else
    let t := s.target a x.addr
    let total := if m.act.whole then (match m.act with | .spill => (x.data.length + 15) / 16 * 16 | _ => 16) else m.bytes
    let (f, ls, s1) := s.placePieces a x.addr m.need size (total / size) 0 []
    let (f, ls, total, illegal, s1) := match m.act, f with
      | .fill, .ok _ =>
        match s1.fillBytes a x.data ls with
        | none => (f, ls, 16, true, s1)
        | some n =>
          let (f, ls, s2) := s1.placePieces a x.addr Need.read 16 (n / 16) 0 []
          (f, ls, n, false, s2)
      | _, _ => (f, ls, total, false, s1)
    let vd := s.vdOf a
    let refused := match f, m.act with
      | .ok _, .atomic code _ => ls.any fun l => !atomicAllowed l (atomicHost code.toNat)
      | _, _ => false
    let fabricBad := match f with
      | .ok _ => ls.any fun l => l.space == .fabric && !s.fabricOk vd l.off
      | _ => false
    match f with
    | .cause c p => (.cause c p, s1)
    | _ =>
      if illegal then (.cause .illegal none, s1)
      else if refused || fabricBad then (.cause .permission none, s1)
      else
        match t.span total with
        | none => (.cause .permission none, s1)
        | some sp =>
          if m.act.writes && (s.slabOf a sp).isSome then (.cause .permission none, s1)
          else if s.locked a sp m.act.writes then (.cause .rangeLock none, s1)
          else if s.breaksSeal a sp m.act.writes then (.cause .layoutSeal none, s1)
          else
            match s.stepFound a m sp expired with
            | .stale => (.cause .haloStale none, s1)
            | .wait => (.wait, s1)
            | .ready =>
              match f, (if m.act.returns then x.prov else none) with
              | _, some p => (.cause .poison (some p), s1)
              | .absent e, none => (.absent e, s1)
              | _, none =>
                match (if m.act.consumes then (s.loadPieces a (ls.filter fun l => l.space != .fabric) size).2 else none) with
                | some p => (.cause .poison (some p), s1)
                | none => (.ok ls, s1)

/-- Decodes a spill slot's payload for a lane (04 R123). -/
def spillValue (bs : List Byte) (l : Nat) : W32 :=
  let base : W32 := BitVec.ofNat 32 (leN ((bs.drop 12).take 4))
  let payload := bs.drop 16
  let delta (w : Nat) : W32 := (BitVec.ofNat w (leN payload / 2 ^ (l * w))).signExtend 32
  match leN (bs.take 1) with
  | 0 => base
  | 1 => base + delta 4
  | 2 => base + delta 8
  | 3 => base + delta 16
  | 4 => base + delta 32
  | _ => BitVec.ofNat 32 (leN ((payload.drop (4 * l)).take 4))

/-- The register writes of a lane's loaded bytes (09 R238, 07 R188), with the tag they get where the lane's address differed under
paired issue (17 R398). -/
def laneRegs (m : MemOp) (x : LaneAcc) (bs : List Byte) : List RegWrite :=
  let prov := if m.act.returns then none else x.prov
  match m.act with
  | .store | .spill => []
  | .fill => (lanesOf m.head).map fun l => .vector (vkey m.dst.toNat l) (spillValue bs l) prov
  | .atomic _ false => []
  | _ =>
    if m.vector then
      (List.range ((bs.length + 3) / 4)).map fun i =>
        .vector (vkey (m.dst.toNat + i) x.lane) (BitVec.ofNat 32 (leN ((bs.drop (4 * i)).take 4))) prov
    else
      let v : Word := BitVec.ofNat 64 (leN bs)
      [.scalar m.dst.toNat (if m.signed then bitFieldGet true v 0 (8 * bs.length) else v) prov]

/-- Writes registers of an agent. -/
def State.applyRegs (s : State) (a : AgentId) (rs : List RegWrite) : State :=
  rs.foldl (fun s r =>
    match r with
    | .scalar n v p => s.updAgent a fun x => x.setSreg n v p
    | .vector k v p =>
      match a with
      | .warp g w => s.updWarp g w fun x => x.setV (k / 64) (k % 64) v p
      | _ => s) s

/-- What performing lanes has brought about so far; `lines` holds the tracked lines that were written (12 R300), and
`reads` the HBM sectors that lanes read (17 R395). -/
structure Parts where
  regs : List RegWrite
  writes : List ByteWrite
  waiting : List LaneAcc
  parked : List (Parked × LaneAcc)
  remote : List Nat
  lines : List Nat
  reads : List (LaneAcc × Nat)
  deriving DecidableEq, Repr

def Parts.none : Parts := ⟨[], [], [], [], [], [], []⟩

/-- What is left of a memory operation. -/
def OpWork.parts : OpWork → Parts
  | .load _ rs wt pk rm rd => ⟨rs, [], wt, pk, rm, [], rd⟩
  | .store _ ws pk rm => ⟨[], ws, [], pk, rm, [], []⟩
  | .tracked _ rs pk rm ls => ⟨rs, [], [], pk, rm, ls, []⟩
  | _ => Parts.none

/-- The operation that carries parts: one that wrote tracked lines waits for its completion point. -/
def Parts.work (p : Parts) (m : MemOp) : OpWork :=
  if !p.lines.isEmpty then .tracked m p.regs p.parked p.remote p.lines
  else if m.act.stores then .store m p.writes p.parked p.remote else .load m p.regs p.waiting p.parked p.remote p.reads

/-- Whether nothing is left. -/
def Parts.isDone (p : Parts) : Bool :=
  p.regs.isEmpty && p.writes.isEmpty && p.waiting.isEmpty && p.parked.isEmpty && p.remote.isEmpty

/-- Whether every value that the lanes read is bound, so that an acquire may follow. -/
def Parts.bound (p : Parts) : Bool := p.waiting.isEmpty && p.parked.isEmpty && p.remote.isEmpty && p.lines.isEmpty

/-- Sends the entries of the core that a fabric access overlaps (15 R365). -/
def State.sendOverlap (s : State) (a : AgentId) (l : Loc) (n : Nat) : State :=
  match s.coreOf a with
  | some c => s.sendEntries c fun e => e.vd == s.vdOf a && e.line == l.off / 64 &&
      e.bytes.any fun b => decide (l.off % 64 ≤ b.1) && decide (b.1 < l.off % 64 + n)
  | none => s

/-- A step-tagged load reads what the retag it observed covers, never an older copy (09 R248, 14 R351). -/
def MemAct.tagged : MemAct → Bool
  | .step _ => true
  | _ => false

/-- Whether a load of fabric bytes must go to the remote home: not when every byte stands in a write-combining entry (15 R365). -/
def State.mustSend (s : State) (a : AgentId) (l : Loc) (n : Nat) : Bool :=
  l.space == .fabric && !(List.range n).all fun i => (s.combined a (l.plus i)).isSome

/-- Asks the remote home for the bytes of a lane (15 R364). -/
def State.askRemote (s : State) (a : AgentId) (id : Nat) (p : Parts) (x : LaneAcc) (l : Loc) (n : Nat) : Parts × State :=
  let (r, s) := (s.sendOverlap a l n).sendRemote (s.vdOf a) l.off (.read n) (.lane a id x)
  ({ p with remote := p.remote ++ [r] }, s)

/-- Reads the pieces of a load one after another, the first ones being `known`: all its bytes, or those before the first piece that a
remote home must give, with its place. -/
def State.readPieces (s : State) (a : AgentId) (tagged : Bool) (size : Nat) : List Loc → List Byte → List Byte × Option Loc × State
  | [], got => (got, none, s)
  | l :: ls, got =>
    if s.mustSend a l size then (got, some l, s)
    else
      let (keep, s) := s.loadTurn a l size tagged
      let bs := (s.loadBytes a l size).1
      (if keep then s.keepCopies a l size else s).readPieces a tagged size ls (got ++ bs)

/-- Counts the HBM bytes of an agent's access (03 R89, R90). -/
def State.meterLane (s : State) (a : AgentId) (ls : List Loc) (size : Nat) : State :=
  if (groupOf a).isNone then s else ls.foldl (fun s l => if l.space == .hbm then s.meterHbm (s.vdOf a) size else s) s

/-- The HBM sectors that hold pieces from some places on. -/
def hbmLines (ls : List Loc) (size : Nat) : List Nat :=
  ((ls.filter fun l => l.space == .hbm).flatMap fun l => [l.off / 64, (l.off + size - 1) / 64]).eraseDups

/-- Performs one lane whose places are found (09 R245-R252, 15 R364, R365). -/
def State.performLane (s : State) (a : AgentId) (id : Nat) (m : MemOp) (p : Parts) (x : LaneAcc) (ls : List Loc) :
    Parts × State :=
  let size := m.piece
  let l := ls.headD ⟨.hbm, 0⟩
  match m.act with
  | .store | .spill =>
    (List.range ls.length).foldl (fun (acc : Parts × State) i =>
      let l := listGet l ls i
      let bs := (x.data.drop (i * size)).take size
      let (p, s) := acc
      if l.space == .fabric then
        let (e, s) := s.combineStore a id (s.vdOf a) l.off (bs.map fun b => (b, x.prov))
        ({ p with remote := if p.remote.contains e then p.remote else p.remote ++ [e] }, s)
      else ({ p with writes := p.writes ++ writesAt l bs x.prov }, s.meterLane a [l] bs.length)) (p, s)
  | .atomic code keep =>
    if l.space == .fabric then
      let (r, s) := (s.sendOverlap a l size).sendRemote (s.vdOf a) l.off
        (.atomic code (size == 8) (BitVec.ofNat 64 (leN x.data)) (BitVec.ofNat 64 (leN x.compare))) (.lane a id x)
      ({ p with remote := p.remote ++ [r] }, s)
    else
      let s := (s.flushOverlap a ((List.range size).map fun i => (l.plus i).key)).meterLane a [l] size
      let old := s.readBytes l size
      let ws := writesAt l (atomicBytes code.toNat old x.data x.compare) x.prov
      let s := s.performBy a ws
      ({ p with regs := if keep then p.regs ++ laneRegs m x old else p.regs, lines := (p.lines ++ s.trackedLines ws).eraseDups,
                reads := if keep then p.reads ++ (hbmLines [l] size).map fun n => (x, n) else p.reads }, s)
  | _ =>
    let known := x.data.take (x.data.length / 16 * 16)
    let rest := ls.drop (known.length / size)
    match s.readPieces a m.act.tagged size rest known with
    | (got, some l, s) => s.askRemote a id p { x with data := got } l size
    | (got, none, s) => ({ p with regs := p.regs ++ laneRegs m x got, reads := p.reads ++ (hbmLines rest size).map fun n => (x, n) }, s.meterLane a rest size)

/-- The mask of some lanes. -/
def laneMask (xs : List LaneAcc) : Mask := maskOf fun l => xs.any fun x => x.lane == l

/-- Who makes the access, for its fault record (12 R311). -/
def State.faultBy (s : State) (a : AgentId) (m : MemOp) (lanes : Mask) : FaultBy :=
  let g := (groupOf a).getD 0
  let q := (s.queue (s.grid (s.group g).grid).queue).local_.toNat
  let warp := match a with | .warp _ _ => true | _ => false
  ⟨if warp then 0 else 1, (s.launchOf g).ktag, q, 0, false, m.need.w,
    if !warp then 1 else if m.vector && !m.act.whole then lanes else m.head⟩

/-- The trap of a memory instruction (09 R240, R243; 16 R379): its cause, the next cause, their lanes, the address, and the
replay mask. -/
def State.trapMem (s : State) (a : AgentId) (id : Nat) (m : MemOp) (bad : List (LaneAcc × Cause × Option Prov)) (replay : Mask) : State :=
  let rank (c : Cause) : List (LaneAcc × Cause × Option Prov) := bad.filter fun b => b.2.1 == c
  let order := bad.foldl (fun (acc : List Cause) b => if acc.contains b.2.1 then acc else acc ++ [b.2.1]) []
  let first := order.foldl (fun acc c => if c.priority < acc.priority then c else acc) (order.headD .permission)
  let rest := order.filter (· != first)
  let second := match rest with
    | [] => none
    | c :: cs => some (cs.foldl (fun acc c => if c.priority < acc.priority then c else acc) c)
  let lanesWith (c : Cause) : Mask := laneMask ((rank c).map (·.1))
  let byLane := m.vector && !m.act.whole
  let prov := if first == .poison then lowestProv ((rank first).map (·.2.2)) else none
  let addr := match (rank first).foldl (fun (acc : Option LaneAcc) b =>
      match acc with
      | none => some b.1
      | some y => if b.1.lane < y.lane then some b.1 else acc) none with
    | some x => if first == .illegal then 0 else x.addr
    | none => 0
  s.holdTrap a (some id) first prov ⟨.sync, causeWord first (if byLane then second else none) 0 prov, m.pc, m.head,
    if byLane then lanesWith first else m.head, if byLane then (second.map lanesWith).getD 0 else 0, addr,
    if byLane then some ⟨m.pc, m.head, replay, false⟩ else none⟩

/-- Withdraws an operation's parts from every fault record (12 R313): a record that names it counts as answered. -/
def State.withdraw (s : State) (vd : Nat) (o : ParkOwner) : State :=
  s.updVd vd fun v => { v with faults := v.faults.filter fun f => f.owner != o }

/-- Parks absent lanes, one fault record for each distinct page (12 R312, 09 R242). -/
def State.parkLanes (s : State) (a : AgentId) (id : Nat) (m : MemOp) (xs : List (LaneAcc × AbsentAt)) : State :=
  let pages := xs.foldl (fun (acc : List AbsentAt) x =>
    if acc.any fun f => f.page == x.2.page && f.phys == x.2.phys then acc else acc ++ [x.2]) []
  pages.foldl (fun s f =>
    let lanes := laneMask ((xs.filter fun x => x.2.page == f.page && x.2.phys == f.phys).map (·.1))
    s.parkUnder (s.vdOf a) f (s.faultBy a m lanes) (.agent a id) lanes) s

/-- The poison that an atomic finds when its turn comes: a lower lane may just have written it (09 R239, R252). -/
def State.latePoison (s : State) (m : MemOp) (ls : List Loc) : Option Prov :=
  match m.act with
  | .atomic _ _ => lowestProv (ls.map fun l => if l.space == .fabric then none else s.poisonOf l m.piece)
  | _ => none

/-- Takes classified lanes of operation `id` to what follows (09 R241-R243): with no cause, found lanes are performed and
absent ones parked; with a cause, every lane without one completes at once, the others stay in the replay mask, and the
trap is taken. `p` is what the operation already carries. Answers whether a trap was taken. -/
def State.resolve (s : State) (a : AgentId) (id : Nat) (m : MemOp) (p : Parts) (found : List (LaneAcc × LaneFound)) :
    Bool × State :=
  let causes (l : List (LaneAcc × LaneFound)) := l.filterMap fun x =>
    match x.2 with
    | .cause c q => some (x.1, c, q)
    | _ => none
  let vd := s.vdOf a
  let aborted (f : AbsentAt) : Bool := s.faultAborts vd f
  let (found, s) :=
    if (causes found).isEmpty && found.any fun x => match x.2 with | .absent f => aborted f | _ => false then
      (found.map fun x => (x.1, match x.2 with
        | .absent f => if aborted f then .cause .permission none else x.2
        | y => y), s.abortNow vd)
    else (found, s)
  let (p, found, s) := found.foldl (fun (acc : Parts × List (LaneAcc × LaneFound) × State) x =>
    let (p, done, s) := acc
    match x.2 with
    | .ok ls =>
      match s.latePoison m ls with
      | some q => (p, done ++ [(x.1, .cause .poison (some q))], s)
      | none =>
        let (p, s) := s.performLane a id m p x.1 ls
        (p, done ++ [x], s)
    | _ => (p, done ++ [x], s)) (p, [], s)
  let bad := causes found
  let s := match s.coreOf a with | some c => s.flushFull c | none => s
  let now := !bad.isEmpty || !p.lines.isEmpty
  -- with a trap, or beside tracked writes, the stores of the lanes are performed here
  let s := if now then s.flushBefore a id (p.writes.map fun w => w.loc.key) (p.writes.any fun w => w.loc.space == .host) else s
  let p := if now then { p with lines := (p.lines ++ s.trackedLines p.writes).eraseDups } else p
  let s := if now then s.performBy a p.writes else s
  if bad.isEmpty then
    let absent := found.filterMap fun x => match x.2 with | .absent f => some (x.1, f) | _ => none
    let waits := found.filterMap fun x => match x.2 with | .wait => some x.1 | _ => none
    let s := s.parkLanes a id m absent
    let p := { p with writes := if now then [] else p.writes,
                      waiting := p.waiting ++ waits,
                      parked := p.parked ++ absent.map fun (x : LaneAcc × AbsentAt) => ((⟨x.1.lane, x.2.page / 4096, x.2.phys⟩ : Parked), x.1) }
    let s := if m.acquires && p.bound then s.acquire a else s
    (false, s.setWork a id (p.work { m with acquires := m.acquires && !p.bound }))
  else
    let s := ((s.applyRegs a p.regs).retranslate p.lines).withdraw vd (.agent a id)
    let left := found.filterMap fun x => match x.2 with | .ok _ => none | _ => some x.1
    let replay := laneMask left ||| laneMask p.waiting ||| laneMask (p.parked.map (·.2))
    let all := bad ++ found.filterMap fun x => match x.2 with | .absent _ => some (x.1, Cause.notPresent, none) | _ => none
    let s := s.setWork a id (if p.remote.isEmpty then .finished else { Parts.none with remote := p.remote }.work m)
    (true, s.trapMem a id m all replay)

/-- Whether `len` bytes from an address meet those of an agent's access. -/
def State.meetsLane (s : State) (a : AgentId) (addr : Word) (len : Nat) (m : MemOp) (x : LaneAcc) : Bool :=
  match (s.target a addr).span len, (s.target a x.addr).span (max m.bytes x.data.length) with
  | some p, some q => p.meets q
  | _, _ => false

/-- Whether an access touches bytes of an earlier access of the agent that is still to be performed: a parked or waiting lane, one
at a remote home, or a queue operation's bytes outside its queue. It then waits its turn (13 R319). -/
def State.behind (s : State) (a : AgentId) (m : MemOp) (xs : List LaneAcc) : Bool :=
  (s.agent a).ops.any (fun o =>
    match o.work with
    | .queue q =>
      let g := (groupOf a).getD 0
      (!q.push || m.act.writes) && xs.any fun x =>
        s.meetsLane a q.addr (2 ^ (Table.get ⟨0, 0, 0, 0, 0, 0, 0, [], []⟩ (s.group g).queues q.queue).sizeLog) m x
    | w =>
      let held := (w.parts.parked.map (·.2)) ++ w.parts.waiting
      let size := match w with
        | .store k _ _ _ | .load k _ _ _ _ _ | .tracked k _ _ _ _ => k.bytes
        | _ => 0
      held.any fun h => xs.any fun x => s.meetsLane a h.addr (max size h.data.length) m x) ||
  s.remote.any fun r => match r.use with
    | .lane b _ acc | .failed b _ acc _ _ => b == a && xs.any fun x => s.meetsLane a acc.addr 16 m x
    | _ => false

/-- Whether an access of an agent cannot issue now (04 R121; 13 R319, R323). -/
def State.memStalled (s : State) (a : AgentId) (c : OpClass) (m : MemOp) (xs : List LaneAcc) : Bool :=
  s.classFull a c || s.acquiring a || s.behind a m xs

/-- The places of the lanes found so far. -/
def foundPlaces (found : List (LaneAcc × LaneFound)) : List Loc :=
  found.flatMap fun x => match x.2 with | .ok ls => ls | _ => []

/-- The lanes of an agent's memory instruction after the comparison of their addresses under paired issue (17 R398): where one still
differs, a lane that stores has POISON, and a load's data will be poisoned. -/
def State.pairAccesses (s : State) (a : AgentId) (m : MemOp) (xs : List LaneAcc) :
    (List (LaneAcc × LaneFound) × List LaneAcc) × State :=
  match groupOf a with
  | none => (([], xs), s)
  | some g =>
    let (d, s) := s.pairTurn g
    let x := s.group g
    let has (n : Nat) : Bool := xs.any fun x => x.lane == n
    let d : PairDiffer := ⟨d.differ.filter has, d.still.filter has⟩
    let (p, s) := (s.countPair x.vd d).pairTag (18 + dieOf x.core) d
    let hit (x : LaneAcc) : Bool := d.still.contains x.lane
    if m.act.writes then (((xs.filter hit).map fun x => (x, .cause .poison p), xs.filter fun x => !hit x), s)
    else (([], xs.map fun x => if hit x then { x with prov := p } else x), s)

/-- Issues a memory instruction of `len` bytes (09 R241): it waits while it cannot issue, or while a damper holds a request that it
makes (03 R89); `pre` holds lanes that already have
a cause. -/
def memIssue (len : Nat) (m : MemOp) (releases : Bool) (pre : List (LaneAcc × LaneFound)) (xs : List LaneAcc) (s0 : State) :
    State :=
  let a := s0.cur
  let c : OpClass := if m.act.stores then .stores else .loads
  if s0.memStalled a c m xs then s0
  else if releases && !s0.released a then s0.drainFor a
  else
    let ((hurt, xs), s) := s0.pairAccesses a m xs
    let (found, s) := xs.foldl (fun (acc : List (LaneAcc × LaneFound) × State) x =>
      let (f, s) := acc.2.classify a m false x
      (acc.1 ++ [(x, f)], s)) (pre ++ hurt, s)
    if (groupOf a).isSome && s.damps (s.vdOf a) (foundPlaces found) then s0
    else if found.isEmpty then (if m.acquires then s.acquire a else s).advance len
    else
      let (id, s) := s.addOp a c .finished
      let (trapped, s) := s.resolve a id m Parts.none found
      let s := s.updAgent a Agent.settle
      if trapped then s else s.advance len

/-- The operation with its remaining parts. -/
def OpWork.memOp : OpWork → Option MemOp
  | .load m _ _ _ _ _ => some m
  | .store m _ _ _ => some m
  | .tracked m _ _ _ _ => some m
  | _ => none

/-- LOAD_COMPLETE's effect: the bound values are written; the operation is over when nothing is left (04 R120, 13 R323). -/
def State.completeLoad (s : State) (a : AgentId) (id : Nat) : State :=
  match s.op? a id with
  | some ⟨_, _, .load m rs wt pk rm _⟩ =>
    let s := s.applyRegs a rs
    if wt.isEmpty && pk.isEmpty && rm.isEmpty then
      (if m.acquires then s.acquire a else s).setWork a id .finished
    else s.setWork a id (.load m [] wt pk rm [])
  | _ => s

/-- A tracked store's completion point (12 R300): derived translations go, and accesses that used them reach their ordering points:
pending stores are performed, write-combining entries sent, and the completion waits for remote requests under way. -/
def State.completeTracked (s : State) (a : AgentId) (id : Nat) : State :=
  let s := match s.op? a id with
    | some ⟨_, _, .tracked _ _ _ _ _⟩ => s.sendAllEntries
    | _ => s
  match s.op? a id with
  | some ⟨_, _, .tracked m rs pk rm ls⟩ =>
    if s.remoteIds.any fun r => !rm.contains r then s
    else
      let s := (s.retranslate ls).applyRegs a rs
      let p : Parts := ⟨[], [], [], pk, rm, [], []⟩
      if p.isDone then (if m.acquires then s.acquire a else s).setWork a id .finished else s.setWork a id (p.work m)
  | _ => s

/-- Walks parked or waiting lanes of an operation again (12 R313, R317; 09 R248). -/
def State.replayLanes (s : State) (a : AgentId) (id : Nat) (expired : Bool) (pick : Option Parked → LaneAcc → Bool) : State :=
  match s.op? a id with
  | none => s
  | some o =>
    match o.work.memOp with
    | none => s
    | some m =>
      let p := o.work.parts
      let again := ((p.parked.filter fun x => pick (some x.1) x.2).map (·.2)) ++ p.waiting.filter (pick none)
      if again.isEmpty then s
      else
        let p := { p with parked := p.parked.filter fun x => !pick (some x.1) x.2,
                          waiting := p.waiting.filter fun x => !pick none x }
        let (found, s) := again.foldl (fun (acc : List (LaneAcc × LaneFound) × State) x =>
          let (f, s) := acc.2.classify a m expired x
          (acc.1 ++ [(x, f)], s)) ([], s)
        ((s.resolve a id m p found).2).updAgent a Agent.settle

/-- Gives parked lanes PERMISSION, as an abort does (12 R313). -/
def State.abortLanes (s : State) (a : AgentId) (id : Nat) (lanes : Mask) : State :=
  match s.op? a id with
  | none => s
  | some o =>
    match o.work.memOp with
    | none => s
    | some m =>
      let p := o.work.parts
      let hit := (p.parked.filter fun x => bit lanes x.2.lane).map (·.2)
      if hit.isEmpty then s
      else
        let p := { p with parked := p.parked.filter fun x => !bit lanes x.2.lane }
        ((s.resolve a id m p (hit.map fun x => (x, .cause .permission none))).2).updAgent a Agent.settle

end Sys2Proof.Machine
end

