-- ==== Sys2Proof/Machine/Mem.lean ====
section
/-! DEFINITION. Scalar and vector memory instructions (07 R188, R189; 09 R236-R252) and the events that complete them. -/

namespace Sys2Proof.Machine

/-- Warps of a workgroup (03 R79). -/
def LaunchRec.warps (r : LaunchRec) : Nat := (r.threads + 63) / 64

/-- Issues an SLD (07 R188): aux6 holds the width, the order and the sign. -/
def sldOp (len : Nat) (o : GSI) (s : State) : Res :=
  checked ⟨len, 0x04, 0, .si o⟩ s fun s =>
    let n := 2 ^ fieldN o.aux 1 0
    let m : MemOp := ⟨.load, n, false, o.sd, o.aux.getLsbD 4, o.aux.getLsbD 2, s.pc, s.headMask⟩
    .next (memIssue len m false [] [⟨0, s.sreg o.sa + o.imm.signExtend 64, [], none, []⟩] s)

/-- Issues an SST (07 R188). -/
def sstOp (len : Nat) (o : GSI) (s : State) : Res :=
  checked ⟨len, 0x04, 1, .si o⟩ s fun s =>
    let n := 2 ^ fieldN o.aux 1 0
    let m : MemOp := ⟨.store, n, false, 0, false, false, s.pc, s.headMask⟩
    let prov := if o.sd == 0 then none else Table.look (s.agent s.cur).spoison o.sd.toNat
    .next (memIssue len m (o.aux.getLsbD 3) []
      [⟨0, s.sreg o.sa + o.imm.signExtend 64, leB n (s.sreg o.sd).toNat, prov, []⟩] s)

/-- Issues an SATOM (07 R189): with sd = 0 it returns no value. -/
def satomOp (len : Nat) (o : GS) (s : State) : Res :=
  checked ⟨len, 0x04, 2, .s o⟩ s fun s =>
    let (code, n) := satomCode o.cw
    let m : MemOp := ⟨.atomic code (o.sd != 0), n, false, o.sd, false, false, s.pc, s.headMask⟩
    .next (memIssue len m false []
      [⟨0, s.sreg o.sa, leB n (s.sreg o.sb).toNat, none, leB n (s.sreg o.sc).toNat⟩] s)

/-- IndexOf (09 R237). -/
def Warp.indexOf (w : Warp) (o : GM) (l : Nat) : Word :=
  bitFieldGet o.isgn (w.v64 o.vb.toNat l) 0 (8 * 2 ^ o.iw.toNat)

/-- Addr (09 R237): `unit` for VLD and VST; the displacement of an atomic is 0. -/
def Warp.laneAddr (w : Warp) (unit atomic : Bool) (o : GM) (base : Word) (l : Nat) : Word :=
  if unit then base + o.off.signExtend 64 * 256 + BitVec.ofNat 64 (l * o.width.bytes)
  else base + w.indexOf o l <<< o.scale.toNat + (if atomic then 0 else o.off.signExtend 64)

/-- The bytes that a lane holds in registers from `r` on (09 R238). -/
def Warp.laneBytes (w : Warp) (r l n : Nat) : List Byte :=
  ((List.range ((n + 3) / 4)).flatMap fun i => leB 4 (w.v (r + i) l).toNat).take n

/-- The lanes of a vector memory instruction as its issue reads them (09 R237, R241; 17 R390): lanes whose predicate or
index is poisoned already have their cause. -/
def State.vmemLanes (s : State) (w : Warp) (unit atomic : Bool) (o : GM) (operand compare : Option Nat) :
    List (LaneAcc × LaneFound) × List LaneAcc :=
  let base := s.sreg o.sa
  let n := o.width.bytes
  let act := w.active o.p o.pneg
  (lanesOf w.issueMask).foldl (fun acc l =>
    match w.predPoison l [o.p.toNat] with
    | some q => (acc.1 ++ [(⟨l, 0, [], none, []⟩, .cause .poison (some q))], acc.2)
    | none =>
      if !bit act l then acc
      else
        match (if unit then none else w.sourcePoison l [(o.vb, if o.iw == 3 then 2 else 1)]) with
        | some q => (acc.1 ++ [(⟨l, 0, [], none, []⟩, .cause .poison (some q))], acc.2)
        | none =>
          let regs := o.width.regs
          let data := match operand with | some r => w.laneBytes r l n | none => []
          let cmp := match compare with | some r => w.laneBytes r l n | none => []
          let prov := lowestProv [
            match operand with | some r => w.sourcePoison l [(BitVec.ofNat 7 r, regs)] | none => none,
            match compare with | some r => w.sourcePoison l [(BitVec.ofNat 7 r, regs)] | none => none]
          (acc.1, acc.2 ++ [⟨l, w.laneAddr unit atomic o base l, data, prov, cmp⟩])) ([], [])

/-- Issues a VMEM load or store over lanes (09 R245, R246, R248). -/
def vmemOp (len fn : Nat) (o : GM) (s : State) : Res :=
  checked ⟨len, 0x10, fn, .m o⟩ s fun s =>
    match s.cur with
    | .warp g wn =>
      let w := s.warp g wn
      let store := fn == 1 || fn == 3
      let act : MemAct := if store then .store else if fn == 4 then .step (s.sreg (o.sa + 1)) else .load
      let (pre, xs) := s.vmemLanes w (fn < 2) false o (if store then some o.vdata.toNat else none) none
      let m : MemOp := ⟨act, o.width.bytes, true, o.vdata, false, o.order.acquires, s.pc, s.headMask⟩
      .next (memIssue len m o.order.releases pre xs s)
    | _ => .next (s.trap .wrongAgent)

/-- Brings an HBM line into the L1 of an agent's core, unowned, where the coming choice of 13 R321 says so; the bytes it moves are
counted (03 R89). -/
def State.prefetch (s : State) (a : AgentId) (line : Loc) : State :=
  let (keep, s) := s.l1Turn a line
  let words := (s.coreOf a).map fun c => (s.core c).l1
  let here := (List.range 16).all fun i => ((words.getD []).any fun e => e.1 == line.off / 4 + i)
  if keep && !here then (s.meterHbm (s.vdOf a) 64).keepCopies a line 64 else s

/-- VPREF (09 R247): the lines of its lanes may come into the L1, each once; nothing else happens, and a lane that would raise anything
is dropped. It waits while a damper holds its requests (03 R89). -/
def vprefOp (len : Nat) (o : GM) (s : State) : Res :=
  checked ⟨len, 0x10, 5, .m o⟩ s fun s0 =>
    match s0.cur with
    | .warp g wn =>
      let w := s0.warp g wn
      let base := if o.sa == 0 then none else Table.look w.agent.spoison o.sa.toNat
      let (_, xs) := s0.vmemLanes w false false o none none
      let m : MemOp := ⟨.load, 1, true, 0, false, false, s0.pc, s0.headMask⟩
      let ((_, xs), s) := s0.pairAccesses s0.cur m xs
      let (lines, s) := if base.isSome then ([], s) else xs.foldl (fun (acc : List Loc × State) x =>
        let (f, s) := acc.2.classify s0.cur m false x
        match f with
        | .ok ls => (acc.1 ++ (ls.filter fun l => l.space == .hbm).map fun l => ⟨.hbm, l.off / 64 * 64⟩, s)
        | _ => (acc.1, s)) ([], s)
      if s.damps (s0.vdOf s0.cur) lines then .next s0
      else .next ((lines.eraseDups.foldl (fun s l => s.prefetch s0.cur l) s).advance len)
    | _ => .next (s0.trap .wrongAgent)

/-- The value of a register that VSPILL takes from a thread: 0 from one that never started, as from a helper lane (04 R113, 09
R249). -/
def Warp.spilled (w : Warp) (r l : Nat) : W32 := if bit w.unstarted l then 0 else w.v r l

/-- The signed deltas of a register from its value in the thread with LANE 0 (04 R123). -/
def Warp.spillDelta (w : Warp) (r l : Nat) : Int := (w.spilled r l - w.spilled r 0).toInt

/-- The format of a spill: the least width that holds every delta, else raw (04 R123). -/
def Warp.spillFormat (w : Warp) (r : Nat) : Nat :=
  let fits (n : Nat) : Bool := (List.range 64).all fun l =>
    let d := w.spillDelta r l
    if n == 0 then d == 0 else decide (-2 ^ (n - 1) ≤ d) && decide (d ≤ 2 ^ (n - 1) - 1)
  if fits 0 then 0 else if fits 4 then 1 else if fits 8 then 2 else if fits 16 then 3 else 5

/-- The bytes that VSPILL writes (04 R123). -/
def Warp.spillSlot (w : Warp) (r : Nat) : List Byte :=
  let fmt := w.spillFormat r
  let header := leB 1 fmt ++ leB 11 0 ++ leB 4 (w.spilled r 0).toNat
  let packed (n : Nat) : List Byte :=
    leB (8 * n) ((List.range 64).foldl (fun acc l => acc + (w.spillDelta r l % 2 ^ n).toNat * 2 ^ (l * n)) 0)
  header ++ match fmt with
    | 0 => []
    | 1 => packed 4
    | 2 => packed 8
    | 3 => packed 16
    | _ => (List.range 64).flatMap fun l => leB 4 (w.spilled r l).toNat

/-- The spill area of a warp: its low end and its size (04 R122). -/
def State.spillArea (s : State) (g wn : Nat) : Nat × Nat :=
  let r := s.launchOf g
  let size := fieldN (r.word 12) 23 0
  ((r.word 11).toNat + ((s.group g).wgid * r.warps + wn) * size, size)

/-- VSPILL and VFILL (09 R249; 04 R122, R123). -/
def spillOp (len fn : Nat) (o : GM) (s : State) : Res :=
  checked ⟨len, 0x10, fn, .m o⟩ s fun s =>
    match s.cur with
    | .warp g wn =>
      let w := s.warp g wn
      let addr := w.spillSp + 272 * o.off.setWidth 64
      let (lo, size) := s.spillArea g wn
      if w.spillSp.toNat % 16 != 0 then .next (s.trapAt .misalign addr)
      else if addr.toNat < lo || lo + size < addr.toNat + 272 then .next (s.trapAt .permission addr)
      else
        let data := if fn == 6 then w.spillSlot o.vdata.toNat else []
        let prov := if fn == 6 then lowestProv ((List.range 64).map fun l => if bit w.unstarted l then none else w.sourcePoison l [(o.vdata, 1)]) else none
        let m : MemOp := ⟨if fn == 6 then .spill else .fill, 272, true, o.vdata, false, false, s.pc, s.headMask⟩
        .next (memIssue len m false [] [⟨0, addr, data, prov, []⟩] s)
    | _ => .next (s.trap .wrongAgent)

/-- VATOM and VRED (09 R250-R252). -/
def vatomOp (len fn : Nat) (o : GM) (s : State) : Res :=
  checked ⟨len, 0x11, fn, .m o⟩ s fun s =>
    match s.cur with
    | .warp g wn =>
      let w := s.warp g wn
      let code : BitVec 4 := o.off.setWidth 4
      let r := o.vdata.toNat
      let (pre, xs) := s.vmemLanes w false true o (some r) (if code == 9 then some (r + o.width.regs) else none)
      let m : MemOp := ⟨.atomic code (fn == 0), o.width.bytes, true, o.vdata, false, o.order.acquires, s.pc, s.headMask⟩
      .next (memIssue len m o.order.releases pre xs s)
    | _ => .next (s.trap .wrongAgent)

/-- SLD (R188). -/
def execSld (o : GSI) (s : State) : Res := sldOp 8 o s

/-- SST (R188). -/
def execSst (o : GSI) (s : State) : Res := sstOp 8 o s

/-- SATOM (R189). -/
def execSatom (o : GS) (s : State) : Res := satomOp 8 o s

/-- VLD (R245). -/
def execVld (o : GM) (s : State) : Res := vmemOp 8 0 o s

/-- VST (R245). -/
def execVst (o : GM) (s : State) : Res := vmemOp 8 1 o s

/-- VGATHER (R246). -/
def execVgather (o : GM) (s : State) : Res := vmemOp 8 2 o s

/-- VSCATTER (R246). -/
def execVscatter (o : GM) (s : State) : Res := vmemOp 8 3 o s

/-- VLDSTEP (R248). -/
def execVldstep (o : GM) (s : State) : Res := vmemOp 8 4 o s

/-- VPREF (R247). -/
def execVpref (o : GM) (s : State) : Res := vprefOp 8 o s

/-- VSPILL (R249). -/
def execVspill (o : GM) (s : State) : Res := spillOp 8 6 o s

/-- VFILL (R249). -/
def execVfill (o : GM) (s : State) : Res := spillOp 8 7 o s

/-- VATOM (R252). -/
def execVatom (o : GM) (s : State) : Res := vatomOp 8 0 o s

/-- VRED (R252). -/
def execVred (o : GM) (s : State) : Res := vatomOp 8 1 o s

/-- STORE_ORDERING_POINT (R320). -/
def execStoreOrderingPoint (a : AgentId) (op : Nat) (s : State) : Res := .next (s.orderStore a op)

/-- TRACKED_STORE_COMPLETE (R300). -/
def execTrackedStoreComplete (a : AgentId) (op : Nat) (s : State) : Res := .next (s.completeTracked a op)

/-- VLDSTEP_WAKE (R248): lanes whose slab has reached their step load; the others wait on. -/
def execVldstepWake (a : AgentId) (op : Nat) (s : State) : Res :=
  .next (s.replayLanes a op false fun p _ => p.isNone)

/-- HALO_WAIT_EXPIRE (R248): lanes whose slab is still stale take HALO_STALE. -/
def execHaloWaitExpire (a : AgentId) (op : Nat) (s : State) : Res :=
  .next (s.replayLanes a op true fun p _ => p.isNone)

end Sys2Proof.Machine
end

