-- ==== Sys2Proof/Machine/Sync.lean ====
section
/-! DEFINITION. SYNC: fences, barrier objects, WSYNC, CVINIT and MWAIT (13 R330-R336), and the events that end their waits. -/

namespace Sys2Proof.Machine

/-- The state seen by agent `a` as the executing one. -/
def State.as (s : State) (a : AgentId) : State := { s with cur := a }

/-- The executing agent begins to wait at its instruction of `len` bytes (04 R112). -/
def State.waitFor (s : State) (len : Nat) (k : WaitKind) : State :=
  let w : Wait := ⟨k, s.pc, s.nextPc len⟩
  s.updAgent s.cur fun a => { a with wait := some w }

/-- The executing agent waits no longer. -/
def State.unwait (s : State) : State := s.updAgent s.cur fun a => { a with wait := none }

/-- A waiting instruction completes: its agent goes on at the PC after it. -/
def State.resumeAt (s : State) (w : Wait) : State := s.unwait.setPc w.next

/-- Threads that take part in nothing: those that have exited or never started (03 R79). -/
def Warp.gone (w : Warp) : Mask := w.exited ||| w.unstarted

/-! Barrier objects (13 R332, R333). -/

/-- The place of a barrier object for an agent: own scratchpad or a gang peer's, 8-byte aligned, wholly below the limit. -/
def State.barrierAt (s : State) (a : AgentId) (addr : Word) : Except Cause Loc :=
  if addr.toNat % 8 != 0 then .error .misalign
  else
    match s.target a addr with
    | .at_ l limit =>
      match l.space with
      | .scratch _ => if l.off + 16 ≤ limit then .ok l else .error .permission
      | _ => .error .permission
    | _ => .error .permission

/-- PHASE of a barrier object. -/
def State.phase (s : State) (l : Loc) : Bool := (wordOf (s.readBytes l 8)).getLsbD 63

/-- Whether an agent waits at a barrier object. -/
def Agent.waitsAt (l : Loc) (a : Agent) : Bool :=
  match a.wait with
  | some ⟨.barrier at_ _ _, _, _⟩ => at_ == l
  | _ => false

/-- Tells an agent that waits at an object that a phase completed (13 R333). -/
def Agent.noteFlip (l : Loc) (a : Agent) : Agent :=
  match a.wait with
  | some ⟨.barrier at_ token _, pc, next⟩ => if at_ == l then { a with wait := some ⟨.barrier at_ token true, pc, next⟩ } else a
  | _ => a

/-- Tells a workgroup; one that was swapped out may be resumed (04 R127). -/
def Group.noteFlip (l : Loc) (x : Group) : Group :=
  let hit := x.warps.any (fun w => w.agent.waitsAt l) || (x.stoker.map fun k => k.agent.waitsAt l).getD false
  if !hit then x
  else { x with
    warps := x.warps.map fun w => { w with agent := w.agent.noteFlip l }
    stoker := x.stoker.map fun k => { k with agent := k.agent.noteFlip l }
    wakeable := x.wakeable || x.residence != .resident }

/-- Arrive (13 R333): none when EXPECT is 0. -/
def State.arrive (s : State) (l : Loc) (n : Nat) : Option State :=
  let w0 := wordOf (s.readBytes l 8)
  let expect := fieldN (wordOf (s.readBytes (l.plus 8) 8)) 39 0
  let remain := fieldN w0 39 0
  if expect == 0 then none
  else if remain ≤ n then
    let late := w0.getLsbD 62 || decide (remain < n)
    let w := putField (setBit (setBit w0 63 (!w0.getLsbD 63)) 62 late) 39 0 expect
    let s := s.store l (bytesOf w)
    some { s with groups := s.groups.map fun e => (e.1, e.2.noteFlip l) }
  else some (s.store l (bytesOf (putField w0 39 0 (remain - n))))

/-- A barrier instruction: its object is found and, where it is read, free of poison (17 R392). -/
def barrierOp (len fn : Nat) (o : GS) (reads : Bool) (s : State) (k : Loc → State → Res) : Res :=
  checked ⟨len, 0x12, fn, .s o⟩ s fun s =>
    let addr := s.sreg o.sa
    match s.barrierAt s.cur addr with
    | .error c => .next (s.trapAt c addr)
    | .ok l =>
      match (if reads then s.poisonOf l 16 else none) with
      | some p => .next (s.trapWith .poison none (some p) s.headMask 0 addr none)
      | none => k l s

/-- FENCE (R331): an acquire waits until every earlier load has bound its value, for it orders what follows after what those loads
observed (13 R324). -/
def fenceOp (len : Nat) (o : GS) (s : State) : Res :=
  checked ⟨len, 0x12, 0, .s o⟩ s fun s =>
    if o.cw.getLsbD 1 && !s.released s.cur then .next (s.drainFor s.cur)
    else if o.cw.getLsbD 0 && !s.loadsBound s.cur then .next s
    else .next ((if o.cw.getLsbD 0 then s.acquire s.cur else s).advance len)

/-- Whether an access of a SYNC instruction must wait: for an earlier acquire of the agent, or behind an earlier access to its bytes
(13 R319, R323). -/
def State.syncStalled (s : State) (a : AgentId) (addr : Word) (n : Nat) (writes : Bool) : Bool :=
  s.acquiring a || s.behind a ⟨if writes then .store else .load, n, false, 0, false, false, 0, 0⟩ [⟨0, addr, [], none, []⟩]

/-- BINIT (R333): a counted store of both words. -/
def binitOp (len : Nat) (o : GS) (s : State) : Res :=
  barrierOp len 1 o false s fun l s =>
    let v := s.sreg o.sb
    if v == 0 || 2 ^ 40 ≤ v.toNat then .next (s.trapAt .permission (s.sreg o.sa))
    else if s.classFull s.cur .stores || s.syncStalled s.cur (s.sreg o.sa) 16 true then .next s
    else
      let m : MemOp := ⟨.store, 16, false, 0, false, false, s.pc, s.headMask⟩
      let (_, s) := s.addOp s.cur .stores (.store m (writesAt l (bytesOf v ++ bytesOf v) none) [] [])
      .next (s.advance len)

/-- BARRIVE (R333). -/
def barriveOp (len : Nat) (o : GS) (s : State) : Res :=
  barrierOp len 2 o true s fun l s =>
    if !s.released s.cur || s.syncStalled s.cur (s.sreg o.sa) 16 true then .next (s.drainFor s.cur)
    else
      let n := if o.sb == 0 then 1 else (s.sreg o.sb).toNat
      let token := s.phase l
      match s.arrive l n with
      | some s => .next (s.writeNext len o.sd (flagWord token))
      | none => .next (s.trapAt .permission (s.sreg o.sa))

/-- BWAIT (R333): it waits until the phase differs from the token or a phase completes. -/
def bwaitOp (len : Nat) (o : GS) (s : State) : Res :=
  barrierOp len 3 o true s fun l s =>
    if s.syncStalled s.cur (s.sreg o.sa) 16 false then .next s
    else
    let s := s.flushOverlap s.cur ((List.range 16).map fun i => (l.plus i).key)
    let token := (s.sreg o.sb).getLsbD 0
    if s.phase l != token then .next ((s.acquire s.cur).advance len)
    else .next (s.waitFor len (.barrier l token false))

/-- BTEST (R333). -/
def btestOp (len : Nat) (o : GS) (s : State) : Res :=
  barrierOp len 4 o true s fun l s =>
    if s.syncStalled s.cur (s.sreg o.sa) 16 false then .next s
    else
    let s := s.flushOverlap s.cur ((List.range 16).map fun i => (l.plus i).key)
    if s.phase l != (s.sreg o.sb).getLsbD 0 then .next ((s.acquire s.cur).writeNext len o.sd 1)
    else .next (s.writeNext len o.sd 0)

/-! WSYNC and CVINIT (13 R335, R336). -/

/-- The threads parked in a group, together. -/
def SyncGroup.threads (g : SyncGroup) : Mask := g.parked.foldl (fun m p => m ||| p.at_.mask) 0

/-- The entries of a group's threads, at the PC of their WSYNC or at the Next of it. -/
def SyncGroup.entries (g : SyncGroup) (next : Bool) : List Entry :=
  g.parked.map fun p => if next then { p.at_ with pc := p.at_.pc + BitVec.ofNat 64 p.len } else p.at_

/-- Releases the groups of a warp whose parked set is the whole mask. -/
def Warp.releaseGroups (w : Warp) : Warp :=
  let done := w.groups.filter fun g => g.threads == g.mask && g.mask != 0
  { w with frontier := frontierOf (w.frontier ++ done.flatMap fun g => g.entries true)
           groups := w.groups.filter fun g => !(g.threads == g.mask) }

/-- SyncMaskTrap (R335): the threads of a group, if one is involved, return to the PCs of their WSYNCs. -/
def State.syncMaskTrap (s : State) (g wn : Nat) (u : Mask) (grp : Option SyncGroup) : State :=
  let t := s.trapWith .syncMask none none s.headMask (u &&& ~~~(s.warp g wn).gone) 0 none
  match grp with
  | some x => t.updWarp g wn fun w => { w with
      groups := w.groups.filter fun y => y.mask != x.mask
      frontier := frontierOf (w.frontier ++ x.entries false) }
  | none => t

/-- WSYNC (R335). -/
def wsyncOp (len : Nat) (o : GS) (s : State) : Res :=
  checked ⟨len, 0x12, 5, .s o⟩ s fun s =>
    match s.cur with
    | .warp g wn =>
      let w := s.warp g wn
      let m := s.sreg o.sa &&& ~~~w.gone
      let h := w.head
      let gone : Warp := { w with frontier := w.frontier.drop 1, replay := replayWithout h.pc h.mask w.replay }
      if h.mask &&& ~~~m != 0 then .next (s.syncMaskTrap g wn m none)
      else
        match w.groups.find? fun x => x.mask &&& m != 0 with
        | some x =>
          let joined := w.groups.map fun (y : SyncGroup) => if y.mask == m then { y with parked := y.parked ++ [⟨h, len⟩] } else y
          let w' : Warp := { gone with groups := joined }
          if x.mask != m then .next (s.syncMaskTrap g wn (m ||| x.mask) (some x)) else .next (s.setWarp g wn w'.releaseGroups)
        | none =>
          let w' : Warp := { gone with groups := w.groups ++ [⟨m, [⟨h, len⟩]⟩] }
          .next (s.setWarp g wn w'.releaseGroups)
    | _ => .next (s.trap .wrongAgent)

/-- An empty convergence register. -/
def Conv.start : Conv := ⟨0, 0, 0, .bf16, 0, [], 0, 0, 0, 0⟩
def Warp.conv (w : Warp) (n : Nat) : Conv := Table.get Conv.start w.convs n
def Warp.setConv (w : Warp) (n : Nat) (c : Conv) : Warp := { w with convs := Table.put n c w.convs }

/-- CVINIT (R336). -/
def cvinitOp (len : Nat) (o : GS) (s : State) : Res :=
  checked ⟨len, 0x12, 6, .s o⟩ s fun s =>
    match s.cur with
    | .warp g wn =>
      let w := s.warp g wn
      let c := w.conv o.cw.toNat
      if c.signed != 0 then .next (s.trap .syncMask)
      else .next ((s.setWarp g wn (w.setConv o.cw.toNat { c with declared := s.sreg o.sa &&& ~~~w.gone })).advance len)
    | _ => .next (s.trap .wrongAgent)

/-! MWAIT (13 R334). -/

/-- Whether a record already stands for an instruction that waits at its PC. -/
def State.recorded (s : State) (a : AgentId) (page : Nat) : Bool :=
  (s.vd (s.vdOf a)).faults.any fun r => r.owner == .agent a 0 && r.page == page / 4096 && !r.answered

/-- An access of an instruction that waits at its PC meets an absent page: it waits under one fault record, or takes
PERMISSION when no one will answer (12 R312). -/
def State.waitPage (s : State) (m : MemOp) (f : AbsentAt) (addr : Word) : State :=
  let a := s.cur
  let vd := s.vdOf a
  if s.recorded a f.page then s
  else if s.faultAborts vd f then (s.abortNow vd).unwait.trapAt .permission addr
  else s.parkUnder vd f (s.faultBy a m s.headMask) (.agent a 0) addr

/-- Reads the word of an MWAIT for the executing agent and completes it, or leaves it waiting. -/
def State.mwaitTry (s : State) (w : Wait) (addr : Word) (cond : BitVec 4) (cmp : Word) (sd : Reg) : State :=
  let a := s.cur
  let m : MemOp := ⟨.load, 8, false, 0, false, false, w.pc, s.headMask⟩
  let waiting (s : State) : State := s.updAgent a fun x => { x with wait := some w }
  if s.syncStalled a addr 8 false then waiting s
  else
  match s.classify a m false ⟨0, addr, [], none, []⟩ with
  | (.cause c p, s) => s.unwait.trapWith c none p s.headMask 0 addr none
  | (.absent f, s) => (waiting s).waitPage m f addr
  | (.wait, s) => waiting s
  | (.ok ls, s) =>
    let l := ls.headD ⟨.hbm, 0⟩
    if (groupOf a).isSome && s.damps (s.vdOf a) ls then waiting s
    else
    match l.space with
    | .window _ _ => s.unwait.trapAt .permission addr
    | .fabric =>
      if s.remote.any fun r => r.use == .wait a then waiting s
      else (waiting ((s.sendOverlap a l 8).sendRemote (s.vdOf a) l.off (.read 8) (.wait a)).2)
    | _ =>
      let s := (s.flushOverlap a ((List.range 8).map fun i => (l.plus i).key)).meterLane a [l] 8
      match s.poisonOf l 8 with
      | some p => s.unwait.trapWith .poison none (some p) s.headMask 0 addr none
      | none =>
        let x := wordOf (s.readBytes l 8)
        if compareS cond.toNat x cmp then ((s.setSreg sd x).acquire a).resumeAt w else waiting s

/-- MWAIT (R334). -/
def mwaitOp (len : Nat) (o : GS) (s : State) : Res :=
  checked ⟨len, 0x12, 7, .s o⟩ s fun s =>
    let addr := s.sreg o.sa
    let cmp := s.sreg o.sb
    .next (s.mwaitTry ⟨.word addr o.cw cmp o.sd, s.pc, s.nextPc len⟩ addr o.cw cmp o.sd)

/-- FENCE (R331). -/
def execFence (o : GS) (s : State) : Res := fenceOp 8 o s

/-- BINIT (R333). -/
def execBinit (o : GS) (s : State) : Res := binitOp 8 o s

/-- BARRIVE (R333). -/
def execBarrive (o : GS) (s : State) : Res := barriveOp 8 o s

/-- BWAIT (R333). -/
def execBwait (o : GS) (s : State) : Res := bwaitOp 8 o s

/-- BTEST (R333). -/
def execBtest (o : GS) (s : State) : Res := btestOp 8 o s

/-- WSYNC (R335). -/
def execWsync (o : GS) (s : State) : Res := wsyncOp 8 o s

/-- CVINIT (R336). -/
def execCvinit (o : GS) (s : State) : Res := cvinitOp 8 o s

/-- MWAIT (R334). -/
def execMwait (o : GS) (s : State) : Res := mwaitOp 8 o s

/-- Whether a halt broadcast of an agent's workgroup has not settled. -/
def State.stopping (s : State) (a : AgentId) : Bool :=
  match groupOf a with
  | none => false
  | some g =>
    match (s.group g).halt with
    | some (.trap false) | some (.slice false _) | some (.frozen false) => true
    | _ => false

/-- Whether an agent's waits may end now: its workgroup is running, or its handler is (16 R376): a waiting agent stops at once with
a broadcast, and its instruction issues again on resumption. -/
def State.mayResume (s : State) (a : AgentId) : Bool := s.live a && s.haltAllows a && !s.stopping a

/-- BWAIT_COMPLETE (R333): a phase of the object has completed since issue. -/
def execBwaitComplete (a : AgentId) (s : State) : Res :=
  match (s.agent a).wait with
  | some w =>
    match w.kind with
    | .barrier _ _ flipped =>
      if s.mayResume a && flipped then .next (((s.as a).acquire a).resumeAt w) else .next s
    | _ => .next s
  | none => .next s

/-- Whether an agent's workgroup is saved. -/
def State.isSaved (s : State) (a : AgentId) : Bool :=
  match groupOf a with
  | none => false
  | some g =>
    match (s.group g).residence with
    | .saved _ _ => true
    | _ => false

/-- The word that the MWAIT of a saved workgroup names at a remote home is read for its wake condition (04 R127). -/
def State.savedReread (s : State) (a : AgentId) (w : Wait) (addr : Word) : State :=
  match (s.classify a ⟨.load, 8, false, 0, false, false, w.pc, 0⟩ false ⟨0, addr, [], none, []⟩).1 with
  | .ok ls =>
    let l := ls.headD ⟨.hbm, 0⟩
    if l.space != .fabric || s.damps (s.vdOf a) ls || s.remote.any (fun r => r.use == .wait a) then s
    else (s.sendRemote (s.vdOf a) l.off (.read 8) (.wait a)).2
  | _ => s

/-- MWAIT_REREAD (R334; 04 R127). -/
def execMwaitReread (a : AgentId) (s : State) : Res :=
  match (s.agent a).wait with
  | some w =>
    match w.kind with
    | .word addr cond cmp sd =>
      if s.isSaved a then .next (s.savedReread a w addr)
      else if s.mayResume a then .next ((s.as a).mwaitTry w addr cond cmp sd) else .next s
    | _ => .next s
  | none => .next s

end Sys2Proof.Machine
end

