-- ==== Sys2Proof/Machine/Queues.lean ====
section
/-! DEFINITION. Feed queues: their counters, QUE, and the completion of pushes and pops (13 R337-R340). -/

namespace Sys2Proof.Machine

/-- Depth and entry size of a feed queue (03 R76). -/
def FeedQueue.depth (q : FeedQueue) : Nat := 2 ^ q.depthLog
def FeedQueue.size (q : FeedQueue) : Nat := 2 ^ q.sizeLog

/-- Room and Avail (13 R337), modulo 2^16. -/
def FeedQueue.room (q : FeedQueue) : Nat := q.depth - (q.pres - q.ccom).toNat
def FeedQueue.avail (q : FeedQueue) : Nat := (q.pcom - q.cres).toNat

/-- The offset of the slot of entry `i` (13 R337). -/
def FeedQueue.slot (q : FeedQueue) (i : Nat) : Nat := q.base + i % q.depth * q.size

/-- Advances a counter over listed entries, at most `n` times. -/
def advanceOver : Nat → BitVec 16 → List Nat → BitVec 16 × List Nat
  | 0, c, l => (c, l)
  | n + 1, c, l => if l.contains c.toNat then advanceOver n (c + 1) (l.erase c.toNat) else (c, l)

/-- An entry is filled, or consumed (13 R337). -/
def FeedQueue.fill (q : FeedQueue) (i : Nat) : FeedQueue :=
  let (c, l) := advanceOver (q.filled.length + 1) q.pcom (i % 65536 :: q.filled)
  { q with pcom := c, filled := l }
def FeedQueue.consume (q : FeedQueue) (i : Nat) : FeedQueue :=
  let (c, l) := advanceOver (q.consumed.length + 1) q.ccom (i % 65536 :: q.consumed)
  { q with ccom := c, consumed := l }

/-- Queue k of a workgroup, if it exists. -/
def State.feedQueue (s : State) (g k : Nat) : Option FeedQueue := Table.look (s.group g).queues k

/-- Changes queue k of a workgroup. -/
def State.updFeed (s : State) (g k : Nat) (f : FeedQueue → FeedQueue) : State :=
  s.updGroup g fun x => { x with queues := match Table.look x.queues k with
    | some q => Table.put k (f q) x.queues
    | none => x.queues }

/-- Whether an outstanding engine operation of a VD, older than `before`, conflicts with an access of a span on a core, in the same
stage-1 space (10 R265). -/
def State.engineBusy (s : State) (core before vd root : Nat) (x : Span) (writes : Bool) : Bool :=
  (s.core core).locks.any fun k =>
    decide (k.op < before) && k.vd == vd && (!k.virt || k.root == root) && (writes || k.write) && (⟨k.virt, k.space, k.lo, k.hi + 1 - k.lo⟩ : Span).meets x

/-- Check (13 R339) for queue k and the address S[sa]: the queue, or a cause. `pop` marks a destination. -/
def State.queueCheck (s : State) (k : Nat) (addr : Word) (pop : Bool) : Except Cause FeedQueue :=
  let a := s.cur
  let g := (groupOf a).getD 0
  if addr.toNat % 16 != 0 then .error .misalign
  else
    match s.feedQueue g k, s.target a addr with
    | some q, .at_ l limit =>
      if limit < l.off + q.size || s.firewalled a l then .error .permission
      else
        let x : Span := ⟨false, l.space, l.off, q.size⟩
        if pop && (s.slabOf a x).isSome then .error .permission
        else if s.breaksSeal a x pop then .error .layoutSeal
        else .ok q
    | _, _ => .error .permission

/-- Whether a queue operation must wait its turn: an earlier acquire of the agent is due, or its bytes are those of an earlier access
(13 R319, R323). -/
def State.moveStalled (s : State) (a : AgentId) (q : FeedQueue) (addr : Word) (pop : Bool) : Bool :=
  s.classFull a .copies || s.syncStalled a addr q.size pop

/-- Reserves an entry for a push and counts the move (13 R337, R339); the release comes before its source is read. -/
def State.pushNow (s : State) (k : Nat) (addr : Word) : Option State :=
  let a := s.cur
  let g := (groupOf a).getD 0
  match s.feedQueue g k with
  | none => none
  | some q =>
    if q.room == 0 || s.moveStalled a q addr false then none
    else
      let s := s.updFeed g k fun q => { q with pres := q.pres + 1 }
      some (s.addOp a .copies (.queue ⟨true, k, q.pres.toNat, addr⟩)).2

/-- Reserves an entry for a pop and counts the move. -/
def State.popNow (s : State) (k : Nat) (addr : Word) : Option State :=
  let a := s.cur
  let g := (groupOf a).getD 0
  match s.feedQueue g k with
  | none => none
  | some q =>
    if q.avail == 0 || s.moveStalled a q addr true then none
    else
      let s := s.updFeed g k fun q => { q with cres := q.cres + 1 }
      some (s.addOp a .copies (.queue ⟨false, k, q.cres.toNat, addr⟩)).2

/-- QPUSH (R339). -/
def qpushOp (len : Nat) (o : GV) (s : State) : Res :=
  checked ⟨len, 0x13, 0, .v o⟩ s fun s =>
    let k := o.aux.toNat
    let addr := s.sreg o.va
    match s.queueCheck k addr false with
    | .error c => .next (s.trapAt c addr)
    | .ok q =>
      if q.room == 0 then .next (s.waitFor len (.pushFull k addr))
      else
        match s.pushNow k addr with
        | some s => .next (s.advance len)
        | none => .next s

/-- QPOP (R339). -/
def qpopOp (len : Nat) (o : GV) (s : State) : Res :=
  checked ⟨len, 0x13, 1, .v o⟩ s fun s =>
    let k := o.aux.toNat
    let addr := s.sreg o.va
    match s.queueCheck k addr true with
    | .error c => .next (s.trapAt c addr)
    | .ok q =>
      if q.avail == 0 then .next (s.waitFor len (.popEmpty k addr))
      else
        match s.popNow k addr with
        | some s => .next (s.advance len)
        | none => .next s

/-- QPOPS (R339). -/
def qpopsOp (len : Nat) (o : GV) (s : State) : Res :=
  checked ⟨len, 0x13, 2, .v o⟩ s fun s =>
    let k := o.aux.toNat
    let addr := s.sreg o.va
    match s.queueCheck k addr true with
    | .error c => .next (s.trapAt c addr)
    | .ok q =>
      if q.avail == 0 then .next (s.writeNext len o.vd 0)
      else
        match s.popNow k addr with
        | some s => .next (s.writeNext len o.vd 1)
        | none => .next s

/-- QSTAT (R340). -/
def qstatOp (len : Nat) (o : GV) (s : State) : Res :=
  checked ⟨len, 0x13, 3, .v o⟩ s fun s =>
    let v := match s.feedQueue ((groupOf s.cur).getD 0) o.aux.toNat with
      | some q => 2 ^ 48 * q.sizeLog + 2 ^ 32 * q.depth + 2 ^ 16 * q.room + q.avail
      | none => 0
    .next (s.writeNext len o.vd (BitVec.ofNat 64 v))

/-- QPUSH (R339). -/
def execQpush (o : GV) (s : State) : Res := qpushOp 8 o s

/-- QPOP (R339). -/
def execQpop (o : GV) (s : State) : Res := qpopOp 8 o s

/-- QPOPS (R339). -/
def execQpops (o : GV) (s : State) : Res := qpopsOp 8 o s

/-- QSTAT (R340). -/
def execQstat (o : GV) (s : State) : Res := qstatOp 8 o s

/-- QPOP_RESUME (R339). -/
def execQpopResume (a : AgentId) (s : State) : Res :=
  match (s.agent a).wait with
  | some w =>
    match w.kind with
    | .popEmpty k addr =>
      if s.mayResume a then
        match (s.as a).popNow k addr with
        | some s => .next (s.resumeAt w)
        | none => .next s
      else .next s
    | _ => .next s
  | none => .next s

/-- QPUSH_RESUME (R339). -/
def execQpushResume (a : AgentId) (s : State) : Res :=
  match (s.agent a).wait with
  | some w =>
    match w.kind with
    | .pushFull k addr =>
      if !s.mayResume a then .next s
      else
        match (s.as a).pushNow k addr with
        | some s => .next (s.resumeAt w)
        | none => .next s
    | _ => .next s
  | none => .next s

/-- QUEUE_OP_COMPLETE (R337, R339): the entry's bytes move with their poison, once a push's release is performed and unless an older
engine operation conflicts; a pop's writes follow the agent's earlier ones to the same bytes. -/
def execQueueOpComplete (a : AgentId) (op : Nat) (s : State) : Res :=
  match s.op? a op, groupOf a with
  | some ⟨_, _, .queue m⟩, some g =>
    match s.feedQueue g m.queue, s.target a m.addr with
    | some q, .at_ l _ =>
      let slot : Loc := ⟨.scratch g, q.slot m.entry⟩
      let src := if m.push then l else slot
      let dst := if m.push then slot else l
      let x : Span := ⟨false, l.space, l.off, q.size⟩
      if m.push && !s.releasedBefore a (some op) then .next (s.drainFor a)
      else if s.engineBusy (s.lockCore a x) op (s.vdOf a) (s.rootOf a) x (!m.push) then .next s
      else
        let s := s.flushBefore a op ((List.range q.size).map fun i => (dst.plus i).key) false
        let ws := (List.range q.size).map fun i =>
          (⟨dst.plus i, s.readByte (src.plus i), s.poisonAt (src.plus i)⟩ : ByteWrite)
        let s := s.performBy a ws
        let s := s.updFeed g m.queue fun q => if m.push then q.fill m.entry else q.consume m.entry
        let s := if m.push then s else s.acquire a
        .next (s.setWork a op .finished)
    | _, _ => .next s
  | _, _ => .next s

end Sys2Proof.Machine
end

