-- ==== Sys2Proof/Machine/Engine.lean ====
section
/-! DEFINITION. What engine operations share (10 R265, R266, R270; 13 R328; 15 R364): placing bytes, bytes from remote homes,
range locks, faults under a record, asynchronous traps, and the load of a record. -/

namespace Sys2Proof.Machine

/-- What placing the bytes of a part comes to. -/
inductive Placed where
  | ok (ls : List Loc)
  | cause (c : Cause)
  | absent (f : AbsentAt)
  deriving DecidableEq, Repr

/-- One byte's place; a byte of the page that the last one was found in is translated with it. -/
def State.placeNext (s : State) (a : AgentId) (need : Need) (last : Option (Nat × Loc)) (x : Word) : Found × State :=
  match s.target a x, last with
  | .virt va, some (v, l) => if v / 4096 == va / 4096 then (.ok { l with off := l.off - v % 4096 + va % 4096 }, s) else s.place a (.virt va) 1 need
  | t, _ => s.place a t 1 need

/-- Places bytes one by one; a cause goes before an absent page (09 R240). -/
def State.placeBytes (s : State) (a : AgentId) (need : Need) (xs : List Word) : Placed × State :=
  let (found, _, s) := xs.foldl (fun (acc : List Found × Option (Nat × Loc) × State) x =>
    let (f, s) := acc.2.2.placeNext a need acc.2.1 x
    (f :: acc.1, (match f with | .ok l => some (x.toNat, l) | _ => none), s)) ([], none, s)
  let found := found.reverse
  match found.findSome? fun f => match f with | .cause c _ => some c | _ => none with
  | some c => (.cause c, s)
  | none =>
    match found.findSome? fun f => match f with | .absent e => some e | _ => none with
    | some e => (.absent e, s)
    | none => (.ok (found.map fun f => match f with | .ok l => l | _ => ⟨.hbm, 0⟩), s)

/-- Bytes at a fabric place that the VD may not use give PERMISSION (15 R362). -/
def State.fabricCheck (s : State) (vd : Nat) (p : Placed) : Placed :=
  match p with
  | .ok ls => if ls.any fun l => l.space == .fabric && !s.fabricOk vd l.off then .cause .permission else p
  | p => p

/-- Runs of neighbouring fabric places: the position of the first, its offset and the length. -/
def fabricRuns : List (Nat × Loc) → List (Nat × Nat × Nat)
  | [] => []
  | (p, l) :: t =>
    if l.space != .fabric then fabricRuns t
    else
      match fabricRuns t with
      | (p', o', n) :: rest =>
        if p + 1 == p' && l.off + 1 == o' && l.off / 64 == o' / 64 then (p, l.off, n + 1) :: rest
        else (p, l.off, 1) :: (p', o', n) :: rest
      | [] => [(p, l.off, 1)]

/-- The positions of places, from `first` on. -/
def numbered (first : Nat) (ls : List Loc) : List (Nat × Loc) := (List.range ls.length).map fun i => (first + i, listGet ⟨.hbm, 0⟩ ls i)

/-- A byte an engine operation reads: its home's, or what came from a remote home. -/
def State.engineByte (s : State) (who : ParkOwner) (part pos : Nat) (l : Loc) : Option (Byte × Option Prov) :=
  if l.space == .fabric then
    (s.engineData.find? fun e => e.who == who && e.part == part && e.pos == pos).map fun e => (e.byte, e.prov)
  else some (s.readByte l, s.poisonAt l)

/-- The bytes an engine operation reads, or a request for those that must come from remote homes (13 R327, 15 R364). -/
def State.engineRead (s : State) (vd : Nat) (who : ParkOwner) (part first : Nat) (ls : List Loc) :
    Option (List (Byte × Option Prov)) × State :=
  let ps := numbered first ls
  let bs := ps.map fun p => s.engineByte who part p.1 p.2
  if bs.all Option.isSome then (some (bs.filterMap id), s)
  else if s.remote.any fun r => match r.use with | .engineRead w p _ => w == who && p == part | _ => false then (none, s)
  else (none, (fabricRuns ps).foldl (fun s r => (s.sendRemote vd r.2.1 (.read r.2.2) (.engineRead who part r.1)).2) s)

/-- Forgets the remote bytes of a part. -/
def State.forget (s : State) (who : ParkOwner) (part : Nat) : State :=
  { s with engineData := s.engineData.filter fun e => !(e.who == who && e.part == part) }

/-- Counts the HBM bytes of an engine operation (03 R89, R90). -/
def State.meterPlaces (s : State) (vd : Nat) (ls : List Loc) : State :=
  let n := (ls.filter fun l => l.space == .hbm).length
  if n == 0 then s else s.meterHbm vd n

/-- Writes an engine operation's bytes; fabric ones are sent as requests with their poison (15 R364,
17 R392). Answers whether any was sent. -/
def State.engineWrite (s : State) (a : AgentId) (vd : Nat) (who : ParkOwner) (part : Nat) (ls : List Loc)
    (bs : List (Byte × Option Prov)) : Bool × State :=
  let ps := numbered 0 ls
  let ws := ps.filterMap fun p => if p.2.space == .fabric then none else
    let b := listGet (0, none) bs p.1
    some (⟨p.2, b.1, b.2⟩ : ByteWrite)
  let s := s.engineStoreBy a ws
  let runs := fabricRuns ps
  (!runs.isEmpty, runs.foldl (fun s r => (s.sendRemote vd r.2.1
    (writeOf ((List.range r.2.2).map fun i => listGet (0, none) bs (r.1 + i))) (.engineWrite who part)).2) s)

/-- Whether remote writes of a part are outstanding. -/
def State.engineSending (s : State) (who : ParkOwner) (part : Nat) : Bool := s.remote.any fun r => r.use == .engineWrite who part

/-! Range locks (10 R270). -/

/-- A lock of an operation on a span. -/
def lockOf (op vd root : Nat) (x : Span) (write : Bool) : RangeLock :=
  ⟨op, vd, root, x.virt, x.space, x.lo, x.lo + x.len - 1, write⟩

/-- Registers the locks of an operation: on the core of the agent, and on the core whose bank holds the range. -/
def State.register (s : State) (a : AgentId) (ks : List RangeLock) : State :=
  let own := (s.coreOf a).getD 0
  ks.foldl (fun s k =>
    let bank := s.lockCore a ⟨k.virt, k.space, k.lo, 1⟩
    let s := s.updCore own fun c => { c with locks := c.locks ++ [k] }
    if bank == own then s else s.updCore bank fun c => { c with locks := c.locks ++ [k] }) s

/-- Whether the range-lock tables have room for some locks (10 R270: 128 entries). -/
def State.lockRoom (s : State) (a : AgentId) (ks : List RangeLock) : Bool :=
  let own := (s.coreOf a).getD 0
  let bankOf (k : RangeLock) : Nat := s.lockCore a ⟨k.virt, k.space, k.lo, 1⟩
  decide ((s.core own).locks.length + ks.length ≤ 128) &&
  ks.all fun k => bankOf k == own ||
    decide ((s.core (bankOf k)).locks.length + (ks.filter fun x => bankOf x == bankOf k).length ≤ 128)

/-- Removes the locks of an operation from every core. -/
def State.unlock (s : State) (op : Nat) : State :=
  { s with cores := s.cores.map fun e => (e.1, if e.2.locks.any (·.op == op) then
      { e.2 with locks := e.2.locks.filter fun k => k.op != op } else e.2) }

/-- Whether an older engine operation of the core conflicts with the locks of an operation (10 R265). -/
def State.conflicts (s : State) (a : AgentId) (op : Nat) : Bool :=
  let own := (s.coreOf a).getD 0
  ((s.core own).locks.filter fun k => k.op == op).any fun k =>
    s.engineBusy own op k.vd k.root ⟨k.virt, k.space, k.lo, k.hi + 1 - k.lo⟩ k.write

/-! Asynchronous traps and parts under a record. -/

/-- Holds an asynchronous PERMISSION trap for a workgroup (16 R374, R377); its TRAPPC is taken at the halt. -/
def State.asyncTrap (s : State) (g : Nat) (s92 : Word) : State :=
  s.updGroup g fun x => { x with
    asyncHeld := x.asyncHeld ++ [⟨.async, causeWord .permission none 0 none, 0, 0, 0, 0, s92, none⟩] }

/-- s92 of a copy's or stream's asynchronous trap (16 R379). -/
def engineS92 (tag slot off : Nat) : Word := BitVec.ofNat 64 (2 ^ 62 + 2 ^ 56 * (tag % 64) + 2 ^ 52 * (slot % 16) + off % 2 ^ 40)

/-- Who makes an engine's access, for its fault record (12 R311). -/
def State.engineBy (s : State) (g source ctag : Nat) (write : Bool) (detail : Nat) : FaultBy :=
  ⟨source, (s.launchOf g).ktag, (s.queue (s.grid (s.group g).grid).queue).local_.toNat, ctag, false, write,
    BitVec.ofNat 64 detail⟩

/-- Parks an engine's part on a page, one record for each distinct page of the operation (10 R266, 12 R312); none when no
one will answer, and then the part takes PERMISSION. -/
def State.parkEngine (s : State) (vd : Nat) (f : AbsentAt) (b : FaultBy) (owner : ParkOwner) (part : Nat) : Option State :=
  if s.faultAborts vd f then none
  else if (s.vd vd).faults.any fun r => r.owner == owner && r.page == f.page / 4096 && !r.answered then some s
  else some (s.parkUnder vd f b owner (BitVec.ofNat 64 (2 ^ (part % 64))))

/-! Loading a record of `n` bytes at issue (10 R260, R268; 14 R347; 07 R195). -/

/-- Loads a record for the executing agent, in pieces of at most 64 bytes, and goes on with its bytes; the agent waits at its PC while
they cannot be had or an earlier access must come first,
and takes a cause with the record's address. -/
def recordLoad (addr : Word) (n : Nat) (s0 : State) (k : List Byte → State → Res) : Res :=
  let a := s0.cur
  let m : MemOp := ⟨.load, n, false, 0, false, false, s0.pc, s0.headMask⟩
  if s0.syncStalled a addr n false then .next s0
  else
  match s0.classify a m false ⟨0, addr, [], none, []⟩ with
  | (.cause c p, s) => .next (s.trapWith c none p s.headMask 0 addr none)
  | (.absent f, s) => .next (s.waitPage m f addr)
  | (.wait, s) => .next s
  | (.ok ls, s) =>
    let places := ls.flatMap fun l => (List.range m.piece).map l.plus
    if s.damps (s.vdOf a) ls then .next s0
    else if ls.any fun l => l.space == .fabric then
      match s.engineRead (s.vdOf a) (.agent a 0) 0 0 places with
      | (some bs, s) =>
        let s := s.forget (.agent a 0) 0
        match lowestProv (bs.map (·.2)) with
        | some p => .next (s.trapWith .poison none (some p) s.headMask 0 addr none)
        | none => k (bs.map (·.1)) s
      | (none, s) => .next s
    else
      let (bs, _, s) := s.readPieces a false m.piece ls []
      k bs (s.meterPlaces (s.vdOf a) places)

end Sys2Proof.Machine
end

