-- ==== Sys2Proof/Machine/Copies.lean ====
section
/-! DEFINITION. STK: copies, seals, streams and tag waits (10 R254-R270), and the events of copies and streams. -/

namespace Sys2Proof.Machine

/-! Layouts and seals (10 R259-R261). -/

/-- A little-endian number of bytes lo .. lo + n - 1 of a record. -/
def recN (bs : List Byte) (lo n : Nat) : Nat := leN ((bs.drop lo).take n)

/-- Reads a layout record, if it keeps 10 R259. -/
def parseLayout (bs : List Byte) (addr : Word) : Option LayoutRec :=
  let elog := recN bs 9 1
  let nd := recN bs 10 1
  let e := 2 ^ elog
  let ext := (List.range 4).map fun k => recN bs (16 + 4 * k) 4
  let str := (List.range 3).map fun k => recN bs (32 + 8 * k) 8
  let x (k : Nat) := listGet 0 ext k
  let t (k : Nat) := listGet 0 str k
  let dims := (List.range 4).all fun k => if k < nd then 1 ≤ x k else x k == 1
  let strides := (List.range 3).all fun k => t k % e == 0 && (k + 1 < nd || t k == 0)
  let nest := (nd < 2 || x 0 * e ≤ t 0) && (nd < 3 || x 1 * t 0 ≤ t 1) && (nd < 4 || x 2 * t 1 ≤ t 2)
  let base : Word := BitVec.ofNat 64 (recN bs 0 8)
  if recN bs 8 1 == 1 && elog ≤ 6 && 1 ≤ nd && nd ≤ 4 && recN bs 11 1 < 3 && recN bs 12 4 == 0 && recN bs 56 8 == 0 &&
      base.toNat % e == 0 && dims && strides && nest && x 0 * x 1 * x 2 * x 3 * e ≤ 2 ^ 40 then
    some ⟨addr, base, elog, nd, recN bs 11 1, ext, str⟩
  else none

/-- The element size of a layout. -/
def LayoutRec.esize (l : LayoutRec) : Nat := 2 ^ l.elog

/-- The distance of copy byte j from BASE, in layout order (10 R259, R262). -/
def LayoutRec.offset (l : LayoutRec) (j : Nat) : Nat :=
  let e := l.esize
  let i := j / e
  let x (k : Nat) := listGet 1 l.ext k
  let t (k : Nat) := listGet 0 l.strides k
  i % x 0 * e + i / x 0 % x 1 * t 0 + i / (x 0 * x 1) % x 2 * t 1 + i / (x 0 * x 1 * x 2) * t 2 + j % e

/-- The copy byte that lies at a distance from BASE, if a byte of the layout does. -/
def LayoutRec.byteAt (l : LayoutRec) (d : Nat) : Option Nat :=
  let e := l.esize
  let x (k : Nat) := listGet 1 l.ext k
  let t (k : Nat) := listGet 0 l.strides k
  let split (d s : Nat) : Nat × Nat := if s == 0 then (0, d) else (d / s, d % s)
  let (i3, d) := split d (t 2)
  let (i2, d) := split d (t 1)
  let (i1, d) := split d (t 0)
  let i0 := d / e
  if i0 < x 0 && i1 < x 1 && i2 < x 2 && i3 < x 3 then
    some (((i3 * x 2 + i2) * x 1 + i1) * (x 0 * e) + i0 * e + d % e)
  else none

/-- The seal of a workgroup at a record address. -/
def Group.sealAt (x : Group) (addr : Word) : Option LayoutRec := x.seals.find? fun l => l.addr == addr

/-- The copies of a stoker thread that are outstanding. -/
def Agent.copies (a : Agent) : List (Nat × Copy) :=
  a.ops.filterMap fun o => match o.work with | .copy c => some (o.id, c) | _ => none

/-- The seals held on a core. -/
def State.coreSeals (s : State) (core : Nat) : Nat :=
  (s.groups.filter fun e => e.2.core == core && e.2.residence == .resident).foldl (fun n e => n + e.2.seals.length) 0

/-- SEAL and SEAL.u (R260). -/
def sealOp (len : Nat) (o : GK) (s : State) : Res :=
  checked ⟨len, 0x1C, 3, .k o⟩ s fun s =>
    let addr := s.sreg o.sc
    let g := (groupOf s.cur).getD 0
    let x := s.group g
    if addr.toNat % 64 != 0 then .next (s.trapAt .misalign addr)
    else if o.flags.getLsbD 0 then
      match x.sealAt addr with
      | none => .next (s.writeNext len o.sd 4)
      | some _ =>
        if (s.agent s.cur).copies.any fun c => (c.2.layout.map (·.addr)) == some addr then .next (s.writeNext len o.sd 5)
        else .next ((s.updGroup g fun x => { x with seals := x.seals.filter fun l => l.addr != addr }).writeNext len o.sd 0)
    else if (x.sealAt addr).isSome then .next (s.writeNext len o.sd 3)
    else
      recordLoad addr 64 s fun bs s =>
        match parseLayout bs addr with
        | none => .next (s.writeNext len o.sd 1)
        | some l =>
          if 8 ≤ x.seals.length || 32 ≤ s.coreSeals x.core then .next (s.writeNext len o.sd 2)
          else .next ((s.updGroup g fun x => { x with seals := x.seals ++ [l] }).writeNext len o.sd 0)

/-! Copies (10 R262-R266). -/

/-- The bytes of a row of a gathered copy (10 R263). -/
def Copy.rowBytes (c : Copy) : Nat := match c.layout with | some l => listGet 1 l.ext 0 * l.esize | none => 1

/-- The span of a side of a copy: the flat range, or a layout's extent. -/
def State.sideSpan (s : State) (a : AgentId) (l : Option LayoutRec) (base : Word) (n : Nat) : Option Span :=
  match l with
  | some l => (s.target a l.base).span l.extent
  | none => if n == 0 then none else (s.target a base).span n

/-- What a copy reads and writes outside its queue (10 R270). -/
def State.copySpans (s : State) (a : AgentId) (c : Copy) : List Span × List Span :=
  let src := if c.zero then [] else if c.gather then
      [s.sideSpan a none c.src (c.len / c.rowBytes * 4), s.sideSpan a c.layout 0 0]
    else [s.sideSpan a (if c.shapesDst then none else c.layout) c.src c.len]
  let dst := if c.queue.isSome then [] else [s.sideSpan a (if c.shapesDst then c.layout else none) c.dst c.len]
  (src.filterMap id, dst.filterMap id)

/-- The locks of a copy (10 R270). -/
def State.copyLocks (s : State) (a : AgentId) (op : Nat) (c : Copy) : List RangeLock :=
  let (rs, ws) := s.copySpans a c
  rs.map (fun x => lockOf op (s.vdOf a) (s.rootOf a) x false) ++ ws.map fun x => lockOf op (s.vdOf a) (s.rootOf a) x true

/-- Whether a side in a local window passes its limit (10 R265, R230): `n` bytes from an address. -/
def State.passesLimit (s : State) (a : AgentId) (base : Word) (n : Nat) : Bool :=
  n != 0 && match s.target a base with
    | .at_ l limit => decide (limit < l.off + n)
    | .none => base.getLsbD 63
    | .virt _ => false

/-- The cause that a copy's issue finds (10 R265; 14 R348), from its operands. `rows` counts the rows of a gathered copy; one that
names no layout takes LAYOUT_SEAL (log 35). -/
def State.copyCause (s : State) (a : AgentId) (fn : Nat) (q : Bool) (named : Word) (rows : Nat) (c : Copy) : Option Cause :=
  let g := (groupOf a).getD 0
  let side (l : Option LayoutRec) (base : Word) (n : Nat) : Bool :=
    match l with | some l => s.passesLimit a l.base l.extent | none => s.passesLimit a base n
  let srcLay := if c.shapesDst then none else c.layout
  let dstLay := if c.shapesDst then c.layout else none
  let badBarrier := c.barrier != 0 && match s.target a c.barrier with
    | .at_ l limit => l.space != .scratch g || c.barrier.getLsbD 60 || decide (limit < l.off + 16)
    | _ => true
  let badQueue := q && match s.feedQueue g (fieldN c.dst 3 0) with
    | some k => c.len % k.size != 0 || decide (k.depth < c.len / k.size)
    | none => true
  let srcBad := if c.zero then false else if c.gather then s.passesLimit a c.src (4 * rows) || side c.layout 0 0
    else side srcLay c.src c.len
  let dstBad := !q && side dstLay c.dst c.len
  let (_, ws) := s.copySpans a c
  let slab := ws.any fun x => (s.slabOf a x).isSome
  let sealBad := ((named != 0 || fn == 1) && c.layout.isNone) ||
    (match c.layout with
     | some l => (fn == 1 && l.ndim != 2) || c.len % l.esize != 0 || decide (l.total < c.len)
     | none => false) ||
    (fn == 2 && q && named != 0) ||
    ws.any fun x => (s.group g).seals.any fun l => l.mode == 1 &&
      match (s.target a l.base).span l.extent with | some y => x.meets y | none => false
  if (c.barrier.toNat % 8 != 0) || (c.gather && c.src.toNat % 4 != 0) then some .misalign
  else if 2 ^ 40 ≤ c.len || badBarrier || badQueue || srcBad || dstBad || slab then some .permission
  else if sealBad then some .layoutSeal
  else none

/-- A copy as its issue reads it (10 R257, R262-R264). -/
def State.copyOf (s : State) (fn : Nat) (o : GK) : Copy :=
  let q := o.flags.getLsbD 1
  let dl := o.flags.getLsbD 0
  let lay := if s.sreg o.sc == 0 then none else (s.group ((groupOf s.cur).getD 0)).sealAt (s.sreg o.sc)
  let rows := (s.sreg o.sd).toNat
  let rowBytes := match lay with | some l => listGet 1 l.ext 0 * l.esize | none => 1
  { zero := fn == 2, gather := fn == 1, layout := lay, shapesDst := fn == 2 || dl
    src := s.sreg o.sa, dst := s.sreg o.sb, len := if fn == 1 then rows * rowBytes else rows
    tag := o.tag, barrier := s.sreg o.se, queue := if q then some (fieldN (s.sreg o.sb) 3 0) else none
    entry := 0, sectors := [], credited := 0, sending := [], parked := [], failed := none, started := false
    snapshot := none }

/-- Starts a copy when nothing it must wait for remains (10 R264, R265). -/
def State.startCopy (s : State) (g op : Nat) : State :=
  let a := AgentId.stoker g
  match s.op? a op with
  | some ⟨_, _, .copy c⟩ =>
    if c.started || (s.group g).residence != .resident || s.conflicts a op then s
    else
      match c.queue with
      | none => s.setWork a op (.copy { c with started := true })
      | some k =>
        match s.feedQueue g k with
        | none => s
        | some q =>
          let m := c.len / q.size
          if q.room < m then s
          else (s.updFeed g k fun q => { q with pres := q.pres + BitVec.ofNat 16 m }).setWork a op
            (.copy { c with started := true, entry := q.pres.toNat })
  | _ => s

/-- CPY, CPYG and CPYZ (R262-R265). -/
def copyOp (len fn : Nat) (o : GK) (s : State) : Res :=
  checked ⟨len, 0x1C, fn, .k o⟩ s fun s =>
    let a := s.cur
    let g := (groupOf a).getD 0
    let c := s.copyOf fn o
    match s.copyCause a fn (o.flags.getLsbD 1) (s.sreg o.sc) (s.sreg o.sd).toNat c with
    | some cause => .next (s.trap cause)
    | none =>
      if s.classFull a .copies || !s.lockRoom a (s.copyLocks a 0 c) then .next s
      else if !s.released a then .next (s.drainFor a)
      else
        let (id, s) := s.addOp a .copies (.copy c)
        let s := s.register a (s.copyLocks a id c)
        let n := o.tag.toNat
        let s := s.updGroup g fun x => { x with
          tagBits := setBit x.tagBits n false
          tagCounts := Table.set 0 n (Table.get 0 x.tagCounts n + 1) x.tagCounts }
        .next ((s.startCopy g id).advance len)

/-- The copy bytes of sector n (10 R266): the part of the destination in the n-th 32-byte block from the first, or in the
n-th block of the entries under Q. -/
def Copy.sectorBytes (c : Copy) (q : Option FeedQueue) (n : Nat) : List Nat :=
  match q with
  | some q =>
    let b := min 32 q.size
    (List.range (min c.len ((n + 1) * b) - n * b)).map (· + n * b)
  | none =>
    if c.shapesDst && c.layout.isSome then
      match c.layout with
      | some l =>
        let base := l.base.toNat
        (List.range 32).filterMap fun i =>
          let x := (base / 32 + n) * 32 + i
          if x < base then none else
            match l.byteAt (x - base) with
            | some j => if j < c.len then some j else none
            | none => none
      | none => []
    else
      let d := c.dst.toNat
      let lo := max d ((d / 32 + n) * 32)
      let hi := min (d + c.len) ((d / 32 + n + 1) * 32)
      (List.range (hi - lo)).map (· + (lo - d))

/-- Where byte j of a copy goes: an address, or a place of a queue slot. -/
def Copy.dstAddr (c : Copy) (j : Nat) : Word :=
  match c.layout, c.shapesDst with
  | some l, true => l.base + BitVec.ofNat 64 (l.offset j)
  | _, _ => c.dst + BitVec.ofNat 64 j

/-- Where the bytes of a part come from. -/
inductive SourceMap where
  | ok (xs : List Word)
  | waits
  | cause (off : Nat) (c : Cause)
  | absent (f : AbsentAt)
  deriving DecidableEq, Repr

/-- The rows that some bytes of a gathered copy belong to. -/
def Copy.rowsOf (c : Copy) (js : List Nat) : List Nat := (js.map (· / c.rowBytes)).eraseDups

/-- The source addresses of some bytes of a copy; a gathered copy reads the indices of their rows (10 R262, R263). Index
bytes from remote homes are kept at positions from 4096 on. -/
def State.copySource (s : State) (g op part : Nat) (c : Copy) (js : List Nat) : SourceMap × State :=
  let a := AgentId.stoker g
  if c.gather then
    let rows := c.rowsOf js
    match s.placeBytes a Need.read (rows.flatMap fun r => (List.range 4).map fun i => c.src + BitVec.ofNat 64 (4 * r + i)) with
    | (.cause k, s) => (.cause (js.headD 0) k, s)
    | (.absent f, s) => (.absent f, s)
    | (.ok ls, s) =>
      match s.fabricCheck (s.vdOf a) (.ok ls) with
      | .cause k => (.cause (js.headD 0) k, s)
      | _ =>
        match s.engineRead (s.vdOf a) (.agent a op) part 4096 ls with
        | (none, s) => (.waits, s)
        | (some bs, s) =>
          let index (i : Nat) : Nat := leN ((((bs.map (·.1)).drop (4 * i)).take 4))
          match c.layout with
          | none => (.cause 0 .permission, s)
          | some l =>
            match (List.range rows.length).find? fun i => listGet 1 l.ext 1 ≤ index i with
            | some i => (.cause (listGet 0 rows i * c.rowBytes) .permission, s)
            | none => (.ok (js.map fun j =>
                let r := index (rows.idxOf (j / c.rowBytes))
                l.base + BitVec.ofNat 64 (r * listGet 0 l.strides 0 + j % c.rowBytes)), s)
  else
    match c.layout, c.shapesDst with
    | some l, false => (.ok (js.map fun j => l.base + BitVec.ofNat 64 (l.offset j)), s)
    | _, _ => (.ok (js.map fun j => c.src + BitVec.ofNat 64 j), s)

/-- A part fails: the copy ends in error, and what it has parked is withdrawn (10 R266, 12 R313). -/
def State.failCopy (s : State) (g op : Nat) (c : Copy) (off : Nat) (k : Cause) : State :=
  let a := AgentId.stoker g
  (s.withdraw (s.vdOf a) (.agent a op)).setWork a op (.copy { c with parked := [], failed := some (c.failed.getD (off, k)) })

/-- A sector of a copy is parked, or fails when no one will answer (10 R266). -/
def State.parkCopy (s : State) (g op n : Nat) (c : Copy) (off : Nat) (write : Bool) (f : AbsentAt) : State :=
  let a := AgentId.stoker g
  let vd := s.vdOf a
  match s.parkEngine vd f (s.engineBy g 2 c.tag.toNat write (c.credited % 2 ^ 40)) (.agent a op) n with
  | some s => s.setWork a op (.copy { c with parked := c.parked ++ [⟨n, f.page / 4096, f.phys⟩] })
  | none => (s.abortNow vd).failCopy g op c off .permission

/-- Credits a sector that has reached its ordering point (10 R266; 13 R333). -/
def State.creditSector (s : State) (g op n : Nat) (c : Copy) (js : List Nat) : State :=
  let a := AgentId.stoker g
  let c := { c with sending := c.sending.filter (· != n) }
  let done : Copy := { c with sectors := n :: c.sectors, credited := c.credited + js.length }
  let s := s.forget (.agent a op) n
  if c.barrier == 0 then s.setWork a op (.copy done)
  else
    match s.arrive ⟨.scratch g, fieldN c.barrier 56 0⟩ js.length with
    | some s => s.setWork a op (.copy done)
    | none => s.failCopy g op c (js.headD 0) .permission

/-- How many sectors a copy has (10 R266). -/
def Copy.sectorCount (c : Copy) (q : Option FeedQueue) : Nat :=
  match q, (if c.shapesDst then c.layout else none) with
  | some q, _ => (c.len + min 32 q.size - 1) / min 32 q.size
  | none, some l => (l.base.toNat % 32 + l.extent + 31) / 32
  | none, none => (c.dst.toNat % 32 + c.len + 31) / 32

/-- The places that some bytes of a copy come from; CPYZ reads none. -/
inductive SourcePlaces where
  | ok (ls : List Loc)
  | waits
  | cause (off : Nat) (c : Cause)
  | absent (f : AbsentAt)
  deriving DecidableEq, Repr

/-- Finds the source places of a part of a copy. -/
def State.sourcePlaces (s : State) (g op part : Nat) (c : Copy) (js : List Nat) : SourcePlaces × State :=
  let a := AgentId.stoker g
  if c.zero then (.ok [], s)
  else
    match s.copySource g op part c js with
    | (.cause off k, s) => (.cause off k, s)
    | (.absent f, s) => (.absent f, s)
    | (.waits, s) => (.waits, s)
    | (.ok xs, s) =>
      let (p, s) := s.placeBytes a Need.read xs
      match s.fabricCheck (s.vdOf a) p with
      | .cause k => (.cause (js.headD 0) k, s)
      | .absent f => (.absent f, s)
      | .ok ls => (.ok ls, s)

/-- The bytes of a part of a copy from its source places, once they are there. -/
def State.sourceBytes (s : State) (g op part : Nat) (c : Copy) (js : List Nat) (ls : List Loc) :
    Option (List (Byte × Option Prov)) × State :=
  let a := AgentId.stoker g
  if c.zero then (some (js.map fun _ => (0, none)), s)
  else
    match s.engineRead (s.vdOf a) (.agent a op) part 0 ls with
    | (none, s) => (none, s)
    | (some bs, s) => (some bs, s.meterPlaces (s.vdOf a) ls)

/-- The slots that a copy under Q has reserved, as spans (10 R264). -/
def State.queueSpans (s : State) (g : Nat) (c : Copy) : List Span :=
  match c.queue.bind fun k => s.feedQueue g k with
  | some q => (List.range (c.len / q.size)).map fun i => ⟨false, .scratch g, q.slot (c.entry + i), q.size⟩
  | none => []

/-- Whether the source and destination of a copy overlap (10 R262). -/
def State.copyOverlaps (s : State) (g : Nat) (c : Copy) : Bool :=
  let (rs, ws) := s.copySpans (.stoker g) c
  rs.any fun x => (ws ++ s.queueSpans g c).any fun y => x.meets y

/-- What a sector meets when its source is to be read: its bytes; a wait; or a cause or an absent page, with the sector it was found
in. -/
inductive SectorData where
  | bytes (bs : List (Byte × Option Prov))
  | waits
  | cause (off : Nat) (c : Cause)
  | absent (n off : Nat) (f : AbsentAt)
  deriving DecidableEq, Repr

/-- The data of sector n of a copy. -/
def State.readSector (s : State) (g op n : Nat) (c : Copy) (js : List Nat) : SectorData × State :=
  if c.parked.any fun p => p.part == n then (.waits, s)
  else
    match s.sourcePlaces g op n c js with
    | (.cause off k, s) => (.cause off k, s)
    | (.absent f, s) => (.absent n (js.headD 0) f, s)
    | (.waits, s) => (.waits, s)
    | (.ok ls, s1) =>
      if s1.damps (s.vdOf (.stoker g)) ls then (.waits, s)
      else
        match s1.sourceBytes g op n c js ls with
        | (none, s) => (.waits, s)
        | (some bs, s) => (.bytes bs, s)

/-- The data of sectors `n` and on of an overlapping copy, sector by sector, with their copy bytes. -/
def State.readSectors (s : State) (g op : Nat) (c : Copy) (q : Option FeedQueue) : List Nat →
    List (Nat × Byte × Option Prov) → (SectorData × List (Nat × Byte × Option Prov)) × State
  | [], got => ((.bytes [], got), s)
  | n :: ns, got =>
    let js := c.sectorBytes q n
    match s.readSector g op n c js with
    | (.bytes bs, s) => s.readSectors g op c q ns (got ++ js.zip bs)
    | (d, s) => ((d, got), s)

/-- The data of a sector: an overlapping copy first reads its whole source (10 R262). -/
def State.sectorData (s : State) (g op n : Nat) (c : Copy) (js : List Nat) : SectorData × Copy × State :=
  match c.snapshot with
  | some all => (.bytes (js.map fun j => listGet (0, none) all j), c, s)
  | none =>
    if s.copyOverlaps g c then
      let q := c.queue.bind fun k => s.feedQueue g k
      match s.readSectors g op c q (List.range (c.sectorCount q)) [] with
      | ((.bytes _, got), s) =>
        let all := (List.range c.len).map fun j => Table.get (0, none) got j
        (.bytes (js.map fun j => listGet (0, none) all j), { c with snapshot := some all }, s)
      | ((d, _), s) => (d, c, s)
    else
      let (d, s) := s.readSector g op n c js
      (d, c, s)

/-- Moves sector n of a copy, or says why it cannot be moved now (10 R266; 03 R89). -/
def State.moveSector (s0 : State) (g op n : Nat) : State :=
  let a := AgentId.stoker g
  match s0.op? a op with
  | some ⟨_, _, .copy c⟩ =>
    let q := c.queue.bind fun k => s0.feedQueue g k
    let js := c.sectorBytes q n
    let vd := s0.vdOf a
    if c.sending.contains n then
      if s0.engineSending (.agent a op) n then s0 else s0.creditSector g op n c js
    else if !c.started || c.failed.isSome || js.isEmpty || c.sectors.contains n || (c.parked.any fun p => p.part == n) ||
        (s0.group g).residence != .resident then s0
    else
      let off := js.headD 0
      match s0.sectorData g op n c js with
      | (.waits, _, s) => s
      | (.cause off k, c, s) => s.failCopy g op c off k
      | (.absent n off f, c, s) => s.parkCopy g op n c off false f
      | (.bytes bs, c, s) =>
        let (dst, s) := match q with
          | some q => (Placed.ok (js.map fun j => ⟨.scratch g, q.slot (c.entry + j / q.size) + j % q.size⟩), s)
          | none => s.placeBytes a Need.write (js.map c.dstAddr)
        match s.fabricCheck vd dst with
        | .cause k => s.failCopy g op c off k
        | .absent f => s.parkCopy g op n c off true f
        | .ok ls =>
          if s0.damps vd ls then s0
          else
            let (sent, s) := (s.meterPlaces vd ls).engineWrite a vd (.agent a op) n ls bs
            if sent then s.setWork a op (.copy { c with sending := n :: c.sending }) else s.creditSector g op n c js
  | _ => s0

/-- Ends a copy whose bytes are all credited, or that has failed with nothing under way (10 R264, R266): its entries are
filled, its locks removed, then its tag and count complete. -/
def State.endCopy (s : State) (g op : Nat) : State :=
  let a := AgentId.stoker g
  match s.op? a op with
  | some ⟨_, _, .copy c⟩ =>
    if !c.sending.isEmpty || (c.failed.isNone && (!c.started || c.credited != c.len)) then s
    else
      let s := match c.queue with
        | some k =>
          let m := match s.feedQueue g k with | some q => c.len / q.size | none => 0
          if c.started then s.updFeed g k fun q => (List.range m).foldl (fun q i => q.fill (c.entry + i)) q else s
        | none => s
      let s : State := { s.unlock op with engineData := s.engineData.filter fun e => e.who != .agent a op }
      let n := c.tag.toNat
      let s := s.updGroup g fun x =>
        let left := Table.get 0 x.tagCounts n - 1
        { x with tagCounts := Table.set 0 n left x.tagCounts, tagBits := if left == 0 then setBit x.tagBits n true else x.tagBits }
      let s := s.setWork a op .finished
      match c.failed with
      | some (off, _) => s.asyncTrap g (engineS92 n 0 off)
      | none => s
  | _ => s

/-! Tag waits (10 R267). -/

/-- Whether the condition of a tag wait holds. -/
def tagsMet (all : Bool) (tags m : Word) : Bool := m == 0 || if all then tags &&& m == m else tags &&& m != 0

/-- TWANY and TWALL (R267). -/
def tagWaitOp (len fn : Nat) (o : GK) (s : State) : Res :=
  checked ⟨len, 0x1C, fn, .k o⟩ s fun s =>
    let tags := (s.group ((groupOf s.cur).getD 0)).tagBits
    let m := s.sreg o.sa
    let all := fn == 7
    if tagsMet all tags m then .next ((s.acquire s.cur).writeNext len o.sd (if all then 0 else tags &&& m))
    else .next (s.waitFor len (.tags m o.sd all))

/-- TFIRST (R267). -/
def tfirstOp (len : Nat) (o : GK) (s : State) : Res :=
  checked ⟨len, 0x1C, 8, .k o⟩ s fun s =>
    let tags := (s.group ((groupOf s.cur).getD 0)).tagBits
    .next (s.writeNext len o.sd (BitVec.ofNat 64 (lowestBit (tags &&& s.sreg o.sa))))

/-- TCLR (R267). -/
def tclrOp (len : Nat) (o : GK) (s : State) : Res :=
  checked ⟨len, 0x1C, 9, .k o⟩ s fun s =>
    let m := s.sreg o.sa
    .next ((s.updGroup ((groupOf s.cur).getD 0) fun x => { x with tagBits := x.tagBits &&& ~~~m }).advance len)

/-! Streams (10 R268, R269). -/

/-- A stream slot of a stoker thread. -/
def Stoker.slot (k : Stoker) (n : Nat) : Option StreamRec := Table.look k.slots n

/-- The running streams of an agent. -/
def Agent.streams (a : Agent) : List (Nat × Stream) :=
  a.ops.filterMap fun o => match o.work with | .stream x => some (o.id, x) | _ => none

/-- Reads a stream record, if it keeps 10 R268. -/
def parseStream (bs : List Byte) : Option StreamRec :=
  let w (lo n : Nat) := recN bs lo n
  let f22 := w 22 1
  let f23 := w 23 1
  let index := f22 / 128 == 1
  let use := f23 / 128 == 1
  let esize := w 20 2
  let bound := w 16 4
  let ib := w 24 4
  if f22 / 16 % 8 == 0 && f23 / 8 % 16 == 0 && w 28 4 == 0 && esize / 2 ^ 14 == 0 && 1 ≤ bound &&
      esize % 4 == 0 && 4 ≤ esize && esize ≤ 8192 && (!index || esize == 4) && !(index && use) &&
      (if use then 1 ≤ ib else ib == 0) then
    some ⟨BitVec.ofNat 64 (w 0 8), BitVec.ofNat 64 (w 8 8), bound, esize, f22 % 16, index, f23 % 8, use, ib⟩
  else none

/-- STRDEF (R268). -/
def strdefOp (len : Nat) (o : GK) (s : State) : Res :=
  checked ⟨len, 0x1C, 4, .k o⟩ s fun s =>
    let addr := s.sreg o.sa
    let g := (groupOf s.cur).getD 0
    let slot := o.tag.toNat
    if addr.toNat % 32 != 0 then .next (s.trapAt .misalign addr)
    else
      recordLoad addr 32 s fun bs s =>
        match parseStream bs with
        | none => .next (s.writeNext len o.sd 1)
        | some r =>
          if (s.agent s.cur).streams.any fun x => x.2.slot == slot || (x.2.record.use && x.2.record.islot == slot) then
            .next (s.writeNext len o.sd 2)
          else .next ((s.setStoker g { s.stoker g with slots := Table.put slot r (s.stoker g).slots }).writeNext len o.sd 0)

/-- The span from the lowest to the highest byte of `n` elements (10 R270). -/
def State.reach (s : State) (a : AgentId) (r : StreamRec) (n : Nat) : Option Span :=
  let d : Int := (n - 1 : Nat) * r.stride.toInt
  let base := if d < 0 then r.base + BitVec.ofInt 64 d else r.base
  (s.target a base).span (d.natAbs + r.esize)

/-- The locks of a stream (10 R270). -/
def State.streamLocks (s : State) (a : AgentId) (op : Nat) (x : Stream) : List RangeLock :=
  let main := s.reach a x.record (if x.record.use then x.record.ibound else x.record.bound)
  let index := match x.source with | some r => s.reach a r r.bound | none => none
  ([main, index].filterMap id).map fun y => lockOf op (s.vdOf a) (s.rootOf a) y false

/-- STRRUN (R269). -/
def strrunOp (len : Nat) (o : GK) (s : State) : Res :=
  checked ⟨len, 0x1C, 5, .k o⟩ s fun s =>
    let a := s.cur
    let g := (groupOf a).getD 0
    let slot := o.tag.toNat
    let k := s.stoker g
    match k.slot slot with
    | none => .next (s.writeNext len o.sd 1)
    | some r =>
      let source := if r.use then k.slot r.islot else none
      if r.index then .next (s.writeNext len o.sd 1)
      else if k.agent.streams.any fun x => x.2.slot == slot then .next (s.writeNext len o.sd 2)
      else if (match s.feedQueue g r.qnum with | some q => q.size != r.esize | none => true) then .next (s.writeNext len o.sd 3)
      else if r.use && (match source with | some i => !i.index || decide (i.bound < r.bound) | none => true) then
        .next (s.writeNext len o.sd 4)
      else
        let x : Stream := ⟨slot, r, source, 0, []⟩
        if s.classFull a .copies || !s.lockRoom a (s.streamLocks a 0 x) then .next s
        else
          let (id, s) := s.addOp a .copies (.stream x)
          .next ((s.register a (s.streamLocks a id x)).writeNext len o.sd 0)

/-- Ends a stream (10 R269): its locks are released and its count completes; an error traps asynchronously. -/
def State.endStream (s : State) (g op : Nat) (x : Stream) (error : Bool) : State :=
  let a := AgentId.stoker g
  let s := ((s.withdraw (s.vdOf a) (.agent a op)).unlock op).setWork a op .finished
  if error then s.asyncTrap g (engineS92 0 x.slot (x.next * x.record.esize)) else s

/-- A stream's element is parked on a page, or the stream ends when no one will answer. -/
def State.parkStream (s : State) (g op : Nat) (x : Stream) (f : AbsentAt) : State :=
  let a := AgentId.stoker g
  let vd := s.vdOf a
  match s.parkEngine vd f (s.engineBy g 3 0 false (x.next * x.record.esize % 2 ^ 40)) (.agent a op) 0 with
  | some s => s.setWork a op (.stream { x with parked := [⟨x.next, f.page / 4096, f.phys⟩] })
  | none => (s.abortNow vd).endStream g op x true

/-- What reading a part of a stream comes to. -/
inductive PartData where
  | bytes (bs : List (Byte × Option Prov))
  | waits
  | cause (c : Cause)
  | absent (f : AbsentAt)
  deriving DecidableEq, Repr

/-- The bytes at consecutive addresses for element `part` of a stream, from position `first` on. -/
def State.streamRead (s : State) (g op part first : Nat) (base : Word) (n : Nat) : PartData × State :=
  let a := AgentId.stoker g
  match s.placeBytes a Need.read ((List.range n).map fun i => base + BitVec.ofNat 64 i) with
  | (.cause k, s) => (.cause k, s)
  | (.absent f, s) => (.absent f, s)
  | (.ok ls, s1) =>
    match s1.fabricCheck (s1.vdOf a) (.ok ls) with
    | .cause k => (.cause k, s1)
    | _ =>
      if s1.damps (s1.vdOf a) ls then (.waits, s)
      else
        match s1.engineRead (s1.vdOf a) (.agent a op) part first ls with
        | (none, s) => (.waits, s)
        | (some bs, s) => (.bytes bs, s.meterPlaces (s.vdOf a) ls)

/-- Reads and pushes the next element of a stream (10 R269). -/
def State.pushElement (s : State) (g op : Nat) (x : Stream) : State :=
  let a := AgentId.stoker g
  let r := x.record
  match s.feedQueue g r.qnum with
  | none => s
  | some q =>
    if q.room == 0 || !x.parked.isEmpty || s.conflicts a op || (s.group g).residence != .resident then s
    else
      let row : PartData × State := match x.source with
        | some i => s.streamRead g op x.next 65536 (i.base + BitVec.ofNat 64 x.next * i.stride) 4
        | none => (.bytes [], s)
      match row with
      | (.cause _, s) => s.endStream g op x true
      | (.absent f, s) => s.parkStream g op x f
      | (.waits, s) => s
      | (.bytes ib, s) =>
        let k := if r.use then leN (ib.map (·.1)) else x.next
        if r.use && r.ibound ≤ k then s.endStream g op x true
        else
          match s.streamRead g op x.next 0 (r.base + BitVec.ofNat 64 k * r.stride) r.esize with
          | (.cause _, s) => s.endStream g op x true
          | (.absent f, s) => s.parkStream g op x f
          | (.waits, s) => s
          | (.bytes bs, s) =>
            let i := q.pres.toNat
            let ws := (List.range r.esize).map fun j =>
              let b := listGet (0, none) bs j
              (⟨⟨.scratch g, q.slot i + j⟩, b.1, b.2⟩ : ByteWrite)
            let s := (s.performWrites ws).forget (.agent a op) x.next
            let s := s.updFeed g r.qnum fun q => ({ q with pres := q.pres + 1 } : FeedQueue).fill i
            let x := { x with next := x.next + 1 }
            if x.next == r.bound then s.endStream g op x false else s.setWork a op (.stream x)

/-- CPY (R262). -/
def execCpy (o : GK) (s : State) : Res := copyOp 8 0 o s

/-- CPYG (R263). -/
def execCpyg (o : GK) (s : State) : Res := copyOp 8 1 o s

/-- CPYZ (R262). -/
def execCpyz (o : GK) (s : State) : Res := copyOp 8 2 o s

/-- SEAL (R260). -/
def execSealRecord (o : GK) (s : State) : Res := sealOp 8 o s

/-- STRDEF (R268). -/
def execStrdef (o : GK) (s : State) : Res := strdefOp 8 o s

/-- STRRUN (R269). -/
def execStrrun (o : GK) (s : State) : Res := strrunOp 8 o s

/-- TWANY (R267). -/
def execTwany (o : GK) (s : State) : Res := tagWaitOp 8 6 o s

/-- TWALL (R267). -/
def execTwall (o : GK) (s : State) : Res := tagWaitOp 8 7 o s

/-- TFIRST (R267). -/
def execTfirst (o : GK) (s : State) : Res := tfirstOp 8 o s

/-- TCLR (R267). -/
def execTclr (o : GK) (s : State) : Res := tclrOp 8 o s

/-- TAG_WAIT_COMPLETE (R267). -/
def execTagWaitComplete (a : AgentId) (s : State) : Res :=
  match (s.agent a).wait with
  | some w =>
    match w.kind with
    | .tags m sd all =>
      let tags := (s.group ((groupOf a).getD 0)).tagBits
      if s.mayResume a && tagsMet all tags m then
        .next ((((s.as a).acquire a).setSreg sd (if all then 0 else tags &&& m)).resumeAt w)
      else .next s
    | _ => .next s
  | none => .next s

/-- COPY_DEFERRED_START (R265). -/
def execCopyDeferredStart (g op : Nat) (s : State) : Res := .next (s.startCopy g op)

/-- COPY_SECTOR_COMPLETE (R266). -/
def execCopySectorComplete (g op sector : Nat) (s : State) : Res := .next (s.moveSector g op sector)

/-- COPY_COMPLETE (R266). -/
def execCopyComplete (g op : Nat) (s : State) : Res := .next (s.endCopy g op)

/-- STREAM_PUSH (R269). -/
def execStreamPush (g slot : Nat) (s : State) : Res :=
  match (s.agent (.stoker g)).streams.find? fun x => x.2.slot == slot with
  | some (op, x) => .next (s.pushElement g op x)
  | none => .next s

end Sys2Proof.Machine
end

