-- ==== Sys2Proof/Machine/Grid.lean ====
section
/-! DEFINITION. GRID and the flue engine: grid records, partition states, rounds, exchanges and their events (14 R342-R354). -/

namespace Sys2Proof.Machine

/-! Grid records (14 R342). -/

/-- NBR fields: the peer, the die and the grid of a neighbour. -/
def nbrPeer (n : Nat) : Nat := n % 1024
def nbrDie (n : Nat) : Nat := n / 1024 % 2
def nbrGrid (n : Nat) : Nat := n / 65536 % 65536

/-- Reads a grid record of a VD, if it keeps 14 R342. -/
def State.parseGrid (s : State) (vd : Nat) (bs : List Byte) : Option GridRec :=
  let w (lo n : Nat) := recN bs lo n
  let nd := w 10 1
  let ext := (List.range 3).map fun k => w (16 + 4 * k) 4
  let ghost := (List.range 6).map fun f => w (28 + f) 1
  let rule := (List.range 6).map fun f => w (34 + f) 1
  let nbr := (List.range 6).map fun f => w (48 + 8 * f) 8
  let e := 2 ^ w 9 1
  let base : Word := BitVec.ofNat 64 (w 0 8)
  let r : GridRec := ⟨base, w 9 1, nd, w 11 1, w 12 1, ext, ghost, rule, BitVec.ofNat 64 (w 40 8), nbr, w 96 2, w 100 4, bs⟩
  let reserved := w 13 3 == 0 && w 98 2 == 0 && w 104 8 == 0 && w 112 8 == 0 && w 120 8 == 0
  let window := !base.getLsbD 63 && fieldN base 62 57 == 0 || fieldN base 63 57 == 88
  let dims := (List.range 3).all fun k => 1 ≤ listGet 0 ext k && (k < nd || listGet 0 ext k == 1)
  let faces := (List.range 6).all fun f =>
    let g := listGet 0 ghost f
    let u := listGet 0 rule f
    let n := listGet 0 nbr f
    let x := listGet 0 ext (f / 2)
    if f / 2 < nd then
      g ≤ 32 && u < 5 && r.depth * r.radius ≤ g && (!(u == 2 || u == 4) || g ≤ x) &&
      (if u < 2 then n / 2 ^ 32 == 0 && n / 2048 % 32 == 0 && (nbrPeer n == 0x3FF || (s.endpoint vd (nbrPeer n)).isSome)
       else n == 0)
    else g == 0 && u == 0 && n / 2 ^ 32 == 0 && n / 2048 % 32 == 0
  if w 8 1 == 1 && w 9 1 ≤ 3 && 1 ≤ nd && nd ≤ 3 && 1 ≤ w 11 1 && w 11 1 ≤ 8 && 1 ≤ w 12 1 && w 12 1 ≤ 8 &&
      base.toNat % 64 == 0 && window && reserved && dims && faces && w 40 8 / 256 ^ e == 0 && 1 ≤ w 96 2 &&
      1 ≤ w 100 4 && w 100 4 < 65536 && r.padded 0 * r.padded 1 * r.padded 2 * e ≤ 2 ^ 40 then some r
  else none

/-- The offset of a padded cell from BASE (14 R343). -/
def GridRec.cell (r : GridRec) (x y z : Nat) : Nat := 2 ^ r.elog * (x + r.padded 0 * (y + r.padded 1 * z))

/-- Offsets of the cells whose index in the dimension of face `f` is `i` and which lie inside the interior in the others. -/
def GridRec.layer (r : GridRec) (f i : Nat) : List Nat :=
  let range (k : Nat) : List Nat :=
    if f / 2 == k then [i]
    else (List.range (listGet 1 r.ext k)).map fun n => n + listGet 0 r.ghost (2 * k)
  (range 2).flatMap fun z => (range 1).flatMap fun y => (range 0).map fun x => r.cell x y z

/-- The index, in the dimension of face `f`, of the interior cells at distance m from it, and of the ghost cells (14 R343). -/
def GridRec.inner (r : GridRec) (f m : Nat) : Nat :=
  let g := listGet 0 r.ghost (f / 2 * 2)
  if f % 2 == 0 then g + m - 1 else g + listGet 1 r.ext (f / 2) - m
def GridRec.outer (r : GridRec) (f m : Nat) : Nat :=
  let g := listGet 0 r.ghost (f / 2 * 2)
  if f % 2 == 0 then g - m else g + listGet 1 r.ext (f / 2) + m - 1

/-- Addresses of the bytes of cells at some offsets. -/
def GridRec.bytesAt (r : GridRec) (offs : List Nat) : List Word :=
  offs.flatMap fun o => (List.range (2 ^ r.elog)).map fun i => r.base + BitVec.ofNat 64 (o + i)

/-- Source and destination addresses of one own face (14 R344): a reflected, a clamped or a constant slab. -/
def GridRec.ownFill (r : GridRec) (f : Nat) : List Word × List Word :=
  let ms := (List.range (listGet 0 r.ghost f)).map (· + 1)
  let dst := r.bytesAt (ms.flatMap fun m => r.layer f (r.outer f m))
  match listGet 0 r.rule f with
  | 2 => (r.bytesAt (ms.flatMap fun m => r.layer f (r.inner f m)), dst)
  | 4 => (r.bytesAt (ms.flatMap fun _ => r.layer f (r.inner f 1)), dst)
  | _ => ([], dst)

/-! Partition states (14 R345). -/

/-- An empty partition state. -/
def Partition.start (vd : Nat) (r : GridRec) (queue : Nat) (ktag : W32) : Partition :=
  ⟨vd, r, queue, ktag, 0, false, 0, List.replicate 6 none, 0, 0, [], [], [], []⟩

/-- The partition state of a VD and grid on a die: its key, die * 64 up. -/
def State.partOf (s : State) (die vd grid : Nat) : Option (Nat × Partition) :=
  s.parts.find? fun p => p.1 / 64 == die && p.2.vd == vd && p.2.record.gridId == grid

def State.updPart (s : State) (k : Nat) (f : Partition → Partition) : State :=
  { s with parts := s.parts.map fun p => if p.1 == k then (p.1, f p.2) else p }

/-- The attachment of a workgroup at a record address, with its partition state. -/
def State.attachAt (s : State) (g : Nat) (addr : Word) : Option (Attach × Nat × Partition) :=
  let x := s.group g
  match x.attached.find? fun t => t.addr == addr with
  | some t => (s.partOf t.die x.vd t.grid).map fun p => (t, p.1, p.2)
  | none => none

/-- The round being counted (14 R345). -/
def Partition.round (p : Partition) : Nat := if p.done0 then p.steps + 1 else 0

/-! Rounds and exchanges (14 R349, R350). -/

/-- Whether a neighbour is a partition of this accelerator and VD (14 R342 PEER). -/
def State.nbrLocal (s : State) (vd n : Nat) : Bool :=
  nbrPeer n == 0x3FF ||
  match s.endpoint vd (nbrPeer n) with
  | some e => s.isOwn e && epRvd e == vd
  | none => false

/-- The partition enters ERROR; the first cause is kept, and the fault pair is told (14 R354). -/
def State.partError (s : State) (k code : Nat) (vd : Nat) : State :=
  (s.updPart k fun p => { p with error := if p.error == 0 then code else p.error }).logEvent 0x14 vd

/-- Credits a barrier object for the flue engine (14 R349). -/
def State.flueCredit (s : State) (c : Credit) : State :=
  if (s.group c.g).residence == .ended then s
  else
    match s.arrive ⟨.scratch c.g, fieldN c.barrier 56 0⟩ 1 with
    | some s => s
    | none => s.asyncTrap c.g (BitVec.ofNat 64 (2 ^ 62))

/-- The spans that an exchange reads, face by face (14 R349). -/
def GridRec.sourceSpans (r : GridRec) : List (Nat × Nat) :=
  r.faces.filterMap fun f =>
    let u := listGet 0 r.rule f
    let w := if u == 4 then 1 else if u == 3 then 0 else min (listGet 0 r.ghost f) (listGet 1 r.ext (f / 2))
    if w == 0 then none
    else
      let lo (k : Nat) : Nat :=
        if f / 2 == k then min (r.inner f 1) (r.inner f w) else listGet 0 r.ghost (2 * k)
      let hi (k : Nat) : Nat :=
        if f / 2 == k then max (r.inner f 1) (r.inner f w) else listGet 0 r.ghost (2 * k) + listGet 1 r.ext k - 1
      let a := r.cell (lo 0) (lo 1) (lo 2)
      let b := r.cell (hi 0) (hi 1) (hi 2) + 2 ^ r.elog
      some (a, b - a)

/-- The read locks of an exchange of a partition on a die (14 R349). -/
def State.exchangeSpans (s : State) (p : Partition) (die id : Nat) : List RangeLock :=
  p.record.sourceSpans.map fun y => lockOf id p.vd (s.queue p.queue).root (p.span die y.1 y.2) false

/-- The cores that hold a workgroup attached to a partition on a die. -/
def State.attachedCores (s : State) (p : Partition) (die : Nat) : List Nat :=
  ((s.groups.filter fun e => e.2.vd == p.vd && e.2.residence == .resident &&
    e.2.attached.any fun t => t.die == die && t.grid == p.record.gridId).map (·.2.core)).eraseDups

/-- Whether the tables of some cores have room for one more exchange's locks (10 R270). -/
def State.exchangeRoom (s : State) (p : Partition) (die : Nat) (cores : List Nat) (n : Nat) : Bool :=
  let k := n * (s.exchangeSpans p die 0).length
  cores.all fun c => k == 0 || decide ((s.core c).locks.length + k ≤ 128)

/-- The locks of the partition's exchanges stand on exactly the cores that hold an attached workgroup (14 R349): they follow every
attachment, detachment, save and resumption. -/
def State.syncFlue (s : State) (k : Nat) : State :=
  match Table.look s.parts k with
  | none => s
  | some p => p.exchanges.foldl (fun s e =>
      let locks := s.exchangeSpans p (k / 64) e.2
      (s.attachedCores p (k / 64)).foldl (fun s c => s.updCore c fun x => { x with locks := x.locks ++ locks }) (s.unlock e.2)) s

/-- The same for every partition that a workgroup is attached to. -/
def State.syncFlues (s : State) (g : Nat) : State := (s.attachedParts g).foldl (fun s p => s.syncFlue p.1) s

/-! What flue engines of two accelerators tell each other (14 R350, R354; log 84). -/

/-- What a partition tells the neighbour on its face f. -/
def Partition.note (p : Partition) (f : Nat) (names ask : Bool) : FlueNote :=
  ⟨some p.steps, listGet 0 p.record.ghost f, p.record.ext, names, ask⟩

/-- Whether a partition's NBR on face f names the sender of a message from an accelerator (14 R354). -/
def State.namesSender (s : State) (p : Partition) (f acc : Nat) (dest : FlueDest) : Bool :=
  let n := listGet 0 p.record.nbr f
  f < 2 * p.record.ndim && listGet 0 p.record.rule f < 2 && nbrDie n == dest.sourceDie && nbrGrid n == dest.sourceGrid &&
  match s.endpoint p.vd (nbrPeer n) with
  | some e => epPacc e == acc && epRvd e == dest.sourceVd
  | none => false

/-- The partition that a message from a station and accelerator is for (15 R363). -/
def State.flueTarget (s : State) (station acc : Nat) (dest : FlueDest) : Option (Nat × Partition) :=
  if s.peerServed station dest.vd acc dest.sourceVd then s.partOf dest.die dest.vd dest.grid else none

/-- Where a message of the partition with key k about its face f goes. -/
def Partition.dest (p : Partition) (k f rvd : Nat) : FlueDest :=
  let n := listGet 0 p.record.nbr f
  ⟨p.vd, k / 64, p.record.gridId, rvd, nbrDie n, nbrGrid n, f ^^^ 1⟩

/-- Pushes that wait for a receiver without a state are discarded: it has been deleted (14 R350). -/
def Partition.deleted (p : Partition) (f : Nat) : Partition :=
  { p with pushes := p.pushes.filter fun x => x.own || x.face != f || x.wrote }

/-- A partition learns what its neighbour on face f tells (14 R350). -/
def State.learn (s : State) (k f : Nat) (c : FlueNote) : State :=
  s.updPart k fun p =>
    let gone := c.steps.isNone && ((Table.look p.known f).map fun x => x.steps.isSome).getD false
    let p := { p with known := Table.put f { c with ask := false } p.known }
    if gone then p.deleted f else p

/-- A push that has come from another accelerator joins the pushes of its receiver, which fills its own slab (14 R350); one for a
state that does not exist is discarded (R353). -/
def State.takePush (s : State) (station acc : Nat) (dest : FlueDest) (step : Nat) (cells : List (Byte × Option Prov)) : State :=
  match s.flueTarget station acc dest with
  | none => s
  | some (k, p) =>
    if !s.namesSender p dest.face acc dest then s
    else
      let (id, s) := s.fresh
      let (cells, s) := s.receivedBytes station cells
      s.updPart k fun p => { p with pushes := p.pushes ++ [⟨id, dest.face, step, true, true, some cells, false, []⟩] }

/-- Sends a note of the partition with key k to the accelerator of an endpoint entry, or hands it over within this one. -/
def State.sendNote (s : State) (e : Word) (dest : FlueDest) (c : FlueNote) : State :=
  if s.isOwn e then
    match s.flueTarget 16 (epPacc e) dest with
    | some (k, _) => s.learn k dest.face c
    | none => s
  else
    let n := s.stationFor 0 (epPacc e)
    if s.mayTransmit n (epPacc e) (epSealReq e) then s.transmit n (epPacc e) (.counter dest c) else s

/-- A note arrives (14 R350): the partition it is for learns it, and answers one that asks. -/
def State.takeNote (s : State) (station acc : Nat) (dest : FlueDest) (c : FlueNote) : State :=
  match s.flueTarget station acc dest with
  | none => s
  | some (k, p) =>
    let names := s.namesSender p dest.face acc dest
    let s := if names then s.learn k dest.face c else s
    if !c.ask then s
    else
      let back : FlueDest := ⟨dest.vd, dest.die, dest.grid, dest.sourceVd, dest.sourceDie, dest.sourceGrid, dest.face ^^^ 1⟩
      let n := s.stationFor 0 acc
      if station == 16 then
        match s.partOf dest.sourceDie dest.sourceVd dest.sourceGrid with
        | some (k', _) => s.learn k' back.face (p.note dest.face names false)
        | none => s
      else if s.mayTransmit n acc false then s.transmit n acc (.counter back (p.note dest.face names false)) else s

/-- Tells the neighbours on other accelerators, or of other VDs, what stands: C whenever it advances, and the creation and deletion of
the state (14 R350). -/
def State.tellNeighbours (s : State) (k : Nat) (p : Partition) (steps : Option Nat) (ask : Bool) : State :=
  p.record.faces.foldl (fun s f =>
    let n := listGet 0 p.record.nbr f
    if listGet 0 p.record.rule f < 2 && !s.nbrLocal p.vd n then
      match s.endpoint p.vd (nbrPeer n) with
      | some e =>
        let dest := p.dest k f (epRvd e)
        let c : FlueNote := { p.note f true ask with steps := steps }
        if s.isOwn e then s.takeNote 16 (epPacc e) dest c else s.sendNote e dest c
      | none => s
    else s) s

/-- Exchange(S) of the partition with key k (14 R350): its pushes and its locks. A push of a later step finds no receiver:
ERROR. -/
def State.exchange (s : State) (k step : Nat) : State :=
  match Table.look s.parts k with
  | none => s
  | some p =>
    let (lockId, s) := s.fresh
    let s := (s.updPart k fun p => { p with exchanges := p.exchanges ++ [(step, lockId)] }).syncFlue k
    p.record.faces.foldl (fun s f =>
      let own := decide (2 ≤ listGet 0 p.record.rule f)
      let n := listGet 0 p.record.nbr f
      let absent := if s.nbrLocal p.vd n then (s.partOf (nbrDie n) p.vd (nbrGrid n)).isNone
        else ((Table.look p.known f).bind (·.steps)).isNone
      if !own && 0 < step && absent then s.partError k 5 p.vd
      else
        let (id, s) := s.fresh
        s.updPart k fun p => { p with pushes := p.pushes ++ [⟨id, f, step, own, false, none, false, []⟩] }) s

/-- Whether an arrival would complete a round that makes an exchange for which the range-lock tables have no room: it waits at its
issue (10 R270, log 84). -/
def State.exchangeWaits (s : State) (k : Nat) (p : Partition) : Bool :=
  let steps := if p.done0 then p.steps + 1 else p.steps
  decide (p.record.arrive ≤ p.arrivals + 1) && p.error == 0 && steps % p.record.depth == 0 &&
  !s.exchangeRoom p (k / 64) (s.attachedCores p (k / 64)) 1

/-- Counts an arrival of an attachment in the round being counted, k (14 R349). -/
def State.arriveRound (s : State) (g : Nat) (addr barrier : Word) (r : Nat) : State :=
  match s.attachAt g addr with
  | none => s
  | some (_, k, p) =>
    let s := s.updGroup g fun x => { x with attached := x.attached.map fun y =>
      if y.addr == addr then { y with round := r + 1 } else y }
    let s := if barrier == 0 then s else s.updPart k fun p => { p with credits := p.credits ++ [⟨g, barrier, none⟩] }
    if p.arrivals + 1 < p.record.arrive then s.updPart k fun p => { p with arrivals := p.arrivals + 1 }
    else
      let steps := if p.done0 then p.steps + 1 else p.steps
      let s := s.updPart k fun p => { p with arrivals := 0, done0 := true, steps := steps }
      let s := if p.done0 then s.tellNeighbours k p (some steps) false else s
      let exchanges := p.error == 0 && steps % p.record.depth == 0
      if exchanges then
        (s.updPart k fun p => { p with credits := p.credits.map fun (c : Credit) =>
          if c.step.isNone then { c with step := some steps } else c }).exchange k steps
      else
        let due := match Table.look s.parts k with | some p => p.credits.filter fun (c : Credit) => c.step.isNone | none => []
        due.foldl State.flueCredit (s.updPart k fun p => { p with credits := p.credits.filter fun (c : Credit) => c.step.isSome })

/-- The barrier object of a GSTEP (14 R349): checked as BARRIVE does, own scratchpad only. -/
def State.creditAt (s : State) (barrier : Word) : Option (Cause × Option Prov) :=
  if barrier == 0 then none
  else
    match s.barrierAt s.cur barrier with
    | .error c => some (c, none)
    | .ok l =>
      if barrier.getLsbD 60 then some (.permission, none)
      else (s.poisonOf l 16).map fun p => (.poison, some p)

/-- GATTACH (R347). -/
def gattachOp (len : Nat) (o : GK) (s : State) : Res :=
  checked ⟨len, 0x1D, 0, .k o⟩ s fun s =>
    let addr := s.sreg o.sa
    let g := (groupOf s.cur).getD 0
    let x := s.group g
    let die := dieOf x.core
    if addr.toNat % 64 != 0 then .next (s.trapAt .misalign addr)
    else
      recordLoad addr 128 s fun bs s =>
        let attach (s : State) (k : Nat) (grid : Nat) : State :=
          ((s.updPart k fun p => { p with attached := p.attached + 1 }).updGroup g fun x =>
            { x with attached := x.attached ++ [⟨addr, die, grid, 0⟩] }).syncFlue k
        if x.attached.any fun t => t.addr == addr then .next (s.writeNext len o.sd 4)
        else
          match s.parseGrid x.vd bs with
          | none => .next (s.writeNext len o.sd 2)
          | some r =>
            if 4 ≤ x.attached.length then .next (s.writeNext len o.sd 3)
            else
              match s.partOf die x.vd r.gridId with
              | some (k, p) =>
                if p.record.raw != bs then .next (s.writeNext len o.sd 5)
                else if !(s.attachedCores p die).contains x.core && !s.exchangeRoom p die [x.core] p.exchanges.length then .next s
                else .next ((attach s k r.gridId).writeNext len o.sd 1)
              | none =>
                match (List.range 64).find? fun i => (Table.look s.parts (die * 64 + i)).isNone with
                | none => .next (s.writeNext len o.sd 3)
                | some i =>
                  let k := die * 64 + i
                  let p := Partition.start x.vd r (s.grid x.grid).queue (s.launchOf g).ktag
                  let s := attach { s with parts := Table.put k p s.parts } k r.gridId
                  .next ((s.tellNeighbours k p (some 0) true).writeNext len o.sd 0)

/-- GSTEP (R349). -/
def gstepOp (len : Nat) (o : GK) (s : State) : Res :=
  checked ⟨len, 0x1D, 1, .k o⟩ s fun s =>
    let g := (groupOf s.cur).getD 0
    let addr := s.sreg o.sa
    let barrier := s.sreg o.se
    match s.attachAt g addr with
    | none => .next (s.trap .permission)
    | some (t, k, p) =>
      match s.creditAt barrier with
      | some (c, q) => .next (s.trapWith c none q s.headMask 0 barrier none)
      | none =>
        let init := o.flags.getLsbD 0
        if init != (t.round == 0) || t.round < p.round || t.round == 2 ^ 32 then .next (s.trap .permission)
        else if p.round < t.round then .next (s.waitFor len (.round addr barrier t.round))
        else if !s.released s.cur then .next (s.drainFor s.cur)
        else if s.exchangeWaits k p then .next s
        else .next ((s.arriveRound g addr barrier t.round).advance len)

/-- GSTAT (R352). -/
def gstatOp (len : Nat) (o : GK) (s : State) : Res :=
  checked ⟨len, 0x1D, 2, .k o⟩ s fun s =>
    let g := (groupOf s.cur).getD 0
    match s.attachAt g (s.sreg o.sa) with
    | none => .next (s.trap .permission)
    | some (_, _, p) =>
      let v := match o.tag.toNat with
        | 0 => p.steps + (if p.done0 then 2 ^ 32 else 0) + 2 ^ 40 * p.error + 2 ^ 48 * p.arrivals
        | k => match listGet none p.tags (k - 1) with | some t => t % 2 ^ 32 + 2 ^ 32 | none => 0
      .next (s.writeNext len o.sd (BitVec.ofNat 64 v))

/-- Removes an attachment of a workgroup, and the locks that its core held for it alone (14 R349, R353). -/
def State.detach (s : State) (g : Nat) (t : Attach) : State :=
  let found := s.partOf t.die (s.group g).vd t.grid
  let s := match found with
    | some (k, _) => s.updPart k fun p => { p with attached := p.attached - 1 }
    | none => s
  let s := s.updGroup g fun x => { x with attached := x.attached.filter fun y => y.addr != t.addr }
  match found with
  | some (k, _) => s.syncFlue k
  | none => s

/-- GDETACH (R353). -/
def gdetachOp (len : Nat) (o : GK) (s : State) : Res :=
  checked ⟨len, 0x1D, 3, .k o⟩ s fun s =>
    let g := (groupOf s.cur).getD 0
    match s.attachAt g (s.sreg o.sa) with
    | none => .next (s.trap .permission)
    | some (t, _, _) => .next ((s.detach g t).advance len)

/-! Pushes (14 R350). -/

/-- What placing the bytes of a push comes to; `refused` is a crossing that the firewall closes (03 R82). -/
inductive FluePlaced where
  | ok (ls : List Loc)
  | refused
  | cause
  | absent (f : AbsentAt)
  deriving DecidableEq, Repr

/-- One byte's place for the flue engine of a die, in the space of a partition; a byte of the page that the last one was found in is
translated with it. -/
def State.flueByte (s : State) (p : Partition) (die : Nat) (need : Need) (last : Option (Nat × Loc)) (x : Word) : FluePlaced × State :=
  let place (l : Loc) (s : State) : FluePlaced × State :=
    if l.space == .hbm && s.pf.partMode && hbmDie l.off != die then (.refused, s) else (.ok [l], s)
  if x.getLsbD 63 then
    if fieldN x 63 57 == 88 && fieldN x 56 0 < (s.vd p.vd).dieScratch then (.ok [⟨.die p.vd die, fieldN x 56 0⟩], s)
    else (.cause, s)
  else if fieldN x 62 57 != 0 then (.cause, s)
  else
    match last with
    | some (v, l) =>
      if v / 4096 == x.toNat / 4096 then place { l with off := l.off - v % 4096 + x.toNat % 4096 } s
      else
        match s.translate (.die die) p.vd (s.queue p.queue).root x.toNat need with
        | (.ok l, s) => place l s
        | (.error (.permission _), s) => (.cause, s)
        | (.error (.absent st2 vdpa tbl), s) => (.absent ⟨4096 * (x.toNat / 4096), false, st2, vdpa, tbl, false⟩, s)
        | (.error (.cbw pa), s) => (.absent ⟨4096 * (pa / 4096), true, false, 0, false, true⟩, s)
    | none =>
      match s.translate (.die die) p.vd (s.queue p.queue).root x.toNat need with
      | (.ok l, s) => place l s
      | (.error (.permission _), s) => (.cause, s)
      | (.error (.absent st2 vdpa tbl), s) => (.absent ⟨4096 * (x.toNat / 4096), false, st2, vdpa, tbl, false⟩, s)
      | (.error (.cbw pa), s) => (.absent ⟨4096 * (pa / 4096), true, false, 0, false, true⟩, s)

/-- Places bytes for the flue engine of a die: a refusal or a cause goes before an absent page. -/
def State.fluePlace (s : State) (p : Partition) (die : Nat) (need : Need) (xs : List Word) : FluePlaced × State :=
  let (found, _, s) := xs.foldl (fun (acc : List FluePlaced × Option (Nat × Loc) × State) x =>
    let (f, s) := acc.2.2.flueByte p die need acc.2.1 x
    (f :: acc.1, (match f with | .ok (l :: _) => some (x.toNat, l) | _ => none), s)) ([], none, s)
  let found := found.reverse
  if found.contains .refused then (.refused, s)
  else if found.contains .cause then (.cause, s)
  else
    match found.findSome? fun f => match f with | .absent e => some e | _ => none with
    | some e => (.absent e, s)
    | none =>
      match s.fabricCheck p.vd (.ok (found.flatMap fun f => match f with | .ok ls => ls | _ => [])) with
      | .ok ls => (.ok ls, s)
      | _ => (.cause, s)

/-- Replaces a push of a partition; none removes it. -/
def State.setPush (s : State) (k id : Nat) (v : Option Push) : State :=
  s.updPart k fun p => { p with pushes := p.pushes.filterMap fun x => if x.id == id then v else some x }

/-- A push ends with its partition in ERROR (14 R354); a crossing that the firewall refuses is recorded (03 R82). -/
def State.failPush (s : State) (k id code vd : Nat) : State :=
  ((if code == 1 then s.logCrossingAt (k / 64) vd else s).partError k code vd).setPush k id none

/-- A push is parked on a page, or its partition enters ERROR (14 R350, R354). -/
def State.parkPush (s : State) (k : Nat) (p : Partition) (x : Push) (write : Bool) (f : AbsentAt) : State :=
  let owner := ParkOwner.flue (k / 64) k x.id
  let by_ : FaultBy := ⟨5, p.ktag, (s.queue p.queue).local_.toNat, 0, false, write, 0⟩
  match s.parkEngine p.vd f by_ owner 0 with
  | some s => s.setPush k x.id (some { x with parked := [⟨0, f.page / 4096, f.phys⟩] })
  | none => (s.abortNow p.vd).failPush k x.id 4 p.vd

/-- Where a push takes its cells and puts them: its source addresses, and the receiver with its destination addresses; the endpoint
entry of a receiver on another accelerator or of another VD; a code of 14 R354, or a wait. -/
inductive PushPlan where
  | go (src : List Word) (recv : Nat) (dst : List Word)
  | remote (src : List Word) (e : Word)
  | error (code : Nat)
  | waits
  deriving DecidableEq, Repr

/-- The addresses of the slab of face f. -/
def GridRec.slabBytes (r : GridRec) (f : Nat) : List Word :=
  r.bytesAt ((List.range (listGet 0 r.ghost f)).flatMap fun i => r.layer f (r.outer f (i + 1)))

/-- Whether extents agree in every other dimension and the sender's is as wide as the receiver's slab (14 R354). -/
def extentsFit (f : Nat) (mine theirs : List Nat) (w : Nat) : Bool :=
  (List.range 3).all (fun d => d == f / 2 || listGet 1 mine d == listGet 1 theirs d) && decide (w ≤ listGet 1 mine (f / 2))

/-- The plan of a push (14 R344, R350, R354). -/
def State.pushPlan (s : State) (k : Nat) (p : Partition) (x : Push) : PushPlan :=
  let r := p.record
  if x.incoming then .go [] k (r.slabBytes x.face)
  else if x.own then
    let (src, dst) := r.ownFill x.face
    .go src k dst
  else
    let n := listGet 0 r.nbr x.face
    let cells (w : Nat) : List Word := r.bytesAt ((List.range w).flatMap fun i => r.layer x.face (r.inner x.face (i + 1)))
    if !s.nbrLocal p.vd n then
      match s.endpoint p.vd (nbrPeer n), Table.look p.known x.face with
      | none, _ => .error 4
      | some _, none => .waits
      | some e, some c =>
        match c.steps with
        | none => .waits
        | some t =>
          if t < x.step then .waits
          else if !c.names then .error 2
          else if !extentsFit x.face r.ext c.ext c.width then .error 3
          else .remote (cells c.width) e
    else
      match s.partOf (nbrDie n) p.vd (nbrGrid n) with
      | none => .waits
      | some (kr, pr) =>
        let back := x.face ^^^ 1
        let m := listGet 0 pr.record.nbr back
        let w := listGet 0 pr.record.ghost back
        if pr.steps < x.step then .waits
        else if s.pf.partMode && k / 64 != kr / 64 then .error 1
        else if !(listGet 0 pr.record.rule back < 2 && back / 2 < pr.record.ndim && s.nbrLocal p.vd m &&
            nbrDie m == k / 64 && nbrGrid m == r.gridId) then .error 2
        else if !extentsFit x.face r.ext pr.record.ext w then .error 3
        else .go (cells w) kr (pr.record.slabBytes back)

/-- Reads the cells of a push, once (14 R350 Pages; 03 R89). -/
def State.pushRead (s : State) (k : Nat) (p : Partition) (x : Push) (src : List Word) (n : Nat) : Option Push × State :=
  match x.cells with
  | some _ => (some x, s)
  | none =>
    if x.own && listGet 0 p.record.rule x.face == 3 then
      let e := 2 ^ p.record.elog
      let v := leB e p.record.const.toNat
      let x' : Push := { x with cells := some ((List.range n).map fun i => (listGet 0 v (i % e), none)) }
      (some x', s.setPush k x.id (some x'))
    else
      match s.fluePlace p (k / 64) Need.read src with
      | (.refused, s) => (none, s.failPush k x.id 1 p.vd)
      | (.cause, s) => (none, s.failPush k x.id 4 p.vd)
      | (.absent f, s) => (none, s.parkPush k p x false f)
      | (.ok ls, s1) =>
        if s1.damps p.vd ls then (none, s)
        else
          match s1.engineRead p.vd (.flue (k / 64) k x.id) 0 0 ls with
          | (none, s) => (none, s)
          | (some bs, s) =>
            let x' : Push := { x with cells := some bs }
            (some x', (s.meterPlaces p.vd ls).setPush k x.id (some x'))

/-- Sends a push to another accelerator, or hands it over within this one; its bytes are link bytes (14 R350). It waits while the
channel or the damper holds it. -/
def State.sendPush (s : State) (k : Nat) (p : Partition) (x : Push) (e : Word) : State :=
  let dest := p.dest k x.face (epRvd e)
  let cells := x.cells.getD []
  let n := s.stationFor 0 (epPacc e)
  if s.isOwn e then (s.takePush 16 (epPacc e) dest x.step cells).setPush k x.id none
  else if (s.vd p.vd).linkHeld || !s.mayTransmit n (epPacc e) (epSealReq e) then s
  else ((s.transmit n (epPacc e) (.push dest x.step cells)).meterLink p.vd cells.length).setPush k x.id none

/-- Moves a push as far as it can go (14 R350). -/
def State.movePush (s : State) (k id : Nat) : State :=
  match Table.look s.parts k with
  | none => s
  | some p =>
    match p.pushes.find? fun x => x.id == id with
    | none => s
    | some x =>
      if x.wrote || !x.parked.isEmpty ||
          (p.pushes.any fun y => y.face == x.face && y.incoming == x.incoming && y.step < x.step && !y.wrote) then s
      else
        match s.pushPlan k p x with
        | .waits => s
        | .error code => s.failPush k id code p.vd
        | .remote src e =>
          match s.pushRead k p x src 0 with
          | (none, s) => s
          | (some x, s) => s.sendPush k p x e
        | .go src kr dst =>
          match s.pushRead k p x src dst.length with
          | (none, s) => s
          | (some x, s) =>
            match Table.look s.parts kr with
            | none => s.setPush k id none
            | some pr =>
              match s.fluePlace pr (kr / 64) Need.write dst with
              | (.refused, s) => s.failPush k id 1 p.vd
              | (.cause, s) => s.failPush k id 4 p.vd
              | (.absent f, s) => s.parkPush k p x true f
              | (.ok ls, s1) =>
                if s1.damps p.vd ls then s
                else
                  let (_, s) := (s1.meterPlaces p.vd ls).engineWrite (.ctl 7) p.vd (.flue (k / 64) k id) 0 ls (x.cells.getD [])
                  s.setPush k id (some { x with wrote := true })

/-- The pushes that have written the slab of face `f` of the partition with key k: their sender and the push. -/
def State.slabPushes (s : State) (k f : Nat) : List (Nat × Push) :=
  match Table.look s.parts k with
  | none => []
  | some p => s.parts.flatMap fun e => (e.2.pushes.filter fun x =>
      x.wrote && !s.engineSending (.flue (e.1 / 64) e.1 x.id) 0 &&
      if x.own then e.1 == k && x.face == f
      else
        let n := listGet 0 e.2.record.nbr x.face
        x.face ^^^ 1 == f && e.2.vd == p.vd && s.nbrLocal p.vd n && nbrGrid n == p.record.gridId && nbrDie n == k / 64).map
      fun x => (e.1, x)

/-- Tags the slab of face `f` once a push has written it all (14 R350). -/
def State.retag (s : State) (k f : Nat) : State :=
  match s.slabPushes k f with
  | (ks, x) :: _ => ((s.updPart k fun p => { p with tags := listSet p.tags f (some x.step) }).setPush ks x.id none).forget
      (.flue (ks / 64) ks x.id) 0
  | [] => s

/-- GATTACH (R347). -/
def execGattach (o : GK) (s : State) : Res := gattachOp 8 o s

/-- GSTEP (R349). -/
def execGstep (o : GK) (s : State) : Res := gstepOp 8 o s

/-- GSTAT (R352). -/
def execGstat (o : GK) (s : State) : Res := gstatOp 8 o s

/-- GDETACH (R353). -/
def execGdetach (o : GK) (s : State) : Res := gdetachOp 8 o s

/-- GSTEP_RESUME (R349). A wait whose attachment is gone starts its instruction anew. -/
def execGstepResume (a : AgentId) (s : State) : Res :=
  match (s.agent a).wait, groupOf a with
  | some w, some g =>
    match w.kind with
    | .round addr barrier r =>
      match s.attachAt g addr with
      | some (_, k, p) =>
        if !s.mayResume a || r != p.round || s.exchangeWaits k p then .next s
        else if !s.released a then .next (s.drainFor a)
        else .next (((s.as a).arriveRound g addr barrier r).resumeAt w)
      | none => if s.mayResume a then .next (s.as a).unwait else .next s
    | _ => .next s
  | _, _ => .next s

/-- FLUE_PUSH (R350), in the partition state that the event names. -/
def execFluePush (die part : Nat) (push : FlueMove) (s : State) : Res :=
  if part / 64 != die then .next s
  else
    match push with
    | .move id => .next (s.movePush part id)
    | .arrive station source dest step cells =>
      if (s.flueTarget station source dest).any fun t => t.1 == part then .next (s.takePush station source dest step cells) else .next s

/-- SLAB_RETAG (R350). -/
def execSlabRetag (die : Nat) (part face : Nat) (s : State) : Res :=
  if part / 64 == die then .next (s.retag part face) else .next s

/-- FLUE_COUNTER_UPDATE (R350). -/
def execFlueCounterUpdate (station source : Nat) (dest : FlueDest) (note : FlueNote) (s : State) : Res :=
  .next (s.takeNote station source dest note)

/-- GSTEP_CREDIT (R349): for the oldest exchange whose sources are all read, the locks go and its credits are given. -/
def execGstepCredit (die part : Nat) (s : State) : Res :=
  match Table.look s.parts part with
  | none => .next s
  | some p =>
    match p.exchanges with
    | [] => .next s
    | (step, lockId) :: rest =>
      if part / 64 != die || (p.pushes.any fun x => x.step == step && x.cells.isNone) then .next s
      else
        let due := p.credits.filter fun (c : Credit) => c.step == some step
        let s := (s.unlock lockId).updPart part fun p => { p with
          exchanges := rest
          credits := p.credits.filter fun (c : Credit) => c.step != some step }
        .next (due.foldl State.flueCredit s)

/-- Deletes a partition state: pushes that wait for it are discarded, here and at its neighbours (14 R350, R353). -/
def State.dropPart (s : State) (k : Nat) : State :=
  match Table.look s.parts k with
  | none => s
  | some p =>
    let s := p.exchanges.foldl (fun s e => s.unlock e.2) s
    let s : State := { s with parts := (Table.drop k s.parts).map fun e => (e.1, { e.2 with pushes := e.2.pushes.filter fun x =>
        let n := listGet 0 e.2.record.nbr x.face
        x.own || !(e.2.vd == p.vd && s.nbrLocal p.vd n && nbrGrid n == p.record.gridId && nbrDie n == k / 64) }) }
    s.tellNeighbours k p none false

/-- FLUE_STATE_DELETE (R353): its own pushes have completed, and no credit is due (R349). -/
def execFlueStateDelete (die : Nat) (part : Nat) (s : State) : Res :=
  match Table.look s.parts part with
  | some p =>
    if part / 64 == die && p.attached == 0 && p.pushes.isEmpty && p.exchanges.isEmpty then .next (s.dropPart part) else .next s
  | none => .next s

end Sys2Proof.Machine
end

