-- ==== Sys2Proof/Machine/VXl.lean ====
section
/-! DEFINITION. Cross-lane operations, VXL (08 R222-R225; 05 R147). -/

namespace Sys2Proof.Machine

/-- The offset of VSHUP, VSHDN and VROTW (08 R223). -/
def laneOffset (aux : BitVec 6) : Nat := if aux.getLsbD 5 then max 1 (64 / 2 ^ (fieldN aux 2 0 + 1)) else fieldN aux 4 0

/-- The source thread of each moving function, none where the fill is taken (08 R223). -/
def sourceLane (fn : Nat) (o : GV) (w : Warp) (t : Nat) : Option Nat :=
  let n := laneOffset o.aux
  match fn with
  | 0 => some ((w.v o.vb.toNat t).toNat % 64)
  | 1 => if n ≤ t then some (t - n) else none
  | 2 => if t + n < 64 then some (t + n) else none
  | 3 => some ((t + 64 - n % 64) % 64)
  | 4 => some o.vb.toNat
  | 7 => some (t ^^^ (o.aux.toNat + 1))
  | _ => some (t / 4 * 4 + o.aux.toNat)

/-- A value that another thread supplies: 0 when it never started (08 R222). -/
def Warp.supplied (w : Warp) (t : Ty) (r : Reg) (l : Nat) : Word := if bit w.unstarted l then 0 else w.src t r l

/-- The moving functions of VXL: VSHFL, VSHUP, VSHDN, VROTW, VBCAST, QSWAP and QBCAST (08 R223). -/
def vxlMove (len fn : Nat) (o : GV) (s : State) : Res :=
  let n := if o.dtype.pair then 2 else 1
  checked ⟨len, 0x0C, fn, .v o⟩ s (laneOp len o.p o.pneg
    (fun w t => minProv (if fn == 0 then w.sourcePoison t [(o.vb, 1)] else none)
      (match sourceLane fn o w t with
       | some j => w.sourcePoison j [(o.va, n)]
       | none => w.sourcePoison t [(o.vb, n)]))
    fun w _ t => w.plain t (destWrite o.dtype o.vd (match sourceLane fn o w t with
      | some j => w.supplied o.dtype o.va j
      | none => w.src o.dtype o.vb t)))

/-- Identity(op) of an element (05 R147). -/
def reduceIdentity (t : Ty) (op : Nat) : Nat :=
  let w := (Ty.elems t).1
  match Ty.fmt t with
  | some f => if op == 0 then f.signed true 0 else f.infinity (op == 1)
  | none =>
    match op with
    | 1 => if Ty.signed t then 2 ^ (w - 1) else 0
    | 2 => if Ty.signed t then 2 ^ (w - 1) - 1 else 2 ^ w - 1
    | 3 => 2 ^ w - 1
    | _ => 0

/-- Op of one element pair, with its flags (05 R147, 08 R224). -/
def reduceElem (t : Ty) (op : Nat) (rnd : Rnd) (a b : Nat) : Nat × FpFlags :=
  let w := (Ty.elems t).1
  match Ty.fmt t with
  | some f => if op == 0 then vfltElem 0 f rnd false a b 0 0 else f.minMax (op == 2) a b
  | none =>
    let fn := match op with | 0 => 0 | 1 => 9 | 2 => 8 | 3 => 10 | 4 => 11 | _ => 12
    ((vintElem fn (Ty.signed t) w (BitVec.ofNat w a) (BitVec.ofNat w b) 0 0).toNat, fpNone)

/-- Op of two whole values. -/
def reducePair (t : Ty) (op : Nat) (rnd : Rnd) (a b : Word) : Word × FpFlags :=
  let (w, n) := Ty.elems t
  let (v, f, _) := elemResults .rne w (fun i _ => reduceElem t op rnd (elemAt a w i).toNat (elemAt b w i).toNat) n 0 0 0 fpNone
  (v, f)

/-- The values a reduction starts from: the active threads' values and identities (05 R147). -/
def reduceStart (w : Warp) (o : GV) : List Word :=
  let act := w.head.mask &&& w.active o.p o.pneg
  let (ew, n) := Ty.elems o.dtype
  let idw := packElems ew n fun _ => BitVec.ofNat ew (reduceIdentity o.dtype o.aux.toNat)
  (List.range 64).map fun t => if bit act t then w.src o.dtype o.va t else idw

/-- The tree of R147, halving. -/
def reduceTree (t : Ty) (op : Nat) (rnd : Rnd) : Nat → List Word → FpFlags → Word × FpFlags
  | 0, xs, f => (xs.headD 0, f)
  | k + 1, xs, f =>
    let d := xs.length / 2
    let ys := ((xs.take d).zip (xs.drop d)).map fun p => reducePair t op rnd p.1 p.2
    reduceTree t op rnd k (ys.map (·.1)) (ys.foldl (fun acc y => acc ||| y.2) f)

/-- The steps d = 1, 2, 4 and so on of a scan (05 R147). -/
def scanSteps (t : Ty) (op : Nat) (rnd : Rnd) : Nat → Nat → List Word → FpFlags → List Word × FpFlags
  | 0, _, xs, f => (xs, f)
  | k + 1, d, xs, f =>
    let ys := (xs.zip (List.replicate d none ++ (xs.map some))).map fun p =>
      match p.2 with
      | none => (p.1, fpNone)
      | some x => reducePair t op rnd x p.1
    scanSteps t op rnd k (2 * d) (ys.map (·.1)) (ys.foldl (fun acc y => acc ||| y.2) f)

/-- A cross-lane instruction that is executed once for the warp: every active thread is a source, a poisoned source poisons
every receiver, and `k` gives each receiver's result and the flags of all. `dst` is where a receiver's result goes, none for S[sd]: an
element that still differs under paired issue is written poisoned (17 R398). -/
def wholeWarp (f : Form) (o : GV) (dst : Option LaneWrite) (s : State) (k : Warp → Mask → Warp × FpFlags) : Res :=
  checked f s fun s =>
    match s.cur with
    | .warp g wn =>
      let w := s.warp g wn
      let act := w.head.mask &&& w.active o.p o.pneg
      let preds := o.p.toNat :: (if f.fn == 9 || f.fn == 10 then [o.va.toNat] else [])
      let tag := lowestProv ((lanesOf w.head.mask).map fun t => minProv (w.predPoison t preds)
        (if bit act t then w.sourcePoison t (laneSources f.cls f.fn o) else none))
      match tag with
      | some p => .next (s.trapWith .poison none (some p) (w.issueMask &&& act) 0 0 none)
      | none =>
        let m := w.issueMask &&& act
        let (w', fl) := k w m
        let ((still, p), s) := s.pairLanes g (if dst.isSome then m else 1)
        let w' := match p, dst with
          | some q, some d => (lanesOf still).foldl (fun (x : Warp) t => x.poisonLane t ⟨d, fpNone, 0⟩ q) w'
          | some q, none => if o.vd == 0 then w' else { w' with agent := { w'.agent with spoison := Table.put o.vd.toNat q w'.agent.spoison } }
          | none, _ => w'
        .next ((s.setWarp g wn (w'.raise fl)).advance f.len)
    | _ => .next (s.trap .wrongAgent)

/-- Writes a value for each receiver. -/
def Warp.receive (w : Warp) (t : Ty) (r : Reg) (m : Mask) (f : Nat → Word) : Warp :=
  (lanesOf m).foldl (fun x l => x.putLane l (w.plain l (destWrite t r (f l)))) w

/-- VREDUCE (08 R224). -/
def vreduceOp (len : Nat) (o : GV) (s : State) : Res :=
  wholeWarp ⟨len, 0x0C, 5, .v o⟩ o (some (destWrite o.dtype o.vd 0)) s fun w m =>
    let (v, f) := reduceTree o.dtype o.aux.toNat o.rnd 6 (reduceStart w o) fpNone
    (w.receive o.dtype o.vd m fun _ => v, f)

/-- VSCAN (08 R224). -/
def vscanOp (len : Nat) (o : GV) (s : State) : Res :=
  wholeWarp ⟨len, 0x0C, 6, .v o⟩ o (some (destWrite o.dtype o.vd 0)) s fun w m =>
    let (vs, f) := scanSteps o.dtype o.aux.toNat o.rnd 6 1 (reduceStart w o) fpNone
    (w.receive o.dtype o.vd m fun t => listGet 0 vs t, f)

/-- VBALLOT (08 R225): S[sd] takes the active threads whose pk is 1. -/
def vballotOp (len : Nat) (o : GV) (s : State) : Res :=
  wholeWarp ⟨len, 0x0C, 9, .v o⟩ o none s fun w _ =>
    let v := w.head.mask &&& w.active o.p o.pneg &&& w.pred o.va.toNat
    ({ w with agent := w.agent.setSreg o.vd.toNat v none }, fpNone)

/-- VVOTE (08 R225): all, any or uniform over the active threads. -/
def vvoteOp (len : Nat) (o : GV) (s : State) : Res :=
  wholeWarp ⟨len, 0x0C, 10, .v o⟩ o (some (.pred o.vd.toNat false)) s fun w m =>
    let act := w.head.mask &&& w.active o.p o.pneg
    let ones := act &&& w.pred o.va.toNat
    let b := match o.aux.toNat with
      | 0 => ones == act
      | 1 => ones != 0
      | _ => ones == act || ones == 0
    (w.setPred o.vd.toNat m (if b then BitVec.allOnes 64 else 0), fpNone)

/-- VMATCH (08 R225): the lowest active thread with an equal value. -/
def vmatchOp (len : Nat) (o : GV) (s : State) : Res :=
  wholeWarp ⟨len, 0x0C, 11, .v o⟩ o (some (.reg o.vd 0)) s fun w m =>
    let act := lanesOf (w.head.mask &&& w.active o.p o.pneg)
    (w.receive .s32 o.vd m fun t =>
      BitVec.ofNat 64 ((act.find? fun u => w.src o.dtype o.va u == w.src o.dtype o.va t).getD t), fpNone)

/-- VSHFL (R223). -/
def execVshfl (o : GV) (s : State) : Res := vxlMove 8 0 o s

/-- VSHUP (R223). -/
def execVshup (o : GV) (s : State) : Res := vxlMove 8 1 o s

/-- VSHDN (R223). -/
def execVshdn (o : GV) (s : State) : Res := vxlMove 8 2 o s

/-- VROTW (R223). -/
def execVrotw (o : GV) (s : State) : Res := vxlMove 8 3 o s

/-- VBCAST (R223). -/
def execVbcast (o : GV) (s : State) : Res := vxlMove 8 4 o s

/-- VREDUCE (R224). -/
def execVreduce (o : GV) (s : State) : Res := vreduceOp 8 o s

/-- VSCAN (R224). -/
def execVscan (o : GV) (s : State) : Res := vscanOp 8 o s

/-- QSWAP (R223). -/
def execQswap (o : GV) (s : State) : Res := vxlMove 8 7 o s

/-- QBCAST (R223). -/
def execQbcast (o : GV) (s : State) : Res := vxlMove 8 8 o s

/-- VBALLOT (R225). -/
def execVballot (o : GV) (s : State) : Res := vballotOp 8 o s

/-- VVOTE (R225). -/
def execVvote (o : GV) (s : State) : Res := vvoteOp 8 o s

/-- VMATCH (R225). -/
def execVmatch (o : GV) (s : State) : Res := vmatchOp 8 o s

end Sys2Proof.Machine
end

