-- ==== Sys2Proof/Machine/Matrix.lean ====
section
/-! DEFINITION. The matrix unit: signatures, the matrix functions, accumulator windows and rows (11 R273-R291, R456; 05 R146,
R147). -/

namespace Sys2Proof.Machine

/-! Shapes (11 R273, R283). -/

/-- The bits of an element. -/
def MTy.bits : MTy → Nat
  | .bf16 | .f16 => 16
  | .e4m3 | .e5m2 | .s8 | .n8 => 8
  | .e3m2 | .e2m3 => 6
  | .e2m1 => 4

/-- The format of a floating-point element type. -/
def MTy.fmt : MTy → Fmt
  | .bf16 => fmtBf16
  | .f16 => fmtF16
  | .e4m3 => fmtE4m3
  | .e5m2 => fmtE5m2
  | .e3m2 => fmtE3m2
  | .e2m3 => fmtE2m3
  | _ => fmtE2m1

/-- K of a dense operation, the bytes of its A row and its B tile, and the chunk. -/
def MTy.k (t : MTy) : Nat := if MTy.bits t == 16 then 32 else if MTy.bits t == 8 then 64 else 128
def MTy.chunk (t : MTy) : Nat := MTy.k t / 2
def MTy.rowBytes (t : MTy) : Nat := MTy.k t * MTy.bits t / 8
def MTy.dataBytes (t : MTy) : Nat := MTy.k t * 8 * MTy.bits t

/-- The dense length and the bytes of the B tile of a function (R273, R283). -/
def denseK (fn : Nat) (t : MTy) : Nat := if fn == 1 then 2 * MTy.k t else MTy.k t
def tileBytes (fn : Nat) (t : MTy) : Nat :=
  match fn with
  | 1 => 2 * MTy.dataBytes t
  | 3 => MTy.dataBytes t + 2 * MTy.k t
  | _ => MTy.dataBytes t

/-- NCODE of an MMAS, the values kept of 64, and the bytes of a row of A (R283). -/
def ncode (sc : Word) : Nat := fieldN sc 1 0
def aBytes (fn : Nat) (t : MTy) (sc : Word) : Nat :=
  if fn == 1 then denseK fn t * (16 * ncode sc) * MTy.bits t / 512 else MTy.rowBytes t

/-- The bytes of a metadata row of MMAS or a scale row of MMAX, and their base; none otherwise (R276, R283). -/
def sideBytes (fn : Nat) (t : MTy) (sc : Word) : Nat :=
  match fn with
  | 1 => denseK fn t * (16 * ncode sc) * 6 / 512
  | 3 => MTy.k t / 32
  | _ => 0
def sideBase (fn : Nat) (sc : Word) : Word := if fn == 1 then sc &&& ~~~3#64 else sc

/-! Accumulator rows (R274). -/

/-- Element j of an accumulator row with its poison. -/
def Core.accElem (c : Core) (row j : Nat) : W32 × Option Prov :=
  (Table.get 0 c.acc (row * 64 + j), Table.look c.accPoison (row * 64 + j))

/-- Writes element j of an accumulator row. -/
def Core.setAcc (c : Core) (row j : Nat) (x : W32 × Option Prov) : Core :=
  { c with acc := Table.set 0 (row * 64 + j) x.1 c.acc
           accPoison := match x.2 with
             | none => Table.drop (row * 64 + j) c.accPoison
             | some p => Table.put (row * 64 + j) p c.accPoison }

/-- The 64 elements of a row. -/
def Core.accRow (c : Core) (row : Nat) : List (W32 × Option Prov) := (List.range 64).map (c.accElem row)

/-- Writes a whole row for a workgroup and marks its group of 64 rows dirty (16 R385). -/
def State.writeRow (s : State) (core g row : Nat) (xs : List (W32 × Option Prov)) : State :=
  let s := s.updCore core fun c => (List.range 64).foldl (fun c j => c.setAcc row j (listGet (0, none) xs j)) c
  s.updGroup g fun x =>
    let n := (row - x.accFirst) / 64
    if x.accDirty.contains n then x else { x with accDirty := n :: x.accDirty }

/-! The sum (R281, R283; 05 R146). -/

/-- A byte of an operand with its poison. -/
abbrev Bytes := List (Byte × Option Prov)

/-- Elements of `bits` bits from packed bytes (05 R134), each with the lowest tag of its bytes. -/
def elemsOf (bits n : Nat) (bs : Bytes) : List (Nat × Option Prov) :=
  let v := leN (bs.map (·.1))
  (List.range n).map fun j =>
    let lo := bits * j / 8
    let hi := (bits * j + bits - 1) / 8
    (v / 2 ^ (bits * j) % 2 ^ bits, lowestProv (((bs.drop lo).take (hi + 1 - lo)).map (·.2)))

/-- The exact value of an element: signed under s8, unsigned under n8. -/
def MTy.value (t : MTy) (x : Nat) : FVal :=
  match t with
  | .s8 => let v := (BitVec.ofNat 8 x).toInt; .num (decide (v < 0)) v.natAbs 0
  | .n8 => .num false x 0
  | _ => (MTy.fmt t).decode x

/-- A term of a row of A: its dense k, its value and its poison. -/
structure Term where
  k : Nat
  value : FVal
  prov : Option Prov
  deriving DecidableEq, Repr

/-- The terms of a row of A from its bytes and its metadata or scale bytes. -/
def rowTerms (fn : Nat) (t : MTy) (sc : Word) (taint : Option Prov) (a side : Bytes) : List Term :=
  let n := aBytes fn t sc * 8 / MTy.bits t
  let xs := elemsOf (MTy.bits t) n a
  let per := 16 * ncode sc
  let pos := if fn == 1 then elemsOf 6 n side else []
  (List.range n).map fun m =>
    let x := listGet (0, none) xs m
    match fn with
    | 1 =>
      let p := listGet (0, none) pos m
      ⟨64 * (m / per) + p.1, MTy.value t x.1, minProv taint (minProv x.2 (lowestProv (pos.map (·.2))))⟩
    | 3 =>
      let e := listGet (0, none) side (m / 32)
      ⟨m, mulVal (MTy.value t x.1) (e8m0Val e.1.toNat), minProv taint (minProv x.2 e.2)⟩
    | _ => ⟨m, MTy.value t x.1, minProv taint x.2⟩

/-- Column j of B, with its scales under MMAX. -/
def columnOf (fn : Nat) (t : MTy) (rows : List (List (Nat × Option Prov))) (tile : Bytes) (j : Nat) :
    List (FVal × Option Prov) :=
  (List.range rows.length).map fun k =>
    let x := listGet (0, none) (listGet [] rows k) j
    if fn == 3 then
      let e := listGet (0, none) tile (MTy.dataBytes t + j * (MTy.k t / 32) + k / 32)
      (mulVal (MTy.value t x.1) (e8m0Val e.1.toNat), minProv x.2 e.2)
    else (MTy.value t x.1, x.2)

/-- The products of one chunk; positions that no term names add +0 (R283). -/
def chunkProducts (terms : List Term) (col : List (FVal × Option Prov)) (lo c : Nat) : List FVal × Option Prov :=
  let xs := terms.filter fun x => decide (lo ≤ x.k) && decide (x.k < lo + c)
  let ps := xs.map fun x => mulVal x.value (listGet (.num false 0 0, none) col x.k).1
  let named := (List.range c).all fun i => xs.any fun x => x.k == lo + i
  (if named then ps else .num false 0 0 :: ps,
   lowestProv (xs.map fun x => minProv x.prov (listGet (.num false 0 0, none) col x.k).2))

/-- One element of C: the chunk sums added in increasing k. -/
def accumulateElem (t : MTy) (kd : Nat) (terms : List Term) (col : List (FVal × Option Prov)) (old : W32 × Option Prov) :
    (W32 × Option Prov) × FpFlags :=
  let c := MTy.chunk t
  (List.range (kd / c)).foldl (fun acc n =>
    let (ps, p) := chunkProducts terms col (n * c) c
    let prov := minProv acc.1.2 p
    if t == .s8 || t == .n8 then
      ((acc.1.1 + BitVec.ofInt 32 (ps.foldl (fun (v : Int) x => v + x.at_ 0) 0), prov), acc.2)
    else
      let (v, f) := accumulate acc.1.1 (chunkSum ps)
      ((v, prov), acc.2 ||| f)) (old, fpNone)

/-- The B tile as rows of 64 elements (R273). -/
def tileRows (fn : Nat) (t : MTy) (tile : Bytes) : List (List (Nat × Option Prov)) :=
  let rb := 8 * MTy.bits t
  (List.range (denseK fn t)).map fun k => elemsOf (MTy.bits t) 64 ((tile.drop (k * rb)).take rb)

/-! Operands in scratchpad (R276-R278). -/

/-- The place of `n` bytes in the agent's own scratchpad window or a gang peer's, wholly below its limit (R276). -/
def State.operandAt (s : State) (a : AgentId) (addr : Word) (n : Nat) : Option Loc :=
  match s.target a addr with
  | .at_ l limit =>
    match l.space with
    | .scratch _ => if l.off + n ≤ limit && !s.firewalled a l then some l else none
    | _ => none
  | _ => none

/-- The address of the row of index x. -/
def rowAddr (base : Word) (x : W32) (n : Nat) : Word := base + x.setWidth 64 * BitVec.ofNat 64 n

/-- The spans, one for each space, that cover some places of `n` bytes (R278). -/
def coverSpans (n : Nat) (ls : List Loc) : List Span :=
  let spaces := (ls.map (·.space)).eraseDups
  spaces.map fun sp =>
    let offs := (ls.filter fun l => l.space == sp).map (·.off)
    let lo := offs.foldl min (offs.headD 0)
    ⟨false, sp, lo, offs.foldl max 0 + n - lo⟩

/-- Whether B comes from a feed queue (R277). -/
def fromQueue (sb : Word) : Bool := fieldN sb 63 60 == 15

/-- The queue that B comes from, if R277 allows it. -/
def State.tileQueue (s : State) (g : Nat) (sb : Word) (n : Nat) : Option FeedQueue :=
  if fieldN sb 59 4 != 0 then none
  else
    match s.feedQueue g (fieldN sb 3 0) with
    | some q => if n ≤ q.size then some q else none
    | none => none

/-- The misaligned operand of a matrix operation, by its address (R276). -/
def misalignedOperand (fn : Nat) (t : MTy) (sa sb sc : Word) : Option Word :=
  if sa.toNat % (if fn == 1 then 16 else 32) != 0 then some sa
  else if fn == 1 && fieldN sc 3 2 != 0 then some sc
  else if fn == 3 && sc.toNat % (MTy.k t / 32) != 0 then some sc
  else if !fromQueue sb && sb.toNat % 64 != 0 then some sb
  else none

/-- The first operand that lies outside its window, by its address; 0 for a queue (R276, R277). -/
def State.outsideOperand (s : State) (a : AgentId) (fn : Nat) (t : MTy) (rows : Table (W32 × Option Prov)) (sa sb sc : Word) :
    Option Word :=
  let g := (groupOf a).getD 0
  let na := aBytes fn t sc
  let ns := sideBytes fn t sc
  let bad := rows.findSome? fun r =>
    let x := rowAddr sa r.2.1 na
    let y := rowAddr (sideBase fn sc) r.2.1 ns
    if (s.operandAt a x na).isNone then some x
    else if ns != 0 && (s.operandAt a y ns).isNone then some y
    else none
  match bad with
  | some x => some x
  | none =>
    let n := tileBytes fn t
    if fromQueue sb then (if (s.tileQueue g sb n).isNone then some 0 else none)
    else if (s.operandAt a sb n).isNone then some sb
    else none

/-- The read locks of an operation's operands in scratchpad (R278). -/
def State.operandSpans (s : State) (a : AgentId) (fn : Nat) (t : MTy) (rows : Table (W32 × Option Prov)) (sa sb sc : Word) :
    List Span :=
  let na := aBytes fn t sc
  let ns := sideBytes fn t sc
  coverSpans na (rows.filterMap fun r => s.operandAt a (rowAddr sa r.2.1 na) na) ++
    (if ns == 0 then [] else coverSpans ns (rows.filterMap fun r => s.operandAt a (rowAddr (sideBase fn sc) r.2.1 ns) ns)) ++
    (if fromQueue sb then [] else coverSpans (tileBytes fn t) (s.operandAt a sb (tileBytes fn t)).toList)

/-! Issue (R279, R280, R456). -/

/-- Whether an issue traps, waits, or is done. -/
inductive Issued where
  | trap (c : Cause) (addr : Word)
  | wait
  | done (s : State)
  deriving DecidableEq, Repr

/-- Accepts an operation into the matrix unit of the warp's core (R284). -/
def State.accept (s : State) (core : Nat) (m : MatOp) : State := s.updCore core fun c => { c with matrix := c.matrix ++ [m] }

/-- Issues the operation of CVn, whose signed set is its declared set, with `pc` and `head` for its records: the NCODE check and
checks 3 to 5 of R280, the locks, and acceptance. -/
def State.issueMatrix (s : State) (g wn n : Nat) (c : Conv) (pc : Word) (head : Mask) : Issued :=
  let a := AgentId.warp g wn
  let w := s.warp g wn
  let core := (s.group g).core
  let (sa, sb, sc) := (w.agent.sreg c.sa, w.agent.sreg c.sb, w.agent.sreg c.sc)
  let crow := w.abase + c.arow.toNat
  if c.fn == 1 && ncode sc == 0 then .trap .illegal 0
  else if w.alimit < crow + 64 then .trap .accWindow 0
  else
    match misalignedOperand c.fn c.dtype sa sb sc with
    | some x => .trap .misalign x
    | none =>
      match s.outsideOperand a c.fn c.dtype c.rows sa sb sc with
      | some x => .trap .permission x
      | none =>
        let (id, s1) := s.fresh
        let locks := (s.operandSpans a c.fn c.dtype c.rows sa sb sc).map fun x => lockOf id (s.group g).vd (s.rootOf a) x false
        if !s.lockRoom a locks then .wait
        else
          let taint := lowestProv ([c.sa, c.sb, c.sc].map fun r => if r == 0 then none else Table.look w.agent.spoison r.toNat)
          let rows := c.rows.map fun (r : Nat × W32 × Option Prov) => (r.1, (r.2.1, minProv taint r.2.2))
          let s2 := s1.register a locks
          let cv : Conv := { c with signed := 0, rows := [] }
          let s3 := s2.updWarp g wn fun w => w.setConv n cv
          .done (s3.accept core ⟨id, c.op, g, wn, crow, .mma c.fn c.dtype rows sa sb sc, false, [], [], [], [], 0, pc, head⟩)

/-- MMA, MMAS, MMAI and MMAX (R279-R283): each head thread signs CVn; the signature that completes the set issues. -/
def mmaOp (len fn : Nat) (o : GMM) (s : State) : Res :=
  checked ⟨len, 0x18, fn, .mm o⟩ s fun s =>
    match s.cur with
    | .warp g wn =>
      let w := s.warp g wn
      let n := o.cv.toNat
      let c := w.conv n
      let h := w.head.mask
      let full := c.signed ||| h == c.declared
      if full && fn == 1 && ncode (s.sreg o.sc) == 0 then .next (s.trap .illegal)
      else if h &&& (~~~c.declared ||| c.signed) != 0 ||
          (c.signed != 0 && (c.fn != fn || c.dtype != o.dtype || c.arow != o.arow)) then .next (s.trap .syncMask)
      else if c.signed == 0 && s.classFull s.cur .tiles then .next s
      else
        let rows := (lanesOf h).foldl (fun t l =>
          Table.put l (w.v o.vidx.toNat l, Table.look w.vpoison (vkey o.vidx.toNat l)) t) c.rows
        let (op, s1) := if c.signed == 0 then s.addOp s.cur .tiles .tile else (c.op, s)
        let c1 : Conv := ⟨c.declared, c.signed ||| h, fn, o.dtype, o.arow, rows, o.sa, o.sb, o.sc, op⟩
        if full then
          match s1.issueMatrix g wn n c1 s.pc h with
          | .trap c x => .next (s.trapAt c x)
          | .wait => .next s
          | .done s => .next (s.advance len)
        else .next ((s1.updWarp g wn fun w => w.setConv n c1).advance len)
    | _ => .next (s.trap .wrongAgent)

/-! AWIN, AZERO, ALD, AST and ARSTAT (R286-R289). -/

/-- AWIN (R286): while operations of the warp are counted it stays at its PC. -/
def awinOp (len : Nat) (o : GMM) (s : State) : Res :=
  checked ⟨len, 0x19, 0, .mm o⟩ s fun s =>
    match s.cur with
    | .warp g wn =>
      let x := s.group g
      let t := (s.sreg o.sa).toNat
      let n := (s.sreg o.sb).toNat
      let first := o.arow.toNat
      if wn != 0 || !bit s.headMask 0 || x.warps.length ≤ t || (s.launchOf g).accRows < first + n then .next (s.trap .accWindow)
      else if (s.agent (.warp g t)).count .tiles != 0 then .next s
      else .next ((s.updWarp g t fun w =>
        { w with abase := x.accFirst + first, alimit := x.accFirst + first + n }).advance len)
    | _ => .next (s.trap .wrongAgent)

/-- Accepts an ACC operation as a counted one, with its range locks. -/
def State.acceptAcc (s : State) (g wn crow : Nat) (kind : MatKind) (spans : List (Span × Bool)) : Issued :=
  let a := AgentId.warp g wn
  if s.classFull a .tiles then .wait
  else
    let (op, s1) := s.addOp a .tiles .tile
    let locks := spans.map fun x => lockOf op (s.group g).vd (s.rootOf a) x.1 x.2
    if !s.lockRoom a locks then .wait
    else .done ((s1.register a locks).accept (s.group g).core ⟨op, op, g, wn, crow, kind, false, [], [], [], [], 0, s.pc, s.headMask⟩)

/-- Ends an issue. -/
def Issued.finish (i : Issued) (len : Nat) (s : State) : Res :=
  match i with
  | .trap c x => .next (s.trapAt c x)
  | .wait => .next s
  | .done s => .next (s.advance len)

/-- AZERO and ARSTAT (R287, R289). -/
def accOp (len fn : Nat) (o : GMM) (s : State) : Res :=
  checked ⟨len, 0x19, fn, .mm o⟩ s fun s =>
    match s.cur with
    | .warp g wn =>
      let w := s.warp g wn
      let crow := w.abase + o.arow.toNat
      let kind := if fn == 1 then MatKind.zero else .stats o.cv o.vidx s.issueMask
      if w.alimit < crow + 64 then .next (s.trap .accWindow)
      else (s.acceptAcc g wn crow kind []).finish len s
    | _ => .next (s.trap .wrongAgent)

/-- The bytes of an element in memory under FMT, and its format (R287). -/
def accBytes (fmt : BitVec 3) : Nat :=
  match fmt.toNat with
  | 1 | 2 => 2
  | 3 | 4 => 1
  | _ => 4
def accFmt (fmt : BitVec 3) : Option Fmt :=
  match fmt.toNat with
  | 1 => some fmtBf16
  | 2 => some fmtF16
  | 3 => some fmtE4m3
  | 4 => some fmtE5m2
  | _ => none

/-- The address of row i of an ALD or AST (R288). -/
def memRow (addr stride : Word) (i : Nat) : Word := addr + BitVec.ofNat 64 i * stride

/-- Places the bytes of a row: its parts before and after a page boundary, one after the other. -/
def State.placeRow (s : State) (a : AgentId) (need : Need) (addr : Word) (n : Nat) : Placed × State :=
  let first := min n (4096 - addr.toNat % 4096)
  let runs := if first == n then [(addr, n)] else [(addr, first), (addr + BitVec.ofNat 64 first, n - first)]
  let (found, s) := runs.foldl (fun (acc : List (Nat × Found) × State) r =>
    let (f, s) := acc.2.place a (s.target a r.1) r.2 need
    (acc.1 ++ [(r.2, f)], s)) ([], s)
  match found.findSome? fun f => match f.2 with | .cause c _ => some c | _ => none with
  | some c => (.cause c, s)
  | none =>
    match found.findSome? fun f => match f.2 with | .absent e => some e | _ => none with
    | some e => (.absent e, s)
    | none =>
      let ls := found.flatMap fun f => match f.2 with
        | .ok l => (List.range f.1).map l.plus
        | _ => []
      if ls.any fun l => match l.space with | .window _ _ => true | _ => false then (.cause .permission, s)
      else (s.fabricCheck (s.vdOf a) (.ok ls), s)

/-- The cause of a row at issue, priorities 2 to 5 of 09 R240 (R288). -/
def State.rowCause (s : State) (a : AgentId) (write : Bool) (addr : Word) (n : Nat) : Option Cause × State :=
  match s.placeRow a (if write then Need.write else Need.read) addr n with
  | (.cause c, s) => (some c, s)
  | (_, s) =>
    (match (s.target a addr).span n with
     | none => some .permission
     | some x =>
       if write && (s.slabOf a x).isSome then some .permission
       else if s.locked a x write then some .rangeLock
       else if s.breaksSeal a x write then some .layoutSeal
       else none, s)

/-- The rows of a mask that hold a cause at issue, in rising order. -/
def State.rowCauses (s : State) (a : AgentId) (write : Bool) (addr stride : Word) (n : Nat) (rows : Mask) :
    List (Nat × Cause) × State :=
  (lanesOf rows).foldl (fun (acc : List (Nat × Cause) × State) i =>
    let (c, s) := acc.2.rowCause a write (memRow addr stride i) n
    (acc.1 ++ (c.map fun c => (i, c)).toList, s)) ([], s)

/-- The span from the lowest to the highest byte of the rows (R288). -/
def State.rowsSpan (s : State) (a : AgentId) (addr stride : Word) (n : Nat) : Option Span :=
  let xs := (List.range 64).map fun i => memRow addr stride i
  let lo := xs.foldl (fun (m : Word) x => if x.toNat < m.toNat then x else m) addr
  let hi := xs.foldl (fun m x => max m (x.toNat + n)) 0
  (s.target a lo).span (hi - lo.toNat)

/-- The rows an ALD or AST is executed for: all, or those of its replay mask (R288). -/
def Warp.issueRows (w : Warp) : Mask :=
  match w.replay.find? fun r => r.rows && r.pc == w.head.pc && r.head == w.head.mask with
  | some r => r.parts
  | none => BitVec.allOnes 64

/-- A trap of an ALD or AST over rows (16 R379): those that hold the cause and the second one, and the first byte of the lowest, for
a memory cause. The rows it is executed for stay those of its replay mask. -/
def State.trapRows (s : State) (c : Cause) (rows : Mask) (second : Option (Cause × Mask)) (addr : Word) : State :=
  let m := s.headMask
  let all := match s.curWarp with | some (g, w) => (s.warp g w).issueRows | none => BitVec.allOnes 64
  s.holdTrap s.cur none c none ⟨.sync, causeWord c (second.map (·.1)) 0 none, s.pc, m, rows, (second.map (·.2)).getD 0, addr,
    if all == BitVec.allOnes 64 then none else some ⟨s.pc, m, all, true⟩⟩

/-- The lowest cause by priority among some rows' causes (09 R240). -/
def firstCause (xs : List (Nat × Cause)) : Option Cause :=
  xs.foldl (fun (acc : Option Cause) x => match acc with
    | none => some x.2
    | some c => some (if x.2.priority < c.priority then x.2 else c)) none

/-- The rows that hold a cause. -/
def rowsWith (xs : List (Nat × Cause)) (c : Cause) : Mask := maskOf fun l => xs.any fun x => x.1 == l && x.2 == c

/-- ALD and AST (R287, R288). -/
def accMoveOp (len fn : Nat) (o : GMM) (s : State) : Res :=
  checked ⟨len, 0x19, fn, .mm o⟩ s fun s =>
    match s.cur with
    | .warp g wn =>
      let w := s.warp g wn
      let crow := w.abase + o.arow.toNat
      let (addr, stride) := (s.sreg o.sa, s.sreg o.sb)
      let e := accBytes o.cv
      let rows := w.issueRows
      let write := fn == 3
      if w.alimit < crow + 64 then .next (s.trapRows .accWindow rows none 0)
      else if addr.toNat % e != 0 || stride.toNat % e != 0 then
        .next (s.trapRows .misalign rows none (memRow addr stride (lowestBit rows)))
      else
        let (found, s1) := s.rowCauses s.cur write addr stride (64 * e) rows
        match firstCause found with
        | some c =>
          let mask := rowsWith found c
          let second := (firstCause (found.filter fun x => x.2 != c)).map fun d => (d, rowsWith found d)
          .next (s1.trapRows c mask second (memRow addr stride (lowestBit mask)))
        | none =>
          match s.rowsSpan s.cur addr stride (64 * e) with
          | none => .next (s1.trapRows .permission rows none (memRow addr stride (lowestBit rows)))
          | some sp =>
            let kind := if write then MatKind.store o.cv addr stride (~~~rows) else .load o.cv addr stride (~~~rows)
            match s1.acceptAcc g wn crow kind [(sp, write)] with
            | .wait => .next s
            | i => i.finish len s1
    | _ => .next (s.trap .wrongAgent)

/-! The unit at work (R278, R282, R284, R285). -/

/-- Whether an operation moves memory, so that later ones wait for its end. -/
def MatKind.moves : MatKind → Bool
  | .load _ _ _ _ | .store _ _ _ _ => true
  | _ => false

/-- Replaces an operation of a matrix unit. -/
def State.setMatOp (s : State) (core : Nat) (m : MatOp) : State :=
  s.updCore core fun c => { c with matrix := c.matrix.map fun x => if x.id == m.id then m else x }

/-- The bytes of a place with their poison. -/
def State.tagBytes (s : State) (l : Loc) (n : Nat) : Bytes :=
  (List.range n).map fun i => (s.readByte (l.plus i), s.poisonAt (l.plus i))

/-- Reads the operands of a matrix operation into the latch and removes its locks; a queue entry is then consumed, which
is an acquire on the core (R277, R278; 13 R323). None while the queue is empty. -/
def State.gather (s : State) (core : Nat) (m : MatOp) (fn : Nat) (t : MTy) (rows : Table (W32 × Option Prov)) (sa sb sc : Word) :
    Option State :=
  let a := AgentId.warp m.g m.w
  let row (base : Word) (n : Nat) (r : Nat × W32 × Option Prov) : Nat × Bytes :=
    (r.1, match s.operandAt a (rowAddr base r.2.1 n) n with
      | some l => s.tagBytes l n
      | none => [])
  let la := rows.map (row sa (aBytes fn t sc))
  let ns := sideBytes fn t sc
  let ls := if ns == 0 then [] else rows.map (row (sideBase fn sc) ns)
  let n := tileBytes fn t
  let ready (s : State) (b : Bytes) : State :=
    (s.unlock m.id).setMatOp core { m with started := true, latchA := la, latchS := ls, latchB := b }
  if fromQueue sb then
    let k := fieldN sb 3 0
    match s.feedQueue m.g k with
    | none => none
    | some q =>
      if q.avail == 0 then none
      else
        let b := s.tagBytes ⟨.scratch m.g, q.slot q.cres.toNat⟩ n
        some (ready ((s.updFeed m.g k fun q => FeedQueue.consume { q with cres := q.cres + 1 } q.cres.toNat).acquireCore core) b)
  else some (ready s (match s.operandAt a sb n with | some l => s.tagBytes l n | none => []))

/-- Starts the first operation of a matrix unit that has not started, unless an earlier ALD or AST, a conflicting engine
operation or an empty queue holds it (R284). -/
def State.startMatrix (s : State) (core : Nat) : State :=
  let ops := (s.core core).matrix
  match ops.find? fun (m : MatOp) => !m.started with
  | none => s
  | some m =>
    let before := ops.takeWhile fun (x : MatOp) => x.id != m.id
    if before.any (fun (x : MatOp) => x.kind.moves) || s.conflicts (.warp m.g m.w) m.id then s
    else
      match m.kind with
      | .mma fn t rows sa sb sc => (s.gather core m fn t rows sa sb sc).getD s
      | _ => s.setMatOp core { m with started := true }

/-- The unit clk of an operation, twice the figure under paired issue (R290, R291). -/
def State.matrixClk (s : State) (m : MatOp) : Nat :=
  let n := match m.kind with
    | .mma fn _ _ _ _ sc => if fn == 1 && ncode sc == 3 then 24 else 16
    | .zero => 2
    | .load _ _ _ _ | .store _ _ _ _ => 16
    | .stats _ _ _ => 8
  if (s.launchOf m.g).paired then 2 * n else n

/-- Counts unit clk of an operation (03 R90). -/
def State.countClk (s : State) (m : MatOp) : State :=
  s.updVd (s.group m.g).vd fun v => { v with
    mmatrix := v.mmatrix + BitVec.ofNat 64 (s.matrixClk m)
    menergy := v.menergy + Config.freeEnergy 1 (s.matrixClk m) }

/-- What the comparison of an operation's two computations finds among the elements it computes, by row * 64 + element; nothing
without paired issue (R290). -/
def State.pairFound (s : State) (m : MatOp) (d : PairDiffer) (computes : Nat → Bool) : PairDiffer :=
  if (s.launchOf m.g).paired then ⟨d.differ.filter computes, d.still.filter computes⟩ else ⟨[], []⟩

/-- A comparison that finds a difference: both computations are made once more, which MMATRIX counts (log 20), the mismatches are
counted (17 R400), and what differs still has the unit's tag (R290). -/
def State.pairMatrix (s : State) (core : Nat) (m : MatOp) (d : PairDiffer) : Option Prov × State :=
  if d.differ.isEmpty && d.still.isEmpty then (none, s)
  else ((s.countClk m).countPair (s.group m.g).vd d).pairTag (16 + dieOf core) d

/-- An element as it is written: poisoned if it differs still (R290). -/
def pairElem (d : PairDiffer) (p : Option Prov) (n : Nat) (old : Option Prov) : Option Prov :=
  if d.still.contains n then minProv old p else old

/-- Ends an operation: its locks go, FPFLAGS is set in its warp, and CNTTL completes it (R282). -/
def State.closeMatrix (s : State) (core : Nat) (m : MatOp) (f : FpFlags) : State :=
  let s := s.countClk m
  let s := (s.unlock m.id).updCore core fun c => { c with matrix := c.matrix.filter fun (x : MatOp) => x.id != m.id }
  let s := s.updWarp m.g m.w fun w => { w with fpflags := w.fpflags ||| f }
  s.setWork (.warp m.g m.w) m.op .finished

/-- Computes and writes the C rows of a matrix operation, with its flags (R281, R290). -/
def State.multiply (s : State) (core : Nat) (m : MatOp) (fn : Nat) (t : MTy) (rows : Table (W32 × Option Prov)) (sc : Word)
    (d : PairDiffer) : State × FpFlags :=
  let d := s.pairFound m d fun n => rows.any fun r => r.1 == n / 64
  let (p, s) := s.pairMatrix core m d
  let tile := tileRows fn t m.latchB
  let cols := (List.range 64).map (columnOf fn t tile m.latchB)
  rows.foldl (fun (acc : State × FpFlags) r =>
    let terms := rowTerms fn t sc r.2.2 (Table.get [] m.latchA r.1) (Table.get [] m.latchS r.1)
    let old := (acc.1.core core).accRow (m.row + r.1)
    let new := (cols.zip old).map fun x => accumulateElem t (denseK fn t) terms x.1 x.2
    let out := (new.zip (List.range 64)).map fun x => (x.1.1.1, pairElem d p (r.1 * 64 + x.2) x.1.1.2)
    (acc.1.writeRow core m.g (m.row + r.1) out, new.foldl (fun f x => f ||| x.2) acc.2)) (s, fpNone)

/-- An element of ALD as it is widened: exactly (R287). -/
def widen (fmt : BitVec 3) (x : Nat) : W32 :=
  match accFmt fmt with
  | some f => BitVec.ofNat 32 (fmtF32.round .rne false 0 (f.decode x).exact).1
  | none => BitVec.ofNat 32 x

/-- An element of AST as it is narrowed, with its flags (R287; 05 R142). -/
def narrow (fmt : BitVec 3) (x : W32) : Nat × FpFlags :=
  match accFmt fmt with
  | some f => f.round .rne (2 < fmt.toNat) 0 (fmtF32.decode x.toNat).exact
  | none => (x.toNat, fpNone)

/-- The statistics of a row: maximum, sum and sum of squares (R289, 05 R147). -/
def rowStats (fmt : BitVec 3) (xs : List W32) : (W32 × W32 × W32) × FpFlags :=
  let t : Ty := if fmt == 0 then .f32 else .s32
  let words := xs.map fun x => x.setWidth 64
  let sq := xs.map fun (x : W32) => if fmt == 0 then vfltElem 2 fmtF32 .rne false x.toNat x.toNat 0 0 else ((x * x).toNat, fpNone)
  let (a, f1) := reduceTree t 1 .rne 6 words fpNone
  let (b, f2) := reduceTree t 0 .rne 6 words fpNone
  let (c, f3) := reduceTree t 0 .rne 6 (sq.map fun x => BitVec.ofNat 64 x.1) (sq.foldl (fun f x => f ||| x.2) fpNone)
  ((a.setWidth 32, b.setWidth 32, c.setWidth 32), f1 ||| f2 ||| f3)

/-- ARSTAT (R289): lanes whose row holds poison take POISON, the others complete (17 R392). Under paired issue the elements compared
are the three statistics of a lane, 0 to 2 (R290). -/
def State.statRows (s : State) (core : Nat) (m : MatOp) (fmt : BitVec 3) (dst : Reg) (head : Mask) (d : PairDiffer) : State :=
  let c := s.core core
  let prov (l : Nat) : Option Prov := lowestProv ((c.accRow (m.row + l)).map (·.2))
  let bad := (lanesOf head).filter fun l => (prov l).isSome
  let good := (lanesOf head).filter fun l => (prov l).isNone
  let d := s.pairFound m d fun n => good.contains (n / 64) && decide (n % 64 < 3)
  let (tag, s) := s.pairMatrix core m d
  let p (l k : Nat) : Option Prov := pairElem d tag (l * 64 + k) none
  let (s, f) := good.foldl (fun (acc : State × FpFlags) l =>
    let ((x, y, z), g) := rowStats fmt ((c.accRow (m.row + l)).map (·.1))
    (acc.1.updWarp m.g m.w fun w =>
      ((w.setV dst.toNat l x (p l 0)).setV (dst.toNat + 1) l y (p l 1)).setV (dst.toNat + 2) l z (p l 2), acc.2 ||| g)) (s, fpNone)
  let s := s.closeMatrix core m f
  if bad.isEmpty then s
  else
    let p := lowestProv (bad.map prov)
    s.holdTrap (.warp m.g m.w) (some m.op) .poison p ⟨.sync, causeWord .poison none 0 p, m.pc, m.head, m.head, 0, 0,
      some ⟨m.pc, m.head, maskOf fun l => bad.contains l, false⟩⟩

/-- Ends an ALD or AST some of whose rows are aborted (R288): the rows not moved stay in its replay mask, and the
flags of those moved are set (05 R143, R144). -/
def State.abortRows (s : State) (core : Nat) (m : MatOp) (aborted done : Mask) (addr stride : Word) : State :=
  let s := (s.withdraw (s.group m.g).vd (.matrix core m.id)).closeMatrix core m m.flags
  s.holdTrap (.warp m.g m.w) (some m.op) .permission none ⟨.sync, causeWord .permission none 0 none, m.pc, m.head, aborted, 0,
    memRow addr stride (lowestBit aborted), some ⟨m.pc, m.head, ~~~done, true⟩⟩

/-- What moving rows has come to: the rows done, their flags, those aborted and those that meet an absent page. -/
structure Moved where
  done : Mask
  flags : FpFlags
  aborted : Mask
  absent : List (Nat × AbsentAt)
  deriving DecidableEq, Repr

/-- Moves one row of an ALD or AST; a damper holds it back (03 R89), and what differs still under paired issue is written poisoned
(R290). -/
def State.moveRow (s : State) (core : Nat) (m : MatOp) (write : Bool) (fmt : BitVec 3) (addr stride : Word) (d : PairDiffer)
    (x : Moved) (i : Nat) : Moved × State :=
  let a := AgentId.warp m.g m.w
  let vd := (s.group m.g).vd
  let who := ParkOwner.matrix core m.id
  let e := accBytes fmt
  let one := BitVec.ofNat 64 (2 ^ i)
  match s.placeRow a (if write then Need.write else Need.read) (memRow addr stride i) (64 * e) with
  | (.cause _, s) => ({ x with aborted := x.aborted ||| one }, s)
  | (.absent f, s) => ({ x with absent := x.absent ++ [(i, f)] }, s)
  | (.ok ls, s1) =>
    if s1.damps vd ls then (x, s)
    else if write then
      let d := s1.pairFound m d fun n => n / 64 == i
      let (p, s) := s1.pairMatrix core m d
      let row := (s.core core).accRow (m.row + i)
      let out := (row.zip (List.range 64)).map fun (y : (W32 × Option Prov) × Nat) =>
        (narrow fmt y.1.1, pairElem d p (i * 64 + y.2) y.1.2)
      let bs : Bytes := out.flatMap fun y => (leB e y.1.1).map fun b => (b, y.2)
      let (_, s) := (s.meterPlaces vd ls).engineWrite a vd who i ls bs
      ({ x with done := x.done ||| one, flags := out.foldl (fun f y => f ||| y.1.2) x.flags }, s)
    else
      match s1.engineRead vd who i 0 ls with
      | (none, s) => (x, s)
      | (some bs, s) =>
        let xs := (List.range 64).map fun j =>
          let b := (bs.drop (j * e)).take e
          (widen fmt (leN (b.map (·.1))), lowestProv (b.map (·.2)))
        ({ x with done := x.done ||| one }, ((s.meterPlaces vd ls).forget who i).writeRow core m.g (m.row + i) xs)

/-- Parks rows, one fault record for each distinct page (R288). -/
def State.parkRows (s : State) (core : Nat) (m : MatOp) (write : Bool) (xs : List (Nat × AbsentAt)) : State :=
  let vd := (s.group m.g).vd
  let pages := xs.foldl (fun (acc : List AbsentAt) x =>
    if acc.any fun f => f.page == x.2.page && f.phys == x.2.phys then acc else acc ++ [x.2]) []
  pages.foldl (fun s f =>
    let rows := maskOf fun l => xs.any fun x => x.1 == l && x.2.page == f.page && x.2.phys == f.phys
    s.parkUnder vd f (s.engineBy m.g 4 0 write rows.toNat) (.matrix core m.id) rows) s

/-- Moves the rows of an ALD or AST that are neither moved nor parked; the last one completes it (R288). -/
def State.moveRows (s : State) (core : Nat) (m : MatOp) (write : Bool) (fmt : BitVec 3) (addr stride : Word) (done : Mask)
    (d : PairDiffer) : State :=
  let vd := (s.group m.g).vd
  let todo := (lanesOf (~~~done)).filter fun i => !m.parked.any fun (p : Parked) => p.part == i
  let (x, s) := todo.foldl (fun (acc : Moved × State) i => acc.2.moveRow core m write fmt addr stride d acc.1 i)
    (⟨done, fpNone, 0, []⟩, s)
  let dead := x.absent.filter fun y => s.faultAborts vd y.2
  let aborted := x.aborted ||| maskOf fun l => dead.any fun y => y.1 == l
  let s := if dead.isEmpty then s else s.abortNow vd
  let m : MatOp := { m with flags := m.flags ||| x.flags }
  if aborted != 0 then s.abortRows core m aborted x.done addr stride
  else
    let s := s.parkRows core m write x.absent
    let parked := m.parked ++ x.absent.map fun (y : Nat × AbsentAt) => (⟨y.1, y.2.page / 4096, y.2.phys⟩ : Parked)
    if x.done == BitVec.allOnes 64 && !((List.range 64).any fun i => s.engineSending (.matrix core m.id) i) then s.closeMatrix core m m.flags
    else s.setMatOp core { m with parked := parked, kind := if write then .store fmt addr stride x.done else .load fmt addr stride x.done }

/-- Performs the first operation of a matrix unit once it has started (R282, R284). -/
def State.completeMatrix (s : State) (core id : Nat) (d : PairDiffer) : State :=
  match (s.core core).matrix with
  | [] => s
  | m :: _ =>
    if m.id != id || !m.started then s
    else
      match m.kind with
      | .mma fn t rows _ _ sc =>
        let (s, f) := s.multiply core m fn t rows sc d
        s.closeMatrix core m (if t == .s8 || t == .n8 then fpNone else f)
      | .zero =>
        ((List.range 64).foldl (fun (s : State) i => s.writeRow core m.g (m.row + i) []) s).closeMatrix core m fpNone
      | .load fmt addr stride done => s.moveRows core m false fmt addr stride done d
      | .store fmt addr stride done => s.moveRows core m true fmt addr stride done d
      | .stats fmt dst head => s.statRows core m fmt dst head d

/-- MMA (R281). -/
def execMma (o : GMM) (s : State) : Res := mmaOp 8 0 o s

/-- MMAS (R283). -/
def execMmas (o : GMM) (s : State) : Res := mmaOp 8 1 o s

/-- MMAI (R281). -/
def execMmai (o : GMM) (s : State) : Res := mmaOp 8 2 o s

/-- MMAX (R281). -/
def execMmax (o : GMM) (s : State) : Res := mmaOp 8 3 o s

/-- AWIN (R286). -/
def execAwin (o : GMM) (s : State) : Res := awinOp 8 o s

/-- AZERO (R287). -/
def execAzero (o : GMM) (s : State) : Res := accOp 8 1 o s

/-- ALD (R288). -/
def execAld (o : GMM) (s : State) : Res := accMoveOp 8 2 o s

/-- AST (R288). -/
def execAst (o : GMM) (s : State) : Res := accMoveOp 8 3 o s

/-- ARSTAT (R289). -/
def execArstat (o : GMM) (s : State) : Res := accOp 8 4 o s


/-- MATRIX_OP_START (R284). -/
def execMatrixOpStart (core : Nat) (s : State) : Res := .next (s.startMatrix core)

/-- TILE_OP_COMPLETE (R282, R290). -/
def execTileOpComplete (core : Nat) (op : TileEnd) (s : State) : Res := .next (s.completeMatrix core op.op op.differ)

end Sys2Proof.Machine
end

