-- ==== Sys2Proof/Machine/Launch.lean ====
section
/-! DEFINITION. Launch records, their checks and the launches that running kernels queue (03 R75-R79, R91, R96-R98). -/

namespace Sys2Proof.Machine

/-- A launch record from its 128 bytes (03 R75). -/
def LaunchRec.ofBytes (bs : List Byte) : LaunchRec :=
  let words := (List.range 16).map fun i => wordOf ((bs.drop (8 * i)).take 8)
  ⟨words, listGet 0 words 10⟩

/-- QDESC of queue n: DEPTHLOG and ESIZELOG (03 R76). -/
def LaunchRec.qdesc (r : LaunchRec) (n : Nat) : Nat × Nat :=
  let b := fieldN (r.word (5 + n / 8)) (8 * (n % 8) + 7) (8 * (n % 8))
  (b % 16, b / 16)

/-- A number rounded up to a multiple. -/
def roundUp (n m : Nat) : Nat := (n + m - 1) / m * m

/-- The feed queues of a workgroup and its scratchpad extent (03 R76). -/
def LaunchRec.queues (r : LaunchRec) : Table FeedQueue × Nat :=
  (List.range 16).foldl (fun (acc : Table FeedQueue × Nat) n =>
    let (d, e) := r.qdesc n
    if d == 0 then acc
    else
      let base := roundUp acc.2 256
      (acc.1 ++ [(n, ⟨base, d, e + 4, 0, 0, 0, 0, [], []⟩)], base + 2 ^ d * 2 ^ (e + 4))) ([], r.scratch)

/-- Window demand and core-store demand of a workgroup in bytes (03 R91). -/
def LaunchRec.windowDemand (r : LaunchRec) : Nat := r.warps * (4096 * ((r.vregs + 15) / 16))
def LaunchRec.scratchDemand (r : LaunchRec) : Nat := roundUp r.queues.2 4096
def LaunchRec.demand (r : LaunchRec) : Nat :=
  (if r.mirror == 2 then 2 * r.windowDemand else r.windowDemand) + r.scratchDemand

/-- The extents of a grid in workgroups, and how many there are (03 R75). -/
def LaunchRec.gx (r : LaunchRec) : Nat := fieldN (r.word 2) 31 0
def LaunchRec.gy (r : LaunchRec) : Nat := fieldN (r.word 2) 47 32
def LaunchRec.gz (r : LaunchRec) : Nat := fieldN (r.word 2) 63 48
def LaunchRec.count (r : LaunchRec) : Nat := r.gx * r.gy * r.gz

/-- Whether a PC field keeps its limits: canonical, bit 0 zero (03 R75). -/
def pcField (w : Word) : Bool := fieldN w 63 57 == 0 && !w.getLsbD 0

/-- Whether a launch record is invalid for a VD with a core share (03 R77); the last case only for a work record's. -/
def LaunchRec.invalid (r : LaunchRec) (share : Nat) (byRecord : Bool) : Bool :=
  let w := r.word
  let reserved := fieldN (w 3) 39 36 != 0 || fieldN (w 3) 63 48 != 0 || fieldN (w 4) 31 21 != 0 || fieldN (w 4) 63 44 != 0 ||
    fieldN (w 9) 31 20 != 0 || fieldN (w 9) 63 37 != 0 || fieldN (w 12) 63 24 != 0 || fieldN (w 13) 63 32 != 0 ||
    w 14 != 0 || w 15 != 0
  let limits := pcField (w 0) && pcField (w 1) && r.gx != 0 && r.gy != 0 && r.gz != 0 && r.threads != 0 && r.vregs != 0 &&
    decide (r.vregs ≤ 128) && r.scratch % 256 == 0 && r.accRows % 64 == 0 && decide (r.accRows ≤ 2048) &&
    ((List.range 16).all fun n => decide ((r.qdesc n).1 < 13) && decide ((r.qdesc n).2 < 10)) &&
    decide (fieldN (w 9) 19 0 ≤ 1000000) && r.mirror != 3 && fieldN (w 10) 2 0 == 0 && fieldN (w 11) 7 0 == 0 &&
    fieldN (w 12) 7 0 == 0
  reserved || !limits || decide (1024 < r.threads) || decide (2 ^ 32 - 1 < r.count) || r.count % r.gang != 0 ||
    decide (share < r.gang) || decide (1048576 < r.queues.2) || decide (1408 * 1024 < r.windowDemand + r.scratchDemand) ||
    (r.mirror == 2 && decide (1408 * 1024 < 2 * r.windowDemand + r.scratchDemand)) || (byRecord && r.depend)

/-- Entries that a VD, or every VD, holds in the pending-launch store of a die, and in the overflow area (03 R96). -/
def State.storeHeld (s : State) (die : Nat) : Nat := (s.grids.filter fun g => g.2.inStore == some die && !g.2.ended).length
def State.storeHeldBy (s : State) (die vd : Nat) : Nat :=
  (s.grids.filter fun g => g.2.inStore == some die && g.2.vd == vd && !g.2.ended).length
def State.overflowHeld (s : State) (vd : Nat) : Nat := (s.grids.filter fun g => g.2.inOverflow && g.2.vd == vd && !g.2.ended).length

/-- Whether a VD has a workgroup or image waiting for placement (03 R83 BACKLOG): a grid with workgroups not placed, or a saved
image. -/
def State.backlogged (s : State) (vd : Nat) : Bool :=
  (s.grids.any fun g => g.2.vd == vd && !g.2.ended && !g.2.killed && (decide (g.2.placed < g.2.record.count) || !g.2.ready.isEmpty)) ||
  (s.groups.any fun g => g.2.vd == vd && match g.2.residence with | .saved _ _ => true | _ => false)

/-- VD entry words of its scheduling (03 R83). -/
def Vd.setVt (v : Vd) (t : Word) : Vd := v.setWord 4 t
def Vd.setInUse (v : Vd) (n : Nat) : Vd := v.setWord 6 (putField (v.word 6) 8 0 n)
def Vd.setBacklog (v : Vd) (b : Bool) : Vd := v.setWord 6 (setBit (v.word 6) 9 b)

/-- The hard partition of a VD: all cores, or those of its die (03 R80). -/
def State.hardPart (s : State) (vd : Nat) : Nat := if s.pf.partMode && (s.vd vd).part then 1 else 0

/-- Whether VT a comes before b, on the difference modulo 2^64 (03 R86). -/
def vtBefore (a b : Word) : Bool := (a - b).getLsbD 63

/-- Brings BACKLOG in step with what waits; a VD that becomes backlogged catches up with the least VT of the others (03 R86). -/
def State.noteBacklog (s : State) (vd : Nat) : State :=
  let now := s.backlogged vd
  let v := s.vd vd
  if now == v.backlog then s
  else if !now then s.setVd vd (v.setBacklog false)
  else
    let others := s.vds.filter fun e => e.1 != vd && e.2.backlog && s.hardPart e.1 == s.hardPart vd
    match others with
    | [] => s.setVd vd (v.setBacklog true)
    | o :: os =>
      let least := os.foldl (fun (m : Word) e => if vtBefore e.2.vt m then e.2.vt else m) o.2.vt
      s.setVd vd ((v.setVt (if vtBefore v.vt least then least else v.vt)).setBacklog true)

/-- Queues a child grid of workgroup `g` (03 R96-R98), and answers its status. -/
def State.queueLaunch (s : State) (g : Nat) (r : LaunchRec) : Nat × State :=
  let x := s.group g
  let p := s.grid x.grid
  let die := dieOf x.core
  if r.invalid (s.vd x.vd).cores false then (3, s)
  else
    let inStore := decide (s.storeHeld die < 4096) && decide (s.storeHeldBy die x.vd < 1024)
    if !inStore && 65536 ≤ s.overflowHeld x.vd then (2, s)
    else
      let (n, s) := s.fresh
      let child : Grid := { Grid.start with
        vd := x.vd, queue := p.queue, index := p.index, parent := some x.grid, record := r,
        inStore := if inStore then some die else none, inOverflow := !inStore, ended := false }
      let s := (s.setGrid n child).updVd x.vd fun v => { v with gridOrder := v.gridOrder ++ [n] }
      ((if inStore then 0 else 1), s.noteBacklog x.vd)

end Sys2Proof.Machine
end

