-- ==== Sys2Proof/Machine/SpecialRegs.lean ====
section
/-! DEFINITION. The special registers and their reads and writes (04 R105, R120, R124; 05 R140, R144; 07 R197-R199; 19 R421). -/

namespace Sys2Proof.Machine

/-- The GOOD bits of a pipe of a core: the fuses' lanes, of which at least 24 are good (04 R105); a map with fewer reads as
all good (log 11). -/
def laneMap (core pipe : Nat) : BitVec 32 :=
  let ls := (List.range 32).filter (Config.laneGood core pipe)
  if 24 ≤ ls.length then BitVec.ofNat 32 (ls.foldl (fun acc l => acc + 2 ^ l) 0) else BitVec.allOnes 32

/-- Good lanes of a pipe, and the least of the four pipes (04 R105). -/
def goodLanes (core pipe : Nat) : Nat := popCount (laneMap core pipe)
def leastGood (core : Nat) : Nat := min (min (goodLanes core 0) (goodLanes core 1)) (min (goodLanes core 2) (goodLanes core 3))

/-- PASSES (04 R105). -/
def passesOf (g : Nat) : Nat := (64 + g - 1) / g

/-- The role of a control core (19 R421). -/
def ctlRole (c : Nat) : Nat := c / 2

/-- Whether a queue bitmap is nonempty (19 R421, R426). -/
def State.anyQueue (s : State) (f : Queue → Bool) : Bool := s.queues.any fun e => f e.2

/-- Whether a PF command waits to be carried out (02 R45). -/
def State.commandWaits (s : State) : Bool :=
  match s.pf.busy with
  | some c => !c.started
  | none => false

/-- IPEND of a control core (19 R421). -/
def State.ipend (s : State) (c : Nat) : Word :=
  let x := s.ctlCore c
  let b (v : Bool) (n : Nat) : Nat := if v then 2 ^ n else 0
  BitVec.ofNat 64 (b x.pendTimer 5 + b x.pendTake 4 + b s.commandWaits 3 + b (s.anyQueue Queue.sem) 2 +
    b (s.anyQueue Queue.done) 1 + b (s.anyQueue Queue.kick) 0)

/-- The value of a special register for an agent (07 R198). -/
def State.special (s : State) (a : AgentId) (n : Nat) : Word :=
  let g := (groupOf a).getD 0
  let x := s.group g
  let r := s.launchOf g
  let count (c : OpClass) : Word := BitVec.ofNat 64 ((s.agent a).count c)
  let (w, pipe) : Warp × Option Nat := match a with
    | .warp g w => (s.warp g w, some (s.warp g w).pipe)
    | _ => (Warp.start, none)
  match n with
  | 0x000 => 64
  | 0x001 => BitVec.ofNat 64 (leastGood x.core)
  | 0x002 => BitVec.ofNat 64 (passesOf (match pipe with | some p => goodLanes x.core p | none => leastGood x.core))
  | 0x004 => (laneMap x.core 0).setWidth 64
  | 0x005 => (laneMap x.core 1).setWidth 64
  | 0x006 => (laneMap x.core 2).setWidth 64
  | 0x007 => (laneMap x.core 3).setWidth 64
  | 0x010 => BitVec.ofNat 64 (Table.get 0 (s.vd x.vd).coreIds x.core)
  | 0x011 => BitVec.ofNat 64 (clusterOf x.core)
  | 0x012 => BitVec.ofNat 64 (dieOf x.core)
  | 0x018 => BitVec.ofNat 64 x.wgid
  | 0x019 => BitVec.ofNat 64 (2 ^ 32 * (x.wgid % r.gang) + x.wgid / r.gang)
  | 0x01A => r.word 2
  | 0x020 => BitVec.ofNat 64 w.vbase
  | 0x021 => BitVec.ofNat 64 w.abase
  | 0x022 => BitVec.ofNat 64 w.alimit
  | 0x028 => w.spillSp
  | 0x030 => w.fpflags.setWidth 64
  | 0x031 => w.rngSeed.setWidth 64
  | 0x040 => s.clk
  | 0x048 => count .loads
  | 0x049 => count .stores
  | 0x04A => count .copies
  | 0x04B => if pipe.isSome then count .tiles else 0
  | 0x050 => x.tagBits
  | 0x060 => w.trapCause
  | 0x061 => w.trapPc
  | 0x062 => w.trapMask
  | 0x063 => w.skidReg.setWidth 64
  | 0x070 => w.haloWait.setWidth 64
  | _ =>
    match a with
    | .ctl c =>
      let p := s.pair (c / 2)
      match n with
      | 0x800 => BitVec.ofNat 64 (ctlRole c + (if (s.ctlCore c).active then 8 else 0) + (if (s.ctlCore c).peerUp then 16 else 0))
      | 0x801 => p.jnext.setWidth 64
      | 0x802 => p.jtrim.setWidth 64
      | 0x803 => s.ipend c
      | 0x805 => p.mcpeer.setWidth 64
      | _ => 0
    | _ => 0

/-- Writes a special register of an agent (07 R197, R199; 05 R139, R140; 19 R421). -/
def State.setSpecial (s : State) (a : AgentId) (n : Nat) (v : Word) : State :=
  match a with
  | .warp g wn =>
    s.updWarp g wn fun w =>
      match n with
      | 0x028 => { w with spillSp := v }
      | 0x030 => { w with fpflags := v.setWidth 5 }
      | 0x031 =>
        let seed : W32 := v.setWidth 32
        { w with rngSeed := seed, gens := (List.range 64).map fun t => (t, seedOf seed (wn * 64 + t)) }
      | 0x061 => { w with trapPc := v &&& ~~~1 }
      | 0x070 => { w with haloWait := v.setWidth 32 }
      | _ => w
  | .stoker _ => s
  | .ctl c =>
    match n with
    | 0x802 => s.updPair (c / 2) fun p =>
        let x : W32 := v.setWidth 32
        if x.ult p.jtrim || p.jnext.ult x then p else { p with jtrim := x }
    | 0x803 => s.updCtl c fun x =>
        { x with pendTimer := x.pendTimer && !v.getLsbD 5, pendTake := x.pendTake && !v.getLsbD 4 }
    | _ => s

/-- SRD (R197). -/
def execSrd (sd : Reg) (num : BitVec 12) (s : State) : Res :=
  checked ⟨8, 0, 11, .sys ((num ++ (0 : BitVec 7) ++ sd : BitVec 26).setWidth 46)⟩ s fun s =>
    .next (s.writeNext 8 sd (s.special s.cur num.toNat))

/-- SWR (R197). -/
def execSwr (sa : Reg) (num : BitVec 12) (s : State) : Res :=
  checked ⟨8, 0, 12, .sys ((num ++ sa ++ (0 : BitVec 7) : BitVec 26).setWidth 46)⟩ s fun s =>
    .next ((s.setSpecial s.cur num.toNat (s.sreg sa)).advance 8)

end Sys2Proof.Machine
end

