-- ==== Sys2Proof/Machine/System.lean ====
section
/-! DEFINITION. SYS: NOP, EXIT, YIELD, TRAP, TRET, PRIO, WAIT, LAUNCH, HALT and WFI (07 R190-R196; 11 R456; 16 R377, R380), and
the resumption of a WAIT. -/

namespace Sys2Proof.Machine

/-- NOP and YIELD (R190): no architectural effect. -/
def nopOp (len fn : Nat) (b : BitVec 46) (s : State) : Res :=
  checked ⟨len, 0, fn, .sys b⟩ s fun s => .next (s.advance len)

/-! The end of a handler (16 R377, R382). -/

/-- Whether a warp has not ended: some thread holds a frontier entry or is parked at a WSYNC. -/
def Warp.unended (w : Warp) : Bool := !w.frontier.isEmpty || !w.groups.isEmpty

/-- Stops a workgroup that is not halted for its slice end (16 R381, R382): a forced save at once without a slice handler, and
for one that is in a slice handler already. -/
def State.startSlice (s : State) (g : Nat) : State :=
  if (s.launchOf g).shpc == 0 || (s.group g).warps.any (·.inSliceHandler) then
    s.updGroup g fun x => { x with halt := some (.saving false false), sliceDue := false }
  else
    (s.haltBroadcast g).updGroup g fun x => { x with halt := some (.slice false []), sliceDue := false }

/-- Whether asynchronous traps of a workgroup are to be delivered: they are held while a handler runs (16 R375). -/
def Group.asyncDue (x : Group) : Bool := !x.asyncHeld.isEmpty && x.warps.all fun w => w.handler.isEmpty

/-- What follows when a warp has left its handler, or has ended in it: the workgroup resumes when no trap is left; a slice end
is cooperative when every slice handler has returned; and a slice handler that was resumed leaves its warp to the traps that it
held meanwhile. -/
def State.afterHandler (s : State) (g wn : Nat) (kind : TrapKind) : State :=
  let x := s.group g
  match x.halt with
  | some (.trap true) =>
    if x.warps.any (fun w => w.inTrapHandler || w.due) || x.asyncDue then s
    else
      let s := s.updGroup g fun x => { x with halt := none }
      if x.sliceDue then s.startSlice g else s
  | some (.slice true returned) =>
    if kind != .slice then s
    else
      let r := wn :: returned
      let all := (List.range x.warps.length).all fun i => r.contains i || !(s.warp g i).unended
      s.updGroup g fun x => { x with halt := some (if all then .saving true false else .slice true r) }
  | none => if (s.warp g wn).due then s.haltBroadcast g else s
  | _ => s

/-- TRET (R192; 16 R380). -/
def tretOp (len : Nat) (b : BitVec 46) (s : State) : Res :=
  checked ⟨len, 0, 5, .sys b⟩ s fun s =>
    match s.cur with
    | .warp g wn =>
      let w := s.warp g wn
      match w.handler with
      | [] => .next (s.trap .illegal)
      | h :: _ => .next ((s.setWarp g wn w.leaveHandler).afterHandler g wn h.kind)
    | _ => .next (s.trap .illegal)

/-- TRAP (R192; 16 R379): SOFTWARE with TRAPPC at Next. -/
def trapOp (len : Nat) (b : BitVec 46) (s : State) : Res :=
  checked ⟨len, 0, 4, .sys b⟩ s fun s =>
    let m := s.headMask
    .next (s.holdTrap s.cur none .software none ⟨.sync, causeWord .software none (fieldN b 15 0) none, s.nextPc len, m, m, 0, 0, none⟩)

/-! EXIT (R191; 11 R279, R456; 13 R335). -/

/-- Takes exited threads that have not signed out of every declared set, and issues the operations that this completes; the
trap of one that fails is the EXIT's. -/
def State.exitConvs (s : State) (g wn : Nat) (h : Mask) : List Nat → Issued
  | [] => .done s
  | n :: ns =>
    let c := (s.warp g wn).conv n
    let c1 : Conv := { c with declared := c.declared &&& ~~~(h &&& ~~~c.signed) }
    if c1.signed != 0 && c1.signed == c1.declared && c1.declared != c.declared then
      match s.issueMatrix g wn n c1 s.pc h with
      | .done s => s.exitConvs g wn h ns
      | r => r
    else (if c1.declared == c.declared then s else s.updWarp g wn fun w => w.setConv n c1).exitConvs g wn h ns

/-- The head's threads exit: they leave the frontier and every WSYNC mask. -/
def Warp.exitHead (w : Warp) : Warp :=
  let h := w.head.mask
  Warp.releaseGroups { w with
    exited := w.exited ||| h
    frontier := w.frontier.drop 1
    replay := w.replay.filterMap fun r => if r.head &&& ~~~h == 0 then none else some { r with head := r.head &&& ~~~h }
    groups := w.groups.map fun (y : SyncGroup) => { y with mask := y.mask &&& ~~~h } }

/-- EXIT (R191). -/
def exitOp (len : Nat) (b : BitVec 46) (s : State) : Res :=
  checked ⟨len, 0, 2, .sys b⟩ s fun s =>
    match s.cur with
    | .warp g wn =>
      match s.exitConvs g wn (s.warp g wn).head.mask (List.range 8) with
      | .trap c x => .next (s.trapAt c x)
      | .wait => .next s
      | .done s =>
        let w := (s.warp g wn).exitHead
        match w.unended, w.handler with
        | false, h :: _ => .next ((s.setWarp g wn { w with handler := [], held := [] }).afterHandler g wn h.kind)
        | _, _ => .next (s.setWarp g wn w)
    | .stoker g => .next ((s.updAgent (.stoker g) fun a => { a with ended := true }).advance len)
    | .ctl _ => .next (s.trap .wrongAgent)

/-- PRIO (R193). -/
def prioOp (len : Nat) (b : BitVec 46) (s : State) : Res :=
  checked ⟨len, 0, 6, .sys b⟩ s fun s =>
    match s.cur with
    | .warp g wn => .next (s.updWarp g wn fun w => w.moveHead [⟨b.setWidth 3, s.nextPc len, w.head.mask⟩])
    | _ => .next (s.trap .wrongAgent)

/-! WAIT (R194). -/

/-- The limits of a WAIT. -/
def waitLimits (b : BitVec 46) : WaitOp := ⟨b.extractLsb' 0 6, b.extractLsb' 6 6, b.extractLsb' 12 6, b.extractLsb' 18 6⟩

/-- Whether an agent's counters are within the limits of a WAIT. -/
def Agent.within (a : Agent) (o : WaitOp) : Bool :=
  decide (a.count .loads ≤ o.loads.toNat) && decide (a.count .stores ≤ o.stores.toNat) &&
  decide (a.count .copies ≤ o.copies.toNat) && decide (a.count .tiles ≤ o.tiles.toNat)

/-- WAIT (R194). -/
def waitOp (len : Nat) (b : BitVec 46) (s : State) : Res :=
  checked ⟨len, 0, 7, .sys b⟩ s fun s =>
    let o := waitLimits b
    if (s.agent s.cur).within o then .next (s.advance len) else .next (s.waitFor len (.counters o))

/-- WAIT_RESUME (R194). -/
def execWaitResume (a : AgentId) (s : State) : Res :=
  match (s.agent a).wait with
  | some w =>
    match w.kind with
    | .counters o => if s.mayResume a && (s.agent a).within o then .next ((s.as a).resumeAt w) else .next s
    | _ => .next s
  | none => .next s

/-! LAUNCH (R195). -/

/-- Loads the 128 bytes of a launch record for the executing agent (03 R97): a fault puts the record's address in s92. -/
def launchLoad (addr : Word) (s : State) (k : List Byte → State → Res) : Res :=
  let a := s.cur
  let m : MemOp := ⟨.load, 64, false, 0, false, false, s.pc, s.headMask⟩
  let (f, s) := s.classify a m false ⟨0, addr, [], none, []⟩
  let (h, s) := s.classify a m false ⟨0, addr + 64, [], none, []⟩
  match f, h with
  | .cause c p, .cause d q =>
    let (x, y) := if d.priority < c.priority then (d, q) else (c, minProv p (if c == d then q else none))
    .next (s.trapWith x none y s.headMask 0 addr none)
  | .cause c p, _ | _, .cause c p => .next (s.trapWith c none p s.headMask 0 addr none)
  | .absent f, _ | _, .absent f => .next (s.waitPage m f addr)
  | .wait, _ | _, .wait => .next s
  | .ok ls, .ok ns =>
    let places := [ls.headD ⟨.hbm, 0⟩, ns.headD ⟨.hbm, 0⟩].flatMap fun l => (List.range 64).map l.plus
    if places.any fun l => l.space == .fabric then
      match s.engineRead (s.vdOf a) (.agent a 0) 0 0 places with
      | (some bs, s) =>
        let s := s.forget (.agent a 0) 0
        match lowestProv (bs.map (·.2)) with
        | some p => .next (s.trapWith .poison none (some p) s.headMask 0 addr none)
        | none => k (bs.map (·.1)) s
      | (none, s) => .next s
    else k (places.map fun l => (s.loadByte a l).1) (s.meterPlaces (s.vdOf a) places)

/-- LAUNCH (R195): it executes once for the warp, as a release. -/
def launchOp (len : Nat) (b : BitVec 46) (s : State) : Res :=
  checked ⟨len, 0, 8, .sys b⟩ s fun s =>
    match groupOf s.cur with
    | none => .next (s.trap .wrongAgent)
    | some g =>
      let addr := s.sreg (b.extractLsb' 7 7)
      if addr.toNat % 64 != 0 then .next (s.trapAt .misalign addr)
      else if !s.released s.cur then .next (s.drainFor s.cur)
      else
        launchLoad addr s fun bs s =>
          let (status, s) := s.queueLaunch g (LaunchRec.ofBytes bs)
          .next (s.writeNext len (b.extractLsb' 0 7) (BitVec.ofNat 64 status))

/-! HALT and WFI (R196; 19 R420, R430). -/

/-- HALT (R196): a machine check of code 5. -/
def haltOp (len : Nat) (b : BitVec 46) (s : State) : Res :=
  checked ⟨len, 0, 9, .sys b⟩ s fun s =>
    match s.cur with
    | .ctl c => .next (s.machineCheck c 5)
    | _ => .next (s.trap .wrongAgent)

/-- WFI (R196; 19 R420): the core stays at the WFI while IPEND is 0. -/
def wfiOp (len : Nat) (b : BitVec 46) (s : State) : Res :=
  checked ⟨len, 0, 10, .sys b⟩ s fun s =>
    match s.cur with
    | .ctl c => if s.ipend c == 0 then .next s else .next (s.advance len)
    | _ => .next (s.trap .wrongAgent)

/-- NOP (R190). -/
def execNop (s : State) : Res := nopOp 8 1 0 s

/-- EXIT (R191). -/
def execExit (s : State) : Res := exitOp 8 0 s

/-- YIELD (R190). -/
def execYield (s : State) : Res := nopOp 8 3 0 s

/-- TRAP (R192). -/
def execTrap (code : BitVec 16) (s : State) : Res := trapOp 8 (code.setWidth 46) s

/-- TRET (R380). -/
def execTret (s : State) : Res := tretOp 8 0 s

/-- PRIO (R193). -/
def execPrio (n : BitVec 3) (s : State) : Res := prioOp 8 (n.setWidth 46) s

/-- WAIT (R194). -/
def execWait (o : WaitOp) (s : State) : Res := waitOp 8 (waitBits o) s

/-- LAUNCH (R195). -/
def execLaunch (sd sa : Reg) (s : State) : Res := launchOp 8 ((sa ++ sd : BitVec 14).setWidth 46) s

/-- HALT (R196). -/
def execHalt (s : State) : Res := haltOp 8 0 s

/-- WFI (R196). -/
def execWfi (s : State) : Res := wfiOp 8 0 s

/-- NOP_SHORT (R156). -/
def execNopShort (s : State) : Res := nopOp 4 1 0 s

/-- EXIT_SHORT (R156). -/
def execExitShort (s : State) : Res := exitOp 4 0 s

/-- YIELD_SHORT (R156). -/
def execYieldShort (s : State) : Res := nopOp 4 3 0 s

/-- TRAP_SHORT (R156). -/
def execTrapShort (code : BitVec 16) (s : State) : Res := trapOp 4 (code.setWidth 46) s

/-- TRET_SHORT (R156). -/
def execTretShort (s : State) : Res := tretOp 4 0 s

/-- PRIO_SHORT (R156). -/
def execPrioShort (n : BitVec 3) (s : State) : Res := prioOp 4 (n.setWidth 46) s

/-- HALT_SHORT (R156). -/
def execHaltShort (s : State) : Res := haltOp 4 0 s

/-- WFI_SHORT (R156). -/
def execWfiShort (s : State) : Res := wfiOp 4 0 s

/-- WAIT_SHORT (R155). -/
def execWaitShort (o : WaitOp) (s : State) : Res := waitOp 4 (waitBits o) s

end Sys2Proof.Machine
end

