-- ==== Sys2Proof/Machine/WorkQueue.lean ====
section
/-! DEFINITION. Work queues: kicks, the start, completion and retirement of records, and interrupt remapping (02 R54-R74; 17
R406; 19 R424-R429). -/

namespace Sys2Proof.Machine

/-! Registers and states. -/

/-- A bit of VDEVT goes to 1 (02 R53). -/
def State.vdEvent (s : State) (vd n : Nat) : State :=
  let v := s.vd vd
  if v.vdevt.getLsbD n then s
  else (s.setVd vd { v with vdevt := v.vdevt ||| BitVec.ofNat 4 (2 ^ n) }).interrupt (1025 + 2 * vd) vd

/-- EXPERT of a VD (02 R51), and the expert fields as they apply. -/
def Vd.expert (v : Vd) : Bool := v.vdctl.getLsbD 1
def Vd.semPoll (v : Vd) : Nat := if v.expert && fieldN v.vdctl 15 8 != 0 then fieldN v.vdctl 15 8 else 0x14
def Queue.qsize (q : Queue) : Nat := fieldN q.qcfg 4 0
def Queue.csize (q : Queue) : Nat := fieldN q.qcfg 12 8
def Queue.enabled (q : Queue) : Bool := q.qcfg.getLsbD 31
def Queue.wdog (q : Queue) (v : Vd) : Nat := if v.expert then fieldN q.qcfg 27 20 else 0x64

/-- Whether a queue takes records: IDLE, PENDING or WAITING. -/
def Queue.running (q : Queue) : Bool := q.state == 1 || q.state == 2 || q.state == 3

/-- A queue error (02 R59, R68). -/
def State.queueError (s : State) (q err : Nat) : State :=
  let x := s.queue q
  if !x.running then s
  else (s.setQueue q { x with state := 4, err := BitVec.ofNat 8 err }).vdEvent x.vd.toNat 2

/-- Loads an IRT entry from its registers; VALID, OWNER and HOLD stay (02 R73). The entries of the fault queue and of VDEVT, for which
VDCTL has no count and no time, are loaded with 0 in both (DESIGN CHOICE, log 91). -/
def loadIrt (old : Word) (vector count time : Nat) : Word :=
  putField (putField (putField old 15 10 vector) 23 16 count) 31 24 time

/-- Loads the IRT entries of a VD from QCFG, QCOAL and VDCTL (02 R51, R73). -/
def State.loadIrts (s : State) (vd : Nat) : State :=
  let v := s.vd vd
  let s := (List.range v.qcount).foldl (fun (s : State) i =>
    let n := v.qfirst + i
    let q := s.queue n
    let e := s.irtEntry n
    let (c, t) := if v.expert then (fieldN q.qcoal 7 0, fieldN q.qcoal 15 8) else (0, 0)
    s.setIrt n { e with word := loadIrt e.word (fieldN q.qcfg 19 14) c t }) s
  let f := s.irtEntry (1024 + 2 * vd)
  let s := s.setIrt (1024 + 2 * vd) { f with word := loadIrt f.word (fieldN v.vdctl 21 16) 0 0 }
  let g := s.irtEntry (1025 + 2 * vd)
  s.setIrt (1025 + 2 * vd) { g with word := loadIrt g.word (fieldN v.vdctl 29 24) 0 0 }

/-- The writable bits of QCFG, and those that are held while the queue is enabled or STOPPING (02 R56, R58). -/
def qcfgMask : W32 := 0x8FFFFF1F
def qcfgSizes : W32 := 0x00001F1F

/-- A write of QCFG (02 R56, R58, R59). KSTAT.ERR returns to 0 when a write of EN = 1 is accepted, with the indices (DESIGN CHOICE,
log 90: R61 does not say when). -/
def State.writeQcfg (s : State) (n : Nat) (value : W32) : State :=
  let q := s.queue n
  let held := q.enabled || q.state == 5
  let v := if held then (value &&& qcfgMask &&& ~~~qcfgSizes) ||| (q.qcfg &&& qcfgSizes) else value &&& qcfgMask
  let on := value.getLsbD 31
  let set (b : Bool) : W32 := if b then v ||| 0x80000000#32 else v &&& 0x7FFFFFFF#32
  let qs := fieldN v 4 0
  let cs := fieldN v 12 8
  let good := decide (4 ≤ qs) && decide (qs ≤ 16) && decide (4 ≤ cs) && decide (cs ≤ 16) && fieldN q.qbase 51 6 != 0 &&
    fieldN q.cbase 51 6 != 0
  let q' : Queue :=
    if q.state == 5 then { q with qcfg := set false }
    else if on && q.state == 0 then
      if good then { q with qcfg := set true, state := 1, err := 0, head := 0, tail := 0, next := 0, cprod := 0, kccons := 0,
                            runs := [], staged := [], retiring := [] }
      else { q with qcfg := set false, cfgErr := true }
    else if on then { q with qcfg := set true }
    else { q with qcfg := set false, state := if q.state == 0 then 0 else 5 }
  (s.setQueue n q').loadIrts q.vd.toNat

/-- Whether the registers and the kick page of a queue respond: its VD owns it and its VF responds (02 R37). -/
def State.queueOpen (s : State) (q : Nat) : Bool :=
  let v := s.vd (s.queue q).vd.toNat
  v.responds && decide (v.qfirst ≤ q) && decide (q < v.qfirst + v.qcount)

/-- QUEUE_ENABLE (02 R58). -/
def execQueueEnable (q : Nat) (value : W32) (s : State) : Res :=
  .next (if s.queueOpen q then s.writeQcfg q (value ||| 0x80000000#32) else s)

/-- QUEUE_DISABLE (02 R59). -/
def execQueueDisable (q : Nat) (value : W32) (s : State) : Res :=
  .next (if s.queueOpen q then s.writeQcfg q (value &&& 0x7FFFFFFF#32) else s)

/-- QUEUE_STOPPED (02 R59): no record of a STOPPING queue is in flight. -/
def execQueueStopped (q : Nat) (s : State) : Res :=
  let x := s.queue q
  if x.state == 5 && x.runs.isEmpty && x.staged.isEmpty && x.retiring.isEmpty then .next (s.setQueue q { x with state := 0 })
  else .next s

/-- A write of KTAIL: a kick (02 R62). -/
def State.kickQueue (s : State) (q : Nat) (value : W32) : State :=
  if s.queueOpen q then s.updQueue q fun x => { x with
    latch := value
    kick := true }
  else s

/-- KICK. -/
def execKick (q : Nat) (value : W32) (s : State) : Res := .next (s.kickQueue q value)

/-- A write of KCCONS (02 R72). -/
def State.writeKccons (s : State) (q : Nat) (value : W32) : State :=
  let x := s.queue q
  if !s.queueOpen q || 2 ^ x.csize < (x.cprod - value).toNat then s else s.setQueue q { x with kccons := value }

/-- KCCONS_WRITE. -/
def execKcconsWrite (q : Nat) (value : W32) (s : State) : Res := .next (s.writeKccons q value)

/-! Work records (02 R65-R67). -/

/-- The KIND of a record. -/
def recordKind (w : List Word) : Nat := fieldN (listGet 0 w 0) 7 0

/-- The bits of words 1 to 4 that a KIND gives fields. -/
def recordBits (kind : Nat) : List Word :=
  let all : Word := BitVec.allOnes 64
  match kind with
  | 1 => [all, all, 0, 0]
  | 2 => [all, all, 0xFFFFFFFF00000003, 0]
  | 3 => [all, all, 3, 0]
  | 4 => [all, all, all, 1]
  | _ => [0, 0, 0, 0]

/-- Whether a record is valid (02 R67). -/
def validRecord (w : List Word) : Bool :=
  let k := recordKind w
  let x (i : Nat) : Word := listGet 0 w i
  decide (1 ≤ k) && decide (k ≤ 6) && fieldN (x 0) 63 32 == 0 && fieldN (x 0) 15 11 == 0 &&
  ((List.range 4).all fun i => x (i + 1) &&& ~~~(listGet 0 (recordBits k) i) == 0) &&
  ((List.range 3).all fun i => x (i + 5) == 0) &&
  (!(k == 2 || k == 3) || (fieldN (x 3) 1 0 != 3 && fieldN (x 1) 2 0 == 0)) &&
  (k != 1 || fieldN (x 1) 5 0 == 0) && (k != 4 || decide ((x 3).toNat ≤ 2 ^ 48))

/-! What the engines of the I/O die reach (02 R66, R68). -/

/-- Runs of at most a page that cover `n` bytes from an address; `fuel` bounds their number. -/
def pageRuns : Nat → Nat → Nat → List (Nat × Nat)
  | 0, _, _ => []
  | fuel + 1, x, n =>
    if n == 0 then []
    else
      let m := min n (4096 - x % 4096)
      (x, m) :: pageRuns fuel (x + m) (n - m)

/-- Places bytes of one page for a record. -/
def State.placeVirt (s : State) (vd root va n : Nat) (need : Need) : Placed × State :=
  if 2 ^ 57 < va + n then (.cause .permission, s)
  else
    match s.translate .io vd root va need with
    | (.ok l, s) => (s.fabricCheck vd (.ok ((List.range n).map l.plus)), s)
    | (.error (.permission _), s) => (.cause .permission, s)
    | (.error (.absent st2 vdpa tbl), s) => (.absent ⟨4096 * (va / 4096), false, st2, vdpa, tbl, false⟩, s)
    | (.error (.cbw pa), s) => (.absent ⟨4096 * (pa / 4096), true, false, 0, false, true⟩, s)

/-- What reaching a record's bytes comes to. -/
inductive Reached where
  | ok (ls : List Loc)
  | bad
  | wait
  deriving DecidableEq, Repr

/-- Parks a record's access under a fault record, unless one stands; bad when no one will answer (02 R68, 12 R312). -/
def State.parkRecord (s : State) (q i : Nat) (write : Bool) (f : AbsentAt) : Reached × State :=
  let x := s.queue q
  let vd := x.vd.toNat
  if s.faultAborts vd f then (.bad, s.abortNow vd)
  else if (s.vd vd).faults.any fun r => r.owner == .record q i && r.page == f.page / 4096 && !r.answered then (.wait, s)
  else (.wait, s.parkUnder vd f ⟨6, 0, x.local_.toNat, 0, false, write, 0⟩ (.record q i) 0)

/-- Reaches `n` bytes of a record of queue `q` (02 R68). -/
def State.reachRecord (s : State) (q i va n : Nat) (need : Need) : Reached × State :=
  let x := s.queue q
  (pageRuns (n / 4096 + 2) va n).foldl (fun (acc : Reached × State) r =>
    match acc.1 with
    | .bad => acc
    | _ =>
      match acc.2.placeVirt x.vd.toNat x.root r.1 r.2 need with
      | (.ok ls, s) => ((match acc.1 with | .ok old => .ok (old ++ ls) | y => y), s)
      | (.cause _, s) => (.bad, s)
      | (.absent f, s) =>
        match s.parkRecord q i need.w f with
        | (.bad, s) => (.bad, s)
        | (_, s) => (.wait, s)) (.ok [], s)

/-- Reads `n` bytes for a record; none while they cannot be had, or while a damper holds the read (03 R89; 13 R327: with acquire
order). Poison is not consumed (log 22). -/
def State.readRecord (s : State) (q i va n : Nat) : Option (Option (List Byte)) × State :=
  match s.reachRecord q i va n Need.read with
  | (.bad, s) => (some none, s)
  | (.wait, s) => (none, s)
  | (.ok ls, s) =>
    let vd := (s.queue q).vd.toNat
    if s.damps vd ls then (none, s)
    else
    match s.engineRead vd (.record q i) 0 0 ls with
    | (some bs, s) => (some (some (bs.map (·.1))), (s.forget (.record q i) 0).meterPlaces vd ls)
    | (none, s) => (none, s)

/-! The end of a record (02 R68; 19 R428). -/

/-- The run of record `i`. -/
def Queue.run (q : Queue) (i : Nat) : Option RecordRun := q.runs.find? fun r => r.index.toNat == i
def State.updRun (s : State) (q i : Nat) (f : RecordRun → RecordRun) : State :=
  s.updQueue q fun x => { x with runs := x.runs.map fun (r : RecordRun) => if r.index.toNat == i then f r else r }

/-- A WAITSEM that has started and not completed. -/
def RecordRun.waits (r : RecordRun) : Bool := !r.completed && recordKind r.words == 2

/-- What a record still asked of remote homes is asked no more. -/
def State.forgetRecord (s : State) (who : ParkOwner) : State :=
  if s.engineData.any (fun e => e.who == who) || s.remote.any fun r => match r.use with | .engineRead w _ _ => w == who | _ => false
  then { s with
    engineData := s.engineData.filter fun e => e.who != who
    remote := s.remote.filter fun r => match r.use with
      | .engineRead w _ _ => w != who
      | _ => true }
  else s

/-- A record completes: its outcome, the queue error that goes with it, and the done bit (19 R426). -/
def State.completeRun (s : State) (q i status cause : Nat) (prov : Prov) (time : Word) (err : Nat) : State :=
  let s := s.updRun q i fun r => { r with completed := true, status := BitVec.ofNat 8 status, cause := BitVec.ofNat 8 cause,
                                          prov := prov, coreTime := time }
  let s := (s.forgetRecord (.record q i)).updQueue q fun x => { x with
    done := true
    state := if x.state == 3 && !x.runs.any RecordRun.waits then 2 else x.state }
  if err == 0 then s else s.queueError q err

/-- Evaluates a WAITSEM (02 R68, R69); the evaluation stays due while the semaphore cannot be read. -/
def State.evalWait (s : State) (q i : Nat) : State :=
  match (s.queue q).run i with
  | none => s
  | some r =>
    if !r.waits then s
    else
      let x (k : Nat) : Word := listGet 0 r.words k
      match s.readRecord q i (x 1).toNat 8 with
      | (none, s) => s.updRun q i fun r => { r with moved := 1 }
      | (some none, s) => s.completeRun q i 5 0 0 0 6
      | (some (some bs), s) =>
        let v := leN bs
        let hit := match fieldN (x 3) 1 0 with
          | 0 => decide ((x 2).toNat ≤ v)
          | 1 => v == (x 2).toNat
          | _ => v != (x 2).toNat
        if hit then s.completeRun q i 0 0 0 0 0
        else (s.updRun q i fun r => { r with moved := 0 }).updQueue q fun y => { y with state := if y.state == 2 then 3 else y.state }

/-- A re-evaluation event for a queue (02 R69; 19 R426): its sem bit when it is WAITING, and its waiting WAITSEM. -/
def State.semEvent (s : State) (q : Nat) : State :=
  let x := s.queue q
  match x.runs.find? RecordRun.waits with
  | none => s
  | some r => (s.setQueue q { x with sem := x.sem || x.state == 3 }).evalWait q r.index.toNat

/-- Re-evaluation events for every queue that a condition selects. -/
def State.semEvents (s : State) (f : Nat → Queue → Bool) : State :=
  (s.queues.filter fun e => f e.1 e.2).foldl (fun s e => s.semEvent e.1) s

/-- SEMPOLL_TICK (02 R69). -/
def execSempollTick (vd : Nat) (s : State) : Res := .next (s.semEvents fun _ x => x.vd.toNat == vd)

/-- WAITSEM_TIMEOUT (02 R68): a WAITSEM with a timeout completes with TIMEOUT. -/
def execWaitsemTimeout (q : Nat) (s : State) : Res :=
  match (s.queue q).runs.find? RecordRun.waits with
  | some r => if fieldN (listGet 0 r.words 3) 63 32 == 0 then .next s else .next (s.completeRun q r.index.toNat 3 0 0 0 0)
  | none => .next s

/-! Starting a record (02 R68; 19 R428). -/

/-- The grids of a root record. -/
def State.treeOf (s : State) (q i : Nat) : List (Nat × Grid) :=
  s.grids.filter fun g => g.2.queue == q && g.2.index == i

/-- Takes the grids of a record, with their workgroups, out of the tables. -/
def State.dropTree (s : State) (q i : Nat) : State :=
  let ids := (s.treeOf q i).map (·.1)
  let vd := (s.queue q).vd.toNat
  ({ s with grids := s.grids.filter fun g => !ids.contains g.1
            groups := s.groups.filter fun g => !ids.contains g.2.grid }.updVd vd fun v =>
    { v with gridOrder := v.gridOrder.filter fun n => !ids.contains n }).noteBacklog vd

/-- A LAUNCH completes: its tree goes, and the waiting WAITSEMs of its VD are evaluated again (02 R69). -/
def State.finishLaunch (s : State) (q i status cause : Nat) (prov : Prov) (time : Word) (err : Nat) : State :=
  let vd := (s.queue q).vd
  ((s.dropTree q i).completeRun q i status cause prov time err).semEvents fun _ x => x.vd == vd

/-- The grid of a LAUNCH record takes its place among the VD's grids when the record starts (03 R93); its launch record is still to
be read. -/
def State.openGrid (s : State) (q i : Nat) : State :=
  let vd := (s.queue q).vd.toNat
  let (n, s) := s.fresh
  let s := s.setGrid n { Grid.start with vd := vd, queue := q, index := i, ended := false }
  let s := s.updVd vd fun v => { v with gridOrder := v.gridOrder ++ [n] }
  s.updRun q i fun x => { x with grid := some n }

/-- The launch record of a work record that names its own ARGS (03 R78). -/
def LaunchRec.withArgs (r : LaunchRec) (args : Word) : LaunchRec :=
  if args == 0 then r else { words := listSet r.words 10 args, args := args }

/-- The remote atomic of a SIGNAL: WRITE, ADD or MAX as codes of 09 R252. -/
def signalCode (op : Nat) : BitVec 4 := if op == 0 then 8 else if op == 1 then 0 else 4

/-- A SIGNAL at its place (02 R68): one atomic update with release order. -/
def State.signalAt (s : State) (q i op : Nat) (v : Word) (ls : List Loc) : State :=
  let l := ls.headD ⟨.hbm, 0⟩
  let vd := (s.queue q).vd.toNat
  if op == 2 && l.space == .host then s.completeRun q i 5 0 0 0 6
  else if s.damps vd ls then s
  else if l.space == .fabric then
    let s := (s.sendRemote vd l.off (.atomic (signalCode op) true v 0) (.engineWrite (.record q i) 0)).2
    s.updRun q i fun r => { r with moved := 1 }
  else
    let old := wordOf (s.readBytes l 8)
    let new := if op == 0 then v else if op == 1 then old + v else if old.toNat < v.toNat then v else old
    ((s.engineStore (writesAt l (bytesOf new) none)).meterPlaces vd ls).completeRun q i 0 0 0 0 0

/-- Carries a started record on (02 R68). A COPY and a FENCEQ go on by their own events. -/
def State.runRecord (s : State) (q i : Nat) : State :=
  match (s.queue q).run i with
  | none => s
  | some r =>
    let x (k : Nat) : Word := listGet 0 r.words k
    if r.completed then s
    else
      match recordKind r.words with
      | 1 =>
        match r.grid with
        | none => s
        | some n =>
          if !(s.grid n).record.words.isEmpty then s
          else
            match s.readRecord q i (x 1).toNat 128 with
            | (none, s) => s
            | (some none, s) => s.finishLaunch q i 5 0 0 0 6
            | (some (some bs), s) =>
              let vd := (s.queue q).vd.toNat
              let l := LaunchRec.ofBytes bs
              if l.invalid (s.vd vd).cores true then s.finishLaunch q i 1 0 0 0 1
              else (s.updGrid n fun g => { g with record := l.withArgs (x 2) }).noteBacklog vd
      | 2 => if r.moved == 1 then s.evalWait q i else s
      | 3 =>
        if r.moved == 1 then
          if s.engineSending (.record q i) 0 then s else s.completeRun q i 0 0 0 0 0
        else
          match s.reachRecord q i (x 1).toNat 8 Need.update with
          | (.bad, s) => s.completeRun q i 5 0 0 0 6
          | (.wait, s) => s
          | (.ok ls, s) => s.signalAt q i (fieldN (x 3) 1 0) (x 2) ls
      | 6 => s.completeRun q i 0 0 0 0 0
      | _ => s

/-- Reads record `i` of the ring at stage 2 (02 R54, R60, R68): its words, a fault, or a wait for its page. -/
def State.ringRead (s : State) (q i : Nat) : Option (Option (List Word)) × State :=
  let x := s.queue q
  let vd := x.vd.toNat
  let addr := fieldN x.qbase 51 6 * 64 + i % 2 ^ x.qsize * 64
  match s.stage2 vd addr Need.read with
  | (.ok l, s) =>
    if s.damps vd [l] then (none, s)
    else if l.space == .fabric then
      if !s.fabricOk vd l.off then (some none, s)
      else
        match s.engineRead vd (.record q i) 1 0 ((List.range 64).map l.plus) with
        | (some bs, s) => (some (some ((List.range 8).map fun k => wordOf (((bs.map (·.1)).drop (8 * k)).take 8))), s.forget (.record q i) 1)
        | (none, s) => (none, s)
    else (some (some ((List.range 8).map fun k => wordOf (s.readBytes (l.plus (8 * k)) 8))),
      if l.space == .hbm then s.meterHbm vd 64 else s)
  | (.error (.absent st2 vdpa tbl), s) =>
    match s.parkRecord q i false ⟨4096 * (addr / 4096), true, st2, vdpa, tbl, false⟩ with
    | (.bad, s) => (some none, s)
    | (_, s) => (none, s)
  | (.error _, s) => (some none, s)

/-- Whether R68 lets a record start now. -/
def Queue.mayStart (q : Queue) (i : Nat) (w : List Word) : Bool :=
  let open_ := q.runs.filter fun r => !r.completed
  let k := recordKind w
  let prevOpen := open_.any fun r => r.index.toNat == (i + 2 ^ 32 - 1) % 2 ^ 32
  !open_.any RecordRun.waits && (!(k == 3 || k == 5) || open_.isEmpty) && (!prevOpen || (listGet 0 w 0).getLsbD 10)

/-- START (19 R428): 0 started, 1 not NEXT or not LIVE, 2 not now. -/
def State.startRecord (s : State) (q i : Nat) : Nat × State :=
  let x := s.queue q
  if !(s.vd x.vd.toNat).works || x.next.toNat != i then (1, s)
  else if !x.running || x.tail.toNat == i then (2, s)
  else
    match s.ringRead q i with
    | (none, s) => (2, s)
    | (some none, s) => (2, s.queueError q 3)
    | (some (some w), s) =>
      if !(s.queue q).mayStart i w then (2, s)
      else
        let k := recordKind w
        let r : RecordRun := ⟨BitVec.ofNat 32 i, w, none, false, 0, 0, 0, 0, s.clk.toNat, if k == 2 then 1 else 0⟩
        let s := s.updQueue q fun x => { x with next := x.next + 1, runs := x.runs ++ [r] }
        (0, if validRecord w then (if k == 1 then s.openGrid q i else s).runRecord q i
          else if k == 1 then s.finishLaunch q i 1 0 0 0 1 else s.completeRun q i 1 0 0 0 1)

/-! System copies, fences and launches (02 R68). -/

/-- One chunk of a COPY: from `lo` on, within one page of each side. -/
def copyChunk (src dst lo len : Nat) : Nat :=
  min (len - lo) (min (4096 - (src + lo) % 4096) (4096 - (dst + lo) % 4096))

/-- The chunks of a COPY in the order that reads every byte before it is written: upward, or downward where the destination
overlaps the source from above. Each is its start and length. -/
def copyChunks (src dst len : Nat) : Nat → Nat → List (Nat × Nat)
  | 0, _ => []
  | fuel + 1, lo =>
    if len ≤ lo then []
    else
      let n := copyChunk src dst lo len
      (lo, n) :: copyChunks src dst len fuel (lo + n)

def copyOrder (src dst len : Nat) (zero : Bool) : List (Nat × Nat) :=
  let up := copyChunks src dst len (2 * (len / 4096 + 2)) 0
  if !zero && src < dst && dst < src + len then up.reverse else up

/-- Moves one chunk of a COPY; none while it cannot be moved or a damper holds it (03 R89). -/
def State.moveChunk (s : State) (q i k src dst : Nat) (zero : Bool) (c : Nat × Nat) : Option Bool × State :=
  let vd := (s.queue q).vd.toNat
  let (from_, s) := if zero then (Reached.ok [], s) else s.reachRecord q i (src + c.1) c.2 Need.read
  let (to_, s) := s.reachRecord q i (dst + c.1) c.2 Need.write
  match from_, to_ with
  | .bad, _ | _, .bad => (some false, s)
  | .wait, _ | _, .wait => (none, s)
  | .ok fs, .ok ts =>
    let part := 2 + k
    if s.damps vd (fs ++ ts) then (none, s)
    else
    match (if zero then (some (List.replicate c.2 ((0 : Byte), (none : Option Prov))), s) else s.engineRead vd (.record q i) part 0 fs) with
    | (none, s) => (none, s)
    | (some bs, s) =>
      let ps := numbered 0 ts
      let ws := ps.filterMap fun p => if p.2.space == .fabric then none else
        let b := listGet (0, none) bs p.1
        some (⟨p.2, b.1, b.2⟩ : ByteWrite)
      let s := ((s.forget (.record q i) part).engineStore ws).meterPlaces vd (fs ++ ts)
      (some true, (fabricRuns ps).foldl (fun (s : State) r => (s.sendRemote vd r.2.1
        (writeOf ((List.range r.2.2).map fun j => listGet (0, none) bs (r.1 + j))) (.engineWrite (.record q i) part)).2) s)

/-- Moves the chunks of a COPY that are left, one after another. -/
def State.moveChunks (s : State) (q i src dst : Nat) (zero : Bool) : List (Nat × Nat) → Nat → State
  | [], _ => if s.remote.any fun r => match r.use with | .engineWrite w _ => w == .record q i | _ => false then s
             else s.completeRun q i 0 0 0 0 0
  | c :: cs, k =>
    match s.moveChunk q i k src dst zero c with
    | (some true, s) => (s.updRun q i fun r => { r with moved := k + 1 }).moveChunks q i src dst zero cs (k + 1)
    | (some false, s) => s.completeRun q i 5 0 0 0 6
    | (none, s) => s

/-- SYSTEM_COPY_COMPLETE (02 R68): the copy moves what it can reach, and completes with its last byte. -/
def execSystemCopyComplete (q : Nat) (index : W32) (s : State) : Res :=
  let i := index.toNat
  match (s.queue q).run i with
  | some r =>
    if r.completed || recordKind r.words != 4 then .next s
    else
      let x (k : Nat) : Nat := (listGet 0 r.words k).toNat
      let zero := x 4 == 1
      .next (s.moveChunks q i (x 1) (x 2) zero ((copyOrder (x 1) (x 2) (x 3) zero).drop r.moved) r.moved)
  | none => .next s

/-- FENCEQ_COMPLETE (02 R68). -/
def execFenceqComplete (q : Nat) (index : W32) (s : State) : Res :=
  match (s.queue q).run index.toNat with
  | some r => if r.completed || recordKind r.words != 5 then .next s else .next (s.completeRun q index.toNat 0 0 0 0 0)
  | none => .next s

/-- LAUNCH_RECORD_COMPLETE (02 R68, R72; 03 R85, R99): every grid of the tree has ended. Core-time, kept in 1/48 clk, is rounded
down once. A tree that failed with its queue in STOPPING retires with KILLED if a gang kill was its first failure, else with
FAULT. -/
def execLaunchRecordComplete (q : Nat) (index : W32) (s : State) : Res :=
  let i := index.toNat
  match (s.queue q).run i with
  | some r =>
    let tree := s.treeOf q i
    if r.completed || recordKind r.words != 1 || r.grid.isNone || !tree.all fun g => g.2.ended then .next s
    else
      let time : Word := BitVec.ofNat 64 (tree.foldl (fun n g => n + g.2.coreTime) 0 / 48)
      let root := s.grid (r.grid.getD 0)
      .next (match root.failure with
        | none => s.finishLaunch q i 0 0 0 time 0
        | some (c, p) => s.finishLaunch q i (if (s.queue q).state == 5 && root.gangKill then 4 else 2) c.code p time 5)
  | none => .next s

/-! Retirement (02 R68, R71, R72; 19 R429). -/

/-- Whether a record needs a completion record (02 R72). -/
def RecordRun.needs (r : RecordRun) : Bool := (listGet 0 r.words 0).getLsbD 8 || r.status != 0

/-- The completion record of a run as number `j` (02 R71). -/
def RecordRun.bytes (r : RecordRun) (j csize : Nat) : List Byte :=
  let w0 := listGet 0 r.words 0
  let k := recordKind r.words
  let kind := if 1 ≤ k && k ≤ 6 then k else 0
  let phase := if j / 2 ^ csize % 2 == 0 then 1 else 0
  leB 8 (2 ^ 32 * r.index.toNat + 2 ^ 16 * fieldN w0 31 16 + r.status.toNat * 2 ^ 8 + kind) ++
    leB 8 (if k == 1 then r.coreTime.toNat else 0) ++
    leB 8 ((if r.cause == 0x07 then r.prov.toNat * 2 ^ 8 else 0) + r.cause.toNat) ++ leB 8 (2 ^ 63 * phase)

/-- Head passes a retired record (02 R59, R68, R69, R74). -/
def State.passHead (s : State) (q : Nat) (r : RecordRun) : State :=
  let s := s.updQueue q fun x =>
    let h := x.head + 1
    { x with head := h, state := if x.state == 2 && h == x.tail then 1 else x.state }
  let x := s.queue q
  let irq := (listGet 0 r.words 0).getLsbD 9 && x.qcfg.getLsbD 13
  let s := if irq then s.interrupt q x.vd.toNat else s
  if recordKind r.words == 3 then
    let part := s.hardPart x.vd.toNat
    s.semEvents fun _ y => s.hardPart y.vd.toNat == part
  else s

/-- A record whose completion record cannot be written retires without one (02 R68). -/
def State.retireLost (s : State) (q : Nat) (r : RecordRun) : State := (s.queueError q 4).passHead q r

/-- Makes a retired record visible: its completion record is written at stage 2 only, and head passes it. One whose ring page is
absent, that a damper holds (03 R89), or that is on its way to a remote home (02 R71), waits in `retiring`, with those behind
it. -/
def State.showRun (s : State) (q : Nat) (r : RecordRun) : State :=
  let x := s.queue q
  let vd := x.vd.toNat
  let wait (s : State) : State := s.updQueue q fun x => { x with retiring := [r] }
  if !x.retiring.isEmpty then s.setQueue q { x with retiring := x.retiring ++ [r] }
  else if !r.needs then s.passHead q r
  else
    let addr := fieldN x.cbase 51 6 * 64 + x.cprod.toNat % 2 ^ x.csize * 32
    match s.stage2 vd addr Need.write with
    | (.ok l, s) =>
      let bs := r.bytes x.cprod.toNat x.csize
      if l.space == .fabric && !s.fabricOk vd l.off then s.retireLost q r
      else if s.damps vd [l] then wait s
      else if l.space == .fabric then
        wait (s.sendRemote vd l.off (writeOf (bs.map fun b => (b, none))) (.completion q)).2
      else
        let s := s.engineStore (writesAt l bs none)
        ((if l.space == .hbm then s.meterHbm vd 32 else s).updQueue q fun x => { x with cprod := x.cprod + 1 }).passHead q r
    | (.error (.absent st2 vdpa tbl), s) =>
      match s.parkRecord q r.index.toNat true ⟨4096 * (addr / 4096), true, st2, vdpa, tbl, false⟩ with
      | (.bad, s) => s.retireLost q r
      | (_, s) => wait s
    | (.error _, s) => s.retireLost q r

/-- Shows records that wait, the first of them after `first` has dealt with it. -/
def State.showRest (s : State) (q : Nat) (first : State → RecordRun → State) : State :=
  match (s.queue q).retiring with
  | [] => s
  | r :: rs =>
    let s := rs.foldl (fun (s : State) r => s.showRun q r) (first (s.updQueue q fun x => { x with retiring := [] }) r)
    if (s.queue q).retiring.length ≤ rs.length then s.updQueue q fun x => { x with done := true } else s

/-- Whether a completion record of a queue is on its way to a remote home. -/
def State.showing (s : State) (q : Nat) : Bool := s.remote.any fun r => r.use == .completion q

/-- Makes the waiting retirements visible again, once their page may be there. -/
def State.showAgain (s : State) (q : Nat) : State :=
  if s.showing q then s else s.showRest q fun s r => s.showRun q r

/-- The abort of a waiting retirement's ring page, or a refused write (02 R68): the first record retires without one. -/
def State.showLost (s : State) (q : Nat) : State := s.showRest q fun s r => s.retireLost q r

/-- The remote home has acknowledged a completion record (02 R71). -/
def State.showDone (s : State) (q : Nat) : State :=
  s.showRest q fun s r => (s.updQueue q fun x => { x with cprod := x.cprod + 1 }).passHead q r

/-- RETIRE (19 R429): 0 retired or staged, 1 not the one to retire, 2 ring full, 3 sixteen staged. -/
def State.retireRecord (s : State) (q i : Nat) (word : Word) : Nat × State :=
  let x := s.queue q
  if !(s.vd x.vd.toNat).works || x.state == 0 || i != (x.head.toNat + x.staged.length) % 2 ^ 32 then (1, s)
  else
    match x.run i with
    | none => (1, s)
    | some r =>
      if !r.completed then (1, s)
      else
        let r : RecordRun := if fieldN word 7 0 == 0 then r else
          { r with status := BitVec.ofNat 8 (fieldN word 7 0), cause := BitVec.ofNat 8 (fieldN word 15 8),
                   prov := BitVec.ofNat 12 (fieldN word 27 16) }
        let waiting := ((x.staged ++ x.retiring).filter RecordRun.needs).length
        if r.needs && 2 ^ x.csize ≤ (x.cprod - x.kccons).toNat + waiting then (2, s)
        else if (s.irtEntry q).word.getLsbD 32 then
          if 16 ≤ x.staged.length then (3, s)
          else (0, s.setQueue q { x with runs := x.runs.filter fun y => y.index != r.index, staged := x.staged ++ [r] })
        else (0, (s.setQueue q { x with runs := x.runs.filter fun y => y.index != r.index }).showRun q r)

/-- CHOLD and CRELEASE over the entries of an operand (19 R429). -/
def heldEntries (operand : Word) : List Nat := if operand.getLsbD 11 then List.range 1024 else [fieldN operand 10 0]

def State.holdEntry (s : State) (n : Nat) : State :=
  let e := s.irtEntry n
  s.setIrt n { e with word := setBit e.word 32 true }

def State.releaseEntry (s : State) (n : Nat) : State :=
  let e := s.irtEntry n
  let s := s.setIrt n { e with word := setBit e.word 32 false }
  let s := if 1024 ≤ n then s else
    let rs := (s.queue n).staged
    rs.foldl (fun (s : State) r => s.showRun n r) (if rs.isEmpty then s else s.updQueue n fun x => { x with staged := [] })
  s.flushIrt n

/-- IRQ_COALESCE_TIMEOUT (02 R74). -/
def execIrqCoalesceTimeout (entry : Nat) (s : State) : Res :=
  let e := s.irtEntry entry
  if e.pending == 0 then .next s else .next ((s.setIrt entry { e with due := true }).flushIrt entry)

/-! The queue watchdog (02 R70; 17 R406). -/

/-- Kills every gang of a tree without relaunch and discards its pending launches (17 R406). A failure that the tree has recorded
already is replaced by this one, since R406 gives the record CAUSE 0x11 whatever 03 R99's first end was (DESIGN CHOICE, log 86). -/
def State.killTree (s : State) (q i : Nat) (c : Cause) : State :=
  { s with
    grids := s.grids.map fun e => if e.2.queue == q && e.2.index == i && !e.2.ended then
      let gone := e.2.endedGroups + (e.2.relaunch.length + e.2.ready.length) * e.2.record.gang
      (e.1, { e.2 with
        killed := true
        relaunch := []
        ready := []
        endedGroups := gone
        failure := some (c, 0)
        gangKill := true
        ended := e.2.placed == gone }) else e
    groups := s.groups.map fun e =>
      let g := s.grid e.2.grid
      if g.queue == q && g.index == i && e.2.residence != .ended then (e.1, { e.2 with doomed := some (e.2.doomed.getD (c, 0)) }) else e }

/-- Ends the record at head for the watchdog (17 R406). -/
def State.watchdogEnd (s : State) (q : Nat) (r : RecordRun) : State :=
  let i := r.index.toNat
  match recordKind r.words with
  | 1 =>
    if (s.grid (r.grid.getD 0)).record.words.isEmpty then s.finishLaunch q i 2 0x11 0 0 5
    else (s.killTree q i .watchdog).noteBacklog (s.queue q).vd.toNat
  | 2 => s.completeRun q i 3 0 0 0 0
  | 4 => s.completeRun q i 2 0x11 0 0 0
  | _ => s

/-! Requests that a damper held go on when its window ends (03 R89). -/

/-- The records of a VD that wait try again. -/
def State.rerunVd (s : State) (vd : Nat) : State :=
  (s.queues.filter fun e => e.2.vd.toNat == vd).foldl (fun s e =>
    (e.2.runs.foldl (fun (s : State) r => s.runRecord e.1 r.index.toNat) s).showAgain e.1) s

end Sys2Proof.Machine
end

