-- ==== Sys2Proof/Machine/Checkpoint.lean ====
section
/-! DEFINITION. Checkpoints and restore (18 R410-R419). -/

namespace Sys2Proof.Machine

/-! The descriptor (R411, R412). -/

/-- A region: its base, its length and CAST. -/
structure CkRegion where
  base : Nat
  len : Nat
  cast : Nat
  deriving DecidableEq, Repr

def ckG (d : List Byte) : Nat := recN d 1 1
def ckMe (d : List Byte) : Nat := recN d 2 1
def ckLost (d : List Byte) : Nat := recN d 4 1
def ckPart (d : List Byte) : Nat := 2 ^ 20 * recN d 6 2
def ckPeer (d : List Byte) (j : Nat) : Nat := recN d (16 + 16 * j) 2 % 1024
def ckArea (d : List Byte) (j : Nat) : Nat := recN d (24 + 16 * j) 8
def ckRegions (d : List Byte) : List CkRegion :=
  (List.range (recN d 3 1)).map fun r => ⟨recN d (320 + 16 * r) 8, recN d (328 + 16 * r) 6, recN d (334 + 16 * r) 1⟩

/-- Whether a descriptor keeps its table; reserved bytes must hold 0 (00 R10). -/
def ckValid (restore : Bool) (d : List Byte) : Bool :=
  let g := ckG d
  recN d 0 1 == 1 && decide (3 ≤ g) && decide (g ≤ 16) && decide (ckMe d < g) &&
  decide (1 ≤ recN d 3 1) && decide (recN d 3 1 ≤ 32) &&
  (!restore || ckLost d == 0xFF || decide (ckLost d < g)) &&
  recN d 5 1 == 0 && decide (1 ≤ recN d 6 2) && recN d 8 8 != 0 &&
  ((List.range g).all fun j => j == ckMe d ||
    (recN d (16 + 16 * j) 8 == ckPeer d j && ckArea d j % 2 ^ 21 == 0)) &&
  recN d (16 + 16 * g) (304 - 16 * g) == 0 &&
  ((ckRegions d).all fun r => r.base % 4096 == 0 && r.len % 4096 == 0 && decide (r.cast ≤ 2)) &&
  (List.range (recN d 3 1)).all fun r => recN d (335 + 16 * r) 1 == 0

/-- The output bytes of a region (R412). -/
def CkRegion.out (r : CkRegion) : Nat := if r.cast == 0 then r.len else if r.cast == 1 then r.len / 2 else r.len / 4 + r.len / 128

/-- The image length before padding, and the rows it takes (R413). -/
def ckLength (d : List Byte) : Nat := ((ckRegions d).map (·.out)).sum
def ckRows (d : List Byte) (u : Nat) : Nat := (ckLength d + (ckG d - 2) * u - 1) / ((ckG d - 2) * u)

/-- The pages of the regions, in order. -/
def ckPages (d : List Byte) : List Nat :=
  (ckRegions d).flatMap fun r => (List.range (r.len / 4096)).map fun i => r.base + 4096 * i

/-! Narrowing and widening (R412). -/

/-- A byte with the poison tag it carries: the engines move poison (17 R392), and a byte computed from others has the lowest tag
among them. -/
abbrev CkByte := Byte × Option Prov

def tagWith (p : Option Prov) (bs : List Byte) : List CkByte := bs.map fun b => (b, p)
def plainBytes (bs : List CkByte) : List Byte := bs.map (·.1)

/-- The little-endian values of `w` bytes each, with their tags. -/
def chunksOf (w : Nat) (bs : List CkByte) : List (Nat × Option Prov) :=
  (List.range (bs.length / w)).map fun i =>
    let c := (bs.drop (w * i)).take w
    (leN (plainBytes c), lowestProv (c.map (·.2)))

/-- A block of 32 words: its elements and its scale (05 R136, e4m3). -/
def mxBlock (ws : List Nat) : List Byte × Byte :=
  let vs := ws.map fmtF32.decode
  let x := blockScale fmtE4m3 vs
  (vs.map fun v =>
    let e : Exact := match v with
      | .num s m k => .ratio s m 1 (k - ((x : Int) - 127))
      | v => v.exact
    BitVec.ofNat 8 (fmtE4m3.round .rne true 0 e).1, BitVec.ofNat 8 x)

/-- The output of a region. -/
def ckNarrow (cast : Nat) (bs : List CkByte) : List CkByte :=
  if cast == 0 then bs
  else if cast == 1 then (chunksOf 4 bs).flatMap fun x => tagWith x.2 (leB 2 (convertElem .f32 .bf16 x.1 .rne false 0).1)
  else
    let ws := chunksOf 4 bs
    let blocks := (List.range (ws.length / 32)).map fun i =>
      let block := (ws.drop (32 * i)).take 32
      (mxBlock (block.map (·.1)), lowestProv (block.map (·.2)))
    (blocks.flatMap fun b => tagWith b.2 b.1.1) ++ blocks.map fun b => (b.1.2, b.2)

/-- The region's bytes from its output. -/
def ckWiden (r : CkRegion) (bs : List CkByte) : List CkByte :=
  if r.cast == 0 then bs
  else if r.cast == 1 then (chunksOf 2 bs).flatMap fun x => tagWith x.2 (leB 4 (65536 * x.1))
  else (List.range (r.len / 4)).flatMap fun i =>
    let e := listGet (0, none) bs i
    let x := listGet (0, none) bs (r.len / 4 + i / 32)
    let v := if x.1.toNat == 0xFF then .nan false else mulVal (fmtE4m3.decode e.1.toNat) (e8m0Val x.1.toNat)
    tagWith (minProv e.2 x.2) (leB 4 (fmtF32.round .rne false 0 v.exact).1)

/-! Stripes, parity and manifests (R413, R414). -/

def xorBytes (x y : List CkByte) : List CkByte := List.zipWith (fun a b => (a.1 ^^^ b.1, minProv a.2 b.2)) x y

/-- Unit n of an image, padded with zeros. -/
def imageUnit (image : List CkByte) (u n : Nat) : List CkByte :=
  let bs := (image.drop (n * u)).take u
  bs ++ List.replicate (u - bs.length) (0, none)

/-- What position q of row r holds: the row's parity, or a unit. -/
def ckUnit (d : List Byte) (u : Nat) (image : List CkByte) (r q : Nat) : List CkByte :=
  let k := ckG d - 2
  let parity := r % (k + 1)
  if q == parity then (List.range k).foldl (fun acc j => xorBytes acc (imageUnit image u (r * k + j))) (List.replicate u (0, none))
  else imageUnit image u (r * k + if parity < q then q - 1 else q)

/-- The holder at position q of sender s, and the position of a holder. -/
def ckHolder (d : List Byte) (s q : Nat) : Nat := (s + 1 + q) % ckG d
def ckPosition (d : List Byte) (s h : Nat) : Nat := (h + 2 * ckG d - s - 1) % ckG d

/-- Where the part for a sender and generation lies in a holder's area. -/
def ckPartAt (d : List Byte) (h s gen : Nat) : Nat := ckArea d h + (2 * s + gen % 2) * ckPart d

/-- The manifest of position q. -/
def ckManifest (d : List Byte) (u gen q : Nat) (units : List Byte) : List Byte :=
  leB 8 (recN d 8 8) ++ leB 8 gen ++ [BitVec.ofNat 8 (ckMe d), BitVec.ofNat 8 q, BitVec.ofNat 8 (Nat.log2 u - 16), 0] ++
    leB 4 (ckRows d u) ++ leB 8 (ckLength d) ++ shake256 units 32

/-- The 64-byte lines that a phase writes, in order, each at its fabric offset (15 R362, R363): zeros over the manifests, then the
units with their parity, then the manifests. -/
def CkRun.lines (c : CkRun) : List (Nat × List CkByte) :=
  let d := c.desc
  let cut (at_ : Nat) (bs : List CkByte) : List (Nat × List CkByte) :=
    (List.range ((bs.length + 63) / 64)).map fun i => (at_ + 64 * i, (bs.drop (64 * i)).take 64)
  let units (q : Nat) : List (List CkByte) := (List.range (ckRows d c.unit)).map fun r => ckUnit d c.unit c.image r q
  (List.range (ckG d - 1)).flatMap fun q =>
    let h := ckHolder d (ckMe d) q
    let at_ := 2 ^ 42 * ckPeer d h + ckPartAt d h (ckMe d) c.gen
    if c.phase == 4 then cut (at_ + 4096) (units q).flatten
    else if c.phase == 5 then cut at_ (tagWith none (ckManifest d c.unit c.gen q (plainBytes (units q).flatten)))
    else cut at_ (List.replicate 64 (0, none))

/-! The machine's side. -/

/-- The unit size (R410). -/
def Vd.ckUnit (v : Vd) : Nat := if v.expert && v.ckUsize.toNat ≤ 4 then 2 ^ (v.ckUsize.toNat + 16) else 2 ^ 20

def State.updCk (s : State) (vd : Nat) (f : CkRun → CkRun) : State := s.updVd vd fun v => { v with ckRun := v.ckRun.map f }

/-- The stage-2 leaf that a VD-physical address has, seen without an access. -/
def State.stage2Leaf (s : State) (vd pa : Nat) : Except WalkFault LeafHit :=
  (walkStage2 s (fun _ => none) 5 (s.vd vd).s2root pa).found

/-- Sets or clears the CBW of a stage-1 leaf, as a tracked store (R415). A leaf whose table the paging engine has moved out is
changed in its backing page. -/
def State.setCbw (s : State) (vd leaf : Nat) (on : Bool) : State :=
  let v := s.vd vd
  let l : Option Loc := match s.stage2Leaf vd leaf with
    | .ok h => some (leafLoc h)
    | .error _ => if v.guest then none else some ⟨.host, v.backing.toNat + leaf⟩
  match l with
  | none => s
  | some l =>
    let old := s.readByte (l.plus 1)
    s.engineStore [⟨l.plus 1, if on then old ||| 1 else old &&& 0xFE, none⟩]

/-- Ends an operation (R419): CBWs still set are cleared, and no part of it stays parked or outstanding. -/
def State.endCk (s : State) (vd err : Nat) : State :=
  match (s.vd vd).ckRun with
  | none => s
  | some c =>
    let s := (c.leaves.map (·.2)).eraseDups.foldl (fun s l => s.setCbw vd l false) s
    let s : State := { s with
      remote := s.remote.filter fun r => match r.use with
        | .engineRead w _ _ | .engineWrite w _ => w != .checkpoint vd
        | _ => true
      engineData := s.engineData.filter fun e => e.who != .checkpoint vd }
    s.updVd vd fun v => { v with
      ckRun := none
      ckBusy := false
      ckDone := true
      ckErr := BitVec.ofNat 8 err
      faults := v.faults.filter fun f => f.owner != .checkpoint vd }

/-- An operation abandoned by a reset, DESTROY, KILL or banked entry (R417, R418). -/
def State.abandonCk (s : State) (vd : Nat) : State := s.endCk vd 6

/-- Parks a page under a record (R415: SOURCE 6); an operation that no one will answer ends with ERR 3. -/
def State.parkCk (s : State) (vd : Nat) (write : Bool) (f : AbsentAt) : State :=
  if s.faultAborts vd f then (s.abortNow vd).endCk vd 3
  else if (s.vd vd).faults.any fun r => r.owner == .checkpoint vd && r.page == f.page / 4096 && !r.answered then s
  else
    let q := ((s.vd vd).ckRun.map (·.queue)).getD 0
    s.parkUnder vd f ⟨6, 0, q, 0, false, write, 0⟩ (.checkpoint vd) 0

/-- The stage-1 leaf of an address: the VD-physical address of its entry and its level. -/
def walkLeaf (vd va : Nat) : Nat → Nat → State → Except WalkFault (Nat × Nat) × State
  | 0, _, s => (.error (.permission false), s)
  | lvl + 1, table, s =>
    let slot := table + levelIndex (lvl + 1) va * 8
    match s.tableWord .io false vd slot with
    | (.error e, _, s) => (.error e, s)
    | (.ok (_, e), _, s) =>
      if !pteP e then (.error (.absent false 0 false), s)
      else if !pteOk false (lvl + 1) e then (.error (.permission false), s)
      else if pteLeaf e then (.ok (slot, lvl + 1), s)
      else walkLeaf vd va lvl (pteAddr e) s

/-- Places the pages from index `i` on; what is absent is parked. Answers the places, or none. -/
def State.ckPlace (s : State) (vd root : Nat) (need : Need) : List Nat → Option (List (List Loc)) × State
  | [] => (some [], s)
  | va :: rest =>
    if (s.vd vd).ckRun.isNone then (none, s)
    else
      match s.placeVirt vd root va 4096 need with
      | (.ok ls, s) =>
        let (r, s) := s.ckPlace vd root need rest
        (r.map (ls :: ·), s)
      | (.cause _, s) => (none, s.endCk vd 3)
      | (.absent f, s) => (none, ((s.parkCk vd need.w f).ckPlace vd root need rest).2)

/-- Reads the pages that can be read and have not been (R415 step 4); a damper holds the others (03 R89). -/
def State.ckRead (s : State) (vd : Nat) (c : CkRun) : State :=
  let pages := ckPages c.desc
  (List.range pages.length).foldl (fun s i =>
    match (s.vd vd).ckRun with
    | none => s
    | some c =>
      if (Table.look c.parts i).isSome then s
      else
        match s.placeVirt vd c.root (listGet 0 pages i) 4096 Need.read with
        | (.cause _, s) => s.endCk vd 3
        | (.absent f, s) => s.parkCk vd false f
        | (.ok ls, s) =>
          if s.damps vd ls then s
          else
            match s.engineRead vd (.checkpoint vd) i 0 ls with
            | (none, s) => s
            | (some bs, s) => ((s.forget (.checkpoint vd) i).meterPlaces vd ls).updCk vd fun c =>
                { c with parts := Table.put i bs c.parts }) s

/-- Clears the CBW of every leaf whose pages have all been read (R415 step 4). -/
def State.ckClear (s : State) (vd : Nat) (c : CkRun) : State :=
  ((c.leaves.map (·.2)).eraseDups.filter fun l =>
    c.leaves.all fun e => e.2 != l || (Table.look c.parts e.1).isSome).foldl (fun s l =>
      (s.setCbw vd l false).updCk vd fun c => { c with leaves := c.leaves.filter fun e => e.2 != l }) s

/-- Whether requests of an operation are outstanding. -/
def State.ckSending (s : State) (vd : Nat) : Bool := s.engineSending (.checkpoint vd) 0

/-- Sends the lines of the phase that are left, until a damper holds one (03 R89; 15 R363). -/
def State.ckSend (s : State) (vd : Nat) : State :=
  match (s.vd vd).ckRun with
  | none => s
  | some c => (c.lines.drop c.sent).foldl (fun s x =>
      if (s.vd vd).linkHeld then s
      else ((s.sendRemote vd x.1 (writeOf x.2) (.engineWrite (.checkpoint vd) 0)).2).updCk vd fun c => { c with sent := c.sent + 1 }) s

/-- Whether every line of the phase is written (R415). -/
def State.ckSent (s : State) (vd : Nat) : Bool :=
  !s.ckSending vd &&
  match (s.vd vd).ckRun with
  | some c => decide (c.lines.length ≤ c.sent)
  | none => true

/-- Whether every holder's part may be reached (15 R362). -/
def State.ckReach (s : State) (vd : Nat) (d : List Byte) (gen : Nat) : Bool :=
  (List.range (ckG d - 1)).all fun q =>
    let h := ckHolder d (ckMe d) q
    let a := ckPartAt d h (ckMe d) gen
    decide (a + ckPart d ≤ 2 ^ 42) && s.fabricOk vd (2 ^ 42 * ckPeer d h + a)

/-- Narrows the pages read into the image and sends the units and parity (R415 step 4). -/
def State.ckStripe (s : State) (vd : Nat) (c : CkRun) : State :=
  let d := c.desc
  let raw := (List.range (ckPages d).length).flatMap fun i => Table.get [] c.parts i
  let image := ((ckRegions d).foldl (fun (acc : List CkByte × List CkByte) r =>
    (acc.1 ++ ckNarrow r.cast (acc.2.take r.len), acc.2.drop r.len)) ([], raw)).1
  (s.updCk vd fun c => { c with
    image := image
    phase := 4
    sent := 0 }).ckSend vd

/-- Goes on with an armed checkpoint: reads, clears, and stripes when everything is read and the manifests are zeroed. -/
def State.ckCopy (s : State) (vd : Nat) : State :=
  match (s.vd vd).ckRun with
  | none => s
  | some c =>
    let s := s.ckRead vd c
    match (s.vd vd).ckRun with
    | none => s
    | some c =>
      if c.phase != 3 then s
      else
        let s := s.ckClear vd c
        let s := s.ckSend vd
        if (ckPages c.desc).length == c.parts.length && s.ckSent vd then s.ckStripe vd c else s

/-! The restore (R418). -/

/-- The bytes read of a part. -/
def ckGot (c : CkRun) (h s slot : Nat) : List CkByte := Table.get [] c.parts (h * 64 + s * 2 + slot)

/-- The holders that a restore reads: all but LOST and the restoring member. -/
def ckHolders (d : List Byte) : List Nat := (List.range (ckG d)).filter fun h => h != ckLost d && h != ckMe d

/-- The sender and holder of every manifest that a restore reads. -/
def ckWanted (d : List Byte) : List (Nat × Nat) :=
  (List.range (ckG d)).flatMap fun s => ((ckHolders d).filter fun h => h != s).map fun h => (s, h)

/-- Whether a manifest's fields match the descriptor and the part for a generation (R414). -/
def ckMatches (c : CkRun) (gen : Nat) (x : Nat × Nat) : Bool :=
  let d := c.desc
  let m := plainBytes (ckGot c x.2 x.1 (gen % 2))
  decide (64 ≤ m.length) && recN m 0 8 == recN d 8 8 && recN m 8 8 == gen && recN m 16 1 == x.1 &&
  recN m 17 1 == ckPosition d x.1 x.2 && recN m 18 1 == Nat.log2 c.unit - 16 && recN m 19 1 == 0 &&
  decide (4096 + recN m 20 4 * c.unit ≤ ckPart d) &&
  (x.1 != ckMe d || (recN m 20 4 == ckRows d c.unit && recN m 24 8 == ckLength d))

/-- The unit that position q holds in row r, if it can be read. -/
def ckHeld (c : CkRun) (gen r q : Nat) : Option (List CkByte) :=
  let d := c.desc
  let h := ckHolder d (ckMe d) q
  let part := ckGot c h (ckMe d) (gen % 2)
  if h == ckLost d || part.length < 4096 + (r + 1) * c.unit then none
  else some ((part.drop (4096 + r * c.unit)).take c.unit)

/-- Whether the digest of position q matches the units read from it. -/
def ckDigest (c : CkRun) (gen q : Nat) : Bool :=
  let us := (List.range (ckRows c.desc c.unit)).map fun r => ckHeld c gen r q
  if us.all Option.isSome then
    let h := ckHolder c.desc (ckMe c.desc) q
    h == ckLost c.desc || ((plainBytes (ckGot c h (ckMe c.desc) (gen % 2))).drop 32).take 32 == shake256 (plainBytes (us.filterMap id).flatten) 32
  else true

/-- A row's units, one missing rebuilt from the others; none when two are missing. -/
def ckRow (c : CkRun) (gen r : Nat) : Option (List CkByte) :=
  let n := ckG c.desc - 1
  let got := (List.range n).map fun q => ckHeld c gen r q
  if 1 < (got.filter Option.isNone).length then none
  else
    let sum := (got.filterMap id).foldl xorBytes (List.replicate c.unit (0, none))
    some (((List.range n).filter fun q => q != r % n).flatMap fun q => (listGet none got q).getD sum)

/-- The image of the newest generation that is valid, or an error code (R418, R419). -/
def ckChoose (c : CkRun) : Except Nat (Nat × List CkByte) :=
  let d := c.desc
  let wanted := ckWanted d
  if wanted.any fun x => (ckGot c x.2 x.1 0).length < 64 && (ckGot c x.2 x.1 1).length < 64 then .error 4
  else
    let gens := [0, 1].filterMap fun slot =>
      let g := match wanted with
        | x :: _ => recN (plainBytes (ckGot c x.2 x.1 slot)) 8 8
        | [] => 0
      if g % 2 == slot && wanted.all (ckMatches c g) && (List.range (ckG d - 1)).all (ckDigest c g) then some g else none
    match gens.max? with
    | none => .error 5
    | some g =>
      let rows := (List.range (ckRows d c.unit)).map (ckRow c g)
      if rows.all Option.isSome then .ok (g, ((rows.filterMap id).flatten).take (ckLength d)) else .error 7

/-- Takes what came of the parts: nothing from a holder that the VD may not reach (15 R362); poison from another accelerator gets
a record here (17 R391). -/
def State.ckTake (s : State) (vd : Nat) (d : List Byte) (parts : Table (List CkByte)) : Table (List CkByte) × State :=
  parts.foldl (fun (acc : Table (List CkByte) × State) e =>
    let h := e.1 / 64
    let off := 2 ^ 42 * ckPeer d h + ckPartAt d h (e.1 % 64 / 2) (e.1 % 2)
    if !acc.2.fabricOk vd off then acc
    else
      let own := acc.2.isOwn ((acc.2.endpoint vd (ckPeer d h)).getD 0)
      let (bs, s) := acc.2.receivedBytes (if own then 16 else 0) e.2
      (Table.put e.1 bs acc.1, s)) ([], s)

/-- Writes the restored regions, once every page of them can be reached, until a damper holds a page (R418 step 5; 03 R89). -/
def State.ckRestore (s : State) (vd : Nat) (c : CkRun) : State :=
  let d := c.desc
  let pages := ckPages d
  match s.ckPlace vd c.root Need.write pages with
  | (none, s) => s
  | (some places, s) =>
    let bytes := ((ckRegions d).foldl (fun (acc : List CkByte × List CkByte) r =>
      (acc.1 ++ ckWiden r (acc.2.take r.out), acc.2.drop r.out)) ([], c.image)).1
    let (n, s) := ((List.range pages.length).drop c.sent).foldl (fun (acc : Nat × State) i =>
      let ls := listGet [] places i
      if acc.1 != i || acc.2.damps vd ls then acc
      else (i + 1, ((acc.2.meterPlaces vd ls).engineWrite (.ctl 7) vd (.checkpoint vd) 0 ls ((bytes.drop (4096 * i)).take 4096)).2))
        (c.sent, s)
    s.updCk vd fun c => { c with
      sent := n
      phase := if n == pages.length then 2 else c.phase }

/-! The phases. -/

/-- Walks the regions' stage-1 leaves; what is absent is parked. Answers each page's leaf, or none. -/
def State.ckWalk (s : State) (vd root : Nat) : List (Nat × Nat) → Option (List (Nat × Nat)) × State
  | [] => (some [], s)
  | (i, va) :: rest =>
    if (s.vd vd).ckRun.isNone then (none, s)
    else
      match (if 2 ^ 57 < va + 4096 then (.error (.permission false), s) else walkLeaf vd va 5 root s) with
      | (.ok (slot, lvl), s) =>
        if lvl == 3 then (none, s.endCk vd 1)
        else
          let (r, s) := s.ckWalk vd root rest
          (r.map ((i, slot) :: ·), s)
      | (.error (.absent st a tbl), s) => (none, ((s.parkCk vd false ⟨va, false, st, a, tbl, false⟩).ckWalk vd root rest).2)
      | (.error _, s) => (none, s.endCk vd 3)

/-- Reads the descriptor, its first 320 bytes and then its regions; none while it cannot be had. -/
def State.ckDescriptor (s : State) (vd : Nat) (c : CkRun) : Option (List Byte) × State :=
  let at_ := (s.vd vd).ckDesc.toNat
  let get (s : State) (part va n : Nat) : Option (List Byte) × State :=
    let (r, s) := (pageRuns 4 va n).foldl (fun (acc : Option (List Loc) × State) p =>
      match acc.2.placeVirt vd c.root p.1 p.2 Need.read with
      | (.ok ls, s) => (acc.1.map (· ++ ls), s)
      | (.cause _, s) => (none, s.endCk vd 3)
      | (.absent f, s) => (none, s.parkCk vd false f)) (some [], s)
    match r with
    | none => (none, s)
    | some ls =>
      if s.damps vd ls then (none, s)
      else
        match s.engineRead vd (.checkpoint vd) part 0 ls with
        | (some bs, s) => (some (plainBytes bs), s.meterPlaces vd ls)
        | (none, s) => (none, s)
  match get s 0 at_ 320 with
  | (none, s) => (none, s)
  | (some head, s) =>
    match get s 1 (at_ + 320) (16 * min (recN head 3 1) 32) with
    | (none, s) => (none, s)
    | (some tail, s) => (some (head ++ tail), (s.forget (.checkpoint vd) 0).forget (.checkpoint vd) 1)

/-- Sets CBW in every leaf and zeroes the manifests (R415 steps 2 and 3). -/
def State.ckProtect (s : State) (vd : Nat) (c : CkRun) : State :=
  let pages := ckPages c.desc
  match s.ckWalk vd c.root ((List.range pages.length).map fun i => (i, listGet 0 pages i)) with
  | (none, s) => s
  | (some leaves, s) =>
    if !s.ckReach vd c.desc c.gen then s.endCk vd 4
    else
      let s := (leaves.map (·.2)).eraseDups.foldl (fun s l => s.setCbw vd l true) s
      let s := s.updCk vd fun c => { c with
        leaves := leaves
        phase := 2 }
      (s.ckSend vd).ckCopy vd

/-- Goes on with an operation that waits for a page or a response. -/
def State.ckAdvance (s : State) (vd : Nat) : State :=
  match (s.vd vd).ckRun with
  | none => s
  | some c =>
    if c.phase == 0 then
      match s.ckDescriptor vd c with
      | (none, s) => s
      | (some d, s) =>
        if !ckValid c.restore d then s.endCk vd 1
        else if ckPart d < 4096 + ckRows d c.unit * c.unit then s.endCk vd 2
        else
          let c := { c with
            desc := d
            phase := 1 }
          if c.restore then
            let (parts, s) := s.ckTake vd d c.parts
            let c := { c with parts := parts }
            match ckChoose c with
            | .error e => s.endCk vd e
            | .ok (g, image) =>
              let c := { c with
                gen := g
                image := image }
              (s.updCk vd fun _ => c).ckRestore vd c
          else (s.updCk vd fun _ => c).ckProtect vd c
    else if c.restore then if c.phase == 1 then s.ckRestore vd c else s
    else if c.phase == 1 then s.ckProtect vd c
    else s.ckCopy vd

/-- A write of CKCTL (R410), with what a restore's reads of the parts bring. -/
def State.writeCkctl (s : State) (vd : Nat) (value : W32) (parts : List (Nat × List CkByte)) : State :=
  let v := s.vd vd
  let v := { v with
    ckOp := value.getLsbD 30
    ckQueue := BitVec.ofNat 6 (fieldN value 21 16)
    ckUsize := BitVec.ofNat 4 (fieldN value 15 12) }
  let s := s.setVd vd v
  if !value.getLsbD 31 || v.ckBusy then s
  else
    let n := v.ckQueue.toNat
    let root := if n < v.qcount then (s.queue (v.qfirst + n)).root else 0
    let run : CkRun := ⟨value.getLsbD 30, 0, v.ckGen.toNat, root, n, v.ckUnit, [], [], [], parts.foldl (fun t p => Table.put p.1 p.2 t) [], 0⟩
    let s := s.setVd vd { v with
      ckBusy := true
      ckArmed := false
      ckRun := some run }
    if !v.works then s.abandonCk vd
    else if v.qcount ≤ n then s.endCk vd 3
    else s.ckAdvance vd

/-- CHECKPOINT (R415). -/
def execCheckpoint (vd : Nat) (value : BitVec 32) (s : State) : Res :=
  if (s.vd vd).responds then .next (s.writeCkctl vd (value &&& 0xBFFFFFFF#32 ||| 0x80000000#32) []) else .next s

/-- CHECKPOINT_ARMED (R415): the completion points of the model's CBW stores pass when they are made. A checkpoint that a damper held
before it set them goes on. -/
def execCheckpointArmed (vd : Nat) (s : State) : Res :=
  match (s.vd vd).ckRun with
  | some c =>
    if c.restore || s.roleStopped 1 then .next s
    else if c.phase < 2 then .next (s.ckAdvance vd)
    else if c.phase != 2 then .next s
    else .next (((s.updVd vd fun v => { v with ckArmed := true }).updCk vd fun c => { c with phase := 3 }).ckCopy vd)
  | none => .next s

/-- CHECKPOINT_COMMIT (R415 step 5): the manifests are sent once the units are acknowledged, and DONE is set once they are; what a
damper held goes on; a holder that refused or did not answer within 2 ms ends it (R419). -/
def execCheckpointCommit (vd : Nat) (answered : Bool) (s : State) : Res :=
  match (s.vd vd).ckRun with
  | none => .next s
  | some c =>
    if c.restore || s.roleStopped 1 then .next s
    else if !answered then .next (s.endCk vd 4)
    else if c.phase < 4 then .next (if c.phase == 3 then s.ckCopy vd else s)
    else
      let s := s.ckSend vd
      if !s.ckSent vd then .next s
      else if c.phase == 5 then .next (s.endCk vd 0)
      else .next ((s.updCk vd fun c => { c with
        phase := 5
        sent := 0 }).ckSend vd)

/-- RESTORE (R418). -/
def execRestore (vd : Nat) (value : BitVec 32) (parts : List (Nat × List (Byte × Option (BitVec 12)))) (s : State) : Res :=
  if (s.vd vd).responds then .next (s.writeCkctl vd (value ||| 0xC0000000#32) parts) else .next s

/-- RESTORE_COMPLETE (R418 step 6); a restore that a damper held goes on. -/
def execRestoreComplete (vd : Nat) (s : State) : Res :=
  match (s.vd vd).ckRun with
  | some c =>
    if !c.restore || s.roleStopped 1 then .next s
    else if c.phase < 2 then .next (s.ckAdvance vd)
    else if s.ckSending vd then .next s
    else .next ((s.updVd vd fun v => { v with ckGen := BitVec.ofNat 32 c.gen }).endCk vd 0)
  | none => .next s

end Sys2Proof.Machine
end

