-- ==== Sys2Proof/Machine/Ctlc.lean ====
section
/-! DEFINITION. CTLC: the queue bitmaps, the journal, the VD, queue and interrupt tables, and KILL (19 R422-R429; 17 R402). -/

namespace Sys2Proof.Machine

/-! KSCAN (R426). -/

/-- The lowest queue at or above `start`, modulo 1,024, that a bitmap holds. -/
def State.scanFrom (s : State) (start : Nat) (f : Queue → Bool) : Option Nat :=
  let set := (s.queues.filter fun e => f e.2).map (·.1)
  match set.find? fun n => decide (start ≤ n) with
  | some n => some n
  | none => set.head?

/-- Takes a kick (02 R62, R63): its outcome. -/
def State.takeKick (s : State) (q : Nat) : Nat × State :=
  let x := s.queue q
  if !x.running then (2, s)
  else if (x.tail - x.head).toNat ≤ (x.latch - x.head).toNat && (x.latch - x.head).toNat ≤ 2 ^ x.qsize then
    let first := x.state == 1 && x.latch != x.head
    ((if first then 0 else 1), s.setQueue q { x with tail := x.latch, state := if first then 2 else x.state })
  else (3, s.queueError q 2)

/-- KSCAN (R426): bit k of a queue is taken and cleared in one step. -/
def kscanOp (len : Nat) (o : GS) (s : State) : Res :=
  checked ⟨len, 0x1E, 0, .s o⟩ s fun s =>
    let start := fieldN (s.sreg o.sa) 9 0
    let found (q : Nat) : Nat := 2 ^ 63 + 2 ^ 32 * q
    match o.cw.toNat with
    | 0 =>
      match s.scanFrom start Queue.kick with
      | none => .next (s.writeNext len o.sd 0)
      | some q =>
        let latch := (s.queue q).latch
        let (out, s) := (s.updQueue q fun x => { x with kick := false }).takeKick q
        .next (s.writeNext len o.sd (BitVec.ofNat 64 (found q + 2 ^ 48 * out + latch.toNat)))
    | 1 =>
      match s.scanFrom start Queue.done with
      | none => .next (s.writeNext len o.sd 0)
      | some q => .next ((s.updQueue q fun x => { x with done := false }).writeNext len o.sd (BitVec.ofNat 64 (found q)))
    | _ =>
      match s.scanFrom start Queue.sem with
      | none => .next (s.writeNext len o.sd 0)
      | some q => .next ((s.updQueue q fun x => { x with sem := false }).writeNext len o.sd (BitVec.ofNat 64 (found q)))

/-! The journal (R422, R423, R427). -/

/-- The pair of the executing control core. -/
def State.ctlPair (s : State) : Nat :=
  match s.cur with
  | .ctl c => c / 2
  | _ => 0

/-- The word of a journal entry (R423). -/
def JournalEntry.word (e : JournalEntry) (seq : W32) (k : Nat) : Word :=
  match k with
  | 0 => BitVec.ofNat 64 (2 ^ 32 * seq.toNat + e.kind.toNat)
  | 1 => e.a
  | 2 => e.b
  | _ => e.c

/-- The SEQ after another: SEQ 0 is never used (R427). -/
def nextSeq (n : W32) : W32 := if n + 1 == 0 then 1 else n + 1

/-- JAPPEND (R427): a release; nothing when 8,192 entries stand. All copies of the slot are written. -/
def jappendOp (len : Nat) (o : GS) (s : State) : Res :=
  checked ⟨len, 0x1E, 1, .s o⟩ s fun s =>
    let n := s.ctlPair
    let p := s.pair n
    if !s.released s.cur then .next s
    else if (p.jnext - p.jtrim).toNat == 8192 then .next (s.writeNext len o.sd 0)
    else
      let e : JournalEntry := ⟨o.cw, s.sreg o.sa, s.sreg o.sb, s.sreg o.sc⟩
      let slot := p.jnext.toNat % 8192
      let p' : Pair := { p with
        journal := Table.put slot e p.journal
        badEntries := p.badEntries.filter fun k => k != slot
        jnext := nextSeq p.jnext }
      .next ((s.setPair n p').writeNext len o.sd (p.jnext.setWidth 64))

/-- JREAD (R427): 0 outside JTRIM to JNEXT - 1; machine check code 2 when every copy of the entry is uncorrectable (R422). -/
def jreadOp (len : Nat) (o : GS) (s : State) : Res :=
  checked ⟨len, 0x1E, 2, .s o⟩ s fun s =>
    let p := s.pair s.ctlPair
    let a := s.sreg o.sa
    let seq : W32 := a.setWidth 32
    let held := fieldN a 63 32 == 0 && seq != 0 && decide ((seq - p.jtrim).toNat < (p.jnext - p.jtrim).toNat)
    let v := if held then
        match Table.look p.journal (seq.toNat % 8192) with
        | some e => e.word seq (fieldN (s.sreg o.sb) 1 0)
        | none => 0
      else 0
    match s.cur with
    | .ctl c => if held && p.badEntries.contains (seq.toNat % 8192) then .next (s.machineCheck c 2) else .next (s.writeNext len o.sd v)
    | _ => .next (s.writeNext len o.sd v)

/-! VDCMD (R428). -/

/-- A VDCMD operation on an index within its table; one beyond it gives status 0xFF. -/
def vdcmd (len : Nat) (o : GS) (size : Nat) (s : State) (k : Nat → State → Res) : Res :=
  checked ⟨len, 0x1E, 3, .s o⟩ s fun s =>
    let i := (s.sreg o.sa).toNat
    if size ≤ i then .next (s.writeNext len o.sd 0xFF) else k i s

/-- The free status of a write (log 23). -/
def State.writeStatus (s : State) (len : Nat) (sd : Reg) : State :=
  let (n, s) := s.drawFree
  s.writeNext len sd (Config.freeWord n)

/-- VDRD and VDWR (R428): a raw word of a VD table entry. -/
def vdrdOp (len : Nat) (o : GS) (s : State) : Res :=
  vdcmd len o 512 s fun i s => .next (s.writeNext len o.sd ((s.vd i).word (fieldN (s.sreg o.sb) 2 0)))

def vdwrOp (len : Nat) (o : GS) (s : State) : Res :=
  vdcmd len o 512 s fun i s =>
    .next ((s.updVd i fun v => v.setWord (fieldN (s.sreg o.sb) 2 0) (s.sreg o.sc)).writeStatus len o.sd)

/-- A word of the queue table (R424). -/
def Queue.word (q : Queue) (k : Nat) : Word :=
  BitVec.ofNat 64 (match k with
    | 0 => q.state.toNat + q.vd.toNat * 2 ^ 3 + 2 ^ 12 * q.local_.toNat + 2 ^ 18 * q.staged.length
    | 1 => q.head.toNat + 2 ^ 32 * q.tail.toNat
    | 2 => q.next.toNat + 2 ^ 32 * q.cprod.toNat
    | _ => 0)

/-- QRD and QWR (R424, R428): QWR changes VD and LOCAL only. -/
def qrdOp (len : Nat) (o : GS) (s : State) : Res :=
  vdcmd len o 1024 s fun i s => .next (s.writeNext len o.sd ((s.queue i).word (fieldN (s.sreg o.sb) 1 0)))

def qwrOp (len : Nat) (o : GS) (s : State) : Res :=
  vdcmd len o 1024 s fun i s =>
    let w := s.sreg o.sc
    let s := if fieldN (s.sreg o.sb) 1 0 == 0 then
        s.updQueue i fun q => { q with vd := BitVec.ofNat 9 (fieldN w 11 3), local_ := BitVec.ofNat 6 (fieldN w 17 12) }
      else s
    .next (s.writeStatus len o.sd)

/-- IRTRD and IRTWR (R428): every field but HOLD. -/
def irtrdOp (len : Nat) (o : GS) (s : State) : Res :=
  vdcmd len o 2048 s fun i s => .next (s.writeNext len o.sd (s.irtEntry i).word)

def irtwrOp (len : Nat) (o : GS) (s : State) : Res :=
  vdcmd len o 2048 s fun i s =>
    let e := s.irtEntry i
    let w := BitVec.ofNat 64 (fieldN (s.sreg o.sc) 31 0)
    .next ((s.setIrt i { e with word := setBit w 32 (e.word.getLsbD 32) }).writeStatus len o.sd)

/-- VDCMD.START (R428). -/
def startOp (len : Nat) (o : GS) (s : State) : Res :=
  vdcmd len o 1024 s fun i s =>
    let (n, s) := s.startRecord i (fieldN (s.sreg o.sb) 31 0)
    .next (s.writeNext len o.sd (BitVec.ofNat 64 n))

/-- VDCMD.RETIRE (R428, R429). -/
def retireOp (len : Nat) (o : GS) (s : State) : Res :=
  vdcmd len o 1024 s fun i s =>
    let (n, s) := s.retireRecord i (fieldN (s.sreg o.sb) 31 0) (s.sreg o.sc)
    .next (s.writeNext len o.sd (BitVec.ofNat 64 n))

/-! KILL (17 R402). -/

/-- Every engine that KILL addresses. -/
def allEngines : List Engine :=
  [.cores, .copies, .matrix, .paging, .systemCopy, .queue, .flue, .stations, .translation]

/-- KILL(vd): every engine stops accepting the VD's work; its workgroups issue nothing more. -/
def State.killVd (s : State) (vd : Nat) : State :=
  let s := (s.abandonCk vd).updVd vd fun v => { v with kill := some allEngines }
  { s with groups := s.groups.map fun e => if e.2.vd == vd then (e.1, { e.2 with halt := some (.frozen true) }) else e }

/-- VDCMD.KILL (R428): the core stays at it until every engine has reported DRAINED. -/
def killOp (len : Nat) (o : GS) (s : State) : Res :=
  vdcmd len o 512 s fun i s =>
    let v := s.vd i
    match v.kill with
    | none => .next (s.killVd i)
    | some [] => .next ((if v.reset.isSome then s else s.setVd i { v with kill := none }).writeNext len o.sd 0)
    | some _ => .next s

/-! IRQSEND, CHOLD and CRELEASE (R429). -/

def irqsendOp (len : Nat) (o : GS) (s : State) : Res :=
  checked ⟨len, 0x1E, 4, .s o⟩ s fun s =>
    .next ((s.interrupt (fieldN (s.sreg o.sa) 10 0) (fieldN (s.sreg o.sb) 8 0)).advance len)

def choldOp (len : Nat) (o : GS) (s : State) : Res :=
  checked ⟨len, 0x1E, 5, .s o⟩ s fun s =>
    .next (((heldEntries (s.sreg o.sa)).foldl State.holdEntry s).advance len)

def creleaseOp (len : Nat) (o : GS) (s : State) : Res :=
  checked ⟨len, 0x1E, 6, .s o⟩ s fun s =>
    .next (((heldEntries (s.sreg o.sa)).foldl State.releaseEntry s).advance len)

/-- KSCAN (R426). -/
def execKscan (o : GS) (s : State) : Res := kscanOp 8 o s

/-- JAPPEND (R427). -/
def execJappend (o : GS) (s : State) : Res := jappendOp 8 o s

/-- JREAD (R427). -/
def execJread (o : GS) (s : State) : Res := jreadOp 8 o s

/-- VDRD (R428). -/
def execVdrd (o : GS) (s : State) : Res := vdrdOp 8 o s

/-- VDWR (R428). -/
def execVdwr (o : GS) (s : State) : Res := vdwrOp 8 o s

/-- QRD (R428). -/
def execQrd (o : GS) (s : State) : Res := qrdOp 8 o s

/-- QWR (R428). -/
def execQwr (o : GS) (s : State) : Res := qwrOp 8 o s

/-- IRTRD (R428). -/
def execIrtrd (o : GS) (s : State) : Res := irtrdOp 8 o s

/-- IRTWR (R428). -/
def execIrtwr (o : GS) (s : State) : Res := irtwrOp 8 o s

/-- VDCMD_START (R428). -/
def execVdcmdStart (o : GS) (s : State) : Res := startOp 8 o s

/-- VDCMD_RETIRE (R429). -/
def execVdcmdRetire (o : GS) (s : State) : Res := retireOp 8 o s

/-- VDCMD_KILL (R402). -/
def execVdcmdKill (o : GS) (s : State) : Res := killOp 8 o s

/-- IRQSEND (R429). -/
def execIrqsend (o : GS) (s : State) : Res := irqsendOp 8 o s

/-- CHOLD (R429). -/
def execChold (o : GS) (s : State) : Res := choldOp 8 o s

/-- CRELEASE (R429). -/
def execCrelease (o : GS) (s : State) : Res := creleaseOp 8 o s

end Sys2Proof.Machine
end

