-- ==== Sys2Proof/Machine/Sched.lean ====
section
/-! DEFINITION. The scheduler: core-time and virtual time, eligible cores, placement and resumption of workgroups and gangs, and
the ends of workgroups and grids (03 R83-R99; 16 R388; 04 R124, R127). -/

namespace Sys2Proof.Machine

/-! Core-time (03 R85, R86). -/

/-- Core-time in 1/48 clk that a workgroup has accrued since its last charge: one for each warp and clk. -/
def State.accrued (s : State) (x : Group) : Nat :=
  if x.residence == .resident then x.warps.length * (s.clk.toNat - x.charged) else 0

/-- The charge of R86 for a workgroup: VT rises by the core-time, with 16 fraction bits, over WEIGHT. -/
def State.charge (s : State) (g : Nat) : State :=
  let x := s.group g
  let c := s.accrued x
  let s := s.updVd x.vd fun v =>
    ({ v with coreTime := v.coreTime + c, menergy := v.menergy + Config.freeEnergy 0 c }).setVt
      (v.vt + BitVec.ofNat 64 (2 ^ 16 * c / 48 / v.weight))
  let s := s.updGrid x.grid fun n => { n with coreTime := n.coreTime + c }
  s.updGroup g fun x => { x with charged := s.clk.toNat }

/-- MCORE (03 R90): the charges and what the resident workgroups have accrued since. -/
def State.mcore (s : State) (vd : Nat) : Word :=
  BitVec.ofNat 64 (((s.groups.filter fun e => e.2.vd == vd).foldl (fun n e => n + s.accrued e.2) (s.vd vd).coreTime) / 48)

/-! Cores (03 R92, R94). -/

/-- The workgroups on a core, and the ended ones whose gangs keep their scratchpads there (09 R231). -/
def State.residents (s : State) (core : Nat) : List (Nat × Group) :=
  s.groups.filter fun e => e.2.core == core && e.2.residence == .resident
def State.keptOn (s : State) (core : Nat) : List (Nat × Group) :=
  s.groups.filter fun e => e.2.core == core && e.2.residence == .kept true

/-- Whether rows [lo, lo + n) of a core's accumulator store are free. -/
def State.rowsFree (s : State) (core lo n : Nat) : Bool :=
  (s.residents core).all fun e =>
    let m := (s.launchOf e.1).accRows
    decide (lo + n ≤ e.2.accFirst) || decide (e.2.accFirst + m ≤ lo) || m == 0

/-- The lowest free run of `n` accumulator rows of a core. -/
def State.accGap (s : State) (core n : Nat) : Option Nat :=
  if n == 0 then some 0
  else ((List.range 32).map (· * 64)).find? fun lo => decide (lo + n ≤ 2048) && s.rowsFree core lo n

/-- Whether a core has room for a workgroup of a launch record (03 R92). -/
def State.roomFor (s : State) (core : Nat) (r : LaunchRec) : Bool :=
  let here := s.residents core
  let sum (f : LaunchRec → Nat) : Nat := here.foldl (fun n e => n + f (s.launchOf e.1)) 0
  let kept := (s.keptOn core).foldl (fun n e => n + (s.launchOf e.1).scratchDemand) 0
  decide (sum LaunchRec.demand + kept + r.demand ≤ 1408 * 1024) && decide (sum LaunchRec.warps + r.warps ≤ 48) &&
  decide (here.length < 16) && (s.accGap core r.accRows).isSome

/-- Whether a core lies in the hard partition of a VD and is not withheld (03 R80, R92; 01 R31). -/
def State.inPart (s : State) (vd core : Nat) : Bool :=
  decide (core < 320) && (!s.pf.partMode || dieOf core == s.hardPart vd) && !s.power.withheld.contains core

/-- The package-wide number of a core's cluster. -/
def clusterKey (core : Nat) : Nat := dieOf core * 20 + clusterOf core

/-- Whether the gang of a reservation still waits for placement (03 R94). -/
def State.gangWaits (s : State) (r : Reservation) : Bool :=
  let g := s.grid r.grid
  !g.ended && !g.killed && (decide (g.placed ≤ r.gang * g.record.gang) || g.ready.contains r.gang || g.relaunch.contains r.gang ||
    s.groups.any fun e => e.2.grid == r.grid && e.2.wgid / g.record.gang == r.gang &&
      match e.2.residence with
      | .saved _ _ => true
      | _ => false)

/-- Whether a core's cluster is reserved for another than gang `key` (its grid and number) of a VD (03 R94). -/
def State.reservedFrom (s : State) (vd core : Nat) (key : Nat × Nat) : Bool :=
  s.vds.any fun e =>
    match e.2.reserved with
    | some r => r.cluster == clusterKey core && !(e.1 == vd && (r.grid, r.gang) == key) && s.gangWaits r
    | none => false

/-- Whether a VD may hold one more core, or holds this one already (03 R92), and SETSHARE has not stopped its placement (03 R84). -/
def State.shareOk (s : State) (vd core : Nat) : Bool :=
  let v := s.vd vd
  !v.shareStop && ((Table.look v.coreIds core).isSome || decide (v.coreIds.length < v.cores))

/-- Whether a core is eligible for a workgroup of gang `key` of a VD (03 R92). -/
def State.eligible (s : State) (vd : Nat) (r : LaunchRec) (key : Nat × Nat) (core : Nat) : Bool :=
  s.inPart vd core && s.shareOk vd core && !s.reservedFrom vd core key && s.roomFor core r

/-- A VD newly holds a core, or holds it no longer (03 R83 INUSE; 04 R124 COREID: the lowest number that is free). A kept scratchpad
still holds its core (log 87). Placement goes on once INUSE has fallen below CORES (03 R84). -/
def State.takeCore (s : State) (vd core : Nat) : State :=
  s.updVd vd fun v =>
    if (Table.look v.coreIds core).isSome then v
    else
      let used := v.coreIds.map (·.2)
      let id := ((List.range 513).find? fun n => !used.contains n).getD 0
      let ids := Table.put core id v.coreIds
      ({ v with coreIds := ids }).setInUse ids.length
def State.leaveCore (s : State) (vd core : Nat) : State :=
  if (s.residents core ++ s.keptOn core).any fun e => e.2.vd == vd then s
  else s.updVd vd fun v =>
    let ids := Table.drop core v.coreIds
    ({ v with
      coreIds := ids
      shareStop := v.shareStop && !decide (ids.length < v.cores) }).setInUse ids.length

/-! Mirrors (04 R118). -/

/-- Whether the mirrors of MIRROR = 0 workgroups fit on a core. -/
def State.autoMirror (s : State) (core : Nat) : Bool :=
  let here := (s.residents core).map fun e => s.launchOf e.1
  let ceil (n : Nat) : Nat := (n + 32767) / 32768
  let windows := (here.filter fun r => r.mirror == 0).foldl (fun n r => n + r.windowDemand) 0
  let w := ceil windows
  let kept := (s.keptOn core).foldl (fun n e => n + (s.launchOf e.1).scratchDemand) 0
  let z := ceil (here.foldl (fun n r => n + r.scratchDemand) kept)
  let demand := here.foldl (fun n r => n + r.demand) kept
  decide (2 * w + z + 4 ≤ 48) && decide (demand + windows ≤ 1408 * 1024)

/-- Whether a workgroup's windows have mirrors allocated. -/
def State.mirrored (s : State) (g : Nat) : Bool :=
  match (s.launchOf g).mirror with
  | 0 => s.autoMirror (s.group g).core
  | 2 => true
  | _ => false

/-- The evaluation at a placement or a workgroup end: mirrors that are no longer allocated are dropped. -/
def State.evalMirrors (s : State) (core : Nat) : State :=
  (s.residents core).foldl (fun s e => if s.mirrored e.1 then s else
    s.updGroup e.1 fun x => { x with warps := x.warps.map fun w => { w with mirror := false } }) s

/-- MIRROR_COPY_FINISHED (R119): the mirror of a warp's window becomes effective. -/
def execMirrorCopyFinished (g w : Nat) (s : State) : Res :=
  if (s.group g).residence == .resident && s.mirrored g then .next (s.updWarp g w fun x => { x with mirror := true }) else .next s

/-! Placement (03 R79, R93; 04 R114, R122, R124). -/

/-- The pipes of warps placed one after another, each on the pipe with the fewest warps (03 R93). -/
def pipesFor : Nat → List Nat → List Nat
  | 0, _ => []
  | n + 1, load =>
    let p := (List.range 4).foldl (fun best i => if listGet 0 load i < listGet 0 load best then i else best) 0
    p :: pipesFor n (listSet load p (listGet 0 load p + 1))

/-- Warps on each pipe of a core. -/
def State.pipeLoad (s : State) (core : Nat) : List Nat :=
  let ps := (s.residents core).flatMap fun e => e.2.warps.map (·.pipe)
  (List.range 4).map fun i => (ps.filter (· == i)).length

/-! The core store: 384 segments of 4 KiB (04 R114). -/

/-- The segments that hold an allocation. -/
def State.usedSegments (s : State) (core : Nat) : List Nat := (s.residents core ++ s.keptOn core).flatMap fun e => e.2.segments

/-- The lowest `n` segments outside a list. -/
def freeSegments (used : List Nat) (n : Nat) : List Nat := ((List.range 384).filter fun k => !used.contains k).take n

/-- The segments of a window of `n`: a run of free segments, of which a free value chooses one; where none is that long, the lowest
free segments (04 R114, R115; log 88). -/
def State.drawWindow (s : State) (used : List Nat) (n : Nat) : List Nat × State :=
  let starts := (List.range (385 - n)).filter fun a => (List.range n).all fun i => !used.contains (a + i)
  if starts.isEmpty then (freeSegments used n, s)
  else
    let (k, s) := s.drawFree
    let a := listGet 0 starts ((Config.freeWord k).toNat % starts.length)
    ((List.range n).map (a + ·), s)

/-- What a workgroup holds of a core's store and pipes. -/
structure Seat where
  warps : List Warp
  segments : List Nat

/-- Gives the warps of a workgroup their pipes and windows, and the workgroup its segments: its scratchpad and queues first, then the
windows, then the mirrors of MIRROR = 2. VBASE is the offset of a window's first segment (04 R115, R124). -/
def State.seat (s : State) (core : Nat) (r : LaunchRec) (ws : List Warp) : Seat × State :=
  let pipes := pipesFor ws.length (s.pipeLoad core)
  let used := s.usedSegments core
  let n := (r.vregs + 15) / 16
  let first : Seat × State := (⟨[], freeSegments used (r.scratchDemand / 4096)⟩, s)
  let (x, s) := (List.range ws.length).foldl (fun (acc : Seat × State) i =>
    let (w, s) := acc.2.drawWindow (used ++ acc.1.segments) n
    (⟨acc.1.warps ++ [{ listGet Warp.start ws i with pipe := listGet 0 pipes i, vbase := 4096 * w.headD 0 }],
      acc.1.segments ++ w⟩, s)) first
  let mirrors := if r.mirror == 2 then freeSegments (used ++ x.segments) (r.windowDemand / 4096) else []
  ({ x with segments := x.segments ++ mirrors }, s)

/-- A warp at its start (03 R79): thread TIDs from 64 * i on; the threads beyond the count begin as exited ones. -/
def freshWarp (r : LaunchRec) (wgid i first : Nat) : Warp :=
  let live := maskOf fun l => decide (64 * i + l < r.threads)
  { Warp.start with
    agent := Agent.start.setSreg 1 r.args none
    frontier := frontierOf [⟨0, r.word 0, live⟩]
    unstarted := ~~~live
    gens := (List.range 64).foldl (fun t l => Table.set 0 l (seedOf 0 (64 * i + l)) t) []
    spillSp := r.word 11 + BitVec.ofNat 64 ((wgid * r.warps + i) * fieldN (r.word 12) 23 0)
    abase := first
    alimit := first + r.accRows }

/-- Clears accumulator rows of a core. -/
def Core.clearRows (c : Core) (lo n : Nat) : Core :=
  let keep {β : Type} (e : Nat × β) : Bool := decide (e.1 < lo * 64) || decide ((lo + n) * 64 ≤ e.1)
  { c with acc := c.acc.filter keep, accPoison := c.accPoison.filter keep }

/-- A placement wakes the gated banks that its segments lie in, eight to a bank (03 R95). -/
def State.wakeBanks (s : State) (core : Nat) (segments : List Nat) : State :=
  s.updCore core fun c => { c with gated := c.gated.filter fun b => !segments.any fun k => k / 8 == b }

/-- Places a new workgroup on a core (03 R79, R93); its start is an acquire (03 R78, R98; 13 R323). -/
def State.placeGroup (s : State) (n wgid core : Nat) : State :=
  let gr := s.grid n
  let r := gr.record
  let first := (s.accGap core r.accRows).getD 0
  let (seat, s) := s.seat core r ((List.range r.warps).map fun i => freshWarp r wgid i first)
  let (g, s) := s.fresh
  let (queues, extent) := r.queues
  let spc := r.word 1
  let stoker : Option Stoker := if spc == 0 then none else some ⟨Agent.start.setSreg 1 r.args none, spc, []⟩
  let now := s.clk.toNat
  let s := s.setGroup g { Group.start with
    vd := gr.vd
    grid := n
    wgid := wgid
    core := core
    residence := .resident
    extent := extent
    vregs := r.vregs
    queues := queues
    warps := seat.warps
    stoker := stoker
    accFirst := first
    placed := g
    sliceStart := now
    charged := now
    segments := seat.segments }
  ((((s.updCore core fun c => c.clearRows first r.accRows).acquireCore core).wakeBanks core seat.segments).takeCore gr.vd core).evalMirrors core

/-! Resumption (16 R388). -/

/-- Lets an agent issue again: its waiting instruction starts anew (16 R376, R388). -/
def Agent.rearm (a : Agent) : Agent := { a with wait := none, skid := 0 }

/-- A fault record's owner after its matrix-unit operation has moved to a core. -/
def ParkOwner.moved (o : ParkOwner) (ids : List Nat) (core : Nat) : ParkOwner :=
  match o with
  | .matrix c id => .matrix (if ids.contains id then core else c) id
  | o => o

/-- The parked parts of an agent whose page is resolved are walked again, and cancelled loads issued again (16 R388, 04 R127). -/
def State.replayAgent (s : State) (a : AgentId) : State :=
  let open_ (s : State) (id page : Nat) : Bool := (s.vd (s.vdOf a)).faults.any fun f =>
    f.owner == .agent a id && f.page == page && !f.answered
  (s.agent a).ops.foldl (fun s o =>
    match o.work with
    | .copy c => s.setWork a o.id (.copy { c with parked := c.parked.filter fun p => open_ s o.id p.page })
    | .stream x => s.setWork a o.id (.stream { x with parked := x.parked.filter fun p => open_ s o.id p.page })
    | _ => s.replayLanes a o.id false fun p _ =>
        match p with
        | some p => !open_ s o.id p.page
        | none => true) s

/-- The agents of a workgroup. -/
def State.agentsOf (s : State) (g : Nat) : List AgentId :=
  (List.range (s.group g).warps.length).map (AgentId.warp g) ++ (if (s.group g).stoker.isSome then [AgentId.stoker g] else [])

/-- The range locks that a workgroup carries (16 R388): of its copies and streams, and of its matrix-unit operations. -/
def State.carriedLocks (s : State) (g : Nat) : List (AgentId × List RangeLock) :=
  let vd := (s.group g).vd
  let a := AgentId.stoker g
  ((s.agent a).ops.map fun o =>
    match o.work with
    | .copy c => (a, s.copyLocks a o.id c)
    | .stream x => (a, s.streamLocks a o.id x)
    | _ => (a, [])) ++
  (s.group g).carried.map fun (m : MatOp) =>
    let a := AgentId.warp m.g m.w
    let root := s.rootOf a
    (a, match m.kind with
      | .mma fn t rows sa sb sc => (s.operandSpans a fn t rows sa sb sc).map fun x => lockOf m.id vd root x false
      | .load fmt addr stride _ => (s.rowsSpan a addr stride (64 * accBytes fmt)).toList.map fun x => lockOf m.op vd root x false
      | .store fmt addr stride _ => (s.rowsSpan a addr stride (64 * accBytes fmt)).toList.map fun x => lockOf m.op vd root x true
      | _ => [])

/-- The range-lock entries that the exchanges of a workgroup's partitions take on a core that holds none of their workgroups yet
(14 R349). -/
def State.flueEntries (s : State) (g core : Nat) : Nat :=
  ((s.attachedParts g).map fun p => if (s.attachedCores p.2 (p.1 / 64)).contains core then 0
    else p.2.exchanges.length * (s.exchangeSpans p.2 (p.1 / 64) 0).length).sum

/-- Whether the range-lock tables have room for the locks of saved workgroups on some cores (10 R270, 16 R388). -/
def State.locksFit (s : State) (gs cores : List Nat) : Bool :=
  let t := (List.range gs.length).foldl (fun (t : State) i => t.updGroup (listGet 0 gs i) fun x => { x with core := listGet 0 cores i }) s
  (List.range gs.length).all fun i =>
    let g := listGet 0 gs i
    let ks := t.carriedLocks g
    (ks.all fun e => t.lockRoom e.1 (ks.flatMap (·.2))) &&
    decide ((s.core (listGet 0 cores i)).locks.length + (ks.flatMap (·.2)).length + s.flueEntries g (listGet 0 cores i) ≤ 128)

/-- An ended workgroup's scratchpad comes with its gang to a core (09 R231, 16 R388). -/
def State.seatKept (s : State) (g core : Nat) : State :=
  let segments := freeSegments (s.usedSegments core) ((s.launchOf g).scratchDemand / 4096)
  (((s.updGroup g fun x => { x with
    core := core
    residence := .kept true
    segments := segments }).wakeBanks core segments).takeCore (s.group g).vd core).evalMirrors core

/-- Resumes a saved workgroup on a core (16 R388), as an acquire (13 R326: it loads nothing older than it has stored). -/
def State.resumeGroup (s : State) (g core : Nat) : State :=
  let x := s.group g
  let r := s.launchOf g
  let first := (s.accGap core r.accRows).getD 0
  let (seat, s) := s.seat core r x.warps
  let ws := seat.warps.map fun (w : Warp) => { w with
    agent := w.agent.rearm
    abase := w.abase - x.accFirst + first
    alimit := w.alimit - x.accFirst + first
    mirror := false }
  let carried := x.carried.map fun (m : MatOp) => { m with row := m.row - x.accFirst + first }
  let ids := carried.map (·.id)
  let now := s.clk.toNat
  let handling := ws.any Warp.inTrapHandler
  let halt : Option Halt := if handling then some (.trap true) else none
  let s := s.setGroup g { x with
    core := core
    residence := .resident
    warps := ws
    stoker := x.stoker.map fun (k : Stoker) => { k with agent := k.agent.rearm }
    accFirst := first
    halt := halt
    sliceDue := false
    wakeable := false
    accSaved := []
    placed := s.uid
    sliceStart := now
    charged := now
    segments := seat.segments }
  let s := s.fresh.2
  let s := (s.carriedLocks g).foldl (fun (s : State) e => s.register e.1 e.2) s
  let s := (s.updGroup g fun x => { x with carried := [] }).updCore core fun c =>
    let c := c.clearRows first r.accRows
    let c := x.accSaved.foldl (fun (c : Core) e => c.setAcc (first + e.1 / 64) (e.1 % 64) e.2) c
    { c with matrix := c.matrix ++ carried }
  let s := s.updVd x.vd fun v => { v with faults := v.faults.map fun f => { f with owner := f.owner.moved ids core } }
  let s := (((s.acquireCore core).wakeBanks core seat.segments).takeCore x.vd core).syncFlues g
  let s := (s.agentsOf g).foldl State.replayAgent s
  let s := if Group.asyncDue { x with warps := ws } || ws.any Warp.due then s.haltBroadcast g else s
  s.evalMirrors core

/-! What waits for placement (03 R86, R93, R94, R98; 04 R127, R128; 17 R397). -/

/-- A unit of placement: new workgroups of a grid, a killed gang to start again, or saved images, each of one workgroup or gang. -/
inductive PlaceUnit where
  | fresh (grid wgid count : Nat)
  | again (grid gang count : Nat)
  | images (gs : List Nat)
  deriving DecidableEq, Repr

/-- Whether an agent has lanes of loads to issue again (04 R127). -/
def Agent.cancelled (a : Agent) : Bool :=
  a.ops.any fun o =>
    match o.work with
    | .load m _ wt _ _ _ => !wt.isEmpty && (match m.act with | .step _ => false | _ => true)
    | _ => false

/-- Whether a waiting agent's wake condition holds (04 R127): what BWAIT, QPOP or MWAIT names; a cancelled load always. The word of an
MWAIT at a remote home is read for it by MWAIT_REREAD (`wakeable`). -/
def State.wakes (s : State) (a : AgentId) : Bool :=
  match (s.agent a).wait with
  | some w =>
    match w.kind with
    | .barrier l token flipped => flipped || s.phase l != token
    | .popEmpty k _ => match s.feedQueue ((groupOf a).getD 0) k with | some q => q.avail != 0 | none => false
    | .word addr cond cmp _ =>
      let m : MemOp := ⟨.load, 8, false, 0, false, false, w.pc, 0⟩
      match (s.classify a m false ⟨0, addr, [], none, []⟩).1 with
      | .ok ls => (ls.headD ⟨.hbm, 0⟩).space != .fabric && compareS cond.toNat (wordOf (s.readBytes (ls.headD ⟨.hbm, 0⟩) 8)) cmp
      | _ => false
    | _ => (s.agent a).cancelled
  | none => (s.agent a).cancelled

/-- The gang that a workgroup belongs to, whatever its members' residence. -/
def State.gangOf (s : State) (g : Nat) : List Nat :=
  let x := s.group g
  let n := (s.launchOf g).gang
  (s.groups.filter fun e => e.2.grid == x.grid && e.2.wgid / n == x.wgid / n && e.2.residence != .ended).map (·.1)

/-- Whether a saved image, or its gang, may be resumed: all members saved, and for a swapped one some wake condition holds. -/
def State.resumable (s : State) (g : Nat) : Bool :=
  let gs := s.gangOf g
  let saved (x : Group) : Bool := x.doomed.isNone && match x.residence with | .saved _ _ | .kept false => true | _ => false
  let swapped := gs.any fun m => match (s.group m).residence with | .saved _ w => w | _ => false
  gs.all (fun m => saved (s.group m)) &&
    (!swapped || gs.any fun m => (s.group m).wakeable || (s.agentsOf m).any s.wakes)

/-- Whether a grid may have workgroups placed now (03 R93, R98): a root grid only once the launch records of the earlier ones are
read and all their workgroups placed. -/
def State.gridOpen (s : State) (v : Vd) (n : Nat) : Bool :=
  let g := s.grid n
  !g.ended && !g.killed && decide (g.placed < g.record.count) &&
  match g.parent with
  | some p => !g.record.depend || (s.grid p).ended
  | none => (v.gridOrder.takeWhile (· != n)).all fun m =>
      let e := s.grid m
      e.parent.isSome || e.killed || e.ended || (!e.record.words.isEmpty && decide (e.record.count ≤ e.placed))

/-- The units that wait for placement in a VD, in their order. A root grid waits for earlier root grids only, and root grids are tried
before children: how the two kinds are ordered among each other is not stated by 03 R93 and R98 (DESIGN CHOICE, log 87). -/
def State.units (s : State) (vd : Nat) : List PlaceUnit :=
  let v := s.vd vd
  let again := v.gridOrder.flatMap fun n =>
    let g := s.grid n
    if g.ended || g.killed then [] else g.ready.map fun k => PlaceUnit.again n k g.record.gang
  let saved := s.groups.filter fun e => e.2.vd == vd && (match e.2.residence with | .saved _ _ => true | _ => false) &&
    ((s.gangOf e.1).find? fun g => match (s.group g).residence with | .saved _ _ => true | _ => false) == some e.1 && s.resumable e.1
  let images := fun (swapped : Bool) => (saved.filter fun e => match e.2.residence with
    | .saved _ w => w == swapped
    | _ => false).map fun e => PlaceUnit.images (s.gangOf e.1)
  let open_ := v.gridOrder.filter (s.gridOpen v)
  let children := open_.filter fun n => (s.grid n).parent.isSome
  let roots := open_.filter fun n => (s.grid n).parent.isNone
  let children := (children.filter fun n => !(s.grid n).inOverflow) ++ children.filter fun n => (s.grid n).inOverflow
  let start := fun n => PlaceUnit.fresh n (s.grid n).placed (s.grid n).record.gang
  again ++ images true ++ images false ++ (roots ++ children).map start

/-- The launch record and size of a unit. -/
def State.unitRecord (s : State) : PlaceUnit → LaunchRec × Nat
  | .fresh n _ k | .again n _ k => ((s.grid n).record, k)
  | .images gs => (s.launchOf (gs.headD 0), gs.length)

/-- The grid and number of a unit's gang. -/
def State.unitKey (s : State) : PlaceUnit → Nat × Nat
  | .fresh n first k => (n, first / k)
  | .again n gang _ => (n, gang)
  | .images gs =>
    let x := s.group (gs.headD 0)
    (x.grid, x.wgid / (s.launchOf (gs.headD 0)).gang)

/-- Whether a unit may go to some cores: distinct eligible cores of one cluster (03 R92, R94). Its cores do not take INUSE above CORES
together, which the spec does not say of a gang each of whose cores is eligible by itself (DESIGN CHOICE, log 87). -/
def State.coresFit (s : State) (vd : Nat) (r : LaunchRec) (n : Nat) (key : Nat × Nat) (cores : List Nat) : Bool :=
  let v := s.vd vd
  let new := (cores.filter fun c => (Table.look v.coreIds c).isNone).length
  cores.length == n && cores.eraseDups.length == n && cores.all (s.eligible vd r key) &&
  cores.all (fun c => clusterKey c == clusterKey (cores.headD 0)) && (new == 0 || decide (v.coreIds.length + new ≤ v.cores))

/-- Cores of a cluster on which a unit's workgroups fit now. -/
def State.fitsIn (s : State) (vd : Nat) (r : LaunchRec) (key : Nat × Nat) (cluster : Nat) : List Nat :=
  ((List.range 8).map fun i => cluster / 20 * 160 + cluster % 20 * 8 + i).filter (s.eligible vd r key)

/-- Whether a unit of `n` workgroups fits in a cluster, as `coresFit` bounds it. -/
def State.clusterFits (s : State) (vd : Nat) (r : LaunchRec) (n : Nat) (key : Nat × Nat) (cluster : Nat) : Bool :=
  let here := s.fitsIn vd r key cluster
  let v := s.vd vd
  let held := (here.filter fun c => (Table.look v.coreIds c).isSome).length
  decide (n ≤ held + min (here.length - held) (v.cores - v.coreIds.length))

/-- Whether a unit fits somewhere (03 R86, R94). -/
def State.fitsAnywhere (s : State) (vd : Nat) (r : LaunchRec) (n : Nat) (key : Nat × Nat) : Bool :=
  (List.range 40).any (s.clusterFits vd r n key)

/-- The cluster that a gang which fits nowhere reserves (03 R94): the most cores on which its workgroups would fit once running
work ends, then the most on which they fit now, then the lower number. Once running work ends, they fit on every core of the VD's
partition that no other gang has reserved, whatever the VD's CORES: R94 does not say how the share enters this count (DESIGN
CHOICE, log 87). -/
def State.clusterFor (s : State) (vd : Nat) (r : LaunchRec) (key : Nat × Nat) : Option Nat :=
  let later := fun (k : Nat) => (((List.range 8).map fun i => k / 20 * 160 + k % 20 * 8 + i).filter fun c =>
    s.inPart vd c && !s.reservedFrom vd c key).length
  let now := fun (k : Nat) => (s.fitsIn vd r key k).length
  let best := (List.range 40).foldl (fun (b : Nat) k =>
    if later b < later k || (later b == later k && now b < now k) then k else b) 0
  if later best == 0 then none else some best

/-- Places a unit on some cores; a reservation for it is over (03 R94). -/
def State.placeUnit (s : State) (vd : Nat) (u : PlaceUnit) (cores : List Nat) : State :=
  let each (s : State) (n : Nat) (f : State → Nat → Nat → State) : State :=
    (List.range n).foldl (fun s i => f s i (listGet 0 cores i)) s
  let key := s.unitKey u
  let s := s.updVd vd fun v => { v with reserved := v.reserved.filter fun r => (r.grid, r.gang) != key }
  let s := match u with
    | .fresh n first k =>
      (each s k fun s i c => s.placeGroup n (first + i) c).updGrid n fun g => { g with placed := g.placed + k }
    | .again n gang k =>
      (each s k fun s i c => s.placeGroup n (gang * k + i) c).updGrid n fun g => { g with ready := g.ready.filter (· != gang) }
    | .images gs => each s gs.length fun s i c =>
      let g := listGet 0 gs i
      if (s.group g).residence == Residence.kept false then s.seatKept g c else s.resumeGroup g c
  s.noteBacklog vd

/-- Tries the units of a VD in order; a gang that fits nowhere reserves a cluster. Answers the first that fits. -/
def State.pickUnit (s : State) (vd : Nat) : List PlaceUnit → Option PlaceUnit × State
  | [] => (none, s)
  | u :: us =>
    let (r, n) := s.unitRecord u
    let key := s.unitKey u
    if s.fitsAnywhere vd r n key then (some u, s)
    else
      let v := s.vd vd
      let s := if 1 < n && !v.reserved.any s.gangWaits then
        s.setVd vd { v with reserved := (s.clusterFor vd r key).map fun k => ⟨k, key.1, key.2⟩ } else s
      s.pickUnit vd us

/-- VDs in the order of the decision (03 R86): the least VT first, the lowest number on ties. -/
def insertByVt (x : Nat × Word) : List (Nat × Word) → List (Nat × Word)
  | [] => [x]
  | y :: ys => if vtBefore x.2 y.2 then x :: y :: ys else y :: insertByVt x ys

/-- Tries the backlogged VDs of a partition in order. -/
def State.decision (s : State) (cores : List Nat) : List (Nat × Word) → State
  | [] => s
  | (vd, _) :: rest =>
    match s.pickUnit vd (s.units vd) with
    | (none, s) => s.decision cores rest
    | (some u, s) =>
      let (r, n) := s.unitRecord u
      if s.coresFit vd r n (s.unitKey u) cores && (match u with | .images gs => s.locksFit gs cores | _ => true) then
        s.placeUnit vd u cores
      else s

/-- DISPATCH_DECISION (R86): one decision of a hard partition. `cores` is the choice among the eligible cores, which R93 leaves
open; a choice that is not eligible places nothing. No decision is made outside ACTIVE (01 R16, R28) or while the scheduler's
role stands still (19 R431). -/
def execDispatchDecision (part : Nat) (cores : List Nat) (s : State) : Res :=
  let ready := s.vds.filter fun e => e.2.works && e.2.backlog && s.hardPart e.1 == part
  if s.roleStopped 0 || s.power.state != 1 then .next s
  else .next (s.decision cores ((ready.map fun e => (e.1, e.2.vt)).foldl (fun acc x => insertByVt x acc) []))

/-! Ends (07 R191; 03 R96, R99; 14 R353). -/

/-- The bytes of a workgroup's scratchpad go. -/
def State.dropScratch (s : State) (g : Nat) : State :=
  let tag := (Space.scratch g).tag
  let mine (k : Nat) : Bool := k / 2 ^ 64 == tag
  { s with mem := s.mem.filter fun e => !mine e.1, poison := s.poison.filter fun e => !mine e.1 }

/-- Takes everything that a workgroup holds on its core away: attachments, rows, scratchpad and its place. -/
def State.releaseGroup (s : State) (g : Nat) : State :=
  let x := s.group g
  let r := s.launchOf g
  let s := (s.charge g)
  let s := (x.attached.foldl (fun s t => s.detach g t) s).dropScratch g
  let s := s.setGroup g { Group.start with vd := x.vd, grid := x.grid, wgid := x.wgid, core := x.core, residence := .ended }
  match x.residence with
  | .resident => ((s.updCore x.core fun c => c.clearRows x.accFirst r.accRows).leaveCore x.vd x.core).evalMirrors x.core
  | .kept true => (s.leaveCore x.vd x.core).evalMirrors x.core
  | _ => s

/-- An ended member of a gang whose other members run releases all but its scratchpad and feed queues (09 R231). -/
def State.keepGroup (s : State) (g : Nat) : State :=
  let x := s.group g
  let r := s.launchOf g
  let s := s.charge g
  let s := x.attached.foldl (fun s t => s.detach g t) s
  let s := s.setGroup g { Group.start with
    vd := x.vd
    grid := x.grid
    wgid := x.wgid
    core := x.core
    residence := .kept true
    extent := x.extent
    queues := x.queues
    dirty := x.dirty
    segments := x.segments.take (r.scratchDemand / 4096) }
  (s.updCore x.core fun c => c.clearRows x.accFirst r.accRows).evalMirrors x.core

/-- Whether a workgroup has ended: its warps and stoker thread have, with counters of zero, and no trap is held (R191). -/
def State.groupOver (s : State) (g : Nat) : Bool :=
  let x := s.group g
  x.residence == .resident && x.doomed.isNone && x.asyncHeld.isEmpty &&
  x.warps.all (fun w => !w.unended && w.agent.ops.isEmpty && w.held.isEmpty) &&
  (match x.stoker with | some k => k.agent.ended && k.agent.ops.isEmpty | none => true)

/-- Whether every other member of a workgroup's gang has ended. -/
def State.gangOver (s : State) (g : Nat) : Bool :=
  (s.gangOf g).all fun m => m == g || match (s.group m).residence with | .kept _ => true | _ => false

/-- WORKGROUP_END (R191; 09 R231; 15 R365): the write-combining entries of the VD on the core are sent; the last member of a gang
takes what the ended ones kept with it. -/
def execWorkgroupEnd (g : Nat) (s : State) : Res :=
  if s.groupOver g then
    let x := s.group g
    let s := s.sendVd x.core x.vd
    let s := if s.gangOver g then (s.gangOf g).foldl (fun s m => s.releaseGroup m) s else s.keepGroup g
    .next ((s.updGrid x.grid fun n => { n with endedGroups := n.endedGroups + 1 }).noteBacklog x.vd)
  else .next s

/-- GRID_END (R96, R98): every workgroup has ended; its pending-launch entry is free from now on. -/
def execGridEnd (grid : Nat) (s : State) : Res :=
  let g := s.grid grid
  if !g.ended && !g.record.words.isEmpty && g.endedGroups == g.placed && (g.killed || g.placed == g.record.count) then
    .next ((s.updGrid grid fun n => { n with ended := true }).noteBacklog g.vd)
  else .next s

/-! Dampers and power gating (03 R89, R95). -/

/-- DAMPER_WINDOW_END (R89): the excess over a limit is carried into the next window, up to one window's limit, and the records of the
VD that were held go on. -/
def execDamperWindowEnd (vd : Nat) (s : State) : Res :=
  let carry (count limit : Nat) : Nat := if limit == 0 then 0 else min (count - 4096 * limit) (4096 * limit)
  .next ((s.updVd vd fun v => { v with
    hbmWindow := carry v.hbmWindow v.hbmDamp
    linkWindow := carry v.linkWindow v.linkDamp }).rerunVd vd)

/-- BANK_POWER_GATE (R95): a bank that holds no allocation is gated, after its lines are written back, which the homes already hold,
or invalidated. Which lines of the core's L1 lie in a bank is not stated, so all its copies are dropped, and whether the bank holds
an owned line is left to the event (log 74). -/
def execBankPowerGate (core bank : Nat) (s : State) : Res :=
  if 48 ≤ bank || (s.usedSegments core).any fun k => k / 8 == bank then .next s
  else .next (s.updCore core fun c => { c with l1 := [], gated := if c.gated.contains bank then c.gated else bank :: c.gated })

end Sys2Proof.Machine
end

