-- ==== Sys2Proof/Machine/Preempt.lean ====
section
/-! DEFINITION. Halts, handlers, slice ends, saves and the forward-progress swap (16 R374-R389; 03 R88; 04 R125-R128). -/

namespace Sys2Proof.Machine

/-! The halt and handler entry (16 R376-R379). -/

/-- A warp when its halt has settled: the head at the halt, SKID, and no waiting instruction. -/
def Warp.settleHalt (w : Warp) : Warp :=
  { w with
    haltPc := w.head.pc
    haltMask := w.head.mask
    skidReg := if w.held.isEmpty then BitVec.ofNat 3 w.agent.skid else 0
    agent := { w.agent with wait := none } }

/-- Drops what an agent's waiting instruction has asked of remote homes: it issues again on resumption. -/
def State.dropWaits (s : State) (a : AgentId) : State :=
  { s with
    remote := s.remote.filter fun r => match r.use with
      | .wait b => b != a
      | .engineRead w _ _ => w != .agent a 0
      | _ => true
    engineData := s.engineData.filter fun e => e.who != .agent a 0 }

/-- Settles the halt of a workgroup: every agent has stopped, and a waiting instruction will issue again. -/
def State.settleHalt (s : State) (g : Nat) (h : Halt) : State :=
  ((s.agentsOf g).foldl State.dropWaits s).updGroup g fun x => { x with
    halt := some h
    warps := x.warps.map Warp.settleHalt
    stoker := x.stoker.map fun (k : Stoker) => { k with agent := { k.agent with wait := none } } }

/-- Whether lanes of the instruction that a trap record names are still on their way to remote homes (09 R243: they complete
before the trap is taken). -/
def Agent.awaits (a : Agent) (t : TrapRec) : Bool :=
  a.ops.any fun o =>
    match o.work.memOp with
    | some m => m.pc == t.pc && !o.work.parts.remote.isEmpty
    | none => false

/-- The record of an asynchronous trap at entry: TRAPPC is the PC of the head at the halt (16 R379). -/
def Warp.entryRecord (w : Warp) (t : TrapRec) : TrapRec :=
  match t.kind with
  | .async => { t with pc := w.haltPc }
  | _ => t

/-- A warp enters its trap handler for the first trap it holds (16 R378). A warp that has no thread left has nothing to run: the
record is written and the handler is over. -/
def State.enterTrap (s : State) (g wn : Nat) : State :=
  let w := s.warp g wn
  match w.held with
  | [] => s
  | t :: ts =>
    let s := s.fresh.2
    let s := s.updGroup g fun x => { x with lastCause := t.cause }
    let w' := Warp.enterHandler { w with held := ts, skidReg := 0 } s.uid (s.launchOf g).thpc (w.entryRecord t)
    if w.unended then s.setWarp g wn w'
    else (s.setWarp g wn { w' with handler := w'.handler.drop 1 }).afterHandler g wn t.kind

/-- The trap record of a slice end (16 R379). -/
def sliceRecord (w : Warp) (budget : Nat) : TrapRec :=
  ⟨.slice, causeWord .sliceEnd none 0 none, w.haltPc, w.haltMask, 0, 0, BitVec.ofNat 64 budget, none⟩

/-- Every warp that has not ended enters the slice handler (16 R382); with none, the save follows at once. -/
def State.enterSlice (s : State) (g : Nat) : State :=
  let r := s.launchOf g
  let s := s.fresh.2
  let enter (w : Warp) : Warp := if w.unended then w.enterHandler s.uid r.shpc (sliceRecord w r.budget) else w
  let s := s.updGroup g fun x => { x with
    warps := x.warps.map enter
    lastCause := causeWord .sliceEnd none 0 none }
  if (s.group g).warps.any Warp.unended then s else s.updGroup g fun x => { x with halt := some (.saving true false) }

/-- HANDLER_ENTRY (R378): the halt settles, and the lowest-numbered warp that holds a trap enters its handler, one at a time;
at a slice end all enter together. -/
def execHandlerEntry (g : Nat) (s : State) : Res :=
  let x := s.group g
  let enter (s : State) : State :=
    let x := s.group g
    match (List.range x.warps.length).find? fun i => (s.warp g i).due with
    | none => if x.asyncDue then s else s.afterHandler g 0 .sync
    | some i =>
      match (s.warp g i).held with
      | t :: _ => if (s.agent (.warp g i)).awaits t then s else s.enterTrap g i
      | [] => s
  if x.residence != .resident || x.doomed.isSome then .next s
  else
    match x.halt with
    | some (.trap false) => .next (enter (s.settleHalt g (.trap true)))
    | some (.trap true) => if x.warps.any Warp.inTrapHandler then .next s else .next (enter s)
    | some (.slice false r) => .next ((s.settleHalt g (.slice true r)).enterSlice g)
    | _ => .next s

/-- ASYNC_TRAP (R375, R377): the first asynchronous trap of a workgroup goes to the delivery warp, behind what it holds. One that comes
while a handler runs is held until the last handler has executed TRET. With no warp left it is unhandled. -/
def execAsyncTrap (g : Nat) (s : State) : Res :=
  let x := s.group g
  match x.asyncHeld with
  | [] => .next s
  | t :: ts =>
    let delivery := (List.range x.warps.length).find? fun i => (s.warp g i).unended
    let give := (s.updGroup g fun x => { x with asyncHeld := ts }).updWarp g (delivery.getD 0) fun w => { w with held := w.held ++ [t] }
    if x.residence != .resident || x.doomed.isSome then .next s
    else
      match delivery with
      | none => .next (s.updGroup g fun x => { x with asyncHeld := ts, doomed := some (.permission, 0) })
      | some _ =>
        if (s.launchOf g).thpc == 0 then
          .next (s.updGroup g fun x => { x with asyncHeld := ts, doomed := some (.permission, 0) })
        else
          let running := x.warps.any fun w => !w.handler.isEmpty
          match x.halt with
          | none => .next (if running then s else s.haltBroadcast g)
          | some (.trap false) => .next (if running then s else give)
          | some (.trap true) => .next (if running || x.warps.any Warp.due then s else give)
          | _ => .next s

/-! Slice ends (03 R88; 16 R381, R382). -/

/-- Whether another VD needs a core that a VD holds (R88). -/
def State.neededBy (s : State) (vd core y : Nat) : Bool :=
  let s : State := { s with groups := s.groups.map fun e =>
    if e.2.core == core && e.2.vd == vd && (e.2.residence == .resident || e.2.residence == .kept true) then
      (e.1, { e.2 with residence := .ended }) else e }
  let s := s.leaveCore vd core
  match s.units y with
  | [] => false
  | u :: _ =>
    let (r, n) := s.unitRecord u
    if n == 1 then s.eligible y r (s.unitKey u) core else s.clusterFits y r n (s.unitKey u) (clusterKey core)

/-- Stops a workgroup for its slice end; one that is being saved already is served by that save (R389), and one in a trap
handler is stopped when the last handler returns (R381). -/
def State.preempt (s : State) (g : Nat) : State :=
  match (s.group g).halt with
  | none => s.startSlice g
  | some (.trap _) =>
    if (s.launchOf g).shpc == 0 then s.updGroup g fun x => { x with halt := some (.saving false false) }
    else s.updGroup g fun x => { x with sliceDue := true }
  | _ => s

/-- SLICE_END (R88): each of the VD's workgroups on the core is pre-empted with its gang, also the gang of an ended one that keeps its
scratchpad there. -/
def execSliceEnd (vd core : Nat) (s : State) : Res :=
  let mine := (s.residents core).filter fun e => e.2.vd == vd && e.2.doomed.isNone
  let vt := (s.vd vd).vt
  let needed := s.vds.any fun e => e.1 != vd && e.2.works && e.2.backlog && s.hardPart e.1 == s.hardPart vd &&
    vtBefore e.2.vt vt && s.neededBy vd core e.1
  if needed then
    let here := mine ++ (s.keptOn core).filter fun e => e.2.vd == vd
    let gs := (here.flatMap fun e => s.gangOf e.1).eraseDups.filter fun g => (s.group g).residence == .resident
    .next (gs.foldl (fun s g => (s.charge g).preempt g) s)
  else
    .next (mine.foldl (fun s e => (s.charge e.1).updGroup e.1 fun x => { x with sliceStart := s.clk.toNat }) s)

/-- A workgroup whose save is forced by the end of its budget. -/
def Group.force (x : Group) : Group := { x with halt := some (.saving false false), sliceDue := false }

/-- SLICE_BUDGET_EXPIRE (R382): what has not returned is halted where it stands, with a SKID of 0 in a slice handler, and the save is
forced. -/
def execSliceBudgetExpire (g : Nat) (s : State) : Res :=
  let x := s.group g
  let stop (settled : Bool) (w : Warp) : Warp := if settled then { w with skidReg := 0 } else w.settleHalt
  match x.halt with
  | some (.slice settled _) => .next (s.updGroup g fun x => { x.force with warps := x.warps.map (stop settled) })
  | some (.trap _) => if x.sliceDue then .next (s.updGroup g Group.force) else .next s
  | _ => .next s

/-! Saves (16 R383-R387). -/

/-- Whether what remains of a copy is parked, or the copy waits to start (R384). -/
def Copy.atRest (c : Copy) (q : Option FeedQueue) : Bool :=
  let parked := (c.parked.map fun p => (c.sectorBytes q p.part).length).foldl (· + ·) 0
  c.failed.isNone && c.sending.isEmpty && (!c.started || (!c.parked.isEmpty && c.credited + parked == c.len))

/-- Whether a counted operation lets a save proceed (R384). -/
def State.atRest (s : State) (a : AgentId) (o : Op) : Bool :=
  let g := (groupOf a).getD 0
  match o.work with
  | .finished | .tile => true
  | .load _ rs wt pk rm _ => rs.isEmpty && rm.isEmpty && (!wt.isEmpty || !pk.isEmpty)
  | .store _ ws pk rm => ws.isEmpty && rm.isEmpty && !pk.isEmpty
  | .tracked _ _ _ _ _ => false
  | .queue _ => false
  | .copy c => c.atRest (c.queue.bind fun k => s.feedQueue g k)
  | .stream x => !x.parked.isEmpty || s.conflicts a o.id ||
      (match s.feedQueue g x.record.qnum with | some q => q.room == 0 | none => true)

/-- The rows that an operation has moved. -/
def MatKind.done : MatKind → Mask
  | .load _ _ _ d | .store _ _ _ d => d
  | _ => 0

/-- Whether the matrix-unit operations of a workgroup let a save proceed: started ones have every remaining row parked, and
none that has not started could start now. -/
def State.matrixAtRest (s : State) (g : Nat) : Bool :=
  let c := (s.group g).core
  let ops := ((s.core c).matrix).filter fun (m : MatOp) => m.g == g
  let sent (m : MatOp) : Bool := s.remote.any fun r => match r.use with
    | .engineRead w _ _ | .engineWrite w _ => w == .matrix c m.id
    | _ => false
  let parked (m : MatOp) : Mask := maskOf fun i => m.parked.any fun p => p.part == i
  ops.all (fun m => !m.started || (m.kind.moves && !sent m && ~~~(m.kind.done ||| parked m) == 0)) &&
  (ops.all (fun m => m.started) || ((s.startMatrix c).core c).matrix == (s.core c).matrix)

/-- Cancels the outstanding remote loads of a workgroup: their lanes are marked for reissue (04 R127). -/
def State.cancelLoads (s : State) (a : AgentId) : State :=
  let lanes (id : Nat) : List LaneAcc := s.remote.filterMap fun r => match r.use with
    | .lane b n x => if b == a && n == id then some x else none
    | _ => none
  let t := s.updAgent a fun x => { x with ops := x.ops.map fun (o : Op) =>
    match o.work with
    | .load m rs wt pk rm rd => if rm.isEmpty then o else { o with work := .load m rs (wt ++ lanes o.id) pk [] rd }
    | _ => o }
  { t with remote := t.remote.filter fun r => match r.use with | .lane b _ _ => b != a | _ => true }

/-- A dirty scratchpad segment, window segment or accumulator group that holds something: it is written at restore, and then
dirty (16 R385, R388). -/
def State.dirtyScratch (s : State) (g n : Nat) : Bool :=
  let tag := (Space.scratch g).tag
  let hit (k : Nat) : Bool := k / 2 ^ 64 == tag && k % 2 ^ 64 / 4096 == n
  s.mem.any (fun e => hit e.1) || s.poison.any fun e => hit e.1
def Warp.dirtyWindow (w : Warp) : BitVec 8 :=
  BitVec.ofNat 8 ((List.range 8).foldl (fun acc n =>
    let hit {β : Type} (e : Nat × β) : Bool := e.1 / 1024 == n
    if w.vregs.any hit || w.vpoison.any hit then acc + 2 ^ n else acc) 0)

/-- The accumulator elements of a workgroup, by row of its own and element. -/
def State.accOf (s : State) (g : Nat) : Table (W32 × Option Prov) :=
  let x := s.group g
  let n := (s.launchOf g).accRows
  let c := s.core x.core
  let lo := x.accFirst * 64
  let mine (k : Nat) : Bool := decide (lo ≤ k) && decide (k < lo + n * 64)
  let keys := ((c.acc.map (·.1)) ++ c.accPoison.map (·.1)).filter mine
  keys.foldl (fun t k => Table.put (k - lo) (Table.get 0 c.acc k, Table.look c.accPoison k) t) []

/-- The workgroup as its image holds it (R383, R386): a cooperative save keeps the thin state alone. -/
def State.imageOf (s : State) (g : Nat) (cooperative swap : Bool) : Group :=
  let x := s.group g
  let acc := if cooperative then [] else s.accOf g
  { x with
    residence := .saved cooperative swap
    halt := none
    sliceDue := false
    wakeable := false
    segments := []
    carried := ((s.core x.core).matrix).filter fun (m : MatOp) => m.g == g
    accSaved := acc
    dirty := if cooperative then [] else x.dirty.filter (s.dirtyScratch g)
    accDirty := (acc.map fun e => e.1 / 4096).eraseDups
    warps := x.warps.map fun (w : Warp) => if cooperative then { w with vregs := [], vpoison := [], dirty := 0 }
      else { w with dirty := w.dirtyWindow } }

/-- When the last running member of a gang has been saved, the scratchpads that its ended members keep go with the images, contents and
all (09 R231; log 87). -/
def State.saveKept (s : State) (g : Nat) : State :=
  let gs := s.gangOf g
  if gs.any fun m => (s.group m).residence == .resident then s
  else (gs.filter fun m => (s.group m).residence == .kept true).foldl (fun s m =>
    let x := s.group m
    ((s.updGroup m fun x => { x with
      residence := .kept false
      dirty := x.dirty.filter (s.dirtyScratch m)
      segments := [] }).leaveCore x.vd x.core).evalMirrors x.core) s

/-- Saves a workgroup whose work is at rest, and releases its core store and rows (R384, R386). -/
def State.saveGroup (s : State) (g : Nat) (cooperative swap : Bool) : State :=
  let s := s.charge g
  let x := s.group g
  let image := s.imageOf g cooperative swap
  let s := (s.agentsOf g).foldl State.dropWaits s
  let ids := ((s.agentsOf g).flatMap fun a => (s.agent a).ops.map (·.id)) ++ image.carried.map (·.id)
  let s := ids.foldl State.unlock s
  let tag := (Space.scratch g).tag
  let s : State := if cooperative then { s with mem := s.mem.filter (fun e => e.1 / 2 ^ 64 != tag),
                                                poison := s.poison.filter fun e => e.1 / 2 ^ 64 != tag } else s
  let s := (s.setGroup g image).updCore x.core fun c =>
    { (c.clearRows x.accFirst (s.launchOf g).accRows) with matrix := c.matrix.filter fun (m : MatOp) => m.g != g }
  let up (n : BitVec 16) : BitVec 16 := if n.toNat == 0xFFFF then n else n + 1
  let s := s.updVd x.vd fun v =>
    if swap then v else if cooperative then { v with saveCoop := up v.saveCoop } else { v with saveForced := up v.saveForced }
  ((((s.leaveCore x.vd x.core).evalMirrors x.core).syncFlues g).saveKept g).noteBacklog x.vd

/-! The size of an image, and the save area (R384-R386). -/

/-- The bytes that a dirty segment or group of `n` words takes in an image (R385): its words when it holds poison, none when they are all
0, one when they are all the same, and else all. -/
def codedBytes (n : Nat) (held poisoned : Bool) (word : Nat → W32) : Nat :=
  if poisoned then 4 * n
  else if !held then 0
  else if word 0 != 0 && (List.range n).all fun i => word i == word 0 then 4 else 4 * n

/-- What the register window of a warp takes in a forced save's image. -/
def Warp.codedWindow (w : Warp) : Nat :=
  (((List.range 8).filter w.dirty.getLsbD).map fun k =>
    codedBytes 1024 (w.vregs.any fun e => e.1 / 1024 == k) (w.vpoison.any fun e => e.1 / 1024 == k)
      fun i => Table.get 0 w.vregs (1024 * k + i)).sum

/-- What the scratchpad and the queues of a workgroup take. -/
def State.codedScratch (s : State) (g : Nat) (x : Group) : Nat :=
  let tag := (Space.scratch g).tag
  let hit (n k : Nat) : Bool := k / 2 ^ 64 == tag && k % 2 ^ 64 / 4096 == n
  (x.dirty.map fun n => codedBytes 1024 (s.mem.any fun e => hit n e.1) (s.poison.any fun e => hit n e.1)
    fun i => BitVec.ofNat 32 (leN (s.readBytes ⟨.scratch g, 4096 * n + 4 * i⟩ 4))).sum

/-- What the accumulator rows in an image take. -/
def Group.codedRows (x : Group) : Nat :=
  (x.accDirty.map fun n =>
    let here := x.accSaved.filter fun e => e.1 / 4096 == n
    codedBytes 4096 (here.any fun e => e.2.1 != 0) (here.any fun e => e.2.2.isSome)
      fun i => (Table.get (0, none) x.accSaved (4096 * n + i)).1).sum

/-- Whether a workgroup is saved. -/
def Group.isSaved (x : Group) : Bool := match x.residence with | .saved _ _ => true | _ => false

/-- The bytes of an image (R386): the thin parts with a progress record for each copy and stream, the map of two bits for each segment
and group, and the data of a forced save, each part from a multiple of 64 on. -/
def State.imageBytes (s : State) (g : Nat) (x : Group) : Nat :=
  let r := s.launchOf g
  let moves := match x.stoker with
    | some k => (k.agent.ops.filter fun o => match o.work with | .copy _ | .stream _ => true | _ => false).length
    | none => 0
  let codes := (r.windowDemand + r.scratchDemand) / 4096 + r.accRows / 64
  let data := (x.warps.map Warp.codedWindow).sum + s.codedScratch g x + x.codedRows
  256 + 2048 * x.warps.length + (if x.stoker.isSome then 2048 else 0) + 1024 + 64 * moves + roundUp ((codes + 3) / 4) 64 +
    (if x.residence == .saved true false then 0 else roundUp data 64)

/-- Whether the VD's save area can take the image of a workgroup beside those that it holds and, before any member of the gang is saved,
the images of its other running members (R384, log 26). -/
def State.imagesFit (s : State) (g : Nat) (cooperative swap : Bool) : Bool :=
  let vd := (s.group g).vd
  let held := ((s.groups.filter fun e => e.2.vd == vd && e.2.isSaved).map fun e => s.imageBytes e.1 e.2).sum
  let gang := s.gangOf g
  let others := if gang.any fun m => (s.group m).isSaved then [] else
    gang.filter fun m => m != g && (s.group m).residence == .resident
  decide (held + s.imageBytes g (s.imageOf g cooperative swap) +
    (others.map fun m => s.imageBytes m (s.imageOf m false swap)).sum ≤ (s.vd vd).saveArea)

/-- A pre-emption, or a swap, is not made: the running members of the gang go on, and after a pre-emption a new slice starts
(R384). -/
def State.keepRunning (s : State) (g : Nat) (swap : Bool) : State :=
  ((s.gangOf g).filter fun m => (s.group m).residence == .resident).foldl (fun s m =>
    (s.charge m).updGroup m fun x => { x with
      halt := match x.halt with
        | some (.saving _ _) | some (.slice _ _) => none
        | h => h
      sliceDue := false
      sliceStart := if swap then x.sliceStart else s.clk.toNat }) s

/-- Tries the save of a workgroup: the write-combining entries of its VD are sent, and remote loads cancelled for a swap; none
while its work is not at rest, and none when the save area cannot take the image (R384). -/
def State.trySave (s : State) (g : Nat) (cooperative swap : Bool) : State :=
  if !s.imagesFit g cooperative swap then s.keepRunning g swap
  else
    let x := s.group g
    let s := s.sendVd x.core x.vd
    let agents := s.agentsOf g
    let s := if swap then agents.foldl State.cancelLoads s else s
    let rest := agents.all fun a => (s.agent a).ops.all (s.atRest a)
    if rest && s.matrixAtRest g then s.saveGroup g cooperative swap else s

/-- CONTEXT_SAVE (R384). -/
def execContextSave (g : Nat) (s : State) : Res :=
  let x := s.group g
  match x.halt with
  | some (.saving cooperative swap) =>
    if x.residence == .resident && x.doomed.isNone then .next (s.trySave g cooperative swap) else .next s
  | _ => .next s

/-! The forward-progress swap (04 R125-R127). -/

/-- Whether an agent has a remote load, no atomic, outstanding. -/
def Agent.loadsRemote (a : Agent) : Bool :=
  a.ops.any fun o =>
    match o.work with
    | .load m _ _ _ rm _ => !m.act.writes && !rm.isEmpty
    | _ => false

/-- Whether an agent has ended or is at a blocking point (R126): a remote load blocks one whose head waits at a WAIT or could not issue
when last tried. -/
def State.blocked (s : State) (a : AgentId) : Bool :=
  if !s.live a then true
  else
    match (s.agent a).wait with
    | some w =>
      match w.kind with
      | .barrier l token flipped => !flipped && s.phase l == token
      | .popEmpty k _ => match s.feedQueue ((groupOf a).getD 0) k with | some q => q.avail == 0 | none => false
      | .word _ _ _ _ => true
      | .counters _ => (s.agent a).loadsRemote
      | _ => false
    | none => (s.agent a).stalled && (s.agent a).loadsRemote

/-- Whether an agent has an outstanding copy, tile operation or atomic. -/
def Agent.engaged (a : Agent) : Bool :=
  a.ops.any fun o => !o.over && (o.cls == .tiles || match o.work with
    | .copy _ => true
    | w => match w.memOp with
      | some m => (match m.act with | .atomic _ _ => true | _ => false)
      | none => false)

/-- Whether a workgroup is swappable by itself (R126). -/
def State.swappableOne (s : State) (g : Nat) : Bool :=
  (s.group g).residence == .resident && (s.group g).halt.isNone && (s.group g).doomed.isNone &&
  (s.agentsOf g).all (fun a => s.blocked a && !(s.agent a).engaged) &&
  (s.attachedParts g).all fun p => p.2.pushes.isEmpty

/-- FORWARD_PROGRESS_SWAP (R127): of the swappable workgroups of the core whose VD has one waiting, the one with the highest WGID,
then the one placed last; a gang whole. -/
def execForwardProgressSwap (core : Nat) (s : State) : Res :=
  if !s.pf.fpSwap || s.power.state != 1 then .next s
  else
    let running (g : Nat) : List Nat := (s.gangOf g).filter fun m => (s.group m).residence == .resident
    let able := (s.residents core).filter fun e => (s.vd e.2.vd).backlog && (running e.1).all s.swappableOne
    let best := able.foldl (fun (b : Option (Nat × Group)) e =>
      match b with
      | none => some e
      | some y => if y.2.wgid < e.2.wgid || (y.2.wgid == e.2.wgid && y.2.placed < e.2.placed) then some e else b) none
    match best with
    | none => .next s
    | some e => .next ((running e.1).foldl (fun s g => s.updGroup g fun x => { x with halt := some (.saving false true) }) s)

end Sys2Proof.Machine
end

