-- ==== Sys2Proof/Machine/Paging.lean ====
section
/-! DEFINITION. HBM frames and stage-2 tables, the paging engine, and the answers to fault records (12 R305-R317; 01 R35). -/

namespace Sys2Proof.Machine

/-! Frames (02 R47; 12 R314; 01 R35). Which frame is taken is open; the model takes the lowest free ones (log 25). -/

/-- The frames of a hard partition: all 384 GiB, or a die's half (03 R80). -/
def State.frameRange (s : State) (part : Nat) : Nat × Nat :=
  let half := 192 * 2 ^ 18
  if !s.pf.partMode then (0, 2 * half) else if part == 0 then (0, half) else (half, 2 * half)

/-- Whether no run meets `n` frames from `f` on. -/
def State.framesFree (s : State) (f n : Nat) : Bool :=
  s.frames.all fun e => decide (e.1 + e.2.len ≤ f) || decide (f + n ≤ e.1)

/-- The lowest free run of `n` frames of a partition, aligned. -/
def State.findRun (s : State) (part n align : Nat) : Option Nat :=
  let (lo, hi) := s.frameRange part
  let starts := (lo :: s.frames.map fun e => e.1 + e.2.len).map fun f => roundUp f align
  (starts.filter fun f => decide (lo ≤ f) && decide (f + n ≤ hi) && s.framesFree f n).foldl (fun (b : Option Nat) f =>
    match b with
    | some x => some (min x f)
    | none => some f) none

/-- Takes a run of frames for an owner. -/
def State.takeRun (s : State) (part n align : Nat) (o : FrameOwner) (page : Nat) : Option (Nat × State) :=
  match s.findRun part n align with
  | some f => some (f, { s with frames := Table.put f ⟨n, o, page⟩ s.frames })
  | none => none

/-- Wipes frames (R35): they read zero and hold no poison. -/
def State.wipeFrames (s : State) (f n : Nat) : State :=
  let inside (k : Nat) : Bool := decide (4096 * f ≤ k) && decide (k < 4096 * (f + n))
  { s with mem := s.mem.filter fun e => !inside e.1, poison := s.poison.filter fun e => !inside e.1 }

/-- Wipes and frees the run that begins at a frame; no core keeps a word of it (R315). -/
def State.freeRun (s : State) (f : Nat) : State :=
  match Table.look s.frames f with
  | some r => { (s.revoke (4096 * f) (4096 * r.len)).wipeFrames f r.len with frames := Table.drop f s.frames }
  | none => s

/-- Frames that an owner holds. -/
def State.framesOf (s : State) (o : FrameOwner) : Nat := (s.frames.filter fun e => e.2.owner == o).foldl (fun n e => n + e.2.len) 0

/-! Stage-2 tables (12 R293, R294). -/

/-- A tracked store of a table entry (12 R300). -/
def State.writeEntry (s : State) (slot : Nat) (w : Word) : State := s.engineStore (writesAt ⟨.hbm, slot⟩ (bytesOf w) none)

/-- The entries, one level down, that map what a leaf maps. -/
def splitLeaf (e : Word) (lvl : Nat) : List Word :=
  (List.range 512).map fun i => BitVec.ofNat 64 (fieldN e 11 0 + (pteAddr e + i * levelSize lvl))

/-- Writes a leaf of level `target` for a VD-physical address, with the tables it needs; none when no frame is free for one. -/
def State.putLeaf (s : State) (vd target : Nat) (leaf : Word) (pa : Nat) : Nat → Nat → Option State
  | 0, _ => none
  | lvl + 1, table =>
    let slot := table + levelIndex (lvl + 1) pa * 8
    let e := s.hbmWord slot
    if lvl + 1 ≤ target then some (s.writeEntry slot leaf)
    else if pteP e && !pteLeaf e then s.putLeaf vd target leaf pa lvl (pteAddr e)
    else
      match s.takeRun (s.hardPart vd) 1 1 (.outside vd) 0 with
      | none => none
      | some (f, s) =>
        let base := 4096 * f
        let s := if pteP e then (List.range 512).foldl (fun s i => s.writeEntry (base + 8 * i) (listGet 0 (splitLeaf e lvl) i)) s else s
        (s.writeEntry slot (BitVec.ofNat 64 (base + 1))).putLeaf vd target leaf pa lvl base

/-- Maps a VD-physical page or range of a level. -/
def State.mapAt (s : State) (vd lvl pa : Nat) (leaf : Word) : Option State := s.putLeaf vd lvl leaf pa 5 (s.vd vd).s2root

/-- The leaf that a VD-physical address has. -/
def State.leafOf (s : State) (vd pa : Nat) : Option LeafHit :=
  match s.stage2Leaf vd pa with
  | .ok h => some h
  | .error _ => none

/-- The leaf of a page of the VD's own memory (R314): present, R, W and X. -/
def ownLeaf (addr tgt : Nat) : Word := BitVec.ofNat 64 (addr + 0x1F + 2 ^ 10 * tgt)

/-! Eviction (R315). -/

/-- Whether a page belongs to the pinned ashpit (17 R404). -/
def Vd.pinned (v : Vd) (page : Nat) : Bool :=
  let base := fieldN v.ashBase 51 16 * 16
  let size := 2 ^ (min 4 (fieldN v.ashBase 2 0)) * 16
  v.ashPinned && decide (base ≤ page) && decide (page < base + size)

/-- The bytes of a page with their poison, to be written from a place on: a migration moves poison as the other engines do (17 R392). -/
def State.pageWrites (s : State) (from_ to_ : Loc) : List ByteWrite :=
  (List.range 4096).map fun i => ⟨to_.plus i, s.readByte (from_.plus i), s.poisonAt (from_.plus i)⟩

/-- Evicts a resident page: its leaf is cleared, the ownership of its words revoked, its frame copied out when D is set, wiped and
freed. -/
def State.evict (s : State) (vd f page : Nat) : State :=
  match s.leafOf vd (4096 * page) with
  | none => s.freeRun f
  | some h =>
    let s := (s.writeEntry h.at_ (h.entry &&& ~~~1#64)).revoke (4096 * f) 4096
    let s := if h.entry.getLsbD 6 then
        (s.performOutside (s.pageWrites ⟨.hbm, 4096 * f⟩ ⟨.host, (s.vd vd).backing.toNat + 4096 * page⟩)).meterHbm vd 4096
      else s
    s.freeRun f

/-- The clock sweep: A bits found set are cleared, and the first page found with A clear is chosen. -/
def State.sweep (s : State) (vd : Nat) : List (Nat × Nat) → Option (Nat × Nat) × State
  | [] => (none, s)
  | (f, page) :: rest =>
    match s.leafOf vd (4096 * page) with
    | none => (some (f, page), s)
    | some h =>
      if h.entry.getLsbD 5 then (s.writeEntry h.at_ (h.entry &&& ~~~0x20#64)).sweep vd rest
      else (some (f, page), s)

/-- Evicts one page of a VD, if it has one that is not pinned. -/
def State.evictOne (s : State) (vd : Nat) : Option State :=
  let v := s.vd vd
  let own := (s.frames.filter fun e => e.2.owner == .vd vd && !v.pinned e.2.page).map fun e => (e.2.page, e.1)
  let sorted := own.foldl (fun (t : Table Nat) e => Table.put e.1 e.2 t) []
  let turn := ((sorted.filter fun e => decide (v.hand ≤ e.1)) ++ sorted.filter fun e => decide (e.1 < v.hand)).map fun e => (e.2, e.1)
  match s.sweep vd (turn ++ turn) with
  | (some (f, page), s) => some ((s.evict vd f page).updVd vd fun v => { v with hand := page + 1 })
  | (none, _) => none

/-! Migration (R314). -/

/-- Whether a VD's stage-2 leaf of a page is absent. -/
def State.pageAbsent (s : State) (vd page : Nat) : Bool :=
  decide (page < 2 ^ 18 * (s.vd vd).vspan) &&
  match s.stage2Leaf vd (4096 * page) with
  | .error (.absent _ _ _) => true
  | _ => false

/-- Brings one absent page of an auto-mode VD in, evicting first when its quota is used up. -/
def State.bringIn (s : State) (vd page : Nat) : Option State :=
  let v := s.vd vd
  let full := decide (v.hbmQuota * 512 ≤ s.framesOf (.vd vd))
  match (if full then s.evictOne vd else some s) with
  | none => none
  | some s =>
    match s.takeRun (s.hardPart vd) 1 1 (.vd vd) page with
    | none => none
    | some (f, s) =>
      let s := (s.performOutside (s.pageWrites ⟨.host, v.backing.toNat + 4096 * page⟩ ⟨.hbm, 4096 * f⟩)).meterHbm vd 4096
      s.mapAt vd 1 (4096 * page) (ownLeaf (4096 * f) 0)

/-- The VD-physical page whose stage-2 leaf a record misses (R311). -/
def FaultRec.needs (f : FaultRec) : Option Nat :=
  let w0 := listGet 0 f.words 0
  if !w0.getLsbD 3 then none
  else if f.phys then some f.page
  else some (fieldN (listGet 0 f.words 1) 51 12)

/-- The page of the next slot of the fault ring. -/
def Vd.ringPage (v : Vd) : Nat := (4096 * fieldN v.fqBase 51 12 + v.fqProd.toNat % 2 ^ v.fqSize.toNat * 32) / 4096

/-- Whether something waits for a page of a VD: a fault that the engine resolves, a post, or a remote request. -/
def State.pageWanted (s : State) (vd page : Nat) : Bool :=
  let v := s.vd vd
  v.faults.any (fun f => f.engine && !f.answered && f.needs == some page) || (v.fqWaiting && v.ringPage == page) ||
  s.heldRequests.any fun r => r.vd == vd && r.addr / 4096 == page

/-- The expert field AHEAD (R310). -/
def Vd.ahead (v : Vd) : Nat := if v.expert then v.pgAhead.toNat else 0

/-- PAGE_MIGRATION_COMPLETE (R314): the page and the absent ones among the AHEAD pages that follow it become resident. The VD's HBM
damper holds a migration (03 R89). -/
def execPageMigrationComplete (vd page : Nat) (s : State) : Res :=
  let v := s.vd vd
  if v.guest || !v.works || v.hbmHeld || !s.pageAbsent vd page || !s.pageWanted vd page then .next s
  else
    match s.bringIn vd page with
    | none => .next s
    | some s => .next ((List.range v.ahead).foldl (fun s i =>
        let p := page + 1 + i
        if s.pageAbsent vd p then (s.bringIn vd p).getD s else s) s)

/-! Replay and abort of parked parts (R313, R317). -/

/-- A matrix-unit operation of a core, or one that a saved workgroup carries. -/
def State.matOp? (s : State) (core id : Nat) : Option (MatOp × Option Nat) :=
  match (s.core core).matrix.find? fun (m : MatOp) => m.id == id with
  | some m => some (m, none)
  | none => s.groups.findSome? fun e => (e.2.carried.find? fun (m : MatOp) => m.id == id).map fun m => (m, some e.1)

/-- Takes the parked rows of a page out of an operation. -/
def MatOp.unpark (m : MatOp) (f : FaultRec) : MatOp :=
  { m with parked := m.parked.filter fun p => !(p.page == f.page && p.phys == f.phys) }

/-- Forgets a fault record. -/
def State.dropRecord (s : State) (vd : Nat) (f : FaultRec) : State :=
  s.updVd vd fun v => { v with faults := v.faults.filter fun g => !(g.owner == f.owner && g.words == f.words && g.index == f.index) }

/-- Whether the workgroup of an agent is on its core; a saved one is walked again at its resumption (16 R388). -/
def State.present (s : State) (a : AgentId) : Bool :=
  match groupOf a with
  | some g => (s.group g).residence == .resident
  | none => true

/-- Answers a request (15 R363), and counts the bytes sent for its VD (03 R89); one of this accelerator stays outstanding and is
answered by its own event. -/
def State.answer (s : State) (r : RemoteRequest) (y : RemoteReply) : State :=
  if r.station == 16 then s
  else
    let s := s.transmit r.station r.source (.reply r.tag y)
    match y with
    | .data bs _ => s.meterLink r.vd bs.length
    | _ => s

/-- Serves again the held requests of a VD for a page (15 R363). -/
def State.serveHeld (s : State) (vd page : Nat) : State :=
  let mine := s.heldRequests.filter fun r => r.vd == vd && r.addr / 4096 == page
  let s : State := { s with heldRequests := s.heldRequests.filter fun r => !(r.vd == vd && r.addr / 4096 == page) }
  mine.foldl (fun (s : State) r =>
    if r.station == 16 then s else
    match s.serve r with
    | (.reply y, s) => s.answer r y
    | (.waits _, s) => { s with heldRequests := s.heldRequests ++ [r] }) s

/-- The work of a queue record goes on after its page has come (02 R68). -/
def State.recordAgain (s : State) (q i : Nat) : State :=
  if ((s.queue q).run i).isSome then s.runRecord q i
  else if !(s.queue q).retiring.isEmpty then s.showAgain q
  else s.updQueue q fun x => { x with done := true }

/-- A queue record whose page will not come (02 R68). -/
def State.recordLost (s : State) (q i : Nat) : State :=
  match (s.queue q).run i with
  | some r => if recordKind r.words == 1 then s.finishLaunch q i 5 0 0 0 6 else s.completeRun q i 5 0 0 0 6
  | none => if !(s.queue q).retiring.isEmpty then s.showLost q else s.queueError q 3

/-- Walks the parked parts of a record again. -/
def State.retryParts (s : State) (vd : Nat) (f : FaultRec) : State :=
  let s := s.dropRecord vd f
  match f.owner with
  | .agent a op =>
    if op == 0 || !s.present a then s
    else
      match s.op? a op with
      | some ⟨_, _, .copy c⟩ => s.setWork a op (.copy { c with parked := c.parked.filter fun p => !(p.page == f.page && p.phys == f.phys) })
      | some ⟨_, _, .stream x⟩ => s.setWork a op (.stream { x with parked := [] })
      | _ => s.replayLanes a op false fun p _ =>
          match p with
          | some p => p.page == f.page && p.phys == f.phys
          | none => false
  | .matrix core id =>
    match s.matOp? core id with
    | some (m, none) => s.setMatOp core (m.unpark f)
    | some (m, some g) => s.updGroup g fun x => { x with carried := x.carried.map fun (y : MatOp) => if y.id == id then m.unpark f else y }
    | none => s
  | .flue _ part push =>
    match (Table.look s.parts part).bind fun p => p.pushes.find? fun x => x.id == push with
    | some x => s.setPush part push (some { x with parked := [] })
    | none => s
  | .record q i => s.recordAgain q i
  | .fetch _ _ => s
  | .request => s.serveHeld vd f.page
  | .checkpoint _ => s.ckAdvance vd
  | .port _ => s

/-- The agent of a fetch owner. -/
def fetchAgent (g w : Nat) : AgentId := if w == 64 then .stoker g else .warp g w

/-- The parked parts of a record take PERMISSION or end in error (R313). -/
def State.abortParts (s : State) (vd : Nat) (f : FaultRec) : State :=
  let s := s.dropRecord vd f
  match f.owner with
  | .agent a op =>
    if op == 0 then
      { (((s.as a).unwait).trapAt .permission f.parts) with cur := s.cur }
    else
      match s.op? a op with
      | some ⟨_, _, .copy c⟩ =>
        let g := (groupOf a).getD 0
        let q := c.queue.bind fun k => s.feedQueue g k
        let first := (c.parked.find? fun p => p.page == f.page && p.phys == f.phys).map fun p => (c.sectorBytes q p.part).headD 0
        s.failCopy g op c (first.getD 0) .permission
      | some ⟨_, _, .stream x⟩ => s.endStream ((groupOf a).getD 0) op x true
      | _ => s.abortLanes a op f.parts
  | .matrix core id =>
    match s.matOp? core id with
    | some (m, none) =>
      (match m.kind with
       | .load _ addr stride done | .store _ addr stride done => s.abortRows core m f.parts done addr stride
       | _ => s)
    | some (m, some g) =>
      (match m.kind with
       | .load _ addr stride done | .store _ addr stride done =>
         (s.updGroup g fun x => { x with carried := x.carried.filter fun (y : MatOp) => y.id != id }).abortRows core m f.parts done addr stride
       | _ => s)
    | none => s
  | .flue _ part push => (s.partError part 4 vd).setPush part push none
  | .record q i => s.recordLost q i
  | .fetch g w =>
    let a := fetchAgent g w
    { (((s.as a).unwait).trap .permission) with cur := s.cur }
  | .request => s
  | .checkpoint _ => s.endCk vd 3
  | .port _ => s

/-- Whether a record's page has become present: the engine's work is done, or a checkpoint's leaf has been copied (18 R416). -/
def State.resolved (s : State) (vd : Nat) (f : FaultRec) : Bool :=
  match f.needs with
  | some p => (s.leafOf vd (4096 * p)).isSome
  | none => true

/-- PARKED_REPLAY (R317): after resolution, the parts parked on a page are performed again with a new walk. -/
def execParkedReplay (vd page : Nat) (s : State) : Res :=
  let ready := (s.vd vd).faults.filter fun f => f.engine && !f.answered && f.page == page && s.resolved vd f
  .next ((ready.foldl (fun s f => s.retryParts vd f) s).serveHeld vd page)

/-! The fault queue (R305-R313). -/

/-- The record that a response names: waiting for software (R313). -/
def Vd.answerable (v : Vd) (j : Nat) : Option FaultRec :=
  v.faults.find? fun f => f.index == some j && !f.engine && !f.answered

/-- A write of FQRESP that answers a record (R309, R313): ABORT is stored, and the parts are retried or aborted; records of an
aborted operation count as answered. -/
def State.answerFault (s : State) (vd : Nat) (index : W32) (abort : Bool) : State :=
  let v := s.vd vd
  if !v.responds then s
  else
    let s := s.setVd vd { v with fqAbort := abort }
    match v.answerable index.toNat with
    | some f => if abort then s.abortParts vd f else s.retryParts vd f
    | none => s

/-- FAULT_RETRY (R313). -/
def execFaultRetry (vd : Nat) (index : W32) (s : State) : Res := .next (s.answerFault vd index false)

/-- FAULT_ABORT (R313). -/
def execFaultAbort (vd : Nat) (index : W32) (s : State) : Res := .next (s.answerFault vd index true)

/-- A write of ABORT alone (R309). -/
def State.storeAbort (s : State) (vd : Nat) (abort : Bool) : State :=
  if (s.vd vd).responds then s.updVd vd fun v => { v with fqAbort := abort } else s

/-- FQRESP_ABORT_STORE (R309). -/
def execFqrespAbortStore (vd : Nat) (abort : Bool) (s : State) : Res := .next (s.storeAbort vd abort)

/-- A write of FQCFG (R306). -/
def State.writeFqcfg (s : State) (vd : Nat) (value : W32) : State :=
  let v := s.vd vd
  if !v.responds then s
  else
    let size : BitVec 5 := if v.fqEn then v.fqSize else BitVec.ofNat 5 (fieldN value 4 0)
    if !value.getLsbD 31 then s.setVd vd { v with fqEn := false, fqSize := size }
    else if v.fqEn then s
    else if size.toNat < 6 || 16 < size.toNat || fieldN v.fqBase 51 12 == 0 then s.setVd vd { v with fqSize := size, fqCfgErr := true }
    else s.setVd vd { v with fqEn := true, fqSize := size, fqProd := 0, fqCons := 0 }

/-- FAULT_QUEUE_ENABLE (R306). -/
def execFaultQueueEnable (vd : Nat) (value : W32) (s : State) : Res := .next (s.writeFqcfg vd (value ||| 0x80000000#32))

/-- A write of FQCONS (R307). -/
def State.writeFqcons (s : State) (vd : Nat) (value : W32) : State :=
  let v := s.vd vd
  if !v.responds || 2 ^ v.fqSize.toNat < (v.fqProd - value).toNat then s else s.setVd vd { v with fqCons := value }

/-- FQCONS_WRITE. -/
def execFqconsWrite (vd : Nat) (value : W32) (s : State) : Res := .next (s.writeFqcons vd value)

/-- FAULT_POST_RESUME (R312): the first waiting record is written; with EN at 0, or after a ring fault, it is treated as one that
found EN at 0. -/
def execFaultPostResume (vd : Nat) (s : State) : Res :=
  let v := s.vd vd
  match v.faults.find? fun f => f.index.isNone with
  | none => .next s
  | some f =>
    if v.state == 3 || s.posting vd then .next s
    else
      let s := if v.fqEn && (s.ringWrite vd).1 == .fault then s.ringError vd else s
      if !(s.vd vd).fqEn then
        if f.engine then
          .next (s.updVd vd fun v => { v with faults := v.faults.map fun g =>
            if g.index.isNone && g.words == f.words && g.owner == f.owner then { g with index := some (2 ^ 32) } else g })
        else .next ((s.abortParts vd f).markAborted vd)
      else .next (s.postRecord vd f)

end Sys2Proof.Machine
end

