-- ==== Sys2Proof/Machine/Drain.lean ====
section
/-! DEFINITION. Gang kills and relaunch, and what the engines drop under KILL (17 R396, R397, R402, R406). -/

namespace Sys2Proof.Machine

/-! What the agents of some workgroups have under way. -/

/-- Whether an agent belongs to one of some workgroups. -/
def agentIn (gs : List Nat) (a : AgentId) : Bool :=
  match groupOf a with
  | some g => gs.contains g
  | none => false

/-- The operations of the workgroups, and the matrix-unit operations among them. -/
def State.opsOf (s : State) (gs : List Nat) : List Nat :=
  (gs.flatMap fun g => (s.agentsOf g).flatMap fun a => (s.agent a).ops.map (·.id)) ++
  s.cores.flatMap fun c => (c.2.matrix.filter fun (m : MatOp) => gs.contains m.g).map (·.id)

/-- Whether a fault record or engine byte belongs to one of the workgroups. -/
def State.ownedBy (s : State) (gs : List Nat) (o : ParkOwner) : Bool :=
  match o with
  | .agent a _ => agentIn gs a
  | .matrix core id =>
    match s.matOp? core id with
    | some (m, _) => gs.contains m.g
    | none => false
  | .fetch g _ => gs.contains g
  | _ => false

/-- Whether an outstanding request belongs to the workgroups. -/
def State.remoteOf (s : State) (gs : List Nat) (r : RemoteOut) : Bool :=
  match r.use with
  | .lane a _ _ | .wait a | .failed a _ _ _ _ => agentIn gs a
  | .write _ writers => writers.all fun w => agentIn gs w.1
  | .engineRead who _ _ | .engineWrite who _ => s.ownedBy gs who
  | .ring _ | .completion _ => false

/-- Kills the engine operations of workgroups and discards their write-combining entries (R396 steps 2 and 4). -/
def State.dropWork (s : State) (gs : List Nat) : State :=
  let ops := s.opsOf gs
  let faults (v : Vd) : Vd := { v with faults := v.faults.filter fun f => !s.ownedBy gs f.owner }
  { s with
    vds := s.vds.map fun e => (e.1, faults e.2)
    remote := s.remote.filter fun r => !s.remoteOf gs r
    engineData := s.engineData.filter fun e => !s.ownedBy gs e.who
    parts := s.parts.map fun e => (e.1, { e.2 with credits := e.2.credits.filter fun c => !gs.contains c.g })
    cores := s.cores.map fun e => (e.1, { e.2 with
      matrix := e.2.matrix.filter fun (m : MatOp) => !gs.contains m.g
      locks := e.2.locks.filter fun k => !ops.contains k.op
      wc := e.2.wc.filter fun w => !w.writers.all fun x => agentIn gs x.1 }) }

/-- Drops workgroups with all they hold (R396 steps 1 to 4). -/
def State.dropGroups (s : State) (gs : List Nat) : State := gs.foldl (fun s g => s.releaseGroup g) (s.dropWork gs)

/-! Gang kill (R396, R397). -/

/-- Notes the first failure of a tree at its root grid (03 R99), and whether it is a gang kill (02 R72). -/
def State.failTree (s : State) (n : Nat) (c : Cause × Prov) (gang : Bool) : State :=
  let x := s.grid n
  { s with grids := s.grids.map fun e =>
      if e.2.queue == x.queue && e.2.index == x.index && e.2.vd == x.vd && e.2.parent.isNone then
        (e.1, { e.2 with
          failure := some (e.2.failure.getD c)
          gangKill := if e.2.failure.isNone then gang else e.2.gangKill })
      else e }

/-- GANG_KILL (R396): every member of a doomed workgroup's gang, with what its ended members kept. A gang to be relaunched starts anew
whole, so the members that had ended count as running again. -/
def execGangKill (g : Nat) (s : State) : Res :=
  let x := s.group g
  match x.doomed with
  | none => .next s
  | some c =>
    if x.residence == .ended then .next s
    else
      let r := s.launchOf g
      let gang := x.wgid / r.gang
      let members := s.gangOf g
      let kept := (members.filter fun m => match (s.group m).residence with | .kept _ => true | _ => false).length
      let s := s.dropGroups members
      let n := s.grid x.grid
      let kills := Table.get 0 n.kills gang + 1
      let again := r.relaunch && decide (kills ≤ 2) && !n.killed
      let n := { n with poisons := if c.1 == Cause.poison then Table.put gang c.2 n.poisons else Table.drop gang n.poisons }
      let s := if again then s.setGrid x.grid { n with
          kills := Table.put gang kills n.kills
          relaunch := n.relaunch ++ [gang]
          endedGroups := n.endedGroups - kept }
        else (s.failTree x.grid c true).updGrid x.grid fun n => { n with
          kills := Table.put gang kills n.kills
          endedGroups := n.endedGroups + (members.length - kept) }
      .next (s.noteBacklog x.vd)

/-- GANG_RELAUNCH (R397): the drained gang is placed again, ahead of the VD's unplaced workgroups, once the fault pair has finished
its action for the poison that killed it. -/
def execGangRelaunch (grid gang : Nat) (s : State) : Res :=
  let n := s.grid grid
  if !n.relaunch.contains gang || n.ended then .next s
  else if !n.killed && (match Table.look n.poisons gang with | some p => s.errorOpen p | none => false) then .next s
  else if n.killed then
    .next (s.setGrid grid { n with
      relaunch := n.relaunch.filter (· != gang)
      endedGroups := n.endedGroups + n.record.gang })
  else
    .next ((s.setGrid grid { n with
      relaunch := n.relaunch.filter (· != gang)
      ready := n.ready ++ [gang] }).noteBacklog n.vd)

/-! KILL (R402). -/

/-- The workgroups of a VD, and those of them on cores. -/
def State.groupsOf (s : State) (vd : Nat) : List Nat := (s.groups.filter fun e => e.2.vd == vd && e.2.residence != .ended).map (·.1)
def State.residentOf (s : State) (vd : Nat) : List Nat :=
  (s.groupsOf vd).filter fun g => (s.group g).residence == .resident || (s.group g).residence == .kept true

/-- The copies and streams of a stoker thread. -/
def Stoker.moves (k : Stoker) : List Nat := (k.agent.copies.map fun (c : Nat × Copy) => c.1) ++ k.agent.streams.map fun (x : Nat × Stream) => x.1

/-- The copies and streams of a stoker thread are discarded, but for the sectors on their way. -/
def Stoker.dropCopies (k : Stoker) : Stoker :=
  { k with agent := { k.agent with ops := k.agent.ops.filter fun o =>
    match o.work with
    | .copy _ | .stream _ => false
    | _ => true } }

/-- Whether engine bytes belong to a VD. -/
def State.whoOf (s : State) (vd : Nat) (o : ParkOwner) : Bool :=
  s.ownedBy (s.groupsOf vd) o ||
  match o with
  | .record q _ => (s.queue q).vd.toNat == vd
  | .checkpoint n => n == vd
  | .flue _ k _ => (Table.look s.parts k).any fun p => p.vd == vd
  | _ => false

/-- A sealed channel without the requests of a VD that it has not sent. -/
def Channel.withoutVd (c : Channel) (vd : Nat) : Channel :=
  { c with waiting := c.waiting.filter fun b =>
      match b with
      | .data (.request r) => r.sourceVd != vd
      | .data (.counter dest _) | .data (.push dest _ _) => dest.sourceVd != vd
      | _ => true }

/-- What an engine does with a killed VD's work. -/
def State.drainEngine (s : State) (vd : Nat) : Engine → State
  | .cores => s.dropGroups (s.residentOf vd)
  | .copies =>
    (s.residentOf vd).foldl (fun s g =>
      let ids := match (s.group g).stoker with
        | some k => Stoker.moves k
        | none => []
      ids.foldl State.unlock (s.updGroup g fun x => { x with stoker := x.stoker.map Stoker.dropCopies })) s
  | .matrix =>
    { s with cores := s.cores.map fun e => (e.1, { e.2 with
      matrix := e.2.matrix.filter fun (m : MatOp) => (s.group m.g).vd != vd }) }
  | .paging => s.updVd vd fun v => { v with faults := [] }
  | .systemCopy =>
    { s with queues := s.queues.map fun e => if e.2.vd.toNat == vd then
        (e.1, { e.2 with runs := e.2.runs.filter fun r => recordKind r.words != 4 }) else e }
  | .queue =>
    { s with queues := s.queues.map fun e => if e.2.vd.toNat == vd then
        (e.1, { e.2 with
          runs := []
          staged := []
          retiring := [] }) else e }
  | .flue => (s.parts.filter fun e => e.2.vd == vd).foldl (fun s e => s.dropPart e.1) s
  | .stations =>
    { s with
      cores := s.cores.map fun e => (e.1, { e.2 with wc := e.2.wc.filter fun w => w.vd != vd })
      remote := s.remote.filter fun r => r.vd != vd
      heldRequests := s.heldRequests.filter fun r => r.vd != vd
      stations := s.stations.map fun e => (e.1, { e.2 with channels := e.2.channels.map fun c => (c.1, c.2.withoutVd vd) })
      engineData := s.engineData.filter fun e => !s.whoOf vd e.who }
  | .translation => s.forgetVd vd

/-- ENGINE_DRAINED (R402). -/
def execEngineDrained (vd : Nat) (e : Engine) (s : State) : Res :=
  match (s.vd vd).kill with
  | none => .next s
  | some l =>
    if l.contains e then .next ((s.drainEngine vd e).updVd vd fun v => { v with kill := some (l.filter (· != e)) })
    else .next s

/-- Discards the saved images, pending launches and grid states of a VD (R407 step 5; 03 R99). -/
def State.discardWork (s : State) (vd : Nat) : State :=
  let s := s.dropGroups (s.groupsOf vd)
  let s := (s.parts.filter fun e => e.2.vd == vd).foldl (fun s e => s.dropPart e.1) s
  let s : State := { s with
    groups := s.groups.filter fun e => e.2.vd != vd
    grids := s.grids.filter fun e => e.2.vd != vd
    heldRequests := s.heldRequests.filter fun r => r.vd != vd }
  let s := s.updVd vd fun v => { v with
    gridOrder := []
    reserved := none
    faults := [] }
  s.noteBacklog vd

end Sys2Proof.Machine
end

