-- ==== Sys2Proof/Machine/VdLife.lean ====
section
/-! DEFINITION. The PF command interface, the life of a VD, the scoped reset and the ashpit, die-scratch shares, the queue
watchdog and shared frames (02 R40-R49, R59, R70; 03 R83, R84; 09 R234, R235; 17 R401-R409). -/

namespace Sys2Proof.Machine

/-! The command interface (02 R42-R46). -/

/-- A command's OP, its VD and its words. -/
def cmdWord (ws : List W32) (i : Nat) : Nat := (listGet 0 ws i).toNat
def cmdOp (ws : List W32) : Nat := cmdWord ws 0 % 256
def cmdVd (ws : List W32) : Nat := cmdWord ws 0 / 2 ^ 16 % 512

/-- A command completes: BUSY clears, STATUS is set, and PF vector 0 is signalled. -/
def State.complete (s : State) (status : Nat) : State :=
  ({ s with pf := { s.pf with
    busy := none
    status := BitVec.ofNat 8 status } }).send (.pfMsix 0)

/-- A GO that is accepted; one given while STATE is not ACTIVE completes NOTACTIVE. -/
def State.acceptGo (s : State) : State :=
  let s : State := { s with pf := { s.pf with
    seq := s.pf.seq + 1
    busy := some ⟨s.pf.cmdBuf, false⟩ } }
  if s.power.state != 1 then s.complete 5 else s

/-- A write of 1 to VDCMDGO.GO (02 R43, R45). -/
def State.writeGo (s : State) : State :=
  if s.pf.busy.isSome then { s with pf := { s.pf with overrun := true } } else s.acceptGo

/-- The lifecycle pair carries out a latched command. -/
def State.begin_ (s : State) (k : List W32 → State → State) : State :=
  match s.pf.busy with
  | some c =>
    if s.roleStopped 1 then s
    else k c.words { s with pf := { s.pf with busy := some { c with started := true } } }
  | none => s

/-- A command of an operation: the one that is latched is carried out, or the one that a GO submits now. -/
def State.command (s : State) (p : Nat → Bool) (k : List W32 → State → State) : Res :=
  match s.pf.busy with
  | some c => if c.started then .next s.writeGo else if p (cmdOp c.words) then .next (s.begin_ k) else .next s
  | none => if p (cmdOp s.pf.cmdBuf) then .next (s.acceptGo.begin_ k) else .next s

/-- Whether word 0 keeps its reserved bits 0. -/
def cmdClean (ws : List W32) : Bool := cmdWord ws 0 / 2 ^ 8 % 2 ^ 8 == 0 && cmdWord ws 0 / 2 ^ 25 == 0

/-- Whether a started command is an operation on a VD. -/
def State.carrying (s : State) (op vd : Nat) : Bool :=
  match s.pf.busy with
  | some c => c.started && cmdOp c.words == op && cmdVd c.words == vd
  | none => false

/-- UNKNOWN_OP_COMMAND (02 R45). -/
def execUnknownOpCommand (s : State) : Res := s.command (fun op => op == 0 || decide (6 < op)) fun _ s => s.complete 4

/-! CREATE (02 R41, R46, R47; 03 R83). -/

/-- The lowest free range of `n` queues. -/
def State.freeQueues (s : State) (n : Nat) : Option Nat :=
  (List.range (1025 - n)).find? fun f => s.vds.all fun e =>
    e.2.state == 0 || decide (f + n ≤ e.2.qfirst) || decide (e.2.qfirst + e.2.qcount ≤ f)

/-- The frames of a partition that are not promised (02 R47), with what another VD must itself reserve. -/
def State.unpromised (s : State) (part : Nat) : Nat :=
  let (lo, hi) := s.frameRange part
  let vds := s.vds.filter fun e => e.2.state != 0 && s.hardPart e.1 == part
  let quotas := vds.foldl (fun n e => n + e.2.hbmQuota * 512) 0
  let held := (s.frames.filter fun e => decide (lo ≤ e.1) && decide (e.1 < hi) && (match e.2.owner with
    | .vd _ => false
    | _ => true)).foldl (fun n e => n + e.2.len) 0
  hi - lo - quotas - held - (vds.length + 1) * Config.reservedFrames

/-- The entry of a VD that CREATE accepts (02 R40, R46; 03 R83). -/
def createdEntry (part qfirst qcount cores quota vspan : Nat) : List Word :=
  [BitVec.ofNat 64 (1 + part * 2 ^ 3 + qfirst * 2 ^ 4 + 2 ^ 14 * qcount + 2 ^ 21 * cores), 0,
   BitVec.ofNat 64 (quota + 2 ^ 32 * vspan), BitVec.ofNat 64 (100 + 2000 * 2 ^ 11), 0, 0, 0, 0]

/-- CREATE. A security core that stays halted loads no key (19 R432). -/
def execCreate (s : State) : Res := s.command (· == 1) fun ws s =>
  let n := cmdVd ws
  let w := cmdWord ws
  let count := if w 1 % 128 == 0 then 64 else w 1 % 128
  let part := w 1 / 2 ^ 8 % 2
  if !cmdClean ws || w 1 / 2 ^ 7 % 2 != 0 || w 1 / 2 ^ 9 != 0 || 64 < count || w 3 == 0 || 2 ^ 20 ≤ w 3 || 1 < w 6 then s.complete 4
  else if (s.vd n).state != 0 then s.complete 1
  else if (part == 1 && !s.pf.partMode) || s.pf.secDead then s.complete 3
  else
    match s.freeQueues count with
    | none => s.complete 3
    | some f =>
      if s.unpromised part < w 2 * 512 then s.complete 3
      else
        let s := s.setVd n { Vd.start with
          entry := createdEntry part f count (if s.pf.partMode then 160 else 320) (w 2) (w 3)
          backing := BitVec.ofNat 64 (w 4 + 2 ^ 32 * w 5)
          guest := w 6 == 1
          fepFirst := (s.vd n).fepFirst
          fepCount := (s.vd n).fepCount }
        (List.range count).foldl (fun (s : State) i => s.setQueue (f + i) { Queue.start with
          vd := BitVec.ofNat 9 n
          local_ := BitVec.ofNat 6 i }) s

/-- Maps a range to host memory with the largest leaves that fit (12 R316); none when a frame for a table is not found. -/
def State.mapHost (s : State) (vd : Nat) (pa last : Nat) : Nat → Option State
  | 0 => some s
  | fuel + 1 =>
    if last ≤ pa then some s
    else
      let b := (s.vd vd).backing.toNat + pa
      let lvl := if pa % 2 ^ 30 == 0 && b % 2 ^ 30 == 0 && pa + 2 ^ 30 ≤ last then 3
        else if pa % 2 ^ 21 == 0 && b % 2 ^ 21 == 0 then 2 else 1
      match s.mapAt vd lvl pa (ownLeaf b 1) with
      | some s => s.mapHost vd (pa + levelSize lvl) last fuel
      | none => none

/-- The stage 2 of a new VD: its root, and in guest mode all its memory (12 R314, R316). -/
def State.buildStage2 (s : State) (vd : Nat) : Option State :=
  match s.takeRun (s.hardPart vd) 1 1 (.outside vd) 0 with
  | none => none
  | some (f, s) =>
    let s := s.updVd vd fun v => v.setWord 1 (BitVec.ofNat 64 (4096 * f))
    let v := s.vd vd
    if !v.guest then some s
    else
      let blocks := (List.range v.hbmQuota).foldl (fun (b : Option State) i =>
        b.bind fun s => (s.takeRun (s.hardPart vd) 512 512 (.vd vd) (i * 512)).bind fun r =>
          r.2.mapAt vd 2 (2 ^ 21 * i) (ownLeaf (4096 * r.1) 0)) (some s)
      blocks.bind fun s => s.mapHost vd (2 ^ 21 * v.hbmQuota) (2 ^ 30 * v.vspan) (2 ^ 18 * v.vspan)

/-- The IRT entries of a VD become valid, or invalid (02 R48, R73). -/
def State.setIrts (s : State) (vd : Nat) (valid : Bool) : State :=
  let v := s.vd vd
  let es := ((List.range v.qcount).map fun i => v.qfirst + i) ++ [1024 + 2 * vd, 1025 + 2 * vd]
  let s := es.foldl (fun (s : State) n =>
    let e := s.irtEntry n
    s.setIrt n { e with
      word := putField (setBit e.word 0 valid) 9 1 vd
      pending := 0
      due := false }) s
  if valid then s.loadIrts vd else s

/-- The security core creates the keys of an index, or retires them; once it is halted for good they stay, unused (17 R394, 19
R432). -/
def State.makeKeys (s : State) (n : Nat) : State :=
  { s with keys := Table.put n ⟨s.uid, s.uid + 1⟩ s.keys, uid := s.uid + 2 }
def State.retireKeys (s : State) (n : Nat) : State := if s.pf.secDead then s else { s with keys := Table.drop n s.keys }

/-- CREATE_COMPLETE (02 R41): the VD becomes LIVE with its keys and its save area, or FREE when resources were not found; its keys wait for a security
core that restarts (17 R394, 19 R432). -/
def execCreateComplete (vd : Nat) (found : Bool) (s : State) : Res :=
  if (s.vd vd).state != 1 || s.secWaits || s.roleStopped 1 then .next s
  else
    match if found && !s.pf.secDead then s.buildStage2 vd else none with
    | some s => .next ((((s.makeKeys vd).updVd vd fun v => { v.setState 2 with saveArea := Config.saveArea }).setIrts vd true).complete 0)
    | none => .next ((s.setVd vd { Vd.start with
        fepFirst := (s.vd vd).fepFirst
        fepCount := (s.vd vd).fepCount }).complete 3)

/-! Leaving LIVE: the freeze, DESTROY and the wipe (02 R41, R48; 01 R35; 17 R407). -/

/-- Freezes a workgroup: one that runs has its skid, one that is halted stays so (17 R407; 16 R376). -/
def Group.freeze (x : Group) : Group :=
  match x.halt with
  | none =>
    { x with
      halt := some (.frozen false)
      warps := x.warps.map fun (w : Warp) => { w with agent := { w.agent with skid := 0 } }
      stoker := x.stoker.map fun (k : Stoker) => { k with agent := { k.agent with skid := 0 } } }
  | some (.trap false) | some (.slice false _) => { x with halt := some (.frozen false) }
  | some _ => { x with halt := some (.frozen true) }

/-- Settles the freeze of a workgroup: SKID is recorded. -/
def Group.settleFreeze (x : Group) : Group :=
  match x.halt with
  | some (.frozen false) =>
    { x with
      halt := some (.frozen true)
      warps := x.warps.map Warp.settleHalt }
  | _ => x

/-- A scoped reset starts (02 R41; 17 R407 step 1); a trigger in another state is absorbed or has no effect. -/
def State.startReset (s : State) (vd : Nat) (reason : ResetReason) (byOther : Bool) (queue : Nat) (prov : Prov) : State :=
  if (s.vd vd).state != 2 then s
  else
    let s := s.abandonCk vd
    let run : ResetRun := ⟨reason, byOther, queue, prov, s.clk, s.mcore vd, false⟩
    let s := s.updVd vd fun v => { v.setState 3 with reset := some run }
    { s with groups := s.groups.map fun e => if e.2.vd == vd then (e.1, e.2.freeze) else e }

/-- A port's EN is cleared: a frame in progress ends first, in each direction (15 R371). -/
def Port.stop (p : Port) : Port :=
  if p.enabled then { p with
    enabled := false
    stopping := p.txHead != p.txTail
    receiving := p.rxHead != p.rxTail }
  else p

/-- A VD enters DESTROYING (02 R48, 19 R434). -/
def State.startDestroy (s : State) (vd : Nat) : State :=
  let v := s.vd vd
  let off (q : Queue) : Queue := { q with
    qcfg := q.qcfg &&& 0x7FFFFFFF#32
    state := 0
    kick := false
    done := false
    sem := false
    runs := []
    staged := []
    retiring := [] }
  let s := (List.range v.qcount).foldl (fun (s : State) i => s.updQueue (v.qfirst + i) off) s
  let s := s.setIrts vd false
  let s : State := { s with
    endpoints := s.endpoints.map fun e => if epOwner e.2 == vd then (e.1, setBit e.2 63 false) else e
    ports := s.ports.map fun e => if e.2.owned && e.2.owner.toNat == vd then (e.1, e.2.stop) else e }
  (s.killVd vd).updVd vd fun v => { v.setState 5 with reset := none }

/-- DESTROY (02 R41, R48). Of the statuses that apply to a command the model gives INVALID before NOVD, and NOVD before BUSY, here as for
every operation (DESIGN CHOICE, log 89: R45 states no order). -/
def execDestroy (s : State) : Res := s.command (· == 2) fun ws s =>
  let n := cmdVd ws
  let st := (s.vd n).state
  if !cmdClean ws then s.complete 4
  else if st == 0 then s.complete 2
  else if st == 2 || st == 3 then s.startDestroy n
  else if st == 4 then (s.updVd n fun v => v.setWord 0 (setBit (v.word 0) 30 true)).complete 0
  else s.complete 1

/-- One mapping of a shared slot goes; with the last one its frames are freed and its keys retired (02 R49, 17 R394). -/
def State.releaseSlot (s : State) (n : Nat) : State :=
  match Table.look s.pf.slots n with
  | none => s
  | some x =>
    if 1 < x.count then { s with pf := { s.pf with slots := Table.put n { x with count := x.count - 1 } s.pf.slots } }
    else
      let s := (s.frames.filter fun e => e.2.owner == .slot n).foldl (fun s e => s.freeRun e.1) (s.retireKeys (512 + n))
      { s with pf := { s.pf with slots := Table.drop n s.pf.slots } }

/-- DESTROY_DRAINED (02 R41, R48): a DESTROYING VD whose engines have drained moves to WIPING; its shared pages are unmapped, no
translation of it is left, and its keys are retired. -/
def execDestroyDrained (vd : Nat) (s : State) : Res :=
  let v := s.vd vd
  if v.state != 5 || v.kill != some [] || s.secWaits || s.roleStopped 1 then .next s
  else
    let s := s.discardWork vd
    let s := v.shared.foldl (fun s x => s.releaseSlot x.2) s
    let s := ((s.forgetVd vd).retireKeys vd).updVd vd fun v => { v.setState 6 with shared := [] }
    .next (if s.carrying 2 vd then s.complete 0 else s)

/-- The die-scratch bytes of a VD from an offset on are wiped (01 R35, 09 R235). -/
def State.wipeDie (s : State) (vd from_ : Nat) : State :=
  [0, 1].foldl (fun (s : State) d =>
    let tag := (Space.die vd d).tag
    let mine (k : Nat) : Bool := k / 2 ^ 64 == tag && decide (from_ ≤ k % 2 ^ 64)
    { s with
      mem := s.mem.filter fun e => !mine e.1
      poison := s.poison.filter fun e => !mine e.1 }) s

/-- WIPE_COMPLETE (02 R41, 01 R35): the VD's frames and shares are wiped, and it is FREE; its metering counters stay until the
next CREATE (03 R90). -/
def execWipeComplete (vd : Nat) (s : State) : Res :=
  let v := s.vd vd
  if v.state != 6 then .next s
  else
    let s := (s.frames.filter fun e => e.2.owner == .vd vd || e.2.owner == .outside vd).foldl (fun s e => s.freeRun e.1) s
    let s := (List.range v.qcount).foldl (fun (s : State) i => s.updQueue (v.qfirst + i) fun q => { q with
      head := 0
      tail := 0
      next := 0
      cprod := 0 }) s
    .next ((s.wipeDie vd 0).setVd vd { Vd.start with
      coreTime := v.coreTime
      mmatrix := v.mmatrix
      mhbm := v.mhbm
      mlink := v.mlink
      menergy := v.menergy
      fepFirst := v.fepFirst
      fepCount := v.fepCount })

/-! Other commands (02 R41, R46, R49; 03 R84). -/

/-- RESET (17 R407): completes when the reset it starts, or the one that absorbs it, ends. -/
def execReset (s : State) : Res := s.command (· == 3) fun ws s =>
  let n := cmdVd ws
  let st := (s.vd n).state
  if !cmdClean ws then s.complete 4
  else if st == 0 then s.complete 2
  else if st == 2 then s.startReset n .command true 0 0
  else if st == 3 || st == 4 then s
  else s.complete 1

/-- RESETREQ (17 R407). -/
def execResetreq (vd : Nat) (s : State) : Res := .next (s.startReset vd .request false 0 0)

/-- SETSHARE (03 R84): a share below INUSE stops placement until INUSE falls below it. -/
def execSetshare (s : State) : Res := s.command (· == 4) fun ws s =>
  let n := cmdVd ws
  let w := cmdWord ws
  let v := s.vd n
  let sel (i : Nat) : Bool := (w 6).testBit i
  let clean := cmdClean ws && w 1 / 2 ^ 11 == 0 && w 2 / 2 ^ 17 == 0 && w 5 / 2 ^ 9 == 0 && w 6 / 2 ^ 5 == 0
  let limits := (!sel 0 || (decide (1 ≤ w 1) && decide (w 1 ≤ 1024))) && (!sel 1 || (decide (50 ≤ w 2) && decide (w 2 ≤ 100000))) &&
    (!sel 4 || (decide (1 ≤ w 5) && decide (w 5 ≤ if s.pf.partMode then 160 else 320)))
  if !clean || !limits then s.complete 4
  else if v.state == 0 then s.complete 2
  else if v.state == 5 || v.state == 6 then s.complete 1
  else
    let w3 := if sel 0 then putField (v.word 3) 10 0 (w 1) else v.word 3
    let w3 := if sel 1 then putField w3 27 11 (w 2) else w3
    let w5 := if sel 2 then putField (v.word 5) 31 0 (w 3) else v.word 5
    let w5 := if sel 3 then putField w5 63 32 (w 4) else w5
    let w0 := if sel 4 then putField (v.word 0) 29 21 (w 5) else v.word 0
    (s.setVd n { ((v.setWord 3 w3).setWord 5 w5).setWord 0 w0 with
      shareStop := if sel 4 then decide (w 5 < v.coreIds.length) else v.shareStop }).complete 0

/-- QUERY (02 R46). -/
def execQuery (s : State) : Res := s.command (· == 5) fun ws s =>
  let n := cmdVd ws
  let v := s.vd n
  if !cmdClean ws then s.complete 4
  else if v.state == 0 then s.complete 2
  else
    let w1 : W32 := BitVec.ofNat 32 (v.state + v.qfirst * 2 ^ 8 + 2 ^ 18 * v.qcount)
    let w2 : W32 := BitVec.ofNat 32 ((s.framesOf (.vd n) + 511) / 512)
    ({ s with pf := { s.pf with cmdBuf := listSet (listSet s.pf.cmdBuf 1 w1) 2 w2 } }).complete 0

/-! Shared content (02 R49). -/

/-- Takes one frame of a run out of it, wipes it and frees it. -/
def State.freeFrame (s : State) (f : Nat) : State :=
  match s.frames.find? fun e => decide (e.1 ≤ f) && decide (f < e.1 + e.2.len) with
  | none => s
  | some (b, r) =>
    let below : Table FrameRun := if b < f then Table.put b { r with len := f - b } (Table.drop b s.frames) else Table.drop b s.frames
    let above := if f + 1 < b + r.len then
        Table.put (f + 1) { r with
          len := b + r.len - f - 1
          page := r.page + (f + 1 - b) } below
      else below
    { (s.revoke (4096 * f) 4096).wipeFrames f 1 with frames := above }

/-- Removes what a VD maps at a page before a shared page takes its place (R49 step 3). -/
def State.unmapPage (s : State) (vd page : Nat) : State :=
  match s.leafOf vd (4096 * page) with
  | none => s
  | some h =>
    if pteTgt h.entry != 0 then s
    else if (s.vd vd).guest then s.freeFrame (h.addr / 4096) else s.evict vd (h.addr / 4096) page

/-- Whether part of a range of pages is mapped to a shared slot already. -/
def State.meetsShared (s : State) (vd first pages : Nat) : Bool :=
  (s.vd vd).shared.any fun x =>
    let len := ((Table.look s.pf.slots x.2).map (·.pages)).getD 0
    decide (first < x.1 + len) && decide (x.1 < first + pages)

/-- Maps a slot's frames into a VD and completes the command (R49 steps 3 and 4): INVALID for a range that does not lie below VSPAN
or meets a shared slot, NOSPACE with nothing mapped when a frame for a table is not found. A slot that was filled for a command
that ends so stays filled, mapped by no VD, and a VD that maps one slot at two ranges counts twice in it (DESIGN CHOICE, log 92). -/
def State.mapShared (s : State) (vd slot first : Nat) (x : SharedSlot) : State :=
  if 2 ^ 18 * (s.vd vd).vspan < first + x.pages || s.meetsShared vd first x.pages then s.complete 4
  else
    let mapped := (List.range x.pages).foldl (fun (r : Option State) i => r.bind fun s =>
      (s.unmapPage vd (first + i)).mapAt vd 1 (4096 * (first + i)) (BitVec.ofNat 64 (4096 * listGet 0 x.frames i + 0x17))) (some s)
    match mapped with
    | none => s.complete 3
    | some s =>
      let s := s.updVd vd fun v => { v with shared := v.shared ++ [(first, slot)] }
      ({ s with pf := { s.pf with slots := Table.put slot { x with count := x.count + 1 } s.pf.slots } }).complete 0

/-- Takes `n` frames for a slot, in one run where there is one. -/
def State.takeFrames (s : State) (part slot : Nat) (n : Nat) : Option (List Nat × State) :=
  match s.takeRun part n 1 (.slot slot) 0 with
  | some (f, s) => some ((List.range n).map fun i => f + i, s)
  | none => (List.range n).foldl (fun (acc : Option (List Nat × State)) _ =>
      acc.bind fun a => (a.2.takeRun part 1 1 (.slot slot) 0).map fun r => (a.1 ++ [r.1], r.2)) (some ([], s))

/-- The first page of the range that a SHAREMAP command names. -/
def shareFirst (ws : List W32) : Nat := (cmdWord ws 5 + 2 ^ 32 * cmdWord ws 6) / 4096

/-- SHAREMAP (R49): a slot in use is mapped at once; an empty one is given frames, to be filled. -/
def execSharemap (s : State) : Res := s.command (· == 6) fun ws s =>
  let n := cmdVd ws
  let w := cmdWord ws
  let v := s.vd n
  let slot := w 1
  let host := w 2 + 2 ^ 32 * w 3
  let pages := w 4
  let base := w 5 + 2 ^ 32 * w 6
  let part := s.hardPart n == 1
  if !cmdClean ws || 64 ≤ slot || host % 4096 != 0 || pages == 0 || 2 ^ 20 < pages || base % 2 ^ 21 != 0 then s.complete 4
  else if v.state == 0 then s.complete 2
  else if v.state != 2 then s.complete 1
  else
    match Table.look s.pf.slots slot with
    | some x =>
      if x.host.toNat != host || x.pages != pages || x.part != part then s.complete 4 else s.mapShared n slot (shareFirst ws) x
    | none =>
      if s.pf.secDead then s.complete 3
      else
        match s.takeFrames (s.hardPart n) slot pages with
        | none => s.complete 3
        | some (fs, s) =>
          { s with pf := { s.pf with slots := Table.put slot ⟨BitVec.ofNat 64 host, pages, part, fs, 0, false⟩ s.pf.slots } }

/-- SHAREMAP_COMPLETE (R49 steps 1, 3 and 4): the slot has its keys, its content is copied in, and it is mapped. -/
def execSharemapComplete (slot : Nat) (s : State) : Res :=
  match Table.look s.pf.slots slot, s.pf.busy with
  | some x, some c =>
    if !c.started || cmdOp c.words != 6 || cmdWord c.words 1 != slot || x.filled || s.secWaits || s.roleStopped 1 then .next s
    else if s.pf.secDead then
      let s := (s.frames.filter fun e => e.2.owner == .slot slot).foldl (fun s e => s.freeRun e.1) s
      .next (({ s with pf := { s.pf with slots := Table.drop slot s.pf.slots } }).complete 3)
    else
      let x := { x with filled := true }
      let s := (List.range x.pages).foldl (fun s i => s.performOutside (s.pageWrites ⟨.host, x.host.toNat + 4096 * i⟩
        ⟨.hbm, 4096 * listGet 0 x.frames i⟩)) (s.makeKeys (512 + slot))
      let s : State := { s with pf := { s.pf with slots := Table.put slot x s.pf.slots } }
      .next (s.mapShared (cmdVd c.words) slot (shareFirst c.words) x)
  | _, _ => .next s

/-- SHARED_FRAME_REPAIR (17 R401): the page is written again from the backing copy, in its frame or, for a persistent fault, in
a replacement; without a copy that reads without a fault or poison the frame is retired and its page moved with its poison. The records of the frame's errors
are then closed. -/
def execSharedFrameRepair (slot page : Nat) (readable persistent : Bool) (s : State) : Res :=
  match Table.look s.pf.slots slot with
  | none => .next s
  | some x =>
    if x.pages ≤ page || s.roleStopped 2 then .next s
    else
      let f := listGet 0 x.frames page
      let copy := s.readBytes ⟨.host, x.host.toNat + 4096 * page⟩ 4096
      let readable := readable && (s.poisonOf ⟨.host, x.host.toNat + 4096 * page⟩ 4096).isNone
      let close (s : State) : State := { s with errors := s.errors.map fun e => if e.shared == some f then { e with closed := true } else e }
      if readable && !persistent then .next (close (s.performOutside (writesAt ⟨.hbm, 4096 * f⟩ copy none)))
      else
        match s.takeRun (if x.part then 1 else 0) 1 1 (.slot slot) 0 with
        | none => .next s
        | some (f', s) =>
          let ws := if readable then writesAt ⟨.hbm, 4096 * f'⟩ copy none else s.pageWrites ⟨.hbm, 4096 * f⟩ ⟨.hbm, 4096 * f'⟩
          let s := s.performOutside ws
          let s := s.freeFrame f
          let s : State := { s with
            frames := Table.put f ⟨1, .retired, 0⟩ s.frames
            pf := { s.pf with slots := Table.put slot { x with frames := listSet x.frames page f' } s.pf.slots } }
          .next (close (s.vds.foldl (fun (s : State) e => (e.2.shared.filter fun y => y.2 == slot).foldl (fun (s : State) y =>
            match s.leafOf e.1 (4096 * (y.1 + page)) with
            | some h => s.writeEntry h.at_ (BitVec.ofNat 64 (4096 * f' + 0x17))
            | none => s) s) s))

/-! The ashpit (17 R404, R409). -/

/-- The ashpit's base and size. -/
def Vd.ashAt (v : Vd) : Nat := 65536 * fieldN v.ashBase 51 16
def Vd.ashSize (v : Vd) : Nat := 2 ^ (16 + min 4 (fieldN v.ashBase 2 0))

/-- A write of ASHBASE: the region is made resident and pinned, or NOASH is set. -/
def State.writeAshbase (s : State) (vd : Nat) (value : Word) : State :=
  let s := s.updVd vd fun v => { v with
    ashBase := value &&& 0x000FFFFFFFFF0007#64
    ashPinned := fieldN value 51 16 != 0 }
  let v := s.vd vd
  if v.ashAt == 0 then s
  else
    let pages := (List.range (v.ashSize / 4096)).map fun i => v.ashAt / 4096 + i
    let fail (s : State) : State := s.updVd vd fun v => { v with
      ashPinned := false
      ashNo := true }
    let s := pages.foldl (fun s p => if !v.guest && s.pageAbsent vd p then (s.bringIn vd p).getD s else s) s
    let ok := pages.all fun p => match s.leafOf vd (4096 * p) with
      | some h => pteTgt h.entry == 0
      | none => false
    if ok then s else fail s

/-- ASHBASE_WRITE (R404). -/
def execAshbaseWrite (vd : Nat) (value : Word) (s : State) : Res :=
  if (s.vd vd).responds then .next (s.writeAshbase vd value) else .next s

/-- The REASON code. -/
def ResetReason.code : ResetReason → Nat
  | .request => 1
  | .command => 2
  | .integrity => 3
  | .watchdog => 4
  | .tableError => 5

/-- The value of KSTAT (02 R61). -/
def Queue.kstat (q : Queue) : W32 :=
  BitVec.ofNat 32 (q.state.toNat + (if q.hung then 8 else 0) + (if q.cfgErr then 16 else 0) + q.err.toNat * 2 ^ 8)

/-- The record at head, which has started and has not retired: it runs, is staged, or waits for its completion ring. -/
def Queue.headRun (q : Queue) : Option RecordRun := (q.runs ++ q.staged ++ q.retiring).find? fun (r : RecordRun) => r.index == q.head

/-- Word 0 of the record at head: as started, or as its ring holds it; 0 when no record is outstanding or it cannot be read. -/
def State.headWord (s : State) (q : Nat) : Word :=
  let x := s.queue q
  match x.headRun with
  | some r => listGet 0 r.words 0
  | none =>
    if x.head == x.tail then 0
    else
      match s.stage2Leaf x.vd.toNat (fieldN x.qbase 51 6 * 64 + x.head.toNat % 2 ^ x.qsize * 64) with
      | .ok h => if pteTgt h.entry == 2 then 0 else wordOf (s.readBytes (leafLoc h) 8)
      | .error _ => 0

/-- A queue's part of the dump. -/
def State.dumpQueue (s : State) (v : Vd) (i : Nat) : List Byte :=
  if v.qcount ≤ i then List.replicate 32 0
  else
    let q := s.queue (v.qfirst + i)
    leB 4 q.kstat.toNat ++ leB 4 q.head.toNat ++ leB 4 q.latch.toNat ++ leB 4 0 ++ bytesOf (s.headWord (v.qfirst + i)) ++
      leB 8 (if q.state == 4 then 0x10 else 0)

/-- A workgroup's part of the dump. -/
def State.dumpGroup (s : State) (v : Vd) (x : Group) : List Byte :=
  let r := (s.grid x.grid).record
  let state := match x.residence with
    | .saved _ _ => 2
    | _ => if x.warps.any fun w => !w.handler.isEmpty then 1 else 0
  let skids := (List.range 16).foldl (fun n i => n + (listGet Warp.start x.warps i).skidReg.toNat * 2 ^ (4 * i)) 0
  leB 4 r.ktag.toNat ++ leB 4 x.wgid ++ [BitVec.ofNat 8 (s.queue (s.grid x.grid).queue).local_.toNat, BitVec.ofNat 8 state] ++
    leB 2 (Table.get 0 v.coreIds x.core) ++ leB 4 0 ++ bytesOf (listGet Warp.start x.warps 0).head.pc ++ bytesOf x.lastCause ++
    leB 8 skids ++ List.replicate 24 0

/-- Inserts a workgroup in rising order of KTAG and WGID. -/
def insertDump (k : Nat × Group) : List (Nat × Group) → List (Nat × Group)
  | [] => [k]
  | h :: t => if k.1 < h.1 then k :: h :: t else h :: insertDump k t

/-- The bytes of the dump, and whether some workgroups did not fit. -/
def State.dumpBytes (s : State) (vd : Nat) (r : ResetRun) : List Byte × Bool :=
  let v := s.vd vd
  let stands (x : Group) : Bool := match x.residence with
    | .resident | .saved _ _ => true
    | _ => false
  let all := (s.groups.filter fun e => e.2.vd == vd && stands e.2).foldl (fun l e =>
    insertDump (2 ^ 32 * (s.grid e.2.grid).record.ktag.toNat + e.2.wgid, e.2) l) []
  let fit := all.take (v.ashSize / 64 - 36)
  let trunc := decide (fit.length < all.length)
  let cause := match r.reason with
    | .integrity => 0x0F
    | .watchdog => 0x11
    | _ => 0
  let w0 := r.reason.code + cause * 2 ^ 8 + (if r.reason == .tableError then 2 ^ 16 * r.prov.toNat else 0) +
    (if r.reason == .watchdog then 2 ^ 32 * (r.queue % 64) else 0) + if trunc then 2 ^ 48 else 0
  let seq := min 255 (v.resetCnt.toNat + 1)
  (leB 8 w0 ++ leB 4 fit.length ++ leB 4 all.length ++ bytesOf r.clk ++ bytesOf r.mcore ++ [BitVec.ofNat 8 seq] ++
    List.replicate 223 0 ++ ((List.range 64).flatMap fun i => s.dumpQueue v i) ++ fit.flatMap fun e => s.dumpGroup v e.2, trunc)

/-- Writes the dump page by page at stage 2 only, until a write faults; answers whether one did. -/
def State.writeDump (s : State) (vd : Nat) (bs : List Byte) : Bool × State :=
  let at_ := (s.vd vd).ashAt
  (List.range ((bs.length + 4095) / 4096)).foldl (fun (acc : Bool × State) i =>
    if acc.1 then acc
    else
      match acc.2.stage2 vd (at_ + 4096 * i) Need.write with
      | (.ok l, s) =>
        if l.space == .fabric then (true, s)
        else
          let page := (bs.drop (4096 * i)).take 4096
          let s := s.engineStore (writesAt l page none)
          (false, if l.space == .hbm then s.meterHbm vd page.length else s)
      | (.error _, s) => (true, s)) (false, s)

/-- ASHPIT_DUMP_DONE (R407 steps 1 to 3, R409). -/
def execAshpitDumpDone (vd : Nat) (s : State) : Res :=
  let v := s.vd vd
  match v.reset with
  | none => .next s
  | some r =>
    if v.state != 3 || s.roleStopped 2 then .next s
    else
      let s : State := { s with groups := s.groups.map fun e => if e.2.vd == vd then (e.1, e.2.settleFreeze) else e }
      let s := if v.ashAt == 0 then s.updVd vd fun v => { v with ashNo := true }
        else
          let (bs, trunc) := s.dumpBytes vd r
          let (failed, s) := s.writeDump vd bs
          s.updVd vd fun v => { v with
            ashNo := false
            ashFailed := failed
            ashTrunc := trunc
            ashSeq := BitVec.ofNat 8 (min 255 (v.resetCnt.toNat + 1)) }
      .next ((s.updVd vd fun v => v.setState 4).killVd vd)

/-! The end of the scoped reset (R405, R407). -/

/-- Wipes the frames of a VD's own memory but those of the ashpit (R407 step 5). -/
def State.wipeOwn (s : State) (vd : Nat) : State :=
  let v := s.vd vd
  let ash (page : Nat) : Bool := v.ashAt != 0 && decide (v.ashAt / 4096 ≤ page) && decide (page < (v.ashAt + v.ashSize) / 4096)
  let mine (k : Nat) : Bool := decide (k / 2 ^ 64 == 0) && s.frames.any fun e => e.2.owner == .vd vd &&
    decide (e.1 ≤ k / 4096) && decide (k / 4096 < e.1 + e.2.len) && !ash (e.2.page + (k / 4096 - e.1))
  { s with
    mem := s.mem.filter fun e => !mine e.1
    poison := s.poison.filter fun e => !mine e.1 }

/-- RESET_DRAINED (R407 steps 4 and 5). -/
def execResetDrained (vd : Nat) (s : State) : Res :=
  let v := s.vd vd
  match v.reset with
  | none => .next s
  | some r =>
    if v.state != 4 || v.kill != some [] || r.cleared then .next s
    else
      let s := ((s.discardWork vd).forgetVd vd).wipeDie vd 0
      let s := if v.expert && v.wipe then s.wipeOwn vd else s
      .next (s.updVd vd fun v => { v with reset := some { r with cleared := true } })

/-- A queue at rearm (02 R59). -/
def Queue.rearm (q : Queue) : Queue :=
  let q := { q with
    kick := false
    runs := []
    staged := []
    retiring := []
    done := false
    sem := false }
  if q.enabled then { q with
    state := 1
    head := q.latch
    tail := q.latch
    next := q.latch }
  else { q with state := 0 }

/-- RESET_REARM (R407 step 6; 02 R41, R59). -/
def execResetRearm (vd : Nat) (s : State) : Res :=
  let v := s.vd vd
  match v.reset with
  | none => .next s
  | some r =>
    if v.state != 4 || !r.cleared then .next s
    else
      let s := (List.range v.qcount).foldl (fun (s : State) i => s.updQueue (v.qfirst + i) Queue.rearm) s
      let s := s.updVd vd fun v => { v.setState 2 with
        reset := none
        kill := none
        resetCnt := if v.resetCnt == 255 then 255 else v.resetCnt + 1 }
      let s := if r.byOther then s.vdEvent vd 1 else s
      let s := s.vdEvent vd 0
      let s := if s.carrying 3 vd then s.complete 0 else s
      .next (if v.destroyPend then
          (s.updVd vd fun v => v.setWord 0 (setBit (v.word 0) 30 false)).startDestroy vd
        else s)

/-! The queue watchdog (02 R70; 17 R406). -/

/-- QUEUE_WATCHDOG: the record at head has outlived its limit (R70). One that has completed needs no ending (R406). -/
def execQueueWatchdog (q : Nat) (s : State) : Res :=
  let x := s.queue q
  let vd := x.vd.toNat
  let v := s.vd vd
  match x.headRun with
  | none => .next s
  | some r =>
    if !v.works || x.wdog v == 0 then .next s
    else
      let s := ((s.setQueue q { x with hung := true }).vdEvent vd 3).logEvent 0x13 vd
      let act := if v.expert then v.wdAct.toNat else 0
      .next (if s.roleStopped 2 then s else if act == 1 && !r.completed then s.watchdogEnd q r
        else if act == 2 then s.startReset vd .watchdog true x.local_.toNat 0 else s)

/-! Die-scratch shares (09 R234, R235). -/

/-- Whether a request can be granted. -/
def State.dieRequestOk (s : State) (vd : Nat) : Bool :=
  let v := s.vd vd
  let pending (g : Grid) : Bool := g.record.words.isEmpty || decide (g.placed < g.record.count) || !g.relaunch.isEmpty || !g.ready.isEmpty
  let idle := (s.groupsOf vd).isEmpty && !s.grids.any fun g => g.2.vd == vd && !g.2.ended && pending g.2
  let dies := if s.pf.partMode then [s.hardPart vd] else [0, 1]
  let others (d : Nat) : Nat := (s.vds.filter fun e => e.1 != vd && (!s.pf.partMode || s.hardPart e.1 == d)).foldl (fun n e =>
    n + max e.2.dsGrant.toNat ((e.2.dsPend.map (·.toNat)).getD 0)) 0
  idle && dies.all fun d => decide (v.dsReq.toNat - v.dsGrant.toNat ≤ (listGet 0 s.pf.dsMib d).toNat - others d)

/-- A write of DSCFG; a refused request leaves an earlier one that was granted as it is. -/
def State.writeDscfg (s : State) (vd : Nat) (value : W32) : State :=
  if !(s.vd vd).responds then s
  else
    let s := s.updVd vd fun v => { v with
      dsReq := BitVec.ofNat 9 (fieldN value 8 0)
      dsErr := v.dsErr && !value.getLsbD 16 }
    if s.dieRequestOk vd then s.updVd vd fun v => { v with dsPend := some v.dsReq }
    else s.updVd vd fun v => { v with dsErr := true }

/-- DIE_SCRATCH_REQUEST. -/
def execDieScratchRequest (vd : Nat) (value : BitVec 32) (s : State) : Res := .next (s.writeDscfg vd value)

/-- DIE_SCRATCH_GRANT: added space reads zero, and released space is wiped. -/
def execDieScratchGrant (vd : Nat) (s : State) : Res :=
  let v := s.vd vd
  match v.dsPend with
  | none => .next s
  | some req =>
    if s.roleStopped 1 then .next s
    else .next ((s.wipeDie vd (2 ^ 20 * min v.dsGrant.toNat req.toNat)).setVd vd { v with
      dsGrant := req
      dsPend := none })

/-! Loads (04 R120; 17 R395). -/

/-- The VD that an integrity mismatch in an HBM line freezes: the one whose agent reads, or for a control core the frame's (17 R394,
R395). -/
def State.integrityVd (s : State) (a : AgentId) (line : Nat) : Option Nat :=
  match a with
  | .ctl _ => s.frames.findSome? fun e => if e.1 ≤ line / 64 && line / 64 < e.1 + e.2.len then
      (match e.2.owner with
       | .vd n | .outside n => some n
       | _ => none) else none
  | _ => some (s.vdOf a)

/-- LOAD_COMPLETE (04 R120): the values bound are delivered. With a mismatch the integrity tag of the first HBM sector read does not match:
nothing is delivered, an error record is made, and a scoped reset with REASON 3 starts (17 R395, R409). -/
def execLoadComplete (a : AgentId) (op : LoadEnd) (s : State) : Res :=
  match op.mismatch, s.op? a op.op with
  | true, some ⟨_, _, .load _ _ _ _ _ (r :: _)⟩ =>
    let (_, s) := s.newError (64 * r.2 / (48 * 2 ^ 30) % 8) 0x0F none
    match s.integrityVd a r.2 with
    | some vd => .next (s.startReset vd .integrity true 0 0)
    | none => .next s
  | _, _ => .next (s.completeLoad a op.op)

end Sys2Proof.Machine
end

