-- ==== Sys2Proof/Machine/Control.lean ====
section
/-! DEFINITION. Heartbeats, the timer tick, takeovers, and the restarts of control cores (19 R421, R430-R432). -/

namespace Sys2Proof.Machine

/-- HEARTBEAT_EXPIRE (R430, R432): code 4 for an active core or the security core; a standby writes no heartbeat. -/
def execHeartbeatExpire (core : Nat) (s : State) : Res :=
  let x := s.ctlCore core
  if core == 6 then .next (if (x.halted && x.loaded) || s.pf.secDead then s else s.machineCheck 6 4)
  else .next (if decide (core < 6) && x.active && !x.halted then s.machineCheck core 4 else s)

/-- Holds every queue's IRT entry, and sets the kick bit of every queue whose tail latch differs from TAIL (R431 steps 2, 3). -/
def State.holdAndKick (s : State) : State :=
  let s := (List.range 1024).foldl State.holdEntry s
  { s with queues := s.queues.map fun e => if e.2.latch != e.2.tail then (e.1, { e.2 with kick := true }) else e }

/-- TAKEOVER_HANDOVER (R431 steps 1 to 4); a standby that has failed meanwhile leaves the pair halted (R432). -/
def execTakeoverHandover (pair : Nat) (s : State) : Res :=
  let p := s.pair pair
  match p.takeover with
  | none => .next s
  | some c =>
    if !p.standby then .next ((s.setPair pair { p with
      takeover := none
      lost := true }).send (.pfMsix 2))
    else
      let peer := c + 1 - 2 * (c % 2)
      let s := if pair == 0 then s.holdAndKick else s
      let s := (s.updCtl c fun x => { x with active := false }).updCtl peer fun x => { x with
        active := true
        peerUp := false
        pendTake := true }
      let s := s.setPair pair { p with
        takeover := none
        taken := true
        standby := false
        acore := decide (peer % 2 = 1) }
      let n := s.pf.takeovers
      .next { s with pf := { s.pf with takeovers := if n == 255 then 255 else n + 1 } }

/-- CONTROL_TIMER_TICK (R421). -/
def execControlTimerTick (s : State) : Res :=
  .next ((List.range 7).foldl (fun (s : State) c => s.updCtl c fun x => { x with pendTimer := true }) s)

/-- Puts an image into a control core's instruction SRAM of 256 KiB, whose other bytes become 0 (R420). -/
def State.loadImage (s : State) (core : Nat) (image : List Byte) : State :=
  let tag := (Space.inst core).tag
  let s : State := { s with mem := s.mem.filter fun e => e.1 / 2 ^ 64 != tag }
  s.store ⟨.inst core, 0⟩ (image.take (2 ^ 18))

/-- A control core starts its image at PC 0 (R431, R450). -/
def CtlCore.restart (x : CtlCore) : CtlCore := { x with
  agent := Agent.start
  pc := 0
  halted := false
  loaded := true
  pendTimer := false
  pendTake := false }

/-- The 64-byte SHAKE256 digest of some bytes, as a measurement register holds it: byte i in bits 8i + 7 to 8i (01 R25, R26;
log 56). -/
def digestOf (bs : List Byte) : BitVec 512 := BitVec.ofNat 512 (recN (shake256 bs 64) 0 64)

/-- The bytes of a measurement register. -/
def bytes64 (v : BitVec 512) : List Byte := leB 64 v.toNat

/-- A measurement register extended with a digest (01 R26). The bytes of the register go into SHAKE256 before those of the
digest, as the operands stand in the rule (DESIGN CHOICE, log 56). -/
def extended (old digest : BitVec 512) : BitVec 512 := digestOf (bytes64 old ++ bytes64 digest)

/-- The check of 01 R25: the key's digest is the fused one, and the signature over the image's digest verifies. -/
def State.verifies (s : State) (i : SignedImage) : Bool :=
  shake256 i.key 64 == s.power.keyDigest && Config.slhDsaVerify i.key (shake256 i.bytes 64) i.signature

/-- CORE_RELOAD_COMPLETE (R431, R432): a core whose image matches MEAS2, MEAS3 or MEAS4, which one extension from zero with the
image's digest gave, and which works with it, becomes the standby; two failures leave the pair without one. Reloads wait for a security core that is not
up. -/
def execCoreReloadComplete (core : Nat) (image : List Byte) (works : Bool) (s : State) : Res :=
  let x := s.ctlCore core
  let n := core / 2
  let p := s.pair n
  if 6 ≤ core || x.loaded || x.active || p.lost || p.reloads == 2 || !s.secUp then .next s
  else if !works || extended 0 (digestOf image) != listGet 0 s.power.meas (2 + n) then .next (s.setPair n { p with reloads := p.reloads + 1 })
  else
    let peer := core + 1 - 2 * (core % 2)
    let s := ((s.loadImage core image).setCtl core { x.restart with peerUp := true }).updCtl peer fun y => { y with peerUp := true }
    .next (s.setPair n { p with
      standby := true
      reloads := 0 })

/-- SECURITY_CORE_RESTART (R432): the restart ends with the firmware that the ROM verified, and MEAS1 is not extended again;
firmware that fails verification leaves the core halted. -/
def execSecurityCoreRestart (image : SignedImage) (s : State) : Res :=
  if s.secUp || s.pf.secDead then .next s
  else if s.verifies image then .next ((s.loadImage 6 image.bytes).updCtl 6 CtlCore.restart)
  else .next { s with pf := { s.pf with secDead := true } }

end Sys2Proof.Machine
end

