-- ==== Sys2Proof/Machine/Ports.lean ====
section
/-! DEFINITION. The Ethernet ports (15 R371-R373). -/

namespace Sys2Proof.Machine

def Port.start : Port := ⟨false, false, false, 0, 0, 0, 0, 0, 0, 0, 0, false, false, false, none, false⟩
def State.port (s : State) (n : Nat) : Port := Table.get Port.start s.ports n
def State.setPort (s : State) (n : Nat) (p : Port) : State := { s with ports := Table.put n p s.ports }

/-- The lanes of port n: the first, and the one past the last (R371). -/
def Port.first (n : Nat) : Nat := 4 * n
def Port.last (n : Nat) (p : Port) : Nat := 4 * n + 2 ^ p.lanes.toNat

/-- SIZE and BASE of a ring register (R372), and whether the ring may be used. -/
def ringSize (r : Word) : Nat := fieldN r 4 0
def ringBase (r : Word) : Nat := 4096 * fieldN r 51 12
def ringOk (r : Word) : Bool := decide (4 ≤ ringSize r) && decide (ringSize r ≤ 12) && ringBase r != 0

/-- Whether a write of EN = 1 is refused (R371). -/
def State.portRefused (s : State) (n : Nat) (p : Port) : Bool :=
  decide (32 < p.last n) || !ringOk p.txRing || !ringOk p.rxRing || (p.owned && (s.vd p.owner.toNat).state != 2) ||
  s.ports.any fun e => e.1 != n && e.2.enabled && decide (Port.first e.1 < p.last n) && decide (Port.first n < e.2.last e.1)

/-- A write of PCFGn (R371). -/
def State.writePcfg (s : State) (n : Nat) (value : W32) : State :=
  if 8 ≤ n then s
  else
    let p := s.port n
    let p := { p with cfgErr := p.cfgErr && !value.getLsbD 30 }
    if p.enabled then s.setPort n (if value.getLsbD 31 then p else p.stop)
    else
      let p := { p with
        owned := value.getLsbD 20
        owner := BitVec.ofNat 9 (fieldN value 19 11)
        lanes := BitVec.ofNat 2 (fieldN value 1 0) }
      if !value.getLsbD 31 then s.setPort n p
      else if s.portRefused n p then s.setPort n { p with cfgErr := true }
      else s.setPort n { p with
        enabled := true
        stopping := false
        receiving := false }

/-- PORT_ENABLE. -/
def execPortEnable (n : Nat) (value : BitVec 32) (s : State) : Res := .next (s.writePcfg n (value ||| 0x80000000#32))

/-- PORT_DISABLE. -/
def execPortDisable (n : Nat) (value : BitVec 32) (s : State) : Res := .next (s.writePcfg n (value &&& 0x7FFFFFFF#32))

/-- PTXTAIL_WRITE and PRXTAIL_WRITE (R373). -/
def execPtxtailWrite (n : Nat) (value : BitVec 32) (s : State) : Res :=
  if 8 ≤ n then .next s else .next (s.setPort n { s.port n with txTail := value })
def execPrxtailWrite (n : Nat) (value : BitVec 32) (s : State) : Res :=
  if 8 ≤ n then .next s else .next (s.setPort n { s.port n with rxTail := value })

/-- Places bytes for a port: host memory, or through the owner's stage 2 (R371). -/
def State.portPlace (s : State) (p : Port) (addr n : Nat) (need : Need) : Placed × State :=
  if !p.owned then (.ok ((List.range n).map fun i => ⟨.host, addr + i⟩), s)
  else
    let vd := p.owner.toNat
    (pageRuns (n / 4096 + 2) addr n).foldl (fun (acc : Placed × State) r =>
      match acc.1 with
      | .ok ls =>
        (match acc.2.stage2 vd r.1 need with
         | (.ok l, s) =>
           (match s.fabricCheck vd (.ok ((List.range r.2).map l.plus)) with
            | .ok new => .ok (ls ++ new)
            | y => y, s)
         | (.error (.absent _ _ _), s) => (.absent ⟨4096 * (r.1 / 4096), true, true, 0, false, false⟩, s)
         | (.error _, s) => (.cause .permission, s))
      | _ => acc) (.ok [], s)

/-- A port waits for a page that the paging engine brings in; answers false when no one will. -/
def State.portWaits (s : State) (n : Nat) (p : Port) (f : AbsentAt) : Bool × State :=
  let vd := p.owner.toNat
  let v := s.vd vd
  if v.guest then (false, s)
  else if v.faults.any fun r => r.owner == .port n && r.page == f.page / 4096 then (true, s)
  else
    let r : FaultRec := ⟨some (2 ^ 32), true, false, faultWords f ⟨0, 0, 0, 0, false, false, 0⟩ true, f.page / 4096, true, .port n, 0⟩
    (true, s.setVd vd { v with faults := v.faults ++ [r] })

/-- Writes a port's bytes; answers whether some are on their way to a remote home. -/
def State.portWrite (s : State) (n part : Nat) (ls : List Loc) (bs : List Byte) : Bool × State :=
  let p := s.port n
  let (sent, s) := s.engineWrite (.ctl 7) p.owner.toNat (.port n) part ls (bs.map fun b => (b, none))
  (sent, if p.owned then s.meterPlaces p.owner.toNat ls else s)

/-- The descriptor of an index. -/
def State.portDescriptor (s : State) (p : Port) (ring : Word) (i : W32) : Placed × State :=
  s.portPlace p (ringBase ring + i.toNat % 2 ^ ringSize ring * 16) 16 Need.update

/-- Whether the owner's dampers hold a port back: its link bytes, or some places (03 R89). -/
def State.portDamped (s : State) (p : Port) : Bool := p.owned && (s.vd p.owner.toNat).linkHeld
def State.portHeld (s : State) (p : Port) (ls : List Loc) : Bool := p.owned && s.damps p.owner.toNat ls

/-- DONE and ERR of a descriptor (R373). -/
def doneFlags (bad : Bool) : Byte := if bad then 3 else 1

/-- The frame at PTXHEAD is over: its descriptor gets DONE and ERR, and then the head advances (R373). -/
def State.finishTx (s : State) (n : Nat) (ds : List Loc) (bad : Bool) : State :=
  let (sent, s) := (s.forgetRecord (.port n)).portWrite n 2 [listGet ⟨.host, 0⟩ ds 10] [doneFlags bad]
  let p := s.port n
  if sent then s.setPort n { p with txWait := true }
  else s.setPort n { p with
    txHead := p.txHead + 1
    stopping := false }

/-- The bytes of a received frame are visible: its descriptor gets LEN, DONE and ERR, and then the head advances (R373). -/
def State.finishRx (s : State) (n len : Nat) (bad : Bool) : State :=
  let p := s.port n
  match s.portDescriptor p p.rxRing p.rxHead with
  | (.ok ds, s) =>
    let (sent, s) := s.portWrite n 4 ([8, 9, 10].map fun i => listGet ⟨.host, 0⟩ ds i) (leB 2 len ++ [doneFlags bad])
    let p := s.port n
    if sent then s.setPort n { p with
      rxWait := none
      rxDone := true }
    else s.setPort n { p with
      rxWait := none
      rxHead := p.rxHead + 1 }
  | (_, s) => s

/-- A port goes on once remote homes have acknowledged what it wrote. -/
def State.portGoesOn (s : State) (n : Nat) : State :=
  let p := s.port n
  let s := if p.txWait && !s.engineSending (.port n) 2 then s.setPort n { p with
      txHead := p.txHead + 1
      stopping := false
      txWait := false } else s
  let p := s.port n
  match p.rxWait with
  | some (len, bad) => if s.engineSending (.port n) 3 then s else s.finishRx n len bad
  | none =>
    if p.rxDone && !s.engineSending (.port n) 4 then s.setPort n { p with
      rxHead := p.rxHead + 1
      rxDone := false } else s

/-- A remote home refuses a port: a buffer that cannot be reached gives a bad frame; at a descriptor nothing more happens. -/
def State.portFails (s : State) (n part : Nat) (write : Bool) : State :=
  let p := s.port n
  if write then
    if part == 3 then (s.setPort n { p with rxWait := p.rxWait.map fun x => (x.1, true) }).portGoesOn n else s
  else if part == 1 then
    match s.portDescriptor p p.txRing p.txHead with
    | (.ok ds, s) => s.finishTx n ds true
    | (_, s) => s
  else s

/-- FRAME_SENT (R373): the frame of the descriptor at PTXHEAD; one whose buffer cannot be reached is a bad frame. Bytes behind a
fabric leaf come from their remote home first. -/
def execFrameSent (n : Nat) (bad : Bool) (s : State) : Res :=
  let p := s.port n
  let vd := p.owner.toNat
  if 8 ≤ n || !(p.enabled || p.stopping) || p.txHead == p.txTail || s.portDamped p then .next s
  else if p.txWait then .next (s.portGoesOn n)
  else
    match s.portDescriptor p p.txRing p.txHead with
    | (.cause _, s) => .next s
    | (.absent f, s) => .next (s.portWaits n p f).2
    | (.ok ds, s) =>
      match s.engineRead vd (.port n) 0 0 ds with
      | (none, s) => .next s
      | (some d, s) =>
        let d := d.map (·.1)
        let len := recN d 8 2
        match s.portPlace p (recN d 0 8) len Need.read with
        | (.cause _, s) => .next (s.finishTx n ds true)
        | (.absent f, s) =>
          (match s.portWaits n p f with
           | (true, s) => .next s
           | (false, s) => .next (s.finishTx n ds true))
        | (.ok ls, s) =>
          if s.portHeld p (ds ++ ls) then .next s
          else
            match s.engineRead vd (.port n) 1 0 ls with
            | (none, s) => .next s
            | (some bs, s) =>
              let s := s.send (.frame n (bs.map (·.1)))
              let s := if p.owned then (s.meterPlaces vd ls).meterLink vd len else s
              .next (s.finishTx n ds bad)

/-- FRAME_RECEIVED (R373): dropped when no receive descriptor is posted. -/
def execFrameReceived (n : Nat) (bytes : List Byte) (bad : Bool) (s : State) : Res :=
  let p := s.port n
  if 8 ≤ n then .next s
  else if p.rxWait.isSome || p.rxDone then .next (s.portGoesOn n)
  else if !(p.enabled || p.receiving) || p.rxHead == p.rxTail then .next s
  else
    match s.portDescriptor p p.rxRing p.rxHead with
    | (.cause _, s) => .next s
    | (.absent f, s) => .next (s.portWaits n p f).2
    | (.ok ds, s) =>
      match s.engineRead p.owner.toNat (.port n) 5 0 ds with
      | (none, s) => .next s
      | (some d, s) =>
        let d := d.map (·.1)
        let room := recN d 8 2
        let long := decide (room < bytes.length)
        let taken (s : State) (bad : Bool) : State :=
          (s.forget (.port n) 5).setPort n { p with
            rxWait := some (bytes.length, bad)
            receiving := false }
        match s.portPlace p (recN d 0 8) (min room bytes.length) Need.write with
        | (.cause _, s) => .next ((taken s true).portGoesOn n)
        | (.absent f, s) =>
          (match s.portWaits n p f with
           | (true, s) => .next s
           | (false, s) => .next ((taken s true).portGoesOn n))
        | (.ok ls, s) =>
          if s.portHeld p (ds ++ ls) then .next s
          else
            let (_, s) := s.portWrite n 3 ls (bytes.take ls.length)
            .next ((taken s (bad || long)).portGoesOn n)

end Sys2Proof.Machine
end

