-- ==== Sys2Proof/Machine/Fabric.lean ====
section
/-! DEFINITION. Remote requests and responses, write failures, stations and sealed channels as receiver (15 R357-R370). -/

namespace Sys2Proof.Machine

/-! Responses (15 R364). -/

/-- Takes a request off the outstanding ones. -/
def State.dropRemote (s : State) (id : Nat) : State := { s with remote := s.remote.filter fun r => r.id != id }

/-- Takes a request off the parts of an operation, with the registers that its response writes. -/
def State.settleRemote (s : State) (a : AgentId) (op id : Nat) (rs : List RegWrite) : State :=
  match s.op? a op with
  | some ⟨_, _, .load m regs wt pk rm rd⟩ => s.setWork a op (.load m (regs ++ rs) wt pk (rm.filter (· != id)) rd)
  | some ⟨_, _, .store m ws pk rm⟩ =>
    let rm := rm.filter (· != id)
    (s.setWork a op (if ws.isEmpty && pk.isEmpty && rm.isEmpty then .finished else .store m ws pk rm)).updAgent a Agent.settle
  | some ⟨_, _, .tracked m regs pk rm ls⟩ => s.setWork a op (.tracked m (regs ++ rs) pk (rm.filter (· != id)) ls)
  | _ => s

/-- Takes the trap of an operation once every lane that is left has failed (09 R243). -/
def State.takeFailed (s : State) (a : AgentId) (op : Nat) : State :=
  match s.op? a op with
  | none => s
  | some o =>
    match o.work.memOp with
    | none => s
    | some m =>
      let p := o.work.parts
      let failed := s.remote.filterMap fun r => match r.use with
        | .failed b k acc c q => if b == a && k == op then some (r.id, acc, LaneFound.cause c q) else none
        | _ => none
      if failed.isEmpty || !p.remote.all fun id => failed.any fun f => f.1 == id then s
      else
        let s : State := { s with remote := s.remote.filter fun r => !failed.any fun f => f.1 == r.id }
        ((s.resolve a op m { p with remote := [] } (failed.map (·.2))).2).updAgent a Agent.settle

/-- Bytes of a lane that reads several pieces have come: with them it is found and performed again (04 R123). -/
def State.laneGoesOn (s : State) (a : AgentId) (op id : Nat) (m : MemOp) (acc : LaneAcc) (bs : List Byte) : State :=
  let s := s.settleRemote a op id []
  match s.op? a op with
  | none => s
  | some o =>
    let acc := { acc with data := acc.data ++ bs }
    let (f, s) := s.classify a m false acc
    ((s.resolve a op m o.work.parts [(acc, f)]).2).updAgent a Agent.settle

/-- Bytes have come for a lane, or its cause has. -/
def State.laneAnswer (s : State) (r : RemoteOut) (a : AgentId) (op : Nat) (acc : LaneAcc) (y : RemoteReply) : State :=
  let fail (s : State) (c : Cause) (q : Option Prov) : State :=
    ({ s with remote := s.remote.map fun (x : RemoteOut) => if x.id == r.id then { x with use := .failed a op acc c q } else x }).takeFailed a op
  match s.op? a op with
  | none => s.dropRemote r.id
  | some o =>
    match o.work.memOp, y with
    | none, _ => s.dropRemote r.id
    | some _, .refused => fail s .permission none
    | some _, .data _ (some p) =>
      let (q, s) := s.receivedTag r.station (some p)
      fail s .poison q
    | some m, .data bs none =>
      let s := s.dropRemote r.id
      if m.act == .fill then s.laneGoesOn a op r.id m acc bs else (s.settleRemote a op r.id (laneRegs m acc bs)).takeFailed a op
    | some _, .done => ((s.dropRemote r.id).settleRemote a op r.id []).takeFailed a op

/-- A saved workgroup may be resumed (04 R127). -/
def State.mayWake (s : State) (a : AgentId) : State :=
  match groupOf a with
  | some g => s.updGroup g fun x => { x with wakeable := true }
  | none => s

/-- The word of a remote MWAIT has come (13 R334): an agent that runs goes on or traps; one that is halted will read again; for one
that is saved it tells whether the wake condition holds (04 R127). -/
def State.waitAnswer (s : State) (station : Nat) (a : AgentId) (y : RemoteReply) : State :=
  match (s.agent a).wait with
  | some w =>
    match w.kind with
    | .word addr cond cmp sd =>
      if s.isSaved a then
        match y with
        | .data bs none => if compareS cond.toNat (wordOf bs) cmp then s.mayWake a else s
        | .done => s
        | _ => s.mayWake a
      else if !s.mayResume a then s
      else
        let cur := s.cur
        let (tag, s) := s.receivedTag station (match y with | .data _ p => p | _ => none)
        let s := s.as a
        let t := match y with
          | .refused => s.unwait.trapAt .permission addr
          | .data bs _ =>
            match tag with
            | some p => s.unwait.trapWith .poison none (some p) s.headMask 0 addr none
            | none =>
              let x := wordOf bs
              if compareS cond.toNat x cmp then ((s.setSreg sd x).acquire a).resumeAt w else s
          | .done => s
        { t with cur := cur }
    | _ => s
  | none => s

/-- Where a sector, element or row of an engine operation fails (10 R266, R269; 11 R288; 14 R354; 02 R68; 18 R419). -/
def State.engineFails (s : State) (who : ParkOwner) (part : Nat) (write : Bool) : State :=
  match who with
  | .agent a op =>
    if op == 0 then
      let cur := s.cur
      { ((s.as a).trap .permission) with cur := cur }
    else
      let g := (groupOf a).getD 0
      match s.op? a op with
      | some ⟨_, _, .copy c⟩ =>
        let js := c.sectorBytes (c.queue.bind fun k => s.feedQueue g k) part
        s.failCopy g op { c with sending := c.sending.filter (· != part) } (js.headD 0) .permission
      | some ⟨_, _, .stream x⟩ => s.endStream g op x true
      | _ => s
  | .matrix core id =>
    match s.matOp? core id with
    | some (m, none) =>
      (match m.kind with
       | .load _ addr stride done | .store _ addr stride done => s.abortRows core m (BitVec.ofNat 64 (2 ^ part)) done addr stride
       | _ => s)
    | _ => s
  | .flue _ k id =>
    match Table.look s.parts k with
    | some p => s.failPush k id 4 p.vd
    | none => s
  | .record q i => s.recordLost q i
  | .checkpoint vd => s.endCk vd (if write then 4 else 3)
  | .port n => s.portFails n part write
  | _ => s

/-- An engine operation goes on once what it waited for has come. -/
def State.engineGoesOn (s : State) (who : ParkOwner) : State :=
  match who with
  | .record q i => s.recordAgain q i
  | .checkpoint vd => s.ckAdvance vd
  | .port n => s.portGoesOn n
  | _ => s

/-- The bytes of a read have come for an engine operation. -/
def State.engineAnswer (s : State) (station : Nat) (who : ParkOwner) (part pos : Nat) (bs : List Byte) (p : Option Prov) : State :=
  let (q, s) := s.receivedTag station p
  let new := (List.range bs.length).map fun i => (⟨who, part, pos + i, listGet 0 bs i, q⟩ : EngineByte)
  ({ s with engineData := s.engineData ++ new }).engineGoesOn who

/-! Writes that fail (R366). -/

/-- s92 of a remote write's asynchronous trap (16 R379). -/
def writeS92 (r : RemoteOut) : Word := BitVec.ofNat 64 (2 ^ 63 + 2 ^ 42 * (r.vpeer % 1024) + r.addr / 64 % 2 ^ 36 * 16)

/-- A sent write has failed: its bytes are discarded, and PERMISSION goes to the writing workgroups that are resident; for the
others the fault pair logs it and the root record takes it. -/
def State.writeFails (s : State) (r : RemoteOut) : State :=
  let s := s.dropRemote r.id
  match r.use with
  | .write _ writers =>
    let s := writers.foldl (fun s w => s.settleRemote w.1 w.2 r.id []) s
    let gs := (writers.filterMap fun w => groupOf w.1).eraseDups
    gs.foldl (fun s g =>
      let x := s.group g
      if x.residence == .resident then s.asyncTrap g (writeS92 r)
      else (s.logEvent 0x16 r.vd).failTree x.grid (.permission, 0) false) s
  | .engineWrite who part => s.engineFails who part true
  | _ => s

/-- Whether a request asks for a write, and no bytes. -/
def RemoteUse.isWrite : RemoteUse → Bool
  | .write _ _ | .engineWrite _ _ | .ring _ | .completion _ => true
  | _ => false

/-- What a reply does for the request it answers; a fault record or a completion record that a remote home has taken is visible (12
R312, 02 R71). -/
def State.answered (s : State) (r : RemoteOut) (y : RemoteReply) : State :=
  match r.use, y with
  | .lane a op acc, _ => s.laneAnswer r a op acc y
  | .wait a, _ => (s.dropRemote r.id).waitAnswer r.station a y
  | .write _ _, .refused | .engineWrite _ _, .refused => s.writeFails r
  | .write _ writers, _ => writers.foldl (fun s w => s.settleRemote w.1 w.2 r.id []) (s.dropRemote r.id)
  | .engineWrite who _, _ => (s.dropRemote r.id).engineGoesOn who
  | .engineRead who part pos, .data bs p => (s.dropRemote r.id).engineAnswer r.station who part pos bs p
  | .engineRead who part _, _ => (s.dropRemote r.id).engineFails who part false
  | .ring vd, .refused => (s.dropRemote r.id).ringError vd
  | .ring vd, _ =>
    match (s.vd vd).faults.find? fun f => f.index.isNone with
    | some f => (s.dropRemote r.id).recordPosted vd f
    | none => s.dropRemote r.id
  | .completion q, .refused => (s.dropRemote r.id).showLost q
  | .completion q, _ => (s.dropRemote r.id).showDone q
  | .failed _ _ _ _ _, _ => s

/-- The core that makes a request. -/
def State.useCore (s : State) : RemoteUse → Option Nat
  | .lane a _ _ | .wait a | .failed a _ _ _ _ => s.coreOf a
  | .write c _ => some c
  | .engineRead (.agent a _) _ _ | .engineWrite (.agent a _) _ => s.coreOf a
  | .engineRead (.matrix c _) _ _ | .engineWrite (.matrix c _) _ => some c
  | _ => none

/-- Whether a request served within the package has its turn: its core's requests to one remote line are served in issue order
(R357, 09 R239). -/
def State.ownTurn (s : State) (r : RemoteOut) : Bool :=
  (s.remote.takeWhile fun x => x.id != r.id).all fun x => x.station != 16 || x.vd != r.vd || x.vpeer != r.vpeer ||
    x.addr / 64 != r.addr / 64 || s.useCore x.use != s.useCore r.use || (match x.use with | .failed _ _ _ _ _ => true | _ => false)

/-- REMOTE_RESPONSE (R364): a request of this accelerator's own is served here, whatever the event carries (R363). -/
def execRemoteResponse (id : Nat) (y : RemoteReply) (s : State) : Res :=
  match s.remote.find? fun r => r.id == id with
  | none => .next s
  | some r =>
    if r.station != 16 then .next (if r.sent then s.answered r y else s)
    else if !s.ownTurn r then .next s
    else
      let q := r.request s.pf.fabAcc.toNat
      match s.serve q with
      | (.reply y, s) => .next (s.answered r y)
      | (.waits _, s) => .next (if s.heldRequests.contains q then s else { s with heldRequests := s.heldRequests ++ [q] })

/-- REMOTE_LOAD_TIMEOUT (R364). -/
def execRemoteLoadTimeout (id : Nat) (s : State) : Res :=
  match s.remote.find? fun r => r.id == id with
  | none => .next s
  | some r => .next (if r.use.isWrite then s else s.answered r .refused)

/-- REMOTE_WRITE_FAILURE (R366). -/
def execRemoteWriteFailure (id : Nat) (s : State) : Res :=
  match s.remote.find? fun r => r.id == id with
  | none => .next s
  | some r => .next (if r.use.isWrite then s.answered r .refused else s)

/-- REMOTE_REQUEST (R363): a request that meets an absent page waits for the paging engine. -/
def State.receive (s : State) (r : RemoteRequest) : State :=
  match s.serve r with
  | (.reply y, s) => s.answer r y
  | (.waits _, s) => { s with heldRequests := s.heldRequests ++ [r] }

/-- Whether every entry under which a request could be served demands sealing (R360). -/
def State.onlySealed (s : State) (r : RemoteRequest) : Bool :=
  (List.range (s.vd r.vd).fepCount.toNat).all fun p =>
    match s.endpoint r.vd p with
    | some e => !(epPacc e == r.source && epRvd e == r.sourceVd) || epSealReq e
    | none => true

/-- REMOTE_REQUEST: one that has come in plaintext on a station. -/
def execRemoteRequest (r : RemoteRequest) (s : State) : Res :=
  .next (if 16 ≤ r.station then s else if s.onlySealed r then s.answer r .refused else s.receive r)

/-- WC_AGE_FLUSH (R365). -/
def execWcAgeFlush (core : Nat) (entry : Nat) (s : State) : Res := .next (s.sendEntries core fun e => e.id == entry)

/-! Stations (R357). -/

/-- Sends an outstanding request, as it was made, on the station that now serves it; while none is up, or the request may travel only
sealed and the channel is not, it stays unsent. -/
def State.resend (s : State) (r : RemoteOut) : State :=
  let n := s.stationFor r.addr r.peer
  let r := { r with
    station := n
    sent := false }
  ({ s with remote := s.remote.map fun (x : RemoteOut) => if x.id == r.id then r else x } : State).sendOut r

/-- Whether an outstanding request is still to be sent, or was sent on a station that is not up. -/
def State.toSend (s : State) (r : RemoteOut) : Bool :=
  r.station != 16 && (!r.sent || (s.station r.station).state != .up) && (match r.use with
    | .failed _ _ _ _ _ => false
    | _ => true)

/-- Sends what can be sent by now, oldest first. -/
def State.resendAll (s : State) : State := (s.remote.filter s.toSend).foldl State.resend s

/-- STATION_STATE_CHANGE: the channels of a station that leaves the up state carry nothing more; its requests go to the station that
replaces it, or wait for one to come up. -/
def execStationStateChange (n : Nat) (state : StationState) (s : State) : Res :=
  if 16 ≤ n then .next s
  else
    .next (s.updStation n fun x => { x with
      state := state
      channels := if state == .up then x.channels else [] }).resendAll

/-! Sealed channels (R367, R369, R370). -/

/-- CHANNEL_SEAL (R367): new keys are in place at both ends, and requests that waited for them go; establishment waits for a security
core that is not up (19 R432). -/
def execChannelSeal (station peer : Nat) (s : State) : Res :=
  if !s.pf.fabSeal || (s.station station).state != .up || !s.secUp then .next s
  else .next (s.setChannel station peer { Channel.start with established := true }).resendAll

/-- Sends flits again, byte for byte (R369). -/
def State.resendFlits (s : State) (n peer : Nat) (p : SentFlit → Bool) : State :=
  let c := s.channel n peer
  let again := c.unacked.filter p
  let c := { c with unacked := c.unacked.map fun f => if p f then { f with sentAt := s.clk } else f }
  let s := (s.setChannel n peer c).updStation n fun x => { x with resent := x.resent + BitVec.ofNat 8 again.length }
  again.foldl (fun s f => s.send (.flit n peer { f with sentAt := s.clk })) s

/-- Applies an ACK (R369): flits below B or with their bit set are acknowledged; a flit whose bit is clear below a set one is
resent. The acknowledgment of a MARKER ends the switch. -/
def State.applyAck (s : State) (n peer base : Nat) (m : BitVec 64) : State :=
  let c := s.channel n peer
  let acked (q : Nat) : Bool := decide (q < base) || (decide (q < base + 64) && m.getLsbD (q - base))
  let top := if m == 0 then 0 else base + m.toNat.log2
  let left := c.unacked.filter fun f => !acked f.seq
  let switched := c.switchAt.any fun k => !left.any fun f => f.seq + 1 == k && f.body == .marker k
  let c := { c with
    unacked := left
    switchAt := if switched then none else c.switchAt
    sendGen := if switched then c.sendGen + 1 else c.sendGen
    sealed := if switched then 0 else c.sealed }
  ((s.setChannel n peer c).resendFlits n peer fun f => decide (base ≤ f.seq) && decide (f.seq < top)).flushChannel n peer

/-- The bits of an ACK: B is the SEQ to deliver next, down to a multiple of 16. -/
def Channel.ackBits (c : Channel) : Nat × BitVec 64 :=
  let b := c.recvSeq / 16 * 16
  (b, maskOf fun i => decide (b + i < c.recvSeq) || (Table.look c.held (b + i)).isSome)

/-- Sends an ACK (R370), unless the key that seals it has reached its limit (R369). -/
def State.sendAck (s : State) (n peer : Nat) : State :=
  let c := s.channel n peer
  let (b, m) := c.ackBits
  if !c.mayUseKey (.ack b m) then s
  else
    let s := s.setChannel n peer { c with
      unreported := 0
      delivered := false
      ackSeq := c.ackSeq + 1
      sealed := c.sealed + 1 }
    s.send (.flit n peer ⟨2 ^ 63 + c.ackSeq, c.sendGen % 2 == 1, .ack b m, s.clk⟩)

/-- Every request waiting on a channel takes PERMISSION when the channel fails (R370). -/
def State.failChannel (s : State) (n peer : Nat) : State :=
  let s := s.setChannel n peer Channel.start
  (s.remote.filter fun r => r.station == n && r.peer == peer).foldl (fun s r => s.answered r .refused) s

/-- A flit that fails: it is discarded and counted; the sixteenth failure of one SEQ in a row fails the channel. -/
def State.flitFails (s : State) (n peer seq : Nat) : State :=
  let c := s.channel n peer
  let k := Table.get 0 c.fails seq + 1
  let s := s.updStation n fun x => { x with authFail := if x.authFail == 0xFFFF then 0xFFFF else x.authFail + 1 }
  if 16 ≤ k then s.failChannel n peer else s.setChannel n peer { s.channel n peer with fails := Table.put seq k c.fails }

/-- Whether GEN and SEQ agree with the last N delivered, or held (R370). -/
def Channel.genOk (c : Channel) (f : Flit) : Bool :=
  let held := c.held.findSome? fun e => match e.2 with
    | .marker n => some n
    | _ => none
  let n := c.recvN <|> held
  let next := f.gen != (c.recvGen % 2 == 1)
  match n with
  | some n => if next then decide (n ≤ f.seq) else decide (f.seq < n)
  | none => !next

/-- Hands delivered content of a peer to the transaction layer. -/
def State.deliver (s : State) (station peer : Nat) (c : FlitContent) : State :=
  match c with
  | .request r => s.receive { r with
      station := station
      source := peer }
  | .reply tag y =>
    match s.remote.find? fun r => r.id == tag && r.station == station && r.peer == peer && r.sent with
    | some r => s.answered r y
    | none => s
  | .counter dest note => s.takeNote station peer dest note
  | .push dest step cells => s.takePush station peer dest step cells

/-- Delivers what is held, in SEQ order. -/
def State.deliverHeld (s : State) (n peer : Nat) : Nat → State
  | 0 => s
  | fuel + 1 =>
    let c := s.channel n peer
    match Table.look c.held c.recvSeq with
    | none => s
    | some b =>
      let mark := match b with
        | .marker k => some k
        | _ => c.recvN
      let seq := c.recvSeq + 1
      let retire := mark.any fun k => decide (k ≤ seq)
      let s := s.setChannel n peer { c with
        recvSeq := seq
        held := Table.drop c.recvSeq c.held
        recvN := if retire then none else mark
        recvGen := if retire then c.recvGen + 1 else c.recvGen
        delivered := true }
      let s := match b with
        | .data x => s.deliver n peer x
        | _ => s
      s.deliverHeld n peer fuel

/-- SEALED_FLIT_RECEIVE (R370). -/
def execSealedFlitReceive (station peer : Nat) (f : Flit) (s : State) : Res :=
  let c := s.channel station peer
  if !c.established then .next s
  else
    match f.body with
    | .ack b m => if f.genuine && 2 ^ 63 ≤ f.seq then .next (s.applyAck station peer b m) else .next (s.flitFails station peer f.seq)
    | body =>
      if f.seq < c.recvSeq || c.recvSeq + 64 ≤ f.seq || (Table.look c.held f.seq).isSome then .next s
      else if !f.genuine || !c.genOk f then .next (s.flitFails station peer f.seq)
      else
        let s := s.setChannel station peer { c with
          held := Table.put f.seq body c.held
          fails := Table.drop f.seq c.fails
          unreported := c.unreported + 1 }
        let s := s.deliverHeld station peer 64
        .next (if 16 ≤ (s.channel station peer).unreported then s.sendAck station peer else s)

/-- SEALED_ACK_TIMER (R370). -/
def execSealedAckTimer (station peer : Nat) (s : State) : Res :=
  let c := s.channel station peer
  if c.established && (!c.held.isEmpty || c.delivered) then .next (s.sendAck station peer) else .next s

/-- FLIT_RESEND_TIMEOUT (R369): the flit that was last sent longest ago. -/
def execFlitResendTimeout (station peer : Nat) (s : State) : Res :=
  match (s.channel station peer).unacked with
  | [] => .next s
  | f :: fs =>
    let old := fs.foldl (fun (x : SentFlit) y => if y.sentAt.toNat < x.sentAt.toNat then y else x) f
    .next (s.resendFlits station peer fun g => g.seq == old.seq)

/-- KEY_ROLLOVER (R369): the next key is loaded at both ends, and a MARKER is sent under the current one with N = its SEQ + 1. -/
def execKeyRollover (station peer : Nat) (s : State) : Res :=
  let c := s.channel station peer
  let pending := c.switchAt.isSome || c.waiting.any fun b => match b with
    | .marker _ => true
    | _ => false
  if !c.established || pending || !c.open_ (.marker (c.sendSeq + 1)) then .next s
  else .next ((s.setChannel station peer { c with waiting := .marker (c.sendSeq + 1) :: c.waiting }).flushChannel station peer)

end Sys2Proof.Machine
end

