-- ==== Sys2Proof/Machine/VSfu.lean ====
section
/-! DEFINITION. Special functions, VSFU (08 R214-R217). -/

namespace Sys2Proof.Machine

/-- The function of a VSFU code; FSQRT has none (08 R214). -/
def specialFn (fn : Nat) (aux : BitVec 6) : SpecialFn :=
  match fn with
  | 0 => .rcp
  | 1 => .rsq
  | 3 => .exp2 (aux.getLsbD 0)
  | 4 => .log2
  | 5 => .sin
  | 6 => .cos
  | _ => .tanh

/-- One element of a bounded function (08 R214): computed in f32 from its exact value and converted under rne. -/
def sfuElem (fn : Nat) (o : GV) (a : Nat) : Nat × FpFlags :=
  let f := (formatOf o)
  match f.decode a with
  | .nan s => (f.defaultNan, fpWhen s fpNV)
  | v =>
    let wide := (fmtF32.round .rne false 0 v.exact).1
    let (r, g) := (specialFn fn o.aux).apply (2 * fn + fieldN o.aux 0 0) wide
    if o.dtype == .f32 then (r, g)
    else
      let (c, h) := f.round .rne false 0 (fmtF32.decode r).exact
      (c, g ||| h)

/-- FRCP, FRSQ, FEXP2, FLOG2, FSIN, FCOS and FTANH (08 R214). -/
def sfuOp (len fn : Nat) (o : GV) (s : State) : Res :=
  laneV ⟨len, 0x0E, fn, .v o⟩ o s fun w _ t =>
    let ew := (Ty.elems o.dtype).1
    w.floatLane o t fun i _ => sfuElem fn o (elemAt (w.src o.dtype o.va t) ew i).toNat

/-- FSQRT (08 R214, R216): correctly rounded. -/
def fsqrtOp (len : Nat) (o : GV) (s : State) : Res :=
  laneV ⟨len, 0x0E, 2, .v o⟩ o s fun w _ t =>
    let ew := (Ty.elems o.dtype).1
    w.floatLane o t fun i u =>
      (formatOf o).round o.rnd false u (sqrtExact ((formatOf o).decode (elemAt (w.src o.dtype o.va t) ew i).toNat))

/-- FRCP (R215). -/
def execFrcp (o : GV) (s : State) : Res := sfuOp 8 0 o s

/-- FRSQ (R215). -/
def execFrsq (o : GV) (s : State) : Res := sfuOp 8 1 o s

/-- FSQRT (R214). -/
def execFsqrt (o : GV) (s : State) : Res := fsqrtOp 8 o s

/-- FEXP2 (R215). -/
def execFexp2 (o : GV) (s : State) : Res := sfuOp 8 3 o s

/-- FLOG2 (R215). -/
def execFlog2 (o : GV) (s : State) : Res := sfuOp 8 4 o s

/-- FSIN (R215). -/
def execFsin (o : GV) (s : State) : Res := sfuOp 8 5 o s

/-- FCOS (R215). -/
def execFcos (o : GV) (s : State) : Res := sfuOp 8 6 o s

/-- FTANH (R215). -/
def execFtanh (o : GV) (s : State) : Res := sfuOp 8 7 o s

end Sys2Proof.Machine
end

