-- ==== Sys2Proof/Machine/Fused.lean ====
section
/-! DEFINITION. The fused softmax operation (06 R170, R171). -/

namespace Sys2Proof.Machine

/-- The trap that one of the four raised in `s'`, taken at I1's PC in `s`, where nothing is written (R171). -/
def State.fusedTrap (s s' : State) : State :=
  match s.cur with
  | .warp g w =>
    match (s'.group g).doomed, (s'.warp g w).held.getLast? with
    | some d, _ => s.updGroup g fun x => { x with doomed := some d }
    | none, some t =>
      let t := { t with
        pc := s.pc
        replay := none }
      (s.haltBroadcast g).updWarp g w fun x => { x with held := x.held ++ [t] }
    | none, none => s
  | _ => s

/-- The executing warp with its head alone in the frontier: nothing comes between the four. -/
def State.headAlone (s : State) : State :=
  match s.cur with
  | .warp g w => s.updWarp g w fun x => { x with frontier := x.frontier.take 1 }
  | _ => s

/-- The other entries of the frontier of `s0` stand again. -/
def State.headJoins (s s0 : State) : State :=
  match s.cur with
  | .warp g w => s.updWarp g w fun x => { x with frontier := frontierOf ((s0.warp g w).frontier.drop 1 ++ x.frontier) }
  | _ => s

/-- The four in order, until one does not reach the next. -/
def State.runFused (s0 : State) : List ((State → Res) × Nat) → State → Res
  | [], s => .next (s.headJoins s0)
  | (f, n) :: rest, s =>
    match f s with
    | .next s' => if s'.pc == s.nextPc n then s0.runFused rest s' else .next (s0.fusedTrap s')
    | r => r

/-- FUSED_SOFTMAX: the results of the four in order, as one operation. -/
def execFusedSoftmax (o : FusedOp) (s : State) : Res :=
  match (o.forms.filterMap s.decodeCause).head? with
  | some c => .next (s.trap c)
  | none => s.runFused [(vreduceOp o.n1 o.i1, o.n1), (vfltOp o.n2 1 o.i2, o.n2), (sfuOp o.n3 3 o.i3, o.n3),
      (vreduceOp o.n4 o.i4, o.n4)] s.headAlone

end Sys2Proof.Machine
end

