-- ==== Sys2Proof/Machine/Power.lean ====
section
/-! DEFINITION. Package reset and cold boot, the banked state, the power cap, wear counters, measurement and the life cycle
(01 R16-R36). -/

namespace Sys2Proof.Machine

/-! Package reset and the life cycle (R17, R34, R35). -/

/-- A package reset: every register, memory and key at its reset value but for host memory, the fuses, what NVM holds and what the
outside supplies. -/
def State.packageReset (s : State) : State :=
  let hostByte (k : Nat) : Bool := k / 2 ^ 64 == Space.tag .host
  { State.reset with
    inputs := s.inputs
    free := s.free
    l1Choice := s.l1Choice
    uid := s.uid
    sent := s.sent
    mem := s.mem.filter fun e => hostByte e.1
    poison := s.poison.filter fun e => hostByte e.1
    power := { Power.start with
      training := s.power.training
      keyDigest := s.power.keyDigest
      serial := s.power.serial
      plans := s.power.plans
      withheld := s.power.withheld
      thcyc := s.power.thcyc
      ponhrs := s.power.ponhrs
      bankcnt := s.power.bankcnt
      hbmesc := s.power.hbmesc
      thMin := s.power.thMin
      thMax := s.power.thMax
      lcState := s.power.lcState
      refurb := s.power.refurb } }

/-- PACKAGE_RESET (R17). -/
def execPackageReset (s : State) : Res := .next s.packageReset

/-- Whether R34 permits a change of the life-cycle state. -/
def Power.permits (p : Power) (target : BitVec 2) : Bool :=
  target == 3 || (p.lcState == 0 && target == 1) || (p.lcState == 1 && target == 2) ||
  (p.lcState == 2 && target == 1 && decide (p.refurb < 3))

/-- Whether a life-cycle request is signed by the key of R25 and names the module's serial number (R34). The signature covers
the state asked for and the serial number (log 77). -/
def State.authentic (s : State) (r : LifeCycleRequest) : Bool :=
  r.serial == s.power.serial && s.verifies ⟨BitVec.ofNat 8 r.target.toNat :: r.serial, r.key, r.signature⟩

/-- LIFE_CYCLE_CHANGE (R34): training records are erased, the fuses blown and the package reset. It waits for a security core
that restarts, and one that stays halted refuses it (19 R432). -/
def execLifeCycleChange (r : LifeCycleRequest) (s : State) : Res :=
  let p := s.power
  if !s.secUp || !s.authentic r || !p.permits r.target then .next s
  else
    let count := if p.lcState == 2 && r.target == 1 then p.refurb + 1 else p.refurb
    .next { s with power := { p with
      training := []
      lcState := r.target
      refurb := count } : State }.packageReset

/-! Measurement (R26, R27). -/

/-- Extends a measurement register. -/
def State.extend (s : State) (n : Nat) (digest : BitVec 512) : State :=
  { s with power := { s.power with meas := listSet s.power.meas n (extended (listGet 0 s.power.meas n) digest) } }

/-- MEASUREMENT_REQUEST: only MEAS8 to MEAS15 belong to the host driver. -/
def execMeasurementRequest (n : BitVec 4) (digest : BitVec 512) (s : State) : Res :=
  .next (if decide (8 ≤ n.toNat) && s.secUp then s.extend n.toNat digest else s)

/-- The answer to an SPDM request: measurement block n carries MEAS(n - 1). What SPDM 1.3 puts into the other answers, and the
signatures of CHALLENGE and GET_MEASUREMENTS over what they carry, are its own (log 29). -/
def State.spdmReply (s : State) (r : SpdmRequest) : SpdmReply :=
  let signed (bs : List Byte) : SpdmReply := .response bs (some (Config.spdmSign bs))
  if s.pf.secDead then .unspecified
  else if !s.secUp then .busy
  else
    match r with
    | .getVersion => .response (Config.spdmBody 0) none
    | .getCapabilities => .response (Config.spdmBody 1) none
    | .negotiateAlgorithms => .response (Config.spdmBody 2) none
    | .getDigests => .response (Config.spdmBody 3) none
    | .getCertificate => .response (Config.spdmBody 4) none
    | .challenge => signed (Config.spdmBody 5)
    | .getMeasurements n => if decide (1 ≤ n) && decide (n ≤ 16) then signed (bytes64 (listGet 0 s.power.meas (n - 1))) else .unsupported
    | .other => .unsupported

/-- SPDM_REQUEST. -/
def execSpdmRequest (r : SpdmRequest) (s : State) : Res := .next (s.send (.spdm (s.spdmReply r)))

/-! Cold boot (R22-R24, R31). -/

/-- A counter of R32. -/
def countUp (n : W32) : W32 := if n == 0xFFFFFFFF#32 then n else n + 1

/-- A margin plan takes effect and is written to the ring of 32 (R31). -/
def Power.plan (p : Power) (m : MarginPlan) : Power :=
  let ring := p.plans ++ [(p.ponhrs, m)]
  { p with
    plans := ring.drop (ring.length - 32)
    withheld := m.withheld }

/-- The wipe of phase 0x06: all HBM and SRAM but the instruction SRAMs that phase 0x02 loaded. -/
def State.bootWipe (s : State) : State :=
  let kept (k : Nat) : Bool := k / 2 ^ 64 == Space.tag .host || ((List.range 7).any fun c => k / 2 ^ 64 == Space.tag (.inst c))
  { s with
    mem := s.mem.filter fun e => kept e.1
    poison := s.poison.filter fun e => kept e.1 }

/-- A margin plan from what the monitors find (R31): a cluster takes the fewest steps that give each of its cores its minimum
margin, and a core that needs more than 6 is withheld. A withheld core does not raise the offset of its cluster (DESIGN CHOICE,
log 80). -/
def marginPlan (needs : List (Nat × Nat)) : MarginPlan :=
  let cores := needs.filter fun e => decide (e.1 < 320)
  let offset (k : Nat) : Nat := (cores.filter fun e => decide (e.2 ≤ 6) && clusterKey e.1 == k).foldl (fun n e => max n e.2) 0
  ⟨(List.range 40).map offset, ((cores.filter fun e => decide (6 < e.2)).map (·.1)).eraseDups⟩

/-- The digest of a training record's contents (R24; log 78). -/
def recordDigest (identity : List Byte) (temp : Int) (values : List Byte) : List Byte :=
  shake256 (identity ++ leB 2 (BitVec.ofInt 16 temp).toNat ++ values) 64

/-- Whether a stored record is valid for an interface as found (R24). -/
def TrainingRecord.valid (r : TrainingRecord) (found : List Byte) (temp : Int) : Bool :=
  r.digest == recordDigest r.identity r.temp r.values && r.identity == found && decide (temp - r.temp ≤ 30) && decide (r.temp - temp ≤ 30)

/-- The interfaces that a phase trains (R22); the two links of R1's compute dies (log 78). -/
def phaseInterfaces (n : Nat) : List Interface :=
  if n == 3 then (List.range 8).map .stack
  else (List.range 2).map Interface.link ++ (List.range 16).map Interface.station ++ (List.range 8).map Interface.port

/-- The values with which an interface's stored record trains it, if it is valid and passes its quick check (R24). -/
def Power.stored (p : Power) (temp : Int) (r : TrainingRun) : Option (List Byte) :=
  match p.training.find? fun e => e.1 == r.iface with
  | some (_, x) => if TrainingRecord.valid x r.found temp && r.quick then some x.values else none
  | none => none

/-- Trains an interface: from its record, or fully alone, its record being rewritten (R24). -/
def Power.train (temp : Int) (p : Power) (r : TrainingRun) : Power :=
  let use (p : Power) (v : List Byte) : Power := { p with inUse := p.inUse.filter (fun e => e.1 != r.iface) ++ [(r.iface, v)] }
  match p.stored temp r, r.full with
  | some v, _ => use p v
  | none, some v => use { p with
      retrained := true
      training := p.training.filter (fun e => e.1 != r.iface) ++ [(r.iface, ⟨r.found, temp, v, recordDigest r.found temp v⟩)] } v
  | none, none => p

/-- Whether an interface trains at all (R23). -/
def Power.trains (p : Power) (temp : Int) (r : TrainingRun) : Bool := (p.stored temp r).isSome || r.full.isSome

/-- The digest that MEAS5 takes: of the fuses and the life-cycle state (R26; log 77). -/
def Power.fuseDigest (p : Power) : BitVec 512 :=
  digestOf (p.keyDigest ++ p.serial ++ Config.fuseBytes ++ [p.lcState.setWidth 8, p.refurb])

/-- The Swearos images go to both cores of their pairs, and the security core runs its firmware. -/
def State.loadSwearos (s : State) (security scheduler lifecycle fault : SignedImage) : State :=
  let s := (s.loadImage 6 security.bytes).updCtl 6 CtlCore.restart
  ((List.range 6).foldl (fun (s : State) c => s.loadImage c (listGet [] [scheduler.bytes, lifecycle.bytes, fault.bytes] (c / 2))) s)

/-- The control cluster starts, and STATE becomes ACTIVE, or LOCKED for a decommissioned module. -/
def State.startCluster (s : State) : State :=
  if s.power.lcState == 3 then { s with power := { s.power with state := 5 } }
  else
    let s := (List.range 6).foldl (fun (s : State) c => s.updCtl c CtlCore.restart) s
    { s with power := { s.power with state := 1 } }

/-- The work of phase `n`, or the code with which it fails (R22-R26, R31); none when the step is not of the phase. -/
def State.phaseDone (s : State) (n : Nat) (b : BootStep) : Option (Except (BitVec 8) State) :=
  match n, b with
  | 0, .advance => some (.ok s)
  | 1, .firstStage i =>
    some (if s.verifies i then .ok ((s.extend 0 (digestOf i.bytes)).extend 5 s.power.fuseDigest) else .error 0xF1)
  | 2, .swearos security a b c =>
    let images := [security, a, b, c]
    some (if images.all s.verifies then
      .ok (((List.range 4).foldl (fun (s : State) i => s.extend (i + 1) (digestOf (listGet security images i).bytes)) s).loadSwearos
        security a b c)
    else .error 0xF2)
  | 3, .train temp runs | 4, .train temp runs =>
    if runs.map (·.iface) != phaseInterfaces n then none
    else if runs.all (s.power.trains temp) then
      let p := runs.foldl (Power.train temp) s.power
      some (.ok { s with power := { p with trained := n == 4 && !p.retrained } })
    else some (.error 0xF3)
  | 5, .margins needs => some (.ok { s with power := s.power.plan (marginPlan needs) })
  | 6, .advance => some (.ok s.bootWipe)
  | 7, .advance => some (.ok s.startCluster)
  | _, _ => none

/-- BOOT_PHASE_COMPLETE (R22, R23): PHASE goes from 0x00 at reset through the phases to 0x08; a phase that fails sets PHASE to its
code, and the module stays in BOOTING. -/
def execBootPhaseComplete (b : BootStep) (s : State) : Res :=
  let n := s.power.phase.toNat
  if s.power.state != 0 || 8 ≤ n then .next s
  else
    match s.phaseDone n b with
    | none => .next s
    | some (.error code) => .next { s with power := { s.power with phase := code } }
    | some (.ok t) => .next { t with power := { t.power with phase := BitVec.ofNat 8 (n + 1) } }

/-- PCIE_CONFIG_REQUEST (R23): Request Retry Status until phase 0x02 ends. -/
def execPcieConfigRequest (s : State) : Res :=
  let n := s.power.phase.toNat
  .next (s.send (.config (s.power.state == 0 && (decide (n ≤ 2) || n == 0xF1 || n == 0xF2))))

/-! The banked state (R17, R28-R30). -/

/-- What entry waits for before its step 1: scoped resets, accepted commands and wipes (R28, R35). -/
def State.entryWaits (s : State) : Bool :=
  s.pf.busy.isSome || s.vds.any fun e => e.2.reset.isSome || e.2.state == 1 || e.2.state == 5 || e.2.state == 6

/-- Steps 1 and 2: checkpoints are abandoned, and every workgroup is pre-empted as at a slice end (16 R381, R382): its slice
handler runs, if it has one, after the trap handlers that run already. -/
def State.stopForEntry (s : State) : State :=
  let s := (s.vds.map (·.1)).foldl State.abandonCk s
  let s := (s.cores.map (·.1)).foldl (fun s c => s.sendEntries c fun _ => true) s
  (s.groups.map (·.1)).foldl (fun s g =>
    if (s.group g).residence != .resident || (s.group g).doomed.isSome then s else (s.charge g).preempt g) s

/-- A request to enter the banked state (R17, R28). -/
def State.enterBanked (s : State) : State :=
  if s.power.state != 1 then s
  else
    let s : State := { s with power := { s.power with
      state := 2
      exitRecorded := false } }
    if s.entryWaits then s else s.stopForEntry

/-- ENTER_BANKED. -/
def execEnterBanked (s : State) : Res := .next s.enterBanked

/-- A request to leave it (R17, R30). -/
def State.leaveBanked (s : State) : State :=
  let p := s.power
  if p.state == 3 then { s with power := { p with state := 4 } }
  else if p.state == 2 then { s with power := { p with exitRecorded := true } } else s

/-- LEAVE_BANKED. -/
def execLeaveBanked (s : State) : Res := .next s.leaveBanked

/-- What lies outside the always-on domain is switched off: control cores, links and the copies in L1 (R28 step 7, R29). -/
def State.switchOff (s : State) : State :=
  let s := (List.range 6).foldl (fun (s : State) c => s.updCtl c fun x => { x with halted := true }) s
  { s with
    power := { s.power with upAtEntry := (s.stations.filter fun e => e.2.state == .up).map (·.1) }
    cores := s.cores.map fun e => (e.1, { e.2 with
      l1 := []
      gated := [] })
    stations := s.stations.map fun e => (e.1, { e.2 with
      state := .down
      channels := [] }) }

/-- BANKED_ENTRY_COMPLETE (R28): once every image is saved and no request to another device is outstanding. -/
def execBankedEntryComplete (s : State) : Res :=
  if s.power.state != 2 || s.entryWaits then .next s
  else
    let s := s.stopForEntry
    let running := s.groups.any fun e => e.2.residence == .resident
    if running || !s.remote.isEmpty then .next s
    else
      let s := s.switchOff
      .next { s with power := { s.power with
        state := if s.power.exitRecorded then 4 else 3
        exitRecorded := false
        bankcnt := countUp s.power.bankcnt } }

/-- Retraining from the values held at entry brings the stations that were up at entry up again; their channels are established
anew (R30 step 1; log 79). -/
def State.retrain (s : State) : State :=
  let up := s.power.upAtEntry.filter fun n => s.power.inUse.any fun e => e.1 == .station n
  up.foldl (fun (s : State) n => s.setStation n { s.station n with state := .up }) s

/-- BANKED_EXIT_COMPLETE (R30): interfaces are retrained from the values held, margins are planned again, and the control cores
start with their journals as they were; the saved workgroups are placed again by the decisions that follow. -/
def execBankedExitComplete (needs : List (Nat × Nat)) (s : State) : Res :=
  if s.power.state != 4 then .next s
  else
    let s := (List.range 6).foldl (fun (s : State) c =>
      if (s.ctlCore c).loaded && !(s.pair (c / 2)).lost then s.updCtl c CtlCore.restart else s) s.retrain
    .next { s with power := { s.power.plan (marginPlan needs) with state := 1 } }

/-! The power cap and wear counters (R21, R32, R33). -/

/-- POWER_WINDOW_END (R21). -/
def execPowerWindowEnd (watts : Nat) (s : State) : Res :=
  .next { s with power := { s.power with capping := s.power.capEn && decide (s.power.capW.toNat * 10 < watts) } }

/-- The tracking of thermal cycles (R33). -/
def Power.sample (p : Power) (deg : Int) : Power :=
  match p.thMin, p.thMax with
  | none, _ => { p with thMin := some deg }
  | some lo, none =>
    if lo + 40 ≤ deg then { p with thMax := some deg }
    else { p with thMin := some (min lo deg) }
  | some _, some hi =>
    if deg ≤ hi - 40 then { p with
      thcyc := countUp p.thcyc
      thMin := some deg
      thMax := none }
    else { p with thMax := some (max hi deg) }

/-- THERMAL_SAMPLE (R33). -/
def execThermalSample (deg : Int) (s : State) : Res := .next { s with power := s.power.sample deg }

/-- POWER_ON_HOUR (R33). -/
def execPowerOnHour (s : State) : Res := .next { s with power := { s.power with ponhrs := countUp s.power.ponhrs } }

/-- HBM_REFRESH_RAISE (R33). -/
def execHbmRefreshRaise (s : State) : Res := .next { s with power := { s.power with hbmesc := countUp s.power.hbmesc } }

end Sys2Proof.Machine
end

