-- ==== Sys2Proof/Machine/Registers.lean ====
section
/-! DEFINITION. Writes to the registers of the physical and the virtual functions by their offset (00 R8-R12 and the register
maps of the chapters). -/

namespace Sys2Proof.Machine

/-! Registers of the physical function with a row of their own. -/

/-- Whether every VD is FREE. -/
def State.allFree (s : State) : Bool := s.vds.all fun e => e.2.state == 0

/-- A write of PARTCFG (03 R80). -/
def State.writePartcfg (s : State) (value : W32) : State :=
  let mode := value.getLsbD 0
  let cleared := s.pf.partRefused && !value.getLsbD 1
  if mode == s.pf.partMode || s.allFree then { s with pf := { s.pf with
    partMode := mode
    partRefused := cleared } }
  else { s with pf := { s.pf with partRefused := true } }

/-- PARTCFG_WRITE. -/
def execPartcfgWrite (value : BitVec 32) (s : State) : Res := .next (s.writePartcfg value)

/-- A write of FWCTLd (03 R81). -/
def State.writeFwctl (s : State) (d : Nat) (value : W32) : State :=
  if 2 ≤ d then s
  else
    let p := { s.pf with fwIrq := listSet s.pf.fwIrq d (value.getLsbD 1) }
    if value.getLsbD 2 then { s with pf := { p with
      fwCount := listSet p.fwCount d 0
      fwLast := listSet p.fwLast d 0 } }
    else { s with pf := p }

/-- FWLOG_CLEAR: a write of FWCTLd with CLR = 1. -/
def execFwlogClear (die : Nat) (value : BitVec 32) (s : State) : Res := .next (s.writeFwctl die (value ||| 4))

/-- A write of DSCARVEd (09 R233). -/
def State.writeDscarve (s : State) (d : Nat) (value : W32) : State :=
  if 2 ≤ d then s
  else
    let mib : BitVec 9 := BitVec.ofNat 9 (min 256 (fieldN value 8 0))
    let cleared := listGet false s.pf.dsRefused d && !value.getLsbD 9
    if mib == listGet 0 s.pf.dsMib d || s.allFree then { s with pf := { s.pf with
      dsMib := listSet s.pf.dsMib d mib
      dsRefused := listSet s.pf.dsRefused d cleared } }
    else { s with pf := { s.pf with dsRefused := listSet s.pf.dsRefused d true } }

/-- DSCARVE_WRITE. -/
def execDscarveWrite (die : Nat) (value : BitVec 32) (s : State) : Res := .next (s.writeDscarve die value)

/-- A write of FABCFG (15 R358). -/
def State.writeFabcfg (s : State) (value : W32) : State :=
  { s with pf := { s.pf with
    fabAge := BitVec.ofNat 8 (fieldN value 23 16)
    fabSeal := value.getLsbD 12
    fabWc := value.getLsbD 11
    fabAcc := if s.allFree then BitVec.ofNat 10 (fieldN value 9 0) else s.pf.fabAcc } }

/-- FABCFG_WRITE. -/
def execFabcfgWrite (value : BitVec 32) (s : State) : Res := .next (s.writeFabcfg value)

/-! Other registers of the physical function. -/

/-- A write of PWRCTL (01 R17, R18). -/
def State.writePwrctl (s : State) (value : W32) : State :=
  let s : State := { s with power := { s.power with capEn := value.getLsbD 2 } }
  match fieldN value 1 0 with
  | 1 => s.enterBanked
  | 2 => s.leaveBanked
  | _ => s

/-- A write of PWRCAP (01 R20). -/
def State.writePwrcap (s : State) (value : W32) : State :=
  { s with power := { s.power with capW := BitVec.ofNat 8 (min 180 (max 60 (fieldN value 7 0))) } }

/-- A write of CCSTAT: the TAKEN bits (19 R433). -/
def State.writeCcstat (s : State) (value : W32) : State :=
  [0, 1, 2].foldl (fun (s : State) p => if value.getLsbD (4 * p + 2) then s.updPair p fun x => { x with taken := false } else s) s

/-- A write of FEPALLOCv (15 R361). -/
def State.writeFepalloc (s : State) (vd : Nat) (value : W32) : State :=
  s.updVd vd fun v => { v with
    fepFirst := BitVec.ofNat 15 (fieldN value 14 0)
    fepCount := BitVec.ofNat 11 (min 1023 (fieldN value 26 16)) }

/-- The bits of `old` that `mask` selects take those of `value`. -/
def mergeBits (old value mask : Word) : Word := (old &&& ~~~mask) ||| (value &&& mask)

/-- The fields of an endpoint entry (15 R360) and of a ring register of a port (15 R372). -/
def endpointMask : Word := 0xC00001FF01FF03FF
def ringMask : Word := 0x000FFFFFFFFFF01F

/-- The port of an offset in the port blocks, and the offset in its block (15 R371). -/
def portOf (off : Nat) : Nat × Nat := (off / 0x40 % 0x40, off % 0x40)
def inPorts (off : Nat) : Bool := decide (0x3000 ≤ off) && decide (off < 0x3200)
def inEndpoints (off : Nat) : Bool := decide (0x400000 ≤ off) && decide (off < 0x440000)

/-- Whether a 64-bit register of the physical function lies at an offset (R12). -/
def pfWide (off : Nat) : Bool :=
  (inPorts off && ((portOf off).2 == 8 || (portOf off).2 == 16)) || inEndpoints off

/-- A write to a 64-bit register of the physical function; `mask` selects the half, or both halves, that it changes. -/
def State.writePf64 (s : State) (off : Nat) (value mask : Word) : State :=
  if inEndpoints off then
    let i := off % 0x400000 / 8
    { s with endpoints := Table.put i (mergeBits (Table.get 0 s.endpoints i) value mask &&& endpointMask) s.endpoints }
  else
    let (n, o) := portOf off
    let p := s.port n
    if p.enabled then s
    else if o == 8 then s.setPort n { p with txRing := mergeBits p.txRing value mask &&& ringMask }
    else s.setPort n { p with rxRing := mergeBits p.rxRing value mask &&& ringMask }

/-- A write to a 32-bit register of the physical function. -/
def State.writePf32 (s : State) (off : Nat) (value : W32) : State :=
  if decide (0x1000 ≤ off) && decide (off < 0x1040) then
    { s with pf := { s.pf with cmdBuf := listSet s.pf.cmdBuf (off % 0x1000 / 4) value } }
  else if inPorts off then
    let (n, o) := portOf off
    if o == 0 then s.writePcfg n value
    else if o == 0x18 then s.setPort n { s.port n with txTail := value }
    else if o == 0x1C then s.setPort n { s.port n with rxTail := value }
    else s
  else if decide (0x300000 ≤ off) && decide (off < 0x300800) then s.writeFepalloc (off % 0x100000 / 4) value
  else
    match off with
    | 0x0000 => s.writePwrctl value
    | 0x0008 => s.writePwrcap value
    | 0x0010 => s.logEvent 0x17 0
    | 0x1040 => if value.getLsbD 0 then s.writeGo else s
    | 0x1044 => { s with pf := { s.pf with overrun := s.pf.overrun && !value.getLsbD 1 } }
    | 0x2000 => s.writeFwctl 0 value
    | 0x2010 => s.writeFwctl 1 value
    | 0x2020 => s.writePartcfg value
    | 0x2030 => { s with pf := { s.pf with
        fpIdle := BitVec.ofNat 8 (fieldN value 8 1)
        fpSwap := value.getLsbD 0 } }
    | 0x2040 => s.writeDscarve 0 value
    | 0x2044 => s.writeDscarve 1 value
    | 0x2100 => s.writeCcstat value
    | 0x2800 => s.writeFabcfg value
    | _ => s

/-! Registers of a virtual function. -/

/-- The words of an MSI-X table entry (02 R39). -/
def inMsix (off : Nat) : Bool := decide (0x50000 ≤ off) && decide (off < 0x50400)

/-- The local queue and the offset in its block, for the register blocks and for the kick pages (02 R39, R54). -/
def blockOf (off : Nat) : Nat × Nat := (off / 0x20 - 8, off % 0x20)
def inBlocks (off : Nat) : Bool := decide (0x100 ≤ off) && decide (off < 0x900)
def kickOf (off : Nat) : Nat × Nat := (off / 0x1000 - 16, off % 0x1000)
def inKicks (off : Nat) : Bool := decide (0x10000 ≤ off) && decide (off < 0x50000)

/-- Whether a 64-bit register of a virtual function lies at an offset (R12). -/
def vfWide (off : Nat) : Bool :=
  off == 0x080 || off == 0x098 || off == 0x0C0 || off == 0x0D0 || inMsix off ||
  (inBlocks off && ((blockOf off).2 == 0 || (blockOf off).2 == 8 || (blockOf off).2 == 0x18))

/-- A write to a queue's 64-bit register (02 R54, R55, R58). -/
def State.writeQueue64 (s : State) (q o : Nat) (value mask : Word) : State :=
  let x := s.queue q
  if x.enabled || x.state == 5 then s
  else if o == 0 then s.setQueue q { x with qbase := mergeBits x.qbase value mask &&& 0x000FFFFFFFFFFFC0#64 }
  else if o == 8 then s.setQueue q { x with cbase := mergeBits x.cbase value mask &&& 0x000FFFFFFFFFFFC0#64 }
  else s.setQueue q { x with qs1 := mergeBits x.qs1 value mask &&& 0x000FFFFFFFFFF000#64 }

/-- A write to a 64-bit register of a virtual function. FQRESP: the low half answers, with the ABORT that stands or comes with it
(12 R309). -/
def State.writeVf64 (s : State) (vd off : Nat) (value mask : Word) : State :=
  let v := s.vd vd
  if inBlocks off then
    let (q, o) := blockOf off
    if q < v.qcount then s.writeQueue64 (v.qfirst + q) o value mask else s
  else if inMsix off then
    let i := off % 0x10000 / 8
    (s.setVd vd { v with msix := Table.put i (mergeBits (Table.get (msixReset i) v.msix i) value mask) v.msix }).deliverMsix vd
  else
    match off with
    | 0x080 => if v.fqEn then s else s.setVd vd { v with fqBase := mergeBits v.fqBase value mask &&& 0x000FFFFFFFFFF000#64 }
    | 0x098 =>
      let abort := if mask.getLsbD 32 then value.getLsbD 32 else v.fqAbort
      if mask.getLsbD 0 then s.answerFault vd (value.setWidth 32) abort else s.storeAbort vd abort
    | 0x0C0 => s.writeAshbase vd (mergeBits v.ashBase value mask)
    | _ => s.setVd vd { v with ckDesc := mergeBits v.ckDesc value mask }

/-- A write of VDCTL (02 R51): the IRT entries are loaded from it (R73). -/
def State.writeVdctl (s : State) (vd : Nat) (value : W32) : State :=
  let s := (s.updVd vd fun v => { v with vdctl := value &&& 0x3F3FFF02#32 }).loadIrts vd
  if value.getLsbD 0 then s.startReset vd .request false 0 0 else s

/-- A write to a kick page (02 R60, R61). -/
def State.writeKickPage (s : State) (q o : Nat) (value : W32) : State :=
  match o with
  | 0x000 => s.kickQueue q value
  | 0x008 => s.writeKccons q value
  | 0x010 => s.updQueue q fun x => { x with
      cfgErr := x.cfgErr && !value.getLsbD 4
      hung := x.hung && !value.getLsbD 3 }
  | _ => s

/-- A write to a 32-bit register of a virtual function. -/
def State.writeVf32 (s : State) (vd off : Nat) (value : W32) : State :=
  let v := s.vd vd
  if inBlocks off then
    let (q, o) := blockOf off
    if v.qcount ≤ q then s
    else if o == 0x10 then s.writeQcfg (v.qfirst + q) value
    else if o == 0x14 then (s.updQueue (v.qfirst + q) fun x => { x with qcoal := value &&& 0xFFFF#32 }).loadIrts vd
    else s
  else if inKicks off then
    let (q, o) := kickOf off
    if q < v.qcount then s.writeKickPage (v.qfirst + q) o value else s
  else
    match off with
    | 0x004 => s.writeVdctl vd value
    | 0x00C => s.setVd vd { v with vdevt := v.vdevt &&& ~~~(value.setWidth 4) }
    | 0x010 => s.writeDscfg vd value
    | 0x088 => s.writeFqcfg vd value
    | 0x090 => s.writeFqcons vd value
    | 0x094 => s.setVd vd { v with
        fqRingErr := v.fqRingErr && !value.getLsbD 3
        fqCfgErr := v.fqCfgErr && !value.getLsbD 1
        fqAborted := v.fqAborted && !value.getLsbD 0 }
    | 0x0A0 => s.setVd vd { v with pgAhead := BitVec.ofNat 4 (fieldN value 7 4) }
    | 0x0B8 => s.setVd vd { v with
        wipe := value.getLsbD 8
        wdAct := BitVec.ofNat 2 (fieldN value 1 0) }
    | 0x0D8 => s.writeCkctl vd value []
    | 0x0DC => s.setVd vd { v with ckGen := value }
    | 0x0E0 => s.setVd vd { v with ckDone := v.ckDone && !value.getLsbD 2 }
    | _ => s

/-! The routing of a write (R12). -/

/-- A write by its width: one of 64 bits to two 32-bit registers changes both, the lower first (log 27). -/
def routeWrite (wide : Nat → Bool) (w64 : Nat → Word → Word → State → State) (w32 : Nat → W32 → State → State)
    (off : Nat) (value : Word) (bytes : Nat) (s : State) : State :=
  let lo : Word := 0x00000000FFFFFFFF
  if bytes == 8 && off % 8 == 0 then
    if wide off then w64 off value (BitVec.allOnes 64) s
    else w32 (off + 4) ((value >>> 32).setWidth 32) (w32 off (value.setWidth 32) s)
  else if bytes == 4 && off % 4 == 0 then
    if wide (off / 8 * 8) then
      if off % 8 == 0 then w64 off value lo s else w64 (off - 4) (value <<< 32) (~~~lo) s
    else w32 off (value.setWidth 32) s
  else s

/-- Whether a VF access has an effect while the device is banked or leaving: KTAIL alone (01 R29). -/
def State.vfTakes (s : State) (vd off : Nat) : Bool :=
  (s.vd vd).responds && (!(s.power.state == 3 || s.power.state == 4) || (inKicks off && (kickOf off).2 == 0))

/-- REGISTER_WRITE (R9-R12). -/
def execRegisterWrite (w : RegAccess) (s : State) : Res :=
  match w with
  | .pf off value bytes =>
    .next (routeWrite pfWide (fun o v m s => s.writePf64 o v m) (fun o v s => s.writePf32 o v) off value bytes s)
  | .vf vd off value bytes =>
    .next (if s.vfTakes vd off then
        routeWrite vfWide (fun o v m s => s.writeVf64 vd o v m) (fun o v s => s.writeVf32 vd o v) off value bytes s
      else s)

end Sys2Proof.Machine
end

