-- ==== Sys2Proof/Machine/RegRead.lean ====
section
/-! DEFINITION. The values of the registers of the physical and the virtual functions by their offset (00 R8-R12 and the register
maps of the chapters), and the accesses of the host to memory (13 R327). -/

namespace Sys2Proof.Machine

/-- A field of a register: `v` at bit `lo`. -/
def regField (lo v : Nat) : Nat := v * 2 ^ lo

/-- A one-bit field. -/
def regFlag (lo : Nat) (b : Bool) : Nat := if b then 2 ^ lo else 0

/-- The 32-bit half of a 64-bit register at an offset (R12). -/
def halfOf (w : Word) (off : Nat) : Nat := if off % 8 == 0 then fieldN w 31 0 else fieldN w 63 32

/-- The code of a station's state (15 R359). -/
def stationCode : StationState → Nat
  | .down => 0 | .training => 1 | .up => 2 | .failed => 3

/-- The metering counter `i` of a VD (03 R90). -/
def State.counter (s : State) (vd i : Nat) : Word :=
  let v := s.vd vd
  match i with
  | 0 => s.mcore vd
  | 1 => v.mmatrix
  | 2 => v.mhbm
  | 3 => v.mlink
  | 4 => v.menergy
  | _ => 0

/-- The value of FWCTLd, or of FWLOGd (03 R81). -/
def State.fwValue (s : State) (d off : Nat) : Nat :=
  match off with
  | 0 => regFlag 1 (listGet false s.pf.fwIrq d) + regFlag 0 s.pf.partMode
  | 4 => regField 16 (listGet 0 s.pf.fwCount d).toNat + (listGet 0 s.pf.fwLast d).toNat
  | _ => 0

/-- The value of CCSTAT (19 R433). -/
def State.ccstatValue (s : State) : Nat :=
  regField 24 s.pf.takeovers.toNat + regField 21 s.pf.secMc.toNat +
  ([0, 1, 2].map fun p =>
    let x := s.pair p
    regField (3 * p + 12) x.mcause.toNat + regFlag (4 * p + 3) x.lost + regFlag (4 * p + 2) x.taken + regFlag (4 * p + 1) x.standby +
      regFlag (4 * p) x.acore).sum

/-- The value at an offset of a port's block (15 R371-R373). -/
def Port.value (p : Port) (off : Nat) : Nat :=
  match off with
  | 0x00 => regFlag 31 p.enabled + regFlag 30 p.cfgErr + regFlag 20 p.owned + regField 11 p.owner.toNat + p.lanes.toNat
  | 0x08 => halfOf p.txRing 0
  | 0x0C => halfOf p.txRing 4
  | 0x10 => halfOf p.rxRing 0
  | 0x14 => halfOf p.rxRing 4
  | 0x18 => p.txTail.toNat
  | 0x1C => p.rxTail.toNat
  | 0x20 => p.txHead.toNat
  | 0x24 => p.rxHead.toNat
  | _ => 0

/-- The value of VDCMDSTAT (02 R44). -/
def Pf.cmdStat (p : Pf) : Nat :=
  regField 16 p.seq.toNat + regField 8 p.status.toNat + regFlag 1 p.overrun + regFlag 0 p.busy.isSome

/-- The value of a 32-bit register, or of a half of a 64-bit one, of the physical function; 0 where there is none (R9, R10, R12). -/
def State.readPf32 (s : State) (off : Nat) : Nat :=
  if decide (0x1000 ≤ off) && decide (off < 0x1040) then (listGet 0 s.pf.cmdBuf (off % 0x1000 / 4)).toNat
  else if decide (0x2840 ≤ off) && decide (off < 0x2880) then
    let x := s.station ((off - 0x2840) / 4)
    regField 16 x.authFail.toNat + regField 8 x.resent.toNat + stationCode x.state
  else if inPorts off then (s.port (portOf off).1).value (portOf off).2
  else if decide (0x100000 ≤ off) && decide (off < 0x108000) then halfOf (s.counter (off % 0x100000 / 0x40) (off % 0x40 / 8)) off
  else if decide (0x300000 ≤ off) && decide (off < 0x300800) then
    let v := s.vd (off % 0x100000 / 4)
    regField 16 v.fepCount.toNat + v.fepFirst.toNat
  else if inEndpoints off then halfOf (Table.get 0 s.endpoints (off % 0x400000 / 8)) off
  else
    match off with
    | 0x0000 => regFlag 2 s.power.capEn
    | 0x0004 => regField 8 s.power.phase.toNat + regFlag 4 s.power.capping + regFlag 3 s.power.trained + s.power.state.toNat
    | 0x0008 => s.power.capW.toNat
    | 0x0010 => regField 8 s.power.refurb.toNat + s.power.lcState.toNat
    | 0x0040 => s.power.thcyc.toNat
    | 0x0044 => s.power.ponhrs.toNat
    | 0x0048 => s.power.bankcnt.toNat
    | 0x004C => s.power.hbmesc.toNat
    | 0x0050 => s.power.withheld.length
    | 0x1044 => s.pf.cmdStat
    | 0x2000 => s.fwValue 0 0
    | 0x2004 => s.fwValue 0 4
    | 0x2010 => s.fwValue 1 0
    | 0x2014 => s.fwValue 1 4
    | 0x2020 => regFlag 1 s.pf.partRefused + regFlag 0 s.pf.partMode
    | 0x2030 => regField 1 s.pf.fpIdle.toNat + regFlag 0 s.pf.fpSwap
    | 0x2040 => regFlag 9 (listGet false s.pf.dsRefused 0) + (listGet 0 s.pf.dsMib 0).toNat
    | 0x2044 => regFlag 9 (listGet false s.pf.dsRefused 1) + (listGet 0 s.pf.dsMib 1).toNat
    | 0x2100 => s.ccstatValue
    | 0x2800 => regField 16 s.pf.fabAge.toNat + regFlag 12 s.pf.fabSeal + regFlag 11 s.pf.fabWc + s.pf.fabAcc.toNat
    | _ => 0

/-- The value at an offset of a queue's register block (02 R54-R57). -/
def Queue.blockValue (q : Queue) (off : Nat) : Nat :=
  match off with
  | 0x00 => halfOf q.qbase 0
  | 0x04 => halfOf q.qbase 4
  | 0x08 => halfOf q.cbase 0
  | 0x0C => halfOf q.cbase 4
  | 0x10 => q.qcfg.toNat
  | 0x14 => q.qcoal.toNat
  | 0x18 => halfOf q.qs1 0
  | 0x1C => halfOf q.qs1 4
  | _ => 0

/-- The value at an offset of a queue's kick page (02 R60, R61): KTAIL reads as the tail latch. -/
def Queue.kickValue (q : Queue) (off : Nat) : Nat :=
  match off with
  | 0x000 => q.latch.toNat
  | 0x004 => q.head.toNat
  | 0x008 => q.kccons.toNat
  | 0x00C => q.cprod.toNat
  | 0x010 => q.kstat.toNat
  | _ => 0

/-- The value at an offset of the control page outside the counters and the queue blocks. -/
def Vd.controlValue (v : Vd) (off : Nat) : Nat :=
  match off with
  | 0x000 => regField 16 v.cores + v.qcount
  | 0x004 => v.vdctl.toNat
  | 0x008 => regField 8 v.resetCnt.toNat + v.state
  | 0x00C => v.vdevt.toNat
  | 0x010 => regField 17 v.dsGrant.toNat + regFlag 16 v.dsErr + v.dsReq.toNat
  | 0x080 => halfOf v.fqBase 0
  | 0x084 => halfOf v.fqBase 4
  | 0x088 => regFlag 31 v.fqEn + regFlag 8 v.guest + v.fqSize.toNat
  | 0x08C => v.fqProd.toNat
  | 0x090 => v.fqCons.toNat
  | 0x094 => regFlag 3 v.fqRingErr + regFlag 2 v.fqWaiting + regFlag 1 v.fqCfgErr + regFlag 0 v.fqAborted
  | 0x0A0 => regField 4 v.pgAhead.toNat
  | 0x0B0 => regField 16 v.saveForced.toNat + v.saveCoop.toNat
  | 0x0B4 => regField 16 v.mirFix.toNat + regField 8 v.pairFix.toNat + v.pairPois.toNat
  | 0x0B8 => regFlag 8 v.wipe + v.wdAct.toNat
  | 0x0C0 => halfOf v.ashBase 0
  | 0x0C4 => halfOf v.ashBase 4
  | 0x0C8 => regFlag 10 v.ashNo + regFlag 9 v.ashFailed + regFlag 8 v.ashTrunc + v.ashSeq.toNat
  | 0x0D0 => halfOf v.ckDesc 0
  | 0x0D4 => halfOf v.ckDesc 4
  | 0x0D8 => regFlag 30 v.ckOp + regField 16 v.ckQueue.toNat + regField 12 v.ckUsize.toNat
  | 0x0DC => v.ckGen.toNat
  | 0x0E0 => regField 16 v.ckErr.toNat + regFlag 3 v.ckArmed + regFlag 2 v.ckDone + regFlag 1 v.ckBusy
  | _ => 0

/-- The value of a 32-bit register, or of a half of a 64-bit one, of a virtual function; 0 where there is none (R9, R10, R12). -/
def State.readVf32 (s : State) (vd off : Nat) : Nat :=
  let v := s.vd vd
  if inBlocks off then
    if (blockOf off).1 < v.qcount then (s.queue (v.qfirst + (blockOf off).1)).blockValue (blockOf off).2 else 0
  else if inKicks off then
    if (kickOf off).1 < v.qcount then (s.queue (v.qfirst + (kickOf off).1)).kickValue (kickOf off).2 else 0
  else if inMsix off then halfOf (Table.get (msixReset (off % 0x10000 / 8)) v.msix (off % 0x10000 / 8)) off
  else if decide (0x51000 ≤ off) && decide (off < 0x51008) then halfOf v.msixPending off
  else if decide (0x040 ≤ off) && decide (off < 0x068) then halfOf (s.counter vd (off % 0x40 / 8)) off
  else v.controlValue off

/-- The data of a read by its width: a naturally aligned one of 32 or 64 bits, or 0 (R12). -/
def readData (r32 : Nat → Nat) (off len : Nat) : List Byte :=
  leB len (if len == 4 && off % 4 == 0 then r32 off
    else if len == 8 && off % 8 == 0 then r32 off + 2 ^ 32 * r32 (off + 4)
    else 0)

/-- Whether a read of a virtual function returns values: its BAR responds (02 R37), and the device is not in the banked state
(01 R29). -/
def State.vfReads (s : State) (vd : Nat) : Bool := (s.vd vd).responds && !(s.power.state == 3 || s.power.state == 4)

/-! The host's accesses to memory (13 R327). -/

/-- The places of a host access; none when HBM does not hold them or is in self-refresh (00 R2, 01 R28, R29). -/
def State.hostPlaces (s : State) (host : Bool) (addr n : Nat) : Option (List Loc) :=
  let room := if host then 2 ^ 52 else 2 * 192 * 2 ^ 30
  if room < addr + n || (!host && (s.power.state == 3 || s.power.state == 4)) then none
  else some ((List.range n).map fun i => ⟨if host then .host else .hbm, addr + i⟩)

/-- Whether a read of a requester waits for the completion point of a tracked write it made: for the remote requests that were
under way then (12 R300, R302). -/
def State.readWaits (s : State) (requester : Nat) : Bool := (Table.get [] s.tracked requester).any s.remoteIds.contains

/-- HOST_WRITE: performed at the home, as a tracked store where 12 R300 applies. A poisoned transfer is marked with a tag of the
PCIe interface (17 R390, R391). -/
def execHostWrite (w : HostWrite) (s : State) : Res :=
  match s.hostPlaces w.host w.addr w.bytes.length with
  | none => .next s
  | some ls =>
    let (tag, s) : Option Prov × State :=
      if w.poisoned then
        let (p, s) := s.newError 21 0x07 none
        (some p, s)
      else (none, s)
    let ws := (List.range ls.length).map fun i => (⟨listGet ⟨.host, 0⟩ ls i, listGet 0 w.bytes i, tag⟩ : ByteWrite)
    if (s.trackedLines ws).isEmpty then .next (s.engineStore ws)
    else
      let s := s.sendAllEntries.engineStore ws
      .next { s with tracked := Table.set [] w.requester s.remoteIds s.tracked }

/-- HOST_READ: of memory, the values at the home, with their poison; of a register, its value. Nothing is returned of a place that
does not exist, and a read that must follow a tracked write stays outstanding until that is complete (12 R302). -/
def execHostRead (r : HostRead) (s : State) : Res :=
  let regs (bs : List Byte) : List (Byte × Option Prov) := bs.map fun b => (b, none)
  match r with
  | .memory q host addr len =>
    if s.readWaits q then .next s
    else
      match s.hostPlaces host addr len with
      | none => .next (s.send (.hostRead q []))
      | some ls => .next (s.send (.hostRead q (ls.map fun l => (s.readByte l, s.poisonAt l))))
  | .pf q off len => if s.readWaits q then .next s else .next (s.send (.hostRead q (regs (readData s.readPf32 off len))))
  | .vf q vd off len =>
    if s.readWaits q then .next s
    else .next (s.send (.hostRead q (regs (if s.vfReads vd then readData (s.readVf32 vd) off len else leB len 0))))

end Sys2Proof.Machine
end

