-- ==== Sys2Proof/Machine/Scalar.lean ====
section
/-! DEFINITION. Scalar arithmetic and immediates, SALU and SALUI (07 R181-R183). -/

namespace Sys2Proof.Machine

/-- Writes a scalar result and moves on; under paired issue one that still differs is written poisoned (17 R398). -/
def State.writeScalar (s : State) (len : Nat) (sd : Reg) (v : Word) : State :=
  match groupOf s.cur with
  | none => s.writeNext len sd v
  | some g =>
    let (d, s) := s.pairTurn g
    let x := s.group g
    let (p, s) := (s.countPair x.vd d).pairTag (18 + dieOf x.core) d
    (s.updAgent s.cur fun a => a.setSreg sd.toNat v p).advance len

/-- A SALU function (07 R181): writes S[sd] and moves to Next. -/
def saluOp (len fn : Nat) (o : GS) (s : State) : Res :=
  checked ⟨len, 0x01, fn, .s o⟩ s fun s =>
    .next (s.writeScalar len o.sd (saluResult fn o.cw (s.sreg o.sa) (s.sreg o.sb) (s.sreg o.sc) (s.sreg o.sd)))

/-- A SALUI function (07 R183). -/
def saluiOp (len fn : Nat) (o : GSI) (s : State) : Res :=
  checked ⟨len, 0x02, fn, .si o⟩ s fun s => .next (s.writeScalar len o.sd (saluiResult fn o.aux o.imm (s.sreg o.sa)))

/-- SADD (R181). -/
def execSadd (o : GS) (s : State) : Res := saluOp 8 0 o s

/-- SSUB (R181). -/
def execSsub (o : GS) (s : State) : Res := saluOp 8 1 o s

/-- SMUL (R181). -/
def execSmul (o : GS) (s : State) : Res := saluOp 8 2 o s

/-- SMULH_S (R181). -/
def execSmulhS (o : GS) (s : State) : Res := saluOp 8 3 o s

/-- SMULH_N (R181). -/
def execSmulhN (o : GS) (s : State) : Res := saluOp 8 4 o s

/-- SDIV_S (R181). -/
def execSdivS (o : GS) (s : State) : Res := saluOp 8 5 o s

/-- SDIV_N (R181). -/
def execSdivN (o : GS) (s : State) : Res := saluOp 8 6 o s

/-- SREM_S (R181). -/
def execSremS (o : GS) (s : State) : Res := saluOp 8 7 o s

/-- SREM_N (R181). -/
def execSremN (o : GS) (s : State) : Res := saluOp 8 8 o s

/-- SAND (R181). -/
def execSand (o : GS) (s : State) : Res := saluOp 8 9 o s

/-- SOR (R181). -/
def execSor (o : GS) (s : State) : Res := saluOp 8 10 o s

/-- SXOR (R181). -/
def execSxor (o : GS) (s : State) : Res := saluOp 8 11 o s

/-- SANDN (R181). -/
def execSandn (o : GS) (s : State) : Res := saluOp 8 12 o s

/-- SSHL (R181). -/
def execSshl (o : GS) (s : State) : Res := saluOp 8 13 o s

/-- SSHR_S (R181). -/
def execSshrS (o : GS) (s : State) : Res := saluOp 8 14 o s

/-- SSHR_N (R181). -/
def execSshrN (o : GS) (s : State) : Res := saluOp 8 15 o s

/-- SROTR (R181). -/
def execSrotr (o : GS) (s : State) : Res := saluOp 8 16 o s

/-- SMIN_S (R181). -/
def execSminS (o : GS) (s : State) : Res := saluOp 8 17 o s

/-- SMIN_N (R181). -/
def execSminN (o : GS) (s : State) : Res := saluOp 8 18 o s

/-- SMAX_S (R181). -/
def execSmaxS (o : GS) (s : State) : Res := saluOp 8 19 o s

/-- SMAX_N (R181). -/
def execSmaxN (o : GS) (s : State) : Res := saluOp 8 20 o s

/-- SCLZ (R181). -/
def execSclz (o : GS) (s : State) : Res := saluOp 8 21 o s

/-- SFFS (R181). -/
def execSffs (o : GS) (s : State) : Res := saluOp 8 22 o s

/-- SPOPC (R181). -/
def execSpopc (o : GS) (s : State) : Res := saluOp 8 23 o s

/-- SBREV (R181). -/
def execSbrev (o : GS) (s : State) : Res := saluOp 8 24 o s

/-- SSEL (R181). -/
def execSsel (o : GS) (s : State) : Res := saluOp 8 25 o s

/-- SCMP (R181). -/
def execScmp (o : GS) (s : State) : Res := saluOp 8 26 o s

/-- SEXT (R182). -/
def execSext (o : GS) (s : State) : Res := saluOp 8 27 o s

/-- SMOV (R181). -/
def execSmov (o : GS) (s : State) : Res := saluOp 8 28 o s

/-- SBFX (R182). -/
def execSbfx (o : GS) (s : State) : Res := saluOp 8 29 o s

/-- SBFI (R182). -/
def execSbfi (o : GS) (s : State) : Res := saluOp 8 30 o s

/-- SMAD (R181). -/
def execSmad (o : GS) (s : State) : Res := saluOp 8 31 o s

/-- SADDI (R183). -/
def execSaddi (o : GSI) (s : State) : Res := saluiOp 8 0 o s

/-- SANDI (R183). -/
def execSandi (o : GSI) (s : State) : Res := saluiOp 8 1 o s

/-- SORI (R183). -/
def execSori (o : GSI) (s : State) : Res := saluiOp 8 2 o s

/-- SXORI (R183). -/
def execSxori (o : GSI) (s : State) : Res := saluiOp 8 3 o s

/-- SSHLI (R183). -/
def execSshli (o : GSI) (s : State) : Res := saluiOp 8 4 o s

/-- SSHRI_S (R183). -/
def execSshriS (o : GSI) (s : State) : Res := saluiOp 8 5 o s

/-- SSHRI_N (R183). -/
def execSshriN (o : GSI) (s : State) : Res := saluiOp 8 6 o s

/-- SLI (R183). -/
def execSli (o : GSI) (s : State) : Res := saluiOp 8 7 o s

/-- SLIH (R183). -/
def execSlih (o : GSI) (s : State) : Res := saluiOp 8 8 o s

/-- SCMPI (R183). -/
def execScmpi (o : GSI) (s : State) : Res := saluiOp 8 9 o s

end Sys2Proof.Machine
end

