-- ==== Sys2Proof/Machine/VInt.lean ====
section
/-! DEFINITION. Integer lane instructions, VINT and VINTI (08 R206-R208). -/

namespace Sys2Proof.Machine

/-- A VINT function with a register result (08 R206, R207). -/
def vintOp (len fn : Nat) (o : GV) (s : State) : Res :=
  laneV ⟨len, 0x08, fn, .v o⟩ o s fun w _ t =>
    let x (r : Reg) := w.src o.dtype r t
    w.plain t (destWrite o.dtype o.vd (vintResult fn o.dtype (x o.va) (x o.vb) (x o.vc) (x o.vd)))

/-- VSEL (08 R207): aux6 bits 2:0 name the selecting predicate. -/
def vselOp (len : Nat) (o : GV) (s : State) : Res :=
  let k := fieldN o.aux 2 0
  checked ⟨len, 0x08, 22, .v o⟩ s (laneOp len o.p o.pneg
    (fun w t => minProv (w.predPoison t [k])
      (w.sourcePoison t (laneSources 0x08 22 o)))
    fun w _ t =>
      w.plain t (destWrite o.dtype o.vd (w.src o.dtype (if bit (w.pred k) t then o.va else o.vb) t)))

/-- VCMP (08 R207): writes predicate vd. -/
def vcmpOp (len : Nat) (o : GV) (s : State) : Res :=
  laneV ⟨len, 0x08, 23, .v o⟩ o s fun w _ t =>
    w.plain t (.pred o.vd.toNat (vcmpResult o.aux.toNat o.dtype (w.src o.dtype o.va t) (w.src o.dtype o.vb t)))

/-- VSRD (08 R207): TID, LANE, QUAD or WARP (04 R101). -/
def vsrdOp (len : Nat) (o : GV) (s : State) : Res :=
  laneV ⟨len, 0x08, 28, .v o⟩ o s fun w wn t =>
    let v := match o.aux.toNat with
      | 0 => wn * 64 + t
      | 1 => t
      | 2 => t / 4
      | _ => wn
    w.plain t (.reg o.vd (BitVec.ofNat 32 v))

/-- The type of a VINTI form's elements (06 R158: type2 1 is n32). -/
def vintiTy (o : GVI) : Ty := if o.ty == 1 then .n32 else .s32

/-- The vector registers a VINTI function reads (08 R208). -/
def vintiSources (fn : Nat) (o : GVI) : List (Reg × Nat) :=
  (if fn == 9 then [] else [(o.va, 1)]) ++ (if fn == 10 then [(o.vd, 1)] else [])

/-- A VINTI function with a register result (08 R208). -/
def vintiOp (len fn : Nat) (o : GVI) (s : State) : Res :=
  checked ⟨len, 0x09, fn, .vi o⟩ s (laneOp len o.p o.pneg (fun w t => w.sourcePoison t (vintiSources fn o)) fun w _ t =>
    let x (r : Reg) : Word := (w.v r.toNat t).setWidth 64
    w.plain t (.reg o.vd ((vintResult (vintiFn fn) (vintiTy o) (x o.va) (o.imm.setWidth 64) (x o.vd) 0).setWidth 32)))

/-- VINTI's VCMP (08 R208): the predicate in vd bits 2:0, the condition in bits 6:3. -/
def vintiCmpOp (len : Nat) (o : GVI) (s : State) : Res :=
  checked ⟨len, 0x09, 8, .vi o⟩ s (laneOp len o.p o.pneg (fun w t => w.sourcePoison t (vintiSources 8 o)) fun w _ t =>
    w.plain t (.pred (fieldN o.vd 2 0)
      (vcmpResult (fieldN o.vd 6 3) (vintiTy o) ((w.v o.va.toNat t).setWidth 64) (o.imm.setWidth 64))))

/-- VMOVI (08 R208). -/
def vmoviOp (len : Nat) (o : GVI) (s : State) : Res :=
  checked ⟨len, 0x09, 9, .vi o⟩ s (laneOp len o.p o.pneg (fun _ _ => none) fun w _ t => w.plain t (.reg o.vd o.imm))

/-- VADD (R206). -/
def execVadd (o : GV) (s : State) : Res := vintOp 8 0 o s

/-- VSUB (R206). -/
def execVsub (o : GV) (s : State) : Res := vintOp 8 1 o s

/-- VMUL (R206). -/
def execVmul (o : GV) (s : State) : Res := vintOp 8 2 o s

/-- VMULH (R206). -/
def execVmulh (o : GV) (s : State) : Res := vintOp 8 3 o s

/-- VMAD (R206). -/
def execVmad (o : GV) (s : State) : Res := vintOp 8 4 o s

/-- VADDS (R206). -/
def execVadds (o : GV) (s : State) : Res := vintOp 8 5 o s

/-- VSUBS (R206). -/
def execVsubs (o : GV) (s : State) : Res := vintOp 8 6 o s

/-- VABSD (R206). -/
def execVabsd (o : GV) (s : State) : Res := vintOp 8 7 o s

/-- VMIN (R206). -/
def execVmin (o : GV) (s : State) : Res := vintOp 8 8 o s

/-- VMAX (R206). -/
def execVmax (o : GV) (s : State) : Res := vintOp 8 9 o s

/-- VAND (R206). -/
def execVand (o : GV) (s : State) : Res := vintOp 8 10 o s

/-- VOR (R206). -/
def execVor (o : GV) (s : State) : Res := vintOp 8 11 o s

/-- VXOR (R206). -/
def execVxor (o : GV) (s : State) : Res := vintOp 8 12 o s

/-- VANDN (R206). -/
def execVandn (o : GV) (s : State) : Res := vintOp 8 13 o s

/-- VNOT (R206). -/
def execVnot (o : GV) (s : State) : Res := vintOp 8 14 o s

/-- VSHL (R206). -/
def execVshl (o : GV) (s : State) : Res := vintOp 8 15 o s

/-- VSHR (R206). -/
def execVshr (o : GV) (s : State) : Res := vintOp 8 16 o s

/-- VROTR (R206). -/
def execVrotr (o : GV) (s : State) : Res := vintOp 8 17 o s

/-- VCLZ (R206). -/
def execVclz (o : GV) (s : State) : Res := vintOp 8 18 o s

/-- VFFS (R206). -/
def execVffs (o : GV) (s : State) : Res := vintOp 8 19 o s

/-- VPOPC (R206). -/
def execVpopc (o : GV) (s : State) : Res := vintOp 8 20 o s

/-- VBREV (R206). -/
def execVbrev (o : GV) (s : State) : Res := vintOp 8 21 o s

/-- VSEL (R207). -/
def execVsel (o : GV) (s : State) : Res := vselOp 8 o s

/-- VCMP (R207). -/
def execVcmp (o : GV) (s : State) : Res := vcmpOp 8 o s

/-- VADDMIN (R206). -/
def execVaddmin (o : GV) (s : State) : Res := vintOp 8 24 o s

/-- VBFX (R207). -/
def execVbfx (o : GV) (s : State) : Res := vintOp 8 25 o s

/-- VBFI (R207). -/
def execVbfi (o : GV) (s : State) : Res := vintOp 8 26 o s

/-- VMOV (R206). -/
def execVmov (o : GV) (s : State) : Res := vintOp 8 27 o s

/-- VSRD (R207). -/
def execVsrd (o : GV) (s : State) : Res := vsrdOp 8 o s

/-- VINTI_VADD (R208). -/
def execVintiVadd (o : GVI) (s : State) : Res := vintiOp 8 0 o s

/-- VINTI_VAND (R208). -/
def execVintiVand (o : GVI) (s : State) : Res := vintiOp 8 1 o s

/-- VINTI_VOR (R208). -/
def execVintiVor (o : GVI) (s : State) : Res := vintiOp 8 2 o s

/-- VINTI_VXOR (R208). -/
def execVintiVxor (o : GVI) (s : State) : Res := vintiOp 8 3 o s

/-- VINTI_VSHL (R208). -/
def execVintiVshl (o : GVI) (s : State) : Res := vintiOp 8 4 o s

/-- VINTI_VSHR (R208). -/
def execVintiVshr (o : GVI) (s : State) : Res := vintiOp 8 5 o s

/-- VINTI_VMIN (R208). -/
def execVintiVmin (o : GVI) (s : State) : Res := vintiOp 8 6 o s

/-- VINTI_VMAX (R208). -/
def execVintiVmax (o : GVI) (s : State) : Res := vintiOp 8 7 o s

/-- VINTI_VCMP (R208). -/
def execVintiVcmp (o : GVI) (s : State) : Res := vintiCmpOp 8 o s

/-- VMOVI (R208). -/
def execVmovi (o : GVI) (s : State) : Res := vmoviOp 8 o s

/-- VINTI_VADDMIN (R208). -/
def execVintiVaddmin (o : GVI) (s : State) : Res := vintiOp 8 10 o s

end Sys2Proof.Machine
end

