-- ==== Sys2Proof/Machine/Short.lean ====
section
/-! DEFINITION. Compact and short encodings: each has the effect of its general form, apart from its length (06 R151, R153,
R155-R157). -/

namespace Sys2Proof.Machine

/-- C_MOV (R153). -/
def execCMov (o : CV) (s : State) : Res := vintOp 2 27 (compactUnary .s32 o) s

/-- C_ADD_S32 (R153). -/
def execCAddS32 (o : CV) (s : State) : Res := vintOp 2 0 (compact .s32 o) s

/-- C_SUB_S32 (R153). -/
def execCSubS32 (o : CV) (s : State) : Res := vintOp 2 1 (compact .s32 o) s

/-- C_AND (R153). -/
def execCAnd (o : CV) (s : State) : Res := vintOp 2 10 (compact .s32 o) s

/-- C_OR (R153). -/
def execCOr (o : CV) (s : State) : Res := vintOp 2 11 (compact .s32 o) s

/-- C_XOR (R153). -/
def execCXor (o : CV) (s : State) : Res := vintOp 2 12 (compact .s32 o) s

/-- C_SHL_N32 (R153). -/
def execCShlN32 (o : CV) (s : State) : Res := vintOp 2 15 (compact .n32 o) s

/-- C_SHR_N32 (R153). -/
def execCShrN32 (o : CV) (s : State) : Res := vintOp 2 16 (compact .n32 o) s

/-- C_FADD_F32 (R153). -/
def execCFaddF32 (o : CV) (s : State) : Res := vfltOp 2 0 (compact .f32 o) s

/-- C_FSUB_F32 (R153). -/
def execCFsubF32 (o : CV) (s : State) : Res := vfltOp 2 1 (compact .f32 o) s

/-- C_FMUL_F32 (R153). -/
def execCFmulF32 (o : CV) (s : State) : Res := vfltOp 2 2 (compact .f32 o) s

/-- C_FMIN_F32 (R153). -/
def execCFminF32 (o : CV) (s : State) : Res := vfltOp 2 5 (compact .f32 o) s

/-- C_FMAX_F32 (R153). -/
def execCFmaxF32 (o : CV) (s : State) : Res := vfltOp 2 6 (compact .f32 o) s

/-- C_MIN_S32 (R153). -/
def execCMinS32 (o : CV) (s : State) : Res := vintOp 2 8 (compact .s32 o) s

/-- C_MAX_S32 (R153). -/
def execCMaxS32 (o : CV) (s : State) : Res := vintOp 2 9 (compact .s32 o) s

/-- C_NOT (R153). -/
def execCNot (o : CV) (s : State) : Res := vintOp 2 14 (compactUnary .s32 o) s

/-- VADD_S32_SHORT (R157). -/
def execVaddS32Short (o : SV3) (s : State) : Res := vintOp 4 0 (shortV .s32 0 o) s

/-- VSUB_S32_SHORT (R157). -/
def execVsubS32Short (o : SV3) (s : State) : Res := vintOp 4 1 (shortV .s32 0 o) s

/-- VMUL_S32_SHORT (R157). -/
def execVmulS32Short (o : SV3) (s : State) : Res := vintOp 4 2 (shortV .s32 0 o) s

/-- VMIN_S32_SHORT (R157). -/
def execVminS32Short (o : SV3) (s : State) : Res := vintOp 4 8 (shortV .s32 0 o) s

/-- VMAX_S32_SHORT (R157). -/
def execVmaxS32Short (o : SV3) (s : State) : Res := vintOp 4 9 (shortV .s32 0 o) s

/-- VMIN_N32_SHORT (R157). -/
def execVminN32Short (o : SV3) (s : State) : Res := vintOp 4 8 (shortV .n32 0 o) s

/-- VMAX_N32_SHORT (R157). -/
def execVmaxN32Short (o : SV3) (s : State) : Res := vintOp 4 9 (shortV .n32 0 o) s

/-- VAND_SHORT (R157). -/
def execVandShort (o : SV3) (s : State) : Res := vintOp 4 10 (shortV .s32 0 o) s

/-- VOR_SHORT (R157). -/
def execVorShort (o : SV3) (s : State) : Res := vintOp 4 11 (shortV .s32 0 o) s

/-- VXOR_SHORT (R157). -/
def execVxorShort (o : SV3) (s : State) : Res := vintOp 4 12 (shortV .s32 0 o) s

/-- VSHL_N32_SHORT (R157). -/
def execVshlN32Short (o : SV3) (s : State) : Res := vintOp 4 15 (shortV .n32 0 o) s

/-- VSHR_N32_SHORT (R157). -/
def execVshrN32Short (o : SV3) (s : State) : Res := vintOp 4 16 (shortV .n32 0 o) s

/-- VSHR_S32_SHORT (R157). -/
def execVshrS32Short (o : SV3) (s : State) : Res := vintOp 4 16 (shortV .s32 0 o) s

/-- FADD_F32_SHORT (R157). -/
def execFaddF32Short (o : SV3) (s : State) : Res := vfltOp 4 0 (shortV .f32 0 o) s

/-- FSUB_F32_SHORT (R157). -/
def execFsubF32Short (o : SV3) (s : State) : Res := vfltOp 4 1 (shortV .f32 0 o) s

/-- FMUL_F32_SHORT (R157). -/
def execFmulF32Short (o : SV3) (s : State) : Res := vfltOp 4 2 (shortV .f32 0 o) s

/-- FMIN_F32_SHORT (R157). -/
def execFminF32Short (o : SV3) (s : State) : Res := vfltOp 4 5 (shortV .f32 0 o) s

/-- FMAX_F32_SHORT (R157). -/
def execFmaxF32Short (o : SV3) (s : State) : Res := vfltOp 4 6 (shortV .f32 0 o) s

/-- FADD_BF16X2_SHORT (R157). -/
def execFaddBf16x2Short (o : SV3) (s : State) : Res := vfltOp 4 0 (shortV .bf16x2 0 o) s

/-- FMUL_BF16X2_SHORT (R157). -/
def execFmulBf16x2Short (o : SV3) (s : State) : Res := vfltOp 4 2 (shortV .bf16x2 0 o) s

/-- VSEL_SHORT (R157). -/
def execVselShort (o : SV3) (s : State) : Res := vselOp 4 (shortSel o) s

/-- VSHFL_SHORT (R157). -/
def execVshflShort (o : SV3) (s : State) : Res := vxlMove 4 0 (shortV .s32 0 o) s

/-- VADDMIN_S32_SHORT (R157). -/
def execVaddminS32Short (o : SV3) (s : State) : Res := vintOp 4 24 (shortAcc .s32 o) s

/-- FFMA_F32_SHORT (R157). -/
def execFfmaF32Short (o : SV3) (s : State) : Res := vfltOp 4 3 (shortAcc .f32 o) s

/-- FFMA_BF16X2_SHORT (R157). -/
def execFfmaBf16x2Short (o : SV3) (s : State) : Res := vfltOp 4 3 (shortAcc .bf16x2 o) s

/-- VCMP_LT_S32_SHORT (R157). -/
def execVcmpLtS32Short (o : SV3) (s : State) : Res := vcmpOp 4 (shortV .s32 2 o) s

/-- FCMP_LT_F32_SHORT (R157). -/
def execFcmpLtF32Short (o : SV3) (s : State) : Res := fcmpOp 4 (shortV .f32 2 o) s

/-- VINTI_VADD_SHORT (R157). -/
def execVintiVaddShort (o : SVI) (s : State) : Res := vintiOp 4 0 (shortVI 0 o) s

/-- VINTI_VAND_SHORT (R157). -/
def execVintiVandShort (o : SVI) (s : State) : Res := vintiOp 4 1 (shortVI 0 o) s

/-- VINTI_VSHL_SHORT (R157). -/
def execVintiVshlShort (o : SVI) (s : State) : Res := vintiOp 4 4 (shortVI 1 o) s

/-- VINTI_VSHR_N32_SHORT (R157). -/
def execVintiVshrN32Short (o : SVI) (s : State) : Res := vintiOp 4 5 (shortVI 1 o) s

/-- VINTI_VSHR_S32_SHORT (R157). -/
def execVintiVshrS32Short (o : SVI) (s : State) : Res := vintiOp 4 5 (shortVI 0 o) s

/-- VINTI_VMIN_SHORT (R157). -/
def execVintiVminShort (o : SVI) (s : State) : Res := vintiOp 4 6 (shortVI 0 o) s

/-- VINTI_VMAX_SHORT (R157). -/
def execVintiVmaxShort (o : SVI) (s : State) : Res := vintiOp 4 7 (shortVI 0 o) s

/-- VINTI_VCMP_EQ_SHORT (R157). -/
def execVintiVcmpEqShort (o : SVI) (s : State) : Res := vintiCmpOp 4 (shortVI 0 o) s

/-- SADD_SHORT (R155). -/
def execSaddShort (o : SS3) (s : State) : Res := saluOp 4 0 (shortS3 o) s

/-- SSUB_SHORT (R155). -/
def execSsubShort (o : SS3) (s : State) : Res := saluOp 4 1 (shortS3 o) s

/-- SMUL_SHORT (R155). -/
def execSmulShort (o : SS3) (s : State) : Res := saluOp 4 2 (shortS3 o) s

/-- SMULH_S_SHORT (R155). -/
def execSmulhSShort (o : SS3) (s : State) : Res := saluOp 4 3 (shortS3 o) s

/-- SMULH_N_SHORT (R155). -/
def execSmulhNShort (o : SS3) (s : State) : Res := saluOp 4 4 (shortS3 o) s

/-- SDIV_S_SHORT (R155). -/
def execSdivSShort (o : SS3) (s : State) : Res := saluOp 4 5 (shortS3 o) s

/-- SDIV_N_SHORT (R155). -/
def execSdivNShort (o : SS3) (s : State) : Res := saluOp 4 6 (shortS3 o) s

/-- SREM_S_SHORT (R155). -/
def execSremSShort (o : SS3) (s : State) : Res := saluOp 4 7 (shortS3 o) s

/-- SREM_N_SHORT (R155). -/
def execSremNShort (o : SS3) (s : State) : Res := saluOp 4 8 (shortS3 o) s

/-- SAND_SHORT (R155). -/
def execSandShort (o : SS3) (s : State) : Res := saluOp 4 9 (shortS3 o) s

/-- SOR_SHORT (R155). -/
def execSorShort (o : SS3) (s : State) : Res := saluOp 4 10 (shortS3 o) s

/-- SXOR_SHORT (R155). -/
def execSxorShort (o : SS3) (s : State) : Res := saluOp 4 11 (shortS3 o) s

/-- SANDN_SHORT (R155). -/
def execSandnShort (o : SS3) (s : State) : Res := saluOp 4 12 (shortS3 o) s

/-- SSHL_SHORT (R155). -/
def execSshlShort (o : SS3) (s : State) : Res := saluOp 4 13 (shortS3 o) s

/-- SSHR_S_SHORT (R155). -/
def execSshrSShort (o : SS3) (s : State) : Res := saluOp 4 14 (shortS3 o) s

/-- SSHR_N_SHORT (R155). -/
def execSshrNShort (o : SS3) (s : State) : Res := saluOp 4 15 (shortS3 o) s

/-- SROTR_SHORT (R155). -/
def execSrotrShort (o : SS3) (s : State) : Res := saluOp 4 16 (shortS3 o) s

/-- SMIN_S_SHORT (R155). -/
def execSminSShort (o : SS3) (s : State) : Res := saluOp 4 17 (shortS3 o) s

/-- SMIN_N_SHORT (R155). -/
def execSminNShort (o : SS3) (s : State) : Res := saluOp 4 18 (shortS3 o) s

/-- SMAX_S_SHORT (R155). -/
def execSmaxSShort (o : SS3) (s : State) : Res := saluOp 4 19 (shortS3 o) s

/-- SMAX_N_SHORT (R155). -/
def execSmaxNShort (o : SS3) (s : State) : Res := saluOp 4 20 (shortS3 o) s

/-- SCLZ_SHORT (R155). -/
def execSclzShort (o : SS3) (s : State) : Res := saluOp 4 21 (shortS3 o) s

/-- SFFS_SHORT (R155). -/
def execSffsShort (o : SS3) (s : State) : Res := saluOp 4 22 (shortS3 o) s

/-- SPOPC_SHORT (R155). -/
def execSpopcShort (o : SS3) (s : State) : Res := saluOp 4 23 (shortS3 o) s

/-- SBREV_SHORT (R155). -/
def execSbrevShort (o : SS3) (s : State) : Res := saluOp 4 24 (shortS3 o) s

/-- SSEL_SHORT (R155). -/
def execSselShort (o : SS3) (s : State) : Res := saluOp 4 25 (shortS3 o) s

/-- SCMP_SHORT (R155). -/
def execScmpShort (o : SS3) (s : State) : Res := saluOp 4 26 (shortS3 o) s

/-- SEXT_SHORT (R155). -/
def execSextShort (o : SS3) (s : State) : Res := saluOp 4 27 (shortS3 o) s

/-- SMOV_SHORT (R155). -/
def execSmovShort (o : SS3) (s : State) : Res := saluOp 4 28 (shortS3 o) s

/-- SBFX_SHORT (R155). -/
def execSbfxShort (o : SS3) (s : State) : Res := saluOp 4 29 (shortS3 o) s

/-- SBFI_SHORT (R155). -/
def execSbfiShort (o : SS3) (s : State) : Res := saluOp 4 30 (shortS3 o) s

/-- SMAD_SHORT (R155). -/
def execSmadShort (o : SS3) (s : State) : Res := saluOp 4 31 (shortS3 o) s

/-- SADDI_SHORT (R155). -/
def execSaddiShort (sd sa : Reg) (imm : BitVec 10) (s : State) : Res := saluiOp 4 0 ⟨sd, sa, 0, imm.signExtend 32⟩ s

/-- SLI_SHORT (R155). -/
def execSliShort (sd : Reg) (imm : BitVec 17) (s : State) : Res := saluiOp 4 7 ⟨sd, 0, 0, imm.signExtend 32⟩ s

/-- SLD_64_SHORT (R155). -/
def execSld64Short (sd sa : Reg) (imm : BitVec 10) (s : State) : Res := sldOp 4 ⟨sd, sa, 3, imm.signExtend 32 <<< 3⟩ s

/-- SST_64_SHORT (R155). -/
def execSst64Short (sd sa : Reg) (imm : BitVec 10) (s : State) : Res := sstOp 4 ⟨sd, sa, 3, imm.signExtend 32 <<< 3⟩ s

/-- VLD_32_SHORT (R155). -/
def execVld32Short (o : SVM) (s : State) : Res := vmemOp 4 0 (shortVM o) s

/-- VST_32_SHORT (R155). -/
def execVst32Short (o : SVM) (s : State) : Res := vmemOp 4 1 (shortVM o) s

/-- BR_SHORT (R155). -/
def execBrShort (off : BitVec 24) (s : State) : Res := uniformOp 4 0 ⟨0, 0, 0, false, off.signExtend 32⟩ s

/-- CALL_SHORT (R155). -/
def execCallShort (off : BitVec 24) (s : State) : Res := callOp 4 ⟨94, 0, 0, false, off.signExtend 32⟩ s

/-- BRZ_SHORT (R155). -/
def execBrzShort (sa : Reg) (off : BitVec 16) (s : State) : Res := uniformOp 4 1 ⟨sa, 0, 0, false, off.signExtend 32⟩ s

/-- BRNZ_SHORT (R155). -/
def execBrnzShort (sa : Reg) (off : BitVec 16) (s : State) : Res := uniformOp 4 2 ⟨sa, 0, 0, false, off.signExtend 32⟩ s

/-- BRP_SHORT (R155). -/
def execBrpShort (p : BitVec 3) (neg : Bool) (off : BitVec 20) (s : State) : Res := brpOp 4 ⟨0, 0, p, neg, off.signExtend 32⟩ s

end Sys2Proof.Machine
end

