-- ==== Sys2Proof/Machine/VPred.lean ====
section
/-! DEFINITION. Predicate operations, VPRED (08 R227). -/

namespace Sys2Proof.Machine

/-- PAND, POR, PXOR and PNOT (08 R227). -/
def ppOp (len fn : Nat) (o : GV) (s : State) : Res :=
  checked ⟨len, 0x0D, fn, .v o⟩ s (laneOp len o.p o.pneg
    (fun w t => w.predPoison t (o.va.toNat :: (if fn == 3 then [] else [o.vb.toNat])))
    fun w _ t =>
      let a := bit (w.pred o.va.toNat) t
      let b := bit (w.pred o.vb.toNat) t
      w.plain t (.pred o.vd.toNat (match fn with | 0 => a && b | 1 => a || b | 2 => a != b | _ => !a)))

/-- PSET (08 R227). -/
def psetOp (len : Nat) (o : GV) (s : State) : Res :=
  laneV ⟨len, 0x0D, 4, .v o⟩ o s fun w _ t =>
    w.plain t (.pred o.vd.toNat ((w.v o.va.toNat t).getLsbD o.aux.toNat))

/-- PGET (08 R227): all eight predicates of the thread. -/
def pgetOp (len : Nat) (o : GV) (s : State) : Res :=
  checked ⟨len, 0x0D, 5, .v o⟩ s (laneOp len o.p o.pneg (fun w t => w.predPoison t [0])
    fun w _ t => w.plain t (.reg o.vd (BitVec.ofNat 32
      ((List.range 8).foldl (fun acc k => acc + if bit (w.pred k) t then 2 ^ k else 0) 0))))

/-- PAND (R227). -/
def execPand (o : GV) (s : State) : Res := ppOp 8 0 o s

/-- POR (R227). -/
def execPor (o : GV) (s : State) : Res := ppOp 8 1 o s

/-- PXOR (R227). -/
def execPxor (o : GV) (s : State) : Res := ppOp 8 2 o s

/-- PNOT (R227). -/
def execPnot (o : GV) (s : State) : Res := ppOp 8 3 o s

/-- PSET (R227). -/
def execPset (o : GV) (s : State) : Res := psetOp 8 o s

/-- PGET (R227). -/
def execPget (o : GV) (s : State) : Res := pgetOp 8 o s

end Sys2Proof.Machine
end

