-- ==== Sys2Proof/Machine/Dispatch.lean ====
section
/-! DEFINITION. One arm for each constructor of Instr, each a direct call of its meaning. -/

namespace Sys2Proof.Machine

def exec (i : Instr) (s : State) : Host.Outcome State Fault Refusal :=
  match i with
  | .packageReset => Sys2Proof.Machine.execPackageReset s
  | .bootPhaseComplete b => Sys2Proof.Machine.execBootPhaseComplete b s
  | .pcieConfigRequest => Sys2Proof.Machine.execPcieConfigRequest s
  | .enterBanked => Sys2Proof.Machine.execEnterBanked s
  | .leaveBanked => Sys2Proof.Machine.execLeaveBanked s
  | .bankedEntryComplete => Sys2Proof.Machine.execBankedEntryComplete s
  | .bankedExitComplete needs => Sys2Proof.Machine.execBankedExitComplete needs s
  | .powerWindowEnd watts => Sys2Proof.Machine.execPowerWindowEnd watts s
  | .thermalSample deg => Sys2Proof.Machine.execThermalSample deg s
  | .powerOnHour => Sys2Proof.Machine.execPowerOnHour s
  | .hbmRefreshRaise => Sys2Proof.Machine.execHbmRefreshRaise s
  | .spdmRequest r => Sys2Proof.Machine.execSpdmRequest r s
  | .measurementRequest n digest => Sys2Proof.Machine.execMeasurementRequest n digest s
  | .lifeCycleChange r => Sys2Proof.Machine.execLifeCycleChange r s
  | .create => Sys2Proof.Machine.execCreate s
  | .createComplete vd found => Sys2Proof.Machine.execCreateComplete vd found s
  | .destroy => Sys2Proof.Machine.execDestroy s
  | .destroyDrained vd => Sys2Proof.Machine.execDestroyDrained vd s
  | .wipeComplete vd => Sys2Proof.Machine.execWipeComplete vd s
  | .reset => Sys2Proof.Machine.execReset s
  | .setshare => Sys2Proof.Machine.execSetshare s
  | .query => Sys2Proof.Machine.execQuery s
  | .sharemap => Sys2Proof.Machine.execSharemap s
  | .sharemapComplete slot => Sys2Proof.Machine.execSharemapComplete slot s
  | .resetreq vd => Sys2Proof.Machine.execResetreq vd s
  | .ashpitDumpDone vd => Sys2Proof.Machine.execAshpitDumpDone vd s
  | .resetDrained vd => Sys2Proof.Machine.execResetDrained vd s
  | .resetRearm vd => Sys2Proof.Machine.execResetRearm vd s
  | .queueEnable q value => Sys2Proof.Machine.execQueueEnable q value s
  | .queueDisable q value => Sys2Proof.Machine.execQueueDisable q value s
  | .queueStopped q => Sys2Proof.Machine.execQueueStopped q s
  | .kick q value => Sys2Proof.Machine.execKick q value s
  | .kcconsWrite q value => Sys2Proof.Machine.execKcconsWrite q value s
  | .faultQueueEnable vd value => Sys2Proof.Machine.execFaultQueueEnable vd value s
  | .fqconsWrite vd value => Sys2Proof.Machine.execFqconsWrite vd value s
  | .faultRetry vd index => Sys2Proof.Machine.execFaultRetry vd index s
  | .faultAbort vd index => Sys2Proof.Machine.execFaultAbort vd index s
  | .fqrespAbortStore vd abort => Sys2Proof.Machine.execFqrespAbortStore vd abort s
  | .dieScratchRequest vd value => Sys2Proof.Machine.execDieScratchRequest vd value s
  | .dieScratchGrant vd => Sys2Proof.Machine.execDieScratchGrant vd s
  | .ashbaseWrite vd value => Sys2Proof.Machine.execAshbaseWrite vd value s
  | .checkpoint vd value => Sys2Proof.Machine.execCheckpoint vd value s
  | .checkpointArmed vd => Sys2Proof.Machine.execCheckpointArmed vd s
  | .checkpointCommit vd answered => Sys2Proof.Machine.execCheckpointCommit vd answered s
  | .restore vd value parts => Sys2Proof.Machine.execRestore vd value parts s
  | .restoreComplete vd => Sys2Proof.Machine.execRestoreComplete vd s
  | .partcfgWrite value => Sys2Proof.Machine.execPartcfgWrite value s
  | .fwlogClear die value => Sys2Proof.Machine.execFwlogClear die value s
  | .dscarveWrite die value => Sys2Proof.Machine.execDscarveWrite die value s
  | .fabcfgWrite value => Sys2Proof.Machine.execFabcfgWrite value s
  | .portEnable n value => Sys2Proof.Machine.execPortEnable n value s
  | .portDisable n value => Sys2Proof.Machine.execPortDisable n value s
  | .ptxtailWrite n value => Sys2Proof.Machine.execPtxtailWrite n value s
  | .prxtailWrite n value => Sys2Proof.Machine.execPrxtailWrite n value s
  | .frameSent n bad => Sys2Proof.Machine.execFrameSent n bad s
  | .frameReceived n bytes bad => Sys2Proof.Machine.execFrameReceived n bytes bad s
  | .registerWrite w => Sys2Proof.Machine.execRegisterWrite w s
  | .hostWrite w => Sys2Proof.Machine.execHostWrite w s
  | .hostRead r => Sys2Proof.Machine.execHostRead r s
  | .dispatchDecision part cores => Sys2Proof.Machine.execDispatchDecision part cores s
  | .sliceEnd vd core => Sys2Proof.Machine.execSliceEnd vd core s
  | .damperWindowEnd vd => Sys2Proof.Machine.execDamperWindowEnd vd s
  | .bankPowerGate core bank => Sys2Proof.Machine.execBankPowerGate core bank s
  | .forwardProgressSwap core => Sys2Proof.Machine.execForwardProgressSwap core s
  | .queueWatchdog q => Sys2Proof.Machine.execQueueWatchdog q s
  | .sempollTick vd => Sys2Proof.Machine.execSempollTick vd s
  | .waitsemTimeout q => Sys2Proof.Machine.execWaitsemTimeout q s
  | .launchRecordComplete q index => Sys2Proof.Machine.execLaunchRecordComplete q index s
  | .systemCopyComplete q index => Sys2Proof.Machine.execSystemCopyComplete q index s
  | .fenceqComplete q index => Sys2Proof.Machine.execFenceqComplete q index s
  | .workgroupEnd g => Sys2Proof.Machine.execWorkgroupEnd g s
  | .gridEnd grid => Sys2Proof.Machine.execGridEnd grid s
  | .loadComplete a op => Sys2Proof.Machine.execLoadComplete a op s
  | .storeOrderingPoint a op => Sys2Proof.Machine.execStoreOrderingPoint a op s
  | .trackedStoreComplete a op => Sys2Proof.Machine.execTrackedStoreComplete a op s
  | .waitResume a => Sys2Proof.Machine.execWaitResume a s
  | .bwaitComplete a => Sys2Proof.Machine.execBwaitComplete a s
  | .mwaitReread a => Sys2Proof.Machine.execMwaitReread a s
  | .qpopResume a => Sys2Proof.Machine.execQpopResume a s
  | .qpushResume a => Sys2Proof.Machine.execQpushResume a s
  | .queueOpComplete a op => Sys2Proof.Machine.execQueueOpComplete a op s
  | .tagWaitComplete a => Sys2Proof.Machine.execTagWaitComplete a s
  | .gstepResume a => Sys2Proof.Machine.execGstepResume a s
  | .vldstepWake a op => Sys2Proof.Machine.execVldstepWake a op s
  | .haloWaitExpire a op => Sys2Proof.Machine.execHaloWaitExpire a op s
  | .copySectorComplete g op sector => Sys2Proof.Machine.execCopySectorComplete g op sector s
  | .copyComplete g op => Sys2Proof.Machine.execCopyComplete g op s
  | .copyDeferredStart g op => Sys2Proof.Machine.execCopyDeferredStart g op s
  | .streamPush g slot => Sys2Proof.Machine.execStreamPush g slot s
  | .matrixOpStart core => Sys2Proof.Machine.execMatrixOpStart core s
  | .tileOpComplete core op => Sys2Proof.Machine.execTileOpComplete core op s
  | .faultPostResume vd => Sys2Proof.Machine.execFaultPostResume vd s
  | .pageMigrationComplete vd page => Sys2Proof.Machine.execPageMigrationComplete vd page s
  | .parkedReplay vd page => Sys2Proof.Machine.execParkedReplay vd page s
  | .handlerEntry g => Sys2Proof.Machine.execHandlerEntry g s
  | .asyncTrap g => Sys2Proof.Machine.execAsyncTrap g s
  | .sliceBudgetExpire g => Sys2Proof.Machine.execSliceBudgetExpire g s
  | .contextSave g => Sys2Proof.Machine.execContextSave g s
  | .gangKill g => Sys2Proof.Machine.execGangKill g s
  | .gangRelaunch grid gang => Sys2Proof.Machine.execGangRelaunch grid gang s
  | .engineDrained vd e => Sys2Proof.Machine.execEngineDrained vd e s
  | .sharedFrameRepair slot page readable persistent => Sys2Proof.Machine.execSharedFrameRepair slot page readable persistent s
  | .irqCoalesceTimeout entry => Sys2Proof.Machine.execIrqCoalesceTimeout entry s
  | .remoteRequest r => Sys2Proof.Machine.execRemoteRequest r s
  | .remoteResponse id r => Sys2Proof.Machine.execRemoteResponse id r s
  | .remoteLoadTimeout id => Sys2Proof.Machine.execRemoteLoadTimeout id s
  | .remoteWriteFailure id => Sys2Proof.Machine.execRemoteWriteFailure id s
  | .wcAgeFlush core entry => Sys2Proof.Machine.execWcAgeFlush core entry s
  | .stationStateChange n state => Sys2Proof.Machine.execStationStateChange n state s
  | .channelSeal station peer => Sys2Proof.Machine.execChannelSeal station peer s
  | .sealedFlitReceive station peer f => Sys2Proof.Machine.execSealedFlitReceive station peer f s
  | .sealedAckTimer station peer => Sys2Proof.Machine.execSealedAckTimer station peer s
  | .flitResendTimeout station peer => Sys2Proof.Machine.execFlitResendTimeout station peer s
  | .keyRollover station peer => Sys2Proof.Machine.execKeyRollover station peer s
  | .fluePush die part push => Sys2Proof.Machine.execFluePush die part push s
  | .slabRetag die part face => Sys2Proof.Machine.execSlabRetag die part face s
  | .flueCounterUpdate station source dest note => Sys2Proof.Machine.execFlueCounterUpdate station source dest note s
  | .gstepCredit die part => Sys2Proof.Machine.execGstepCredit die part s
  | .flueStateDelete die part => Sys2Proof.Machine.execFlueStateDelete die part s
  | .heartbeatExpire core => Sys2Proof.Machine.execHeartbeatExpire core s
  | .takeoverHandover pair => Sys2Proof.Machine.execTakeoverHandover pair s
  | .controlTimerTick => Sys2Proof.Machine.execControlTimerTick s
  | .coreReloadComplete core image works => Sys2Proof.Machine.execCoreReloadComplete core image works s
  | .securityCoreRestart image => Sys2Proof.Machine.execSecurityCoreRestart image s
  | .fusedSoftmax o => Sys2Proof.Machine.execFusedSoftmax o s
  | .nop => Sys2Proof.Machine.execNop s
  | .exit => Sys2Proof.Machine.execExit s
  | .yield => Sys2Proof.Machine.execYield s
  | .trap code => Sys2Proof.Machine.execTrap code s
  | .tret => Sys2Proof.Machine.execTret s
  | .prio n => Sys2Proof.Machine.execPrio n s
  | .wait o => Sys2Proof.Machine.execWait o s
  | .launch sd sa => Sys2Proof.Machine.execLaunch sd sa s
  | .halt => Sys2Proof.Machine.execHalt s
  | .wfi => Sys2Proof.Machine.execWfi s
  | .srd sd num => Sys2Proof.Machine.execSrd sd num s
  | .swr sa num => Sys2Proof.Machine.execSwr sa num s
  | .sadd o => Sys2Proof.Machine.execSadd o s
  | .ssub o => Sys2Proof.Machine.execSsub o s
  | .smul o => Sys2Proof.Machine.execSmul o s
  | .smulhS o => Sys2Proof.Machine.execSmulhS o s
  | .smulhN o => Sys2Proof.Machine.execSmulhN o s
  | .sdivS o => Sys2Proof.Machine.execSdivS o s
  | .sdivN o => Sys2Proof.Machine.execSdivN o s
  | .sremS o => Sys2Proof.Machine.execSremS o s
  | .sremN o => Sys2Proof.Machine.execSremN o s
  | .sand o => Sys2Proof.Machine.execSand o s
  | .sor o => Sys2Proof.Machine.execSor o s
  | .sxor o => Sys2Proof.Machine.execSxor o s
  | .sandn o => Sys2Proof.Machine.execSandn o s
  | .sshl o => Sys2Proof.Machine.execSshl o s
  | .sshrS o => Sys2Proof.Machine.execSshrS o s
  | .sshrN o => Sys2Proof.Machine.execSshrN o s
  | .srotr o => Sys2Proof.Machine.execSrotr o s
  | .sminS o => Sys2Proof.Machine.execSminS o s
  | .sminN o => Sys2Proof.Machine.execSminN o s
  | .smaxS o => Sys2Proof.Machine.execSmaxS o s
  | .smaxN o => Sys2Proof.Machine.execSmaxN o s
  | .sclz o => Sys2Proof.Machine.execSclz o s
  | .sffs o => Sys2Proof.Machine.execSffs o s
  | .spopc o => Sys2Proof.Machine.execSpopc o s
  | .sbrev o => Sys2Proof.Machine.execSbrev o s
  | .ssel o => Sys2Proof.Machine.execSsel o s
  | .scmp o => Sys2Proof.Machine.execScmp o s
  | .sext o => Sys2Proof.Machine.execSext o s
  | .smov o => Sys2Proof.Machine.execSmov o s
  | .sbfx o => Sys2Proof.Machine.execSbfx o s
  | .sbfi o => Sys2Proof.Machine.execSbfi o s
  | .smad o => Sys2Proof.Machine.execSmad o s
  | .saddi o => Sys2Proof.Machine.execSaddi o s
  | .sandi o => Sys2Proof.Machine.execSandi o s
  | .sori o => Sys2Proof.Machine.execSori o s
  | .sxori o => Sys2Proof.Machine.execSxori o s
  | .sshli o => Sys2Proof.Machine.execSshli o s
  | .sshriS o => Sys2Proof.Machine.execSshriS o s
  | .sshriN o => Sys2Proof.Machine.execSshriN o s
  | .sli o => Sys2Proof.Machine.execSli o s
  | .slih o => Sys2Proof.Machine.execSlih o s
  | .scmpi o => Sys2Proof.Machine.execScmpi o s
  | .br o => Sys2Proof.Machine.execBr o s
  | .brz o => Sys2Proof.Machine.execBrz o s
  | .brnz o => Sys2Proof.Machine.execBrnz o s
  | .brc o => Sys2Proof.Machine.execBrc o s
  | .call o => Sys2Proof.Machine.execCall o s
  | .jmpr o => Sys2Proof.Machine.execJmpr o s
  | .callr o => Sys2Proof.Machine.execCallr o s
  | .ret o => Sys2Proof.Machine.execRet o s
  | .brp o => Sys2Proof.Machine.execBrp o s
  | .loop o => Sys2Proof.Machine.execLoop o s
  | .sld o => Sys2Proof.Machine.execSld o s
  | .sst o => Sys2Proof.Machine.execSst o s
  | .satom o => Sys2Proof.Machine.execSatom o s
  | .vadd o => Sys2Proof.Machine.execVadd o s
  | .vsub o => Sys2Proof.Machine.execVsub o s
  | .vmul o => Sys2Proof.Machine.execVmul o s
  | .vmulh o => Sys2Proof.Machine.execVmulh o s
  | .vmad o => Sys2Proof.Machine.execVmad o s
  | .vadds o => Sys2Proof.Machine.execVadds o s
  | .vsubs o => Sys2Proof.Machine.execVsubs o s
  | .vabsd o => Sys2Proof.Machine.execVabsd o s
  | .vmin o => Sys2Proof.Machine.execVmin o s
  | .vmax o => Sys2Proof.Machine.execVmax o s
  | .vand o => Sys2Proof.Machine.execVand o s
  | .vor o => Sys2Proof.Machine.execVor o s
  | .vxor o => Sys2Proof.Machine.execVxor o s
  | .vandn o => Sys2Proof.Machine.execVandn o s
  | .vnot o => Sys2Proof.Machine.execVnot o s
  | .vshl o => Sys2Proof.Machine.execVshl o s
  | .vshr o => Sys2Proof.Machine.execVshr o s
  | .vrotr o => Sys2Proof.Machine.execVrotr o s
  | .vclz o => Sys2Proof.Machine.execVclz o s
  | .vffs o => Sys2Proof.Machine.execVffs o s
  | .vpopc o => Sys2Proof.Machine.execVpopc o s
  | .vbrev o => Sys2Proof.Machine.execVbrev o s
  | .vsel o => Sys2Proof.Machine.execVsel o s
  | .vcmp o => Sys2Proof.Machine.execVcmp o s
  | .vaddmin o => Sys2Proof.Machine.execVaddmin o s
  | .vbfx o => Sys2Proof.Machine.execVbfx o s
  | .vbfi o => Sys2Proof.Machine.execVbfi o s
  | .vmov o => Sys2Proof.Machine.execVmov o s
  | .vsrd o => Sys2Proof.Machine.execVsrd o s
  | .vintiVadd o => Sys2Proof.Machine.execVintiVadd o s
  | .vintiVand o => Sys2Proof.Machine.execVintiVand o s
  | .vintiVor o => Sys2Proof.Machine.execVintiVor o s
  | .vintiVxor o => Sys2Proof.Machine.execVintiVxor o s
  | .vintiVshl o => Sys2Proof.Machine.execVintiVshl o s
  | .vintiVshr o => Sys2Proof.Machine.execVintiVshr o s
  | .vintiVmin o => Sys2Proof.Machine.execVintiVmin o s
  | .vintiVmax o => Sys2Proof.Machine.execVintiVmax o s
  | .vintiVcmp o => Sys2Proof.Machine.execVintiVcmp o s
  | .vmovi o => Sys2Proof.Machine.execVmovi o s
  | .vintiVaddmin o => Sys2Proof.Machine.execVintiVaddmin o s
  | .fadd o => Sys2Proof.Machine.execFadd o s
  | .fsub o => Sys2Proof.Machine.execFsub o s
  | .fmul o => Sys2Proof.Machine.execFmul o s
  | .ffma o => Sys2Proof.Machine.execFfma o s
  | .ffms o => Sys2Proof.Machine.execFfms o s
  | .fmin o => Sys2Proof.Machine.execFmin o s
  | .fmax o => Sys2Proof.Machine.execFmax o s
  | .fabs o => Sys2Proof.Machine.execFabs o s
  | .fneg o => Sys2Proof.Machine.execFneg o s
  | .fcmp o => Sys2Proof.Machine.execFcmp o s
  | .fclass o => Sys2Proof.Machine.execFclass o s
  | .fscaleb o => Sys2Proof.Machine.execFscaleb o s
  | .frnd o => Sys2Proof.Machine.execFrnd o s
  | .fdiv o => Sys2Proof.Machine.execFdiv o s
  | .faddmin o => Sys2Proof.Machine.execFaddmin o s
  | .cvt o => Sys2Proof.Machine.execCvt o s
  | .pack o => Sys2Proof.Machine.execPack o s
  | .unpack o => Sys2Proof.Machine.execUnpack o s
  | .mxscale o => Sys2Proof.Machine.execMxscale o s
  | .vshfl o => Sys2Proof.Machine.execVshfl o s
  | .vshup o => Sys2Proof.Machine.execVshup o s
  | .vshdn o => Sys2Proof.Machine.execVshdn o s
  | .vrotw o => Sys2Proof.Machine.execVrotw o s
  | .vbcast o => Sys2Proof.Machine.execVbcast o s
  | .vreduce o => Sys2Proof.Machine.execVreduce o s
  | .vscan o => Sys2Proof.Machine.execVscan o s
  | .qswap o => Sys2Proof.Machine.execQswap o s
  | .qbcast o => Sys2Proof.Machine.execQbcast o s
  | .vballot o => Sys2Proof.Machine.execVballot o s
  | .vvote o => Sys2Proof.Machine.execVvote o s
  | .vmatch o => Sys2Proof.Machine.execVmatch o s
  | .pand o => Sys2Proof.Machine.execPand o s
  | .por o => Sys2Proof.Machine.execPor o s
  | .pxor o => Sys2Proof.Machine.execPxor o s
  | .pnot o => Sys2Proof.Machine.execPnot o s
  | .pset o => Sys2Proof.Machine.execPset o s
  | .pget o => Sys2Proof.Machine.execPget o s
  | .frcp o => Sys2Proof.Machine.execFrcp o s
  | .frsq o => Sys2Proof.Machine.execFrsq o s
  | .fsqrt o => Sys2Proof.Machine.execFsqrt o s
  | .fexp2 o => Sys2Proof.Machine.execFexp2 o s
  | .flog2 o => Sys2Proof.Machine.execFlog2 o s
  | .fsin o => Sys2Proof.Machine.execFsin o s
  | .fcos o => Sys2Proof.Machine.execFcos o s
  | .ftanh o => Sys2Proof.Machine.execFtanh o s
  | .vld o => Sys2Proof.Machine.execVld o s
  | .vst o => Sys2Proof.Machine.execVst o s
  | .vgather o => Sys2Proof.Machine.execVgather o s
  | .vscatter o => Sys2Proof.Machine.execVscatter o s
  | .vldstep o => Sys2Proof.Machine.execVldstep o s
  | .vpref o => Sys2Proof.Machine.execVpref o s
  | .vspill o => Sys2Proof.Machine.execVspill o s
  | .vfill o => Sys2Proof.Machine.execVfill o s
  | .vatom o => Sys2Proof.Machine.execVatom o s
  | .vred o => Sys2Proof.Machine.execVred o s
  | .fence o => Sys2Proof.Machine.execFence o s
  | .binit o => Sys2Proof.Machine.execBinit o s
  | .barrive o => Sys2Proof.Machine.execBarrive o s
  | .bwait o => Sys2Proof.Machine.execBwait o s
  | .btest o => Sys2Proof.Machine.execBtest o s
  | .wsync o => Sys2Proof.Machine.execWsync o s
  | .cvinit o => Sys2Proof.Machine.execCvinit o s
  | .mwait o => Sys2Proof.Machine.execMwait o s
  | .qpush o => Sys2Proof.Machine.execQpush o s
  | .qpop o => Sys2Proof.Machine.execQpop o s
  | .qpops o => Sys2Proof.Machine.execQpops o s
  | .qstat o => Sys2Proof.Machine.execQstat o s
  | .mma o => Sys2Proof.Machine.execMma o s
  | .mmas o => Sys2Proof.Machine.execMmas o s
  | .mmai o => Sys2Proof.Machine.execMmai o s
  | .mmax o => Sys2Proof.Machine.execMmax o s
  | .awin o => Sys2Proof.Machine.execAwin o s
  | .azero o => Sys2Proof.Machine.execAzero o s
  | .ald o => Sys2Proof.Machine.execAld o s
  | .ast o => Sys2Proof.Machine.execAst o s
  | .arstat o => Sys2Proof.Machine.execArstat o s
  | .cpy o => Sys2Proof.Machine.execCpy o s
  | .cpyg o => Sys2Proof.Machine.execCpyg o s
  | .cpyz o => Sys2Proof.Machine.execCpyz o s
  | .sealRecord o => Sys2Proof.Machine.execSealRecord o s
  | .strdef o => Sys2Proof.Machine.execStrdef o s
  | .strrun o => Sys2Proof.Machine.execStrrun o s
  | .twany o => Sys2Proof.Machine.execTwany o s
  | .twall o => Sys2Proof.Machine.execTwall o s
  | .tfirst o => Sys2Proof.Machine.execTfirst o s
  | .tclr o => Sys2Proof.Machine.execTclr o s
  | .gattach o => Sys2Proof.Machine.execGattach o s
  | .gstep o => Sys2Proof.Machine.execGstep o s
  | .gstat o => Sys2Proof.Machine.execGstat o s
  | .gdetach o => Sys2Proof.Machine.execGdetach o s
  | .kscan o => Sys2Proof.Machine.execKscan o s
  | .jappend o => Sys2Proof.Machine.execJappend o s
  | .jread o => Sys2Proof.Machine.execJread o s
  | .vdrd o => Sys2Proof.Machine.execVdrd o s
  | .vdwr o => Sys2Proof.Machine.execVdwr o s
  | .qrd o => Sys2Proof.Machine.execQrd o s
  | .qwr o => Sys2Proof.Machine.execQwr o s
  | .irtrd o => Sys2Proof.Machine.execIrtrd o s
  | .irtwr o => Sys2Proof.Machine.execIrtwr o s
  | .vdcmdStart o => Sys2Proof.Machine.execVdcmdStart o s
  | .vdcmdRetire o => Sys2Proof.Machine.execVdcmdRetire o s
  | .vdcmdKill o => Sys2Proof.Machine.execVdcmdKill o s
  | .irqsend o => Sys2Proof.Machine.execIrqsend o s
  | .chold o => Sys2Proof.Machine.execChold o s
  | .crelease o => Sys2Proof.Machine.execCrelease o s
  | .cMov o => Sys2Proof.Machine.execCMov o s
  | .cAddS32 o => Sys2Proof.Machine.execCAddS32 o s
  | .cSubS32 o => Sys2Proof.Machine.execCSubS32 o s
  | .cAnd o => Sys2Proof.Machine.execCAnd o s
  | .cOr o => Sys2Proof.Machine.execCOr o s
  | .cXor o => Sys2Proof.Machine.execCXor o s
  | .cShlN32 o => Sys2Proof.Machine.execCShlN32 o s
  | .cShrN32 o => Sys2Proof.Machine.execCShrN32 o s
  | .cFaddF32 o => Sys2Proof.Machine.execCFaddF32 o s
  | .cFsubF32 o => Sys2Proof.Machine.execCFsubF32 o s
  | .cFmulF32 o => Sys2Proof.Machine.execCFmulF32 o s
  | .cFminF32 o => Sys2Proof.Machine.execCFminF32 o s
  | .cFmaxF32 o => Sys2Proof.Machine.execCFmaxF32 o s
  | .cMinS32 o => Sys2Proof.Machine.execCMinS32 o s
  | .cMaxS32 o => Sys2Proof.Machine.execCMaxS32 o s
  | .cNot o => Sys2Proof.Machine.execCNot o s
  | .nopShort => Sys2Proof.Machine.execNopShort s
  | .exitShort => Sys2Proof.Machine.execExitShort s
  | .yieldShort => Sys2Proof.Machine.execYieldShort s
  | .trapShort code => Sys2Proof.Machine.execTrapShort code s
  | .tretShort => Sys2Proof.Machine.execTretShort s
  | .prioShort n => Sys2Proof.Machine.execPrioShort n s
  | .haltShort => Sys2Proof.Machine.execHaltShort s
  | .wfiShort => Sys2Proof.Machine.execWfiShort s
  | .vaddS32Short o => Sys2Proof.Machine.execVaddS32Short o s
  | .vsubS32Short o => Sys2Proof.Machine.execVsubS32Short o s
  | .vmulS32Short o => Sys2Proof.Machine.execVmulS32Short o s
  | .vminS32Short o => Sys2Proof.Machine.execVminS32Short o s
  | .vmaxS32Short o => Sys2Proof.Machine.execVmaxS32Short o s
  | .vminN32Short o => Sys2Proof.Machine.execVminN32Short o s
  | .vmaxN32Short o => Sys2Proof.Machine.execVmaxN32Short o s
  | .vandShort o => Sys2Proof.Machine.execVandShort o s
  | .vorShort o => Sys2Proof.Machine.execVorShort o s
  | .vxorShort o => Sys2Proof.Machine.execVxorShort o s
  | .vshlN32Short o => Sys2Proof.Machine.execVshlN32Short o s
  | .vshrN32Short o => Sys2Proof.Machine.execVshrN32Short o s
  | .vshrS32Short o => Sys2Proof.Machine.execVshrS32Short o s
  | .faddF32Short o => Sys2Proof.Machine.execFaddF32Short o s
  | .fsubF32Short o => Sys2Proof.Machine.execFsubF32Short o s
  | .fmulF32Short o => Sys2Proof.Machine.execFmulF32Short o s
  | .fminF32Short o => Sys2Proof.Machine.execFminF32Short o s
  | .fmaxF32Short o => Sys2Proof.Machine.execFmaxF32Short o s
  | .faddBf16x2Short o => Sys2Proof.Machine.execFaddBf16x2Short o s
  | .fmulBf16x2Short o => Sys2Proof.Machine.execFmulBf16x2Short o s
  | .vselShort o => Sys2Proof.Machine.execVselShort o s
  | .vshflShort o => Sys2Proof.Machine.execVshflShort o s
  | .vaddminS32Short o => Sys2Proof.Machine.execVaddminS32Short o s
  | .ffmaF32Short o => Sys2Proof.Machine.execFfmaF32Short o s
  | .ffmaBf16x2Short o => Sys2Proof.Machine.execFfmaBf16x2Short o s
  | .vcmpLtS32Short o => Sys2Proof.Machine.execVcmpLtS32Short o s
  | .fcmpLtF32Short o => Sys2Proof.Machine.execFcmpLtF32Short o s
  | .vintiVaddShort o => Sys2Proof.Machine.execVintiVaddShort o s
  | .vintiVandShort o => Sys2Proof.Machine.execVintiVandShort o s
  | .vintiVshlShort o => Sys2Proof.Machine.execVintiVshlShort o s
  | .vintiVshrN32Short o => Sys2Proof.Machine.execVintiVshrN32Short o s
  | .vintiVshrS32Short o => Sys2Proof.Machine.execVintiVshrS32Short o s
  | .vintiVminShort o => Sys2Proof.Machine.execVintiVminShort o s
  | .vintiVmaxShort o => Sys2Proof.Machine.execVintiVmaxShort o s
  | .vintiVcmpEqShort o => Sys2Proof.Machine.execVintiVcmpEqShort o s
  | .saddShort o => Sys2Proof.Machine.execSaddShort o s
  | .ssubShort o => Sys2Proof.Machine.execSsubShort o s
  | .smulShort o => Sys2Proof.Machine.execSmulShort o s
  | .smulhSShort o => Sys2Proof.Machine.execSmulhSShort o s
  | .smulhNShort o => Sys2Proof.Machine.execSmulhNShort o s
  | .sdivSShort o => Sys2Proof.Machine.execSdivSShort o s
  | .sdivNShort o => Sys2Proof.Machine.execSdivNShort o s
  | .sremSShort o => Sys2Proof.Machine.execSremSShort o s
  | .sremNShort o => Sys2Proof.Machine.execSremNShort o s
  | .sandShort o => Sys2Proof.Machine.execSandShort o s
  | .sorShort o => Sys2Proof.Machine.execSorShort o s
  | .sxorShort o => Sys2Proof.Machine.execSxorShort o s
  | .sandnShort o => Sys2Proof.Machine.execSandnShort o s
  | .sshlShort o => Sys2Proof.Machine.execSshlShort o s
  | .sshrSShort o => Sys2Proof.Machine.execSshrSShort o s
  | .sshrNShort o => Sys2Proof.Machine.execSshrNShort o s
  | .srotrShort o => Sys2Proof.Machine.execSrotrShort o s
  | .sminSShort o => Sys2Proof.Machine.execSminSShort o s
  | .sminNShort o => Sys2Proof.Machine.execSminNShort o s
  | .smaxSShort o => Sys2Proof.Machine.execSmaxSShort o s
  | .smaxNShort o => Sys2Proof.Machine.execSmaxNShort o s
  | .sclzShort o => Sys2Proof.Machine.execSclzShort o s
  | .sffsShort o => Sys2Proof.Machine.execSffsShort o s
  | .spopcShort o => Sys2Proof.Machine.execSpopcShort o s
  | .sbrevShort o => Sys2Proof.Machine.execSbrevShort o s
  | .sselShort o => Sys2Proof.Machine.execSselShort o s
  | .scmpShort o => Sys2Proof.Machine.execScmpShort o s
  | .sextShort o => Sys2Proof.Machine.execSextShort o s
  | .smovShort o => Sys2Proof.Machine.execSmovShort o s
  | .sbfxShort o => Sys2Proof.Machine.execSbfxShort o s
  | .sbfiShort o => Sys2Proof.Machine.execSbfiShort o s
  | .smadShort o => Sys2Proof.Machine.execSmadShort o s
  | .saddiShort sd sa imm => Sys2Proof.Machine.execSaddiShort sd sa imm s
  | .sliShort sd imm => Sys2Proof.Machine.execSliShort sd imm s
  | .sld64Short sd sa imm => Sys2Proof.Machine.execSld64Short sd sa imm s
  | .sst64Short sd sa imm => Sys2Proof.Machine.execSst64Short sd sa imm s
  | .vld32Short o => Sys2Proof.Machine.execVld32Short o s
  | .vst32Short o => Sys2Proof.Machine.execVst32Short o s
  | .brShort off => Sys2Proof.Machine.execBrShort off s
  | .callShort off => Sys2Proof.Machine.execCallShort off s
  | .brzShort sa off => Sys2Proof.Machine.execBrzShort sa off s
  | .brnzShort sa off => Sys2Proof.Machine.execBrnzShort sa off s
  | .brpShort p neg off => Sys2Proof.Machine.execBrpShort p neg off s
  | .waitShort o => Sys2Proof.Machine.execWaitShort o s
  | .unknownOpCommand => Sys2Proof.Machine.execUnknownOpCommand s
  | .mirrorCopyFinished g w => Sys2Proof.Machine.execMirrorCopyFinished g w s

end Sys2Proof.Machine
end

