-- ==== Sys2Proof/WellFormed.lean ====
section
/-! DEFINITION. Well-formed instructions: those that the decode checks of 06 R168 let through, for whatever agent. -/

namespace Sys2Proof

/-- An instruction is well formed when no rule of the encoding chapter makes it ILLEGAL for every agent. -/
def Instr.wf (i : Instr) : Bool := legalInstr i

end Sys2Proof
end

