-- ==== Sys2Proof/Decode.lean ====
section
/-! DEFINITION. The decoder, from bytes to an instruction or a named rejection (06 R148-R168), and after it the encoder.
Definitions that build a value of Instr are marked noncomputable: Lean's code generator cannot number the constructors of
a type this large; the kernel evaluates them as any other definition. -/

namespace Sys2Proof

/-- Why the bits at a program counter are no instruction (06 R168). Every one traps ILLEGAL. -/
inductive Reject where
  /-- No class of 06 R166 has this code. -/
  | unknownClass
  /-- The class lists no such function (06 R166), or the short major or S32-SYS function names none (R155, R156). -/
  | unknownFunction
  /-- A type, rounding, width or order code that names nothing (05 R137, 06 R163, R164). -/
  | badCode
  /-- A reserved bit is set, or a field holds a value the function does not permit (06 R152, R162, R165). -/
  | badField
  deriving DecidableEq, Repr

/-- The bytes of an instruction whose first parcel is `p0` (06 R148). -/
def instrLength (p0 : BitVec 16) : Nat :=
  if !p0.getLsbD 0 then 2 else if !p0.getLsbD 1 then 4 else 8

/-- Bits `lo + n - 1 : lo` of an instruction word. -/
def bitsAt (w : BitVec 64) (lo n : Nat) : BitVec n := w.extractLsb' lo n

/-- The functions of class 0x01 in the order of 06 R166. -/
noncomputable def saluOps : List (GS → Instr) :=
  [.sadd, .ssub, .smul, .smulhS, .smulhN, .sdivS, .sdivN, .sremS, .sremN, .sand, .sor, .sxor, .sandn, .sshl,
   .sshrS, .sshrN, .srotr, .sminS, .sminN, .smaxS, .smaxN, .sclz, .sffs, .spopc, .sbrev, .ssel, .scmp, .sext,
   .smov, .sbfx, .sbfi, .smad]

/-- The functions of class 0x02 in the order of 06 R166. -/
noncomputable def saluiOps : List (GSI → Instr) :=
  [.saddi, .sandi, .sori, .sxori, .sshli, .sshriS, .sshriN, .sli, .slih, .scmpi]

/-- The functions of class 0x03 in the order of 06 R166. -/
noncomputable def sctlOps : List (GB → Instr) :=
  [.br, .brz, .brnz, .brc, .call, .jmpr, .callr, .ret, .brp, .loop]

/-- The functions of class 0x08 in the order of 06 R166. -/
noncomputable def vintOps : List (GV → Instr) :=
  [.vadd, .vsub, .vmul, .vmulh, .vmad, .vadds, .vsubs, .vabsd, .vmin, .vmax, .vand, .vor, .vxor, .vandn, .vnot,
   .vshl, .vshr, .vrotr, .vclz, .vffs, .vpopc, .vbrev, .vsel, .vcmp, .vaddmin, .vbfx, .vbfi, .vmov, .vsrd]

/-- The functions of class 0x09 in the order of 06 R166. -/
noncomputable def vintiOps : List (GVI → Instr) :=
  [.vintiVadd, .vintiVand, .vintiVor, .vintiVxor, .vintiVshl, .vintiVshr, .vintiVmin, .vintiVmax, .vintiVcmp,
   .vmovi, .vintiVaddmin]

/-- The functions of class 0x0a in the order of 06 R166. -/
noncomputable def vfltOps : List (GV → Instr) :=
  [.fadd, .fsub, .fmul, .ffma, .ffms, .fmin, .fmax, .fabs, .fneg, .fcmp, .fclass, .fscaleb, .frnd, .fdiv,
   .faddmin]

/-- The functions of class 0x0b in the order of 06 R166. -/
noncomputable def vcvtOps : List (GV → Instr) :=
  [.cvt, .pack, .unpack, .mxscale]

/-- The functions of class 0x0c in the order of 06 R166. -/
noncomputable def vxlOps : List (GV → Instr) :=
  [.vshfl, .vshup, .vshdn, .vrotw, .vbcast, .vreduce, .vscan, .qswap, .qbcast, .vballot, .vvote, .vmatch]

/-- The functions of class 0x0d in the order of 06 R166. -/
noncomputable def vpredOps : List (GV → Instr) :=
  [.pand, .por, .pxor, .pnot, .pset, .pget]

/-- The functions of class 0x0e in the order of 06 R166. -/
noncomputable def vsfuOps : List (GV → Instr) :=
  [.frcp, .frsq, .fsqrt, .fexp2, .flog2, .fsin, .fcos, .ftanh]

/-- The functions of class 0x10 in the order of 06 R166. -/
noncomputable def vmemOps : List (GM → Instr) :=
  [.vld, .vst, .vgather, .vscatter, .vldstep, .vpref, .vspill, .vfill]

/-- The functions of class 0x11 in the order of 06 R166. -/
noncomputable def vatomOps : List (GM → Instr) :=
  [.vatom, .vred]

/-- The functions of class 0x12 in the order of 06 R166. -/
noncomputable def syncOps : List (GS → Instr) :=
  [.fence, .binit, .barrive, .bwait, .btest, .wsync, .cvinit, .mwait]

/-- The functions of class 0x13 in the order of 06 R166. -/
noncomputable def queOps : List (GV → Instr) :=
  [.qpush, .qpop, .qpops, .qstat]

/-- The functions of class 0x18 in the order of 06 R166. -/
noncomputable def mmaOps : List (GMM → Instr) :=
  [.mma, .mmas, .mmai, .mmax]

/-- The functions of class 0x19 in the order of 06 R166. -/
noncomputable def accOps : List (GMM → Instr) :=
  [.awin, .azero, .ald, .ast, .arstat]

/-- The functions of class 0x1c in the order of 06 R166. -/
noncomputable def stkOps : List (GK → Instr) :=
  [.cpy, .cpyg, .cpyz, .sealRecord, .strdef, .strrun, .twany, .twall, .tfirst, .tclr]

/-- The functions of class 0x1d in the order of 06 R166. -/
noncomputable def gridOps : List (GK → Instr) :=
  [.gattach, .gstep, .gstat, .gdetach]

/-- CTLC functions 0 to 2 and 4 to 6, and the operations of VDCMD (19 R425, R428). -/
noncomputable def ctlcOp (fn : Nat) (o : GS) : Option Instr :=
  match fn with
  | 0 => some (.kscan o)
  | 1 => some (.jappend o)
  | 2 => some (.jread o)
  | 3 => ([.vdrd, .vdwr, .qrd, .qwr, .irtrd, .irtwr, .vdcmdStart, .vdcmdRetire, .vdcmdKill] : List (GS → Instr))[o.cw.toNat]?.map (· o)
  | 4 => some (.irqsend o)
  | 5 => some (.chold o)
  | 6 => some (.crelease o)
  | _ => none

/-- SYS functions (06 R159), from bits 63:18. -/
noncomputable def sysOp (fn : Nat) (b : BitVec 46) : Option Instr :=
  match fn with
  | 1 => some .nop
  | 2 => some .exit
  | 3 => some .yield
  | 4 => some (.trap (b.extractLsb' 0 16))
  | 5 => some .tret
  | 6 => some (.prio (b.extractLsb' 0 3))
  | 7 => some (.wait ⟨b.extractLsb' 0 6, b.extractLsb' 6 6, b.extractLsb' 12 6, b.extractLsb' 18 6⟩)
  | 8 => some (.launch (b.extractLsb' 0 7) (b.extractLsb' 7 7))
  | 9 => some .halt
  | 10 => some .wfi
  | 11 => some (.srd (b.extractLsb' 0 7) (b.extractLsb' 14 12))
  | 12 => some (.swr (b.extractLsb' 7 7) (b.extractLsb' 14 12))
  | _ => none

/-- The instruction of a general form (06 R166). Bits of a SYS form that its function does not name must be 0 (R152, R159): the
instruction's own form then has the same bits. -/
noncomputable def Instr.ofForm (f : Form) : Option Instr :=
  match f.lay with
  | .sys b => if f.cls == 0x00 then (sysOp f.fn b).filter fun i => i.form == some f else none
  | .s o =>
    match f.cls.toNat with
    | 0x01 => saluOps[f.fn]?.map (· o)
    | 0x04 => if f.fn == 2 then some (.satom o) else none
    | 0x12 => syncOps[f.fn]?.map (· o)
    | 0x1E => ctlcOp f.fn o
    | _ => none
  | .si o =>
    match f.cls.toNat with
    | 0x02 => saluiOps[f.fn]?.map (· o)
    | 0x04 => ([.sld, .sst] : List (GSI → Instr))[f.fn]?.map (· o)
    | _ => none
  | .b o => sctlOps[f.fn]?.map (· o)
  | .v o =>
    match f.cls.toNat with
    | 0x08 => vintOps[f.fn]?.map (· o)
    | 0x0A => vfltOps[f.fn]?.map (· o)
    | 0x0B => vcvtOps[f.fn]?.map (· o)
    | 0x0C => vxlOps[f.fn]?.map (· o)
    | 0x0D => vpredOps[f.fn]?.map (· o)
    | 0x0E => vsfuOps[f.fn]?.map (· o)
    | 0x13 => queOps[f.fn]?.map (· o)
    | _ => none
  | .vi o => vintiOps[f.fn]?.map (· o)
  | .m o => if f.cls == 0x10 then vmemOps[f.fn]?.map (· o) else vatomOps[f.fn]?.map (· o)
  | .mm o => if f.cls == 0x18 then mmaOps[f.fn]?.map (· o) else accOps[f.fn]?.map (· o)
  | .k o => if f.cls == 0x1C then stkOps[f.fn]?.map (· o) else gridOps[f.fn]?.map (· o)

/-- The layouts of 06 R158. -/
inductive LayoutKind where
  | sys | s | si | b | v | vi | m | mm | k
  deriving DecidableEq, Repr

/-- The layout of a class and function (06 R158, R160, R166). -/
def layoutKind (cls : BitVec 6) (smemAtomic : Bool) : Option LayoutKind :=
  match cls.toNat with
  | 0x00 => some .sys
  | 0x01 | 0x12 | 0x1E => some .s
  | 0x02 => some .si
  | 0x04 => some (if smemAtomic then .s else .si)
  | 0x03 => some .b
  | 0x08 | 0x0A | 0x0B | 0x0C | 0x0D | 0x0E | 0x13 => some .v
  | 0x09 => some .vi
  | 0x10 | 0x11 => some .m
  | 0x18 | 0x19 => some .mm
  | 0x1C | 0x1D => some .k
  | _ => none

/-- The fields of a general word in a layout (06 R158); none where a type, rounding, width or order code names nothing
or a bit the layout fixes at zero is set. -/
def unpack (kind : LayoutKind) (w : BitVec 64) : Option Layout :=
  match kind with
  | .sys => some (.sys (bitsAt w 18 46))
  | .s => if bitsAt w 50 14 == 0 then
      some (.s ⟨bitsAt w 18 7, bitsAt w 25 7, bitsAt w 32 7, bitsAt w 39 7, bitsAt w 46 4⟩) else none
  | .si => some (.si ⟨bitsAt w 12 7, bitsAt w 19 7, bitsAt w 26 6, bitsAt w 32 32⟩)
  | .b => if bitsAt w 30 2 == 0 then
      some (.b ⟨bitsAt w 12 7, bitsAt w 19 7, bitsAt w 26 3, w.getLsbD 29, bitsAt w 32 32⟩) else none
  | .v =>
    match Ty.ofCode ((bitsAt w 22 4).setWidth 6), Rnd.ofCode (bitsAt w 26 3) with
    | some t, some r => some (.v ⟨bitsAt w 18 3, w.getLsbD 21, t, r, w.getLsbD 29, bitsAt w 30 6,
        bitsAt w 36 7, bitsAt w 43 7, bitsAt w 50 7, bitsAt w 57 7⟩)
    | _, _ => none
  | .vi => some (.vi ⟨bitsAt w 12 3, w.getLsbD 15, bitsAt w 16 7, bitsAt w 23 7, bitsAt w 30 2, bitsAt w 32 32⟩)
  | .m =>
    match Width.ofCode (bitsAt w 22 3), Order.ofCode (bitsAt w 25 3) with
    | some wd, some od => some (.m ⟨bitsAt w 18 3, w.getLsbD 21, wd, od, bitsAt w 28 7, bitsAt w 35 7, bitsAt w 42 7,
        bitsAt w 49 2, w.getLsbD 51, bitsAt w 52 3, bitsAt w 55 9⟩)
    | _, _ => none
  | .mm =>
    match MTy.ofCode (bitsAt w 60 4) with
    | some t => some (.mm ⟨bitsAt w 18 3, bitsAt w 21 7, bitsAt w 28 7, bitsAt w 35 7, bitsAt w 42 7, bitsAt w 49 11, t⟩)
    | none => none
  | .k => some (.k ⟨bitsAt w 18 7, bitsAt w 25 7, bitsAt w 32 7, bitsAt w 39 7, bitsAt w 46 6, bitsAt w 52 7,
      bitsAt w 59 5⟩)

/-- Whether a layout's function field is the 4 bits 11:8; otherwise it is the 10 bits 17:8 (06 R166). -/
def LayoutKind.short : LayoutKind → Bool
  | .si | .b | .vi => true
  | _ => false

/-- Accepts a candidate when it is well formed (06 R168). -/
noncomputable def accept (c : Option Instr) : Except Reject Instr :=
  match c with
  | none => .error .unknownFunction
  | some i => if i.wf then .ok i else .error .badField

/-- Decodes a general word (06 R158). SMEM's function is read first from bits 17:8, where SATOM has 2 in bits 11:8; the
G-SI forms keep bits 17:12 for sd. -/
noncomputable def decodeGeneral (w : BitVec 64) : Except Reject Instr :=
  match layoutKind (bitsAt w 2 6) (bitsAt w 8 4 == 2) with
  | none => .error .unknownClass
  | some kind =>
    match unpack kind w with
    | none => .error .badCode
    | some l =>
      accept (Instr.ofForm ⟨8, bitsAt w 2 6, if kind.short then (bitsAt w 8 4).toNat else (bitsAt w 8 10).toNat, l⟩)

/-- The S32-V3 forms, majors 0x01 to 0x1B (06 R157). -/
noncomputable def shortV3Ops : List (SV3 → Instr) :=
  [.vaddS32Short, .vsubS32Short, .vmulS32Short, .vminS32Short, .vmaxS32Short, .vminN32Short, .vmaxN32Short,
   .vandShort, .vorShort, .vxorShort, .vshlN32Short, .vshrN32Short, .vshrS32Short, .faddF32Short, .fsubF32Short,
   .fmulF32Short, .fminF32Short, .fmaxF32Short, .faddBf16x2Short, .fmulBf16x2Short, .vselShort, .vshflShort,
   .vaddminS32Short, .ffmaF32Short, .ffmaBf16x2Short, .vcmpLtS32Short, .fcmpLtF32Short]

/-- The S32-VI forms, majors 0x1C to 0x23 (06 R157). -/
noncomputable def shortVIOps : List (SVI → Instr) :=
  [.vintiVaddShort, .vintiVandShort, .vintiVshlShort, .vintiVshrN32Short, .vintiVshrS32Short, .vintiVminShort,
   .vintiVmaxShort, .vintiVcmpEqShort]

/-- The S32-S3 forms, majors 0x24 to 0x27 by sub (06 R155). -/
noncomputable def shortS3Ops : List (SS3 → Instr) :=
  [.saddShort, .ssubShort, .smulShort, .smulhSShort, .smulhNShort, .sdivSShort, .sdivNShort, .sremSShort,
   .sremNShort, .sandShort, .sorShort, .sxorShort, .sandnShort, .sshlShort, .sshrSShort, .sshrNShort,
   .srotrShort, .sminSShort, .sminNShort, .smaxSShort, .smaxNShort, .sclzShort, .sffsShort, .spopcShort,
   .sbrevShort, .sselShort, .scmpShort, .sextShort, .smovShort, .sbfxShort, .sbfiShort, .smadShort]

/-- The compact forms by op (06 R153). -/
noncomputable def compactOps : List (CV → Instr) :=
  [.cMov, .cAddS32, .cSubS32, .cAnd, .cOr, .cXor, .cShlN32, .cShrN32, .cFaddF32, .cFsubF32, .cFmulF32, .cFminF32,
   .cFmaxF32, .cMinS32, .cMaxS32, .cNot]

/-- The S32-SYS functions (06 R156). -/
noncomputable def shortSys (w : BitVec 32) : Option Instr :=
  let f := w.extractLsb' 8 8
  let imm := w.extractLsb' 16 16
  let plain (i : Instr) : Option Instr := if imm == 0 then some i else none
  match f.toNat with
  | 1 => plain .nopShort
  | 2 => plain .exitShort
  | 3 => plain .yieldShort
  | 4 => some (.trapShort imm)
  | 5 => plain .tretShort
  | 6 => if imm.toNat < 8 then some (.prioShort (w.extractLsb' 16 3)) else none
  | 9 => plain .haltShort
  | 10 => plain .wfiShort
  | _ => none

/-- Decodes a short word by its major (06 R155). -/
noncomputable def decodeShort (w : BitVec 32) : Except Reject Instr :=
  let m := (w.extractLsb' 2 6).toNat
  let v3 : SV3 := ⟨w.extractLsb' 8 3, w.extractLsb' 11 7, w.extractLsb' 18 7, w.extractLsb' 25 7⟩
  let vi : SVI := ⟨w.extractLsb' 8 3, w.extractLsb' 11 7, w.extractLsb' 18 7, w.extractLsb' 25 7⟩
  let vm : SVM := ⟨w.extractLsb' 8 3, w.extractLsb' 11 7, w.extractLsb' 18 7, w.extractLsb' 25 7⟩
  let s3 : SS3 := ⟨w.extractLsb' 8 7, w.extractLsb' 15 7, w.extractLsb' 22 7⟩
  if m == 0 then accept (shortSys w)
  else if m < 0x1C then accept (shortV3Ops[m - 1]?.map (· v3))
  else if m < 0x24 then accept (shortVIOps[m - 0x1C]?.map (· vi))
  else if m < 0x28 then accept (shortS3Ops[(m - 0x24) * 8 + (w.extractLsb' 29 3).toNat]?.map (· s3))
  else
    match m with
    | 0x28 => accept (some (.saddiShort (w.extractLsb' 8 7) (w.extractLsb' 15 7) (w.extractLsb' 22 10)))
    | 0x29 => accept (some (.sliShort (w.extractLsb' 8 7) (w.extractLsb' 15 17)))
    | 0x2A => accept (some (.sld64Short (w.extractLsb' 8 7) (w.extractLsb' 15 7) (w.extractLsb' 22 10)))
    | 0x2B => accept (some (.sst64Short (w.extractLsb' 8 7) (w.extractLsb' 15 7) (w.extractLsb' 22 10)))
    | 0x2C => accept (some (.vld32Short vm))
    | 0x2D => accept (some (.vst32Short vm))
    | 0x2E => accept (some (.brShort (w.extractLsb' 8 24)))
    | 0x2F => accept (some (.callShort (w.extractLsb' 8 24)))
    | 0x30 => accept (some (if w.getLsbD 15 then .brnzShort (w.extractLsb' 8 7) (w.extractLsb' 16 16)
                            else .brzShort (w.extractLsb' 8 7) (w.extractLsb' 16 16)))
    | 0x31 => accept (some (.brpShort (w.extractLsb' 8 3) (w.getLsbD 11) (w.extractLsb' 12 20)))
    | 0x32 => accept (some (.waitShort ⟨w.extractLsb' 8 6, w.extractLsb' 14 6, w.extractLsb' 20 6, w.extractLsb' 26 6⟩))
    | _ => .error .unknownFunction

/-- Decodes a compact parcel (06 R153, R154). -/
noncomputable def decodeCompact (p : BitVec 16) : Except Reject Instr :=
  accept (compactOps[(p.extractLsb' 1 4).toNat]?.map (· ⟨p.getLsbD 15, p.extractLsb' 5 5, p.extractLsb' 10 5⟩))

/-- Decodes the instruction whose first parcel is the low 16 bits of `w`, by its length (06 R148). -/
noncomputable def decodeWord (w : BitVec 64) : Except Reject Instr :=
  match instrLength (w.setWidth 16) with
  | 2 => decodeCompact (w.setWidth 16)
  | 4 => decodeShort (w.setWidth 32)
  | _ => decodeGeneral w

/-- Little-endian bytes as a number (01 R4). -/
def leNat : List Byte → Nat
  | [] => 0
  | b :: bs => b.toNat + 256 * leNat bs

/-- The low `n` bytes of a number, little-endian (01 R4). -/
def leBytes : Nat → Nat → List Byte
  | 0, _ => []
  | n + 1, v => BitVec.ofNat 8 v :: leBytes n (v / 256)

/-- Decodes the instruction at the head of a list of bytes, and gives what follows it. -/
noncomputable def decodeBytes (bs : List Byte) : Except Reject (Instr × List Byte) :=
  let n := instrLength (BitVec.ofNat 16 (leNat (bs.take 2)))
  match decodeWord (BitVec.ofNat 64 (leNat (bs.take n))) with
  | .ok i => .ok (i, bs.drop n)
  | .error e => .error e

/-- The instruction the decoder reads from bits numbered as spec/opcode_table.json numbers them: the parcels follow one
another from bit 0 up, so the number is the little-endian word itself. -/
noncomputable def decodeTableWord (nbits w : Nat) : Option Instr :=
  match decodeBytes (leBytes 8 (w % 2 ^ nbits)) with
  | .ok (i, _) => some i
  | .error _ => none

/-! The encoder, from the same tables. -/

/-- A general word from class, function and fields (06 R158). -/
def packGeneral (cls : BitVec 6) (fn : Nat) : Layout → BitVec 64
  | .sys b => b ++ BitVec.ofNat 10 fn ++ cls ++ (3 : BitVec 2)
  | .s o => (0 : BitVec 14) ++ o.cw ++ o.sc ++ o.sb ++ o.sa ++ o.sd ++ BitVec.ofNat 10 fn ++ cls ++ (3 : BitVec 2)
  | .si o => o.imm ++ o.aux ++ o.sa ++ o.sd ++ BitVec.ofNat 4 fn ++ cls ++ (3 : BitVec 2)
  | .b o => o.off ++ (0 : BitVec 2) ++ BitVec.ofBool o.neg ++ o.cond ++ o.sb ++ o.sa ++ BitVec.ofNat 4 fn ++ cls ++
      (3 : BitVec 2)
  | .v o => o.vc ++ o.vb ++ o.va ++ o.vd ++ o.aux ++ BitVec.ofBool o.sat ++ o.rnd.code ++ o.dtype.code.setWidth 4 ++
      BitVec.ofBool o.pneg ++ o.p ++ BitVec.ofNat 10 fn ++ cls ++ (3 : BitVec 2)
  | .vi o => o.imm ++ o.ty ++ o.va ++ o.vd ++ BitVec.ofBool o.pneg ++ o.p ++ BitVec.ofNat 4 fn ++ cls ++ (3 : BitVec 2)
  | .m o => o.off ++ o.scale ++ BitVec.ofBool o.isgn ++ o.iw ++ o.vb ++ o.sa ++ o.vdata ++ o.order.code ++ o.width.code ++
      BitVec.ofBool o.pneg ++ o.p ++ BitVec.ofNat 10 fn ++ cls ++ (3 : BitVec 2)
  | .mm o => o.dtype.code ++ o.arow ++ o.sc ++ o.sb ++ o.sa ++ o.vidx ++ o.cv ++ BitVec.ofNat 10 fn ++ cls ++
      (3 : BitVec 2)
  | .k o => o.flags ++ o.se ++ o.tag ++ o.sc ++ o.sb ++ o.sa ++ o.sd ++ BitVec.ofNat 10 fn ++ cls ++ (3 : BitVec 2)

/-- An S32-V3 word (06 R155). -/
def packV3 (m : BitVec 6) (o : SV3) : BitVec 32 := o.vb ++ o.va ++ o.vd ++ o.p ++ m ++ (1 : BitVec 2)

/-- An S32-VI word (06 R155). -/
def packVI (m : BitVec 6) (o : SVI) : BitVec 32 := o.imm ++ o.va ++ o.vd ++ o.p ++ m ++ (1 : BitVec 2)

/-- An S32-S3 word: function `f` is major 0x24 + f / 8, sub f mod 8 (06 R155). -/
def packS3 (f : Nat) (o : SS3) : BitVec 32 :=
  BitVec.ofNat 3 f ++ o.sb ++ o.sa ++ o.sd ++ BitVec.ofNat 6 (0x24 + f / 8) ++ (1 : BitVec 2)

/-- An S32-SYS word (06 R156). -/
def packSys (f : BitVec 8) (imm : BitVec 16) : BitVec 32 := imm ++ f ++ (0 : BitVec 6) ++ (1 : BitVec 2)

/-- A compact parcel (06 R153). -/
def packCompact (op : BitVec 4) (o : CV) : BitVec 16 := BitVec.ofBool o.pred ++ o.vb ++ o.va ++ op ++ (0 : BitVec 1)

/-- A short word of the load and store forms with one vector register (06 R155). -/
def packVM (m : BitVec 6) (o : SVM) : BitVec 32 := o.imm ++ o.sa ++ o.vd ++ o.p ++ m ++ (1 : BitVec 2)

/-- The compact parcel or short word of an instruction that has one (06 R153-R157). -/
def encodeShort : Instr → Option (BitVec 32)
  | .packageReset => none
  | .bootPhaseComplete _ => none
  | .pcieConfigRequest => none
  | .enterBanked => none
  | .leaveBanked => none
  | .bankedEntryComplete => none
  | .bankedExitComplete _ => none
  | .powerWindowEnd _ => none
  | .thermalSample _ => none
  | .powerOnHour => none
  | .hbmRefreshRaise => none
  | .spdmRequest _ => none
  | .measurementRequest _ _ => none
  | .lifeCycleChange _ => none
  | .create => none
  | .createComplete _ _ => none
  | .destroy => none
  | .destroyDrained _ => none
  | .wipeComplete _ => none
  | .reset => none
  | .setshare => none
  | .query => none
  | .sharemap => none
  | .sharemapComplete _ => none
  | .resetreq _ => none
  | .ashpitDumpDone _ => none
  | .resetDrained _ => none
  | .resetRearm _ => none
  | .queueEnable _ _ => none
  | .queueDisable _ _ => none
  | .queueStopped _ => none
  | .kick _ _ => none
  | .kcconsWrite _ _ => none
  | .faultQueueEnable _ _ => none
  | .fqconsWrite _ _ => none
  | .faultRetry _ _ => none
  | .faultAbort _ _ => none
  | .fqrespAbortStore _ _ => none
  | .dieScratchRequest _ _ => none
  | .dieScratchGrant _ => none
  | .ashbaseWrite _ _ => none
  | .checkpoint _ _ => none
  | .checkpointArmed _ => none
  | .checkpointCommit _ _ => none
  | .restore _ _ _ => none
  | .restoreComplete _ => none
  | .partcfgWrite _ => none
  | .fwlogClear _ _ => none
  | .dscarveWrite _ _ => none
  | .fabcfgWrite _ => none
  | .portEnable _ _ => none
  | .portDisable _ _ => none
  | .ptxtailWrite _ _ => none
  | .prxtailWrite _ _ => none
  | .frameSent _ _ => none
  | .frameReceived _ _ _ => none
  | .registerWrite _ => none
  | .hostWrite _ => none
  | .hostRead _ => none
  | .dispatchDecision _ _ => none
  | .sliceEnd _ _ => none
  | .damperWindowEnd _ => none
  | .bankPowerGate _ _ => none
  | .forwardProgressSwap _ => none
  | .queueWatchdog _ => none
  | .sempollTick _ => none
  | .waitsemTimeout _ => none
  | .launchRecordComplete _ _ => none
  | .systemCopyComplete _ _ => none
  | .fenceqComplete _ _ => none
  | .workgroupEnd _ => none
  | .gridEnd _ => none
  | .loadComplete _ _ => none
  | .storeOrderingPoint _ _ => none
  | .trackedStoreComplete _ _ => none
  | .waitResume _ => none
  | .bwaitComplete _ => none
  | .mwaitReread _ => none
  | .qpopResume _ => none
  | .qpushResume _ => none
  | .queueOpComplete _ _ => none
  | .tagWaitComplete _ => none
  | .gstepResume _ => none
  | .vldstepWake _ _ => none
  | .haloWaitExpire _ _ => none
  | .copySectorComplete _ _ _ => none
  | .copyComplete _ _ => none
  | .copyDeferredStart _ _ => none
  | .streamPush _ _ => none
  | .matrixOpStart _ => none
  | .tileOpComplete _ _ => none
  | .faultPostResume _ => none
  | .pageMigrationComplete _ _ => none
  | .parkedReplay _ _ => none
  | .handlerEntry _ => none
  | .asyncTrap _ => none
  | .sliceBudgetExpire _ => none
  | .contextSave _ => none
  | .gangKill _ => none
  | .gangRelaunch _ _ => none
  | .engineDrained _ _ => none
  | .sharedFrameRepair _ _ _ _ => none
  | .irqCoalesceTimeout _ => none
  | .remoteRequest _ => none
  | .remoteResponse _ _ => none
  | .remoteLoadTimeout _ => none
  | .remoteWriteFailure _ => none
  | .wcAgeFlush _ _ => none
  | .stationStateChange _ _ => none
  | .channelSeal _ _ => none
  | .sealedFlitReceive _ _ _ => none
  | .sealedAckTimer _ _ => none
  | .flitResendTimeout _ _ => none
  | .keyRollover _ _ => none
  | .fluePush _ _ _ => none
  | .slabRetag _ _ _ => none
  | .flueCounterUpdate _ _ _ _ => none
  | .gstepCredit _ _ => none
  | .flueStateDelete _ _ => none
  | .heartbeatExpire _ => none
  | .takeoverHandover _ => none
  | .controlTimerTick => none
  | .coreReloadComplete _ _ _ => none
  | .securityCoreRestart _ => none
  | .fusedSoftmax _ => none
  | .nop => none
  | .exit => none
  | .yield => none
  | .trap _ => none
  | .tret => none
  | .prio _ => none
  | .wait _ => none
  | .launch _ _ => none
  | .halt => none
  | .wfi => none
  | .srd _ _ => none
  | .swr _ _ => none
  | .sadd _ => none
  | .ssub _ => none
  | .smul _ => none
  | .smulhS _ => none
  | .smulhN _ => none
  | .sdivS _ => none
  | .sdivN _ => none
  | .sremS _ => none
  | .sremN _ => none
  | .sand _ => none
  | .sor _ => none
  | .sxor _ => none
  | .sandn _ => none
  | .sshl _ => none
  | .sshrS _ => none
  | .sshrN _ => none
  | .srotr _ => none
  | .sminS _ => none
  | .sminN _ => none
  | .smaxS _ => none
  | .smaxN _ => none
  | .sclz _ => none
  | .sffs _ => none
  | .spopc _ => none
  | .sbrev _ => none
  | .ssel _ => none
  | .scmp _ => none
  | .sext _ => none
  | .smov _ => none
  | .sbfx _ => none
  | .sbfi _ => none
  | .smad _ => none
  | .saddi _ => none
  | .sandi _ => none
  | .sori _ => none
  | .sxori _ => none
  | .sshli _ => none
  | .sshriS _ => none
  | .sshriN _ => none
  | .sli _ => none
  | .slih _ => none
  | .scmpi _ => none
  | .br _ => none
  | .brz _ => none
  | .brnz _ => none
  | .brc _ => none
  | .call _ => none
  | .jmpr _ => none
  | .callr _ => none
  | .ret _ => none
  | .brp _ => none
  | .loop _ => none
  | .sld _ => none
  | .sst _ => none
  | .satom _ => none
  | .vadd _ => none
  | .vsub _ => none
  | .vmul _ => none
  | .vmulh _ => none
  | .vmad _ => none
  | .vadds _ => none
  | .vsubs _ => none
  | .vabsd _ => none
  | .vmin _ => none
  | .vmax _ => none
  | .vand _ => none
  | .vor _ => none
  | .vxor _ => none
  | .vandn _ => none
  | .vnot _ => none
  | .vshl _ => none
  | .vshr _ => none
  | .vrotr _ => none
  | .vclz _ => none
  | .vffs _ => none
  | .vpopc _ => none
  | .vbrev _ => none
  | .vsel _ => none
  | .vcmp _ => none
  | .vaddmin _ => none
  | .vbfx _ => none
  | .vbfi _ => none
  | .vmov _ => none
  | .vsrd _ => none
  | .vintiVadd _ => none
  | .vintiVand _ => none
  | .vintiVor _ => none
  | .vintiVxor _ => none
  | .vintiVshl _ => none
  | .vintiVshr _ => none
  | .vintiVmin _ => none
  | .vintiVmax _ => none
  | .vintiVcmp _ => none
  | .vmovi _ => none
  | .vintiVaddmin _ => none
  | .fadd _ => none
  | .fsub _ => none
  | .fmul _ => none
  | .ffma _ => none
  | .ffms _ => none
  | .fmin _ => none
  | .fmax _ => none
  | .fabs _ => none
  | .fneg _ => none
  | .fcmp _ => none
  | .fclass _ => none
  | .fscaleb _ => none
  | .frnd _ => none
  | .fdiv _ => none
  | .faddmin _ => none
  | .cvt _ => none
  | .pack _ => none
  | .unpack _ => none
  | .mxscale _ => none
  | .vshfl _ => none
  | .vshup _ => none
  | .vshdn _ => none
  | .vrotw _ => none
  | .vbcast _ => none
  | .vreduce _ => none
  | .vscan _ => none
  | .qswap _ => none
  | .qbcast _ => none
  | .vballot _ => none
  | .vvote _ => none
  | .vmatch _ => none
  | .pand _ => none
  | .por _ => none
  | .pxor _ => none
  | .pnot _ => none
  | .pset _ => none
  | .pget _ => none
  | .frcp _ => none
  | .frsq _ => none
  | .fsqrt _ => none
  | .fexp2 _ => none
  | .flog2 _ => none
  | .fsin _ => none
  | .fcos _ => none
  | .ftanh _ => none
  | .vld _ => none
  | .vst _ => none
  | .vgather _ => none
  | .vscatter _ => none
  | .vldstep _ => none
  | .vpref _ => none
  | .vspill _ => none
  | .vfill _ => none
  | .vatom _ => none
  | .vred _ => none
  | .fence _ => none
  | .binit _ => none
  | .barrive _ => none
  | .bwait _ => none
  | .btest _ => none
  | .wsync _ => none
  | .cvinit _ => none
  | .mwait _ => none
  | .qpush _ => none
  | .qpop _ => none
  | .qpops _ => none
  | .qstat _ => none
  | .mma _ => none
  | .mmas _ => none
  | .mmai _ => none
  | .mmax _ => none
  | .awin _ => none
  | .azero _ => none
  | .ald _ => none
  | .ast _ => none
  | .arstat _ => none
  | .cpy _ => none
  | .cpyg _ => none
  | .cpyz _ => none
  | .sealRecord _ => none
  | .strdef _ => none
  | .strrun _ => none
  | .twany _ => none
  | .twall _ => none
  | .tfirst _ => none
  | .tclr _ => none
  | .gattach _ => none
  | .gstep _ => none
  | .gstat _ => none
  | .gdetach _ => none
  | .kscan _ => none
  | .jappend _ => none
  | .jread _ => none
  | .vdrd _ => none
  | .vdwr _ => none
  | .qrd _ => none
  | .qwr _ => none
  | .irtrd _ => none
  | .irtwr _ => none
  | .vdcmdStart _ => none
  | .vdcmdRetire _ => none
  | .vdcmdKill _ => none
  | .irqsend _ => none
  | .chold _ => none
  | .crelease _ => none
  | .cMov o => some ((packCompact 0 o).setWidth 32)
  | .cAddS32 o => some ((packCompact 1 o).setWidth 32)
  | .cSubS32 o => some ((packCompact 2 o).setWidth 32)
  | .cAnd o => some ((packCompact 3 o).setWidth 32)
  | .cOr o => some ((packCompact 4 o).setWidth 32)
  | .cXor o => some ((packCompact 5 o).setWidth 32)
  | .cShlN32 o => some ((packCompact 6 o).setWidth 32)
  | .cShrN32 o => some ((packCompact 7 o).setWidth 32)
  | .cFaddF32 o => some ((packCompact 8 o).setWidth 32)
  | .cFsubF32 o => some ((packCompact 9 o).setWidth 32)
  | .cFmulF32 o => some ((packCompact 10 o).setWidth 32)
  | .cFminF32 o => some ((packCompact 11 o).setWidth 32)
  | .cFmaxF32 o => some ((packCompact 12 o).setWidth 32)
  | .cMinS32 o => some ((packCompact 13 o).setWidth 32)
  | .cMaxS32 o => some ((packCompact 14 o).setWidth 32)
  | .cNot o => some ((packCompact 15 o).setWidth 32)
  | .nopShort => some (packSys 1 0)
  | .exitShort => some (packSys 2 0)
  | .yieldShort => some (packSys 3 0)
  | .trapShort c => some (packSys 4 c)
  | .tretShort => some (packSys 5 0)
  | .prioShort n => some (packSys 6 (n.setWidth 16))
  | .haltShort => some (packSys 9 0)
  | .wfiShort => some (packSys 10 0)
  | .vaddS32Short o => some (packV3 1 o)
  | .vsubS32Short o => some (packV3 2 o)
  | .vmulS32Short o => some (packV3 3 o)
  | .vminS32Short o => some (packV3 4 o)
  | .vmaxS32Short o => some (packV3 5 o)
  | .vminN32Short o => some (packV3 6 o)
  | .vmaxN32Short o => some (packV3 7 o)
  | .vandShort o => some (packV3 8 o)
  | .vorShort o => some (packV3 9 o)
  | .vxorShort o => some (packV3 10 o)
  | .vshlN32Short o => some (packV3 11 o)
  | .vshrN32Short o => some (packV3 12 o)
  | .vshrS32Short o => some (packV3 13 o)
  | .faddF32Short o => some (packV3 14 o)
  | .fsubF32Short o => some (packV3 15 o)
  | .fmulF32Short o => some (packV3 16 o)
  | .fminF32Short o => some (packV3 17 o)
  | .fmaxF32Short o => some (packV3 18 o)
  | .faddBf16x2Short o => some (packV3 19 o)
  | .fmulBf16x2Short o => some (packV3 20 o)
  | .vselShort o => some (packV3 21 o)
  | .vshflShort o => some (packV3 22 o)
  | .vaddminS32Short o => some (packV3 23 o)
  | .ffmaF32Short o => some (packV3 24 o)
  | .ffmaBf16x2Short o => some (packV3 25 o)
  | .vcmpLtS32Short o => some (packV3 26 o)
  | .fcmpLtF32Short o => some (packV3 27 o)
  | .vintiVaddShort o => some (packVI 28 o)
  | .vintiVandShort o => some (packVI 29 o)
  | .vintiVshlShort o => some (packVI 30 o)
  | .vintiVshrN32Short o => some (packVI 31 o)
  | .vintiVshrS32Short o => some (packVI 32 o)
  | .vintiVminShort o => some (packVI 33 o)
  | .vintiVmaxShort o => some (packVI 34 o)
  | .vintiVcmpEqShort o => some (packVI 35 o)
  | .saddShort o => some (packS3 0 o)
  | .ssubShort o => some (packS3 1 o)
  | .smulShort o => some (packS3 2 o)
  | .smulhSShort o => some (packS3 3 o)
  | .smulhNShort o => some (packS3 4 o)
  | .sdivSShort o => some (packS3 5 o)
  | .sdivNShort o => some (packS3 6 o)
  | .sremSShort o => some (packS3 7 o)
  | .sremNShort o => some (packS3 8 o)
  | .sandShort o => some (packS3 9 o)
  | .sorShort o => some (packS3 10 o)
  | .sxorShort o => some (packS3 11 o)
  | .sandnShort o => some (packS3 12 o)
  | .sshlShort o => some (packS3 13 o)
  | .sshrSShort o => some (packS3 14 o)
  | .sshrNShort o => some (packS3 15 o)
  | .srotrShort o => some (packS3 16 o)
  | .sminSShort o => some (packS3 17 o)
  | .sminNShort o => some (packS3 18 o)
  | .smaxSShort o => some (packS3 19 o)
  | .smaxNShort o => some (packS3 20 o)
  | .sclzShort o => some (packS3 21 o)
  | .sffsShort o => some (packS3 22 o)
  | .spopcShort o => some (packS3 23 o)
  | .sbrevShort o => some (packS3 24 o)
  | .sselShort o => some (packS3 25 o)
  | .scmpShort o => some (packS3 26 o)
  | .sextShort o => some (packS3 27 o)
  | .smovShort o => some (packS3 28 o)
  | .sbfxShort o => some (packS3 29 o)
  | .sbfiShort o => some (packS3 30 o)
  | .smadShort o => some (packS3 31 o)
  | .saddiShort d a i => some (i ++ a ++ d ++ (40 : BitVec 6) ++ (1 : BitVec 2) : BitVec 32)
  | .sliShort d i => some (i ++ d ++ (41 : BitVec 6) ++ (1 : BitVec 2) : BitVec 32)
  | .sld64Short d a i => some (i ++ a ++ d ++ (42 : BitVec 6) ++ (1 : BitVec 2) : BitVec 32)
  | .sst64Short d a i => some (i ++ a ++ d ++ (43 : BitVec 6) ++ (1 : BitVec 2) : BitVec 32)
  | .vld32Short o => some (packVM 0x2C o)
  | .vst32Short o => some (packVM 0x2D o)
  | .brShort f => some (f ++ (46 : BitVec 6) ++ (1 : BitVec 2) : BitVec 32)
  | .callShort f => some (f ++ (47 : BitVec 6) ++ (1 : BitVec 2) : BitVec 32)
  | .brzShort a f => some (f ++ (0 : BitVec 1) ++ a ++ (48 : BitVec 6) ++ (1 : BitVec 2) : BitVec 32)
  | .brnzShort a f => some (f ++ (1 : BitVec 1) ++ a ++ (48 : BitVec 6) ++ (1 : BitVec 2) : BitVec 32)
  | .brpShort p n f => some (f ++ BitVec.ofBool n ++ p ++ (49 : BitVec 6) ++ (1 : BitVec 2) : BitVec 32)
  | .waitShort o => some (o.tiles ++ o.copies ++ o.stores ++ o.loads ++ (50 : BitVec 6) ++ (1 : BitVec 2) : BitVec 32)
  | .unknownOpCommand => none
  | .mirrorCopyFinished _ _ => none

/-- The bytes of an instruction's encoding and its bits; none for an event and for the fused idiom. -/
def encode (i : Instr) : Option (Nat × BitVec 64) :=
  match i.form with
  | none => none
  | some f =>
    match encodeShort i with
    | some w => some (f.len, w.setWidth 64)
    | none => some (8, packGeneral f.cls f.fn f.lay)

end Sys2Proof
end

