-- ==== Sys2Proof/Machine/Fetch.lean ====
section
/-! DEFINITION. Fetching an instruction's parcels (06 R149) and recognising the fused idiom (06 R170). -/

namespace Sys2Proof.Machine

/-- What fetching one parcel comes to (06 R149). -/
inductive Parcel where
  | bytes (bs : List Byte) (p : Option Prov)
  | permission
  | absent (f : AbsentAt)
  deriving DecidableEq, Repr

/-- Whether a PC is one that may be translated: bit 63 clear and canonical (06 R149). -/
def pcCanonical (pc : Word) : Bool := fieldN pc 63 57 == 0

/-- Fetches the parcel at a PC (06 R149; 19 R420). A leaf that targets the fabric gives PERMISSION (log 12). A parcel written since
is always fetched with its new contents, where 06 R150 also allows the old ones (DESIGN CHOICE, log 85). -/
def State.fetchParcel (s : State) (a : AgentId) (pc : Word) : Parcel × State :=
  match a with
  | .ctl c => if pc.toNat < 0x40000 then (.bytes (s.readBytes ⟨.inst c, pc.toNat⟩ 2) none, s) else (.permission, s)
  | _ =>
    match s.place a (.virt pc.toNat) 2 Need.fetch with
    | (.ok l, s) => if l.space == .fabric then (.permission, s) else (.bytes (s.readBytes l 2) (s.poisonOf l 2), s)
    | (.cause _ _, s) => (.permission, s)
    | (.absent f, s) => (.absent f, s)

/-- Fetches `n` parcels from a PC on. -/
def State.fetchParcels (s : State) (a : AgentId) (pc : Word) : Nat → List Parcel × State
  | 0 => ([], s)
  | n + 1 =>
    let (ps, s) := s.fetchParcels a pc n
    let (p, s) := s.fetchParcel a (pc + BitVec.ofNat 64 (2 * n))
    (ps ++ [p], s)

/-- What fetching an instruction comes to: its bytes, a trap, or a wait for a page. -/
inductive Fetched where
  | bytes (bs : List Byte)
  | cause (c : Cause) (p : Option Prov)
  | absent (f : AbsentAt)
  deriving DecidableEq, Repr

/-- The first outcome of 06 R149 that applies to some parcels. -/
def fetchOutcome (ps : List Parcel) : Fetched :=
  if ps.contains .permission then .cause .permission none
  else
    match ps.findSome? fun p => match p with | .absent f => some f | _ => none with
    | some f => .absent f
    | none =>
      match lowestProv (ps.map fun p => match p with | .bytes _ q => q | _ => none) with
      | some q => .cause .poison (some q)
      | none => .bytes (ps.flatMap fun p => match p with | .bytes bs _ => bs | _ => [])

/-- Fetches the instruction at a PC for an agent. -/
def State.fetch (s : State) (a : AgentId) (pc : Word) : Fetched × State :=
  let ctl := match a with | .ctl _ => true | _ => false
  if !ctl && !pcCanonical pc then (.cause .permission none, s)
  else
    match s.fetchParcel a pc with
    | (.bytes bs q, s) =>
      let n := instrLength (BitVec.ofNat 16 (leN bs)) / 2
      let (ps, s) := s.fetchParcels a (pc + 2) (n - 1)
      (fetchOutcome (.bytes bs q :: ps), s)
    | (p, s) => (fetchOutcome [p], s)

/-- The owner of a fetch fault record; a stoker thread is numbered 64. -/
def fetchOwner (a : AgentId) : ParkOwner :=
  match a with
  | .warp g w => .fetch g w
  | .stoker g => .fetch g 64
  | .ctl _ => .fetch 0 0

/-- A fetch that meets an absent page: the head waits at its PC under a fault record, or traps PERMISSION when no one will
answer (06 R149; 12 R311, R312). -/
def State.fetchWait (s : State) (f : AbsentAt) : State :=
  let a := s.cur
  let vd := s.vdOf a
  let g := (groupOf a).getD 0
  if (s.vd vd).faults.any fun r => r.owner == fetchOwner a && r.page == f.page / 4096 && !r.answered then s
  else if s.faultAborts vd f then (s.abortNow vd).trap .permission
  else
    s.parkUnder vd f ⟨8, (s.launchOf g).ktag, (s.queue (s.grid (s.group g).grid).queue).local_.toNat, 0, true, false,
      s.headMask⟩ (fetchOwner a) s.headMask

/-- Fetches and decodes at a PC, for the fused idiom. -/
noncomputable def State.formAt (s : State) (a : AgentId) (pc : Word) : Option Form :=
  match (s.fetch a pc).1 with
  | .bytes bs =>
    match decodeBytes bs with
    | .ok (i, _) => i.form
    | .error _ => none
  | _ => none

/-- The fused operation that four adjacent forms make, if they do (06 R170). -/
def fusedOf (f1 f2 f3 f4 : Form) : Option FusedOp :=
  match f1.lay, f2.lay, f3.lay, f4.lay with
  | .v a, .v b, .v c, .v d =>
    let o : FusedOp := ⟨a.p, a.pneg, d.rnd, a.vd, a.va, b.vd, c.vd, d.vd, f1.len, f2.len, f3.len, f4.len⟩
    if o.forms == [f1, f2, f3, f4] && o.vm != o.vx then some o else none
  | _, _, _, _ => none

/-- The fused operation at the head of a warp, if every condition of 06 R170 holds. -/
noncomputable def State.fusedAt (s : State) (a : AgentId) (f1 : Form) : Option FusedOp :=
  match a with
  | .warp g wn =>
    let w := s.warp g wn
    let pc := w.head.pc
    let pc2 := pc + BitVec.ofNat 64 f1.len
    match s.formAt a pc2 with
    | none => none
    | some f2 =>
      let pc3 := pc2 + BitVec.ofNat 64 f2.len
      match s.formAt a pc3 with
      | none => none
      | some f3 =>
        let pc4 := pc3 + BitVec.ofNat 64 f3.len
        match s.formAt a pc4 with
        | none => none
        | some f4 =>
          match fusedOf f1 f2 f3 f4 with
          | none => none
          | some o =>
            if (w.frontier.drop 1).any (fun e => e.pc == pc2 || e.pc == pc3 || e.pc == pc4) then none
            else if o.forms.all fun f => vectorsOk f (s.group g).vregs then some o else none
  | _ => none

/-- Whether an instruction of an agent has issued, from the states before and after it: it has moved on, or is a branch that came back
to its PC; one that waits at its PC, or has begun to wait, has not (16 R376). -/
def State.issued (s s' : State) (a : AgentId) (f : Option Form) : Bool :=
  let branch := match f with | some f => f.cls == 0x03 | none => false
  (s'.agent a).wait.isNone && match a with
    | .warp g w => branch || (s'.warp g w).frontier != (s.warp g w).frontier || (s'.warp g w).held != (s.warp g w).held
    | _ => branch || s'.pcOf a != s.pcOf a

/-- Counts an instruction issued after a halt broadcast, or a reset's freeze, that has not settled (16 R376). -/
def State.countSkid (s : State) (a : AgentId) : State :=
  match groupOf a with
  | none => s
  | some g =>
    match (s.group g).halt with
    | some (.trap false) | some (.slice false _) | some (.frozen false) => s.updAgent a fun x => { x with skid := x.skid + 1 }
    | _ => s

/-- Records whether an agent's head has issued (04 R112, R126), and counts its skid. -/
def State.noteIssue (s : State) (a : AgentId) (done skid : Bool) : State :=
  let s := if skid then s.countSkid a else s
  if (s.agent a).stalled == !done then s else s.updAgent a fun x => { x with stalled := !done }

/-- The agent that issues when nothing is scheduled: the first that can (log 13). -/
def State.nextAgent (s : State) : Option AgentId :=
  let ctl := (s.ctl.map fun e => AgentId.ctl e.1)
  let tenants := s.groups.flatMap fun e => (List.range e.2.warps.length).map (AgentId.warp e.1) ++ [AgentId.stoker e.1]
  (tenants ++ ctl).find? fun a => s.canIssue a

/-- Whether an instruction is an event of the opcode table. -/
def Instr.isEvent (i : Instr) : Bool :=
  match i with
  | .fusedSoftmax _ => false
  | i => i.form.isNone

/-- Whether an event can take place while everything outside the always-on domain is off, in BANKED and LEAVING (01 R29, R30):
the upkeep events, what the security core and the PF registers answer, kicks, and the host's own accesses. Every other VF
access is without effect. -/
def Instr.alwaysOn (i : Instr) : Bool :=
  match i with
  | .packageReset | .pcieConfigRequest | .enterBanked | .leaveBanked | .bankedExitComplete _ | .powerWindowEnd _
  | .thermalSample _ | .powerOnHour | .hbmRefreshRaise | .spdmRequest _ | .measurementRequest _ _ | .lifeCycleChange _
  | .create | .destroy | .reset | .setshare | .query | .sharemap | .unknownOpCommand | .partcfgWrite _ | .fwlogClear _ _
  | .dscarveWrite _ _ | .fabcfgWrite _ | .portEnable _ _ | .portDisable _ _ | .ptxtailWrite _ _ | .prxtailWrite _ _
  | .registerWrite _ | .kick _ _ | .hostWrite _ | .hostRead _ | .stationStateChange _ _ | .heartbeatExpire _
  | .controlTimerTick | .securityCoreRestart _ => true
  | _ => false

/-- Whether the machine takes an event now. -/
def State.takes (s : State) (i : Instr) : Bool :=
  Instr.isEvent i && (Instr.alwaysOn i || !(s.power.state == 3 || s.power.state == 4))

end Sys2Proof.Machine
end

