-- ==== Sys2Proof/Machine/Place.lean ====
section
/-! DEFINITION. Placing one instruction where the next step fetches it, for an agent that may execute it: a control core's
SRAM at PC 0, or a tenant program at virtual address 0x1000 of a LIVE VD with identity tables and one workgroup (log 14). -/

namespace Sys2Proof.Machine

/-- The agent that may execute a form (06 R169; 19 R425). -/
def agentFor (f : Option Form) : AgentId :=
  match f with
  | none => .warp 1 0
  | some f =>
    if f.cls == 0x1E then
      match f.lay with
      | .s o => .ctl (2 * ((ctlcRoles f.fn o.cw).headD 0))
      | _ => .ctl 0
    else if f.cls == 0x1C then .stoker 1
    else if f.cls == 0 && (f.fn == 9 || f.fn == 10) then .ctl 0
    else .warp 1 0

/-- A page-table word at an HBM address. -/
def putHbm (m : Memory) (a v : Nat) : Memory :=
  (List.range 8).foldl (fun m i => memSet m (a + i) (BitVec.ofNat 8 (v / 256 ^ i))) m

/-- The launch record of the placed workgroup: one warp of 64 threads, 128 registers, 4 KiB of scratchpad with queue 0 of
2 entries of 16 bytes, 128 accumulator rows, an argument block at 0 and a spill area. -/
def placedRecord : LaunchRec :=
  ⟨[0x1000, 0x1000, 0x0001000100000001, BitVec.ofNat 64 (64 + 2 ^ 11 + 2 ^ 22 + 128 * 2 ^ 40),
    BitVec.ofNat 64 (4096 + 128 * 2 ^ 32), 1, 0, 0, 0, 0, 0, 0x8000, 4096, 0, 0, 0], 0⟩

/-- The placed warp, its generators seeded with the TIDs (05 R139). -/
def placedWarp : Warp := { Warp.start with
  frontier := [⟨0, 0x1000, BitVec.allOnes 64⟩]
  gens := (List.range 64).map fun l => (l, seedOf 0 l)
  alimit := 128
  spillSp := 0x8000 }

/-- The placed workgroup. -/
def placedGroup : Group := { Group.start with
  vd := 1
  grid := 1
  residence := .resident
  extent := 4096 + 256
  vregs := 128
  queues := [(0, ⟨4096, 1, 4, 0, 0, 0, 0, [], []⟩)]
  warps := [placedWarp]
  segments := List.range 10
  stoker := some ⟨Agent.start, 0x1000, []⟩ }

/-- Tables for the placed VD in HBM: stage 2 at 0x40000000 maps the first GiB to HBM 0, stage 1 at 0x10000 is the identity. -/
def placedTables (m : Memory) : Memory :=
  let leaf := 0x1F + 0x60
  let m := putHbm m 0x10000 (0x11000 + 1)
  let m := putHbm m 0x11000 (0x12000 + 1)
  let m := putHbm m 0x12000 leaf
  let m := putHbm m 0x40000000 (0x40001000 + 1)
  let m := putHbm m 0x40001000 (0x40002000 + 1)
  putHbm m 0x40002000 leaf

/-- The placed VD: LIVE, owning global queue 0 and a share of 320 cores, its span 1 GiB. -/
def placedVd : Vd :=
  ((Vd.start.setWord 0 (BitVec.ofNat 64 (2 + 2 ^ 14 + 320 * 2 ^ 21))).setWord 1 0x40000000).setWord 2 (BitVec.ofNat 64 (2 ^ 32 + 512))

/-- Puts bytes at a key. -/
def putBytes (m : Memory) (k : Nat) (bs : List Byte) : Memory :=
  (List.range bs.length).foldl (fun m i => memSet m (k + i) (listGet 0 bs i)) m

/-- The state with the instruction placed and its agent scheduled. -/
def State.placed (s : State) (f : Option Form) (bs : List Byte) : State :=
  let a := agentFor f
  let s := { s with inputs := .issue a :: s.inputs }
  match a with
  | .ctl c => { s.setCtl c { s.ctlCore c with pc := 0, halted := false, agent := Agent.start } with
      mem := putBytes s.mem (Loc.key ⟨.inst c, 0⟩) bs }
  | _ => { s with
      vds := Table.put 1 placedVd s.vds
      queues := Table.put 0 { Queue.start with vd := 1, qs1 := 0x10000, state := 1 } s.queues
      grids := Table.put 1 { Grid.start with vd := 1, record := placedRecord, placed := 1, ended := false } s.grids
      groups := Table.put 1 placedGroup s.groups
      mem := putBytes (placedTables s.mem) 0x1000 bs }

end Sys2Proof.Machine
end

