-- ==== Sys2Proof/Machine/Strike.lean ====
section
/-! DEFINITION. Storage errors: what a read that finds one leaves (04 R119; 17 R390, R391, R395; 19 R422, R430). -/

namespace Sys2Proof.Machine

/-- The tag of a new error record for an uncorrectable error at a unit (17 R391). -/
def State.upsetTag (s : State) (unit : Nat) : Prov × State := s.newError unit 0x07 none

/-- The HBM frame of a shared slot that holds a place, if it lies in one (17 R401). -/
def State.sharedFrame (s : State) (l : Loc) : Option Nat :=
  if l.space == .hbm && s.frames.any fun e => (match e.2.owner with | .slot _ => true | _ => false) &&
      decide (e.1 ≤ l.off / 4096) && decide (l.off / 4096 < e.1 + e.2.len)
  then some (l.off / 4096) else none

/-- A place becomes poisoned; poison that it holds keeps the lower tag (17 R390). In a shared frame the fault pair is still to act
(R401). Answers the tag of the new record. -/
def State.upsetAs (s : State) (l : Loc) (unit : Nat) : Prov × State :=
  let (p, s) := s.upsetTag unit
  let s : State := match s.sharedFrame l with
    | some f => { s with errors := s.errors.map fun e => if e.index == p.toNat % 128 then { e with
        shared := some f
        closed := false } else e }
    | none => s
  (p, s.setPoison l (minProv (s.poisonAt l) (some p)))

def State.upsetAt (s : State) (l : Loc) (unit : Nat) : State := (s.upsetAs l unit).2

/-- A table of tags with one more at a key, the lower of two. -/
def addTag (t : Table Prov) (k : Nat) (p : Prov) : Table Prov := Table.put k ((minProv (Table.look t k) (some p)).getD p) t

/-- The die of an agent's core; a control core has none. -/
def State.agentDie (s : State) (a : AgentId) : Nat := match groupOf a with | some g => dieOf (s.group g).core | none => 0

/-- The cause of a code of 07 R200; a number without one reads as ILLEGAL (log 94). -/
def causeOf (n : BitVec 8) : Cause :=
  ([Cause.wrongAgent, .priv, .misalign, .permission, .rangeLock, .poison, .notPresent, .haloStale, .layoutSeal, .accWindow, .syncMask,
    .software, .sliceEnd, .integrity, .queueFault, .watchdog].find? fun c => c.code == n.toNat).getD .illegal

/-- A read finds a storage error. A register of an effective mirror with one bad copy is rewritten from the other, counted (17 R400)
and logged; a correctable sector error is corrected and logged; an instruction of a running control core gives machine check 1, and
the entry of a journal is uncorrectable in every copy from then on. An uncorrectable error in a table entry of a VD starts a scoped reset
with REASON 5 (R409), and a mismatch of an integrity tag one with REASON 3 (R395). A failure attributed to a gang kills it (R396).
Everything else is poisoned with the tag of its unit. -/
def State.strike (s : State) (u : Upset) : State :=
  match u with
  | .register g w n lane both =>
    let x := s.group g
    if x.residence != .resident || x.warps.length ≤ w || x.vregs ≤ n || 64 ≤ lane then s
    else if (s.warp g w).mirror && !both then
      (s.updVd x.vd fun v => { v with mirFix := addSat v.mirFix 1 }).logEvent 0x18 x.vd
    else
      let (p, s) := s.upsetTag (10 + dieOf x.core)
      s.updWarp g w fun y => { y with vpoison := addTag y.vpoison (vkey n lane) p }
  | .scalar a r =>
    if r == 0 || 96 ≤ r || !s.live a then s
    else
      let (p, s) := s.upsetTag (12 + s.agentDie a)
      s.updAgent a fun y => { y with spoison := addTag y.spoison r p }
  | .preds g w lane =>
    if !s.live (.warp g w) || 64 ≤ lane then s
    else
      let (p, s) := s.upsetTag (12 + dieOf (s.group g).core)
      s.updWarp g w fun y => { y with ppoison := addTag y.ppoison lane p }
  | .accumulator core row elem =>
    let (p, s) := s.upsetTag (14 + dieOf core)
    s.updCore core fun c => { c with accPoison := addTag c.accPoison (row % 2048 * 64 + elem % 64) p }
  | .scratch g off =>
    let x := s.group g
    if !(x.residence == .resident || x.residence == .kept true) || x.extent ≤ off then s else s.upsetAt ⟨.scratch g, off⟩ (10 + dieOf x.core)
  | .sector addr corrected =>
    if corrected then s.logEvent 0x18 0 else s.upsetAt ⟨.hbm, addr⟩ (addr / (48 * 2 ^ 30) % 8)
  | .table vd addr =>
    let l : Loc := ⟨.hbm, addr⟩
    let (p, s) := s.upsetAs l (addr / (48 * 2 ^ 30) % 8)
    s.startReset vd .tableError true 0 p
  | .cache addr => s.upsetAt ⟨.hbm, addr⟩ (8 + hbmDie addr)
  | .carve vd die off =>
    if (s.vd vd).dsGrant.toNat * 2 ^ 20 ≤ off then s else s.upsetAt ⟨.die vd (die % 2), off⟩ (8 + die % 2)
  | .instruction c => if s.live (.ctl c) then s.machineCheck c 1 else s
  | .mover addr => s.upsetAt ⟨.hbm, addr⟩ 22
  | .mismatch vd addr => (s.newError (addr / (48 * 2 ^ 30) % 8) 0x0F none).2.startReset vd .integrity true 0 0
  | .failed g cause =>
    if (s.group g).residence == .ended then s
    else s.updGroup g fun x => { x with doomed := some (x.doomed.getD (causeOf cause, 0)) }
  | .journal p seq => s.updPair p fun x => { x with badEntries := (seq % 8192) :: x.badEntries.filter fun k => k != seq % 8192 }

end Sys2Proof.Machine
end

