-- ==== Sys2Proof/Machine/Step.lean ====
section
/-! DEFINITION. One step of the machine: the next scheduled event, or the next instruction of an agent. -/

namespace Sys2Proof.Machine

/-- One instruction of an agent: fetched (06 R149), decoded or trapped ILLEGAL (R168), fused where R170 says so, executed. -/
noncomputable def stepAgent (a : AgentId) (s0 : State) : Host.Outcome State Fault Refusal :=
  let s := { s0 with cur := a }
  if !s.canIssue a then .next s
  else
    match s.fetch a (s.pcOf a) with
    | (.cause c p, s) => .next (s.trapWith c none p s.headMask 0 0 none)
    | (.absent f, s) => .next (s.fetchWait f)
    | (.bytes bs, s) =>
      match decodeBytes bs with
      | .error _ => .next (s.trap .illegal)
      | .ok (i, _) =>
        let fused := match i.form with | some f => s.fusedAt a f | none => none
        match exec (match fused with | some o => .fusedSoftmax o | none => i) s with
        | .next t =>
          let done := s.issued t a i.form
          .next (t.noteIssue a done (done && (s.group ((groupOf a).getD 0)).halt.isSome))
        | .fault r => .fault r
        | .refused r => .refused r

/-- One step: the head of the schedule, or with an empty schedule the first agent that can issue; the clock counts. -/
noncomputable def step (s : State) : Host.Outcome State Fault Refusal :=
  let s := { s with clk := s.clk + 1 }
  match s.inputs with
  | .issue a :: rest => stepAgent a { s with inputs := rest }
  | .strike u :: rest => .next ({ s with inputs := rest }.strike u)
  | .event e :: rest => if s.takes e then exec e { s with inputs := rest } else .next { s with inputs := rest }
  | [] =>
    match s.nextAgent with
    | some a => stepAgent a s
    | none => .next s

/-- The state in which the next step fetches and executes the instruction with bits `w` (log 14). -/
noncomputable def State.withFetchWord (s : State) (nbits w : Nat) : State :=
  s.placed ((decodeTableWord nbits w).bind Instr.form) (leBytes 8 (w % 2 ^ nbits))

end Sys2Proof.Machine
end

