-- ==== Sys2Proof/Safety.lean ====
section
/-! DEFINITION. What counts as a safe run: no step ever stops, and the state keeps its canonical form. -/

namespace Sys2Proof

/-- The canonical form of a state: memory and the poison of its granules are listed once each, in rising order. -/
def Machine.State.canonical (s : Machine.State) : Bool :=
  Machine.Memory.wf s.mem && Machine.Table.rising s.poison

/-- A run from `s` is safe when every one of its finite parts ends in a next state in canonical form. -/
def Safe (s : Machine.State) : Prop :=
  ∀ n : Nat, ∃ t : Machine.State, core.run n s = .next t ∧ t.canonical = true

end Sys2Proof
end

