-- ==== Sys2Proof/Certificates/Slice0/Obligations.lean ====
section
/-! DEFINITION. The statements for the provers, taken from the spec's numbered rules, and the tables they speak of. Statements of
one family are joined in one obligation after the last of them. -/

namespace Sys2Proof.Claims
end Sys2Proof.Claims

open Sys2Proof Sys2Proof.Machine Sys2Proof.Claims

namespace Sys2Proof.Claims

/-! What several statements say, and the completion of every event and engine instruction in few words: each does what its rule gives
it, in every state that meets the rule's conditions. The later statements say the rest. -/

/-- Executing `i` in `s` answers a next state, of which `P` holds. -/
def Does (i : Instr) (s : State) (P : State → Prop) : Prop := ∃ t : State, exec i s = .next t ∧ P t

/-- `i` is executed for its own effect: the decode checks of 06 R168 let it through for the agent that executes it, and no
scalar register that it consumes is poisoned (17 R392). -/
def Runs (i : Instr) (s : State) : Prop := ∃ f, i.form = some f ∧ s.decodeCause f = none ∧ s.scalarPoison f = none

/-- No paired execution is to differ: the executing agent's grid is not issued in pairs, or no mismatch is to come (17 R398). -/
def Unpaired (s : State) : Prop := s.pairing = [] ∨ ∀ g, groupOf s.cur = some g → (s.launchOf g).paired = false

/-- None of these places lies in a line that a walker has read (12 R299). -/
def Untracked (s : State) (ls : List Loc) : Prop := ∀ l ∈ ls, l.space = .hbm → Table.look s.tables (l.off / 64) = none

/-- Every byte but those at some places reads as before; a window is read at its own place. -/
def OtherBytes (s t : State) (ls : List Loc) : Prop :=
  ∀ l : Loc, (∀ q r, l.space ≠ .window q r) → (∀ x ∈ ls, l.key ≠ x.key) → t.readByte l = s.readByte l

/-- The bytes at some places are these. -/
def Holds (t : State) (ls : List Loc) (bs : List Byte) : Prop := ∀ i l, ls[i]? = some l → t.readByte l = listGet 0 bs i

/-- The state in which the lifecycle pair carries out a command with words `ws`: one that is latched, or one that a GO submits. -/
def Begins (s : State) (ws : List W32) (u : State) : Prop :=
  s.roleStopped 1 = false ∧
  ((s.pf.busy = some ⟨ws, false⟩ ∧ u = { s with pf := { s.pf with busy := some ⟨ws, true⟩ } }) ∨
   (s.pf.busy = none ∧ s.power.state = 1 ∧ ws = s.pf.cmdBuf ∧
    u = { s with pf := { s.pf with seq := s.pf.seq + 1, busy := some ⟨ws, true⟩ } }))

/-- Word `i` of a command; its OP and its VD. -/
def word (ws : List W32) (i : Nat) : Nat := (listGet 0 ws i).toNat
def opOf (ws : List W32) : Nat := word ws 0 % 256
def vdOf (ws : List W32) : Nat := word ws 0 / 2 ^ 16 % 512

/-- The bits of word 0 that must be 0 are. -/
def Clean (ws : List W32) : Prop := word ws 0 / 2 ^ 8 % 2 ^ 8 = 0 ∧ word ws 0 / 2 ^ 25 = 0

/-- Record `i` of queue `q` has completed with a status, and the queue's done bit is set. -/
def Completed (t : State) (q i status : Nat) : Prop :=
  (t.queue q).done = true ∧ ∀ r, (t.queue q).run i = some r → r.completed = true ∧ r.status = BitVec.ofNat 8 status

/-- Word `k` of a record. -/
def rw (r : RecordRun) (k : Nat) : Word := listGet 0 r.words k

/-- An operation has ended with a code (18 R419). -/
def EndedWith (t : State) (n e : Nat) : Prop := let v := t.vd n
  v.ckBusy = false ∧ v.ckDone = true ∧ v.ckErr = BitVec.ofNat 8 e ∧ v.ckRun = none

/-- The address of the next slot of a VD's fault ring (12 R307). -/
def ringSlot (v : Vd) : Nat := 4096 * (v.fqBase.toNat / 4096 % 2 ^ 40) + v.fqProd.toNat % 2 ^ v.fqSize.toNat * 32

/-- A counter of 01 R33 that counts up and stays at its largest value. -/
def counted (n : W32) : W32 := if n = 0xFFFFFFFF#32 then n else n + 1

end Sys2Proof.Claims

/-- 02 R41-R49, 03 R83, R84, 09 R234, R235, 17 R396, R397, R402-R409: every PF command, and every event in the life of a VD,
does what its rule says where that rule's conditions hold: CREATE, DESTROY, RESET, SETSHARE, QUERY, SHAREMAP and a command
with an unknown OP; the completion of a creation, a drain, a wipe, a dump, a reset; a gang's kill and its relaunch; a die
scratch request and grant, the ashpit's base, a queue's watchdog, and the filling and repair of shared frames. -/
def Obligations.DeviceEventsComplete : Prop :=
  (∀ (s u : State) (ws : List W32), Begins s ws u → Clean ws → let n := vdOf ws
    let v := u.vd n
    (opOf ws = 1 → v.state = 0 → word ws 1 < 64 → 1 ≤ word ws 3 → word ws 3 < 2 ^ 20 → word ws 6 ≤ 1 → u.pf.secDead = false →
      ∀ f, u.freeQueues (if word ws 1 = 0 then 64 else word ws 1) = some f → word ws 2 * 512 ≤ u.unpromised 0 →
      Does .create s fun t => (t.vd n).state = 1 ∧ (t.vd n).qfirst = f ∧ (t.vd n).hbmQuota = word ws 2 ∧ (t.vd n).vspan = word ws 3 ∧
        (t.vd n).weight = 100 ∧ (t.vd n).slice = 2000) ∧
    (opOf ws = 2 → v.state = 2 → Does .destroy s fun t => (t.vd n).state = 5 ∧ (t.vd n).kill = some allEngines) ∧
    (opOf ws = 3 → v.state = 2 → Does .reset s fun t => (t.vd n).state = 3 ∧ ∃ r, (t.vd n).reset = some r ∧ r.reason = .command) ∧
    (opOf ws = 4 → v.state = 2 → v.entry.length = 8 → 1 ≤ word ws 1 → word ws 1 ≤ 1024 → 50 ≤ word ws 2 → word ws 2 ≤ 100000 →
      1 ≤ word ws 5 → word ws 5 ≤ 160 → word ws 6 < 32 → Does .setshare s fun t => t.pf.busy = none ∧ t.pf.status = 0 ∧
        (t.vd n).weight = (if (word ws 6).testBit 0 then word ws 1 else v.weight) ∧
        (t.vd n).cores = (if (word ws 6).testBit 4 then word ws 5 else v.cores)) ∧
    (opOf ws = 5 → v.state ≠ 0 → Does .query s fun t => t.pf.busy = none ∧ t.pf.status = 0 ∧ t.pf.cmdBuf = listSet (listSet u.pf.cmdBuf 1
        (BitVec.ofNat 32 (v.state + v.qfirst * 2 ^ 8 + 2 ^ 18 * v.qcount))) 2 (BitVec.ofNat 32 ((u.framesOf (.vd n) + 511) / 512))) ∧
    (opOf ws = 6 → v.state = 2 → word ws 1 < 64 → word ws 2 % 4096 = 0 → 1 ≤ word ws 4 → word ws 4 ≤ 2 ^ 20 → word ws 5 % 2 ^ 21 = 0 →
      Table.look u.pf.slots (word ws 1) = none → u.pf.secDead = false → ∀ fs x, u.takeFrames (u.hardPart n) (word ws 1) (word ws 4) = some (fs, x) →
      Does .sharemap s fun t => t.frames = x.frames ∧ t.pf.slots = Table.put (word ws 1)
        ⟨BitVec.ofNat 64 (word ws 2 + 2 ^ 32 * word ws 3), word ws 4, decide (u.hardPart n = 1), fs, 0, false⟩ x.pf.slots) ∧
    (6 < opOf ws → exec .unknownOpCommand s = .next (u.complete 4))) ∧
  (∀ (s : State) (n : Nat), let v := s.vd n
    (∀ u, v.state = 1 → s.secWaits = false → s.roleStopped 1 = false → s.pf.secDead = false → s.buildStage2 n = some u → (u.vd n).state = 1 →
      Does (.createComplete n true) s fun t => (t.vd n).state = 2 ∧ t.pf.status = 0) ∧
    (v.state = 5 → v.kill = some [] → s.secWaits = false → s.roleStopped 1 = false → Does (.destroyDrained n) s fun t => (t.vd n).state = 6) ∧
    (v.state = 6 → n < 512 → Does (.wipeComplete n) s fun t => (t.vd n).state = 0) ∧
    (v.state = 2 → Does (.resetreq n) s fun t => (t.vd n).state = 3 ∧ ∃ r, (t.vd n).reset = some r ∧ r.reason = .request) ∧
    (∀ r, v.reset = some r →
      (v.state = 3 → s.roleStopped 2 = false → v.ashAt = 0 → Does (.ashpitDumpDone n) s fun t => (t.vd n).state = 4 ∧ (t.vd n).kill = some allEngines) ∧
      (v.state = 4 → v.kill = some [] → r.cleared = false →
        Does (.resetDrained n) s fun t => (t.vd n).reset = some { r with cleared := true } ∧ (t.vd n).faults = []) ∧
      (v.state = 4 → r.cleared = true → v.destroyPend = false → Does (.resetRearm n) s fun t => (t.vd n).state = 2 ∧ (t.vd n).reset = none ∧
        (t.vd n).resetCnt = if v.resetCnt = 255 then 255 else v.resetCnt + 1)) ∧
    (∀ e l, v.kill = some l → e ∈ l → Does (.engineDrained n e) s fun t => (t.vd n).kill = some (l.filter (· != e))) ∧
    (∀ w : W32, v.responds = true → Does (.dieScratchRequest n w) s fun t => (t.vd n).dsReq = w.setWidth 9) ∧
    (∀ r, v.dsPend = some r → s.roleStopped 1 = false → n < 512 → Does (.dieScratchGrant n) s fun t => (t.vd n).dsGrant = r ∧ (t.vd n).dsPend = none) ∧
    (∀ w : Word, v.responds = true → Does (.ashbaseWrite n w) s fun t => (t.vd n).ashBase = w &&& 0x000FFFFFFFFF0007)) ∧
  (∀ (s : State) (g : Nat), (s.group g).doomed ≠ none → (s.group g).residence ≠ .ended → Does (.gangKill g) s fun t =>
    ∀ m ∈ s.gangOf g, (t.group m).residence = .ended ∧ (t.group m).warps = []) ∧
  (∀ (s : State) (n gang : Nat), gang ∈ (s.grid n).relaunch → (s.grid n).ended = false → (s.grid n).killed = false →
    Table.look (s.grid n).poisons gang = none → Does (.gangRelaunch n gang) s fun t =>
      gang ∉ (t.grid n).relaunch ∧ (t.grid n).ready = (s.grid n).ready ++ [gang]) ∧
  (∀ (s : State) (q : Nat) (r : RecordRun), (s.queue q).headRun = some r → (s.vd (s.queue q).vd.toNat).works = true →
    (s.queue q).wdog (s.vd (s.queue q).vd.toNat) ≠ 0 → (s.vd (s.queue q).vd.toNat).expert = false →
    Does (.queueWatchdog q) s fun t => (t.queue q).hung = true ∧ (t.vd (s.queue q).vd.toNat).vdevt.getLsbD 3 = true) ∧
  ∀ (s : State) (slot : Nat) (x : SharedSlot), Table.look s.pf.slots slot = some x →
    (∀ ws, s.pf.busy = some ⟨ws, true⟩ → opOf ws = 6 → word ws 1 = slot → x.filled = false → s.secWaits = false → s.roleStopped 1 = false →
      s.pf.secDead = false → Does (.sharemapComplete slot) s fun t => ∃ u : State, (Table.look u.keys (512 + slot)).isSome = true ∧
        t = u.mapShared (vdOf ws) slot ((word ws 5 + 2 ^ 32 * word ws 6) / 4096) { x with filled := true }) ∧
    ∀ page, page < x.pages → s.roleStopped 2 = false → let f := listGet 0 x.frames page
      s.poisonOf ⟨.host, x.host.toNat + 4096 * page⟩ 4096 = none → Does (.sharedFrameRepair slot page true false) s fun t =>
        ∀ i < 4096, t.readByte ⟨.hbm, 4096 * f + i⟩ = s.readByte ⟨.host, x.host.toNat + 4096 * page + i⟩

/-- 00 R9-R12, 01 R20, 02 R56-R74, 03 R80, R81, R99, 09 R233, 13 R327, 15 R358, R371-R373: every event of the work queues, the
registers, the host and the Ethernet ports does what its rule says where that rule's conditions hold. -/
def Obligations.QueueEventsComplete : Prop :=
  (∀ (s : State) (q : Nat) (v : W32), let x := s.queue q
    (s.queueOpen q = true → x.state = 0 → x.qcfg.getLsbD 31 = false → 4 ≤ v.toNat % 2 ^ 5 → v.toNat % 2 ^ 5 ≤ 16 →
      4 ≤ v.toNat / 2 ^ 8 % 2 ^ 5 → v.toNat / 2 ^ 8 % 2 ^ 5 ≤ 16 → x.qbase.toNat / 2 ^ 6 % 2 ^ 46 ≠ 0 → x.cbase.toNat / 2 ^ 6 % 2 ^ 46 ≠ 0 →
      Does (.queueEnable q v) s fun t => (t.queue q).state = 1 ∧ (t.queue q).qcfg.getLsbD 31 = true ∧ (t.queue q).head = 0 ∧
        (t.queue q).tail = 0 ∧ (t.queue q).cprod = 0) ∧
    (s.queueOpen q = true → Does (.queueDisable q v) s fun t => (t.queue q).qcfg.getLsbD 31 = false ∧
      (t.queue q).state = if x.state = 0 then 0 else 5) ∧
    (s.queueOpen q = true → exec (.kick q v) s = .next (s.setQueue q { x with latch := v, kick := true })) ∧
    (s.queueOpen q = true → (x.cprod - v).toNat ≤ 2 ^ (x.qcfg.toNat / 2 ^ 8 % 2 ^ 5) →
      exec (.kcconsWrite q v) s = .next (s.setQueue q { x with kccons := v })) ∧
    (x.state = 5 → x.runs = [] → x.staged = [] → x.retiring = [] → exec (.queueStopped q) s = .next (s.setQueue q { x with state := 0 })) ∧
    (∀ r, x.runs.find? RecordRun.waits = some r → (rw r 3).toNat / 2 ^ 32 ≠ 0 →
      Does (.waitsemTimeout q) s fun t => Completed t q r.index.toNat 3) ∧
    (∀ (i : W32) r, x.run i.toNat = some r → r.completed = false →
      (recordKind r.words = 5 → Does (.fenceqComplete q i) s fun t => Completed t q i.toNat 0) ∧
      (∀ m, recordKind r.words = 1 → r.grid = some m → (∀ e ∈ s.grids, e.2.queue = q → e.2.index = i.toNat → e.2.ended = true) →
        Does (.launchRecordComplete q i) s fun t => ∃ (u : State) (e : Nat), t = u.semEvents (fun _ y => y.vd == x.vd) ∧ Completed u q i.toNat e) ∧
      (∀ u ts, recordKind r.words = 4 → r.moved = 0 → rw r 4 = 1 → 0 < (rw r 3).toNat → (rw r 1).toNat % 4096 + (rw r 3).toNat ≤ 4096 →
        (rw r 2).toNat % 4096 + (rw r 3).toNat ≤ 4096 →
        s.reachRecord q i.toNat (rw r 2).toNat (rw r 3).toNat Need.write = (.ok ts, u) → ts.length = (rw r 3).toNat → (ts.map Loc.key).Nodup →
        (∀ l ∈ ts, l.space = .hbm ∨ l.space = .host) → u.queues = s.queues → u.remote = [] → Untracked u ts → u.damps x.vd.toNat ts = false →
        Does (.systemCopyComplete q i) s fun t => Completed t q i.toNat 0 ∧ (∀ l ∈ ts, t.readByte l = 0) ∧ OtherBytes u t ts))) ∧
  (∀ (s : State) (vd : Nat), exec (.sempollTick vd) s =
    .next (((s.queues.filter fun e => e.2.vd.toNat == vd).map (·.1)).foldl State.semEvent s)) ∧
  (∀ (s : State) (n : Nat), (s.irtEntry n).pending ≠ 0 → (s.irtEntry n).word.getLsbD 32 = false →
    Does (.irqCoalesceTimeout n) s fun t => (t.irtEntry n).pending = 0 ∧ (t.irtEntry n).due = false) ∧
  (∀ (s : State) (v : W32), (∀ e ∈ s.vds, e.2.state = 0) → Does (.partcfgWrite v) s (fun t => t.pf.partMode = v.getLsbD 0) ∧
    Does (.fabcfgWrite v) s (fun t => t.pf.fabAcc = v.setWidth 10 ∧ t.pf.fabAge = v.extractLsb' 16 8 ∧ t.pf.fabSeal = v.getLsbD 12 ∧
      t.pf.fabWc = v.getLsbD 11) ∧
    ∀ d < 2, Does (.fwlogClear d v) s (fun t => t.pf.fwCount = listSet s.pf.fwCount d 0 ∧ t.pf.fwIrq = listSet s.pf.fwIrq d (v.getLsbD 1)) ∧
      Does (.dscarveWrite d v) s (fun t => t.pf.dsMib = listSet s.pf.dsMib d (BitVec.ofNat 9 (min 256 (v.toNat % 2 ^ 9))))) ∧
  (∀ (s : State) (v : Word), exec (.registerWrite (.pf 8 v 4)) s =
    .next { s with power := { s.power with capW := BitVec.ofNat 8 (min 180 (max 60 (v.toNat % 256))) } }) ∧
  (∀ (s : State) (q addr len : Nat), s.readWaits q = false → addr + len ≤ 2 ^ 52 → exec (.hostRead (.memory q true addr len)) s =
    .next { s with sent := s.sent ++ [.hostRead q ((List.range len).map fun i => (s.readByte ⟨.host, addr + i⟩, s.poisonAt ⟨.host, addr + i⟩))] }) ∧
  (∀ (s : State) (w : HostWrite), w.host = true → w.addr + w.bytes.length ≤ 2 ^ 52 → Does (.hostWrite w) s fun t =>
    let ls := (List.range w.bytes.length).map fun i => (⟨.host, w.addr + i⟩ : Loc)
    Holds t ls w.bytes ∧ OtherBytes s t ls) ∧
  ∀ (s : State) (n : Nat), n < 8 → let p := s.port n
    (∀ v : W32, p.enabled = false → s.portRefused n { p with
        cfgErr := p.cfgErr && !v.getLsbD 30
        owned := v.getLsbD 20
        owner := v.extractLsb' 11 9
        lanes := v.setWidth 2 } = false →
      Does (.portEnable n v) s fun t => (t.port n).enabled = true ∧ (t.port n).lanes = v.setWidth 2 ∧ (t.port n).owned = v.getLsbD 20) ∧
    (∀ v : W32, Does (.portDisable n v) s (fun t => (t.port n).enabled = false) ∧
      exec (.ptxtailWrite n v) s = .next (s.setPort n { p with txTail := v }) ∧
      exec (.prxtailWrite n v) s = .next (s.setPort n { p with rxTail := v })) ∧
    (∀ bad, p.enabled = true → p.owned = false → p.txHead ≠ p.txTail → p.txWait = false →
      Does (.frameSent n bad) s fun t => (t.port n).txHead = p.txHead + 1 ∧ ∃ bs, t.sent = s.sent ++ [.frame n bs]) ∧
    ∀ bs bad, p.rxWait = none → p.rxDone = false → p.enabled = true → p.owned = false → p.rxHead ≠ p.rxTail → p.txWait = false → s.remote = [] →
      Does (.frameReceived n bs bad) s fun t => (t.port n).rxHead = p.rxHead + 1

/-- 03 R86-R99, 04 R119, R125-R127, 07 R191, 16 R374-R386: every event of placement, of the ends of work, and of halts, slices,
handlers and saves does what its rule says where that rule's conditions hold. The model's own choices in it: logs 26, 43,
87, 88. -/
def Obligations.CoreEventsComplete : Prop :=
  (∀ (s : State) (part vd n first c : Nat) (us : List PlaceUnit), s.roleStopped 0 = false → s.power.state = 1 →
    (vd, s.vd vd) ∈ s.vds → (s.vd vd).works = true → (s.vd vd).backlog = true → s.hardPart vd = part →
    (∀ e ∈ s.vds, e.2.works = true → e.2.backlog = true → s.hardPart e.1 = part → e = (vd, s.vd vd) ∨
      (vtBefore (s.vd vd).vt e.2.vt = true ∧ vtBefore e.2.vt (s.vd vd).vt = false)) →
    s.units vd = .fresh n first 1 :: us → let u : PlaceUnit := .fresh n first 1
    s.fitsAnywhere vd (s.unitRecord u).1 (s.unitRecord u).2 (s.unitKey u) = true →
    s.coresFit vd (s.unitRecord u).1 1 (s.unitKey u) [c] = true → (s.unitRecord u).2 = 1 →
    Does (.dispatchDecision part [c]) s fun t => (t.grid n).placed = (s.grid n).placed + 1 ∧ (t.group s.uid).grid = n ∧
      (t.group s.uid).core = c ∧ (t.group s.uid).residence = .resident ∧ (t.group s.uid).warps.length = (s.grid n).record.warps) ∧
  (∀ (s : State) (g : Nat), let x := s.group g
    (s.groupOver g = true → Does (.workgroupEnd g) s fun t => (t.grid x.grid).endedGroups = (s.grid x.grid).endedGroups + 1 ∧
      (s.gangOver g = true → ∀ m ∈ s.gangOf g, (t.group m).residence = .ended)) ∧
    (∀ w, x.residence = .resident → s.mirrored g = true →
      exec (.mirrorCopyFinished g w) s = .next (s.setWarp g w { s.warp g w with mirror := true })) ∧
    (∀ r, x.residence = .resident → x.doomed = none → x.halt = some (.slice false r) → Does (.handlerEntry g) s fun t =>
      ∀ w < x.warps.length, (s.warp g w).unended = true →
        (t.warp g w).trapPc = (s.warp g w).head.pc ∧ (t.warp g w).trapCause = causeWord .sliceEnd none 0 none) ∧
    (∀ i t ts, x.residence = .resident → x.doomed = none → x.halt = some (.trap false) → i < x.warps.length →
      (∀ j < i, (s.warp g j).held = []) → (s.warp g i).held = t :: ts → (s.warp g i).inSliceHandler = false → (s.warp g i).unended = true → (s.warp g i).agent.awaits t = false →
      Does (.handlerEntry g) s fun u => (u.warp g i).held = ts ∧ (u.warp g i).handler.length = (s.warp g i).handler.length + 1 ∧
        ∀ e ∈ (u.warp g i).frontier, e.pc = (s.launchOf g).thpc) ∧
    (∀ r ts, x.asyncHeld = r :: ts → x.residence = .resident → x.doomed = none → (s.launchOf g).thpc ≠ 0 → (∀ w ∈ x.warps, w.handler = []) →
      (∃ w ∈ x.warps, w.unended = true) → x.halt = none → exec (.asyncTrap g) s = .next (s.haltBroadcast g)) ∧
    (∀ b r, x.halt = some (.slice b r) → exec (.sliceBudgetExpire g) s = .next (s.setGroup g { x with
      halt := some (.saving false false)
      sliceDue := false
      warps := x.warps.map fun w => if b then { w with skidReg := 0 } else w.settleHalt })) ∧
    (∀ coop swap, x.residence = .resident → x.doomed = none → x.halt = some (.saving coop swap) → (s.core x.core).wc = [] →
      (∀ a ∈ s.agentsOf g, (s.agent a).ops = []) → (∀ m ∈ (s.core x.core).matrix, m.g ≠ g) → s.imagesFit g coop swap = true →
      Does (.contextSave g) s fun t => (t.group g).residence = .saved coop swap ∧ (t.group g).halt = none) ∧
    (s.pf.fpSwap = true → s.power.state = 1 → (g, x) ∈ s.groups → x.residence = .resident → (s.vd x.vd).backlog = true →
      s.swappableOne g = true → s.gangOf g = [g] → (∀ e ∈ s.groups, e.2.core = x.core → e.1 = g) →
      exec (.forwardProgressSwap x.core) s = .next (s.setGroup g { x with halt := some (.saving false true) }))) ∧
  (∀ (s : State) (n : Nat), let g := s.grid n
    g.ended = false → g.record.words ≠ [] → g.endedGroups = g.placed → (g.killed = true ∨ g.placed = g.record.count) →
      exec (.gridEnd n) s = .next ((s.setGrid n { g with ended := true }).noteBacklog g.vd)) ∧
  (∀ (s : State) (n : Nat), let v := s.vd n
    exec (.damperWindowEnd n) s = .next (State.rerunVd (s.setVd n { v with
      hbmWindow := if v.hbmDamp = 0 then 0 else min (v.hbmWindow - 4096 * v.hbmDamp) (4096 * v.hbmDamp)
      linkWindow := if v.linkDamp = 0 then 0 else min (v.linkWindow - 4096 * v.linkDamp) (4096 * v.linkDamp) }) n)) ∧
  (∀ (s : State) (c b : Nat), b < 48 → (∀ k ∈ s.usedSegments c, k / 8 ≠ b) →
    Does (.bankPowerGate c b) s fun t => (t.core c).l1 = [] ∧ b ∈ (t.core c).gated) ∧
  ∀ (s : State) (vd core : Nat), (∀ e ∈ s.vds, e.1 ≠ vd → e.2.backlog = false) → Does (.sliceEnd vd core) s fun t =>
    ∀ g, (g, s.group g) ∈ s.groups → (s.group g).core = core → (s.group g).vd = vd → (s.group g).residence = .resident →
      (s.group g).doomed = none → (t.group g).sliceStart = s.clk.toNat ∧ (t.group g).halt = (s.group g).halt

/-- 01 R16-R36, 19 R421, R430-R432: every event of boot, of the banked state, of measurement, power, wear and the life cycle,
and of the control cores' failures does what its rule says where that rule's conditions hold. The model's own choices in it:
logs 53, 77, 78, 80. -/
def Obligations.BootEventsComplete : Prop :=
  ∀ s : State,
    Does .packageReset s (fun t => t.power.state = 0 ∧ t.power.phase = 0 ∧ t.vds = [] ∧ t.groups = [] ∧ t.pf = State.reset.pf ∧
      t.power.training = s.power.training ∧ ∀ o < 2 ^ 64, t.readByte ⟨.hbm, o⟩ = 0 ∧ t.readByte ⟨.host, o⟩ = s.readByte ⟨.host, o⟩) ∧
    (∀ r, (s.ctlCore 6).loaded = true → s.authentic r = true → s.power.lcState = 0 → r.target = 1 →
      Does (.lifeCycleChange r) s fun t => t.power.lcState = 1 ∧ t.power.training = [] ∧ t.power.state = 0) ∧
    (s.power.state = 0 → s.power.phase = 0 → Does (.bootPhaseComplete .advance) s fun t => t.power.phase = 1) ∧
    (s.power.state = 0 → s.power.phase = 7 → Does (.bootPhaseComplete .advance) s fun t =>
      t.power.state = if s.power.lcState = 3 then 5 else 1) ∧
    exec .pcieConfigRequest s = .next { s with sent := s.sent ++ [.config
      (decide (s.power.state = 0 ∧ (s.power.phase.toNat ≤ 2 ∨ s.power.phase = 0xF1 ∨ s.power.phase = 0xF2)))] } ∧
    (∀ (n : BitVec 4) (d : BitVec 512), 8 ≤ n.toNat → (s.ctlCore 6).loaded = true → exec (.measurementRequest n d) s =
      .next { s with power := { s.power with meas := listSet s.power.meas n.toNat (BitVec.ofNat 512 (recN (shake256
        (leB 64 (listGet 0 s.power.meas n.toNat).toNat ++ leB 64 d.toNat) 64) 0 64)) } }) ∧
    (∀ n, 1 ≤ n → n ≤ 16 → s.pf.secDead = false → (s.ctlCore 6).loaded = true → ∃ x, exec (.spdmRequest (.getMeasurements n)) s =
      .next { s with sent := s.sent ++ [.spdm (.response (leB 64 (listGet 0 s.power.meas (n - 1)).toNat) (some x))] }) ∧
    (s.power.state = 1 → s.entryWaits = false → (∀ e ∈ s.vds, (s.vd e.1).ckRun = none) → (∀ e ∈ s.cores, (s.core e.1).wc = []) →
      Does .enterBanked s fun t => t.power.state = 2 ∧ t.mem = s.mem) ∧
    (s.power.state = 3 → exec .leaveBanked s = .next { s with power := { s.power with state := 4 } }) ∧
    (s.power.state = 2 → s.entryWaits = false → (∀ e ∈ s.vds, (s.vd e.1).ckRun = none) → (∀ e ∈ s.cores, (s.core e.1).wc = []) → s.groups = [] →
      s.remote = [] → Does .bankedEntryComplete s fun t => t.power.state = (if s.power.exitRecorded then 4 else 3) ∧ t.mem = s.mem ∧
        t.power.bankcnt = counted s.power.bankcnt) ∧
    (∀ needs, s.power.state = 4 → Does (.bankedExitComplete needs) s fun t => t.power.state = 1 ∧ t.mem = s.mem) ∧
    (∀ w, exec (.powerWindowEnd w) s = .next { s with power := { s.power with
      capping := s.power.capEn && decide (s.power.capW.toNat * 10 < w) } }) ∧
    (∀ d, s.power.thMin = none → exec (.thermalSample d) s = .next { s with power := { s.power with thMin := some d } }) ∧
    exec .powerOnHour s = .next { s with power := { s.power with ponhrs := counted s.power.ponhrs } } ∧
    exec .hbmRefreshRaise s = .next { s with power := { s.power with hbmesc := counted s.power.hbmesc } } ∧
    (∀ c < 6, (s.ctlCore c).active = true → (s.ctlCore c).halted = false → Does (.heartbeatExpire c) s fun t =>
      (t.ctlCore c).halted = true ∧ (t.pair (c / 2)).mcause = 4 ∧ (t.pair (c / 2)).mcpeer = 4) ∧
    (∀ p < 3, (s.pair p).takeover = some (2 * p) → (s.pair p).standby = true → Does (.takeoverHandover p) s fun t =>
      (t.pair p).taken = true ∧ (t.pair p).acore = true ∧ (t.ctlCore (2 * p + 1)).active = true ∧ (t.ctlCore (2 * p)).active = false) ∧
    Does .controlTimerTick s (fun t => ∀ c < 7, t.ctlCore c = { s.ctlCore c with pendTimer := true }) ∧
    (∀ c im, c < 6 → (s.ctlCore c).loaded = false → (s.ctlCore c).active = false → (s.pair (c / 2)).lost = false →
      (s.pair (c / 2)).reloads ≠ 2 → (s.ctlCore 6).loaded = true → extended 0 (digestOf im) = listGet 0 s.power.meas (2 + c / 2) →
      Does (.coreReloadComplete c im true) s fun t => (t.pair (c / 2)).standby = true ∧ (t.ctlCore c).loaded = true ∧ (t.ctlCore c).pc = 0) ∧
    ∀ i, (s.ctlCore 6).loaded = false → s.pf.secDead = false → s.verifies i = true → Does (.securityCoreRestart i) s fun t =>
      (t.ctlCore 6).loaded = true ∧ (t.ctlCore 6).pc = 0 ∧ (t.ctlCore 6).halted = false

/-- 12 R306-R317, 15 R357, R362-R370, 18 R410-R419: every event of the fault queue, the paging engine, checkpoints, remote
requests, stations and sealed channels does what its rule says where that rule's conditions hold. -/
def Obligations.FaultAndFabricEventsComplete : Prop :=
  (∀ (s : State) (n : Nat), let v := s.vd n
    (∀ w : W32, v.responds = true → v.fqEn = false → 6 ≤ w.toNat % 32 → w.toNat % 32 ≤ 16 → v.fqBase.toNat / 4096 % 2 ^ 40 ≠ 0 →
      exec (.faultQueueEnable n w) s = .next (s.setVd n { v with fqEn := true, fqSize := BitVec.ofNat 5 (w.toNat % 32), fqProd := 0, fqCons := 0 })) ∧
    (∀ w : W32, v.responds = true → (v.fqProd - w).toNat ≤ 2 ^ v.fqSize.toNat → exec (.fqconsWrite n w) s = .next (s.setVd n { v with fqCons := w })) ∧
    (∀ b, v.responds = true → exec (.fqrespAbortStore n b) s = .next (s.setVd n { v with fqAbort := b })) ∧
    (∀ (j : W32) f g w, v.responds = true → v.answerable j.toNat = some f → f.owner = .fetch g w →
      Does (.faultRetry n j) s (fun t => (t.vd n).fqAbort = false ∧ f ∉ (t.vd n).faults) ∧
      Does (.faultAbort n j) s fun t => (t.vd n).fqAbort = true ∧ f ∉ (t.vd n).faults ∧
        ((s.launchOf g).thpc = 0 → (t.group g).doomed ≠ none)) ∧
    (∀ f l u, v.faults.find? (fun x => x.index.isNone) = some f → v.state ≠ 3 → s.posting n = false → v.fqEn = true →
      (v.fqProd - v.fqCons).toNat ≠ 2 ^ v.fqSize.toNat → s.stage2 n (ringSlot v) Need.write = (.ok l, u) → l.space = .host →
      Does (.faultPostResume n) s fun t => (t.vd n).fqProd = (u.vd n).fqProd + 1) ∧
    (∀ page f, v.guest = false → v.works = true → v.hbmHeld = false → s.pageAbsent n page = true → s.pageWanted n page = true → v.ahead = 0 →
      s.framesOf (.vd n) < v.hbmQuota * 512 → s.findRun (s.hardPart n) 1 1 = some f → s.bringIn n page ≠ none →
      Does (.pageMigrationComplete n page) s fun t => Table.look t.frames f = some ⟨1, .vd n, page⟩) ∧
    (∀ page f g op c o, (∀ r ∈ s.heldRequests, ¬ (r.vd = n ∧ r.addr / 4096 = page)) →
      (v.faults.filter fun f => f.engine && !f.answered && f.page == page && s.resolved n f) = [f] → f.owner = .agent (.stoker g) op → op ≠ 0 →
      (s.group g).residence = .resident → s.op? (.stoker g) op = some o → o.work = .copy c →
      Does (.parkedReplay n page) s fun t => f ∉ (t.vd n).faults ∧ ∀ y ∈ (t.agent (.stoker g)).ops, y.id = op → y.work = .copy { c with parked := c.parked.filter fun p => !(p.page == f.page && p.phys == f.phys) }) ∧
    (∀ (w : W32) (ps : List (Nat × List CkByte)), v.responds = true → v.ckBusy = false → v.works = true → w.toNat / 2 ^ 16 % 2 ^ 6 < v.qcount →
      ∀ i ∈ [Instr.checkpoint n w, .restore n w ps], ∃ (u : State) (c : CkRun), exec i s = .next (u.ckAdvance n) ∧ (u.vd n).ckBusy = true ∧
        (u.vd n).ckRun = some c ∧ c.phase = 0 ∧ c.queue = w.toNat / 2 ^ 16 % 2 ^ 6 ∧ u = { s with vds := u.vds }) ∧
    (∀ c, v.ckRun = some c → s.roleStopped 1 = false → s.ckSending n = false →
      (c.restore = false → c.phase = 2 → ∃ u : State, exec (.checkpointArmed n) s = .next (u.ckCopy n) ∧ (u.vd n).ckArmed = true) ∧
      (c.restore = false → c.phase = 5 → c.lines.length ≤ c.sent → c.leaves = [] →
        Does (.checkpointCommit n true) s fun t => EndedWith t n 0) ∧
      (c.restore = true → c.phase = 2 → c.leaves = [] →
        Does (.restoreComplete n) s fun t => EndedWith t n 0 ∧ (t.vd n).ckGen = BitVec.ofNat 32 c.gen))) ∧
  (∀ (s u : State) (r : RemoteRequest) (l : Loc) (m : Nat), r.station < 16 → s.onlySealed r = false →
    s.peerServed r.station r.vd r.source r.sourceVd = true → r.kind = .read m → s.stage2 r.vd r.addr Need.read = (.ok l, u) → l.space = .host →
    (u.channel r.station r.source).established = false → Does (.remoteRequest r) s fun t =>
      t.sent = u.sent ++ [.fabric r.station r.source (.reply r.tag (.data (u.readBytes l m) (u.poisonOf l m)))] ∧ t.mem = u.mem) ∧
  (∀ (s : State) (id : Nat) (r : RemoteOut) (c : Nat) (a : AgentId) (op : Nat) (o : Op) (m : MemOp), s.remote.find? (fun r => r.id == id) = some r →
    r.station ≠ 16 → r.sent = true → r.use = .write c [(a, op)] → s.op? a op = some o → o.work = .store m [] [] [id] →
    Does (.remoteResponse id .done) s (fun t => t.remote = s.remote.filter (fun x => x.id != id) ∧
      ∀ y ∈ (t.agent a).ops, y.id = op → y.work = .finished) ∧
    ∀ g, groupOf a = some g → (s.group g).residence = .resident → Does (.remoteWriteFailure id) s fun t =>
      t.remote = s.remote.filter (fun x => x.id != id) ∧ (t.group g).asyncHeld.length = (s.group g).asyncHeld.length + 1) ∧
  (∀ (s : State) (id vd part pos : Nat) (r : RemoteOut), s.remote.find? (fun r => r.id == id) = some r →
    r.use = .engineRead (.checkpoint vd) part pos → exec (.remoteLoadTimeout id) s = .next ((s.dropRemote id).endCk vd 3)) ∧
  (∀ (s : State) (c n : Nat) (e : WcEntry), ((s.core c).wc.filter fun x => x.id == n) = [e] → (∀ y ∈ s.remote, y.id ≠ s.uid) →
    Does (.wcAgeFlush c n) s fun t => (t.core c).wc = ((s.core c).wc.filter fun x => x.id != n) ∧
      ∃ x, t.remote = s.remote ++ [x] ∧ x.use = .write c e.writers ∧ x.addr = fabricAddr (e.line * 64)) ∧
  (∀ (s : State) (n : Nat) (x : StationState), n < 16 → s.remote = [] → exec (.stationStateChange n x) s = .next (s.setStation n
    { s.station n with state := x, channels := if x = .up then (s.station n).channels else [] })) ∧
  ∀ (s : State) (n p : Nat), let c := s.channel n p
    (s.pf.fabSeal = true → (s.station n).state = .up → (s.ctlCore 6).loaded = true → exec (.channelSeal n p) s =
      .next (s.setChannel n p { Channel.start with established := true }).resendAll) ∧
    (c.established = true → c.switchAt = none → c.open_ (.marker (c.sendSeq + 1)) = true → c.waiting = [] → Does (.keyRollover n p) s fun t =>
      (t.channel n p).switchAt = some (c.sendSeq + 1) ∧ (t.channel n p).sendSeq = c.sendSeq + 1) ∧
    (c.established = true → c.held = [] → c.delivered = true → c.sealed + 1 < 2 ^ 32 → Does (.sealedAckTimer n p) s fun t =>
      (t.channel n p).ackSeq = c.ackSeq + 1 ∧ (t.channel n p).delivered = false) ∧
    (∀ f, c.unacked = [f] → Does (.flitResendTimeout n p) s fun t => t.sent = s.sent ++ [.flit n p { f with sentAt := s.clk }]) ∧
    ∀ (f : Flit) (k : Nat), f.body = .marker k → c.established = true → f.seq = c.recvSeq → f.genuine = true → c.genOk f = true → c.held = [] →
      c.unreported < 15 → c.recvSeq + 1 < k → Does (.sealedFlitReceive n p f) s fun t =>
        (t.channel n p).recvSeq = c.recvSeq + 1 ∧ (t.channel n p).recvN = some k

/-- 06 R170, R171, 10 R259-R270, 11 R277-R289, 14 R347-R353: every event of the matrix unit, the copy engines, the streams and
the flue engine, every instruction of the stoker thread that answers a status, and the fused softmax operation does what its
rule says where that rule's conditions hold. -/
def Obligations.EngineEventsComplete : Prop :=
  (∀ (s : State) (core : Nat) (m : MatOp) (ms : List MatOp), (s.core core).matrix = m :: ms →
    (m.started = false → m.kind = .zero → (∀ x ∈ ms, x.id ≠ m.id) → s.conflicts (.warp m.g m.w) m.id = false →
      Does (.matrixOpStart core) s fun t => (t.core core).matrix = { m with started := true } :: ms) ∧
    (m.started = true → m.kind = .zero → Does (.tileOpComplete core ⟨m.id, ⟨[], []⟩⟩) s fun t => (∀ x ∈ (t.core core).matrix, x.id ≠ m.id) ∧
      ∀ k < 64, ∀ j < 64, (t.core core).accElem (m.row + k) j = (0, none))) ∧
  (∀ (s : State) (g op : Nat) (k : OpClass) (c : Copy), s.op? (.stoker g) op = some ⟨op, k, .copy c⟩ → s.live (.stoker g) = true → c.queue = none →
    (c.started = false → (s.group g).residence = .resident → s.conflicts (.stoker g) op = false → Does (.copyDeferredStart g op) s fun t =>
      ∀ y ∈ (t.agent (.stoker g)).ops, y.id = op → y.work = .copy { c with started := true }) ∧
    (c.failed = none → c.sending = [] → c.started = true → c.credited = c.len → Does (.copyComplete g op) s fun t =>
      (∀ y ∈ (t.agent (.stoker g)).ops, y.id = op → y.work = .finished) ∧
      Table.get 0 (t.group g).tagCounts c.tag.toNat = Table.get 0 (s.group g).tagCounts c.tag.toNat - 1) ∧
    (∀ n bs ls c' u v, let js := c.sectorBytes none n
      c.barrier = 0 → c.started = true → c.failed = none → c.sending = [] → c.sectors.contains n = false → c.parked = [] → js ≠ [] →
      (s.group g).residence = .resident → s.sectorData g op n c js = (.bytes bs, c', u) → c' = { c with snapshot := c'.snapshot } →
      u.placeBytes (.stoker g) Need.write (js.map c'.dstAddr) = (.ok ls, v) → (∀ l ∈ ls, l.space = .scratch g) → (ls.map Loc.key).Nodup →
      v.groups = s.groups → Does (.copySectorComplete g op n) s fun t => Holds t ls (bs.map (·.1)) ∧ OtherBytes v t ls)) ∧
  (∀ (s : State) (g : Nat) (a : AgentId) (m : Word) (sd : Reg) (all : Bool) (pc next : Word), groupOf a = some g →
    (s.agent a).wait = some ⟨.tags m sd all, pc, next⟩ → s.live a = true → s.mayResume a = true → let tags := (s.group g).tagBits
    (m = 0 ∨ if all then tags &&& m = m else tags &&& m ≠ 0) → exec (.tagWaitComplete a) s = .next ((((({ s with cur := a } : State).acquire a).setSreg sd
      (if all then 0 else tags &&& m)).updAgent a fun x => { x with wait := none }).setPc next)) ∧
  (∀ (o : GK) (s : State) (g : Nat), s.cur = .stoker g → s.live s.cur = true → let x := s.group g
    (∀ u bs l, Runs (.sealRecord o) s → (s.sreg o.sc).toNat % 64 = 0 → o.flags.getLsbD 0 = false →
      (∀ k, recordLoad (s.sreg o.sc) 64 s k = k bs u) → u.groups = s.groups → parseLayout bs (s.sreg o.sc) = some l →
      (∀ y ∈ x.seals, y.addr ≠ s.sreg o.sc) → x.seals.length < 8 → s.coreSeals x.core < 32 →
      exec (.sealRecord o) s = .next ((u.updGroup g fun y => { y with seals := y.seals ++ [l] }).writeNext 8 o.sd 0)) ∧
    (∀ u bs r, Runs (.strdef o) s → (s.sreg o.sa).toNat % 32 = 0 → (∀ f, recordLoad (s.sreg o.sa) 32 s f = f bs u) → u.groups = s.groups →
      u.cur = s.cur → parseStream bs = some r → (∀ q ∈ (s.stoker g).agent.ops, ∀ y, q.work ≠ .stream y) → exec (.strdef o) s =
        .next ((u.setStoker g { s.stoker g with slots := Table.put o.tag.toNat r (s.stoker g).slots }).writeNext 8 o.sd 0)) ∧
    (∀ r q, Runs (.strrun o) s → Table.look (s.stoker g).slots o.tag.toNat = some r → r.index = false → r.use = false →
      (∀ q ∈ (s.stoker g).agent.ops, ∀ y, q.work ≠ .stream y) → s.feedQueue g r.qnum = some q → 2 ^ q.sizeLog = r.esize →
      s.classFull s.cur .copies = false → s.lockRoom s.cur (s.streamLocks s.cur 0 ⟨o.tag.toNat, r, none, 0, []⟩) = true →
      Does (.strrun o) s fun t => (t.agent s.cur).ops = (s.agent s.cur).ops ++ [⟨s.uid, .copies, .stream ⟨o.tag.toNat, r, none, 0, []⟩⟩]) ∧
    (∀ t k p, s.attachAt g (s.sreg o.sa) = some (t, k, p) →
      (Runs (.gstat o) s → o.tag = 0 → exec (.gstat o) s = .next (s.writeNext 8 o.sd (BitVec.ofNat 64
        (p.steps + (if p.done0 then 2 ^ 32 else 0) + 2 ^ 40 * p.error + 2 ^ 48 * p.arrivals)))) ∧
      (Runs (.gdetach o) s → Does (.gdetach o) s fun u => (u.group g).attached = x.attached.filter (fun y => y.addr != t.addr)) ∧
      (Runs (.gstep o) s → s.creditAt (s.sreg o.se) = none → (o.flags.getLsbD 0 = true ↔ t.round = 0) → t.round < 2 ^ 32 →
        t.round = (if p.done0 then p.steps + 1 else 0) → s.released s.cur = true → s.exchangeWaits k p = false →
        exec (.gstep o) s = .next ((s.arriveRound g (s.sreg o.sa) (s.sreg o.se) t.round).advance 8)) ∧
      ∀ a pc next r barrier, groupOf a = some g → (s.agent a).wait = some ⟨.round (s.sreg o.sa) barrier r, pc, next⟩ → s.mayResume a = true →
        s.released a = true → r = (if p.done0 then p.steps + 1 else 0) → s.exchangeWaits k p = false → exec (.gstepResume a) s =
          .next ((((({ s with cur := a } : State).arriveRound g (s.sreg o.sa) barrier r).updAgent a fun x => { x with wait := none }).setPc next))) ∧
    (∀ u bs r i, let die := dieOf x.core
      Runs (.gattach o) s → (s.sreg o.sa).toNat % 64 = 0 → (∀ f, recordLoad (s.sreg o.sa) 128 s f = f bs u) → u.groups = s.groups →
      (∀ t ∈ x.attached, t.addr ≠ s.sreg o.sa) → x.attached.length < 4 → u.parseGrid x.vd bs = some r → u.partOf die x.vd r.gridId = none →
      i < 64 → Table.look u.parts (die * 64 + i) = none → (∀ j < i, (Table.look u.parts (die * 64 + j)).isSome = true) →
      ∃ t : State, exec (.gattach o) s = .next (t.writeNext 8 o.sd 0) ∧ (Table.look t.parts (die * 64 + i)).isSome = true ∧
        (t.group g).attached.length = x.attached.length + 1)) ∧
  (∀ (s u : State) (g n op : Nat) (x : Stream) (q : FeedQueue) (bs : List (Byte × Option Prov)),
    (s.agent (.stoker g)).streams.find? (fun y => y.2.slot == n) = some (op, x) → s.live (.stoker g) = true → x.record.use = false → x.source = none →
    s.feedQueue g x.record.qnum = some q → q.room ≠ 0 → x.parked = [] → s.conflicts (.stoker g) op = false → (s.group g).residence = .resident →
    s.streamRead g op x.next 0 (x.record.base + BitVec.ofNat 64 x.next * x.record.stride) x.record.esize = (.bytes bs, u) → u.groups = s.groups →
    2 ^ q.sizeLog = x.record.esize → Does (.streamPush g n) s fun t =>
      t.feedQueue g x.record.qnum = some (FeedQueue.fill { q with pres := q.pres + 1 } q.pres.toNat)) ∧
  (∀ (s : State) (st acc step k : Nat) (dest : FlueDest) (p : Partition), s.flueTarget st acc dest = some (k, p) → Table.look s.parts k = some p →
    s.namesSender p dest.face acc dest = true →
    (∀ cells, Does (.fluePush (k / 64) k (.arrive st acc dest step cells)) s fun t => ∃ q x, Table.look t.parts k = some q ∧ q.pushes = p.pushes ++ [x] ∧
      x.step = step ∧ x.face = dest.face) ∧
    ∀ c : FlueNote, c.ask = false → Does (.flueCounterUpdate st acc dest c) s fun t => ∃ q, Table.look t.parts k = some q ∧
      Table.look q.known dest.face = some c) ∧
  (∀ (s : State) (k : Nat) (p : Partition), Table.look s.parts k = some p →
    (∀ f ks x rest, s.slabPushes k f = (ks, x) :: rest → f < p.tags.length →
      Does (.slabRetag (k / 64) k f) s fun t => ∃ q, Table.look t.parts k = some q ∧ q.tags = listSet p.tags f (some x.step)) ∧
    (∀ step lockId rest, p.exchanges = (step, lockId) :: rest → (∀ x ∈ p.pushes, x.step = step → x.cells ≠ none) →
      (∀ c ∈ p.credits, c.step ≠ some step) → Does (.gstepCredit (k / 64) k) s fun t => ∃ q, Table.look t.parts k = some q ∧ q.exchanges = rest) ∧
    (p.attached = 0 → p.pushes = [] → p.exchanges = [] → Does (.flueStateDelete (k / 64) k) s fun t => Table.look t.parts k = none)) ∧
  ∀ (o : FusedOp) (s : State) (g wn : Nat) (e : Entry) (es : List Entry), s.cur = .warp g wn → (∀ f ∈ o.forms, s.decodeCause f = none) → Unpaired s →
    s.live (.warp g wn) = true → (s.warp g wn).frontier = e :: es → e.mask ≠ 0 → (s.warp g wn).vpoison = [] → (s.warp g wn).ppoison = [] →
    (s.warp g wn).replay = [] → Does (.fusedSoftmax o) s fun t => t.mem = s.mem ∧ (t.warp g wn).frontier = frontierOf (es ++
      [{ e with pc := e.pc + BitVec.ofNat 64 o.n1 + BitVec.ofNat 64 o.n2 + BitVec.ofNat 64 o.n3 + BitVec.ofNat 64 o.n4 }])

namespace Sys2Proof.Claims

/-- `i` is executed for its own effect, and its two executions under paired issue, if it has two, agree. -/
def Computes (i : Instr) (s : State) : Prop := Runs i s ∧ Unpaired s

/-! Scalar arithmetic (07 R181-R183). -/

/-- The SALU functions of 07 R181 and R182 with the value each writes, from the cond/width field and S[sa], S[sb], S[sc], S[sd].
SEXT with a cond/width field other than these traps ILLEGAL. -/
inductive Salu : (GS → Instr) → (BitVec 4 → Word → Word → Word → Word → Word) → Prop
  | sadd : Salu .sadd fun _ a b _ _ => a + b
  | ssub : Salu .ssub fun _ a b _ _ => a - b
  | smul : Salu .smul fun _ a b _ _ => a * b
  | smulhS : Salu .smulhS fun _ a b _ _ => BitVec.ofInt 64 (a.toInt * b.toInt / 2 ^ 64)
  | smulhN : Salu .smulhN fun _ a b _ _ => BitVec.ofNat 64 (a.toNat * b.toNat / 2 ^ 64)
  | sdivS : Salu .sdivS fun _ a b _ _ => if b = 0 then BitVec.allOnes 64 else a.sdiv b
  | sdivN : Salu .sdivN fun _ a b _ _ => if b = 0 then BitVec.allOnes 64 else a.udiv b
  | sremS : Salu .sremS fun _ a b _ _ => if b = 0 then a else a.srem b
  | sremN : Salu .sremN fun _ a b _ _ => if b = 0 then a else a.umod b
  | sand : Salu .sand fun _ a b _ _ => a &&& b
  | sor : Salu .sor fun _ a b _ _ => a ||| b
  | sxor : Salu .sxor fun _ a b _ _ => a ^^^ b
  | sandn : Salu .sandn fun _ a b _ _ => a &&& ~~~b
  | sshl : Salu .sshl fun _ a b _ _ => a <<< b.toNat
  | sshrS : Salu .sshrS fun _ a b _ _ => a.sshiftRight b.toNat
  | sshrN : Salu .sshrN fun _ a b _ _ => a >>> b.toNat
  | srotr : Salu .srotr fun _ a b _ _ => a.rotateRight (b.toNat % 64)
  | sminS : Salu .sminS fun _ a b _ _ => if a.toInt < b.toInt then a else b
  | sminN : Salu .sminN fun _ a b _ _ => if a.toNat < b.toNat then a else b
  | smaxS : Salu .smaxS fun _ a b _ _ => if a.toInt < b.toInt then b else a
  | smaxN : Salu .smaxN fun _ a b _ _ => if a.toNat < b.toNat then b else a
  | sclz : Salu .sclz fun _ a _ _ _ => BitVec.ofNat 64 (leadingZeros a)
  | sffs : Salu .sffs fun _ a _ _ _ => BitVec.ofNat 64 (firstSet a)
  | spopc : Salu .spopc fun _ a _ _ _ => BitVec.ofNat 64 (popCount a)
  | sbrev : Salu .sbrev fun _ a _ _ _ => bitReverse a
  | ssel : Salu .ssel fun cw a b c d => if compareS cw.toNat a b then c else d
  | scmp : Salu .scmp fun cw a b _ _ => if compareS cw.toNat a b then 1 else 0
  | sext : Salu .sext fun cw a _ _ _ =>
      match cw.toNat with
      | 0 => (a.setWidth 8).signExtend 64
      | 1 => (a.setWidth 16).signExtend 64
      | 2 => (a.setWidth 32).signExtend 64
      | 4 => (a.setWidth 8).setWidth 64
      | 5 => (a.setWidth 16).setWidth 64
      | 6 => (a.setWidth 32).setWidth 64
      | _ => a
  | smov : Salu .smov fun _ a _ _ _ => a
  | sbfx : Salu .sbfx fun cw a b c _ => bitFieldGet (cw.getLsbD 0) a (scalarField b c).1 (scalarField b c).2
  | sbfi : Salu .sbfi fun _ a b c d => bitFieldPut d a (scalarField b c).1 (scalarField b c).2
  | smad : Salu .smad fun _ a b c _ => a * b + c

/-- The S32-S3 forms with the general forms they stand for (06 R155). -/
inductive SaluShort : (SS3 → Instr) → (GS → Instr) → Prop
  | sadd : SaluShort .saddShort .sadd
  | ssub : SaluShort .ssubShort .ssub
  | smul : SaluShort .smulShort .smul
  | smulhS : SaluShort .smulhSShort .smulhS
  | smulhN : SaluShort .smulhNShort .smulhN
  | sdivS : SaluShort .sdivSShort .sdivS
  | sdivN : SaluShort .sdivNShort .sdivN
  | sremS : SaluShort .sremSShort .sremS
  | sremN : SaluShort .sremNShort .sremN
  | sand : SaluShort .sandShort .sand
  | sor : SaluShort .sorShort .sor
  | sxor : SaluShort .sxorShort .sxor
  | sandn : SaluShort .sandnShort .sandn
  | sshl : SaluShort .sshlShort .sshl
  | sshrS : SaluShort .sshrSShort .sshrS
  | sshrN : SaluShort .sshrNShort .sshrN
  | srotr : SaluShort .srotrShort .srotr
  | sminS : SaluShort .sminSShort .sminS
  | sminN : SaluShort .sminNShort .sminN
  | smaxS : SaluShort .smaxSShort .smaxS
  | smaxN : SaluShort .smaxNShort .smaxN
  | sclz : SaluShort .sclzShort .sclz
  | sffs : SaluShort .sffsShort .sffs
  | spopc : SaluShort .spopcShort .spopc
  | sbrev : SaluShort .sbrevShort .sbrev
  | ssel : SaluShort .sselShort .ssel
  | scmp : SaluShort .scmpShort .scmp
  | sext : SaluShort .sextShort .sext
  | smov : SaluShort .smovShort .smov
  | sbfx : SaluShort .sbfxShort .sbfx
  | sbfi : SaluShort .sbfiShort .sbfi
  | smad : SaluShort .smadShort .smad

/-- The SALUI functions of 07 R183 with the value each writes, from aux6, imm32 and S[sa]. -/
inductive Salui : (GSI → Instr) → (BitVec 6 → W32 → Word → Word) → Prop
  | saddi : Salui .saddi fun _ i a => a + i.signExtend 64
  | sandi : Salui .sandi fun _ i a => a &&& i.signExtend 64
  | sori : Salui .sori fun _ i a => a ||| i.signExtend 64
  | sxori : Salui .sxori fun _ i a => a ^^^ i.signExtend 64
  | sshli : Salui .sshli fun _ i a => a <<< i.toNat
  | sshriS : Salui .sshriS fun _ i a => a.sshiftRight i.toNat
  | sshriN : Salui .sshriN fun _ i a => a >>> i.toNat
  | sli : Salui .sli fun _ i _ => i.signExtend 64
  | slih : Salui .slih fun _ i a => i ++ (a.setWidth 32 : W32)
  | scmpi : Salui .scmpi fun x i a => if compareS (fieldN x 3 0) a (i.signExtend 64) then 1 else 0

/-- 07 R181, R182: a SALU instruction writes its value to S[sd] and moves on by its 8 bytes. -/
def SaluWritesItsResult : Prop :=
  ∀ c f, Salu c f → ∀ (o : GS) (s : State), Computes (c o) s →
    exec (c o) s = .next (s.writeNext 8 o.sd (f o.cw (s.sreg o.sa) (s.sreg o.sb) (s.sreg o.sc) (s.sreg o.sd)))

/-- 06 R151, R155: a short SALU form has its general form's effect with sc and the cond/width field 0, and 4 bytes. -/
def SaluShortWritesItsResult : Prop :=
  ∀ c g, SaluShort c g → ∀ f, Salu g f → ∀ (o : SS3) (s : State), Computes (c o) s →
    exec (c o) s = .next (s.writeNext 4 o.sd (f 0 (s.sreg o.sa) (s.sreg o.sb) 0 (s.sreg o.sd)))

/-- 07 R183, 06 R155: a SALUI instruction, and the short SADDI and SLI, write their value to S[sd] and move on. -/
def SaluiWritesItsResult : Prop :=
  (∀ c f, Salui c f → ∀ (o : GSI) (s : State), Computes (c o) s →
    exec (c o) s = .next (s.writeNext 8 o.sd (f o.aux o.imm (s.sreg o.sa)))) ∧
  (∀ (sd sa : Reg) (imm : BitVec 10) (s : State), Computes (.saddiShort sd sa imm) s →
    exec (.saddiShort sd sa imm) s = .next (s.writeNext 4 sd (s.sreg sa + imm.signExtend 64))) ∧
  (∀ (sd : Reg) (imm : BitVec 17) (s : State), Computes (.sliShort sd imm) s →
    exec (.sliShort sd imm) s = .next (s.writeNext 4 sd (imm.signExtend 64)))

/-! The frame of an instruction that writes at most one scalar register and moves on. -/

/-- From `s` to `t` nothing changed but the executing agent's scalar register `sd`, its poison, and where the agent stands. -/
structure OnlyScalar (s t : State) (sd : Reg) : Prop where
  rest : t = { s with groups := t.groups, ctl := t.ctl }
  groups : ∀ g, t.group g = { s.group g with warps := (t.group g).warps, stoker := (t.group g).stoker }
  warps : ∀ g w, t.warp g w =
    { s.warp g w with agent := (t.warp g w).agent, frontier := (t.warp g w).frontier, replay := (t.warp g w).replay }
  slots : ∀ g, (t.stoker g).slots = (s.stoker g).slots
  cores : ∀ c, t.ctlCore c = { s.ctlCore c with agent := (t.ctlCore c).agent, pc := (t.ctlCore c).pc }
  others : ∀ a, a ≠ s.cur → t.agent a = s.agent a ∧ t.pcOf a = s.pcOf a
  agent : t.agent s.cur = { s.agent s.cur with sregs := (t.agent s.cur).sregs, spoison := (t.agent s.cur).spoison }
  regs : ∀ r, r ≠ sd → t.sreg r = s.sreg r
  bytes : ∀ l, t.readByte l = s.readByte l
  poison : ∀ l, t.poisonAt l = s.poisonAt l

/-- The scalar instructions with the register each writes. -/
inductive WritesScalar : Instr → Reg → Prop
  | salu {c f} (h : Salu c f) (o : GS) : WritesScalar (c o) o.sd
  | short {c g} (h : SaluShort c g) (o : SS3) : WritesScalar (c o) o.sd
  | salui {c f} (h : Salui c f) (o : GSI) : WritesScalar (c o) o.sd
  | saddiShort (sd sa imm) : WritesScalar (.saddiShort sd sa imm) sd
  | sliShort (sd imm) : WritesScalar (.sliShort sd imm) sd
  | srd (sd num) : WritesScalar (.srd sd num) sd
  | nop : WritesScalar .nop 0
  | nopShort : WritesScalar .nopShort 0
  | yield : WritesScalar .yield 0
  | yieldShort : WritesScalar .yieldShort 0
  | br (o) : WritesScalar (.br o) 0
  | brz (o) : WritesScalar (.brz o) 0
  | brnz (o) : WritesScalar (.brnz o) 0
  | brc (o) : WritesScalar (.brc o) 0
  | call (o) : WritesScalar (.call o) o.sa
  | loop (o) : WritesScalar (.loop o) o.sa
  | brShort (off) : WritesScalar (.brShort off) 0
  | brzShort (sa off) : WritesScalar (.brzShort sa off) 0
  | brnzShort (sa off) : WritesScalar (.brnzShort sa off) 0
  | callShort (off) : WritesScalar (.callShort off) 94

/-- 07 R184, 06 R155: the uniform branches, general and short, move every head thread to the target or to the next instruction. -/
def UniformBranches : Prop :=
  ∀ (s : State) (o : GB),
    let past (off : W32) : Word := s.pc + off.signExtend 64 * 2
    (Runs (.br o) s → exec (.br o) s = .next (s.setPc (past o.off))) ∧
    (Runs (.brz o) s → exec (.brz o) s = .next (s.setPc (if s.sreg o.sa = 0 then past o.off else s.pc + 8))) ∧
    (Runs (.brnz o) s → exec (.brnz o) s = .next (s.setPc (if s.sreg o.sa = 0 then s.pc + 8 else past o.off))) ∧
    (Runs (.brc o) s → exec (.brc o) s =
      .next (s.setPc (if compareB o.cond.toNat (s.sreg o.sa) (s.sreg o.sb) then past o.off else s.pc + 8))) ∧
    (Runs (.call o) s → exec (.call o) s = .next ((s.setSreg o.sa (s.pc + 8)).setPc (past o.off))) ∧
    (Runs (.loop o) s → exec (.loop o) s =
      .next ((s.setSreg o.sa (s.sreg o.sa - 1)).setPc (if s.sreg o.sa = 1 then s.pc + 8 else past o.off))) ∧
    ∀ (sa : Reg) (far : BitVec 24) (near : BitVec 16),
      (Runs (.brShort far) s → exec (.brShort far) s = .next (s.setPc (s.pc + far.signExtend 64 * 2))) ∧
      (Runs (.brzShort sa near) s → exec (.brzShort sa near) s =
        .next (s.setPc (if s.sreg sa = 0 then s.pc + near.signExtend 64 * 2 else s.pc + 4))) ∧
      (Runs (.brnzShort sa near) s → exec (.brnzShort sa near) s =
        .next (s.setPc (if s.sreg sa = 0 then s.pc + 4 else s.pc + near.signExtend 64 * 2))) ∧
      (Runs (.callShort far) s → exec (.callShort far) s =
        .next ((s.setSreg 94 (s.pc + 4)).setPc (s.pc + far.signExtend 64 * 2)))

/-- 07 R184: JMPR, RET and CALLR go to the value of S[sa] as it was, and CALLR writes the link, when bit 0 of the target is 0. -/
def IndirectBranches : Prop :=
  ∀ (s : State) (o : GB), (s.sreg o.sa).getLsbD 0 = false →
    (Runs (.jmpr o) s → exec (.jmpr o) s = .next (s.setPc (s.sreg o.sa))) ∧
    (Runs (.ret o) s → exec (.ret o) s = .next (s.setPc (s.sreg o.sa))) ∧
    (Runs (.callr o) s → exec (.callr o) s = .next ((s.setSreg o.sb (s.pc + 8)).setPc (s.sreg o.sa)))

/-- 07 R186: BRP moves each head thread by its own predicate, those that take it to the target and the others to the next
instruction, when no head thread's predicate file is poisoned. -/
def BrpMovesEachThread : Prop :=
  ∀ (s : State) (g w : Nat) (p : BitVec 3) (neg : Bool), s.cur = .warp g w →
    (∀ l < 64, bit s.headMask l = true → (s.warp g w).predPoison l [p.toNat] = none) →
    let x := s.warp g w
    let take : Mask := x.head.mask &&& (if neg then ~~~(x.pred p.toNat) else x.pred p.toNat)
    (∀ o : GB, o.cond = p → o.neg = neg → Runs (.brp o) s → exec (.brp o) s =
      .next (s.setWarp g w (x.moveHead [⟨x.head.prio, s.pc + o.off.signExtend 64 * 2, take⟩,
        ⟨x.head.prio, s.pc + 8, x.head.mask &&& ~~~take⟩]))) ∧
    (∀ off : BitVec 20, Runs (.brpShort p neg off) s → exec (.brpShort p neg off) s =
      .next (s.setWarp g w (x.moveHead [⟨x.head.prio, s.pc + off.signExtend 64 * 2, take⟩,
        ⟨x.head.prio, s.pc + 4, x.head.mask &&& ~~~take⟩])))

/-! SYS (07 R190-R197). -/

/-- The SYS forms that only move on, with their lengths. -/
inductive Idle : Instr → Nat → Prop
  | nop : Idle .nop 8
  | nopShort : Idle .nopShort 4
  | yield : Idle .yield 8
  | yieldShort : Idle .yieldShort 4

/-- The general and the short form of TRAP, TRET, PRIO, EXIT, WAIT, HALT and WFI with their lengths. -/
inductive TrapForm (code : BitVec 16) : Instr → Nat → Prop
  | long : TrapForm code (.trap code) 8
  | short : TrapForm code (.trapShort code) 4
inductive TretForm : Instr → Prop
  | long : TretForm .tret
  | short : TretForm .tretShort
inductive PrioForm (n : BitVec 3) : Instr → Nat → Prop
  | long : PrioForm n (.prio n) 8
  | short : PrioForm n (.prioShort n) 4
inductive ExitForm : Instr → Nat → Prop
  | long : ExitForm .exit 8
  | short : ExitForm .exitShort 4
inductive WaitForm (o : WaitOp) : Instr → Nat → Prop
  | long : WaitForm o (.wait o) 8
  | short : WaitForm o (.waitShort o) 4
inductive HaltForm : Instr → Prop
  | long : HaltForm .halt
  | short : HaltForm .haltShort
inductive WfiForm : Instr → Nat → Prop
  | long : WfiForm .wfi 8
  | short : WfiForm .wfiShort 4

/-- Whether each counter of an agent is within its limit (07 R194). -/
def Within (a : Agent) (o : WaitOp) : Prop :=
  a.count .loads ≤ o.loads.toNat ∧ a.count .stores ≤ o.stores.toNat ∧ a.count .copies ≤ o.copies.toNat ∧
    a.count .tiles ≤ o.tiles.toNat

/-- 07 R190, R193, R192: NOP and YIELD only move on. -/
def NopPrioTrap : Prop :=
  ∀ s : State,
    (∀ i len, Idle i len → Runs i s → exec i s = .next (s.advance len)) ∧
    (∀ n i len g w, PrioForm n i len → s.cur = .warp g w → Runs i s → exec i s =
      .next (s.updWarp g w fun x => x.moveHead [⟨n, s.pc + BitVec.ofNat 64 len, x.head.mask⟩])) ∧
    (∀ code i len, TrapForm code i len → Runs i s → exec i s =
      .next (s.holdTrap s.cur none .software none
        ⟨.sync, BitVec.ofNat 64 (0x0D + 2 ^ 16 * code.toNat), s.pc + BitVec.ofNat 64 len, s.headMask, s.headMask, 0, 0, none⟩))

/-- 16 R380: TRET in a trap handler whose TRAPPC the handler left alone takes the saved frontier back with the trapped threads
at TRAPPC. -/
def TretLeavesTheHandler : Prop :=
  ∀ (s : State) (g w : Nat) (i : Instr), TretForm i → s.cur = .warp g w → s.live s.cur = true → Runs i s →
    match (s.warp g w).handler with
    | [] => exec i s = .next (s.trap .illegal)
    | h :: hs => ∃ t, exec i s = .next t ∧ (t.warp g w).handler = hs ∧
        (let live := ~~~((s.warp g w).exited ||| (s.warp g w).unstarted)
         let saved := h.saved.frontier.map fun e => { e with mask := e.mask &&& live }
         let same := decide ((s.warp g w).trapPc = h.entryPc)
         (t.warp g w).frontier = (match h.kind with
           | .async => frontierOf saved
           | .sync => moveThreads saved h.mask (s.warp g w).trapPc
           | .slice => if same then frontierOf saved else moveThreads saved h.mask (s.warp g w).trapPc) ∧
         (t.warp g w).replay = (if h.kind = .async ∨ same = true then h.saved.replay
           else replayWithout h.entryPc h.mask h.saved.replay)) ∧
        (t.warp g w).vregs = (s.warp g w).vregs ∧ t.mem = s.mem

/-- 07 R191: EXIT ends the head's threads of a warp, which leave the frontier and every WSYNC mask, once the matrix operations
that their leaving completes are issued. The model's own choices in it: log 21. -/
def ExitEndsTheHead : Prop :=
  ∀ (s : State) (i : Instr) (len : Nat), ExitForm i len → Runs i s → s.live s.cur = true →
    match s.cur with
    | .warp g w =>
      (∀ u, s.exitConvs g w (s.warp g w).head.mask (List.range 8) = .done u → u.live (.warp g w) = true →
        ∃ t, exec i s = .next t ∧ (t.warp g w).exited = (u.warp g w).exited ||| (u.warp g w).head.mask ∧
          ((u.warp g w).groups = [] → (t.warp g w).frontier = frontierOf ((u.warp g w).frontier.drop 1)) ∧
          (t.warp g w).vregs = (u.warp g w).vregs ∧ t.mem = u.mem) ∧
      ((∀ n < 8, ((s.warp g w).conv n).declared &&& ~~~((s.warp g w).conv n).signed &&& (s.warp g w).head.mask = 0) →
        s.exitConvs g w (s.warp g w).head.mask (List.range 8) = .done s)
    | .stoker g => ∃ t, exec i s = .next t ∧ (t.stoker g).agent.ended = true ∧ t = { s with groups := t.groups }
    | .ctl _ => False

/-- 07 R194: WAIT moves on when every counter is within its limit, and otherwise the agent waits at it. -/
def WaitForCounters : Prop :=
  ∀ s : State,
    (∀ o i len, WaitForm o i len → Runs i s →
      (Within (s.agent s.cur) o → exec i s = .next (s.advance len)) ∧
      (¬ Within (s.agent s.cur) o → exec i s = .next (s.updAgent s.cur fun a =>
        { a with wait := some ⟨.counters o, s.pc, s.pc + BitVec.ofNat 64 len⟩ }))) ∧
    (∀ a o pc next, (s.agent a).wait = some ⟨.counters o, pc, next⟩ → s.mayResume a = true →
      Within (s.agent a) o → exec (.waitResume a) s =
        .next (({ s with cur := a }.updAgent a fun x => { x with wait := none }).setPc next))

/-- 07 R196. The model's own choices in it: log 66. -/
def HaltAndWfi : Prop :=
  ∀ (s : State) (c : Nat), s.cur = .ctl c →
    (∀ i, HaltForm i → Runs i s → ∃ t, exec i s = .next t ∧ (t.ctlCore c).halted = true ∧
      (c ≠ 6 → (t.pair (c / 2)).mcause = 5 ∧ (t.pair (c / 2)).mcpeer = 5 ∧
        ((s.ctlCore c).active = true → (s.pair (c / 2)).standby = true → (t.pair (c / 2)).takeover = some c) ∧
        ((s.ctlCore c).active = true → (s.pair (c / 2)).standby = false → (t.pair (c / 2)).lost = true)) ∧
      (c = 6 → t.pf.secMc = 5) ∧ t.mem = s.mem ∧ t.groups = s.groups) ∧
    (∀ i len, WfiForm i len → Runs i s →
      exec i s = .next (if s.ipend c = 0 then s else s.advance len))

/-- 07 R197-R199. The model's own choices in it: log 46. -/
def SrdReadsSpecialRegisters : Prop :=
  (∀ (s : State) (sd : Reg) (n : BitVec 12), Runs (.srd sd n) s →
    exec (.srd sd n) s = .next (s.writeNext 8 sd (s.special s.cur n.toNat))) ∧
  (∀ (s : State) (g w : Nat), let a := AgentId.warp g w
    s.special a 0x000 = 64 ∧ s.special a 0x011 = BitVec.ofNat 64 ((s.group g).core % 160 / 8) ∧
    s.special a 0x012 = BitVec.ofNat 64 ((s.group g).core / 160) ∧ s.special a 0x018 = BitVec.ofNat 64 (s.group g).wgid ∧
    s.special a 0x01A = (s.launchOf g).word 2 ∧ s.special a 0x020 = BitVec.ofNat 64 (s.warp g w).vbase ∧
    s.special a 0x021 = BitVec.ofNat 64 (s.warp g w).abase ∧ s.special a 0x022 = BitVec.ofNat 64 (s.warp g w).alimit ∧
    s.special a 0x028 = (s.warp g w).spillSp ∧ s.special a 0x030 = (s.warp g w).fpflags.setWidth 64 ∧
    s.special a 0x031 = (s.warp g w).rngSeed.setWidth 64 ∧ s.special a 0x040 = s.clk ∧
    s.special a 0x048 = BitVec.ofNat 64 ((s.agent a).count .loads) ∧
    s.special a 0x049 = BitVec.ofNat 64 ((s.agent a).count .stores) ∧
    s.special a 0x04A = BitVec.ofNat 64 ((s.agent a).count .copies) ∧
    s.special a 0x04B = BitVec.ofNat 64 ((s.agent a).count .tiles) ∧ s.special a 0x050 = (s.group g).tagBits ∧
    s.special a 0x060 = (s.warp g w).trapCause ∧ s.special a 0x061 = (s.warp g w).trapPc ∧
    s.special a 0x062 = (s.warp g w).trapMask ∧ s.special a 0x063 = (s.warp g w).skidReg.setWidth 64 ∧
    s.special a 0x070 = (s.warp g w).haloWait.setWidth 64) ∧
  (∀ (s : State) (c : Nat), let a := AgentId.ctl c
    s.special a 0x040 = s.clk ∧ s.special a 0x801 = (s.pair (c / 2)).jnext.setWidth 64 ∧
    s.special a 0x802 = (s.pair (c / 2)).jtrim.setWidth 64 ∧ s.special a 0x803 = s.ipend c ∧
    s.special a 0x805 = (s.pair (c / 2)).mcpeer.setWidth 64)

/-- 07 R197, R199. The model's own choices in it: log 66. -/
def SwrWritesSpecialRegisters : Prop :=
  ∀ (s : State) (sa : Reg), let v := s.sreg sa
    (∀ g w, s.cur = .warp g w →
      (Runs (.swr sa 0x028) s → exec (.swr sa 0x028) s = .next ((s.updWarp g w fun x => { x with spillSp := v }).advance 8)) ∧
      (Runs (.swr sa 0x030) s → exec (.swr sa 0x030) s =
        .next ((s.updWarp g w fun x => { x with fpflags := v.setWidth 5 }).advance 8)) ∧
      (Runs (.swr sa 0x031) s → exec (.swr sa 0x031) s = .next ((s.updWarp g w fun x => { x with
        rngSeed := v.setWidth 32
        gens := (List.range 64).map fun l => (l, seedOf (v.setWidth 32) (w * 64 + l)) }).advance 8)) ∧
      (Runs (.swr sa 0x061) s → exec (.swr sa 0x061) s =
        .next ((s.updWarp g w fun x => { x with trapPc := v &&& ~~~1 }).advance 8)) ∧
      (Runs (.swr sa 0x070) s → exec (.swr sa 0x070) s =
        .next ((s.updWarp g w fun x => { x with haloWait := v.setWidth 32 }).advance 8))) ∧
    (∀ c, s.cur = .ctl c →
      (Runs (.swr sa 0x802) s → exec (.swr sa 0x802) s = .next ((s.updPair (c / 2) fun p =>
        if p.jtrim.toNat ≤ v.toNat % 2 ^ 32 ∧ v.toNat % 2 ^ 32 ≤ p.jnext.toNat then { p with jtrim := v.setWidth 32 } else p).advance 8)) ∧
      (Runs (.swr sa 0x803) s → exec (.swr sa 0x803) s = .next ((s.updCtl c fun x => { x with
        pendTimer := x.pendTimer && !v.getLsbD 5, pendTake := x.pendTake && !v.getLsbD 4 }).advance 8)))

/-- 07 R195. -/
def LaunchQueuesAChild : Prop :=
  ∀ (s u : State) (sd sa : Reg) (g : Nat) (bs : List Byte), Runs (.launch sd sa) s → groupOf s.cur = some g →
    (s.sreg sa).toNat % 64 = 0 → s.released s.cur = true → (∀ k, launchLoad (s.sreg sa) s k = k bs u) →
    let r := LaunchRec.ofBytes bs
    let vd := (u.group g).vd
    let die := (u.group g).core / 160
    let room : Bool := decide (u.storeHeld die < 4096 ∧ u.storeHeldBy die vd < 1024)
    if r.invalid (u.vd vd).cores false then exec (.launch sd sa) s = .next (u.writeNext 8 sd 3)
    else if room = false ∧ 65536 ≤ u.overflowHeld vd then exec (.launch sd sa) s = .next (u.writeNext 8 sd 2)
    else ∃ t : State, exec (.launch sd sa) s = .next (t.writeNext 8 sd (if room then 0 else 1)) ∧
      t.grid u.uid = { Grid.start with
        vd := vd, queue := (u.grid (u.group g).grid).queue, index := (u.grid (u.group g).grid).index
        parent := some (u.group g).grid, record := r, inStore := if room then some die else none
        inOverflow := !room, ended := false } ∧
      t.uid = u.uid + 1 ∧ t.mem = u.mem ∧ t.groups = u.groups

end Sys2Proof.Claims

/-- NOP, YIELD, PRIO, TRAP and EXIT have their effect. The model's own choices in it: log 21. -/
def Obligations.NopYieldPrioTrapExit : Prop :=
  NopPrioTrap ∧ ExitEndsTheHead

/-- WAIT, HALT and WFI move on, wait or stop; LAUNCH queues a child and answers its status. The model's own choices in it: log
66. -/
def Obligations.WaitsOfAgents : Prop :=
  WaitForCounters ∧ HaltAndWfi ∧ LaunchQueuesAChild

/-- SRD and SWR reach every special register. The model's own choices in it: logs 46, 66. -/
def Obligations.SpecialRegisters : Prop :=
  SrdReadsSpecialRegisters ∧ SwrWritesSpecialRegisters

namespace Sys2Proof.Claims

/-! Lane instructions (08 R203-R227). -/

/-- The threads that an instruction under predicate `p` is executed for: the issued ones whose predicate holds (08 R203). -/
def acts (w : Warp) (p : BitVec 3) (pneg : Bool) (l : Nat) : Bool := bit (w.issueMask &&& w.active p pneg) l

/-- The lowest tag among the source registers of a thread, by the instruction's general form (17 R392). -/
def sourceTag (i : Instr) (w : Warp) (l : Nat) : Option Prov :=
  match i.form with
  | some ⟨_, cls, fn, .v o⟩ => w.sourcePoison l (laneSources cls fn o)
  | some ⟨_, _, fn, .vi o⟩ => w.sourcePoison l (vintiSources fn o)
  | _ => none

/-- No thread of the issue has a poisoned predicate file to read, and no active one a poisoned source. -/
def Unpoisoned (w : Warp) (p : BitVec 3) (pneg : Bool) (tag : Nat → Option Prov) : Prop :=
  ∀ l < 64, bit w.issueMask l = true → w.predPoison l [p.toNat] = none ∧ (bit (w.active p pneg) l = true → tag l = none)

/-- The instruction moves warp `wn` of workgroup `g` on by `len` bytes after changing it as `P` says, and changes nothing else. -/
def Moves (i : Instr) (len : Nat) (s : State) (g wn : Nat) (P : Warp → Warp → Prop) : Prop :=
  ∃ w', exec i s = .next ((s.setWarp g wn w').advance len) ∧ P (s.warp g wn) w'

/-- Only vector registers `r` to `r + n - 1` of the threads of `m` have changed, with their poison; no flag and no draw. -/
def OnlyVector (w w' : Warp) (r n : Nat) (m : Nat → Bool) : Prop :=
  w' = { w with vregs := w'.vregs, vpoison := w'.vpoison, gens := w'.gens, dirty := w'.dirty } ∧
  (∀ l, w'.gen l = w.gen l) ∧
  ∀ k l, l < 64 → (k < r ∨ r + n ≤ k ∨ m l = false) →
    w'.v k l = w.v k l ∧ Table.look w'.vpoison (vkey k l) = Table.look w.vpoison (vkey k l)

/-- Only predicate `k` of the threads of `m` has changed; a write to p7 is discarded. -/
def OnlyPred (w w' : Warp) (k : Nat) (m : Nat → Bool) : Prop :=
  w' = { w with preds := w'.preds, gens := w'.gens } ∧ (∀ l, w'.gen l = w.gen l) ∧
  ∀ j l, l < 64 → (j ≠ k ∨ j = 7 ∨ m l = false) → bit (w'.pred j) l = bit (w.pred j) l

/-- How many registers a value of a type takes (06 R162). -/
def regsOf (t : Ty) : Nat := if t.pair then 2 else 1

/-- VINT's element functions (08 R206, R207), from the element's signedness and width and the elements of va, vb, vc and vd. -/
inductive Vint : (GV → Instr) → (Bool → (w : Nat) → BitVec w → BitVec w → BitVec w → BitVec w → BitVec w) → Prop
  | vadd : Vint .vadd fun _ _ a b _ _ => a + b
  | vsub : Vint .vsub fun _ _ a b _ _ => a - b
  | vmul : Vint .vmul fun _ _ a b _ _ => a * b
  | vmulh : Vint .vmulh fun sg w a b _ _ =>
      if sg then BitVec.ofInt w (a.toInt * b.toInt / 2 ^ w) else BitVec.ofNat w (a.toNat * b.toNat / 2 ^ w)
  | vmad : Vint .vmad fun _ _ a b c _ => a * b + c
  | vadds : Vint .vadds fun sg w a b _ _ => satInt sg w (elemInt sg a + elemInt sg b)
  | vsubs : Vint .vsubs fun sg w a b _ _ => satInt sg w (elemInt sg a - elemInt sg b)
  | vabsd : Vint .vabsd fun sg w a b _ _ => BitVec.ofNat w (elemInt sg a - elemInt sg b).natAbs
  | vmin : Vint .vmin fun sg _ a b _ _ => if elemInt sg a < elemInt sg b then a else b
  | vmax : Vint .vmax fun sg _ a b _ _ => if elemInt sg a < elemInt sg b then b else a
  | vand : Vint .vand fun _ _ a b _ _ => a &&& b
  | vor : Vint .vor fun _ _ a b _ _ => a ||| b
  | vxor : Vint .vxor fun _ _ a b _ _ => a ^^^ b
  | vandn : Vint .vandn fun _ _ a b _ _ => a &&& ~~~b
  | vnot : Vint .vnot fun _ _ a _ _ _ => ~~~a
  | vshl : Vint .vshl fun _ _ a b _ _ => a <<< b.toNat
  | vshr : Vint .vshr fun sg _ a b _ _ => if sg then a.sshiftRight b.toNat else a >>> b.toNat
  | vrotr : Vint .vrotr fun _ w a b _ _ => a.rotateRight (b.toNat % w)
  | vclz : Vint .vclz fun _ w a _ _ _ => BitVec.ofNat w (leadingZeros a)
  | vffs : Vint .vffs fun _ w a _ _ _ => BitVec.ofNat w (firstSet a)
  | vpopc : Vint .vpopc fun _ w a _ _ _ => BitVec.ofNat w (popCount a)
  | vbrev : Vint .vbrev fun _ _ a _ _ _ => bitReverse a
  | vaddmin : Vint .vaddmin fun sg w a b c _ =>
      if elemInt sg (satInt sg w (elemInt sg a + elemInt sg b)) < elemInt sg c then satInt sg w (elemInt sg a + elemInt sg b) else c
  | vbfx : Vint .vbfx fun sg _ a b c _ => bitFieldGet sg a (b.toNat % 32) (min (c.toNat % 64) (32 - b.toNat % 32))
  | vbfi : Vint .vbfi fun _ _ a b c d => bitFieldPut d a (b.toNat % 32) (min (c.toNat % 64) (32 - b.toNat % 32))
  | vmov : Vint .vmov fun _ _ a _ _ _ => a

/-- A VINT function in its general form, and the compact and short forms with the general form each stands for (06 R153, R157). -/
inductive VintForm : Instr → Nat → (GV → Instr) → GV → Prop
  | general (c o) : VintForm (c o) 8 c o
  | cMov (o) : VintForm (.cMov o) 2 .vmov (compactUnary .s32 o)
  | cAdd (o) : VintForm (.cAddS32 o) 2 .vadd (compact .s32 o)
  | cSub (o) : VintForm (.cSubS32 o) 2 .vsub (compact .s32 o)
  | cAnd (o) : VintForm (.cAnd o) 2 .vand (compact .s32 o)
  | cOr (o) : VintForm (.cOr o) 2 .vor (compact .s32 o)
  | cXor (o) : VintForm (.cXor o) 2 .vxor (compact .s32 o)
  | cShl (o) : VintForm (.cShlN32 o) 2 .vshl (compact .n32 o)
  | cShr (o) : VintForm (.cShrN32 o) 2 .vshr (compact .n32 o)
  | cMin (o) : VintForm (.cMinS32 o) 2 .vmin (compact .s32 o)
  | cMax (o) : VintForm (.cMaxS32 o) 2 .vmax (compact .s32 o)
  | cNot (o) : VintForm (.cNot o) 2 .vnot (compactUnary .s32 o)
  | vadd (o) : VintForm (.vaddS32Short o) 4 .vadd (shortV .s32 0 o)
  | vsub (o) : VintForm (.vsubS32Short o) 4 .vsub (shortV .s32 0 o)
  | vmul (o) : VintForm (.vmulS32Short o) 4 .vmul (shortV .s32 0 o)
  | vminS (o) : VintForm (.vminS32Short o) 4 .vmin (shortV .s32 0 o)
  | vmaxS (o) : VintForm (.vmaxS32Short o) 4 .vmax (shortV .s32 0 o)
  | vminN (o) : VintForm (.vminN32Short o) 4 .vmin (shortV .n32 0 o)
  | vmaxN (o) : VintForm (.vmaxN32Short o) 4 .vmax (shortV .n32 0 o)
  | vand (o) : VintForm (.vandShort o) 4 .vand (shortV .s32 0 o)
  | vor (o) : VintForm (.vorShort o) 4 .vor (shortV .s32 0 o)
  | vxor (o) : VintForm (.vxorShort o) 4 .vxor (shortV .s32 0 o)
  | vshl (o) : VintForm (.vshlN32Short o) 4 .vshl (shortV .n32 0 o)
  | vshrN (o) : VintForm (.vshrN32Short o) 4 .vshr (shortV .n32 0 o)
  | vshrS (o) : VintForm (.vshrS32Short o) 4 .vshr (shortV .s32 0 o)
  | vaddmin (o) : VintForm (.vaddminS32Short o) 4 .vaddmin (shortAcc .s32 o)

/-- VINTI's functions with the VINT function each applies to va and the immediate, general and short (06 R157, 08 R208). -/
inductive VintiForm : Instr → Nat → (GV → Instr) → GVI → Prop
  | add (o) : VintiForm (.vintiVadd o) 8 .vadd o
  | and (o) : VintiForm (.vintiVand o) 8 .vand o
  | or (o) : VintiForm (.vintiVor o) 8 .vor o
  | xor (o) : VintiForm (.vintiVxor o) 8 .vxor o
  | shl (o) : VintiForm (.vintiVshl o) 8 .vshl o
  | shr (o) : VintiForm (.vintiVshr o) 8 .vshr o
  | min (o) : VintiForm (.vintiVmin o) 8 .vmin o
  | max (o) : VintiForm (.vintiVmax o) 8 .vmax o
  | addmin (o) : VintiForm (.vintiVaddmin o) 8 .vaddmin o
  | addS (o) : VintiForm (.vintiVaddShort o) 4 .vadd (shortVI 0 o)
  | andS (o) : VintiForm (.vintiVandShort o) 4 .vand (shortVI 0 o)
  | shlS (o) : VintiForm (.vintiVshlShort o) 4 .vshl (shortVI 1 o)
  | shrN (o) : VintiForm (.vintiVshrN32Short o) 4 .vshr (shortVI 1 o)
  | shrS (o) : VintiForm (.vintiVshrS32Short o) 4 .vshr (shortVI 0 o)
  | minS (o) : VintiForm (.vintiVminShort o) 4 .vmin (shortVI 0 o)
  | maxS (o) : VintiForm (.vintiVmaxShort o) 4 .vmax (shortVI 0 o)

/-- VCMP's comparison by its code (06 R165). -/
def Compares (c : Nat) (x y : Int) : Bool :=
  match c with
  | 0 => x == y
  | 1 => x != y
  | 2 => decide (x < y)
  | 3 => decide (x ≤ y)
  | 4 => decide (x > y)
  | _ => decide (x ≥ y)

/-- 08 R203, R206, R207. -/
def IntegerLanes : Prop :=
  ∀ c f, Vint c f → ∀ i len (o : GV), VintForm i len c o → ∀ (s : State) (g wn : Nat), s.cur = .warp g wn → Computes i s →
    Unpoisoned (s.warp g wn) o.p o.pneg (sourceTag i (s.warp g wn)) →
    Moves i len s g wn fun w w' =>
      OnlyVector w w' o.vd.toNat (regsOf o.dtype) (acts w o.p o.pneg) ∧
      ∀ l < 64, acts w o.p o.pneg l = true →
        let sg := Ty.signed o.dtype
        let ew := (Ty.elems o.dtype).1
        let x (r : Reg) (i : Nat) : BitVec ew := elemAt (w.src o.dtype r l) ew i
        w'.src o.dtype o.vd l = packElems ew (Ty.elems o.dtype).2 fun i => f sg ew (x o.va i) (x o.vb i) (x o.vc i) (x o.vd i)

/-- 08 R208, 06 R157: a VINTI instruction applies its VINT function to va, the immediate and vd. -/
def ImmediateLanes : Prop :=
  (∀ c f, Vint c f → ∀ i len (o : GVI), VintiForm i len c o → ∀ (s : State) (g wn : Nat), s.cur = .warp g wn → Computes i s →
    Unpoisoned (s.warp g wn) o.p o.pneg (sourceTag i (s.warp g wn)) →
    Moves i len s g wn fun w w' =>
      OnlyVector w w' o.vd.toNat 1 (acts w o.p o.pneg) ∧
      ∀ l < 64, acts w o.p o.pneg l = true →
        w'.v o.vd.toNat l = f (decide (o.ty = 0)) 32 (w.v o.va.toNat l) o.imm (w.v o.vd.toNat l) 0) ∧
  (∀ (o : GVI) (s : State) (g wn : Nat), s.cur = .warp g wn → Computes (.vmovi o) s →
    Unpoisoned (s.warp g wn) o.p o.pneg (fun _ => none) →
    Moves (.vmovi o) 8 s g wn fun w w' =>
      OnlyVector w w' o.vd.toNat 1 (acts w o.p o.pneg) ∧
      ∀ l < 64, acts w o.p o.pneg l = true → w'.v o.vd.toNat l = o.imm)

/-- 08 R207, 06 R157: VSEL writes va where its predicate is 1 and vb elsewhere. -/
def SelectCompareAndNumber : Prop :=
  ∀ (s : State) (g wn : Nat), s.cur = .warp g wn → let x := s.warp g wn
    (∀ i len (o : GV), (i, len) = (Instr.vsel o, 8) ∨ (∃ q : SV3, (i, len) = (Instr.vselShort q, 4) ∧ o = shortSel q) → Computes i s →
      Unpoisoned x o.p o.pneg (fun l => minProv (x.predPoison l [fieldN o.aux 2 0]) (sourceTag i x l)) →
      Moves i len s g wn fun w w' => OnlyVector w w' o.vd.toNat (regsOf o.dtype) (acts w o.p o.pneg) ∧
        ∀ l < 64, acts w o.p o.pneg l = true →
          w'.src o.dtype o.vd l = w.src o.dtype (if bit (w.pred (fieldN o.aux 2 0)) l then o.va else o.vb) l) ∧
    (∀ o : GV, Computes (.vsrd o) s → Unpoisoned x o.p o.pneg (sourceTag (.vsrd o) x) →
      Moves (.vsrd o) 8 s g wn fun w w' => OnlyVector w w' o.vd.toNat 1 (acts w o.p o.pneg) ∧
        ∀ l < 64, acts w o.p o.pneg l = true → w'.v o.vd.toNat l =
          BitVec.ofNat 32 (if o.aux = 0 then wn * 64 + l else if o.aux = 1 then l else if o.aux = 2 then l / 4 else wn)) ∧
    (∀ i len (o : GV), (i, len) = (Instr.vcmp o, 8) ∨ (∃ q : SV3, (i, len) = (Instr.vcmpLtS32Short q, 4) ∧ o = shortV .s32 2 q) →
      Computes i s → Unpoisoned x o.p o.pneg (sourceTag i x) →
      Moves i len s g wn fun w w' => OnlyPred w w' o.vd.toNat (acts w o.p o.pneg) ∧
        ∀ l < 64, acts w o.p o.pneg l = true → o.vd ≠ 7 →
          let n (r : Reg) : Int := elemInt (Ty.signed o.dtype) ((w.src o.dtype r l).setWidth (Ty.elems o.dtype).1)
          bit (w'.pred o.vd.toNat) l = Compares o.aux.toNat (n o.va) (n o.vb)) ∧
    (∀ i len (o : GVI), (i, len) = (Instr.vintiVcmp o, 8) ∨ (∃ q : SVI, (i, len) = (Instr.vintiVcmpEqShort q, 4) ∧ o = shortVI 0 q) →
      Computes i s → Unpoisoned x o.p o.pneg (sourceTag i x) →
      Moves i len s g wn fun w w' => OnlyPred w w' (o.vd.toNat % 8) (acts w o.p o.pneg) ∧
        ∀ l < 64, acts w o.p o.pneg l = true → o.vd.toNat % 8 ≠ 7 →
          let n (v : W32) : Int := elemInt (decide (o.ty = 0)) v
          bit (w'.pred (o.vd.toNat % 8)) l = Compares (o.vd.toNat / 8) (n (w.v o.va.toNat l)) (n o.imm))

end Sys2Proof.Claims

/-- VINTI, VSEL, VCMP and VSRD write their results in every active thread. -/
def Obligations.ImmediateAndSelectLanes : Prop :=
  ImmediateLanes ∧ SelectCompareAndNumber

namespace Sys2Proof.Claims

/-! Floating-point lane instructions (08 R209-R221; 05 R138, R139, R143). -/

/-- Only vector registers `r` to `r + n - 1`, the generators and the flags that the threads of `m` may change have changed. -/
def OnlyLanes (w w' : Warp) (r n : Nat) (m : Nat → Bool) : Prop :=
  w' = { w with vregs := w'.vregs, vpoison := w'.vpoison, gens := w'.gens, fpflags := w'.fpflags, dirty := w'.dirty } ∧
  (∀ l < 64, m l = false → w'.gen l = w.gen l) ∧
  ∀ k l, l < 64 → (k < r ∨ r + n ≤ k ∨ m l = false) →
    w'.v k l = w.v k l ∧ Table.look w'.vpoison (vkey k l) = Table.look w.vpoison (vkey k l)

/-- The sticky flags gain exactly those that some thread of `m` raises (05 R143). -/
def Raises (w w' : Warp) (m : Nat → Bool) (fl : Nat → FpFlags) : Prop :=
  ∀ k < 5, w'.fpflags.getLsbD k = true ↔ (w.fpflags.getLsbD k = true ∨ ∃ l < 64, m l = true ∧ (fl l).getLsbD k = true)

/-- Each thread of `m` writes to vd the elements that `f` gives, element 0 first, each after one draw under rsr. -/
def FloatResult (o : GV) (f : Warp → Nat → Nat → W32 → Nat × FpFlags) (w w' : Warp) : Prop :=
  let out (l : Nat) := elemResults o.rnd (Ty.elems o.dtype).1 (f w l) (Ty.elems o.dtype).2 0 (w.gen l) 0 fpNone
  let m := acts w o.p o.pneg
  OnlyLanes w w' o.vd.toNat (regsOf o.dtype) m ∧ Raises w w' m (fun l => (out l).2.1) ∧
    ∀ l < 64, m l = true → w'.gen l = (out l).2.2 ∧
      (if o.dtype.pair then w'.src o.dtype o.vd l = (out l).1 else w'.v o.vd.toNat l = (out l).1.setWidth 32)

/-- VFLT's element functions (08 R209, R210, R213): from the format, the rounding mode, saturation, the draw and the codes of
the elements of va, vb and vc. -/
inductive Vflt : (GV → Instr) → (Fmt → Rnd → Bool → W32 → Nat → Nat → Nat → Nat × FpFlags) → Prop
  | fadd : Vflt .fadd fun f r sat u a b _ => f.round r sat u (addExact r (f.decode a) (f.decode b))
  | fsub : Vflt .fsub fun f r sat u a b _ => f.round r sat u (addExact r (f.decode a) (f.decode b).negate)
  | fmul : Vflt .fmul fun f r sat u a b _ => f.round r sat u (mulVal (f.decode a) (f.decode b)).exact
  | ffma : Vflt .ffma fun f r sat u a b c => f.round r sat u (fmaExact r (f.decode a) (f.decode b) (f.decode c))
  | ffms : Vflt .ffms fun f r sat u a b c => f.round r sat u (fmaExact r (f.decode a) (f.decode b) (f.decode c).negate)
  | fmin : Vflt .fmin fun f _ _ _ a b _ => f.minMax true a b
  | fmax : Vflt .fmax fun f _ _ _ a b _ => f.minMax false a b
  | fabs : Vflt .fabs fun f _ _ _ a _ _ => (a % 2 ^ (f.ew + f.mw), 0)
  | fneg : Vflt .fneg fun f _ _ _ a _ _ =>
      (if a < 2 ^ (f.ew + f.mw) then a + 2 ^ (f.ew + f.mw) else a - 2 ^ (f.ew + f.mw), 0)
  | fscaleb : Vflt .fscaleb fun f r sat u a b _ =>
      f.round r sat u (scalebExact (f.decode a) (elemInt true (BitVec.ofNat (min f.bits 32) b)))
  | frnd : Vflt .frnd fun f r _ u a _ _ => f.frnd r u a
  | fdiv : Vflt .fdiv fun f r sat u a b _ =>
      let q := divExact (f.decode a) (f.decode b)
      ((f.round r sat u q.1).1, q.2 ||| (f.round r sat u q.1).2)
  | faddmin : Vflt .faddmin fun f r sat u a b c =>
      let x := f.round r sat u (addExact r (f.decode a) (f.decode b))
      ((f.minMax true x.1 c).1, x.2 ||| (f.minMax true x.1 c).2)

/-- A VFLT function in its general form, and the compact and short forms with the general form each stands for (06 R153, R157). -/
inductive VfltForm : Instr → Nat → (GV → Instr) → GV → Prop
  | general (c o) : VfltForm (c o) 8 c o
  | cAdd (o) : VfltForm (.cFaddF32 o) 2 .fadd (compact .f32 o)
  | cSub (o) : VfltForm (.cFsubF32 o) 2 .fsub (compact .f32 o)
  | cMul (o) : VfltForm (.cFmulF32 o) 2 .fmul (compact .f32 o)
  | cMin (o) : VfltForm (.cFminF32 o) 2 .fmin (compact .f32 o)
  | cMax (o) : VfltForm (.cFmaxF32 o) 2 .fmax (compact .f32 o)
  | add (o) : VfltForm (.faddF32Short o) 4 .fadd (shortV .f32 0 o)
  | sub (o) : VfltForm (.fsubF32Short o) 4 .fsub (shortV .f32 0 o)
  | mul (o) : VfltForm (.fmulF32Short o) 4 .fmul (shortV .f32 0 o)
  | min (o) : VfltForm (.fminF32Short o) 4 .fmin (shortV .f32 0 o)
  | max (o) : VfltForm (.fmaxF32Short o) 4 .fmax (shortV .f32 0 o)
  | addB (o) : VfltForm (.faddBf16x2Short o) 4 .fadd (shortV .bf16x2 0 o)
  | mulB (o) : VfltForm (.fmulBf16x2Short o) 4 .fmul (shortV .bf16x2 0 o)
  | fma (o) : VfltForm (.ffmaF32Short o) 4 .ffma (shortAcc .f32 o)
  | fmaB (o) : VfltForm (.ffmaBf16x2Short o) 4 .ffma (shortAcc .bf16x2 o)

/-- VSFU's bounded functions with their function codes (08 R214). -/
inductive Vsfu : (GV → Instr) → Nat → Prop
  | frcp : Vsfu .frcp 0
  | frsq : Vsfu .frsq 1
  | fexp2 : Vsfu .fexp2 3
  | flog2 : Vsfu .flog2 4
  | fsin : Vsfu .fsin 5
  | fcos : Vsfu .fcos 6
  | ftanh : Vsfu .ftanh 7

/-- Element `i` of a register operand of a thread under a type. -/
def elemCode (w : Warp) (t : Ty) (r : Reg) (l i : Nat) : Nat := (elemAt (w.src t r l) (Ty.elems t).1 i).toNat

/-- 08 R203, R209, R210, R213. -/
def FloatLanes : Prop :=
  ∀ c f, Vflt c f → ∀ i len (o : GV), VfltForm i len c o → ∀ (s : State) (g wn : Nat), s.cur = .warp g wn → Computes i s →
    Unpoisoned (s.warp g wn) o.p o.pneg (sourceTag i (s.warp g wn)) →
    Moves i len s g wn (FloatResult o fun w l k u =>
      f (formatOf o) o.rnd o.sat u (elemCode w o.dtype o.va l k) (elemCode w o.dtype o.vb l k) (elemCode w o.dtype o.vc l k))

/-- 08 R211, R212, 06 R157: FCMP and its short form write a predicate with the flags of the comparison. -/
def FloatCompareAndClass : Prop :=
  ∀ (s : State) (g wn : Nat), s.cur = .warp g wn → let x := s.warp g wn
    (∀ i len (o : GV), (i, len) = (Instr.fcmp o, 8) ∨ (∃ q : SV3, (i, len) = (Instr.fcmpLtF32Short q, 4) ∧ o = shortV .f32 2 q) →
      Computes i s → Unpoisoned x o.p o.pneg (sourceTag i x) →
      Moves i len s g wn fun w w' =>
        let c (l : Nat) := (formatOf o).compare o.aux.toNat (w.src o.dtype o.va l).toNat (w.src o.dtype o.vb l).toNat
        w' = { w with preds := w'.preds, gens := w'.gens, fpflags := w'.fpflags } ∧ (∀ l, w'.gen l = w.gen l) ∧
        Raises w w' (acts w o.p o.pneg) (fun l => (c l).2) ∧
        ∀ j l, l < 64 → bit (w'.pred j) l =
          (if j = o.vd.toNat ∧ j ≠ 7 ∧ acts w o.p o.pneg l = true then (c l).1 else bit (w.pred j) l)) ∧
    (∀ o : GV, Computes (.fclass o) s → Unpoisoned x o.p o.pneg (sourceTag (.fclass o) x) →
      Moves (.fclass o) 8 s g wn fun w w' => OnlyVector w w' o.vd.toNat (regsOf o.dtype) (acts w o.p o.pneg) ∧
        ∀ l < 64, acts w o.p o.pneg l = true → w'.src o.dtype o.vd l =
          BitVec.ofNat 64 (2 ^ (formatOf o).classBit (w.src o.dtype o.va l).toNat))

/-- 08 R214-R217: a special function writes each element's result for the f32 value of the operand. The model's own choices in
it: log 10. -/
def SpecialFunctions : Prop :=
  (∀ c fn, Vsfu c fn → ∀ (o : GV) (s : State) (g wn : Nat), s.cur = .warp g wn → Computes (c o) s →
    Unpoisoned (s.warp g wn) o.p o.pneg (sourceTag (c o) (s.warp g wn)) →
    Moves (c o) 8 s g wn (FloatResult o fun w l k _ => sfuElem fn o (elemCode w o.dtype o.va l k))) ∧
  (∀ (o : GV) (s : State) (g wn : Nat), s.cur = .warp g wn → Computes (.fsqrt o) s →
    Unpoisoned (s.warp g wn) o.p o.pneg (sourceTag (.fsqrt o) (s.warp g wn)) →
    Moves (.fsqrt o) 8 s g wn (FloatResult o fun w l k u =>
      (formatOf o).round o.rnd false u (sqrtExact ((formatOf o).decode (elemCode w o.dtype o.va l k)))))

/-- 08 R218-R221. -/
def Conversions : Prop :=
  ∀ (s : State) (g wn : Nat) (o : GV), s.cur = .warp g wn → let x := s.warp g wn
    (Computes (.cvt o) s → Unpoisoned x o.p o.pneg (sourceTag (.cvt o) x) →
      Moves (.cvt o) 8 s g wn (FloatResult o fun w l _ u =>
        convertElem (sourceTy o) o.dtype ((w.src (sourceTy o) o.va l).toNat % 2 ^ (Ty.elems (sourceTy o)).1) o.rnd o.sat u)) ∧
    (Computes (.pack o) s → Unpoisoned x o.p o.pneg (sourceTag (.pack o) x) →
      Moves (.pack o) 8 s g wn (FloatResult o fun w l k u =>
        let r : Nat := if (Ty.elems o.dtype).2 = 4 then (if k < 2 then o.va else o.vb).toNat + k % 2
          else (if k = 0 then o.va else o.vb).toNat
        convertElem (sourceTy o) (elementTy o.dtype) (w.v r l).toNat o.rnd o.sat u)) ∧
    (Computes (.unpack o) s → Unpoisoned x o.p o.pneg (sourceTag (.unpack o) x) → Ty.isInt (elementTy (sourceTy o)) = true →
      Moves (.unpack o) 8 s g wn fun w w' => OnlyVector w w' o.vd.toNat 1 (acts w o.p o.pneg) ∧
        ∀ l < 64, acts w o.p o.pneg l = true →
          let ew := (Ty.elems (elementTy (sourceTy o))).1
          w'.v o.vd.toNat l = BitVec.ofInt 32 (elemInt (Ty.signed (elementTy (sourceTy o)))
            (BitVec.ofNat ew ((w.v o.va.toNat l).toNat / 2 ^ (ew * o.vb.toNat) % 2 ^ ew)))) ∧
    (Computes (.unpack o) s → Unpoisoned x o.p o.pneg (sourceTag (.unpack o) x) → Ty.isInt (elementTy (sourceTy o)) = false →
      Moves (.unpack o) 8 s g wn fun w w' => OnlyLanes w w' o.vd.toNat 1 (acts w o.p o.pneg) ∧
        ∀ l < 64, acts w o.p o.pneg l = true →
          let src := elementTy (sourceTy o)
          let ew := (Ty.elems src).1
          let v := Ty.value src ((w.v o.va.toNat l).toNat / 2 ^ (ew * o.vb.toNat) % 2 ^ ew)
          let e := (w.v o.vc.toNat l).toNat / 2 ^ 8 % 2 ^ 8
          w'.v o.vd.toNat l = BitVec.ofNat 32 (fmtF32.round .rne false 0 (if o.vc = 0 then v
            else if e = 0xFF then .nan false else mulVal v (e8m0Val e)).exact).1) ∧
    (Computes (.mxscale o) s → (∀ l < 64, bit x.head.mask l = true → x.predPoison l [o.p.toNat] = none ∧
        x.sourcePoison l [(o.va, 1)] = none) →
      Moves (.mxscale o) 8 s g wn fun w w' => OnlyLanes w w' o.vd.toNat 1 (acts w o.p o.pneg) ∧
        ∀ l < 64, acts w o.p o.pneg l = true →
          let f := (Ty.fmt (sourceTy o)).getD fmtE4m3
          let block := (lanesOf (w.head.mask &&& w.active o.p o.pneg)).filter fun k => k / 32 == l / 32
          let k := blockScale f (block.map fun j => fmtF32.decode (w.v o.va.toNat j).toNat)
          let e : Exact := match fmtF32.decode (w.v o.va.toNat l).toNat with
            | .num sign m p => .ratio sign m 1 (p - ((k : Int) - 127))
            | v => v.exact
          w'.v o.vd.toNat l = BitVec.ofNat 32 ((f.round .rne true 0 e).1 + k * 256))

end Sys2Proof.Claims

/-- VFLT and VSFU write their element results and exactly the flags raised. The model's own choices in it: log 10. -/
def Obligations.FloatLaneResults : Prop :=
  FloatLanes ∧ FloatCompareAndClass ∧ SpecialFunctions

namespace Sys2Proof.Claims

/-! Cross-lane operations and predicates (08 R222-R227). -/

/-- The moving functions, general and short, with their lengths and the source lane of thread `l` (none: its own vb), from the
lane offset and the control register (08 R223). -/
inductive Vxl : (GV → Instr) → (GV → Warp → Nat → Option Nat) → Prop
  | vshfl : Vxl .vshfl fun o w l => some ((w.v o.vb.toNat l).toNat % 64)
  | vshup : Vxl .vshup fun o _ l => if laneOffset o.aux ≤ l then some (l - laneOffset o.aux) else none
  | vshdn : Vxl .vshdn fun o _ l => if l + laneOffset o.aux < 64 then some (l + laneOffset o.aux) else none
  | vrotw : Vxl .vrotw fun o _ l => some ((l + 64 - laneOffset o.aux % 64) % 64)
  | vbcast : Vxl .vbcast fun o _ _ => some o.vb.toNat
  | qswap : Vxl .qswap fun o _ l => some (l ^^^ (o.aux.toNat + 1))
  | qbcast : Vxl .qbcast fun o _ l => some (l / 4 * 4 + o.aux.toNat)

/-- A moving function in its general form, and the short VSHFL (06 R157). -/
inductive VxlForm : Instr → Nat → (GV → Instr) → GV → Prop
  | general (c o) : VxlForm (c o) 8 c o
  | short (o) : VxlForm (.vshflShort o) 4 .vshfl (shortV .s32 0 o)

/-- No head thread has a poisoned predicate file to read, and no active one a poisoned source. -/
def WholeUnpoisoned (w : Warp) (o : GV) (preds : List Nat) (srcs : List (Reg × Nat)) : Prop :=
  ∀ l < 64, bit w.head.mask l = true → w.predPoison l preds = none ∧
    (bit (w.active o.p o.pneg) l = true → w.sourcePoison l srcs = none)

/-- VPRED's two-operand functions. -/
inductive Vpred : (GV → Instr) → (Bool → Bool → Bool) → Prop
  | pand : Vpred .pand fun a b => a && b
  | por : Vpred .por fun a b => a || b
  | pxor : Vpred .pxor fun a b => a != b
  | pnot : Vpred .pnot fun a _ => !a

/-- 08 R222, R223, 06 R157: a moving function gives each active thread the value of va in its source thread, 0 from one that
never started, or its own vb where the fill is taken. -/
def CrossLaneMoves : Prop :=
  ∀ c src, Vxl c src → ∀ i len (o : GV), VxlForm i len c o → ∀ (s : State) (g wn : Nat), s.cur = .warp g wn → Computes i s →
    (s.warp g wn).vpoison = [] → (∀ l < 64, (s.warp g wn).predPoison l [o.p.toNat] = none) →
    Moves i len s g wn fun w w' => OnlyVector w w' o.vd.toNat (regsOf o.dtype) (acts w o.p o.pneg) ∧
      ∀ l < 64, acts w o.p o.pneg l = true → w'.src o.dtype o.vd l =
        match src o w l with
        | some j => if bit w.unstarted j then 0 else w.src o.dtype o.va j
        | none => w.src o.dtype o.vb l

/-- 08 R224, R225. -/
def CrossLaneReductions : Prop :=
  ∀ (o : GV) (s : State) (g wn : Nat), s.cur = .warp g wn → let x := s.warp g wn
    (Computes (.vreduce o) s → WholeUnpoisoned x o [o.p.toNat] (laneSources 0x0C 5 o) →
      Moves (.vreduce o) 8 s g wn fun w w' => OnlyLanes w w' o.vd.toNat (regsOf o.dtype) (acts w o.p o.pneg) ∧
        ∀ l < 64, acts w o.p o.pneg l = true → w'.src o.dtype o.vd l =
          (if o.dtype.pair then id else fun v : Word => (v.setWidth 32 : W32).setWidth 64)
            (reduceTree o.dtype o.aux.toNat o.rnd 6 (reduceStart w o) 0).1) ∧
    (Computes (.vscan o) s → WholeUnpoisoned x o [o.p.toNat] (laneSources 0x0C 6 o) →
      Moves (.vscan o) 8 s g wn fun w w' => OnlyLanes w w' o.vd.toNat (regsOf o.dtype) (acts w o.p o.pneg) ∧
        ∀ l < 64, acts w o.p o.pneg l = true → w'.src o.dtype o.vd l =
          (if o.dtype.pair then id else fun v : Word => (v.setWidth 32 : W32).setWidth 64)
            (listGet 0 (scanSteps o.dtype o.aux.toNat o.rnd 6 1 (reduceStart w o) 0).1 l)) ∧
    (Computes (.vmatch o) s → WholeUnpoisoned x o [o.p.toNat] (laneSources 0x0C 11 o) →
      Moves (.vmatch o) 8 s g wn fun w w' => OnlyVector w w' o.vd.toNat 1 (acts w o.p o.pneg) ∧
        ∀ l < 64, acts w o.p o.pneg l = true → ∃ j < 64, (w'.v o.vd.toNat l).toNat = j ∧
          bit (w.head.mask &&& w.active o.p o.pneg) j = true ∧ w.src o.dtype o.va j = w.src o.dtype o.va l ∧
          ∀ k < j, bit (w.head.mask &&& w.active o.p o.pneg) k = true → w.src o.dtype o.va k ≠ w.src o.dtype o.va l)

/-- 08 R225: VBALLOT writes S[sd] the active threads whose predicate is 1. -/
def BallotAndVote : Prop :=
  ∀ (o : GV) (s : State) (g wn : Nat), s.cur = .warp g wn → let x := s.warp g wn
    (Computes (.vballot o) s → WholeUnpoisoned x o [o.p.toNat, o.va.toNat] [] →
      exec (.vballot o) s = .next ((s.setWarp g wn { x with
        agent := x.agent.setSreg o.vd.toNat (x.head.mask &&& x.active o.p o.pneg &&& x.pred o.va.toNat) none }).advance 8)) ∧
    (Computes (.vvote o) s → WholeUnpoisoned x o [o.p.toNat, o.va.toNat] [] →
      Moves (.vvote o) 8 s g wn fun w w' => OnlyPred w w' o.vd.toNat (acts w o.p o.pneg) ∧
        let act (l : Nat) : Prop := bit (w.head.mask &&& w.active o.p o.pneg) l = true
        let one (l : Nat) : Prop := bit (w.pred o.va.toNat) l = true
        o.vd ≠ 7 → ∀ l < 64, acts w o.p o.pneg l = true → (bit (w'.pred o.vd.toNat) l = true ↔
          if o.aux = 0 then ∀ k < 64, act k → one k
          else if o.aux = 1 then ∃ k < 64, act k ∧ one k
          else (∀ k < 64, act k → one k) ∨ ∀ k < 64, act k → ¬ one k))

/-- 08 R227: the predicate functions write pd of each active thread from pa and pb, PSET a bit of va, and PGET all eight
predicates of the thread. -/
def PredicateOperations : Prop :=
  ∀ (o : GV) (s : State) (g wn : Nat), s.cur = .warp g wn → (s.warp g wn).ppoison = [] → (s.warp g wn).vpoison = [] →
    (∀ c f, Vpred c f → Computes (c o) s → Moves (c o) 8 s g wn fun w w' => OnlyPred w w' o.vd.toNat (acts w o.p o.pneg) ∧
      (o.vd ≠ 7 → ∀ l < 64, acts w o.p o.pneg l = true →
        bit (w'.pred o.vd.toNat) l = f (bit (w.pred o.va.toNat) l) (bit (w.pred o.vb.toNat) l))) ∧
    (Computes (.pset o) s → Moves (.pset o) 8 s g wn fun w w' => OnlyPred w w' o.vd.toNat (acts w o.p o.pneg) ∧
      (o.vd ≠ 7 → ∀ l < 64, acts w o.p o.pneg l = true →
        bit (w'.pred o.vd.toNat) l = (w.v o.va.toNat l).getLsbD o.aux.toNat)) ∧
    (Computes (.pget o) s → Moves (.pget o) 8 s g wn fun w w' => OnlyVector w w' o.vd.toNat 1 (acts w o.p o.pneg) ∧
      ∀ l < 64, acts w o.p o.pneg l = true → ∀ k < 32,
        (w'.v o.vd.toNat l).getLsbD k = (decide (k < 8) && bit (w.pred k) l))

end Sys2Proof.Claims

/-- Ballots, votes and predicate functions write their predicates and registers. -/
def Obligations.BallotsAndPredicates : Prop :=
  BallotAndVote ∧ PredicateOperations

namespace Sys2Proof.Claims

/-! Memory instructions (07 R188, R189; 09 R236-R252). -/

/-- Every lane in turn passes the checks of 09 R240 and finds its places, from `s` on; `u` is the state after the walks. -/
inductive FoundAll (a : AgentId) (m : MemOp) : State → List LaneAcc → List (LaneAcc × List Loc) → State → Prop
  | none (s : State) : FoundAll a m s [] [] s
  | lane {s v u : State} {x ls xs ys} (h : s.classify a m false x = (.ok ls, v)) (local_ : ∀ l ∈ ls, l.space ≠ .fabric)
      (rest : FoundAll a m v xs ys u) : FoundAll a m s (x :: xs) ((x, ls) :: ys) u

/-- What issuing a memory operation leaves as it was: everything but the agent's operations, where it stands, the L1 copies, the
meters, and the next identity; `u` is the state after the walks. -/
structure IssueFrame (u t : State) (a : AgentId) : Prop where
  rest : t = { u with groups := t.groups, ctl := t.ctl, cores := t.cores, vds := t.vds, l1Choice := t.l1Choice, uid := u.uid + 1 }
  sregs : (t.agent a).sregs = (u.agent a).sregs
  warps : ∀ g w, (t.warp g w).vregs = (u.warp g w).vregs ∧ (t.warp g w).preds = (u.warp g w).preds ∧
    (t.warp g w).fpflags = (u.warp g w).fpflags ∧ (t.warp g w).frontier = (u.warp g w).frontier

/-- The state with no unowned copy in any L1: what loads find that leave no copy (13 R321). -/
def Fresh (u : State) : State := { u with cores := u.cores.map fun e => (e.1, { e.2 with l1 := [] }) }

/-- Neither damper holds requests of the agent's VD (03 R89), and no paired execution is to differ (17 R398). -/
def Flows (s : State) (a : AgentId) : Prop :=
  (s.vd (s.vdOf a)).hbmHeld = false ∧ (s.vd (s.vdOf a)).linkHeld = false ∧ Unpaired s

/-- No write-combining entry of the agent's core is due to be sent (15 R365). -/
def Combining (u : State) (a : AgentId) : Prop :=
  ∀ c, u.coreOf a = some c → ∀ e ∈ (u.core c).wc, u.pf.fabWc = true ∧ e.bytes.length < 64

/-- SLD and its short form with their lengths, operands and fields (06 R155, R160). -/
inductive SldForm : Instr → Nat → GSI → Prop
  | long (o) : SldForm (.sld o) 8 o
  | short (sd sa imm) : SldForm (.sld64Short sd sa imm) 4 ⟨sd, sa, 3, imm.signExtend 32 <<< 3⟩
inductive SstForm : Instr → Nat → GSI → Prop
  | long (o) : SstForm (.sst o) 8 o
  | short (sd sa imm) : SstForm (.sst64Short sd sa imm) 4 ⟨sd, sa, 3, imm.signExtend 32 <<< 3⟩

/-- The loads and stores over lanes: length, fields, and whether the address is unit-stride (09 R245, R246, R248). -/
inductive VldForm : Instr → Nat → GM → Bool → Prop
  | vld (o) : VldForm (.vld o) 8 o true
  | short (q) : VldForm (.vld32Short q) 4 (shortVM q) true
  | vgather (o) : VldForm (.vgather o) 8 o false
inductive VstForm : Instr → Nat → GM → Bool → Prop
  | vst (o) : VstForm (.vst o) 8 o true
  | short (q) : VstForm (.vst32Short q) 4 (shortVM q) true
  | vscatter (o) : VstForm (.vscatter o) 8 o false

/-- 07 R188. The model's own choices in it: log 72. -/
def ScalarLoadIssues : Prop :=
  ∀ i len (o : GSI), SldForm i len o → ∀ (s u : State) (l : Loc), Runs i s →
    let n := 2 ^ (o.aux.toNat % 4)
    let x : LaneAcc := ⟨0, s.sreg o.sa + o.imm.signExtend 64, [], none, []⟩
    let m : MemOp := ⟨.load, n, false, o.sd, o.aux.getLsbD 4, o.aux.getLsbD 2, s.pc, s.headMask⟩
    Flows s s.cur → s.memStalled s.cur .loads m [x] = false → FoundAll s.cur m s [x] [(x, [l])] u → u.l1Choice = [] → Combining u s.cur → u.live s.cur = true →
    ∃ t : State, exec i s = .next (t.advance len) ∧ IssueFrame u t s.cur ∧
      ∃ rd, (⟨u.uid, .loads, .load { m with acquires := false } [.scalar o.sd.toNat
        (let v : Word := BitVec.ofNat 64 (leN ((Fresh u).loadPieces s.cur [l] n).1)
         if o.aux.getLsbD 4 then bitFieldGet true v 0 (8 * n) else v) none] [] [] [] rd⟩ : Op) ∈ (t.agent s.cur).ops

/-- 07 R188. The model's own choices in it: log 72. -/
def ScalarStoreIssues : Prop :=
  ∀ i len (o : GSI), SstForm i len o → ∀ (s u : State) (l : Loc), Runs i s →
    let n := 2 ^ (o.aux.toNat % 4)
    let p := if o.sd = 0 then none else Table.look (s.agent s.cur).spoison o.sd.toNat
    let x : LaneAcc := ⟨0, s.sreg o.sa + o.imm.signExtend 64, leB n (s.sreg o.sd).toNat, p, []⟩
    let m : MemOp := ⟨.store, n, false, 0, false, false, s.pc, s.headMask⟩
    Flows s s.cur → s.memStalled s.cur .stores m [x] = false → (o.aux.getLsbD 3 = true → s.released s.cur = true) →
    FoundAll s.cur m s [x] [(x, [l])] u → Combining u s.cur → u.live s.cur = true →
    ∃ t : State, exec i s = .next (t.advance len) ∧ IssueFrame u t s.cur ∧
      (⟨u.uid, .stores, .store m (writesAt l (leB n (s.sreg o.sd).toNat) p) [] []⟩ : Op) ∈ (t.agent s.cur).ops

/-- 07 R189. The model's own choices in it: log 72. -/
def ScalarAtomic : Prop :=
  ∀ (o : GS) (s u : State) (l : Loc), Runs (.satom o) s →
    let code := (satomCode o.cw).1
    let n := (satomCode o.cw).2
    let x : LaneAcc := ⟨0, s.sreg o.sa, leB n (s.sreg o.sb).toNat, none, leB n (s.sreg o.sc).toNat⟩
    let m : MemOp := ⟨.atomic code (o.sd != 0), n, false, o.sd, false, false, s.pc, s.headMask⟩
    Flows s s.cur → s.memStalled s.cur (if o.sd = 0 then .stores else .loads) m [x] = false → FoundAll s.cur m s [x] [(x, [l])] u →
    Combining u s.cur → u.live s.cur = true → (∀ g w, l.space ≠ .window g w) → u.trackedLines (writesAt l x.data none) = [] →
    (∀ q ∈ (u.agent s.cur).ops, ∀ k ws pk rm, q.work ≠ .store k ws pk rm) →
    ∃ t : State, exec (.satom o) s = .next (t.advance 8) ∧
      (∀ k < n, t.readByte (l.plus k) = listGet 0 (atomicBytes code.toNat (u.readBytes l n) x.data x.compare) k) ∧
      (∀ k : Loc, (∀ j < n, k.key ≠ (l.plus j).key) → (∀ g w, k.space ≠ .window g w) → t.readByte k = u.readByte k) ∧
      (t.agent s.cur).sregs = (u.agent s.cur).sregs ∧
      ∃ rd, (⟨u.uid, if o.sd = 0 then .stores else .loads, if o.sd = 0 then .store m [] [] [] else
        .load m [.scalar o.sd.toNat (BitVec.ofNat 64 (leN (u.readBytes l n))) none] [] [] [] rd⟩ : Op) ∈ (t.agent s.cur).ops

/-- 09 R237, R241, R245, R246. The model's own choices in it: log 72. -/
def VectorLoadIssues : Prop :=
  ∀ i len (o : GM) unit, VldForm i len o unit → ∀ (s u : State) (g wn : Nat) xs ys, s.cur = .warp g wn → Runs i s →
    s.vmemLanes (s.warp g wn) unit false o none none = ([], xs) →
    let m : MemOp := ⟨.load, o.width.bytes, true, o.vdata, false, o.order.acquires, s.pc, s.headMask⟩
    Flows s s.cur → s.memStalled s.cur .loads m xs = false → (o.order.releases = true → s.released s.cur = true) →
    FoundAll s.cur m s xs ys u → u.l1Choice = [] → Combining u s.cur → u.live s.cur = true →
    if xs = [] then exec i s = .next ((if o.order.acquires then s.acquire s.cur else s).advance len)
    else ∃ t : State, exec i s = .next (t.advance len) ∧ IssueFrame u t s.cur ∧
      ∃ rd, (⟨u.uid, .loads, .load { m with acquires := false }
        (ys.flatMap fun y => laneRegs m y.1 ((Fresh u).loadPieces s.cur y.2 o.width.bytes).1) [] [] [] rd⟩ : Op) ∈ (t.agent s.cur).ops

/-- 09 R237, R241, R245, R246. The model's own choices in it: log 72. -/
def VectorStoreIssues : Prop :=
  ∀ i len (o : GM) unit, VstForm i len o unit → ∀ (s u : State) (g wn : Nat) xs ys, s.cur = .warp g wn → Runs i s →
    s.vmemLanes (s.warp g wn) unit false o (some o.vdata.toNat) none = ([], xs) →
    let m : MemOp := ⟨.store, o.width.bytes, true, o.vdata, false, o.order.acquires, s.pc, s.headMask⟩
    Flows s s.cur → s.memStalled s.cur .stores m xs = false → (o.order.releases = true → s.released s.cur = true) →
    FoundAll s.cur m s xs ys u → Combining u s.cur → (∀ y ∈ ys, ∃ l, y.2 = [l]) → u.live s.cur = true →
    if xs = [] then exec i s = .next ((if o.order.acquires then s.acquire s.cur else s).advance len)
    else ∃ t : State, exec i s = .next (t.advance len) ∧ IssueFrame u t s.cur ∧ ∃ m' ws,
      (⟨u.uid, .stores, .store m' ws [] []⟩ : Op) ∈ (t.agent s.cur).ops ∧
      ∀ w, w ∈ ws ↔ ∃ y ∈ ys, ∃ l k, y.2 = [l] ∧ k < y.1.data.length ∧
        w = ⟨l.plus k, listGet 0 y.1.data k, y.1.prov⟩

/-- 09 R248: VLDSTEP whose active lanes all find local places and the tag they require issues a load of the lanes' bytes as it
stands, and moves on. The model's own choices in it: log 72. -/
def StepLoadIssues : Prop :=
  ∀ (o : GM) (s u : State) (g wn : Nat) xs ys, s.cur = .warp g wn → Runs (.vldstep o) s →
    s.vmemLanes (s.warp g wn) false false o none none = ([], xs) → xs ≠ [] →
    let m : MemOp := ⟨.step (s.sreg (o.sa + 1)), o.width.bytes, true, o.vdata, false, o.order.acquires, s.pc, s.headMask⟩
    Flows s s.cur → s.memStalled s.cur .loads m xs = false → (o.order.releases = true → s.released s.cur = true) →
    FoundAll s.cur m s xs ys u → u.l1Choice = [] → Combining u s.cur → u.live s.cur = true →
    ∃ t : State, exec (.vldstep o) s = .next (t.advance 8) ∧ IssueFrame u t s.cur ∧
      ∃ rd, (⟨u.uid, .loads, .load { m with acquires := false }
        (ys.flatMap fun y => laneRegs m y.1 ((Fresh u).loadPieces s.cur y.2 o.width.bytes).1) [] [] [] rd⟩ : Op) ∈ (t.agent s.cur).ops

/-- 09 R250-R252: VATOM and VRED whose active lanes have no poison and find local places, with no earlier store of the warp
pending, change no byte outside those places and no register yet. The model's own choices in it: log 72. -/
def VectorAtomics : Prop :=
  ∀ (o : GM) (s u : State) (g wn : Nat) (keep : Bool) xs ys, s.cur = .warp g wn →
    let i := if keep then Instr.vatom o else .vred o
    let code : BitVec 4 := o.off.setWidth 4
    let r := o.vdata.toNat
    let n := o.width.bytes
    Runs i s →
    s.vmemLanes (s.warp g wn) false true o (some r) (if code = 9 then some (r + o.width.regs) else none) = ([], xs) → xs ≠ [] →
    let m : MemOp := ⟨.atomic code keep, n, true, o.vdata, false, o.order.acquires, s.pc, s.headMask⟩
    Flows s s.cur → s.memStalled s.cur (if keep then .loads else .stores) m xs = false → (o.order.releases = true → s.released s.cur = true) →
    FoundAll s.cur m s xs ys u → Combining u s.cur → u.live s.cur = true → (∀ y ∈ ys, y.1.prov = none) →
    (∀ q ∈ (u.agent s.cur).ops, ∀ k ws pk rm, q.work ≠ .store k ws pk rm) →
    ∃ t : State, exec i s = .next (t.advance 8) ∧ (t.warp g wn).vregs = (u.warp g wn).vregs ∧
      (t.agent s.cur).sregs = (u.agent s.cur).sregs ∧
      (∀ k : Loc, (∀ y ∈ ys, ∀ l ∈ y.2, ∀ j < n, k.key ≠ (l.plus j).key) → (∀ a b, k.space ≠ .window a b) →
        t.readByte k = u.readByte k) ∧
      ∀ x l, ys = [(x, [l])] →
        (∀ k < n, t.readByte (l.plus k) = listGet 0 (atomicBytes code.toNat (u.readBytes l n) x.data x.compare) k) ∧
        (keep = true → u.trackedLines (writesAt l x.data none) = [] →
          ∃ m' rd, (⟨u.uid, .loads, .load m' (laneRegs m x (u.readBytes l n)) [] [] [] rd⟩ : Op) ∈ (t.agent s.cur).ops)

/-- 09 R249. -/
def SpillAndFillIssue : Prop :=
  ∀ (o : GM) (s u : State) (g wn : Nat) (ls : List Loc), s.cur = .warp g wn →
    let w := s.warp g wn
    let addr := w.spillSp + 272 * o.off.setWidth 64
    let area := s.spillArea g wn
    w.spillSp.toNat % 16 = 0 → area.1 ≤ addr.toNat → addr.toNat + 272 ≤ area.1 + area.2 → Combining u s.cur → u.live s.cur = true →
    (Runs (.vspill o) s →
      let data := w.spillSlot o.vdata.toNat
      let p := lowestProv ((List.range 64).map fun l => if bit w.unstarted l then none else w.sourcePoison l [(o.vdata, 1)])
      let x : LaneAcc := ⟨0, addr, data, p, []⟩
      let m : MemOp := ⟨.spill, 272, true, o.vdata, false, false, s.pc, s.headMask⟩
      Flows s s.cur → s.memStalled s.cur .stores m [x] = false → FoundAll s.cur m s [x] [(x, ls)] u →
      ∃ t : State, exec (.vspill o) s = .next (t.advance 8) ∧ IssueFrame u t s.cur ∧
        (⟨u.uid, .stores, .store m ((List.range data.length).map fun k =>
          ⟨(listGet (ls.headD ⟨.hbm, 0⟩) ls (k / 16)).plus (k % 16), listGet 0 data k, p⟩) [] []⟩ : Op) ∈ (t.agent s.cur).ops) ∧
    (Runs (.vfill o) s →
      let x : LaneAcc := ⟨0, addr, [], none, []⟩
      let m : MemOp := ⟨.fill, 272, true, o.vdata, false, false, s.pc, s.headMask⟩
      Flows s s.cur → s.memStalled s.cur .loads m [x] = false → FoundAll s.cur m s [x] [(x, ls)] u → u.l1Choice = [] →
      ∃ t : State, exec (.vfill o) s = .next (t.advance 8) ∧ IssueFrame u t s.cur ∧
        ∃ rd, (⟨u.uid, .loads, .load m ((lanesOf s.headMask).map fun l =>
          .vector (vkey o.vdata.toNat l) (spillValue ((Fresh u).loadPieces s.cur ls 16).1 l) none) [] [] [] rd⟩ : Op) ∈ (t.agent s.cur).ops)

/-- 09 R247, 03 R89: VPREF, not held by the HBM damper, moves on and changes no register, no operation and no byte but A and D
bits, whatever its lanes find. -/
def PrefetchOnlyMovesOn : Prop :=
  ∀ (o : GM) (s : State) (g wn : Nat), s.cur = .warp g wn → Runs (.vpref o) s → Flows s s.cur →
    ∃ t : State, exec (.vpref o) s = .next (t.advance 8) ∧
      t = { s with mem := t.mem, tables := t.tables, tlb := t.tlb, walks := t.walks, tlbChoice := t.tlbChoice, pf := t.pf, sent := t.sent,
                   vds := t.vds, cores := t.cores, l1Choice := t.l1Choice }

/-- 04 R120, R121. -/
def LoadCompleteWritesRegisters : Prop :=
  ∀ (s : State) (a : AgentId) (n : Nat) (c : OpClass) (m : MemOp) (rs : List RegWrite) rd,
    s.op? a n = some ⟨n, c, .load m rs [] [] [] rd⟩ → s.live a = true →
    ∃ t : State, exec (.loadComplete a ⟨n, false⟩) s = .next t ∧ t.mem = s.mem ∧ (∀ q ∈ (t.agent a).ops, q.id = n → q.work = .finished) ∧
      (∀ (r : Reg) v, rs = [.scalar r.toNat v none] → ∀ q : Reg, (t.agent a).sreg q =
        if q = 0 then 0 else if q = r then v else (s.agent a).sreg q) ∧
      (∀ g w, a = .warp g w → (rs.all fun x => match x with | .vector _ _ _ => true | _ => false) = true →
        (rs.map fun x => match x with | .vector k _ _ => k | .scalar k _ _ => k).Nodup → ∀ k,
          (∀ v, (RegWrite.vector k v none) ∈ rs → (t.warp g w).v (k / 64) (k % 64) = v) ∧
          ((∀ v p, (RegWrite.vector k v p) ∉ rs) → (t.warp g w).v (k / 64) (k % 64) = (s.warp g w).v (k / 64) (k % 64)))

/-- 13 R319, R320. The model's own choices in it: log 69. -/
def StoreOrderingPointWritesMemory : Prop :=
  ∀ (s : State) (a : AgentId) (n : Nat) (c : OpClass) (m : MemOp) (ws : List ByteWrite),
    s.op? a n = some ⟨n, c, .store m ws [] []⟩ → s.live a = true →
    (∀ q ∈ (s.agent a).ops.takeWhile (fun q => q.id != n), ∀ k vs pk rm, q.work ≠ .store k vs pk rm) →
    (ws.map fun w => w.loc.key).Nodup → (∀ w ∈ ws, ∀ g x, w.loc.space ≠ .window g x) →
    ∃ t : State, exec (.storeOrderingPoint a n) s = .next t ∧ (∀ w ∈ ws, t.readByte w.loc = w.byte) ∧
      (∀ k : Loc, (∀ g x, k.space ≠ .window g x) → (∀ w ∈ ws, w.loc.key ≠ k.key) → t.readByte k = s.readByte k) ∧
      (t.agent a).sregs = (s.agent a).sregs ∧
      (∀ q ∈ (t.agent a).ops, q.id = n → q.work = if s.trackedLines ws = [] then .finished else .tracked m [] [] [] (s.trackedLines ws))

/-- 12 R300: the completion point of a write to a line that a walker read ends the operation once everything it found is done,
and its loaded values are written. The model's own choices in it: log 69. -/
def TrackedStoreCompletes : Prop :=
  ∀ (s : State) (a : AgentId) (n : Nat) (c : OpClass) (m : MemOp) (rs : List RegWrite) ls,
    s.op? a n = some ⟨n, c, .tracked m rs [] [] ls⟩ → s.live a = true → s.remoteIds = [] → (∀ e ∈ s.cores, e.2.wc = []) →
    ∃ t : State, exec (.trackedStoreComplete a n) s = .next t ∧ (∀ q ∈ (t.agent a).ops, q.id = n → q.work = .finished) ∧
      ∀ (r : Reg) v, r ≠ 0 → rs = [.scalar r.toNat v none] → (t.agent a).sreg r = v

/-- 09 R248: a step load that waits for its slab takes the bytes of a lane whose tag has come. -/
def StepWaitsEnd : Prop :=
  ∀ (s u : State) (g w n : Nat) (m : MemOp) (x : LaneAcc) (l : Loc) (r : Word) rd, m.act = .step r → m.vector = true →
    s.op? (.warp g w) n = some ⟨n, .loads, .load m [] [x] [] [] rd⟩ → s.live (.warp g w) = true →
    (s.classify (.warp g w) m false x = (.ok [l], u) → l.space ≠ .fabric → u.l1Choice = [] →
      Combining u (.warp g w) →
      ∃ t m', exec (.vldstepWake (.warp g w) n) s = .next t ∧ (∀ q ∈ (t.agent (.warp g w)).ops, q.id = n →
        ∃ rd', q.work = .load m' (laneRegs m x ((Fresh u).loadPieces (.warp g w) [l] m.bytes).1) [] [] [] rd') ∧
        (t.warp g w).held = (s.warp g w).held) ∧
    (s.classify (.warp g w) m true x = (.cause .haloStale none, u) → (s.launchOf g).thpc ≠ 0 → (s.warp g w).handler = [] →
      Combining u (.warp g w) →
      ∃ t rec, exec (.haloWaitExpire (.warp g w) n) s = .next t ∧ (t.warp g w).held = (s.warp g w).held ++ [rec] ∧
        rec.kind = .sync ∧ rec.cause = 0x09 ∧ rec.pc = m.pc ∧ rec.mask = m.head ∧ rec.s90 = laneMask [x] ∧ rec.s92 = x.addr)

end Sys2Proof.Claims

/-- SLD and SST issue a counted operation at their address and move on. The model's own choices in it: log 72. -/
def Obligations.ScalarMemoryIssues : Prop :=
  ScalarLoadIssues ∧ ScalarStoreIssues

/-- SATOM, VATOM and VRED replace the bytes at their places and no others. The model's own choices in it: log 72. -/
def Obligations.AtomicsUpdate : Prop :=
  ScalarAtomic ∧ VectorAtomics

/-- Vector loads, stores, gathers and scatters issue and move on. The model's own choices in it: log 72. -/
def Obligations.VectorMemoryIssues : Prop :=
  VectorLoadIssues ∧ VectorStoreIssues

/-- VLDSTEP issues or waits for its step tag, and an expired wait traps HALO_STALE. The model's own choices in it: log 72. -/
def Obligations.StepLoads : Prop :=
  StepLoadIssues ∧ StepWaitsEnd

/-- A load writes its registers at completion, a store its bytes at its ordering point. The model's own choices in it: log 69. -/
def Obligations.MemoryOperationsComplete : Prop :=
  LoadCompleteWritesRegisters ∧ StoreOrderingPointWritesMemory ∧ TrackedStoreCompletes

namespace Sys2Proof.Claims

/-! Synchronisation and feed queues (13 R331-R340). -/

/-- No store of the agent waits for its ordering point. -/
def NoStores (s : State) (a : AgentId) : Prop := ∀ q ∈ (s.agent a).ops, ∀ m ws pk rm, q.work ≠ .store m ws pk rm

/-- A queue operation and a queue's counters as the instruction that reserves an entry leaves them. -/
def Reserved (s t : State) (a : AgentId) (g k : Nat) (push : Bool) (addr : Word) : Prop :=
  ∃ q, s.feedQueue g k = some q ∧
    t.feedQueue g k = some (if push then { q with pres := q.pres + 1 } else { q with cres := q.cres + 1 }) ∧
    (t.agent a).ops = (s.agent a).ops ++ [⟨s.uid, .copies, .queue ⟨push, k, (if push then q.pres else q.cres).toNat, addr⟩⟩] ∧
    (t.agent a).sregs = (s.agent a).sregs ∧ t = { s with groups := t.groups, uid := s.uid + 1 }

/-- 13 R322-R324, R331: FENCE that need not wait for a release moves on, an acquire after dropping its core's unowned copies. -/
def FenceOrders : Prop :=
  ∀ (s : State) (o : GS), Runs (.fence o) s →
    if o.cw.getLsbD 1 = true ∧ s.released s.cur = false then exec (.fence o) s = .next (s.drainFor s.cur)
    else if o.cw.getLsbD 0 = true ∧ s.loadsBound s.cur = false then exec (.fence o) s = .next s
    else ∃ t : State, exec (.fence o) s = .next (t.advance 8) ∧ t = { s with cores := t.cores } ∧
      (o.cw.getLsbD 0 = false → t = s) ∧ (o.cw.getLsbD 0 = true → ∀ c, s.coreOf s.cur = some c → (t.core c).l1 = [])

/-- 13 R332, R333: BINIT issues a store of its count to both words of the object. The model's own choices in it: log 36. -/
def BarriersCountArrivals : Prop :=
  ∀ (s : State) (o : GS) (g off : Nat), s.barrierAt s.cur (s.sreg o.sa) = .ok ⟨.scratch g, off⟩ →
    let l : Loc := ⟨.scratch g, off⟩
    (Runs (.binit o) s → (s.sreg o.sb).toNat ≠ 0 → (s.sreg o.sb).toNat < 2 ^ 40 → s.classFull s.cur .stores = false →
      s.syncStalled s.cur (s.sreg o.sa) 16 true = false →
      exec (.binit o) s = .next ((s.addOp s.cur .stores (.store ⟨.store, 16, false, 0, false, false, s.pc, s.headMask⟩
        (writesAt l (bytesOf (s.sreg o.sb) ++ bytesOf (s.sreg o.sb)) none) [] [])).2.advance 8)) ∧
    (Runs (.barrive o) s → s.poisonOf l 16 = none → s.released s.cur = true → s.syncStalled s.cur (s.sreg o.sa) 16 true = false →
      let w := wordOf (s.readBytes l 8)
      let remain := w.toNat % 2 ^ 40
      let expect := (wordOf (s.readBytes (l.plus 8) 8)).toNat % 2 ^ 40
      let n := if o.sb = 0 then 1 else (s.sreg o.sb).toNat
      expect ≠ 0 → ∃ t : State, exec (.barrive o) s = .next (t.writeNext 8 o.sd (if w.getLsbD 63 then 1 else 0)) ∧
        (let v := wordOf (t.readBytes l 8)
         if n < remain then v.toNat % 2 ^ 40 = remain - n ∧ v.toNat / 2 ^ 40 = w.toNat / 2 ^ 40
         else v.toNat % 2 ^ 40 = expect ∧ v.getLsbD 63 = !w.getLsbD 63 ∧
           v.getLsbD 62 = (w.getLsbD 62 || decide (remain < n))) ∧
        (∀ k : Loc, (∀ a b, k.space ≠ .window a b) → (∀ j < 8, k.key ≠ (l.plus j).key) → t.readByte k = s.readByte k)) ∧
    (Runs (.barrive o) s → s.poisonOf l 16 = none → s.released s.cur = true → s.syncStalled s.cur (s.sreg o.sa) 16 true = false →
      (wordOf (s.readBytes (l.plus 8) 8)).toNat % 2 ^ 40 = 0 → exec (.barrive o) s = .next (s.trapAt .permission (s.sreg o.sa)))

/-- 13 R333. -/
def BarrierWaits : Prop :=
  (∀ (s : State) (o : GS) (l : Loc), s.barrierAt s.cur (s.sreg o.sa) = .ok l → s.poisonOf l 16 = none → NoStores s s.cur →
    s.syncStalled s.cur (s.sreg o.sa) 16 false = false →
    let token := (s.sreg o.sb).getLsbD 0
    (Runs (.bwait o) s → exec (.bwait o) s = .next (if s.phase l = token then
        s.updAgent s.cur fun a => { a with wait := some ⟨.barrier l token false, s.pc, s.pc + 8⟩ }
      else (s.acquire s.cur).advance 8)) ∧
    (Runs (.btest o) s → exec (.btest o) s =
      .next (if s.phase l = token then s.writeNext 8 o.sd 0 else (s.acquire s.cur).writeNext 8 o.sd 1))) ∧
  (∀ (s : State) (a : AgentId) (l : Loc) token pc next,
    (s.agent a).wait = some ⟨.barrier l token true, pc, next⟩ → s.mayResume a = true → exec (.bwaitComplete a) s =
      .next (((({ s with cur := a } : State).acquire a).updAgent a fun x => { x with wait := none }).setPc next))

/-- 13 R335: WSYNC of a mask of live threads that holds the head and meets no pending group parks the head. The model's own
choices in it: log 37. -/
def WsyncParksTheHead : Prop :=
  ∀ (s : State) (o : GS) (g w : Nat), s.cur = .warp g w → Runs (.wsync o) s →
    let x := s.warp g w
    let m := s.sreg o.sa &&& ~~~(x.exited ||| x.unstarted)
    (x.head.mask &&& ~~~m ≠ 0 → exec (.wsync o) s = .next (s.trapWith .syncMask none none x.head.mask m 0 none)) ∧
    (x.head.mask &&& ~~~m = 0 → (∀ y ∈ x.groups, y.mask &&& m = 0 ∧ y.threads ≠ y.mask) → m ≠ 0 →
      exec (.wsync o) s = .next (s.setWarp g w { x with
        replay := replayWithout x.head.pc x.head.mask x.replay
        frontier := frontierOf (x.frontier.drop 1 ++
          if x.head.mask = m then [⟨x.head.prio, x.head.pc + 8, m⟩] else [])
        groups := x.groups ++ if x.head.mask = m then [] else [⟨m, [⟨x.head, 8⟩]⟩] }))

/-- 13 R336. -/
def CvinitDeclares : Prop :=
  ∀ (s : State) (o : GS) (g w : Nat), s.cur = .warp g w → Runs (.cvinit o) s →
    let x := s.warp g w
    exec (.cvinit o) s = if (x.conv o.cw.toNat).signed = 0 then
        .next ((s.setWarp g w { x with convs := Table.put o.cw.toNat { x.conv o.cw.toNat with
          declared := s.sreg o.sa &&& ~~~(x.exited ||| x.unstarted) } x.convs }).advance 8)
      else .next (s.trap .syncMask)

/-- 13 R334: MWAIT, and each later reading of it, whose word lies in local memory free of poison, held by no damper and behind
no earlier access to it, moves on with the word in S[sd] as an acquire when the condition holds, and otherwise waits. -/
def MwaitWatchesAWord : Prop :=
  ∀ (s u : State) (l : Loc) (addr : Word) (pc : Word),
    let m : MemOp := ⟨.load, 8, false, 0, false, false, pc, s.headMask⟩
    s.classify s.cur m false ⟨0, addr, [], none, []⟩ = (.ok [l], u) → l.space ≠ .fabric → (∀ g w, l.space ≠ .window g w) →
    NoStores u s.cur → u.poisonOf l 8 = none → s.syncStalled s.cur addr 8 false = false →
    (s.vd (s.vdOf s.cur)).hbmHeld = false →
    let v := wordOf (u.readBytes l 8)
    let u := u.meterLane s.cur [l] 8
    (∀ o : GS, Runs (.mwait o) s → addr = s.sreg o.sa → pc = s.pc →
      exec (.mwait o) s = .next (if compareS o.cw.toNat v (s.sreg o.sb) then
          ((((u.setSreg o.sd v).acquire s.cur).updAgent s.cur fun x => { x with wait := none }).setPc (s.pc + 8))
        else u.updAgent s.cur fun x => { x with wait := some ⟨.word addr o.cw (s.sreg o.sb) o.sd, s.pc, s.pc + 8⟩ })) ∧
    (∀ cond cmp sd next, (s.agent s.cur).wait = some ⟨.word addr cond cmp sd, pc, next⟩ → s.mayResume s.cur = true →
      exec (.mwaitReread s.cur) s = .next (if compareS cond.toNat v cmp then
          ((((u.setSreg sd v).acquire s.cur).updAgent s.cur fun x => { x with wait := none }).setPc next)
        else u.updAgent s.cur fun x => { x with wait := some ⟨.word addr cond cmp sd, pc, next⟩ }))

/-- 13 R337, R339: a push with room and a pop of an entry that is there, behind no earlier access to their bytes, reserve the
entry, count a move and go on. -/
def QueueMovesReserve : Prop :=
  ∀ (s : State) (o : GV) (q : FeedQueue), let a := s.cur
    let g := (groupOf a).getD 0
    let k := o.aux.toNat
    let addr := s.sreg o.va
    s.live a = true → (groupOf a).isSome = true → s.feedQueue g k = some q →
    (Runs (.qpush o) s → s.queueCheck k addr false = .ok q →
      (q.room ≠ 0 → s.moveStalled a q addr false = false → ∃ t, exec (.qpush o) s = .next (t.advance 8) ∧ Reserved s t a g k true addr) ∧
      (q.room = 0 → exec (.qpush o) s = .next (s.updAgent a fun x =>
        { x with wait := some ⟨.pushFull k addr, s.pc, s.pc + 8⟩ }))) ∧
    (Runs (.qpop o) s → s.queueCheck k addr true = .ok q →
      (q.avail ≠ 0 → s.moveStalled a q addr true = false → ∃ t, exec (.qpop o) s = .next (t.advance 8) ∧ Reserved s t a g k false addr) ∧
      (q.avail = 0 → exec (.qpop o) s = .next (s.updAgent a fun x =>
        { x with wait := some ⟨.popEmpty k addr, s.pc, s.pc + 8⟩ }))) ∧
    (Runs (.qpops o) s → s.queueCheck k addr true = .ok q →
      (q.avail ≠ 0 → s.moveStalled a q addr true = false → ∃ t, exec (.qpops o) s = .next (t.writeNext 8 o.vd 1) ∧ Reserved s t a g k false addr) ∧
      (q.avail = 0 → exec (.qpops o) s = .next (s.writeNext 8 o.vd 0))) ∧
    (Runs (.qstat o) s → exec (.qstat o) s = .next (s.writeNext 8 o.vd (BitVec.ofNat 64
      (2 ^ 48 * q.sizeLog + 2 ^ 32 * 2 ^ q.depthLog + 2 ^ 16 * q.room + q.avail))))

/-- 13 R337, R339: a waiting push or pop reserves its entry and goes on once there is room or an entry. The model's own choices
in it: log 41. -/
def QueueMovesComplete : Prop :=
  (∀ (s : State) (a : AgentId) (g k : Nat) (q : FeedQueue) (push : Bool) addr pc next, groupOf a = some g →
    (s.agent a).wait = some ⟨if push then .pushFull k addr else .popEmpty k addr, pc, next⟩ →
    s.mayResume a = true → s.feedQueue g k = some q → s.moveStalled a q addr (!push) = false →
    (if push then q.room ≠ 0 else q.avail ≠ 0) →
    ∃ t : State, exec (if push then .qpushResume a else .qpopResume a) s =
        .next ((t.updAgent a fun x => { x with wait := none }).setPc next) ∧ Reserved { s with cur := a } t a g k push addr) ∧
  (∀ (s : State) (a : AgentId) (g n : Nat) (c : OpClass) (m : QueueMove) (q : FeedQueue) (l : Loc) (lim : Nat),
    s.op? a n = some ⟨n, c, .queue m⟩ → groupOf a = some g → s.live a = true → s.feedQueue g m.queue = some q →
    s.target a m.addr = .at_ l lim →
    (m.push = true → s.releasedBefore a (some n) = true) →
    (∀ x ∈ (s.agent a).ops.takeWhile (fun x => x.id != n), ∀ k vs pk rm, x.work ≠ .store k vs pk rm) →
    s.engineBusy (s.lockCore a ⟨false, l.space, l.off, q.size⟩) n (s.vdOf a) (s.rootOf a) ⟨false, l.space, l.off, q.size⟩ (!m.push) = false →
    (∀ a b, l.space ≠ .window a b) →
    let slot : Loc := ⟨.scratch g, q.base + m.entry % 2 ^ q.depthLog * 2 ^ q.sizeLog⟩
    let src := if m.push then l else slot
    let dst := if m.push then slot else l
    ∃ t : State, exec (.queueOpComplete a n) s = .next t ∧
      (∀ j < 2 ^ q.sizeLog, t.readByte (dst.plus j) = s.readByte (src.plus j)) ∧
      (∀ k : Loc, (∀ a b, k.space ≠ .window a b) → (∀ j < 2 ^ q.sizeLog, k.key ≠ (dst.plus j).key) → t.readByte k = s.readByte k) ∧
      t.feedQueue g m.queue = some (if m.push then q.fill m.entry else q.consume m.entry) ∧
      (∀ x ∈ (t.agent a).ops, x.id = n → x.work = .finished))

end Sys2Proof.Claims

/-- FENCE orders the agent, and MWAIT goes on when its word meets the condition. -/
def Obligations.FenceAndMwait : Prop :=
  FenceOrders ∧ MwaitWatchesAWord

/-- Barriers count, flip and release; WSYNC parks and releases threads, and CVINIT declares them. The model's own choices in it:
logs 36, 37. -/
def Obligations.BarriersCountAndWait : Prop :=
  BarriersCountArrivals ∧ BarrierWaits ∧ WsyncParksTheHead ∧ CvinitDeclares

/-- Feed queues reserve, move and complete their entries in order. The model's own choices in it: log 41. -/
def Obligations.FeedQueueMoves : Prop :=
  QueueMovesReserve ∧ QueueMovesComplete

namespace Sys2Proof.Claims

/-! CTLC (19 R422-R429; 17 R402). -/

/-- The tables that VDCMD's table operations index, with how many entries each has (19 R428). -/
inductive Indexed : (GS → Instr) → Nat → Prop
  | vdrd : Indexed .vdrd 512
  | vdwr : Indexed .vdwr 512
  | qrd : Indexed .qrd 1024
  | qwr : Indexed .qwr 1024
  | irtrd : Indexed .irtrd 2048
  | irtwr : Indexed .irtwr 2048
  | start : Indexed .vdcmdStart 1024
  | retire : Indexed .vdcmdRetire 1024
  | kill : Indexed .vdcmdKill 512

/-- The bitmap that a KSCAN names (19 R426). -/
def bitmapOf (cw : BitVec 4) : Queue → Bool := if cw = 0 then Queue.kick else if cw = 1 then Queue.done else Queue.sem

/-- The bits of a KSCAN result that say that queue `q` was found. -/
def found (q : Nat) : Nat := 2 ^ 63 + 2 ^ 32 * q

/-- 19 R426. -/
def ScanTakesABit : Prop :=
  ∀ (s : State) (o : GS), Runs (.kscan o) s → Table.rising s.queues = true → (∀ e ∈ s.queues, e.1 < 1024) →
    let f := bitmapOf o.cw
    let start := (s.sreg o.sa).toNat % 1024
    ((∀ q, f (s.queue q) = false) → exec (.kscan o) s = .next (s.writeNext 8 o.sd 0)) ∧
    ∀ q < 1024, f (s.queue q) = true → (∀ r < 1024, f (s.queue r) = true → (q + 1024 - start) % 1024 ≤ (r + 1024 - start) % 1024) →
      let x := s.queue q
      (o.cw = 1 → exec (.kscan o) s =
        .next ((s.setQueue q { x with done := false }).writeNext 8 o.sd (BitVec.ofNat 64 (found q)))) ∧
      (o.cw = 2 → exec (.kscan o) s =
        .next ((s.setQueue q { x with sem := false }).writeNext 8 o.sd (BitVec.ofNat 64 (found q)))) ∧
      (o.cw = 0 →
        let s' := s.setQueue q { x with kick := false }
        let answer (n : Nat) : Word := BitVec.ofNat 64 (found q + 2 ^ 48 * n + x.latch.toNat)
        let new := (x.latch - x.head).toNat
        (x.state.toNat ∉ [1, 2, 3] → exec (.kscan o) s = .next (s'.writeNext 8 o.sd (answer 2))) ∧
        (x.state.toNat ∈ [1, 2, 3] → (x.tail - x.head).toNat ≤ new → new ≤ 2 ^ x.qsize →
          exec (.kscan o) s = .next ((s.setQueue q { x with
            kick := false
            tail := x.latch
            state := if x.state = 1 ∧ x.latch ≠ x.head then 2 else x.state }).writeNext 8 o.sd
              (answer (if x.state = 1 ∧ x.latch ≠ x.head then 0 else 1)))) ∧
        (x.state.toNat ∈ [1, 2, 3] → (new < (x.tail - x.head).toNat ∨ 2 ^ x.qsize < new) →
          exec (.kscan o) s = .next ((s'.queueError q 2).writeNext 8 o.sd (answer 3))))

/-- 19 R422, R423, R427: JAPPEND adds an entry as the pair's next, skipping SEQ 0, and answers its SEQ, or 0 with 8,192 entries
in the journal, and waits for its core's earlier stores. -/
def JournalAppendsAndReads : Prop :=
  ∀ (s : State) (o : GS) (c : Nat), s.cur = .ctl c → let p := s.pair (c / 2)
    let e : JournalEntry := ⟨o.cw, s.sreg o.sa, s.sreg o.sb, s.sreg o.sc⟩
    (Runs (.jappend o) s → exec (.jappend o) s =
      if s.released s.cur = false then .next s
      else if p.jnext - p.jtrim = 8192 then .next (s.writeNext 8 o.sd 0)
      else .next ((s.setPair (c / 2) { p with
        journal := Table.put (p.jnext.toNat % 8192) e p.journal
        badEntries := p.badEntries.filter fun k => k != p.jnext.toNat % 8192
        jnext := if p.jnext + 1 = 0 then 1 else p.jnext + 1 }).writeNext 8 o.sd (p.jnext.setWidth 64))) ∧
    (Runs (.jread o) s → ∀ seq : W32, s.sreg o.sa = seq.setWidth 64 → seq ≠ 0 → (seq - p.jtrim).toNat < (p.jnext - p.jtrim).toNat →
      (seq.toNat % 8192 ∈ p.badEntries → exec (.jread o) s = .next (s.machineCheck c 2)) ∧
      (seq.toNat % 8192 ∉ p.badEntries → ∀ x, Table.look p.journal (seq.toNat % 8192) = some x → ∀ k, (s.sreg o.sb).toNat % 4 = k →
        exec (.jread o) s = .next (s.writeNext 8 o.sd (match k with
          | 0 => seq ++ x.kind.setWidth 32
          | 1 => x.a
          | 2 => x.b
          | _ => x.c)))) ∧
    (Runs (.jread o) s → (2 ^ 32 ≤ (s.sreg o.sa).toNat ∨ (s.sreg o.sa).setWidth 32 = (0 : W32) ∨
        (p.jnext - p.jtrim).toNat ≤ ((s.sreg o.sa).setWidth 32 - p.jtrim).toNat) →
      exec (.jread o) s = .next (s.writeNext 8 o.sd 0))

/-- 19 R428. The model's own choices in it: logs 23, 30. -/
def TableOperations : Prop :=
  ∀ (s : State) (o : GS), let i := (s.sreg o.sa).toNat
    let k := (s.sreg o.sb).toNat
    let w := s.sreg o.sc
    (∀ c n, Indexed c n → Runs (c o) s → n ≤ i → exec (c o) s = .next (s.writeNext 8 o.sd 0xFF)) ∧
    (i < 512 →
      (Runs (.vdrd o) s → exec (.vdrd o) s = .next (s.writeNext 8 o.sd (listGet 0 (s.vd i).entry (k % 8)))) ∧
      (Runs (.vdwr o) s → ∃ t, exec (.vdwr o) s = .next ((t : State).writeNext 8 o.sd (Config.freeWord s.free)) ∧
        t = { s.updVd i fun v => { v with entry := listSet v.entry (k % 8) w } with free := s.free + 1 }) ∧
      (Runs (.vdcmdKill o) s →
        ((s.vd i).kill = none → exec (.vdcmdKill o) s = .next (s.killVd i)) ∧
        (∀ x xs, (s.vd i).kill = some (x :: xs) → exec (.vdcmdKill o) s = .next s) ∧
        ((s.vd i).kill = some [] → ∃ t, exec (.vdcmdKill o) s = .next ((t : State).writeNext 8 o.sd 0) ∧ (t.cur = s.cur) ∧
          (t = s ∨ t = s.updVd i fun v => { v with kill := none })))) ∧
    (i < 1024 →
      (Runs (.qrd o) s → exec (.qrd o) s = .next (s.writeNext 8 o.sd (let q := s.queue i
        match k % 4 with
        | 0 => BitVec.ofNat 64 (q.state.toNat + q.vd.toNat * 2 ^ 3 + 2 ^ 12 * q.local_.toNat + 2 ^ 18 * q.staged.length)
        | 1 => q.tail ++ q.head
        | 2 => q.cprod ++ q.next
        | _ => 0))) ∧
      (Runs (.qwr o) s → ∃ t, exec (.qwr o) s = .next ((t : State).writeNext 8 o.sd (Config.freeWord s.free)) ∧
        t = { (if k % 4 = 0 then s.updQueue i fun q => { q with vd := w.extractLsb' 3 9, local_ := w.extractLsb' 12 6 } else s) with
          free := s.free + 1 }) ∧
      (Runs (.vdcmdStart o) s → exec (.vdcmdStart o) s =
        .next ((s.startRecord i (k % 2 ^ 32)).2.writeNext 8 o.sd (BitVec.ofNat 64 (s.startRecord i (k % 2 ^ 32)).1))) ∧
      (Runs (.vdcmdRetire o) s → exec (.vdcmdRetire o) s =
        .next ((s.retireRecord i (k % 2 ^ 32) w).2.writeNext 8 o.sd (BitVec.ofNat 64 (s.retireRecord i (k % 2 ^ 32) w).1)))) ∧
    (i < 2048 →
      (Runs (.irtrd o) s → exec (.irtrd o) s = .next (s.writeNext 8 o.sd (s.irtEntry i).word)) ∧
      (Runs (.irtwr o) s → ∃ t, exec (.irtwr o) s = .next ((t : State).writeNext 8 o.sd (Config.freeWord s.free)) ∧
        (∀ n, n ≠ i → t.irtEntry n = s.irtEntry n) ∧ (t.irtEntry i).pending = (s.irtEntry i).pending ∧
        ∀ b < 64, (t.irtEntry i).word.getLsbD b =
          (if b = 32 then (s.irtEntry i).word.getLsbD 32 else decide (b < 32) && w.getLsbD b)))

/-- 19 R428. The model's own choices in it: log 32. -/
def StartAndRetireRefuse : Prop :=
  ∀ (s : State) (q i : Nat) (w : Word), let x := s.queue q
    ((x.next.toNat ≠ i ∨ (s.vd x.vd.toNat).state ≠ 2) → s.startRecord q i = (1, s)) ∧
    (x.next.toNat = i → (s.vd x.vd.toNat).works = true → (x.state.toNat ∉ [1, 2, 3] ∨ x.tail.toNat = i) →
      s.startRecord q i = (2, s)) ∧
    ((i ≠ (x.head.toNat + x.staged.length) % 2 ^ 32 ∨ x.state = 0 ∨ (∀ r ∈ x.runs, r.index.toNat = i → r.completed = false)) →
      s.retireRecord q i w = (1, s))

/-- 19 R429. -/
def InterruptsAndHolds : Prop :=
  ∀ (s : State) (o : GS), let v := s.sreg o.sa
    let named (n : Nat) : Prop := if v.getLsbD 11 = true then n < 1024 else n = v.toNat % 2 ^ 11
    (Runs (.irqsend o) s → exec (.irqsend o) s =
      .next ((s.interrupt (v.toNat % 2 ^ 11) ((s.sreg o.sb).toNat % 2 ^ 9)).advance 8)) ∧
    (Runs (.chold o) s → ∃ t, exec (.chold o) s = .next ((t : State).advance 8) ∧ t = { s with irt := t.irt } ∧
      ∀ n, (named n → (t.irtEntry n).word = (s.irtEntry n).word ||| BitVec.ofNat 64 (2 ^ 32)) ∧
        (¬ named n → t.irtEntry n = s.irtEntry n)) ∧
    (Runs (.crelease o) s → (∀ q, named q → q < 1024 → (s.queue q).staged = []) → (∀ n, named n → (s.irtEntry n).pending = 0) →
      ∃ t, exec (.crelease o) s = .next ((t : State).advance 8) ∧ ∀ n,
        (named n → (t.irtEntry n).word = (s.irtEntry n).word &&& ~~~ BitVec.ofNat 64 (2 ^ 32)) ∧
        (¬ named n → t.irtEntry n = s.irtEntry n))

end Sys2Proof.Claims

/-- The functions of the control cores act on bitmaps, journals and tables. The model's own choices in it: logs 23, 30, 32. -/
def Obligations.ControlCoreFunctions : Prop :=
  ScanTakesABit ∧ JournalAppendsAndReads ∧ TableOperations ∧ StartAndRetireRefuse ∧ InterruptsAndHolds

namespace Sys2Proof.Claims

/-! The matrix unit (11 R273-R289, R456). -/

/-- The four matrix instructions with their functions. -/
inductive MatrixForm : (GMM → Instr) → Nat → Prop
  | mma : MatrixForm .mma 0
  | mmas : MatrixForm .mmas 1
  | mmai : MatrixForm .mmai 2
  | mmax : MatrixForm .mmax 3

/-- CVn once the head of a warp has signed it with an instruction, whose counted operation is `op`. -/
def signedBy (w : Warp) (fn : Nat) (o : GMM) (op : Nat) : Conv :=
  let c := w.conv o.cv.toNat
  ⟨c.declared, c.signed ||| w.head.mask, fn, o.dtype, o.arow, (lanesOf w.head.mask).foldl (fun t l =>
    Table.put l (w.v o.vidx.toNat l, Table.look w.vpoison (vkey o.vidx.toNat l)) t) c.rows, o.sa, o.sb, o.sc, op⟩

/-- An operation of the matrix unit as its issue accepts it. -/
def Accepted (u v : State) (g w : Nat) (m : MatOp) : Prop :=
  (v.core (u.group g).core).matrix = (u.core (u.group g).core).matrix ++ [m] ∧ m.g = g ∧ m.w = w ∧ m.started = false ∧
    v.mem = u.mem ∧ (v.warp g w).vregs = (u.warp g w).vregs ∧ (v.warp g w).frontier = (u.warp g w).frontier ∧
    (v.core (u.group g).core).acc = (u.core (u.group g).core).acc

/-- Row `i` of a matrix operation's accumulator, element `j`, in a state. -/
def accAt (s : State) (core : Nat) (m : MatOp) (i j : Nat) : W32 × Option Prov := (s.core core).accElem (m.row + i) j

/-- The end of an operation of the matrix unit: it has left the unit and its counted operation is over. -/
def Closed (t : State) (core : Nat) (m : MatOp) : Prop :=
  (∀ x ∈ (t.core core).matrix, x.id ≠ m.id) ∧ ∀ q ∈ (t.agent (.warp m.g m.w)).ops, q.id = m.op → q.work = .finished

/-- 11 R279, R280, R456: a matrix instruction whose head holds a thread outside the declared set, or one that signed, or that
differs from the signatures before it, traps SYNC_MASK. The model's own choices in it: log 17. -/
def MatrixSignatures : Prop :=
  ∀ c fn, MatrixForm c fn → ∀ (o : GMM) (s : State) (g w : Nat), s.cur = .warp g w → s.live s.cur = true → Runs (c o) s →
    let x := s.warp g w
    let cv := x.conv o.cv.toNat
    let h := x.head.mask
    let agrees : Prop := cv.signed = 0 ∨ (cv.fn = fn ∧ cv.dtype = o.dtype ∧ cv.arow = o.arow)
    let empty : Prop := fn = 1 ∧ (s.sreg o.sc).toNat % 4 = 0 ∧ cv.signed ||| h = cv.declared
    (empty → exec (c o) s = .next (s.trap .illegal)) ∧ (¬ empty →
    ((h &&& (~~~cv.declared ||| cv.signed) ≠ 0 ∨ ¬ agrees) → exec (c o) s = .next (s.trap .syncMask)) ∧
    (h &&& (~~~cv.declared ||| cv.signed) = 0 → agrees → (cv.signed = 0 → s.classFull s.cur .tiles = false) →
      let op := if cv.signed = 0 then s.uid else cv.op
      let u := if cv.signed = 0 then (s.addOp s.cur .tiles .tile).2 else s
      (cv.signed ||| h ≠ cv.declared → ∃ t : State, exec (c o) s = .next (t.advance 8) ∧
        t = { s with groups := t.groups, uid := u.uid } ∧
        (∀ n, (t.warp g w).conv n = if n = o.cv.toNat then signedBy x fn o op else x.conv n) ∧
        (t.warp g w).vregs = x.vregs ∧
        (t.agent s.cur).ops = (s.agent s.cur).ops ++ if cv.signed = 0 then [⟨s.uid, .tiles, .tile⟩] else []) ∧
      (cv.signed ||| h = cv.declared → exec (c o) s =
        match u.issueMatrix g w o.cv.toNat (signedBy x fn o op) s.pc h with
        | .trap cause addr => .next (s.trapAt cause addr)
        | .wait => .next s
        | .done v => .next (v.advance 8))))

/-- 11 R286: AWIN in warp 0's thread 0 gives warp S[sa] the window of S[sb] rows from arow on, waits while that warp has matrix
operations outstanding, and otherwise traps ACC_WINDOW. -/
def WindowsAreSet : Prop :=
  ∀ (o : GMM) (s : State) (g w : Nat), s.cur = .warp g w → Runs (.awin o) s →
    let t := (s.sreg o.sa).toNat
    let n := (s.sreg o.sb).toNat
    let may : Prop := w = 0 ∧ (s.warp g w).head.mask.getLsbD 0 = true ∧ t < (s.group g).warps.length ∧
      o.arow.toNat + n ≤ (s.launchOf g).accRows
    (¬ may → exec (.awin o) s = .next (s.trap .accWindow)) ∧
    (may → (s.agent (.warp g t)).count .tiles ≠ 0 → exec (.awin o) s = .next s) ∧
    (may → (s.agent (.warp g t)).count .tiles = 0 → exec (.awin o) s = .next ((s.updWarp g t fun x => { x with
      abase := (s.group g).accFirst + o.arow.toNat
      alimit := (s.group g).accFirst + o.arow.toNat + n }).advance 8))

/-- 11 R287-R289: AZERO, ARSTAT, ALD and AST beyond the warp's window trap ACC_WINDOW. -/
def AccumulatorOperations : Prop :=
  ∀ (o : GMM) (s : State) (g w : Nat), s.cur = .warp g w → s.live s.cur = true →
    let x := s.warp g w
    let inside : Prop := x.abase + o.arow.toNat + 64 ≤ x.alimit
    let goes (u : State) (i : Instr) (k : MatKind) : Prop := ∃ (v : State) (m : MatOp), exec i s = .next (v.advance 8) ∧
      Accepted u v g w m ∧ m.row = x.abase + o.arow.toNat ∧ m.kind = k ∧ m.op = u.uid ∧ m.id = u.uid ∧
      (v.agent s.cur).ops = (u.agent s.cur).ops ++ [⟨u.uid, .tiles, .tile⟩]
    let room (u : State) (sp : List (Span × Bool)) : Prop := u.live s.cur = true ∧ u.cur = s.cur ∧ u.classFull s.cur .tiles = false ∧
      u.lockRoom s.cur (sp.map fun y => lockOf u.uid (u.group g).vd (u.rootOf s.cur) y.1 y.2) = true
    (∀ i ∈ [Instr.azero o, .arstat o], Runs i s → ¬ inside → exec i s = .next (s.trap .accWindow)) ∧
    (∀ i ∈ [Instr.ald o, .ast o], Runs i s → ¬ inside → exec i s = .next (s.trapRows .accWindow x.issueRows none 0)) ∧
    (inside → room s [] → Runs (.azero o) s → goes s (.azero o) .zero) ∧
    (inside → room s [] → Runs (.arstat o) s → goes s (.arstat o) (.stats o.cv o.vidx s.issueMask)) ∧
    (inside → ∀ (write : Bool) (sp : Span) (u : State), let i := if write then Instr.ast o else .ald o
      let e := accBytes o.cv
      let addr := s.sreg o.sa
      let stride := s.sreg o.sb
      Runs i s → addr.toNat % e = 0 → stride.toNat % e = 0 →
      s.rowCauses s.cur write addr stride (64 * e) x.issueRows = ([], u) →
      s.rowsSpan s.cur addr stride (64 * e) = some sp → room u [(sp, write)] →
      goes u i (if write then .store o.cv addr stride (~~~x.issueRows) else .load o.cv addr stride (~~~x.issueRows)))

/-! STK: copies, seals, streams and tag waits (10 R254-R270). -/

/-- The copy instructions with their functions. -/
inductive CopyForm : (GK → Instr) → Nat → Prop
  | cpy : CopyForm .cpy 0
  | cpyg : CopyForm .cpyg 1
  | cpyz : CopyForm .cpyz 2

/-- 10 R257, R262-R265, R270: a copy with a bad operand traps its cause. The model's own choices in it: logs 35, 38. -/
def CopiesIssue : Prop :=
  ∀ c fn, CopyForm c fn → ∀ (o : GK) (s : State) (g : Nat), s.cur = .stoker g → s.live s.cur = true → Runs (c o) s →
    let x := s.copyOf fn o
    let q := o.flags.getLsbD 1
    let room : Prop := s.classFull s.cur .copies = false ∧ s.lockRoom s.cur (s.copyLocks s.cur 0 x) = true
    (∀ cause, s.copyCause s.cur fn q (s.sreg o.sc) (s.sreg o.sd).toNat x = some cause → exec (c o) s = .next (s.trap cause)) ∧
    (s.copyCause s.cur fn q (s.sreg o.sc) (s.sreg o.sd).toNat x = none →
      (¬ room → exec (c o) s = .next s) ∧
      (room → s.released s.cur = false → exec (c o) s = .next (s.drainFor s.cur)) ∧
      (room → s.released s.cur = true → ∃ t : State, exec (c o) s = .next ((t.startCopy g s.uid).advance 8) ∧
        (t.agent s.cur).ops = (s.agent s.cur).ops ++ [⟨s.uid, .copies, .copy x⟩] ∧
        (t.group g).tagBits = (s.group g).tagBits &&& ~~~BitVec.ofNat 64 (2 ^ o.tag.toNat) ∧
        Table.get 0 (t.group g).tagCounts o.tag.toNat = Table.get 0 (s.group g).tagCounts o.tag.toNat + 1 ∧
        t.mem = s.mem ∧ (t.agent s.cur).sregs = (s.agent s.cur).sregs))

/-- 10 R267: TWANY and TWALL go on when the condition holds, as an acquire, and otherwise wait. -/
def TagWaits : Prop :=
  ∀ (o : GK) (s : State) (g : Nat), s.cur = .stoker g →
    let tags := (s.group g).tagBits
    let m := s.sreg o.sa
    (Runs (.twany o) s → exec (.twany o) s = .next (if m = 0 ∨ tags &&& m ≠ 0 then (s.acquire s.cur).writeNext 8 o.sd (tags &&& m)
      else s.updAgent s.cur fun a => { a with wait := some ⟨.tags m o.sd false, s.pc, s.pc + 8⟩ })) ∧
    (Runs (.twall o) s → exec (.twall o) s = .next (if tags &&& m = m then (s.acquire s.cur).writeNext 8 o.sd 0
      else s.updAgent s.cur fun a => { a with wait := some ⟨.tags m o.sd true, s.pc, s.pc + 8⟩ })) ∧
    (Runs (.tfirst o) s → ∃ n, exec (.tfirst o) s = .next (s.writeNext 8 o.sd (BitVec.ofNat 64 n)) ∧ n ≤ 64 ∧
      (∀ k < n, (tags &&& m).getLsbD k = false) ∧ (n < 64 → (tags &&& m).getLsbD n = true)) ∧
    (Runs (.tclr o) s → exec (.tclr o) s =
      .next ((s.updGroup g fun x => { x with tagBits := x.tagBits &&& ~~~m }).advance 8)) ∧
    (∀ a sd all pc next, groupOf a = some g → (s.agent a).wait = some ⟨.tags m sd all, pc, next⟩ → s.live a = true →
      s.mayResume a = true → (m = 0 ∨ if all then tags &&& m = m else tags &&& m ≠ 0) →
      exec (.tagWaitComplete a) s = .next ((((({ s with cur := a } : State).acquire a).setSreg sd
        (if all then 0 else tags &&& m)).updAgent a fun x => { x with wait := none }).setPc next))

/-- 10 R259-R261: SEAL of a record answers 3 for one sealed already, 1 for one that breaks the rules, 2 for want of room, and
else seals it and answers 0. -/
def SealsAreHeld : Prop :=
  ∀ (o : GK) (s u : State) (g : Nat) (bs : List Byte), s.cur = .stoker g → Runs (.sealRecord o) s →
    let addr := s.sreg o.sc
    let x := s.group g
    (addr.toNat % 64 ≠ 0 → exec (.sealRecord o) s = .next (s.trapAt .misalign addr)) ∧
    (addr.toNat % 64 = 0 → o.flags.getLsbD 0 = true →
      ((∀ l ∈ x.seals, l.addr ≠ addr) → exec (.sealRecord o) s = .next (s.writeNext 8 o.sd 4)) ∧
      ((∃ l ∈ x.seals, l.addr = addr) →
        let used : Prop := ∃ q ∈ (s.agent s.cur).ops, ∃ c l, q.work = .copy c ∧ c.layout = some l ∧ l.addr = addr
        (used → exec (.sealRecord o) s = .next (s.writeNext 8 o.sd 5)) ∧
        (¬ used → exec (.sealRecord o) s = .next ((s.updGroup g fun x => { x with seals := x.seals.filter fun l => l.addr != addr }).writeNext 8 o.sd 0)))) ∧
    (addr.toNat % 64 = 0 → o.flags.getLsbD 0 = false → (∀ k, recordLoad addr 64 s k = k bs u) → u.groups = s.groups →
      ((∃ l ∈ x.seals, l.addr = addr) → exec (.sealRecord o) s = .next (s.writeNext 8 o.sd 3)) ∧
      ((∀ l ∈ x.seals, l.addr ≠ addr) → exec (.sealRecord o) s =
        match parseLayout bs addr with
        | none => .next (u.writeNext 8 o.sd 1)
        | some l => if 8 ≤ x.seals.length ∨ 32 ≤ s.coreSeals x.core then .next (u.writeNext 8 o.sd 2)
          else .next ((u.updGroup g fun x => { x with seals := x.seals ++ [l] }).writeNext 8 o.sd 0)))

/-- 10 R268, R269: STRDEF answers 1 for a record that breaks the rules, 2 while a stream uses the slot, and else enters it. -/
def StreamsAreDefined : Prop :=
  ∀ (o : GK) (s : State) (g : Nat), s.cur = .stoker g → s.live s.cur = true →
    let addr := s.sreg o.sa
    let n := o.tag.toNat
    let k := s.stoker g
    let running (f : Stream → Prop) : Prop := ∃ q ∈ k.agent.ops, ∃ x, q.work = .stream x ∧ f x
    (Runs (.strdef o) s → addr.toNat % 32 ≠ 0 → exec (.strdef o) s = .next (s.trapAt .misalign addr)) ∧
    (Runs (.strdef o) s → addr.toNat % 32 = 0 → ∀ u bs, (∀ f, recordLoad addr 32 s f = f bs u) → u.groups = s.groups → u.cur = s.cur →
      (parseStream bs = none → exec (.strdef o) s = .next (u.writeNext 8 o.sd 1)) ∧
      ∀ r, parseStream bs = some r →
        (running (fun x => x.slot = n ∨ (x.record.use = true ∧ x.record.islot = n)) →
          exec (.strdef o) s = .next (u.writeNext 8 o.sd 2)) ∧
        (¬ running (fun x => x.slot = n ∨ (x.record.use = true ∧ x.record.islot = n)) → exec (.strdef o) s =
          .next ((u.setStoker g { k with slots := Table.put n r k.slots }).writeNext 8 o.sd 0))) ∧
    (Runs (.strrun o) s → (∀ r, Table.look k.slots n = some r → r.index = true) → exec (.strrun o) s = .next (s.writeNext 8 o.sd 1)) ∧
    (Runs (.strrun o) s → ∀ r, Table.look k.slots n = some r → r.index = false →
      (running (fun x => x.slot = n) → exec (.strrun o) s = .next (s.writeNext 8 o.sd 2)) ∧
      (¬ running (fun x => x.slot = n) →
        ((∀ q, s.feedQueue g r.qnum = some q → 2 ^ q.sizeLog ≠ r.esize) → exec (.strrun o) s = .next (s.writeNext 8 o.sd 3)) ∧
        (∀ q, s.feedQueue g r.qnum = some q → 2 ^ q.sizeLog = r.esize →
          let src := if r.use then Table.look k.slots r.islot else none
          let bad : Prop := r.use = true ∧ ∀ i, src = some i → i.index = false ∨ i.bound < r.bound
          (bad → exec (.strrun o) s = .next (s.writeNext 8 o.sd 4)) ∧
          (¬ bad → s.classFull s.cur .copies = false → s.lockRoom s.cur (s.streamLocks s.cur 0 ⟨n, r, src, 0, []⟩) = true →
            ∃ t : State, exec (.strrun o) s = .next (t.writeNext 8 o.sd 0) ∧ t.mem = s.mem ∧
              (t.agent s.cur).ops = (s.agent s.cur).ops ++ [⟨s.uid, .copies, .stream ⟨n, r, src, 0, []⟩⟩]))))

/-- 10 R269: STREAM_PUSH of a stream without an index, with room in its queue, fills the next entry with the element's bytes.
The model's own choices in it: log 16. -/
def StreamsPush : Prop :=
  ∀ (s u : State) (g n op : Nat) (x : Stream) (q : FeedQueue) (bs : List (Byte × Option Prov)), let a := AgentId.stoker g
    let r := x.record
    (s.agent a).streams.find? (fun y => y.2.slot == n) = some (op, x) → s.live a = true → r.use = false → x.source = none →
    s.feedQueue g r.qnum = some q →
    (q.room = 0 → exec (.streamPush g n) s = .next s) ∧
    (q.room ≠ 0 → x.parked = [] → s.conflicts a op = false → (s.group g).residence = .resident →
      s.streamRead g op x.next 0 (r.base + BitVec.ofNat 64 x.next * r.stride) r.esize = (.bytes bs, u) → u.groups = s.groups →
      2 ^ q.sizeLog = r.esize →
      ∃ t : State, exec (.streamPush g n) s = .next t ∧
        (∀ j < r.esize, t.readByte ⟨.scratch g, q.base + q.pres.toNat % 2 ^ q.depthLog * r.esize + j⟩ = (listGet (0, none) bs j).1) ∧
        t.feedQueue g r.qnum = some (FeedQueue.fill { q with pres := q.pres + 1 } q.pres.toNat) ∧
        ∀ y ∈ (t.agent a).ops, y.id = op →
          y.work = if x.next + 1 = r.bound then .finished else .stream { x with next := x.next + 1 })

end Sys2Proof.Claims

/-- SEAL, STRDEF and STRRUN answer their status, and streams push their elements. The model's own choices in it: log 16. -/
def Obligations.SealsAndStreams : Prop :=
  SealsAreHeld ∧ StreamsAreDefined ∧ StreamsPush

namespace Sys2Proof.Claims

/-! GRID and the flue engine (14 R342-R354). -/

/-- A workgroup has attached, on a die, to the partition state with key `k`, which stood as `p`, at a record address: what its
neighbours tell it meanwhile is kept. -/
def AttachedTo (u t : State) (g k : Nat) (p : Partition) (addr : Word) (die grid : Nat) : Prop :=
  (∃ q, Table.look t.parts k = some q ∧ q = { p with attached := p.attached + 1, known := q.known }) ∧
    (t.group g).attached = (u.group g).attached ++ [⟨addr, die, grid, 0⟩] ∧ t.mem = u.mem

/-- The round that a partition counts: 0 until round 0 completes, then one more than its steps (14 R345). -/
def roundOf (p : Partition) : Nat := if p.done0 then p.steps + 1 else 0

/-- 14 R347: GATTACH answers 4 for an address that is attached, 2 for a record that breaks R342, 3 for want of room, 5 for
another record under the same grid, 1 for a partition state that stands, and 0 for a new one, with no steps, tags, or
arrivals, in the first free of the die's 64 places. -/
def PartitionsAreAttached : Prop :=
  ∀ (o : GK) (s u : State) (g : Nat) (bs : List Byte), s.cur = .stoker g → Runs (.gattach o) s →
    let addr := s.sreg o.sa
    let x := u.group g
    let die := dieOf x.core
    let new (r : GridRec) : Partition :=
      ⟨x.vd, r, (u.grid x.grid).queue, (u.launchOf g).ktag, 0, false, 0, [none, none, none, none, none, none], 0, 0, [], [], [], []⟩
    (addr.toNat % 64 ≠ 0 → exec (.gattach o) s = .next (s.trapAt .misalign addr)) ∧
    (addr.toNat % 64 = 0 → (∀ f, recordLoad addr 128 s f = f bs u) → u.groups = s.groups →
      ((∃ t ∈ x.attached, t.addr = addr) → exec (.gattach o) s = .next (u.writeNext 8 o.sd 4)) ∧
      ((∀ t ∈ x.attached, t.addr ≠ addr) →
        (u.parseGrid x.vd bs = none → exec (.gattach o) s = .next (u.writeNext 8 o.sd 2)) ∧
        ∀ r, u.parseGrid x.vd bs = some r →
          (4 ≤ x.attached.length → exec (.gattach o) s = .next (u.writeNext 8 o.sd 3)) ∧
          (x.attached.length < 4 →
            (∀ k p, u.partOf die x.vd r.gridId = some (k, p) → Table.look u.parts k = some p →
              (p.record.raw ≠ bs → exec (.gattach o) s = .next (u.writeNext 8 o.sd 5)) ∧
              (p.record.raw = bs → (x.core ∈ u.attachedCores p die ∨ u.exchangeRoom p die [x.core] p.exchanges.length = true) →
                ∃ t : State, exec (.gattach o) s = .next (t.writeNext 8 o.sd 1) ∧ AttachedTo u t g k p addr die r.gridId)) ∧
            (u.partOf die x.vd r.gridId = none →
              ((∀ i < 64, (Table.look u.parts (die * 64 + i)).isSome = true) → exec (.gattach o) s = .next (u.writeNext 8 o.sd 3)) ∧
              ∀ i < 64, Table.look u.parts (die * 64 + i) = none → (∀ j < i, (Table.look u.parts (die * 64 + j)).isSome = true) →
                ∃ t : State, exec (.gattach o) s = .next (t.writeNext 8 o.sd 0) ∧
                  AttachedTo u t g (die * 64 + i) (new r) addr die r.gridId))))

/-- 14 R349: GSTEP of an address that is not attached, in a round that is over, or whose init flag does not say whether it is
round 0, traps PERMISSION. -/
def RoundsAreJoined : Prop :=
  ∀ (o : GK) (s : State) (g : Nat), s.cur = .stoker g → Runs (.gstep o) s →
    let addr := s.sreg o.sa
    let barrier := s.sreg o.se
    (s.attachAt g addr = none → exec (.gstep o) s = .next (s.trap .permission)) ∧
    ∀ t k p, s.attachAt g addr = some (t, k, p) →
      (∀ c q, s.creditAt barrier = some (c, q) → exec (.gstep o) s = .next (s.trapWith c none q s.headMask 0 barrier none)) ∧
      (s.creditAt barrier = none →
        let bad : Prop := ¬ (o.flags.getLsbD 0 = true ↔ t.round = 0) ∨ t.round < roundOf p ∨ t.round = 2 ^ 32
        (bad → exec (.gstep o) s = .next (s.trap .permission)) ∧
        (¬ bad → roundOf p < t.round → exec (.gstep o) s =
          .next (s.updAgent s.cur fun a => { a with wait := some ⟨.round addr barrier t.round, s.pc, s.pc + 8⟩ })) ∧
        (¬ bad → roundOf p = t.round → exec (.gstep o) s = if s.released s.cur = false then .next (s.drainFor s.cur)
          else if s.exchangeWaits k p = true then .next s else .next ((s.arriveRound g addr barrier t.round).advance 8)))

/-- 14 R349, R350: an arrival that is not its round's last counts itself, for the workgroup and the partition. -/
def ArrivalsCompleteRounds : Prop :=
  ∀ (s : State) (g k : Nat) (addr : Word) (t : Attach) (p : Partition), s.attachAt g addr = some (t, k, p) →
    Table.look s.parts k = some p →
    let u := s.arriveRound g addr 0 t.round
    (u.group g).attached = (s.group g).attached.map (fun y => if y.addr = addr then { y with round := t.round + 1 } else y) ∧
    (p.arrivals + 1 < p.record.arrive → Table.look u.parts k = some { p with arrivals := p.arrivals + 1 } ∧ u.mem = s.mem) ∧
    (p.record.arrive ≤ p.arrivals + 1 → p.credits = [] → u.mem = s.mem ∧ ∃ q, Table.look u.parts k = some q ∧
      let steps := if p.done0 then p.steps + 1 else p.steps
      let due : Prop := p.error = 0 ∧ steps % p.record.depth = 0
      q.arrivals = 0 ∧ q.done0 = true ∧ q.steps = steps ∧ q.record = p.record ∧ q.tags = p.tags ∧ q.attached = p.attached ∧
      (¬ due → q.exchanges = p.exchanges ∧ q.pushes = p.pushes) ∧
      (due → q.exchanges.map (·.1) = p.exchanges.map (·.1) ++ [steps] ∧ ∀ f < 2 * p.record.ndim, 2 ≤ listGet 0 p.record.rule f →
        ∃ x ∈ q.pushes, x.face = f ∧ x.step = steps ∧ x.own = true ∧ x.cells = none ∧ x.wrote = false))

/-- 14 R352, R353: GSTAT answers the steps, the flags, the error and the arrivals of a partition, or a slab's tag. -/
def PartitionsAreReadAndLeft : Prop :=
  ∀ (o : GK) (s : State) (g : Nat), s.cur = .stoker g → let addr := s.sreg o.sa
    (∀ i ∈ [Instr.gstat o, .gdetach o], Runs i s → s.attachAt g addr = none → exec i s = .next (s.trap .permission)) ∧
    ∀ t k p, s.attachAt g addr = some (t, k, p) →
      (Runs (.gstat o) s → exec (.gstat o) s = .next (s.writeNext 8 o.sd (BitVec.ofNat 64
        (if o.tag = 0 then p.steps + (if p.done0 then 2 ^ 32 else 0) + 2 ^ 40 * p.error + 2 ^ 48 * p.arrivals
         else match listGet none p.tags (o.tag.toNat - 1) with
           | some n => n % 2 ^ 32 + 2 ^ 32
           | none => 0)))) ∧
      (Runs (.gdetach o) s → ∃ u : State, exec (.gdetach o) s = .next (u.advance 8) ∧
        (u.group g).attached = (s.group g).attached.filter (fun y => y.addr != t.addr) ∧
        (∀ q, Table.look s.parts k = some q → Table.look u.parts k = some { q with attached := q.attached - 1 }) ∧
        (∀ j, j ≠ k → Table.look u.parts j = Table.look s.parts j) ∧ u.mem = s.mem)

/-- 14 R349, R350, R353: the flue engine's events on a die: a waiting arrival resumes in its round. The model's own choices in
it: logs 16, 39, 84. -/
def FlueEngineEvents : Prop :=
  (∀ (s : State) (a : AgentId) (g : Nat) (addr barrier pc next : Word) (r : Nat) (t : Attach) (k : Nat) (p : Partition),
    groupOf a = some g → (s.agent a).wait = some ⟨.round addr barrier r, pc, next⟩ → s.attachAt g addr = some (t, k, p) →
    s.mayResume a = true → s.released a = true → exec (.gstepResume a) s =
      if r = roundOf p ∧ s.exchangeWaits k p = false then .next ((((({ s with cur := a } : State).arriveRound g addr barrier r).updAgent a
        fun x => { x with wait := none }).setPc next)) else .next s) ∧
  (∀ (s u v : State) (k id : Nat) (p pr : Partition) (x y : Push) (kr : Nat) (src dst : List Word) (ls : List Loc),
    Table.look s.parts k = some p → p.pushes.find? (fun z => z.id == id) = some x → x.wrote = false → x.parked = [] →
    (∀ z ∈ p.pushes, z.face = x.face → z.incoming = x.incoming → z.step < x.step → z.wrote = true) →
    s.pushPlan k p x = .go src kr dst → s.pushRead k p x src dst.length = (some y, u) → Table.look u.parts kr = some pr →
    u.fluePlace pr (kr / 64) Need.write dst = (.ok ls, v) → (∀ l ∈ ls, l.space = .hbm ∨ ∃ d, l.space = .die p.vd d) →
    (ls.map Loc.key).Nodup → Untracked v ls → v.parts = u.parts → v.damps p.vd ls = false →
    ∃ t : State, exec (.fluePush (k / 64) k (.move id)) s = .next t ∧
      (∀ i l, ls[i]? = some l → t.readByte l = (listGet (0, none) (y.cells.getD []) i).1) ∧
      (∀ l : Loc, (∀ q r, l.space ≠ .window q r) → (∀ z ∈ ls, l.key ≠ z.key) → t.readByte l = v.readByte l) ∧
      ∀ q z, Table.look t.parts k = some q → z ∈ q.pushes → z.id = id → z.wrote = true) ∧
  (∀ (s : State) (st acc step k : Nat) (dest : FlueDest) (cells : List (Byte × Option Prov)) (p : Partition),
    s.flueTarget st acc dest = some (k, p) → Table.look s.parts k = some p →
    (s.namesSender p dest.face acc dest = false → exec (.fluePush (k / 64) k (.arrive st acc dest step cells)) s = .next s) ∧
    (s.namesSender p dest.face acc dest = true → ∃ (t : State) (q : Partition) (x : Push),
      exec (.fluePush (k / 64) k (.arrive st acc dest step cells)) s = .next t ∧ t.mem = s.mem ∧ Table.look t.parts k = some q ∧
      q = { p with pushes := p.pushes ++ [x] } ∧ x.face = dest.face ∧ x.step = step ∧ x.incoming = true ∧ x.wrote = false)) ∧
  (∀ (s : State) (k f ks : Nat) (p : Partition) (x : Push) (rest : List (Nat × Push)), Table.look s.parts k = some p →
    s.slabPushes k f = (ks, x) :: rest → f < p.tags.length →
    ∃ (t : State) (q : Partition), exec (.slabRetag (k / 64) k f) s = .next t ∧ Table.look t.parts k = some q ∧
      q.tags = listSet p.tags f (some x.step) ∧ t.mem = s.mem ∧
      ∀ q, Table.look t.parts ks = some q → ∀ z ∈ q.pushes, z.id ≠ x.id) ∧
  (∀ (s : State) (st acc k : Nat) (dest : FlueDest) (c : FlueNote) (p : Partition), s.flueTarget st acc dest = some (k, p) →
    Table.look s.parts k = some p → s.namesSender p dest.face acc dest = true → c.ask = false →
    ∃ (t : State) (q : Partition), exec (.flueCounterUpdate st acc dest c) s = .next t ∧ t = { s with parts := t.parts } ∧
      Table.look t.parts k = some q ∧ Table.look q.known dest.face = some c ∧ q.tags = p.tags ∧ q.steps = p.steps) ∧
  (∀ (s : State) (k step lockId : Nat) (p : Partition) (rest : List (Nat × Nat)), Table.look s.parts k = some p →
    p.exchanges = (step, lockId) :: rest →
    ((∃ x ∈ p.pushes, x.step = step ∧ x.cells = none) → exec (.gstepCredit (k / 64) k) s = .next s) ∧
    ((∀ x ∈ p.pushes, x.step = step → x.cells ≠ none) → (∀ c ∈ p.credits, c.step ≠ some step) →
      ∃ (t : State) (q : Partition), exec (.gstepCredit (k / 64) k) s = .next t ∧ Table.look t.parts k = some q ∧
        q.exchanges = rest ∧ q.credits = p.credits ∧ (∀ core, ∀ l ∈ (t.core core).locks, l.op ≠ lockId) ∧ t.mem = s.mem) ∧
    (∀ c, (∀ x ∈ p.pushes, x.step = step → x.cells ≠ none) → p.credits = [c] → c.step = some step →
      (s.group c.g).residence ≠ .ended →
      let l : Loc := ⟨.scratch c.g, c.barrier.toNat % 2 ^ 57⟩
      let w := wordOf (s.readBytes l 8)
      1 < w.toNat % 2 ^ 40 → (wordOf (s.readBytes (l.plus 8) 8)).toNat % 2 ^ 40 ≠ 0 →
      ∃ t : State, exec (.gstepCredit (k / 64) k) s = .next t ∧
        (wordOf (t.readBytes l 8)).toNat % 2 ^ 40 = w.toNat % 2 ^ 40 - 1)) ∧
  (∀ (s : State) (k : Nat) (p : Partition), Table.look s.parts k = some p →
    ((p.attached ≠ 0 ∨ p.pushes ≠ [] ∨ p.exchanges ≠ []) → exec (.flueStateDelete (k / 64) k) s = .next s) ∧
    (p.attached = 0 → p.pushes = [] → p.exchanges = [] → ∃ t : State, exec (.flueStateDelete (k / 64) k) s = .next t ∧
      Table.look t.parts k = none ∧ t.mem = s.mem ∧ ∀ j q, j ≠ k → Table.look s.parts j = some q →
        ∃ r, Table.look t.parts j = some r ∧ r = { q with pushes := r.pushes, known := r.known }))

end Sys2Proof.Claims

/-- GATTACH and GSTEP attach to a partition and complete its rounds. -/
def Obligations.PartitionRounds : Prop :=
  PartitionsAreAttached ∧ RoundsAreJoined ∧ ArrivalsCompleteRounds

/-- GSTAT and GDETACH read and leave a partition, and the flue engine acts on it. The model's own choices in it: logs 16, 39,
84. -/
def Obligations.PartitionStateAndFlues : Prop :=
  PartitionsAreReadAndLeft ∧ FlueEngineEvents

namespace Sys2Proof.Claims

/-! The PF commands and the life of a VD (02 R40-R49; 09 R234, R235; 17 R396-R409). -/

/-- The commands with their OP. -/
inductive CommandOp : Instr → Nat → Prop
  | create : CommandOp .create 1
  | destroy : CommandOp .destroy 2
  | reset : CommandOp .reset 3
  | setshare : CommandOp .setshare 4
  | query : CommandOp .query 5
  | sharemap : CommandOp .sharemap 6
  | unknown {n} (h : n = 0 ∨ 6 < n) : CommandOp .unknownOpCommand n

/-- The state once the pages of a slot are mapped into a VD from a page on; none when a frame for a table is not found. -/
def mapsPages (s : State) (n first : Nat) (x : SharedSlot) : Option State :=
  (List.range x.pages).foldl (fun (r : Option State) i => r.bind fun s =>
    (s.unmapPage n (first + i)).mapAt n 1 (4096 * (first + i)) (BitVec.ofNat 64 (4096 * listGet 0 x.frames i + 0x17))) (some s)

/-- Memory holds 0, and no poison, at every place of a kind. -/
def Wiped (t : State) (p : Loc → Prop) : Prop := ∀ l, p l → t.readByte l = 0

/-- 02 R43-R46: a GO while a command is carried out is an overrun. The model's own choices in it: logs 52, 57, 89. -/
def CommandsAreTaken : Prop :=
  (∀ (s : State) (n : Nat), s.complete n = { s with
    pf := { s.pf with busy := none, status := BitVec.ofNat 8 n }
    sent := s.sent ++ [.pfMsix 0] }) ∧
  ∀ i n, CommandOp i n → ∀ (s u : State) (ws : List W32),
    (s.pf.busy = some ⟨ws, true⟩ → exec i s = .next { s with pf := { s.pf with overrun := true } }) ∧
    (s.pf.busy = none → opOf s.pf.cmdBuf = n → s.power.state ≠ 1 → exec i s = .next { s with
      pf := { s.pf with seq := s.pf.seq + 1, busy := none, status := 5 }
      sent := s.sent ++ [.pfMsix 0] }) ∧
    (opOf ws = n → Begins s ws u → ((n = 0 ∨ 6 < n) ∨ ¬ Clean ws) → exec i s = .next (u.complete 4)) ∧
    (opOf ws = n → Begins s ws u → Clean ws → (2 ≤ n ∧ n ≤ 3 ∨ n = 5) → (u.vd (vdOf ws)).state = 0 → exec i s = .next (u.complete 2))

/-- 02 R41, R46, R47. The model's own choices in it: logs 25, 26, 52. -/
def VdsAreCreated : Prop :=
  (∀ (s u : State) (ws : List W32), opOf ws = 1 → Begins s ws u → Clean ws →
    let n := vdOf ws
    let count := if word ws 1 % 128 = 0 then 64 else word ws 1 % 128
    let part := word ws 1 / 2 ^ 8 % 2
    word ws 1 / 2 ^ 7 % 2 = 0 → word ws 1 / 2 ^ 9 = 0 → count ≤ 64 → 1 ≤ word ws 3 → word ws 3 < 2 ^ 20 → word ws 6 ≤ 1 →
    ((u.vd n).state ≠ 0 → exec .create s = .next (u.complete 1)) ∧
    ((u.vd n).state = 0 →
      ((u.pf.partMode = false ∧ part = 1) ∨ u.pf.secDead = true ∨ u.freeQueues count = none → exec .create s = .next (u.complete 3)) ∧
      ∀ f, (part = 1 → u.pf.partMode = true) → u.pf.secDead = false → u.freeQueues count = some f →
        (u.unpromised part < word ws 2 * 512 → exec .create s = .next (u.complete 3)) ∧
        (word ws 2 * 512 ≤ u.unpromised part → ∃ t : State, exec .create s = .next t ∧ t.pf = u.pf ∧ t.mem = u.mem ∧
          (∀ m, m ≠ n → t.vd m = u.vd m) ∧
          (let v := t.vd n
           v.state = 1 ∧ v.part = decide (part = 1) ∧ v.qfirst = f ∧ v.qcount = count ∧ v.hbmQuota = word ws 2 ∧ v.vspan = word ws 3 ∧
           v.weight = 100 ∧ v.slice = 2000 ∧ v.cores = (if u.pf.partMode then 160 else 320) ∧ v.guest = decide (word ws 6 = 1) ∧
           v.backing = BitVec.ofNat 64 (word ws 4 + 2 ^ 32 * word ws 5)) ∧
          ∀ i < count, t.queue (f + i) = { Queue.start with vd := BitVec.ofNat 9 n, local_ := BitVec.ofNat 6 i }))) ∧
  (∀ (s : State) (n : Nat) (found : Bool), (s.vd n).state = 1 → s.secWaits = false → s.roleStopped 1 = false →
    ((found = false ∨ s.pf.secDead = true ∨ s.buildStage2 n = none) → ∃ t : State, exec (.createComplete n found) s = .next t ∧
      (t.vd n).state = 0 ∧ t.pf.busy = none ∧ t.pf.status = 3) ∧
    (found = true → s.pf.secDead = false → ∀ u, s.buildStage2 n = some u → (u.vd n).state = 1 →
      ∃ t : State, exec (.createComplete n found) s = .next t ∧ (t.vd n).state = 2 ∧ t.pf.busy = none ∧ t.pf.status = 0 ∧
        t.mem = u.mem ∧ (Table.look t.keys n).isSome = true))

/-- 02 R41, R48. -/
def VdsAreDestroyed : Prop :=
  (∀ (s u : State) (ws : List W32), opOf ws = 2 → Begins s ws u → Clean ws →
    let n := vdOf ws
    let v := u.vd n
    (v.state = 2 ∨ v.state = 3 → ∃ t : State, exec .destroy s = .next t ∧ (t.vd n).state = 5 ∧
      (t.vd n).kill = some allEngines ∧ (t.vd n).reset = none ∧ t.pf.busy = u.pf.busy ∧
      ∀ i < v.qcount, (t.queue (v.qfirst + i)).state = 0 ∧ (t.queue (v.qfirst + i)).qcfg.getLsbD 31 = false ∧
        (t.queue (v.qfirst + i)).runs = []) ∧
    (v.state = 4 → exec .destroy s = .next ((u.updVd n fun v => v.setWord 0 (setBit (v.word 0) 30 true)).complete 0)) ∧
    (v.state = 1 ∨ v.state = 5 ∨ v.state = 6 → exec .destroy s = .next (u.complete 1))) ∧
  (∀ (s : State) (n : Nat), (s.vd n).state = 5 → (s.vd n).kill = some [] → s.secWaits = false → s.roleStopped 1 = false →
    ∃ t : State, exec (.destroyDrained n) s = .next t ∧ (t.vd n).state = 6 ∧ (t.vd n).shared = [] ∧
      (∀ g, (t.group g).vd = n → (t.group g).residence = .ended) ∧
      (s.carrying 2 n = true → t.pf.busy = none ∧ t.pf.status = 0)) ∧
  (∀ (s : State) (n : Nat), (s.vd n).state = 6 → n < 512 → ∃ t : State, exec (.wipeComplete n) s = .next t ∧ (t.vd n).state = 0 ∧
    (t.vd n).coreTime = (s.vd n).coreTime ∧ (t.vd n).mhbm = (s.vd n).mhbm ∧ (t.vd n).mlink = (s.vd n).mlink ∧
    Wiped t (fun l => ∃ d, d < 2 ∧ l.space = .die n d ∧ l.off < 2 ^ 64) ∧
    (Table.rising s.frames = true → ∀ f r, Table.look s.frames f = some r → (r.owner = .vd n ∨ r.owner = .outside n) →
      Table.look t.frames f = none ∧ Wiped t (fun l => l.space = .hbm ∧ 4096 * f ≤ l.off ∧ l.off < 4096 * (f + r.len))))

/-- 02 R46. The model's own choices in it: log 57. -/
def SharesAndQueries : Prop :=
  ∀ (s u : State) (ws : List W32), Begins s ws u → Clean ws → let n := vdOf ws
    let v := u.vd n
    let w1 : W32 := BitVec.ofNat 32 (v.state + v.qfirst * 2 ^ 8 + 2 ^ 18 * v.qcount)
    let w2 : W32 := BitVec.ofNat 32 ((u.framesOf (.vd n) + 511) / 512)
    (opOf ws = 5 → v.state ≠ 0 → exec .query s =
      .next (({ u with pf := { u.pf with cmdBuf := listSet (listSet u.pf.cmdBuf 1 w1) 2 w2 } } : State).complete 0)) ∧
    (opOf ws = 4 →
      let sel (i : Nat) : Bool := (word ws 6).testBit i
      let clean : Prop := word ws 1 < 2 ^ 11 ∧ word ws 2 < 2 ^ 17 ∧ word ws 5 < 2 ^ 9 ∧ word ws 6 < 2 ^ 5
      let within : Prop := (sel 0 = true → 1 ≤ word ws 1 ∧ word ws 1 ≤ 1024) ∧ (sel 1 = true → 50 ≤ word ws 2 ∧ word ws 2 ≤ 100000) ∧
        (sel 4 = true → 1 ≤ word ws 5 ∧ word ws 5 ≤ if u.pf.partMode then 160 else 320)
      (¬ (clean ∧ within) → exec .setshare s = .next (u.complete 4)) ∧
      (clean → within → (v.state = 5 ∨ v.state = 6) → exec .setshare s = .next (u.complete 1)) ∧
      (clean → within → (v.state = 1 ∨ v.state = 2 ∨ v.state = 3 ∨ v.state = 4) → v.entry.length = 8 →
        ∃ t : State, exec .setshare s = .next (t.complete 0) ∧
        let w := t.vd n
        w.weight = (if sel 0 then word ws 1 else v.weight) ∧ w.slice = (if sel 1 then word ws 2 else v.slice) ∧
        w.hbmDamp = (if sel 2 then word ws 3 else v.hbmDamp) ∧ w.linkDamp = (if sel 3 then word ws 4 else v.linkDamp) ∧
        w.cores = (if sel 4 then word ws 5 else v.cores) ∧ w.shareStop = (if sel 4 then decide (word ws 5 < v.coreIds.length) else v.shareStop) ∧ w.state = v.state ∧ w.qfirst = v.qfirst ∧ w.qcount = v.qcount ∧
        w.vt = v.vt ∧ t = { u with vds := t.vds }))

/-- 02 R41. The model's own choices in it: log 31. -/
def ScopedReset : Prop :=
  (∀ (s : State) (n : Nat), (s.vd n).state = 2 → ∃ (t : State) (r : ResetRun), exec (.resetreq n) s = .next t ∧ (t.vd n).state = 3 ∧
    (t.vd n).reset = some r ∧ r.reason = .request ∧ r.clk = s.clk ∧
    ∀ g, (s.group g).vd = n → (s.group g).residence = .resident → (s.group g).halt = none → (t.group g).halt = some (.frozen false)) ∧
  (∀ (s : State) (n : Nat), (s.vd n).state ≠ 2 → exec (.resetreq n) s = .next s) ∧
  (∀ (s u : State) (ws : List W32), opOf ws = 3 → Begins s ws u → Clean ws → let n := vdOf ws
    ((u.vd n).state = 2 → ∃ (t : State) (r : ResetRun), exec .reset s = .next t ∧ (t.vd n).state = 3 ∧ (t.vd n).reset = some r ∧
      r.reason = .command ∧ t.pf.busy = u.pf.busy) ∧
    ((u.vd n).state = 3 ∨ (u.vd n).state = 4 → exec .reset s = .next u) ∧
    ((u.vd n).state = 1 ∨ (u.vd n).state = 5 ∨ (u.vd n).state = 6 → exec .reset s = .next (u.complete 1))) ∧
  (∀ (s : State) (n : Nat) (r : ResetRun), (s.vd n).reset = some r → (s.vd n).state = 3 → s.roleStopped 2 = false →
    (s.vd n).ashAt = 0 → ∃ t : State, exec (.ashpitDumpDone n) s = .next t ∧ (t.vd n).state = 4 ∧ (t.vd n).ashNo = true ∧
      (t.vd n).kill = some allEngines ∧ ∀ g, (s.group g).vd = n → (s.group g).residence = .resident → (t.group g).halt = some (.frozen true)) ∧
  (∀ (s : State) (n : Nat) (r : ResetRun), (s.vd n).reset = some r → (s.vd n).state = 4 → (s.vd n).kill = some [] → r.cleared = false →
    ∃ t : State, exec (.resetDrained n) s = .next t ∧ (t.vd n).reset = some { r with cleared := true } ∧ (t.vd n).faults = [] ∧
      (∀ g, (t.group g).vd = n → (t.group g).residence = .ended) ∧ (n < 512 → Wiped t (fun l => ∃ d, d < 2 ∧ l.space = .die n d ∧ l.off < 2 ^ 64))) ∧
  (∀ (s : State) (n : Nat) (r : ResetRun), (s.vd n).reset = some r → (s.vd n).state = 4 → r.cleared = true → (s.vd n).destroyPend = false →
    ∃ t : State, exec (.resetRearm n) s = .next t ∧ (t.vd n).state = 2 ∧ (t.vd n).reset = none ∧ (t.vd n).kill = none ∧
      (t.vd n).resetCnt = (if (s.vd n).resetCnt = 255 then 255 else (s.vd n).resetCnt + 1) ∧ (t.vd n).vdevt.getLsbD 0 = true ∧
      (s.carrying 3 n = true → t.pf.busy = none ∧ t.pf.status = 0) ∧
      ∀ i < (s.vd n).qcount, let q := s.queue ((s.vd n).qfirst + i)
        let p := t.queue ((s.vd n).qfirst + i)
        p.runs = [] ∧ (if q.qcfg.getLsbD 31 then p.state = 1 ∧ p.head = q.latch ∧ p.tail = q.latch ∧ p.next = q.latch else p.state = 0))

/-- 17 R396, R397, R402: GANG_KILL ends every workgroup of a doomed one's gang. The model's own choices in it: log 31. -/
def GangsAreKilled : Prop :=
  (∀ (s : State) (g : Nat) (c : Cause × Prov), (s.group g).doomed = some c → (s.group g).residence ≠ .ended →
    let x := s.group g
    let n := s.grid x.grid
    let gang := x.wgid / (s.launchOf g).gang
    let kills := Table.get 0 n.kills gang + 1
    let kept := ((s.gangOf g).filter fun m => match (s.group m).residence with | .kept _ => true | _ => false).length
    ∃ t : State, exec (.gangKill g) s = .next t ∧ (∀ m ∈ s.gangOf g, (t.group m).residence = .ended ∧ (t.group m).warps = []) ∧
      Table.get 0 (t.grid x.grid).kills gang = kills ∧
      (if (s.launchOf g).relaunch = true ∧ kills ≤ 2 ∧ n.killed = false then (t.grid x.grid).relaunch = n.relaunch ++ [gang] ∧
         (t.grid x.grid).endedGroups = n.endedGroups - kept
       else (t.grid x.grid).relaunch = n.relaunch ∧
         (t.grid x.grid).endedGroups = n.endedGroups + ((s.gangOf g).length - kept))) ∧
  (∀ (s : State) (g : Nat), (s.group g).doomed = none → exec (.gangKill g) s = .next s) ∧
  (∀ (s : State) (n gang : Nat), gang ∈ (s.grid n).relaunch → (s.grid n).ended = false →
    let held : Prop := (s.grid n).killed = false ∧ ∃ p, Table.look (s.grid n).poisons gang = some p ∧ s.errorOpen p = true
    (held → exec (.gangRelaunch n gang) s = .next s) ∧ (¬ held → ∃ t : State,
    exec (.gangRelaunch n gang) s = .next t ∧ gang ∉ (t.grid n).relaunch ∧ t.groups = s.groups ∧
    (if (s.grid n).killed then (t.grid n).endedGroups = (s.grid n).endedGroups + (s.grid n).record.gang ∧ (t.grid n).ready = (s.grid n).ready
     else (t.grid n).ready = (s.grid n).ready ++ [gang]))) ∧
  (∀ (s : State) (n : Nat) (e : Engine) (l : List Engine), (s.vd n).kill = some l →
    (e ∉ l → exec (.engineDrained n e) s = .next s) ∧
    (e ∈ l → ∃ t : State, exec (.engineDrained n e) s = .next t ∧ (t.vd n).kill = some (l.filter (· != e)) ∧
      (e = .cores → ∀ g, (t.group g).vd = n → (t.group g).residence ≠ .resident) ∧
      (e = .queue → ∀ q, (t.queue q).vd.toNat = n → (t.queue q).runs = []) ∧ (e = .paging → (t.vd n).faults = []) ∧
      (e = .stations → ∀ r ∈ t.remote, r.vd ≠ n)))

/-- 09 R234, R235: a DSCFG write of a VD without workgroups that fits beside the others' shares is pending, and any other is an
error. The model's own choices in it: log 58. -/
def DieScratchShares : Prop :=
  (∀ (s : State) (n : Nat) (v : W32), (s.vd n).responds = true → ∃ t : State, exec (.dieScratchRequest n v) s = .next t ∧
    t = { s with vds := t.vds } ∧ (t.vd n).dsReq = v.setWidth 9 ∧ (t.vd n).dsGrant = (s.vd n).dsGrant ∧
    let fits := (s.updVd n fun x => { x with dsReq := v.setWidth 9, dsErr := x.dsErr && !v.getLsbD 16 }).dieRequestOk n
    (t.vd n).dsPend = (if fits then some (v.setWidth 9) else (s.vd n).dsPend) ∧
    (t.vd n).dsErr = (!fits || ((s.vd n).dsErr && !v.getLsbD 16))) ∧
  (∀ (s : State) (n : Nat) (r : BitVec 9), (s.vd n).dsPend = some r → s.roleStopped 1 = false → n < 512 → ∃ t : State,
    exec (.dieScratchGrant n) s = .next t ∧ (t.vd n).dsGrant = r ∧ (t.vd n).dsPend = none ∧
    let kept := 2 ^ 20 * min (s.vd n).dsGrant.toNat r.toNat
    (∀ d < 2, ∀ o < 2 ^ 64, t.readByte ⟨.die n d, o⟩ = if kept ≤ o then 0 else s.readByte ⟨.die n d, o⟩) ∧
    ∀ o < 2 ^ 64, t.readByte ⟨.hbm, o⟩ = s.readByte ⟨.hbm, o⟩) ∧
  (∀ (s : State) (n : Nat), (s.vd n).dsPend = none → exec (.dieScratchGrant n) s = .next s)

/-- 17 R404, R409. The model's own choices in it: logs 33, 59. -/
def AshpitAndWatchdog : Prop :=
  (∀ (s : State) (n : Nat) (v : Word), (s.vd n).responds = true →
    (v.toNat / 2 ^ 16 % 2 ^ 36 = 0 → exec (.ashbaseWrite n v) s = .next (s.updVd n fun x => { x with
      ashBase := v &&& 0x000FFFFFFFFF0007
      ashPinned := false })) ∧
    (v.toNat / 2 ^ 16 % 2 ^ 36 ≠ 0 → ∃ t : State, exec (.ashbaseWrite n v) s = .next t ∧ (t.vd n).ashBase = v &&& 0x000FFFFFFFFF0007 ∧
      ((t.vd n).ashPinned = true ∨ (t.vd n).ashNo = true))) ∧
  (∀ (s : State) (q : Nat) (r : RecordRun), let x := s.queue q
    let n := x.vd.toNat
    x.headRun = some r → (s.vd n).works = true → x.wdog (s.vd n) ≠ 0 → ∃ u t : State, exec (.queueWatchdog q) s = .next t ∧
      u = ((s.setQueue q { x with hung := true }).vdEvent n 3).logEvent 0x13 n ∧ (u.vd n).vdevt.getLsbD 3 = true ∧ (u.queue q).hung = true ∧
      t = if s.roleStopped 2 = true ∨ (s.vd n).expert = false ∨ (s.vd n).wdAct = 0 then u
        else if (s.vd n).wdAct = 1 ∧ r.completed = false then u.watchdogEnd q r
        else if (s.vd n).wdAct = 2 then u.startReset n .watchdog true x.local_.toNat 0 else u)

/-- 02 R49. The model's own choices in it: log 92. -/
def SharedContent : Prop :=
  (∀ (s u : State) (ws : List W32), opOf ws = 6 → Begins s ws u → Clean ws → let n := vdOf ws
    let slot := word ws 1
    let host := word ws 2 + 2 ^ 32 * word ws 3
    let base := word ws 5 + 2 ^ 32 * word ws 6
    slot < 64 → host % 4096 = 0 → 1 ≤ word ws 4 → word ws 4 ≤ 2 ^ 20 → base % 2 ^ 21 = 0 →
    ((u.vd n).state = 0 → exec .sharemap s = .next (u.complete 2)) ∧
    ((u.vd n).state ≠ 0 → (u.vd n).state ≠ 2 → exec .sharemap s = .next (u.complete 1)) ∧
    ((u.vd n).state = 2 →
      (∀ x, Table.look u.pf.slots slot = some x → exec .sharemap s =
        if x.host.toNat = host ∧ x.pages = word ws 4 ∧ x.part = decide (u.hardPart n = 1) then .next (u.mapShared n slot (base / 4096) x)
        else .next (u.complete 4)) ∧
      (Table.look u.pf.slots slot = none → u.pf.secDead = false →
        (u.takeFrames (u.hardPart n) slot (word ws 4) = none → exec .sharemap s = .next (u.complete 3)) ∧
        ∀ fs v, u.takeFrames (u.hardPart n) slot (word ws 4) = some (fs, v) → exec .sharemap s = .next { v with pf := { v.pf with
          slots := Table.put slot ⟨BitVec.ofNat 64 host, word ws 4, decide (u.hardPart n = 1), fs, 0, false⟩ v.pf.slots } }))) ∧
  (∀ (s : State) (n slot first : Nat) (x : SharedSlot), let t := s.mapShared n slot first x
    let outside : Prop := 2 ^ 18 * (s.vd n).vspan < first + x.pages ∨ s.meetsShared n first x.pages = true
    (outside → t = s.complete 4) ∧
    (¬ outside → mapsPages s n first x = none → t = s.complete 3) ∧
    (¬ outside → ∀ u, mapsPages s n first x = some u → t.pf.busy = none ∧ t.pf.status = 0 ∧ (first, slot) ∈ (t.vd n).shared ∧
      t.mem = u.mem ∧ Table.look t.pf.slots slot = some { x with count := x.count + 1 })) ∧
  (∀ (s : State) (slot : Nat) (x : SharedSlot) (ws : List W32), Table.look s.pf.slots slot = some x → s.pf.busy = some ⟨ws, true⟩ →
    opOf ws = 6 → word ws 1 = slot → x.filled = false → s.secWaits = false → s.roleStopped 1 = false → s.pf.secDead = false →
    ∃ t u : State, exec (.sharemapComplete slot) s = .next t ∧
      t = u.mapShared (vdOf ws) slot ((word ws 5 + 2 ^ 32 * word ws 6) / 4096) { x with filled := true } ∧
      (Table.look u.keys (512 + slot)).isSome = true ∧
      (∀ f, x.pages = 1 → x.frames = [f] → ∀ i < 4096,
        u.readByte ⟨.hbm, 4096 * f + i⟩ = s.readByte ⟨.host, x.host.toNat + i⟩)) ∧
  (∀ (s : State) (slot page : Nat) (x : SharedSlot), Table.look s.pf.slots slot = some x → page < x.pages → s.roleStopped 2 = false →
    s.poisonOf ⟨.host, x.host.toNat + 4096 * page⟩ 4096 = none → let f := listGet 0 x.frames page
    ∃ t : State, exec (.sharedFrameRepair slot page true false) s = .next t ∧
      (∀ i < 4096, t.readByte ⟨.hbm, 4096 * f + i⟩ = s.readByte ⟨.host, x.host.toNat + 4096 * page + i⟩) ∧
      (∀ o, (o < 4096 * f ∨ 4096 * (f + 1) ≤ o) → t.readByte ⟨.hbm, o⟩ = s.readByte ⟨.hbm, o⟩) ∧
      ∀ e ∈ t.errors, e.shared = some f → e.closed = true)

end Sys2Proof.Claims

/-- PF commands create, destroy, share and query virtual devices. The model's own choices in it: logs 25, 26, 52, 57, 89. -/
def Obligations.DeviceCommands : Prop :=
  CommandsAreTaken ∧ VdsAreCreated ∧ VdsAreDestroyed ∧ SharesAndQueries

/-- Scoped resets and kills stop, drain and discard the work they name. The model's own choices in it: log 31. -/
def Obligations.ResetsAndKills : Prop :=
  ScopedReset ∧ GangsAreKilled

/-- Die scratch, ashpits, watchdogs and shared content follow their registers. The model's own choices in it: logs 33, 58, 59,
92. -/
def Obligations.SharesOfMemory : Prop :=
  DieScratchShares ∧ AshpitAndWatchdog ∧ SharedContent

namespace Sys2Proof.Claims

/-! Work queues, registers, host accesses and Ethernet ports (02 R37, R54-R74; 00 R9-R12; 13 R327; 15 R371-R373). -/

/-- 02 R37, R56-R63, R72: the registers of a queue whose VD does not respond have no effect. The model's own choices in it: logs
60, 90. -/
def QueueRegisters : Prop :=
  ∀ (s : State) (q : Nat) (v : W32), let x := s.queue q
    let good : Prop := 4 ≤ v.toNat % 2 ^ 5 ∧ v.toNat % 2 ^ 5 ≤ 16 ∧ 4 ≤ v.toNat / 2 ^ 8 % 2 ^ 5 ∧ v.toNat / 2 ^ 8 % 2 ^ 5 ≤ 16 ∧
      x.qbase.toNat / 2 ^ 6 % 2 ^ 46 ≠ 0 ∧ x.cbase.toNat / 2 ^ 6 % 2 ^ 46 ≠ 0
    (s.queueOpen q = false → ∀ i ∈ [Instr.queueEnable q v, .queueDisable q v, .kick q v, .kcconsWrite q v], exec i s = .next s) ∧
    (s.queueOpen q = true →
      (x.state = 0 → x.qcfg.getLsbD 31 = false → ∃ t : State, exec (.queueEnable q v) s = .next t ∧
        t = { s with queues := t.queues, irt := t.irt } ∧
        (good → (t.queue q).state = 1 ∧ (t.queue q).qcfg.getLsbD 31 = true ∧ (t.queue q).err = 0 ∧ (t.queue q).head = 0 ∧
          (t.queue q).tail = 0 ∧ (t.queue q).next = 0 ∧ (t.queue q).cprod = 0 ∧ (t.queue q).kccons = 0) ∧
        (¬ good → (t.queue q).state = 0 ∧ (t.queue q).qcfg.getLsbD 31 = false ∧ (t.queue q).cfgErr = true)) ∧
      (∃ t : State, exec (.queueDisable q v) s = .next t ∧ t = { s with queues := t.queues, irt := t.irt } ∧
        (t.queue q).qcfg.getLsbD 31 = false ∧ (t.queue q).state = (if x.state = 0 then 0 else 5) ∧ (t.queue q).runs = x.runs) ∧
      exec (.kick q v) s = .next (s.setQueue q { x with latch := v, kick := true }) ∧
      exec (.kcconsWrite q v) s = .next (if 2 ^ (x.qcfg.toNat / 2 ^ 8 % 2 ^ 5) < (x.cprod - v).toNat then s
        else s.setQueue q { x with kccons := v })) ∧
    exec (.queueStopped q) s = .next (if x.state = 5 ∧ x.runs = [] ∧ x.staged = [] ∧ x.retiring = [] then s.setQueue q { x with state := 0 }
      else s)

/-- 02 R68, R69: a WAITSEM that is evaluated completes when its word satisfies the condition and waits otherwise. The model's
own choices in it: log 86. -/
def WaitRecordsComplete : Prop :=
  (∀ (s u : State) (q : Nat) (r : RecordRun) (bs : List Byte), (s.queue q).runs.find? RecordRun.waits = some r →
    (s.queue q).run r.index.toNat = some r →
    let s' := s.setQueue q { s.queue q with sem := (s.queue q).sem || decide ((s.queue q).state = 3) }
    s'.readRecord q r.index.toNat (rw r 1).toNat 8 = (some (some bs), u) → u.queues = s'.queues →
    let v := leN bs
    let op := (rw r 3).toNat % 4
    let hit : Prop := if op = 0 then (rw r 2).toNat ≤ v else if op = 1 then v = (rw r 2).toNat else v ≠ (rw r 2).toNat
    (hit → Completed (s.semEvent q) q r.index.toNat 0) ∧
    (¬ hit → ((s.semEvent q).queue q).run r.index.toNat = some { r with moved := 0 } ∧
      ((s.semEvent q).queue q).state = if (s.queue q).state = 2 then 3 else (s.queue q).state)) ∧
  (∀ (s : State) (vd : Nat), exec (.sempollTick vd) s =
    .next (((s.queues.filter fun e => e.2.vd.toNat == vd).map (·.1)).foldl State.semEvent s)) ∧
  (∀ (s : State) (q : Nat) (r : RecordRun), (s.queue q).runs.find? RecordRun.waits = some r →
    ((rw r 3).toNat / 2 ^ 32 = 0 → exec (.waitsemTimeout q) s = .next s) ∧
    ((rw r 3).toNat / 2 ^ 32 ≠ 0 → ∃ t : State, exec (.waitsemTimeout q) s = .next t ∧ Completed t q r.index.toNat 3)) ∧
  (∀ (s : State) (q : Nat) (i : W32) (r : RecordRun), (s.queue q).run i.toNat = some r → r.completed = false → recordKind r.words = 5 →
    ∃ t : State, exec (.fenceqComplete q i) s = .next t ∧ Completed t q i.toNat 0 ∧ t.mem = s.mem)

/-- 02 R68, R72. The model's own choices in it: log 86. -/
def LaunchRecordsComplete : Prop :=
  ∀ (s : State) (q n : Nat) (i : W32) (r : RecordRun), (s.queue q).run i.toNat = some r → r.completed = false →
    recordKind r.words = 1 → r.grid = some n →
    let tree (m : Nat) (g : Grid) : Prop := (m, g) ∈ s.grids ∧ g.queue = q ∧ g.index = i.toNat
    ((∃ m g, tree m g ∧ g.ended = false) → exec (.launchRecordComplete q i) s = .next s) ∧
    ((∀ m g, tree m g → g.ended = true) → ∃ (t u : State) (e : Nat), exec (.launchRecordComplete q i) s = .next t ∧
      t = u.semEvents (fun _ x => x.vd == (s.queue q).vd) ∧ Completed u q i.toNat e ∧
      (∀ m g, (m, g) ∈ u.grids → ¬ (g.queue = q ∧ g.index = i.toNat)) ∧
      (∀ g, Table.rising s.grids = true → tree n g → (g.failure = none → e = 0 ∧ ((u.queue q).state = 4 → (s.queue q).state = 4)) ∧
        (g.failure ≠ none → e = if (s.queue q).state = 5 ∧ g.gangKill = true then 4 else 2)))

/-- 02 R68: a COPY whose bytes lie in one page on each side, in local memory, is performed and completes: the destination holds
the source's bytes, or zeros under its fill flag, and no other byte changes. The model's own choices in it: log 22. -/
def SystemCopiesMoveBytes : Prop :=
  ∀ (s u v : State) (q : Nat) (i : W32) (r : RecordRun) (fs ts : List Loc), (s.queue q).run i.toNat = some r → r.completed = false →
    recordKind r.words = 4 → r.moved = 0 → v.queues = s.queues → v.remote = [] → Untracked v ts →
    v.damps (s.queue q).vd.toNat (fs ++ ts) = false →
    let src := (rw r 1).toNat
    let dst := (rw r 2).toNat
    let n := (rw r 3).toNat
    0 < n → src % 4096 + n ≤ 4096 → dst % 4096 + n ≤ 4096 →
    (if rw r 4 = 1 then fs = [] ∧ u = s else s.reachRecord q i.toNat src n Need.read = (.ok fs, u)) →
    u.reachRecord q i.toNat dst n Need.write = (.ok ts, v) → (∀ l ∈ fs ++ ts, l.space = .hbm ∨ l.space = .host) →
    (ts.map Loc.key).Nodup → ts.length = n → (rw r 4 ≠ 1 → fs.length = n) →
    ∃ t : State, exec (.systemCopyComplete q i) s = .next t ∧ Completed t q i.toNat 0 ∧
      (∀ k < n, t.readByte (listGet ⟨.hbm, 0⟩ ts k) = if rw r 4 = 1 then 0 else v.readByte (listGet ⟨.hbm, 0⟩ fs k)) ∧
      ∀ l : Loc, (∀ a b, l.space ≠ .window a b) → (∀ x ∈ ts, l.key ≠ x.key) → t.readByte l = v.readByte l

/-- 02 R74: the end of a coalescing time sends an entry's pending interrupt unless it is held, and marks it due if it is. -/
def CoalescedInterruptsAreSent : Prop :=
  ∀ (s : State) (n : Nat), let e := s.irtEntry n
    (e.pending = 0 → exec (.irqCoalesceTimeout n) s = .next s) ∧
    (e.pending ≠ 0 → e.word.getLsbD 32 = true → exec (.irqCoalesceTimeout n) s = .next (s.setIrt n { e with due := true })) ∧
    (e.pending ≠ 0 → e.word.getLsbD 32 = false → ∃ t : State, exec (.irqCoalesceTimeout n) s = .next t ∧
      (t.irtEntry n).pending = 0 ∧ (t.irtEntry n).due = false ∧ (t.irtEntry n).word = e.word ∧ t.mem = s.mem)

/-- 03 R80, R81. -/
def PartitionRegisters : Prop :=
  ∀ (s : State) (v : W32), let free : Prop := ∀ e ∈ s.vds, e.2.state = 0
    (∃ t : State, exec (.partcfgWrite v) s = .next t ∧ t = { s with pf := { s.pf with partMode := t.pf.partMode, partRefused := t.pf.partRefused } } ∧
      ((free ∨ v.getLsbD 0 = s.pf.partMode) → t.pf.partMode = v.getLsbD 0 ∧ t.pf.partRefused = (s.pf.partRefused && !v.getLsbD 1)) ∧
      (¬ free → v.getLsbD 0 ≠ s.pf.partMode → t.pf.partMode = s.pf.partMode ∧ t.pf.partRefused = true)) ∧
    (∀ d < 2, ∃ t : State, exec (.fwlogClear d v) s = .next t ∧ t.pf.fwCount = listSet s.pf.fwCount d 0 ∧
      t.pf.fwLast = listSet s.pf.fwLast d 0 ∧ t.pf.fwIrq = listSet s.pf.fwIrq d (v.getLsbD 1) ∧ t = { s with pf := t.pf }) ∧
    (∀ d < 2, let mib : BitVec 9 := BitVec.ofNat 9 (min 256 (v.toNat % 2 ^ 9))
      exec (.dscarveWrite d v) s = .next { s with pf := if mib = listGet 0 s.pf.dsMib d ∨ s.allFree = true then { s.pf with
          dsMib := listSet s.pf.dsMib d mib
          dsRefused := listSet s.pf.dsRefused d (listGet false s.pf.dsRefused d && !v.getLsbD 9) }
        else { s.pf with dsRefused := listSet s.pf.dsRefused d true } }) ∧
    (∃ t : State, exec (.fabcfgWrite v) s = .next t ∧ t = { s with pf := t.pf } ∧ t.pf.fabAge = v.extractLsb' 16 8 ∧
      t.pf.fabSeal = v.getLsbD 12 ∧ t.pf.fabWc = v.getLsbD 11 ∧ (free → t.pf.fabAcc = v.setWidth 10) ∧
      (¬ free → t.pf.fabAcc = s.pf.fabAcc))

/-- 00 R9-R12. The model's own choices in it: log 27. -/
def RegisterWrites : Prop :=
  (∀ (s : State) (v : Word), exec (.registerWrite (.pf 8 v 4)) s =
    .next { s with power := { s.power with capW := BitVec.ofNat 8 (min 180 (max 60 (v.toNat % 256))) } }) ∧
  (∀ (s : State) (v : Word) (i : Nat), i < 16 → exec (.registerWrite (.pf (0x1000 + 4 * i) v 4)) s =
    .next { s with pf := { s.pf with cmdBuf := listSet s.pf.cmdBuf i (v.setWidth 32) } }) ∧
  (∀ (s : State) (v : Word) (i : Nat), i < 8 → exec (.registerWrite (.pf (0x1000 + 8 * i) v 8)) s =
    .next { s with pf := { s.pf with cmdBuf := listSet (listSet s.pf.cmdBuf (2 * i) (v.setWidth 32)) (2 * i + 1) ((v >>> 32).setWidth 32) } }) ∧
  (∀ (s : State) (v : Word) (off n : Nat), (off % 4 ≠ 0 ∨ (n ≠ 4 ∧ n ≠ 8) ∨ (n = 8 ∧ off % 8 ≠ 0)) →
    exec (.registerWrite (.pf off v n)) s = .next s ∧ ∀ vd, exec (.registerWrite (.vf vd off v n)) s = .next s) ∧
  (∀ (s : State) (v : Word) (vd off n : Nat), (s.vd vd).responds = false → exec (.registerWrite (.vf vd off v n)) s = .next s) ∧
  (∀ (s : State) (v : Word) (vd off n : Nat), (s.power.state = 3 ∨ s.power.state = 4) → off < 0x10000 →
    exec (.registerWrite (.vf vd off v n)) s = .next s) ∧
  (∀ (s : State) (v : Word) (vd l : Nat), (s.vd vd).responds = true → l < (s.vd vd).qcount → l < 64 → s.power.state = 1 →
    let q := (s.vd vd).qfirst + l
    let x := s.queue q
    exec (.registerWrite (.vf vd (0x100 + 0x20 * l) v 8)) s = .next (if x.qcfg.getLsbD 31 = true ∨ x.state = 5 then s
      else s.setQueue q { x with qbase := v &&& 0x000FFFFFFFFFFFC0 }))

/-- 00 R9, R10, R12. -/
def RegistersRead : Prop :=
  ∀ (s : State) (q : Nat), s.readWaits q = false →
    let answers (i : HostRead) (bs : List Byte) : Prop :=
      exec (.hostRead i) s = .next { s with sent := s.sent ++ [.hostRead q (bs.map fun b => (b, none))] }
    answers (.pf q 8 4) [s.power.capW, 0, 0, 0] ∧
    (∀ i < 16, answers (.pf q (0x1000 + 4 * i) 4) (leB 4 (listGet 0 s.pf.cmdBuf i).toNat)) ∧
    (∀ i < 8, answers (.pf q (0x1000 + 8 * i) 8) (leB 4 (listGet 0 s.pf.cmdBuf (2 * i)).toNat ++ leB 4 (listGet 0 s.pf.cmdBuf (2 * i + 1)).toNat)) ∧
    (∀ off n, (off % 4 ≠ 0 ∨ (n ≠ 4 ∧ n ≠ 8) ∨ (n = 8 ∧ off % 8 ≠ 0)) → answers (.pf q off n) (leB n 0) ∧
      ∀ vd, answers (.vf q vd off n) (leB n 0)) ∧
    (∀ off n, 0x440000 ≤ off → answers (.pf q off n) (leB n 0)) ∧
    (∀ vd off n, ((s.vd vd).responds = false ∨ s.power.state = 3 ∨ s.power.state = 4) → answers (.vf q vd off n) (leB n 0)) ∧
    (∀ vd l, (s.vd vd).responds = true → s.power.state = 1 → l < (s.vd vd).qcount → l < 64 →
      let x := s.queue ((s.vd vd).qfirst + l)
      answers (.vf q vd (0x110 + 0x20 * l) 4) (leB 4 x.qcfg.toNat) ∧ answers (.vf q vd (0x10000 + 0x1000 * l) 4) (leB 4 x.latch.toNat))

/-- 13 R327. The model's own choices in it: log 65. -/
def HostAccesses : Prop :=
  ∀ s : State,
    (∀ w : HostWrite, let l (o : Nat) : Loc := ⟨if w.host then .host else .hbm, o⟩
      let room : Prop := if w.host then w.addr + w.bytes.length ≤ 2 ^ 52
        else w.addr + w.bytes.length ≤ 384 * 2 ^ 30 ∧ s.power.state ≠ 3 ∧ s.power.state ≠ 4
      (¬ room → exec (.hostWrite w) s = .next s) ∧
      (room → (w.host = false → ∀ i < w.bytes.length, Table.look s.tables ((w.addr + i) / 64) = none) →
        ∃ t : State, exec (.hostWrite w) s = .next t ∧
        (∀ i < w.bytes.length, t.readByte (l (w.addr + i)) = listGet 0 w.bytes i ∧ (w.poisoned = true → t.poisonAt (l (w.addr + i)) ≠ none)) ∧
        (∀ k : Loc, (∀ a b, k.space ≠ .window a b) → (∀ i < w.bytes.length, k.key ≠ (l (w.addr + i)).key) → t.readByte k = s.readByte k) ∧
        t = { s with mem := t.mem, poison := t.poison, owners := t.owners, errors := t.errors } ∧
        (w.poisoned = false → t.errors = s.errors))) ∧
    (∀ (q addr len : Nat) (host : Bool), s.readWaits q = false → let l (o : Nat) : Loc := ⟨if host then .host else .hbm, o⟩
      let room : Prop := if host then addr + len ≤ 2 ^ 52 else addr + len ≤ 384 * 2 ^ 30 ∧ s.power.state ≠ 3 ∧ s.power.state ≠ 4
      (room → exec (.hostRead (.memory q host addr len)) s = .next { s with sent := s.sent ++ [.hostRead q ((List.range len).map fun i =>
        (s.readByte (l (addr + i)), s.poisonAt (l (addr + i))))] }) ∧
      (¬ room → exec (.hostRead (.memory q host addr len)) s = .next { s with sent := s.sent ++ [.hostRead q []] })) ∧
    (∀ q, s.readWaits q = true → ∀ i ∈ [HostRead.memory q true 0 0, .pf q 0 0, .vf q 0 0 0], exec (.hostRead i) s = .next s)

/-- 15 R371-R373: a port is enabled when its lanes, rings and owner allow it, and else sets its error flag. The model's own
choices in it: log 64. -/
def PortsMoveFrames : Prop :=
  (∀ (s : State) (n : Nat) (v : W32), n < 8 → (s.port n).enabled = false → ∃ t : State, exec (.portEnable n v) s = .next t ∧
    t = { s with ports := t.ports } ∧ (t.port n).txHead = (s.port n).txHead ∧
    let p : Port := { s.port n with
      cfgErr := (s.port n).cfgErr && !v.getLsbD 30
      owned := v.getLsbD 20
      owner := v.extractLsb' 11 9
      lanes := v.setWidth 2 }
    (s.portRefused n p = false → (t.port n).enabled = true ∧ (t.port n).lanes = v.setWidth 2 ∧ (t.port n).owned = v.getLsbD 20) ∧
    (s.portRefused n p = true → (t.port n).enabled = false ∧ (t.port n).cfgErr = true)) ∧
  (∀ (s : State) (n : Nat) (v : W32), n < 8 → ∃ t : State, exec (.portDisable n v) s = .next t ∧ (t.port n).enabled = false ∧
    ((s.port n).enabled = true → (t.port n).stopping = decide ((s.port n).txHead ≠ (s.port n).txTail)) ∧ t = { s with ports := t.ports }) ∧
  (∀ (s : State) (n : Nat) (v : W32), n < 8 → exec (.ptxtailWrite n v) s = .next (s.setPort n { s.port n with txTail := v }) ∧
    exec (.prxtailWrite n v) s = .next (s.setPort n { s.port n with rxTail := v })) ∧
  (∀ (s : State) (n : Nat) (bad : Bool), let p := s.port n
    n < 8 → p.enabled = true → p.owned = false → p.txHead ≠ p.txTail → p.txWait = false →
    let d := 4096 * (p.txRing.toNat / 2 ^ 12 % 2 ^ 40) + p.txHead.toNat % 2 ^ (p.txRing.toNat % 32) * 16
    let h (o : Nat) : Byte := s.readByte ⟨.host, o⟩
    let addr := leN ((List.range 8).map fun i => h (d + i))
    let len := leN [h (d + 8), h (d + 9)]
    ∃ t : State, exec (.frameSent n bad) s = .next t ∧ t.sent = s.sent ++ [.frame n ((List.range len).map fun i => h (addr + i))] ∧
      (t.port n).txHead = p.txHead + 1 ∧ t.readByte ⟨.host, d + 10⟩ = (if bad then 3 else 1) ∧
      ∀ k : Loc, (∀ a b, k.space ≠ .window a b) → k.key ≠ (⟨.host, d + 10⟩ : Loc).key → t.readByte k = s.readByte k) ∧
  (∀ (s : State) (n : Nat) (bs : List Byte) (bad : Bool), let p := s.port n
    n < 8 → p.rxWait = none → p.rxDone = false →
    ((p.enabled = false ∧ p.receiving = false) ∨ p.rxHead = p.rxTail → exec (.frameReceived n bs bad) s = .next s) ∧
    (p.enabled = true → p.owned = false → p.rxHead ≠ p.rxTail → p.txWait = false → s.remote = [] →
      let d := 4096 * (p.rxRing.toNat / 2 ^ 12 % 2 ^ 40) + p.rxHead.toNat % 2 ^ (p.rxRing.toNat % 32) * 16
      let h (o : Nat) : Byte := s.readByte ⟨.host, o⟩
      let addr := leN ((List.range 8).map fun i => h (d + i))
      let room := leN [h (d + 8), h (d + 9)]
      ∃ t : State, exec (.frameReceived n bs bad) s = .next t ∧ (t.port n).rxHead = p.rxHead + 1 ∧
        t.readByte ⟨.host, d + 8⟩ = BitVec.ofNat 8 bs.length ∧ t.readByte ⟨.host, d + 9⟩ = BitVec.ofNat 8 (bs.length / 256) ∧
        t.readByte ⟨.host, d + 10⟩ = (if bad = true ∨ room < bs.length then 3 else 1) ∧
        ∀ i < min room bs.length, (addr + i < d + 8 ∨ d + 10 < addr + i) → t.readByte ⟨.host, addr + i⟩ = listGet 0 bs i))

end Sys2Proof.Claims

/-- Queue records complete with their status, and interrupts are coalesced and sent. The model's own choices in it: logs 22, 86. -/
def Obligations.RecordsComplete : Prop :=
  WaitRecordsComplete ∧ LaunchRecordsComplete ∧ SystemCopiesMoveBytes ∧ CoalescedInterruptsAreSent

/-- Host accesses and Ethernet frames move exactly their bytes. The model's own choices in it: logs 64, 65. -/
def Obligations.HostAndPorts : Prop :=
  HostAccesses ∧ RegistersRead ∧ PortsMoveFrames

namespace Sys2Proof.Claims

/-! The scheduler, halts, handlers, slice ends and saves (03 R86-R99; 04 R119, R125-R127; 07 R191; 16 R374-R389). -/

/-- Whether a VD of a hard partition takes part in its decisions. -/
def Ready (s : State) (part : Nat) (e : Nat × Vd) : Prop := e ∈ s.vds ∧ e.2.works = true ∧ e.2.backlog = true ∧ s.hardPart e.1 = part

/-- VD `vd` comes first among the backlogged VDs of its partition: its VT is before every other's. -/
def First (s : State) (part vd : Nat) : Prop :=
  Ready s part (vd, s.vd vd) ∧ ∀ e, Ready s part e → e = (vd, s.vd vd) ∨ (vtBefore (s.vd vd).vt e.2.vt = true ∧ vtBefore e.2.vt (s.vd vd).vt = false)

/-- The trap record that a warp's handler shows. -/
def Shows (w : Warp) (t : TrapRec) : Prop :=
  w.trapCause = t.cause ∧ w.trapPc = t.pc ∧ w.trapMask = t.mask ∧ w.agent.sreg 90 = t.s90 ∧ w.agent.sreg 91 = t.s91 ∧ w.agent.sreg 92 = t.s92

/-- The threads of a warp that have not exited, in its frontier and parked. -/
def unexited (w : Warp) : Mask :=
  (w.frontier.map (·.mask) ++ w.groups.flatMap fun g => g.parked.map (·.at_.mask)).foldl (· ||| ·) 0

/-- 03 R79, R86, R92, R93. The model's own choices in it: logs 44, 45, 87, 88. -/
def DecisionsPlaceWork : Prop :=
  ∀ (s : State) (part : Nat) (cores : List Nat),
    (s.roleStopped 0 = true ∨ s.power.state ≠ 1 → exec (.dispatchDecision part cores) s = .next s) ∧
    ∀ vd u us, s.roleStopped 0 = false → s.power.state = 1 → First s part vd → s.units vd = u :: us →
      let r := (s.unitRecord u).1
      let k := (s.unitRecord u).2
      s.fitsAnywhere vd r k (s.unitKey u) = true →
      (s.coresFit vd r k (s.unitKey u) cores = false → exec (.dispatchDecision part cores) s = .next s) ∧
      (∀ n first c, u = .fresh n first 1 → cores = [c] → s.coresFit vd r 1 (s.unitKey u) [c] = true → ∃ t : State,
        exec (.dispatchDecision part cores) s = .next t ∧ (t.grid n).placed = (s.grid n).placed + 1 ∧ t.mem = s.mem ∧
        (let x := t.group s.uid
         x.vd = (s.grid n).vd ∧ x.grid = n ∧ x.wgid = first ∧ x.core = c ∧ x.residence = .resident ∧ x.halt = none ∧
         x.warps.length = (s.grid n).record.warps ∧ x.sliceStart = s.clk.toNat) ∧
        ∀ w < (s.grid n).record.warps, (t.warp s.uid w).frontier = frontierOf [⟨0, (s.grid n).record.word 0,
          maskOf fun l => decide (64 * w + l < (s.grid n).record.threads)⟩] ∧ (t.warp s.uid w).vregs = []) ∧
      (∀ g c, u = .images [g] → cores = [c] → s.coresFit vd r 1 (s.unitKey u) [c] = true → (s.group g).carried = [] →
        s.locksFit [g] [c] = true → (∃ x y, (s.group g).residence = .saved x y) →
        (∀ a ∈ s.agentsOf g, (s.agent a).ops = []) → (s.group g).asyncHeld = [] → (∀ w ∈ (s.group g).warps, w.held = [] ∧ w.handler = []) →
        ∃ t : State, exec (.dispatchDecision part cores) s = .next t ∧ t.mem = s.mem ∧
          (t.group g).residence = .resident ∧ (t.group g).core = c ∧ (t.group g).halt = none ∧ (t.group g).vd = (s.group g).vd ∧
          ∀ w < (s.group g).warps.length, (t.warp g w).vregs = (s.warp g w).vregs ∧ (t.warp g w).frontier = (s.warp g w).frontier ∧
            (t.warp g w).preds = (s.warp g w).preds)

/-- 03 R96, R99. -/
def WorkEnds : Prop :=
  (∀ (s : State) (g : Nat),
    (s.groupOver g = false → exec (.workgroupEnd g) s = .next s) ∧
    (s.groupOver g = true → ∃ t : State, exec (.workgroupEnd g) s = .next t ∧
      (t.grid (s.group g).grid).endedGroups = (s.grid (s.group g).grid).endedGroups + 1 ∧
      (s.gangOver g = true → (∀ m ∈ s.gangOf g, (t.group m).residence = .ended ∧ ∀ o < 2 ^ 64, t.readByte ⟨.scratch m, o⟩ = 0)) ∧
      (s.gangOver g = false → (t.group g).residence = .kept true ∧ (t.group g).extent = (s.group g).extent ∧
        (t.group g).queues = (s.group g).queues ∧ (t.group g).warps = []) ∧
      ((s.core (s.group g).core).wc = [] → (s.gangOver g = false → t.mem = s.mem) ∧
        ∀ o < 384 * 2 ^ 30, t.readByte ⟨.hbm, o⟩ = s.readByte ⟨.hbm, o⟩))) ∧
  (∀ (s : State) (g : Nat), s.groupOver g = true ↔ ((s.group g).residence = .resident ∧ (s.group g).doomed = none ∧ (s.group g).asyncHeld = [] ∧
    (∀ w ∈ (s.group g).warps, w.frontier = [] ∧ w.groups = [] ∧ w.agent.ops = [] ∧ w.held = []) ∧
    ∀ k ∈ (s.group g).stoker, k.agent.ended = true ∧ k.agent.ops = [])) ∧
  ∀ (s : State) (n : Nat), let g := s.grid n
    let finished : Prop := g.ended = false ∧ g.record.words ≠ [] ∧ g.endedGroups = g.placed ∧ (g.killed = true ∨ g.placed = g.record.count)
    (finished → exec (.gridEnd n) s = .next ((s.setGrid n { g with ended := true }).noteBacklog g.vd)) ∧
    (¬ finished → exec (.gridEnd n) s = .next s)

/-- 03 R89, R95. The model's own choices in it: log 88. -/
def WindowsBanksAndMirrors : Prop :=
  (∀ (s : State) (n : Nat), let v := s.vd n
    exec (.damperWindowEnd n) s = .next (State.rerunVd (s.setVd n { v with
      hbmWindow := if v.hbmDamp = 0 then 0 else min (v.hbmWindow - 4096 * v.hbmDamp) (4096 * v.hbmDamp)
      linkWindow := if v.linkDamp = 0 then 0 else min (v.linkWindow - 4096 * v.linkDamp) (4096 * v.linkDamp) }) n)) ∧
  (∀ (s : State) (c b : Nat), let used : Prop := 48 ≤ b ∨ ∃ k ∈ s.usedSegments c, k / 8 = b
    (used → exec (.bankPowerGate c b) s = .next s) ∧
    (¬ used → ∃ t : State, exec (.bankPowerGate c b) s = .next t ∧ (t.core c).l1 = [] ∧ b ∈ (t.core c).gated ∧
      (∀ d, d ≠ c → t.core d = s.core d) ∧ t = { s with cores := t.cores })) ∧
  ∀ (s : State) (g w : Nat),
    ((s.group g).residence = .resident → s.mirrored g = true → exec (.mirrorCopyFinished g w) s = .next (s.setWarp g w { s.warp g w with mirror := true })) ∧
    (¬ ((s.group g).residence = .resident ∧ s.mirrored g = true) → exec (.mirrorCopyFinished g w) s = .next s)

/-- 16 R377, R378, R379: once a halt for traps has settled, the lowest-numbered warp that holds a trap enters its handler: its
unexited threads stand at THPC, what it was doing is saved, and the record is shown, TRAPPC being the head's PC for an
asynchronous trap. The model's own choices in it: log 43. -/
def HandlersAreEntered : Prop :=
  (∀ (s : State) (g i : Nat) (t : TrapRec) (ts : List TrapRec) (settled : Bool), (s.group g).residence = .resident → (s.group g).doomed = none →
    (s.group g).halt = some (.trap settled) → (settled = true → ∀ w ∈ (s.group g).warps, w.inTrapHandler = false) →
    i < (s.group g).warps.length → (∀ j < i, (s.warp g j).held = []) → (s.warp g i).held = t :: ts → (s.warp g i).inSliceHandler = false → (s.warp g i).unended = true →
    (s.warp g i).agent.awaits t = false → ∃ u : State, exec (.handlerEntry g) s = .next u ∧ u.mem = s.mem ∧
      (let w := u.warp g i
       let old := s.warp g i
       w.held = ts ∧ w.frontier = frontierOf [⟨0, (s.launchOf g).thpc, unexited old⟩] ∧ w.groups = [] ∧ w.vregs = old.vregs ∧
       (∃ h, w.handler = h :: old.handler ∧ h.kind = t.kind ∧ h.saved.frontier = old.frontier ∧ h.saved.groups = old.groups) ∧
       (t.kind ≠ .async → Shows w t) ∧
       (t.kind = .async → settled = false → w.trapPc = old.head.pc ∧ w.trapCause = t.cause ∧ w.trapMask = t.mask)) ∧
      (u.group g).lastCause = t.cause ∧ (u.group g).halt = some (.trap true) ∧
      ∀ j, j ≠ i → (u.warp g j).handler = (s.warp g j).handler ∧ (u.warp g j).frontier = (s.warp g j).frontier) ∧
  (∀ (s : State) (g : Nat) (r : List Nat), (s.group g).residence = .resident → (s.group g).doomed = none →
    (s.group g).halt = some (.slice false r) → ∃ u : State, exec (.handlerEntry g) s = .next u ∧ u.mem = s.mem ∧
      ((∀ w ∈ (s.group g).warps, w.unended = true → unexited w ≠ 0) →
        (u.group g).halt = if (s.group g).warps.any Warp.unended then some (.slice true r) else some (.saving true false)) ∧
      ∀ w < (s.group g).warps.length,
        ((s.warp g w).unended = true → (u.warp g w).frontier = frontierOf [⟨0, (s.launchOf g).shpc, unexited (s.warp g w)⟩] ∧
          (u.warp g w).trapPc = (s.warp g w).head.pc ∧ (u.warp g w).trapCause = causeWord .sliceEnd none 0 none ∧
          (u.warp g w).agent.sreg 92 = BitVec.ofNat 64 (s.launchOf g).budget) ∧
        ((s.warp g w).unended = false → (u.warp g w).frontier = (s.warp g w).frontier)) ∧
  ∀ (s : State) (g : Nat), ((s.group g).halt = none ∨ (s.group g).residence ≠ .resident ∨ (s.group g).doomed ≠ none) →
    exec (.handlerEntry g) s = .next s

/-- 16 R375, R377: an asynchronous trap halts its workgroup, then joins the traps of its delivery warp, the lowest-numbered one
that has not ended, unless a handler runs. -/
def AsyncTrapsAreDelivered : Prop :=
  ∀ (s : State) (g : Nat) (t : TrapRec) (ts : List TrapRec), (s.group g).asyncHeld = t :: ts → (s.group g).residence = .resident →
    (s.group g).doomed = none →
    (((s.launchOf g).thpc = 0 ∨ ∀ w ∈ (s.group g).warps, w.unended = false) →
      exec (.asyncTrap g) s = .next (s.setGroup g { s.group g with asyncHeld := ts, doomed := some (.permission, 0) })) ∧
    ((s.launchOf g).thpc ≠ 0 → ∀ i < (s.group g).warps.length, (s.warp g i).unended = true → (∀ j < i, (s.warp g j).unended = false) →
      let running : Prop := ∃ w ∈ (s.group g).warps, w.handler ≠ []
      (running → ((s.group g).halt = none ∨ ∃ b, (s.group g).halt = some (.trap b)) → exec (.asyncTrap g) s = .next s) ∧
      (¬ running → (s.group g).halt = none → exec (.asyncTrap g) s = .next (s.haltBroadcast g)) ∧
      (∀ b, ¬ running → (s.group g).halt = some (.trap b) → (b = true → ∀ w ∈ (s.group g).warps, w.held = []) →
        ∃ u : State, exec (.asyncTrap g) s = .next u ∧ (u.group g).asyncHeld = ts ∧ (u.warp g i).held = (s.warp g i).held ++ [t] ∧
          ∀ j, j ≠ i → u.warp g j = s.warp g j))

/-- 03 R88. The model's own choices in it: log 43. -/
def SlicesEnd : Prop :=
  (∀ (s : State) (vd core : Nat),
    let contends (e : Nat × Vd) : Prop := e ∈ s.vds ∧ e.1 ≠ vd ∧ e.2.works = true ∧ e.2.backlog = true ∧ s.hardPart e.1 = s.hardPart vd ∧
      vtBefore e.2.vt (s.vd vd).vt = true ∧ s.neededBy vd core e.1 = true
    let mine (g : Nat) : Prop := (g, s.group g) ∈ s.groups ∧ (s.group g).core = core ∧ (s.group g).vd = vd ∧
      (s.group g).residence = .resident ∧ (s.group g).doomed = none
    ((∀ e, ¬ contends e) → ∃ t : State, exec (.sliceEnd vd core) s = .next t ∧ t.mem = s.mem ∧
      ∀ g, mine g → (t.group g).sliceStart = s.clk.toNat ∧ (t.group g).halt = (s.group g).halt) ∧
    (∀ e, contends e → ∃ t : State, exec (.sliceEnd vd core) s = .next t ∧ t.mem = s.mem ∧
      ∀ g, mine g →
        ((s.group g).halt = none → (t.group g).halt = if (s.launchOf g).shpc = 0 ∨ (s.group g).warps.any Warp.inSliceHandler = true then
          some (.saving false false) else some (.slice false [])) ∧
        (∀ b, (s.group g).halt = some (.trap b) → (s.launchOf g).shpc ≠ 0 → (t.group g).sliceDue = true ∧ (t.group g).halt = some (.trap b)))) ∧
  ∀ (s : State) (g : Nat), let x := s.group g
    let forced (ws : List Warp) : Res := .next (s.setGroup g { x with
      halt := some (.saving false false)
      sliceDue := false
      warps := ws })
    (∀ b r, x.halt = some (.slice b r) → exec (.sliceBudgetExpire g) s =
      forced (x.warps.map fun w => if b then { w with skidReg := 0 } else w.settleHalt)) ∧
    (∀ b, x.halt = some (.trap b) → exec (.sliceBudgetExpire g) s = if x.sliceDue then forced x.warps else .next s) ∧
    (x.halt = none → exec (.sliceBudgetExpire g) s = .next s)

/-- 16 R383, R384, R386: a workgroup that is being saved and has nothing counted or started leaves its core: its image keeps
every register of a forced save, and only the thin state of a cooperative one, which also loses its scratchpad. The model's
own choices in it: logs 26, 60. -/
def ContextsAreSaved : Prop :=
  ∀ (s : State) (g : Nat) (coop swap : Bool), (s.group g).residence = .resident → (s.group g).doomed = none →
    (s.group g).halt = some (.saving coop swap) → (s.core (s.group g).core).wc = [] → (∀ a ∈ s.agentsOf g, (s.agent a).ops = []) →
    (∀ m ∈ (s.core (s.group g).core).matrix, m.g ≠ g) →
    (s.imagesFit g coop swap = false → s.gangOf g = [g] → ∃ t : State, exec (.contextSave g) s = .next t ∧ t.mem = s.mem ∧
      (t.group g).residence = .resident ∧ (t.group g).halt = none ∧ (t.group g).warps = (s.group g).warps ∧
      (swap = false → (t.group g).sliceStart = s.clk.toNat)) ∧
    (s.imagesFit g coop swap = true → ∃ t : State, exec (.contextSave g) s = .next t ∧ (t.group g).residence = .saved coop swap ∧
      (t.group g).halt = none ∧
      (∀ w < (s.group g).warps.length, (t.warp g w).frontier = (s.warp g w).frontier ∧ (t.warp g w).preds = (s.warp g w).preds ∧
        (t.warp g w).vregs = if coop then [] else (s.warp g w).vregs) ∧
      (coop = false → t.mem = s.mem) ∧ (coop = true → ∀ o < 2 ^ 64, t.readByte ⟨.scratch g, o⟩ = 0) ∧
      (swap = false → (s.vd (s.group g).vd).saveForced.toNat < 0xFFFF → (s.vd (s.group g).vd).saveCoop.toNat < 0xFFFF →
        (t.vd (s.group g).vd).saveForced = (s.vd (s.group g).vd).saveForced + (if coop then 0 else 1) ∧
        (t.vd (s.group g).vd).saveCoop = (s.vd (s.group g).vd).saveCoop + (if coop then 1 else 0)))

/-- 04 R125-R127: while the swap is enabled and the device is ACTIVE, a swappable workgroup of a VD that has others waiting is
stopped for a forced save from which it resumes when it is woken. The model's own choices in it: log 60. -/
def SwapsMakeRoom : Prop :=
  ∀ (s : State) (core : Nat), let able (e : Nat × Group) : Prop := e ∈ s.groups ∧ e.2.core = core ∧ e.2.residence = .resident ∧
      (s.vd e.2.vd).backlog = true ∧ ∀ m ∈ s.gangOf e.1, (s.group m).residence = .resident → s.swappableOne m = true
    ((s.pf.fpSwap = false ∨ s.power.state ≠ 1 ∨ ∀ e, ¬ able e) → exec (.forwardProgressSwap core) s = .next s) ∧
    (s.pf.fpSwap = true → s.power.state = 1 → ∀ g, able (g, s.group g) → (∀ e, able e → e.1 = g) → s.gangOf g = [g] →
      exec (.forwardProgressSwap core) s = .next (s.setGroup g { s.group g with halt := some (.saving false true) }))

end Sys2Proof.Claims

/-- Decisions place work on eligible cores, and work that has ended leaves. The model's own choices in it: logs 44, 45, 87, 88. -/
def Obligations.PlacementAndEnds : Prop :=
  DecisionsPlaceWork ∧ WorkEnds ∧ WindowsBanksAndMirrors

/-- Handlers are entered, slices end, and contexts are saved as the spec says. The model's own choices in it: logs 26, 43, 60. -/
def Obligations.HandlersSlicesAndSaves : Prop :=
  HandlersAreEntered ∧ AsyncTrapsAreDelivered ∧ SlicesEnd ∧ ContextsAreSaved ∧ SwapsMakeRoom

namespace Sys2Proof.Claims

/-! Boot, the banked state, power and wear, measurement, the life cycle, and the control cores' failures (01 R16-R36; 19 R430-R432). -/

/-- Memory reads 0 everywhere but in host memory, which reads as before. -/
def OnlyHostKept (s t : State) : Prop :=
  (∀ o < 2 ^ 64, t.readByte ⟨.host, o⟩ = s.readByte ⟨.host, o⟩) ∧ ∀ o < 2 ^ 64, t.readByte ⟨.hbm, o⟩ = 0

/-- Life-cycle changes that 01 R34 allows: MANUFACTURING 0, DEPLOYED 1, RETURNED 2, DECOMMISSIONED 3. -/
inductive Allowed : BitVec 2 → BitVec 2 → Nat → Prop
  | out {n} : Allowed 0 1 n
  | back {n} : Allowed 1 2 n
  | again {n} (h : n < 3) : Allowed 2 1 n
  | end_ {a n} : Allowed a 3 n

/-- The plan at the end of the ring of 32 keeps R31 for what the monitors find: each core that needs more than 6 steps is withheld, and
every other one's cluster has at least the steps that it needs. -/
def Planned (s t : State) (needs : List (Nat × Nat)) : Prop :=
  t.power.plans.length ≤ 32 ∧ (∀ c, c ∈ t.power.withheld ↔ c < 320 ∧ ∃ k, (c, k) ∈ needs ∧ 6 < k) ∧
    ∃ m, t.power.plans.getLast? = some (s.power.ponhrs, m) ∧ m.withheld = t.power.withheld ∧
      (∀ c k, (c, k) ∈ needs → c < 320 → k ≤ 6 → k ≤ listGet 0 m.offsets (c / 160 * 20 + c % 160 / 8)) ∧ ∀ n ∈ m.offsets, n ≤ 6

/-- 01 R17, R34: a package reset leaves every register at its reset value but for the fuses and what NVM holds, and no memory
but the host's. The model's own choices in it: logs 4, 55, 77. -/
def PackageResets : Prop :=
  (∀ s : State, ∃ t : State, exec .packageReset s = .next t ∧ OnlyHostKept s t ∧ t.vds = [] ∧ t.groups = [] ∧ t.grids = [] ∧ t.keys = [] ∧
    t.power.state = 0 ∧ t.power.phase = 0 ∧ t.power.capW = 180 ∧ t.pf = State.reset.pf ∧ t.pairs = State.reset.pairs ∧
    t.ctl = State.reset.ctl ∧ t.power.lcState = s.power.lcState ∧ t.power.refurb = s.power.refurb ∧ t.power.training = s.power.training ∧
    t.power.ponhrs = s.power.ponhrs ∧ t.power.thcyc = s.power.thcyc ∧ t.power.bankcnt = s.power.bankcnt ∧ t.power.plans = s.power.plans) ∧
  ∀ (s : State) (r : LifeCycleRequest),
    ((s.ctlCore 6).loaded = false ∨ s.authentic r = false ∨ ¬ Allowed s.power.lcState r.target s.power.refurb.toNat →
      exec (.lifeCycleChange r) s = .next s) ∧
    ((s.ctlCore 6).loaded = true → s.authentic r = true → Allowed s.power.lcState r.target s.power.refurb.toNat →
      ∃ t : State, exec (.lifeCycleChange r) s = .next t ∧ OnlyHostKept s t ∧ t.power.state = 0 ∧ t.power.training = [] ∧
        t.power.lcState = r.target ∧ t.power.refurb = s.power.refurb + (if s.power.lcState = 2 ∧ r.target = 1 then 1 else 0))

/-- 01 R22-R26, R31. The model's own choices in it: logs 5, 52, 77, 78, 80. -/
def BootGoesByPhases : Prop :=
  (∀ (s : State) (b : BootStep), (s.power.state ≠ 0 ∨ 8 ≤ s.power.phase.toNat) → exec (.bootPhaseComplete b) s = .next s) ∧
  (∀ s : State, s.power.state = 0 → s.power.phase.toNat < 8 → let n := s.power.phase.toNat
    let fails (b : BootStep) (c : BitVec 8) : Prop :=
      exec (.bootPhaseComplete b) s = .next { s with power := { s.power with phase := c } }
    let passes (b : BootStep) (f : State → Prop) : Prop :=
      ∃ t : State, exec (.bootPhaseComplete b) s = .next t ∧ t.power.phase = s.power.phase + 1 ∧ (n ≠ 7 → t.power.state = 0) ∧ f t
    (n = 0 → passes .advance fun t => t.mem = s.mem) ∧
    (n = 1 → ∀ i, (s.verifies i = false → fails (.firstStage i) 0xF1) ∧ (s.verifies i = true → s.power.meas.length = 16 →
      passes (.firstStage i) fun t => t.mem = s.mem ∧ listGet 0 t.power.meas 0 = extended (listGet 0 s.power.meas 0) (digestOf i.bytes) ∧
        listGet 0 t.power.meas 5 = extended (listGet 0 s.power.meas 5) s.power.fuseDigest)) ∧
    (n = 2 → ∀ i a b c : SignedImage, ((∃ x ∈ [i, a, b, c], s.verifies x = false) → fails (.swearos i a b c) 0xF2) ∧
      ((∀ x ∈ [i, a, b, c], s.verifies x = true) → s.power.meas.length = 16 → passes (.swearos i a b c) fun t =>
        (∀ k < 4, listGet 0 t.power.meas (k + 1) = extended (listGet 0 s.power.meas (k + 1)) (digestOf (listGet i [i, a, b, c] k).bytes)) ∧
        (t.ctlCore 6).loaded = true ∧ ∀ o < 2 ^ 18, (t.readByte ⟨.inst 6, o⟩ = listGet 0 i.bytes o) ∧
          ∀ m < 6, t.readByte ⟨.inst m, o⟩ = listGet 0 (listGet i [a, b, c] (m / 2)).bytes o)) ∧
    (n = 3 ∨ n = 4 → ∀ temp runs, runs.map (·.iface) = phaseInterfaces n →
      ((∃ r ∈ runs, s.power.trains temp r = false) → fails (.train temp runs) 0xF3) ∧
      ((∀ r ∈ runs, s.power.trains temp r = true) → passes (.train temp runs) fun t => t.mem = s.mem ∧
        (t.power.trained = true ↔ n = 4 ∧ t.power.retrained = false) ∧ ∀ r ∈ runs,
          (∀ v, s.power.stored temp r = some v → (r.iface, v) ∈ t.power.inUse) ∧
          (s.power.stored temp r = none → t.power.retrained = true ∧ ∀ v, r.full = some v → (r.iface, v) ∈ t.power.inUse ∧
            ∃ x, (r.iface, x) ∈ t.power.training ∧ x.values = v ∧ TrainingRecord.valid x r.found temp = true))) ∧
    (n = 5 → ∀ needs, passes (.margins needs) fun t => t.mem = s.mem ∧ Planned s t needs) ∧
    (n = 6 → passes .advance fun t => OnlyHostKept s t ∧ ∀ c < 7, ∀ o < 2 ^ 64, t.readByte ⟨.inst c, o⟩ = s.readByte ⟨.inst c, o⟩) ∧
    (n = 7 → passes .advance fun t => t.power.state = if s.power.lcState = 3 then 5 else 1)) ∧
  ∀ s : State, exec .pcieConfigRequest s = .next { s with sent := s.sent ++ [.config
    (decide (s.power.state = 0 ∧ (s.power.phase.toNat ≤ 2 ∨ s.power.phase = 0xF1 ∨ s.power.phase = 0xF2)))] }

/-- 01 R26, R27. The model's own choices in it: logs 29, 56. -/
def MeasurementsAndAnswers : Prop :=
  (∀ (s : State) (n : BitVec 4) (d : BitVec 512),
    (n.toNat < 8 ∨ (s.ctlCore 6).loaded = false → exec (.measurementRequest n d) s = .next s) ∧
    (8 ≤ n.toNat → (s.ctlCore 6).loaded = true → exec (.measurementRequest n d) s = .next { s with power := { s.power with
      meas := listSet s.power.meas n.toNat (BitVec.ofNat 512 (recN (shake256 (leB 64 (listGet 0 s.power.meas n.toNat).toNat ++ leB 64 d.toNat) 64) 0 64)) } })) ∧
  ∀ (s : State) (r : SpdmRequest), ∃ a, exec (.spdmRequest r) s = .next { s with sent := s.sent ++ [.spdm a] } ∧
    (s.pf.secDead = true → a = .unspecified) ∧ (s.pf.secDead = false → (s.ctlCore 6).loaded = false → a = .busy) ∧
    (s.pf.secDead = false → (s.ctlCore 6).loaded = true → (r = .other → a = .unsupported) ∧
      (∀ n, r = .getMeasurements n → if 1 ≤ n ∧ n ≤ 16 then ∃ x, a = .response (leB 64 (listGet 0 s.power.meas (n - 1)).toNat) (some x)
        else a = .unsupported) ∧
      (r = .challenge → ∃ bs x, a = .response bs (some x)) ∧
      (r = .getVersion ∨ r = .getCapabilities ∨ r = .negotiateAlgorithms ∨ r = .getDigests ∨ r = .getCertificate → ∃ bs, a = .response bs none))

/-- 01 R17, R28-R31. The model's own choices in it: logs 43, 53, 54, 79, 80. -/
def BankingKeepsMemory : Prop :=
  let quiet (s : State) : Prop := s.entryWaits = false ∧ (∀ e ∈ s.vds, (s.vd e.1).ckRun = none) ∧ ∀ e ∈ s.cores, (s.core e.1).wc = []
  (∀ s : State, s.power.state ≠ 1 → exec .enterBanked s = .next s) ∧
  (∀ s : State, s.power.state = 1 → quiet s → ∃ t : State,
    exec .enterBanked s = .next t ∧ t.power = { s.power with state := 2, exitRecorded := false } ∧ t.mem = s.mem ∧
    ∀ g, (s.group g).residence = .resident → (s.group g).doomed = none →
      ((s.group g).halt = none → (t.group g).halt = if (s.launchOf g).shpc = 0 ∨ (s.group g).warps.any Warp.inSliceHandler = true then
        some (.saving false false) else some (.slice false [])) ∧
      ∀ b, (s.group g).halt = some (.trap b) → if (s.launchOf g).shpc = 0 then (t.group g).halt = some (.saving false false)
        else (t.group g).halt = some (.trap b) ∧ (t.group g).sliceDue = true) ∧
  (∀ s : State, (s.power.state = 3 → exec .leaveBanked s = .next { s with power := { s.power with state := 4 } }) ∧
    (s.power.state = 2 → exec .leaveBanked s = .next { s with power := { s.power with exitRecorded := true } }) ∧
    (s.power.state ≠ 2 → s.power.state ≠ 3 → exec .leaveBanked s = .next s)) ∧
  (∀ s : State, s.entryWaits = true ∨ s.power.state ≠ 2 → exec .bankedEntryComplete s = .next s) ∧
  (∀ s : State, s.power.state = 2 → quiet s → (∀ e ∈ s.groups, (s.group e.1).residence ≠ .resident) → (∀ e ∈ s.groups, e.2.residence ≠ .resident) →
    s.remote = [] → ∃ t : State, exec .bankedEntryComplete s = .next t ∧
      t.power.state = (if s.power.exitRecorded then 4 else 3) ∧ t.power.exitRecorded = false ∧ t.power.bankcnt = counted s.power.bankcnt ∧
      t.mem = s.mem ∧ t.groups = s.groups ∧ t.keys = s.keys ∧ t.power.inUse = s.power.inUse ∧ (∀ c < 6, (t.ctlCore c).halted = true) ∧
      (∀ e ∈ t.stations, e.2.state = .down ∧ e.2.channels = []) ∧ ∀ e ∈ t.cores, e.2.l1 = []) ∧
  ∀ (s : State) (needs : List (Nat × Nat)),
    (s.power.state ≠ 4 → exec (.bankedExitComplete needs) s = .next s) ∧
    (s.power.state = 4 → ∃ t : State, exec (.bankedExitComplete needs) s = .next t ∧ t.power.state = 1 ∧ Planned s t needs ∧
      t.mem = s.mem ∧ t.pairs = s.pairs ∧
      (∀ n ∈ s.power.upAtEntry, (∃ v, (Interface.station n, v) ∈ s.power.inUse) → (t.station n).state = .up) ∧
      ∀ c < 6, (s.ctlCore c).loaded = true → (s.pair (c / 2)).lost = false → (t.ctlCore c).pc = 0 ∧ (t.ctlCore c).halted = false)

/-- 01 R21, R32, R33: the cap throttles in the next window when the power of this one exceeds it. -/
def PowerAndWear : Prop :=
  (∀ (s : State) (w : Nat), exec (.powerWindowEnd w) s = .next { s with power := { s.power with
    capping := s.power.capEn && decide (s.power.capW.toNat * 10 < w) } }) ∧
  (∀ (s : State) (d : Int), ∃ t : State, exec (.thermalSample d) s = .next t ∧ t = { s with power := t.power } ∧
    (s.power.thMin = none → t.power = { s.power with thMin := some d }) ∧
    (∀ lo, s.power.thMin = some lo → s.power.thMax = none →
      t.power = if lo + 40 ≤ d then { s.power with thMax := some d } else { s.power with thMin := some (min lo d) }) ∧
    (∀ lo hi, s.power.thMin = some lo → s.power.thMax = some hi →
      t.power = if d ≤ hi - 40 then { s.power with thcyc := counted s.power.thcyc, thMin := some d, thMax := none }
        else { s.power with thMax := some (max hi d) })) ∧
  ∀ s : State, exec .powerOnHour s = .next { s with power := { s.power with ponhrs := counted s.power.ponhrs } } ∧
    exec .hbmRefreshRaise s = .next { s with power := { s.power with hbmesc := counted s.power.hbmesc } }

/-- 19 R421, R430-R432: a late heartbeat of a running active core is a machine check of code 4. The model's own choices in it:
logs 51, 52, 77. -/
def ControlCoresFailOver : Prop :=
  (∀ (s : State) (c : Nat), c < 6 →
    ((s.ctlCore c).active = true → (s.ctlCore c).halted = false → ∃ t : State, exec (.heartbeatExpire c) s = .next t ∧
      (t.ctlCore c).halted = true ∧ (t.pair (c / 2)).mcause = 4 ∧ (t.pair (c / 2)).mcpeer = 4 ∧ t.mem = s.mem ∧
      ((s.pair (c / 2)).standby = true → (t.pair (c / 2)).takeover = some c) ∧
      ((s.pair (c / 2)).standby = false → (t.pair (c / 2)).lost = true)) ∧
    ((s.ctlCore c).active = false ∨ (s.ctlCore c).halted = true → exec (.heartbeatExpire c) s = .next s)) ∧
  (∀ (s : State) (p c : Nat), p < 3 → (c = 2 * p ∨ c = 2 * p + 1) → (s.pair p).takeover = some c → ∃ t : State,
    exec (.takeoverHandover p) s = .next t ∧ (t.pair p).takeover = none ∧ t.mem = s.mem ∧
    ((s.pair p).standby = false → (t.pair p).lost = true) ∧
    ((s.pair p).standby = true → (t.pair p).taken = true ∧ (t.pair p).standby = false ∧ (t.ctlCore c).active = false ∧
      (let peer := if c = 2 * p then 2 * p + 1 else 2 * p
       (t.ctlCore peer).active = true ∧ (t.ctlCore peer).pendTake = true ∧ (t.pair p).acore = decide (peer % 2 = 1)) ∧
      t.pf.takeovers = (if s.pf.takeovers = 255 then 255 else s.pf.takeovers + 1) ∧
      (p = 0 → ∀ e ∈ s.queues, e.2.latch ≠ e.2.tail → ∃ x, (e.1, x) ∈ t.queues ∧ x = { e.2 with kick := true }))) ∧
  (∀ (s : State) (p : Nat), (s.pair p).takeover = none → exec (.takeoverHandover p) s = .next s) ∧
  (∀ s : State, ∃ t : State, exec .controlTimerTick s = .next t ∧ (∀ c < 7, t.ctlCore c = { s.ctlCore c with pendTimer := true }) ∧
    t = { s with ctl := t.ctl }) ∧
  (∀ (s : State) (c : Nat) (im : List Byte), c < 6 → (s.ctlCore c).loaded = false → (s.ctlCore c).active = false →
    (s.pair (c / 2)).lost = false → (s.pair (c / 2)).reloads ≠ 2 → (s.ctlCore 6).loaded = true →
      let same : Prop := extended 0 (digestOf im) = listGet 0 s.power.meas (2 + c / 2)
      (same → ∃ t : State, exec (.coreReloadComplete c im true) s = .next t ∧ (t.pair (c / 2)).standby = true ∧ (t.pair (c / 2)).reloads = 0 ∧
        (t.ctlCore c).loaded = true ∧ (t.ctlCore c).halted = false ∧ (t.ctlCore c).pc = 0 ∧ (t.ctlCore c).active = false) ∧
      (∀ works, ¬ same ∨ works = false → exec (.coreReloadComplete c im works) s = .next (s.setPair (c / 2) { s.pair (c / 2) with reloads := (s.pair (c / 2)).reloads + 1 }))) ∧
  ∀ (s : State) (i : SignedImage), (s.ctlCore 6).loaded = false → s.pf.secDead = false →
    (s.verifies i = false → exec (.securityCoreRestart i) s = .next { s with pf := { s.pf with secDead := true } }) ∧
    (s.verifies i = true → ∃ t : State, exec (.securityCoreRestart i) s = .next t ∧ (t.ctlCore 6).loaded = true ∧
      (t.ctlCore 6).halted = false ∧ (t.ctlCore 6).pc = 0 ∧ t.power = s.power ∧ t.pf = s.pf)

end Sys2Proof.Claims

/-- Package reset, the boot phases and the banked state. The model's own choices in it: logs 4, 5, 43, 52, 53, 54, 55, 77, 78,
79, 80. -/
def Obligations.ResetBootAndBanking : Prop :=
  PackageResets ∧ BootGoesByPhases ∧ BankingKeepsMemory

/-- Measurements, the power cap, wear counters and takeovers. The model's own choices in it: logs 29, 51, 52, 56, 77. -/
def Obligations.UpkeepAndControl : Prop :=
  MeasurementsAndAnswers ∧ PowerAndWear ∧ ControlCoresFailOver

namespace Sys2Proof.Claims

/-! The fault queue and the paging engine (12 R305-R317). -/

/-- 12 R306, R307, R309: FQCFG enables the queue with counters of 0 when its size is 6 to 16 and its base is set, and else sets
CFGERR. The model's own choices in it: log 47. -/
def FaultQueueRegisters : Prop :=
  ∀ (s : State) (n : Nat) (w : W32), let v := s.vd n
    (v.responds = false → exec (.faultQueueEnable n w) s = .next s ∧ exec (.fqconsWrite n w) s = .next s ∧
      ∀ b, exec (.fqrespAbortStore n b) s = .next s) ∧
    (v.responds = true →
      (v.fqEn = true → exec (.faultQueueEnable n w) s = .next s) ∧
      (v.fqEn = false →
        let size : BitVec 5 := BitVec.ofNat 5 (w.toNat % 32)
        let fits : Prop := 6 ≤ w.toNat % 32 ∧ w.toNat % 32 ≤ 16 ∧ v.fqBase.toNat / 4096 % 2 ^ 40 ≠ 0
        (fits → exec (.faultQueueEnable n w) s = .next (s.setVd n { v with fqEn := true, fqSize := size, fqProd := 0, fqCons := 0 })) ∧
        (¬ fits → exec (.faultQueueEnable n w) s = .next (s.setVd n { v with fqSize := size, fqCfgErr := true }))) ∧
      exec (.fqconsWrite n w) s = .next (if (v.fqProd - w).toNat ≤ 2 ^ v.fqSize.toNat then s.setVd n { v with fqCons := w } else s) ∧
      ∀ b, exec (.fqrespAbortStore n b) s = .next (s.setVd n { v with fqAbort := b }))

/-- 12 R309, R313: an answer stores ABORT. The model's own choices in it: log 49. -/
def FaultAnswers : Prop :=
  ∀ (s : State) (n : Nat) (j : W32), let v := s.vd n
    (v.responds = false → exec (.faultRetry n j) s = .next s ∧ exec (.faultAbort n j) s = .next s) ∧
    (v.responds = true →
      let left (b : Bool) (f : FaultRec) : State := s.setVd n { v with
        fqAbort := b
        faults := v.faults.filter fun g => !(g.owner == f.owner && g.words == f.words && g.index == f.index) }
      ((∀ f ∈ v.faults, ¬ (f.index = some j.toNat ∧ f.engine = false ∧ f.answered = false)) →
        exec (.faultRetry n j) s = .next (s.setVd n { v with fqAbort := false }) ∧
        exec (.faultAbort n j) s = .next (s.setVd n { v with fqAbort := true })) ∧
      ∀ f, v.answerable j.toNat = some f →
        (∀ g w, f.owner = .fetch g w → (∃ t : State, exec (.faultRetry n j) s = .next t ∧ (t.vd n).faults = ((left false f).vd n).faults ∧
            (t.vd n).fqAbort = false ∧ t.groups = s.groups ∧ t.mem = s.mem) ∧
          ∃ t : State, exec (.faultAbort n j) s = .next t ∧ t.mem = s.mem ∧ (t.vd n).faults = ((left true f).vd n).faults ∧
            ((s.launchOf g).thpc = 0 → ((t.group g).doomed.map (·.1)) = some ((s.group g).doomed.getD (.permission, 0)).1)) ∧
        (∀ g op c o, f.owner = .agent (.stoker g) op → op ≠ 0 → (s.group g).residence = .resident → s.op? (.stoker g) op = some o →
          o.work = .copy c → ∃ t : State, exec (.faultRetry n j) s = .next t ∧ t.mem = s.mem ∧
            ∀ y ∈ (t.agent (.stoker g)).ops, y.id = op → y.work = .copy { c with parked := c.parked.filter fun p =>
              !(p.page == f.page && p.phys == f.phys) }))

/-- 12 R308, R312: the first record that waits is written to the ring, its 32 bytes at the producer's slot with the phase of the
lap, and the producer counter moves on. -/
def FaultsArePosted : Prop :=
  ∀ (s : State) (n : Nat), let v := s.vd n
    ((∀ f ∈ v.faults, f.index ≠ none) ∨ v.state = 3 ∨ s.posting n = true → exec (.faultPostResume n) s = .next s) ∧
    ∀ f, v.faults.find? (fun x => x.index.isNone) = some f → v.state ≠ 3 → s.posting n = false →
      (v.fqEn = true → (v.fqProd - v.fqCons).toNat = 2 ^ v.fqSize.toNat → exec (.faultPostResume n) s = .next s) ∧
      (v.fqEn = true → (v.fqProd - v.fqCons).toNat ≠ 2 ^ v.fqSize.toNat → ∀ l u, s.stage2 n (ringSlot v) Need.write = (.ok l, u) →
        l.space = .host ∨ (l.space = .hbm ∧ v.hbmHeld = false ∧ Untracked u ((List.range 32).map l.plus)) → f.words.length = 4 → ∃ t : State, exec (.faultPostResume n) s = .next t ∧
        (t.vd n).fqProd = (u.vd n).fqProd + 1 ∧ (∀ g ∈ (t.vd n).faults, g.words = f.words → g.owner = f.owner → g.index ≠ none) ∧
        ∀ i < 32, t.readByte (l.plus i) = listGet 0 (((listGet 0 f.words 0 |||
          (if v.fqProd.toNat / 2 ^ v.fqSize.toNat % 2 = 0 then 1 else 0)) :: f.words.drop 1).flatMap bytesOf) i) ∧
      (v.fqEn = true → f.engine = true → (s.ringWrite n).1 = .fault → ∃ t : State, exec (.faultPostResume n) s = .next t ∧
        t.mem = s.mem ∧ (t.vd n).fqEn = false ∧ (t.vd n).fqRingErr = true ∧ (t.vd n).fqProd = v.fqProd) ∧
      (v.fqEn = false → f.engine = true → ∃ t : State, exec (.faultPostResume n) s = .next t ∧ t.mem = s.mem ∧
        ∀ g ∈ (t.vd n).faults, g.words = f.words → g.owner = f.owner → g.index ≠ none) ∧
      (v.fqEn = false → f.engine = false → ∃ t : State, exec (.faultPostResume n) s = .next t ∧ (t.vd n).fqAborted = true)

/-- 12 R314, R317: the paging engine brings in an absent page that something waits for, into a free frame of the VD's, and no
other. The model's own choices in it: logs 25, 49. -/
def PagesAreBroughtIn : Prop :=
  (∀ (s : State) (n page : Nat), let v := s.vd n
    (v.guest = true ∨ v.works = false ∨ v.hbmHeld = true ∨ s.pageAbsent n page = false ∨ s.pageWanted n page = false ∨ s.bringIn n page = none →
      exec (.pageMigrationComplete n page) s = .next s) ∧
    (v.guest = false → v.works = true → v.hbmHeld = false → s.pageAbsent n page = true → s.pageWanted n page = true → v.ahead = 0 →
      s.framesOf (.vd n) < v.hbmQuota * 512 → ∀ f, s.findRun (s.hardPart n) 1 1 = some f → s.bringIn n page ≠ none →
      ∃ t : State, exec (.pageMigrationComplete n page) s = .next t ∧ Table.look t.frames f = some ⟨1, .vd n, page⟩)) ∧
  ∀ (s : State) (n page : Nat), (∀ r ∈ s.heldRequests, ¬ (r.vd = n ∧ r.addr / 4096 = page)) →
    ((∀ f ∈ (s.vd n).faults, f.engine = true → f.answered = false → f.page = page → s.resolved n f = false) →
      exec (.parkedReplay n page) s = .next s) ∧
    ∀ f g op c o, ((s.vd n).faults.filter fun f => f.engine && !f.answered && f.page == page && s.resolved n f) = [f] →
      f.owner = .agent (.stoker g) op → op ≠ 0 → (s.group g).residence = .resident → s.op? (.stoker g) op = some o → o.work = .copy c →
      ∃ t : State, exec (.parkedReplay n page) s = .next t ∧ t.mem = s.mem ∧ f ∉ (t.vd n).faults ∧
        ∀ y ∈ (t.agent (.stoker g)).ops, y.id = op → y.work = .copy { c with parked := c.parked.filter fun p =>
          !(p.page == f.page && p.phys == f.phys) }

end Sys2Proof.Claims

/-- Register writes change the fields they name under the states that permit them. The model's own choices in it: logs 27, 47,
60, 90. -/
def Obligations.DeviceRegisters : Prop :=
  QueueRegisters ∧ PartitionRegisters ∧ RegisterWrites ∧ FaultQueueRegisters

/-- Fault records are posted and answered, and the paging engine brings pages in. The model's own choices in it: logs 25, 49. -/
def Obligations.FaultsAreAnswered : Prop :=
  FaultAnswers ∧ FaultsArePosted ∧ PagesAreBroughtIn

namespace Sys2Proof.Claims

/-! Checkpoints and restore (18 R410-R419). -/

/-- The operation that a GO of CKCTL begins, for queue `q` of the VD. -/
def run0 (s : State) (n : Nat) (restore : Bool) (w : W32) (parts : List (Nat × List CkByte)) : CkRun :=
  let v := s.vd n
  let q := w.toNat / 2 ^ 16 % 2 ^ 6
  let u := w.toNat / 2 ^ 12 % 2 ^ 4
  ⟨restore, 0, v.ckGen.toNat, if q < v.qcount then (s.queue (v.qfirst + q)).root else 0, q,
    if v.expert = true ∧ u ≤ 4 then 2 ^ (u + 16) else 2 ^ 20, [], [], [], parts.foldl (fun t p => Table.put p.1 p.2 t) [], 0⟩

/-- The VD with the fields of CKCTL that a write sets. -/
def fields (v : Vd) (restore : Bool) (w : W32) : Vd := { v with
  ckOp := restore
  ckQueue := BitVec.ofNat 6 (w.toNat / 2 ^ 16 % 2 ^ 6)
  ckUsize := BitVec.ofNat 4 (w.toNat / 2 ^ 12 % 2 ^ 4) }

/-- 18 R410, R415, R418, R419: a GO of CKCTL sets its fields and begins a checkpoint or restore of its queue with the unit size
and the generation of the registers. The model's own choices in it: log 61. -/
def CheckpointsBegin : Prop :=
  ∀ (s : State) (n : Nat) (w : W32) (parts : List (Nat × List CkByte)) (restore : Bool), let v := s.vd n
    let i : Instr := if restore then .restore n w parts else .checkpoint n w
    let ps := if restore then parts else []
    (v.responds = false → exec i s = .next s) ∧
    (v.responds = true → v.ckBusy = true → exec i s = .next (s.setVd n (fields v restore w))) ∧
    (v.responds = true → v.ckBusy = false →
      let r := run0 s n restore w ps
      ((v.works = false → ∃ t : State, exec i s = .next t ∧ EndedWith t n 6 ∧ t.mem = s.mem) ∧
       (v.works = true → v.qcount ≤ r.queue → ∃ t : State, exec i s = .next t ∧ EndedWith t n 3 ∧ t.mem = s.mem) ∧
       (v.works = true → r.queue < v.qcount → ∃ u : State, exec i s = .next (u.ckAdvance n) ∧
         u.vd n = { fields v restore w with ckBusy := true, ckArmed := false, ckRun := some r } ∧ u = { s with vds := u.vds }))) ∧
  ∀ (s u : State) (n : Nat) (c : CkRun) (d : List Byte), (s.vd n).ckRun = some c → c.phase = 0 → s.ckDescriptor n c = (some d, u) →
    (u.vd n).ckRun = some c → c.leaves = [] →
    (ckValid c.restore d = false → EndedWith (s.ckAdvance n) n 1) ∧
    (ckValid c.restore d = true → ckPart d < 4096 + ckRows d c.unit * c.unit → EndedWith (s.ckAdvance n) n 2)

/-- 18 R415, R417, R419: once the CBW stores are complete the checkpoint is armed and reads its pages. The model's own choices
in it: log 61. -/
def CheckpointsEnd : Prop :=
  ∀ (s : State) (n : Nat),
    ((s.vd n).ckRun = none → exec (.checkpointArmed n) s = .next s ∧ (∀ b, exec (.checkpointCommit n b) s = .next s) ∧
      exec (.restoreComplete n) s = .next s) ∧
    ∀ c, (s.vd n).ckRun = some c →
      (s.roleStopped 1 = true → exec (.checkpointArmed n) s = .next s ∧ (∀ b, exec (.checkpointCommit n b) s = .next s) ∧
        exec (.restoreComplete n) s = .next s) ∧
      (s.roleStopped 1 = false →
        (c.restore = false → c.phase = 2 → ∃ u : State, exec (.checkpointArmed n) s = .next (u.ckCopy n) ∧
          u.vd n = { s.vd n with ckArmed := true, ckRun := some { c with phase := 3 } } ∧ u = { s with vds := u.vds }) ∧
        (c.restore = false → c.leaves = [] → ∃ t : State, exec (.checkpointCommit n false) s = .next t ∧ EndedWith t n 4 ∧ t.mem = s.mem) ∧
        (c.restore = false → s.ckSending n = false → c.phase = 5 → c.lines.length ≤ c.sent → c.leaves = [] → ∃ t : State,
          exec (.checkpointCommit n true) s = .next t ∧ EndedWith t n 0 ∧ t.mem = s.mem) ∧
        (c.restore = false → s.ckSending n = false → c.phase = 4 → c.lines.length ≤ c.sent → ∃ (t : State) (k : Nat),
          exec (.checkpointCommit n true) s = .next t ∧ k ≤ { c with phase := 5 }.lines.length ∧
          (t.vd n).ckRun = some { c with phase := 5, sent := k } ∧ t.mem = s.mem) ∧
        (c.restore = true → c.phase = 2 → s.ckSending n = false → c.leaves = [] → ∃ t : State, exec (.restoreComplete n) s = .next t ∧
          EndedWith t n 0 ∧ (t.vd n).ckGen = BitVec.ofNat 32 c.gen ∧ t.mem = s.mem))

/-! Remote requests and responses, stations and sealed channels (15 R357-R370). -/

/-- 15 R360, R362, R363, 03 R90: a request of a peer that is not admitted, or that demands sealing, is refused. The model's own
choices in it: log 63. -/
def RemoteRequestsAreServed : Prop :=
  ∀ (s : State) (r : RemoteRequest),
    let said (u : State) (y : RemoteReply) : State := { u with sent := u.sent ++ [.fabric r.station r.source (.reply r.tag y)] }
    let plain (u : State) : Prop := (u.channel r.station r.source).established = false
    (16 ≤ r.station → exec (.remoteRequest r) s = .next s) ∧
    (r.station < 16 → s.onlySealed r = true ∨ s.peerServed r.station r.vd r.source r.sourceVd = false → plain s →
      exec (.remoteRequest r) s = .next (said s .refused)) ∧
    (r.station < 16 → s.onlySealed r = false → s.peerServed r.station r.vd r.source r.sourceVd = true →
      (∀ l u n, r.kind = .read n → s.stage2 r.vd r.addr (requestNeed r.kind) = (.ok l, u) → l.space ≠ .fabric → plain u →
        exec (.remoteRequest r) s = .next ((said (if l.space = .hbm then u.meterHbm r.vd n else u)
          (.data (u.readBytes l n) (u.poisonOf l n))).meterLink r.vd (u.readBytes l n).length)) ∧
      (∀ l u bs p, r.kind = .write bs p → s.stage2 r.vd r.addr (requestNeed r.kind) = (.ok l, u) → l.space = .hbm ∨ l.space = .host →
        Untracked u ((List.range bs.length).map l.plus) → plain u → ∃ t : State, exec (.remoteRequest r) s = .next t ∧
          t.sent = u.sent ++ [.fabric r.station r.source (.reply r.tag .done)] ∧
          (∀ i b, listGet none bs i = some b → t.readByte (l.plus i) = b) ∧
          ∀ k : Loc, (∀ x y, k.space ≠ .window x y) → (∀ i, listGet none bs i ≠ none → k.key ≠ (l.plus i).key) →
            t.readByte k = u.readByte k) ∧
      (∀ st a tb u, s.stage2 r.vd r.addr (requestNeed r.kind) = (.error (.absent st a tb), u) → (s.vd r.vd).guest = false →
        exec (.remoteRequest r) s = .next { u with heldRequests := u.heldRequests ++ [r] }))

/-- 15 R364, R366: a reply to a request that is not outstanding does nothing. -/
def RemoteResponsesArrive : Prop :=
  ∀ (s : State) (id : Nat),
    (s.remote.find? (fun r => r.id == id) = none → (∀ y, exec (.remoteResponse id y) s = .next s) ∧
      exec (.remoteLoadTimeout id) s = .next s ∧ exec (.remoteWriteFailure id) s = .next s) ∧
    ∀ r, s.remote.find? (fun r => r.id == id) = some r → r.station ≠ 16 → r.sent = true →
      (∀ a op acc bs o m rs wt pk rm rd, r.use = .lane a op acc → s.op? a op = some o → o.work = .load m rs wt pk rm rd →
        m.act ≠ .fill → (∀ x ∈ s.remote, ∀ ac c p, x.use ≠ .failed a op ac c p) → ∃ t : State, exec (.remoteResponse id (.data bs none)) s = .next t ∧
          t.remote = s.remote.filter (fun x => x.id != id) ∧ t.mem = s.mem ∧
          ∀ y ∈ (t.agent a).ops, y.id = op → y.work = .load m (rs ++ laneRegs m acc bs) wt pk (rm.filter (· != id)) rd) ∧
      (∀ c a op o m rm, r.use = .write c [(a, op)] → s.op? a op = some o → o.work = .store m [] [] rm → ∃ t : State,
        exec (.remoteResponse id .done) s = .next t ∧ t.remote = s.remote.filter (fun x => x.id != id) ∧ t.mem = s.mem ∧
          ∀ y ∈ (t.agent a).ops, y.id = op → y.work = if rm.filter (· != id) = [] then .finished else .store m [] [] (rm.filter (· != id))) ∧
      (∀ c ws, r.use = .write c ws → exec (.remoteLoadTimeout id) s = .next s) ∧
      (∀ vd part pos, r.use = .engineRead (.checkpoint vd) part pos → exec (.remoteLoadTimeout id) s = .next ((s.dropRemote id).endCk vd 3)) ∧
      (∀ c ws g, r.use = .write c ws → ws ≠ [] → (∀ w ∈ ws, groupOf w.1 = some g) → (s.group g).residence = .resident → ∃ t : State,
        exec (.remoteWriteFailure id) s = .next t ∧ t.remote = s.remote.filter (fun x => x.id != id) ∧
          (t.group g).asyncHeld = (s.group g).asyncHeld ++ [⟨.async, causeWord .permission none 0 none, 0, 0, 0, 0,
            BitVec.ofNat 64 (2 ^ 63 + 2 ^ 42 * (r.vpeer % 1024) + r.addr / 64 % 2 ^ 36 * 16), none⟩])

/-- 15 R357, R362, R365, 16 R374: an entry of the write-combining buffer that is old leaves it as one write of its line, with
its byte mask and its poison, under the endpoint entry it was made under. -/
def EntriesAndStations : Prop :=
  (∀ (s : State) (c n : Nat), ((s.core c).wc.all fun e => e.id != n) → exec (.wcAgeFlush c n) s = .next s) ∧
  (∀ (s : State) (c n : Nat) (e : WcEntry), ((s.core c).wc.filter fun x => x.id == n) = [e] → (∀ y ∈ s.remote, y.id ≠ s.uid) →
    ∃ (t : State) (x : RemoteOut), exec (.wcAgeFlush c n) s = .next t ∧
      (t.core c).wc = ((s.core c).wc.filter fun x => x.id != n) ∧ t.remote = s.remote ++ [x] ∧ t.mem = s.mem ∧ x.id = s.uid ∧ x.vd = e.vd ∧
      x.vpeer = fabricPeer (e.line * 64) ∧ x.addr = fabricAddr (e.line * 64) ∧ x.peer = epPacc e.endpoint ∧ x.rvd = epRvd e.endpoint ∧
      x.sealed = epSealReq e.endpoint ∧ x.use = .write c e.writers ∧
      x.kind = .write ((List.range 64).map fun i => (Table.look e.bytes i).map (·.1)) (lowestProv (e.bytes.map (·.2.2)))) ∧
  ∀ (s : State) (n : Nat) (x : StationState),
    (16 ≤ n → exec (.stationStateChange n x) s = .next s) ∧
    (n < 16 → s.remote = [] → exec (.stationStateChange n x) s = .next (s.setStation n { s.station n with
      state := x
      channels := if x = .up then (s.station n).channels else [] }))

/-- 15 R367, R369, R370: keys in place at both ends start a channel anew, and requests that waited for it go. The model's own
choices in it: logs 50, 62. -/
def SealedChannels : Prop :=
  ∀ (s : State) (n p : Nat), let c := s.channel n p
    (exec (.channelSeal n p) s = .next (if s.pf.fabSeal = true ∧ (s.station n).state = .up ∧ (s.ctlCore 6).loaded = true then
      (s.setChannel n p { Channel.start with established := true }).resendAll else s)) ∧
    (c.established = false ∨ c.switchAt ≠ none ∨ c.open_ (.marker (c.sendSeq + 1)) = false → exec (.keyRollover n p) s = .next s) ∧
    (c.established = true → c.open_ (.marker (c.sendSeq + 1)) = true → c.waiting = [] → ∃ t : State, exec (.keyRollover n p) s = .next t ∧
      (let f : SentFlit := ⟨c.sendSeq, decide (c.sendGen % 2 = 1), .marker (c.sendSeq + 1), s.clk⟩
       t.sent = s.sent ++ [.flit n p f] ∧ t.channel n p = { c with
         sendSeq := c.sendSeq + 1
         unacked := c.unacked ++ [f]
         sealed := c.sealed + 1
         switchAt := some (c.sendSeq + 1) })) ∧
    (c.established = false ∨ (c.held = [] ∧ c.delivered = false) ∨ 2 ^ 32 ≤ c.sealed + 1 → exec (.sealedAckTimer n p) s = .next s) ∧
    (c.established = true → c.held = [] → c.delivered = true → c.sealed + 1 < 2 ^ 32 → ∃ t : State, exec (.sealedAckTimer n p) s = .next t ∧
      t.channel n p = { c with unreported := 0, delivered := false, ackSeq := c.ackSeq + 1, sealed := c.sealed + 1 } ∧
      (let b := c.recvSeq / 16 * 16
       t.sent = s.sent ++ [.flit n p ⟨2 ^ 63 + c.ackSeq, decide (c.sendGen % 2 = 1), .ack b (maskOf fun i => decide (b + i < c.recvSeq)), s.clk⟩])) ∧
    (c.unacked = [] → exec (.flitResendTimeout n p) s = .next s) ∧
    (∀ f, c.unacked = [f] → ∃ t : State, exec (.flitResendTimeout n p) s = .next t ∧ t.sent = s.sent ++ [.flit n p { f with sentAt := s.clk }] ∧
      (t.station n).resent = (s.station n).resent + 1 ∧ (t.channel n p).unacked = [{ f with sentAt := s.clk }]) ∧
    (∀ f, c.established = false → exec (.sealedFlitReceive n p f) s = .next s) ∧
    (∀ (f : Flit) (b : FlitBody), f.body = b → (∀ x m, b ≠ .ack x m) → c.established = true →
      ((f.seq < c.recvSeq ∨ c.recvSeq + 64 ≤ f.seq) → exec (.sealedFlitReceive n p f) s = .next s) ∧
      (c.recvSeq ≤ f.seq → f.seq < c.recvSeq + 64 → Table.look c.held f.seq = none → (f.genuine = false ∨ c.genOk f = false) →
        Table.get 0 c.fails f.seq < 15 → ∃ t : State, exec (.sealedFlitReceive n p f) s = .next t ∧
          (t.channel n p).recvSeq = c.recvSeq ∧ Table.get 0 (t.channel n p).fails f.seq = Table.get 0 c.fails f.seq + 1 ∧
          (t.station n).authFail = (if (s.station n).authFail = 0xFFFF then 0xFFFF else (s.station n).authFail + 1)) ∧
      (∀ k, b = .marker k → f.seq = c.recvSeq → f.genuine = true → c.genOk f = true → c.held = [] → c.unreported < 15 → c.recvSeq + 1 < k →
        ∃ t : State, exec (.sealedFlitReceive n p f) s = .next t ∧ (t.channel n p).recvSeq = c.recvSeq + 1 ∧
          (t.channel n p).recvN = some k ∧ (t.channel n p).delivered = true ∧ t.mem = s.mem)) ∧
    (∀ (f : Flit) (m : BitVec 64) (b : Nat), f.body = .ack b m → f.genuine = true → 2 ^ 63 ≤ f.seq → c.established = true → m = 0 →
      c.waiting = [] → c.switchAt = none → ∃ t : State, exec (.sealedFlitReceive n p f) s = .next t ∧ t.sent = s.sent ∧
        (t.channel n p).unacked = c.unacked.filter fun x => decide (b ≤ x.seq))

end Sys2Proof.Claims

/-- Remote requests, responses, stations and sealed channels. The model's own choices in it: logs 50, 62, 63. -/
def Obligations.FabricTraffic : Prop :=
  RemoteRequestsAreServed ∧ RemoteResponsesArrive ∧ EntriesAndStations ∧ SealedChannels

namespace Sys2Proof.Claims

/-! The machine as a whole: encodings, checks, steps, the fused idiom, canonical form and reset. -/

/-- What each agent may execute, by class and function (06 R169). -/
inductive May : AgentId → Nat → Nat → Prop
  | warp {g w c f} (h : c ≠ 0x1C ∧ c ≠ 0x1E) (h0 : c = 0 → f ≠ 9 ∧ f ≠ 10) : May (.warp g w) c f
  | stokerScalar {g c f} (h : c ≤ 4) (h0 : c = 0 → f ≠ 5 ∧ f ≠ 6 ∧ f ≠ 9 ∧ f ≠ 10) (h3 : c = 3 → f ≠ 8) : May (.stoker g) c f
  | stokerSync {g f} (h : f ≤ 4 ∨ f = 7) : May (.stoker g) 0x12 f
  | stokerQue {g f} (h : f = 0 ∨ f = 2 ∨ f = 3) : May (.stoker g) 0x13 f
  | stokerOwn {g c f} (h : c = 0x1C ∨ c = 0x1D) : May (.stoker g) c f
  | ctlScalar {n c f} (h : c ≤ 4) (h0 : c = 0 → f ≠ 2 ∧ f ≠ 6 ∧ f ≠ 8) (h3 : c = 3 → f ≠ 8) : May (.ctl n) c f
  | ctlOwn {n f} : May (.ctl n) 0x1E f

/-- The roles that may use a CTLC function: 0 scheduler, 1 lifecycle, 2 fault; for VDCMD by its operation (19 R425, R428). -/
inductive RoleMay : Nat → Nat → Nat → Prop
  | scan {op} : RoleMay 0 0 op
  | journal {r f op} (hr : r < 3) (h : f = 1 ∨ f = 2 ∨ f = 4) : RoleMay r f op
  | irq {f op} (h : f = 5 ∨ f = 6) : RoleMay 0 f op
  | reads {r op} (hr : r < 3) (h : op = 0 ∨ op = 2 ∨ op = 4) : RoleMay r 3 op
  | writes {op} (h : op = 1 ∨ op = 3 ∨ op = 5) : RoleMay 1 3 op
  | start {op} (h : op = 6 ∨ op = 7) : RoleMay 0 3 op
  | kill : RoleMay 2 3 8

/-- The state in which an agent issues at a step: the clock has counted, and the agent is the one that executes. -/
def issuing (s : State) (a : AgentId) (rest : List Sched) : State := { s with clk := s.clk + 1, inputs := rest, cur := a }

end Sys2Proof.Claims

/-- 06 R148-R166: for every well-formed instruction that has an encoding, the bytes of its encoding, whatever follows them,
decode to it. -/
def Obligations.EncodeThenDecode : Prop :=
  ∀ (i : Instr) (n : Nat) (w : BitVec 64) (rest : List Byte), i.wf = true → encode i = some (n, w) →
    decodeBytes (leBytes n w.toNat ++ rest) = .ok (i, rest)

namespace Sys2Proof.Claims

/-- 06 R148, R152-R168: what the decoder accepts is well formed, its length is that of its first parcel's low bits, and it is an
instruction with an encoding. -/
def DecodingIsSound : Prop :=
  ∀ (bs rest : List Byte) (i : Instr), decodeBytes bs = .ok (i, rest) → i.wf = true ∧ ∃ f, i.form = some f ∧
    f.len = instrLength (BitVec.ofNat 16 (leNat (bs.take 2))) ∧ rest = bs.drop f.len

/-- 06 R168. -/
def ChecksComeFirst : Prop :=
  ∀ (i : Instr) (f : Form) (s : State), i.form = some f →
    (∀ c, s.decodeCause f = some c → exec i s = .next (s.trap c)) ∧
    ∀ p, s.decodeCause f = none → s.scalarPoison f = some p →
      exec i s = .next (s.trapWith .poison none (some p) s.issueMask 0 0 none)

/-- 06 R168, R169. -/
def AgentsAndRoles : Prop :=
  ∀ (s : State) (f : Form),
    (legalForm f = false → s.decodeCause f = some .illegal) ∧
    (legalForm f = true → f.cls ≠ 0 → (∀ g w, s.cur = .warp g w → vectorsOk f (s.group g).vregs = true) →
      (¬ May s.cur f.cls.toNat f.fn → s.decodeCause f = some .wrongAgent) ∧
      (May s.cur f.cls.toNat f.fn → f.cls ≠ 0x1E → s.decodeCause f = none) ∧
      ∀ c o, s.cur = .ctl c → f.cls = 0x1E → f.lay = .s o →
        (RoleMay (c / 2) f.fn o.cw.toNat → s.decodeCause f = none) ∧ (¬ RoleMay (c / 2) f.fn o.cw.toNat → s.decodeCause f = some .priv))

/-- 05 R145. -/
def ConditionsAndCounts : Prop :=
  (∀ a b : Word, compareS 0 a b = decide (a = b) ∧ compareS 1 a b = decide (a ≠ b) ∧ compareS 2 a b = decide (a.toInt < b.toInt) ∧
    compareS 3 a b = decide (a.toInt ≤ b.toInt) ∧ compareS 4 a b = decide (b.toInt < a.toInt) ∧ compareS 5 a b = decide (b.toInt ≤ a.toInt) ∧
    compareS 6 a b = decide (a.toNat < b.toNat) ∧ compareS 7 a b = decide (a.toNat ≤ b.toNat) ∧ compareS 8 a b = decide (b.toNat < a.toNat) ∧
    compareS 9 a b = decide (b.toNat ≤ a.toNat) ∧ compareB 0 a b = decide (a = b) ∧ compareB 1 a b = decide (a ≠ b) ∧
    compareB 2 a b = decide (a.toInt < b.toInt) ∧ compareB 3 a b = decide (b.toInt ≤ a.toInt) ∧ compareB 4 a b = decide (a.toNat < b.toNat) ∧
    compareB 5 a b = decide (b.toNat ≤ a.toNat)) ∧
  (leadingZeros (0 : Word) = 64 ∧ firstSet (0 : Word) = 64 ∧ popCount (0 : Word) = 0) ∧
  ∀ a : Word, (∀ i < 64, a.getLsbD i = true → (∀ j, i < j → j < 64 → a.getLsbD j = false) → leadingZeros a = 63 - i) ∧
    (∀ i < 64, a.getLsbD i = true → (∀ j < i, a.getLsbD j = false) → firstSet a = i) ∧
    popCount a = ((List.range 64).filter fun i => a.getLsbD i).length ∧ ∀ i < 64, (bitReverse a).getLsbD i = a.getLsbD (63 - i)

end Sys2Proof.Claims

/-- 06 R148, R149, R168, R170; 19 R420: the next step of an agent that can issue executes the instruction that its fetched bytes
decode to, or the fused idiom that stands there, and then notes whether it has issued (04 R112, R126; 16 R376), which
changes only the agent's stall note and skid count; bytes that are no instruction trap ILLEGAL, a fetch that fails traps
with its cause, and one that meets an absent page waits for it. A control core's bytes are those of its SRAM at its PC. The
model's own choices in it: logs 12, 13, 85. -/
def Obligations.StepsRunWhatDecodes : Prop :=
  (∀ (s : State) (a : AgentId) (rest : List Sched), s.inputs = .issue a :: rest → let t := issuing s a rest
    (t.canIssue a = false → step s = .next t) ∧
    (t.canIssue a = true → ∀ u,
      (∀ bs, t.fetch a (t.pcOf a) = (.bytes bs, u) →
        (∀ e, decodeBytes bs = .error e → step s = .next (u.trap .illegal)) ∧
        ∀ i r f j v, decodeBytes bs = .ok (i, r) → i.form = some f →
          (u.fusedAt a f = none ∧ j = i) ∨ (∃ o, u.fusedAt a f = some o ∧ j = .fusedSoftmax o) → exec j u = .next v →
          step s = .next (v.noteIssue a (u.issued v a i.form) (u.issued v a i.form && (v.group ((groupOf a).getD 0)).halt.isSome))) ∧
      (∀ c p, t.fetch a (t.pcOf a) = (.cause c p, u) → step s = .next (u.trapWith c none p u.headMask 0 0 none)) ∧
      ∀ f, t.fetch a (t.pcOf a) = (.absent f, u) → step s = .next (u.fetchWait f))) ∧
  (∀ (s : State) (a : AgentId) (d k : Bool), let t := s.noteIssue a d k
    t.mem = s.mem ∧ t.cur = s.cur ∧ (∀ b, t.pcOf b = s.pcOf b) ∧ ∀ b, ∃ x n, t.agent b = { s.agent b with stalled := x, skid := n }) ∧
  (∀ (s : State) (e : Instr) (rest : List Sched), s.inputs = .event e :: rest →
    let t := { s with clk := s.clk + 1, inputs := rest }
    step s = if t.takes e then exec e t else .next t) ∧
  (∀ (s : State) (e : Upset) (rest : List Sched), s.inputs = .strike e :: rest →
    step s = .next (({ s with clk := s.clk + 1, inputs := rest } : State).strike e)) ∧
  (∀ s : State, s.inputs = [] → let t := { s with clk := s.clk + 1 }
    (t.nextAgent = none → step s = .next t) ∧ ∀ a, t.nextAgent = some a → step s = step { s with inputs := [.issue a] }) ∧
  ∀ (s : State) (c : Nat) (pc : Word), pc.toNat + 8 ≤ 0x40000 →
    s.fetch (.ctl c) pc = (.bytes (s.readBytes ⟨.inst c, pc.toNat⟩ (instrLength (BitVec.ofNat 16 (leN (s.readBytes ⟨.inst c, pc.toNat⟩ 2))))), s)

namespace Sys2Proof.Claims

/-- 06 R149: a tenant PC with bit 63 set, or that is not canonical, traps PERMISSION at the fetch. -/
def BadPcsTrap : Prop :=
  ∀ (s : State) (a : AgentId) (rest : List Sched), s.inputs = .issue a :: rest → (∀ c, a ≠ .ctl c) → let t := issuing s a rest
    t.canIssue a = true → 2 ^ 57 ≤ (t.pcOf a).toNat → step s = .next (t.trap .permission)

end Sys2Proof.Claims

/-- 06 R170, R171: the fused softmax operation, of a warp with no poison, is the results of its four instructions in order, with
the warp's head alone, and moves the head past all four, where it stands among the warp's other entries again; one that the
decode checks turn away traps. The model's own choices in it: log 68. -/
def Obligations.FusedSoftmaxRunsTheFour : Prop :=
  ∀ (o : FusedOp) (s : State) (g wn : Nat) (e : Entry) (es : List Entry), s.cur = .warp g wn →
    (∀ c, (o.forms.filterMap s.decodeCause).head? = some c → exec (.fusedSoftmax o) s = .next (s.trap c)) ∧
    ((∀ f ∈ o.forms, s.decodeCause f = none) → Unpaired s → s.live (.warp g wn) = true → (s.warp g wn).frontier = e :: es → e.mask ≠ 0 →
      (s.warp g wn).vpoison = [] → (s.warp g wn).ppoison = [] → (s.warp g wn).replay = [] →
      ∃ u1 u2 u3 u4 : State, vreduceOp o.n1 o.i1 s.headAlone = .next u1 ∧ vfltOp o.n2 1 o.i2 u1 = .next u2 ∧
        sfuOp o.n3 3 o.i3 u2 = .next u3 ∧ vreduceOp o.n4 o.i4 u3 = .next u4 ∧ exec (.fusedSoftmax o) s = .next (u4.headJoins s) ∧
        u4.mem = s.mem ∧
        let past : Word := e.pc + BitVec.ofNat 64 o.n1 + BitVec.ofNat 64 o.n2 + BitVec.ofNat 64 o.n3 + BitVec.ofNat 64 o.n4
        (u4.warp g wn).frontier = [{ e with pc := past }] ∧
          ((u4.headJoins s).warp g wn).frontier = frontierOf (es ++ [{ e with pc := past }]))

namespace Sys2Proof.Claims

/-- The memory keeps its canonical form, addresses rising and no byte of 0 listed, at every step. The model's own choices in it:
log 7. -/
def MemoryStaysCanonicalPart : Prop :=
  ∀ s t : State, Memory.wf s.mem = true → step s = .next t → Memory.wf t.mem = true

/-- Every step ends in a next state: the model stops nowhere. -/
def StepsNeverStop : Prop := ∀ s : State, ∃ t : State, step s = .next t

end Sys2Proof.Claims

/-- 01 R16, R18, R20, R22; 02 R41; 03 R80; 12 R306: what the spec says reset leaves, and the canonical form of an empty memory. -/
def Obligations.ResetValues : Prop :=
  let s := State.reset
  Memory.wf s.mem = true ∧ s.mem = [] ∧ s.power.state = 0 ∧ s.power.capEn = true ∧ s.power.capW = 180 ∧ s.power.capping = false ∧
  s.pf.partMode = false ∧ s.pf.busy = none ∧ s.pf.overrun = false ∧ s.clk = 0 ∧ s.groups = [] ∧ s.grids = [] ∧
  (∀ n, (s.vd n).state = 0 ∧ (s.vd n).fqEn = false ∧ (s.vd n).fqProd = 0 ∧ (s.vd n).fqCons = 0 ∧ (s.vd n).resetCnt = 0) ∧
  (∀ q, (s.queue q).state = 0) ∧ ∀ p, (s.pair p).jnext = 1 ∧ (s.pair p).lost = false

/-- What decodes is well formed, and the decode checks come before every effect. -/
def Obligations.DecodingAndChecks : Prop :=
  DecodingIsSound ∧ ChecksComeFirst ∧ AgentsAndRoles

/-- Every step from a canonical memory ends in a next state with a canonical memory. The model's own choices in it: log 7. -/
def Obligations.MemoryStaysCanonical : Prop :=
  MemoryStaysCanonicalPart ∧ StepsNeverStop

namespace Sys2Proof.Claims

/-! Rules stated whole, and words written out from the spec's examples. -/

/-- The number of a compact parcel of op 0 whose fields va and vb are both n (06 R153). -/
def moveOfItself (p n : Nat) : Nat := n * 2 ^ 5 + 2 ^ 10 * n + 2 ^ 15 * p

end Sys2Proof.Claims

/-- 07 R193: PRIO n gives every head thread the priority n and moves it to the next instruction; the new head has the highest
priority, and of those the lowest PC (04 R110); n stands in bits 18:16 of the short word, bits 2:0 of its imm16, and in bits
20:18 of the general one, and with another bit of the immediate set neither is an instruction. -/
def Obligations.PrioSetsThePriority : Prop :=
  (∀ (s : State) (g w : Nat) (n : BitVec 3) (i : Instr) (len : Nat), PrioForm n i len → s.cur = .warp g w →
    s.live (.warp g w) = true → Runs i s → ∃ t : State, exec i s = .next t ∧
      t = s.updWarp g w (fun x => x.moveHead [⟨n, s.pc + BitVec.ofNat 64 len, x.head.mask⟩]) ∧
      (s.headMask ≠ 0 → ∃ e ∈ (t.warp g w).frontier, e.prio = n ∧ e.pc = s.pc + BitVec.ofNat 64 len ∧
        s.headMask &&& e.mask = s.headMask) ∧
      ∀ e ∈ (t.warp g w).frontier, e.prio.toNat < (t.warp g w).head.prio.toNat ∨
        (e.prio = (t.warp g w).head.prio ∧ (t.warp g w).head.pc.toNat ≤ e.pc.toNat)) ∧
  (∀ imm : Nat, imm < 2 ^ 16 → decodeTableWord 32 (0x0601 + 2 ^ 16 * imm) =
    if imm < 8 then some (.prioShort (BitVec.ofNat 3 imm)) else none) ∧
  ∀ imm : Nat, imm < 2 ^ 46 → decodeTableWord 64 (0x0603 + 2 ^ 18 * imm) =
    if imm < 8 then some (.prio (BitVec.ofNat 3 imm)) else none

/-- 01 R20: PWRCAP resets to 0xB4 and holds 8 bits; a write stores its bits 7:0, those below 60 as 60 and those above 180 as
180; the cap it sets is in units of 10 W. -/
def Obligations.PowerCapIsClamped : Prop :=
  State.reset.power.capW = 0xB4 ∧
  (∀ (s : State) (v : Word), exec (.registerWrite (.pf 8 v 4)) s = .next { s with power := { s.power with
    capW := if v.toNat % 256 < 60 then 60 else if 180 < v.toNat % 256 then 180 else BitVec.ofNat 8 (v.toNat % 256) } }) ∧
  ∀ (s : State) (watts : Nat), exec (.powerWindowEnd watts) s =
    .next { s with power := { s.power with capping := s.power.capEn && decide (s.power.capW.toNat * 10 < watts) } }

/-- 12 R307: FQPROD and FQCONS reset to 0; a write to FQPROD has no effect; one to FQCONS is ignored when FQPROD less the value,
modulo 2^32, is over 2^SIZE, and is taken otherwise; record j is written at FQBASE + (j mod 2^SIZE) * 32, and FQPROD counts
it. -/
def Obligations.FaultRingCounters : Prop :=
  (∀ n, (State.reset.vd n).fqProd = 0 ∧ (State.reset.vd n).fqCons = 0) ∧
  ∀ (s : State) (n : Nat), let v := s.vd n
    (∀ x : Word, exec (.registerWrite (.vf n 0x8C x 4)) s = .next s) ∧
    (v.responds = true → s.power.state ≠ 3 → s.power.state ≠ 4 → ∀ x : Word, exec (.registerWrite (.vf n 0x90 x 4)) s =
      .next (if 2 ^ v.fqSize.toNat < (v.fqProd.toNat + 2 ^ 32 - x.toNat % 2 ^ 32) % 2 ^ 32 then s
        else s.setVd n { v with fqCons := x.setWidth 32 })) ∧
    ∀ f l u, v.faults.find? (fun x => x.index.isNone) = some f → v.state ≠ 3 → v.fqEn = true → s.posting n = false → f.words.length = 4 →
      (v.fqProd - v.fqCons).toNat ≠ 2 ^ v.fqSize.toNat → s.stage2 n (ringSlot v) Need.write = (.ok l, u) →
      l.space = .host ∨ (l.space = .hbm ∧ v.hbmHeld = false ∧ Untracked u ((List.range 32).map l.plus)) → ∃ t : State, exec (.faultPostResume n) s = .next t ∧
        (t.vd n).fqProd = (u.vd n).fqProd + 1 ∧
        ∀ i < 32, t.readByte (l.plus i) = listGet 0 (((listGet 0 f.words 0 |||
          (if v.fqProd.toNat / 2 ^ v.fqSize.toNat % 2 = 0 then 1 else 0)) :: f.words.drop 1).flatMap bytesOf) i

/-- 06 R154: a compact parcel of op 0 with va = vb, the zero parcel among them, is no instruction whatever P holds, and an agent
that fetches it traps ILLEGAL; the general VMOV vn, vn is an instruction. -/
def Obligations.MoveOfItselfTraps : Prop :=
  (∀ p n : Nat, p < 2 → n < 32 → decodeTableWord 16 (moveOfItself p n) = none ∧
    ∀ (s : State) (a : AgentId) (rest : List Sched), s.inputs = .issue a :: rest → let t := issuing s a rest
      t.canIssue a = true → ∀ u, t.fetch a (t.pcOf a) = (.bytes (leBytes 2 (moveOfItself p n)), u) →
        step s = .next (u.trap .illegal)) ∧
  moveOfItself 0 0 = 0 ∧
  ∀ p n : Nat, p < 8 → n < 128 → decodeTableWord 64 (0x1B23 + 2 ^ 18 * p + 2 ^ 36 * n + 2 ^ 43 * n) =
    some (.vmov ⟨BitVec.ofNat 3 p, false, .s32, .rne, false, 0, BitVec.ofNat 7 n, BitVec.ofNat 7 n, 0, 0⟩)

/-- 06 R148-R166: words that the spec writes out decode to the instructions they stand for. -/
def Obligations.SpecWordsDecode : Prop :=
  decodeTableWord 32 0x120C1F05 = some (.vaddS32Short ⟨7, 3, 3, 9⟩) ∧
  decodeTableWord 64 0x00241830001C0023 = some (.vadd ⟨7, false, .s32, .rne, false, 0, 3, 3, 9, 0⟩) ∧
  decodeTableWord 32 0x000182A5 = some (.sliShort 2 3) ∧
  decodeTableWord 32 0xFFC102A1 = some (.saddiShort 2 2 0x3FF) ∧
  decodeTableWord 32 0xFFFD82C1 = some (.brnzShort 2 0xFFFD) ∧
  decodeTableWord 32 0x00000201 = some .exitShort ∧
  decodeTableWord 64 0x000000000005E70F = some (.ret ⟨94, 0, 0, false, 0⟩) ∧
  decodeTableWord 64 0x000244880E180213 = some (.satom ⟨6, 7, 8, 9, 9⟩) ∧
  decodeTableWord 64 0x00000040000C0B03 = some (.srd 3 0x40) ∧
  decodeTableWord 64 0x01000030829C0043 = some (.vld ⟨7, false, .w32, .acq, 8, 6, 0, 0, false, 0, 2⟩) ∧
  decodeTableWord 64 0x0080002841040063 = some (.mma ⟨1, 8, 4, 5, 0, 64, .bf16⟩) ∧
  decodeTableWord 64 0x00002000C01C004F = some (.qpush ⟨7, false, .s32, .rne, false, 3, 0, 4, 0, 0⟩) ∧
  decodeTableWord 64 0x0070C0040A180073 = some (.cpy ⟨6, 5, 4, 0, 3, 7, 0⟩) ∧
  decodeTableWord 64 0x0001C60B1424037B = some (.vdcmdRetire ⟨9, 10, 11, 12, 7⟩)

namespace Sys2Proof.Claims

/-- 17 R398, R400: under paired issue a SALU instruction whose executions differ writes its value when the retry cures it, and
writes it poisoned, with UNIT 18 or 19 by the die, when it differs still. The model's own choices in it: log 20. -/
def PairedScalarsCompare : Prop :=
  ∀ c f, Salu c f → ∀ (o : GS) (s : State) (g : Nat), Runs (c o) s → groupOf s.cur = some g → (s.launchOf g).paired = true →
    let d := s.pairing.headD ⟨[], []⟩
    let vd := (s.group g).vd
    ∃ (p : Option Prov) (u : State), exec (c o) s = .next ((u.updAgent s.cur fun a =>
        a.setSreg o.sd.toNat (f o.cw (s.sreg o.sa) (s.sreg o.sb) (s.sreg o.sc) (s.sreg o.sd)) p).advance 8) ∧
      (d.still = [] → p = none ∧ u.errors = s.errors) ∧
      (d.still ≠ [] → ∃ q : Prov, p = some q ∧ q.toNat / 128 = 18 + dieOf (s.group g).core) ∧
      u = { s with pairing := s.pairing.drop 1, errors := u.errors, vds := u.vds } ∧
      (d ≠ ⟨[], []⟩ → u.vd vd = { s.vd vd with
        pairFix := addSat (s.vd vd).pairFix (d.differ.filter fun x => !d.still.contains x).length
        pairPois := addSat (s.vd vd).pairPois d.still.length })

/-- 06 R162, 07 R180-R184: a scalar instruction that is executed changes no scalar register but its destination, no flag, no
special register, no byte of memory and nothing of any other agent. -/
def ScalarFrame : Prop :=
  ∀ i sd, WritesScalar i sd → ∀ s t : State, Computes i s → exec i s = .next t → OnlyScalar s t sd

/-- 06 R162: writing a scalar register and moving on makes the register read as the value, and its poison go. -/
def ScalarWriteReadsBack : Prop :=
  ∀ (s : State) (len : Nat) (sd : Reg) (v : Word), s.live s.cur = true →
    (s.writeNext len sd v).sreg sd = (if sd = 0 then 0 else v) ∧
    (sd ≠ 0 → Table.look ((s.writeNext len sd v).agent s.cur).spoison sd.toNat = none)

/-- 04 R110, R111. -/
def MovingTheHead : Prop :=
  ∀ (s : State) (pc : Word), s.live s.cur = true →
    match s.cur with
    | .warp g w =>
      (s.headMask ≠ 0 → ∃ e ∈ ((s.setPc pc).warp g w).frontier, e.prio = (s.warp g w).head.prio ∧ e.pc = pc ∧
        s.headMask &&& e.mask = s.headMask) ∧
      ∀ x ∈ (s.warp g w).frontier.drop 1, x.mask ≠ 0 → ∃ e ∈ ((s.setPc pc).warp g w).frontier, e.prio = x.prio ∧ e.pc = x.pc ∧
        x.mask &&& e.mask = x.mask
    | _ => (s.setPc pc).pc = pc

/-- 07 R185, 16 R379: an indirect branch to an odd target traps MISALIGN with the target in s92. -/
def OddTargetsTrap : Prop :=
  ∀ (s : State) (o : GB), (s.sreg o.sa).getLsbD 0 = true → ∀ i ∈ [Instr.jmpr o, .ret o, .callr o], Runs i s →
    exec i s = .next (s.trapWith .misalign none none s.headMask 0 (s.sreg o.sa) none)

/-- 16 R376-R379: a synchronous trap of a warp whose grid has a handler and that runs no handler is held for the warp with its
record, the workgroup halts, and the warp stays where it is. -/
def TrapIsHeld : Prop :=
  ∀ (s : State) (g w : Nat) (op : Option Nat) (c : Cause) (p : Option Prov) (r : TrapRec),
    s.live (.warp g w) = true → (s.launchOf g).thpc ≠ 0 → (s.warp g w).handler = [] →
    let t := s.holdTrap (.warp g w) op c p r
    (t.warp g w).held = (s.warp g w).held ++ [r] ∧ (t.warp g w).frontier = (s.warp g w).frontier ∧
    (t.warp g w).vregs = (s.warp g w).vregs ∧ (∀ q : Reg, (t.agent (.warp g w)).sreg q = (s.agent (.warp g w)).sreg q) ∧
    (t.group g).halt = some ((s.group g).halt.getD (.trap false)) ∧ t = { s with groups := t.groups }

/-- 16 R375, R397: a synchronous trap of a warp without a handler, of a warp that runs one, or of a stoker thread dooms the gang
with the first such cause. -/
def UnhandledTrapDoomsTheGang : Prop :=
  ∀ (s : State) (a : AgentId) (g : Nat) (c : Cause) (p : Option Prov) (r : TrapRec),
    (a = .stoker g ∨ ∃ w, a = .warp g w ∧ ((s.launchOf g).thpc = 0 ∨ (s.warp g w).handler ≠ [])) →
    ((s.holdTrap a none c p r).group g).doomed = some ((s.group g).doomed.getD (c, p.getD 0))

/-- 05 R133: a packed value's elements are those it was packed from, for every type. -/
def PackedElements : Prop :=
  ∀ (t : Ty) (f : Nat → BitVec (Ty.elems t).1), ∀ i < (Ty.elems t).2,
    elemAt (packElems (Ty.elems t).1 (Ty.elems t).2 f) (Ty.elems t).1 i = f i

/-- 17 R398, R400: under paired issue a VINT instruction writes every active thread's elements, poisoned, with UNIT 18 or 19 by
the die, in the threads whose executions differ after the retry too. The model's own choices in it: log 20. -/
def PairedLanesCompare : Prop :=
  ∀ c f, Vint c f → ∀ (o : GV) (s : State) (g wn : Nat), s.cur = .warp g wn → Runs (c o) s → (s.launchOf g).paired = true →
    Unpoisoned (s.warp g wn) o.p o.pneg (sourceTag (c o) (s.warp g wn)) →
    let d := s.pairing.headD ⟨[], []⟩
    let act := acts (s.warp g wn) o.p o.pneg
    let vd := (s.group g).vd
    ∃ (w' : Warp) (u : State), exec (c o) s = .next ((u.setWarp g wn w').advance 8) ∧
      u = { s with pairing := s.pairing.drop 1, errors := u.errors, vds := u.vds } ∧
      ((∀ l, act l = true → l ∉ d.differ ∧ l ∉ d.still) → u.vds = s.vds ∧ u.errors = s.errors) ∧
      ((∃ l, act l = true ∧ (l ∈ d.differ ∨ l ∈ d.still)) → u.vd vd = { s.vd vd with
        pairFix := addSat (s.vd vd).pairFix ((d.differ.filter act).filter fun x => !(d.still.filter act).contains x).length
        pairPois := addSat (s.vd vd).pairPois (d.still.filter act).length }) ∧
      ∀ l < 64, act l = true →
        let sg := Ty.signed o.dtype
        let ew := (Ty.elems o.dtype).1
        let x (r : Reg) (i : Nat) : BitVec ew := elemAt ((s.warp g wn).src o.dtype r l) ew i
        w'.src o.dtype o.vd l = packElems ew (Ty.elems o.dtype).2 (fun i => f sg ew (x o.va i) (x o.vb i) (x o.vc i) (x o.vd i)) ∧
        (if l ∈ d.still then ∃ q : Prov, Table.look w'.vpoison (vkey o.vd.toNat l) = some q ∧ q.toNat / 128 = 18 + dieOf (s.group g).core
         else Table.look w'.vpoison (vkey o.vd.toNat l) = none)

/-- 08 R214-R217: the results and flags that the spec fixes: of the reciprocal and the reciprocal root of ±0, infinities and
powers of two, of the exponential and the logarithm of whole numbers and powers of two, and of NaNs. -/
def SpecialFunctionValues : Prop :=
  (SpecialFn.rcp.apply 0 0x00000000 = (0x7F800000, fpDZ)) ∧ (SpecialFn.rcp.apply 0 0x80000000 = (0xFF800000, fpDZ)) ∧
  (SpecialFn.rcp.apply 0 0x40000000 = (0x3F000000, 0)) ∧ (SpecialFn.rsq.apply 2 0x40800000 = (0x3F000000, 0)) ∧
  (SpecialFn.rsq.apply 2 0xBF800000 = (fmtF32.defaultNan, fpNV)) ∧ ((SpecialFn.exp2 false).apply 6 0x40400000 = (0x41000000, 0)) ∧
  (SpecialFn.log2.apply 8 0x41000000 = (0x40400000, 0)) ∧ (SpecialFn.log2.apply 8 0x00000000 = (0xFF800000, fpDZ)) ∧
  (SpecialFn.sin.apply 10 0x7F800000 = (fmtF32.defaultNan, fpNV)) ∧ (SpecialFn.cos.apply 12 0x00000000 = (0x3F800000, 0)) ∧
  (SpecialFn.tanh.apply 14 0xFF800000 = (0xBF800000, 0))

/-- 05 R130-R143: rounding of f32 sums and products to nearest even, signed zeros, the default NaN with NV, overflow with OF and
NX, underflow of a tiny inexact product with UF and NX, and saturation. -/
def FloatValues : Prop :=
  let add (a b : Nat) := fmtF32.round .rne false 0 (addExact .rne (fmtF32.decode a) (fmtF32.decode b))
  let mul (sat : Bool) (a b : Nat) := fmtF32.round .rne sat 0 (mulVal (fmtF32.decode a) (fmtF32.decode b)).exact
  add 0x3F800000 0x33800000 = (0x3F800000, fpNX) ∧ add 0x3F800001 0x33800000 = (0x3F800002, fpNX) ∧
  add 0x3F800000 0xBF800000 = (0x00000000, 0) ∧ add 0x80000000 0x80000000 = (0x80000000, 0) ∧
  add 0x7F800000 0xFF800000 = (fmtF32.defaultNan, fpNV) ∧ (add 0x7F800001 0x3F800000).1 = fmtF32.defaultNan ∧
  mul false 0x7F7FFFFF 0x40000000 = (0x7F800000, fpOF ||| fpNX) ∧ mul true 0x7F7FFFFF 0x40000000 = (0x7F7FFFFF, fpOF ||| fpNX) ∧
  mul false 0x00800001 0x3F000000 = (0x00400000, fpUF ||| fpNX) ∧ mul false 0x00800000 0x3F000000 = (0x00400000, 0)

/-- 05 R147: a reduction by addition of 32-bit integers is the sum of the active threads' values modulo 2^32. -/
def ReductionBySum : Prop :=
  ∀ (w : Warp) (o : GV), o.dtype = .s32 → o.aux = 0 →
    (reduceTree .s32 0 .rne 6 (reduceStart w o) 0).1.setWidth 32 =
      (lanesOf (w.head.mask &&& w.active o.p o.pneg)).foldl (fun acc l => acc + w.v o.va.toNat l) (0 : W32)

/-- 17 R392, 09 R243: a lane instruction that would consume poison in some issued threads completes in the others and traps
POISON for those, with their mask in s90 and to be performed again. -/
def PoisonedLanesTrap : Prop :=
  ∀ c f, Vint c f → ∀ (o : GV) (s : State) (g wn : Nat), s.cur = .warp g wn → Computes (c o) s →
    let w := s.warp g wn
    let tag (l : Nat) : Option Prov := if (w.predPoison l [o.p.toNat]).isSome then w.predPoison l [o.p.toNat]
      else if bit (w.active o.p o.pneg) l then sourceTag (c o) w l else none
    let bad := maskOf fun l => bit w.issueMask l && (tag l).isSome
    bad ≠ 0 → ∃ w', exec (c o) s = .next ((s.setWarp g wn w').trapWith .poison none (lowestProv ((lanesOf bad).map tag)) bad 0 0 (some bad)) ∧
      OnlyVector w w' o.vd.toNat (regsOf o.dtype) (fun l => acts w o.p o.pneg l && !bit bad l)

/-- 12 R296, R297, R299, R303. The model's own choices in it: log 81. -/
def FindingAPlaceChangesLittle : Prop :=
  ∀ (s : State) (a : AgentId) (m : MemOp) (e : Bool) (x : LaneAcc), let u := (s.classify a m e x).2
    u = { s with mem := u.mem, tables := u.tables, tlb := u.tlb, walks := u.walks, tlbChoice := u.tlbChoice, pf := u.pf, sent := u.sent }

/-- 04 R113, R123: the slot image of a register gives back every thread's value, and 0 of one that never started. -/
def SpillImageHoldsTheRegister : Prop :=
  ∀ (w : Warp) (r l : Nat), l < 64 → spillValue (w.spillSlot r) l = if bit w.unstarted l then 0 else w.v r l

/-- 11 R274, R276-R278, R280, R456: an issue of an MMAS with NCODE 0 traps ILLEGAL, one beyond the accumulator window
ACC_WINDOW, a misaligned operand MISALIGN, one outside its window PERMISSION. The model's own choices in it: logs 17, 73. -/
def MatrixIssue : Prop :=
  ∀ (s : State) (g w n : Nat) (c : Conv) (pc : Word) (head : Mask), s.live (.warp g w) = true →
    let x := s.warp g w
    let sa := x.agent.sreg c.sa
    let sb := x.agent.sreg c.sb
    let sc := x.agent.sreg c.sc
    let empty : Prop := c.fn = 1 ∧ ncode sc = 0
    (empty → s.issueMatrix g w n c pc head = .trap .illegal 0) ∧
    (¬ empty → x.alimit < x.abase + c.arow.toNat + 64 → s.issueMatrix g w n c pc head = .trap .accWindow 0) ∧
    (¬ empty → x.abase + c.arow.toNat + 64 ≤ x.alimit →
      (c.fn ≠ 1 → sa.toNat % 32 ≠ 0 → s.issueMatrix g w n c pc head = .trap .misalign sa) ∧
      (∀ y, misalignedOperand c.fn c.dtype sa sb sc = none → s.outsideOperand (.warp g w) c.fn c.dtype c.rows sa sb sc = some y →
        s.issueMatrix g w n c pc head = .trap .permission y) ∧
      (misalignedOperand c.fn c.dtype sa sb sc = none → s.outsideOperand (.warp g w) c.fn c.dtype c.rows sa sb sc = none →
        s.lockRoom (.warp g w) ((s.operandSpans (.warp g w) c.fn c.dtype c.rows sa sb sc).map fun y =>
          lockOf s.uid (s.group g).vd (s.rootOf (.warp g w)) y false) = true → (∀ r, Table.look x.agent.spoison r = none) →
        ∃ v m, s.issueMatrix g w n c pc head = .done v ∧ Accepted s v g w m ∧ m.op = c.op ∧
          m.row = x.abase + c.arow.toNat ∧ m.kind = .mma c.fn c.dtype c.rows sa sb sc ∧
          ((v.warp g w).conv n).signed = 0 ∧ ((v.warp g w).conv n).declared = c.declared))

/-- 11 R277, R278, R284: MATRIX_OP_START starts the first operation of the unit that has not started, unless an ALD or AST
before it is not over or an older engine operation conflicts. The model's own choices in it: log 17. -/
def MatrixOperationsStart : Prop :=
  ∀ (s : State) (core : Nat) (before after : List MatOp) (m : MatOp), (s.core core).matrix = before ++ m :: after →
    (∀ x ∈ before, x.started = true ∧ x.id ≠ m.id) → (∀ x ∈ after, x.id ≠ m.id) → m.started = false →
    (((∃ x ∈ before, x.kind.moves = true) ∨ s.conflicts (.warp m.g m.w) m.id = true) → exec (.matrixOpStart core) s = .next s) ∧
    ((∀ x ∈ before, x.kind.moves = false) → s.conflicts (.warp m.g m.w) m.id = false →
      ((∀ fn ty rows sa sb sc, m.kind ≠ .mma fn ty rows sa sb sc) → ∃ t : State, exec (.matrixOpStart core) s = .next t ∧
        (t.core core).matrix = before ++ { m with started := true } :: after ∧ t = { s with cores := t.cores }) ∧
      (∀ fn ty rows sa sb sc, m.kind = .mma fn ty rows sa sb sc →
        ((s.group m.g).core = core → fromQueue sb = false → ∃ (t : State) (n : MatOp), exec (.matrixOpStart core) s = .next t ∧
          (t.core core).matrix = before ++ n :: after ∧ n = { m with started := true, latchA := n.latchA, latchS := n.latchS, latchB := n.latchB } ∧
          (∀ l, s.operandAt (.warp m.g m.w) sb (tileBytes fn ty) = some l → n.latchB = s.tagBytes l (tileBytes fn ty)) ∧
          (∀ r ∈ rows, ∀ l, s.operandAt (.warp m.g m.w) (rowAddr sa r.2.1 (aBytes fn ty sc)) (aBytes fn ty sc) = some l →
            (r.1, s.tagBytes l (aBytes fn ty sc)) ∈ n.latchA) ∧
          (∀ k ∈ (t.core core).locks, k.op ≠ m.id) ∧ t.mem = s.mem) ∧
        (fromQueue sb = true → ∀ q, s.feedQueue m.g (sb.toNat % 16) = some q →
          (q.avail = 0 → exec (.matrixOpStart core) s = .next s) ∧
          (q.avail ≠ 0 → ∃ (t : State) (n : MatOp), exec (.matrixOpStart core) s = .next t ∧ (t.core core).matrix = before ++ n :: after ∧
            n.latchB = s.tagBytes ⟨.scratch m.g, q.base + q.cres.toNat % 2 ^ q.depthLog * 2 ^ q.sizeLog⟩ (tileBytes fn ty) ∧
            t.feedQueue m.g (sb.toNat % 16) = some (FeedQueue.consume { q with cres := q.cres + 1 } q.cres.toNat)))))

/-- 11 R281-R283, R287, R289. The model's own choices in it: log 17. -/
def MatrixOperationsComplete : Prop :=
  ∀ (s : State) (core : Nat) (m : MatOp) (ms : List MatOp) (d : PairDiffer), (s.core core).matrix = m :: ms → m.started = true →
    let i := Instr.tileOpComplete core ⟨m.id, d⟩
    let agree : Prop := (s.launchOf m.g).paired = false ∨ d = ⟨[], []⟩
    (∀ fn ty rows sa sb sc, m.kind = .mma fn ty rows sa sb sc → (s.launchOf m.g).paired = true → ∃ t : State, exec i s = .next t ∧
      Closed t core m ∧ ∀ r ∈ rows, ∀ j < 64, r.1 * 64 + j ∈ d.still → (accAt t core m r.1 j).2 ≠ none) ∧
    (∀ fn ty rows sa sb sc, m.kind = .mma fn ty rows sa sb sc → (rows.map (·.1)).Nodup → agree →
      ∃ t : State, exec i s = .next t ∧ Closed t core m ∧ t.mem = s.mem ∧
        (∀ r ∈ rows, ∀ j < 64, accAt t core m r.1 j = (accumulateElem ty (denseK fn ty)
          (rowTerms fn ty sc r.2.2 (Table.get [] m.latchA r.1) (Table.get [] m.latchS r.1))
          (columnOf fn ty (tileRows fn ty m.latchB) m.latchB j) (accAt s core m r.1 j)).1) ∧
        (∀ k, (∀ r ∈ rows, k ≠ m.row + r.1) → ∀ j < 64, (t.core core).accElem k j = (s.core core).accElem k j)) ∧
    (m.kind = .zero → ∃ t : State, exec i s = .next t ∧ Closed t core m ∧ t.mem = s.mem ∧
      (∀ k < 64, ∀ j < 64, accAt t core m k j = (0, none)) ∧
      (∀ k, (k < m.row ∨ m.row + 64 ≤ k) → ∀ j < 64, (t.core core).accElem k j = (s.core core).accElem k j)) ∧
    (∀ fmt dst head, m.kind = .stats fmt dst head → m.w < (s.group m.g).warps.length → dst.toNat + 2 < 128 → agree →
      (∀ l < 64, bit head l = true → ∀ j < 64, (accAt s core m l j).2 = none) →
      ∃ t : State, exec i s = .next t ∧ Closed t core m ∧ (t.core core).acc = (s.core core).acc ∧
        ∀ l < 64, ∀ n : Nat, (t.warp m.g m.w).v n l =
          let st := (rowStats fmt ((List.range 64).map fun j => (accAt s core m l j).1)).1
          if bit head l = true ∧ n = dst.toNat then st.1 else if bit head l = true ∧ n = dst.toNat + 1 then st.2.1
          else if bit head l = true ∧ n = dst.toNat + 2 then st.2.2 else (s.warp m.g m.w).v n l)

/-- 11 R287, R288: the last row of an ALD, found in local memory, is widened into its accumulator row and the operation ends.
The model's own choices in it: log 16. -/
def AccumulatorRowsMove : Prop :=
  ∀ (s u : State) (core : Nat) (m : MatOp) (ms : List MatOp) (fmt : BitVec 3) (addr stride : Word) (done : Mask) (k : Nat)
    (ls : List Loc), (s.core core).matrix = m :: ms → m.started = true → m.parked = [] → k < 64 → ~~~done = BitVec.ofNat 64 (2 ^ k) →
    let e := accBytes fmt
    let a := AgentId.warp m.g m.w
    let i := Instr.tileOpComplete core ⟨m.id, ⟨[], []⟩⟩
    (∀ l ∈ ls, l.space = .hbm ∨ l.space = .scratch m.g) → s.remote = [] → (ls.map Loc.key).Nodup → ls.length = 64 * e →
    (∀ r ∈ s.engineData, r.who ≠ .matrix core m.id) →
    (m.kind = .load fmt addr stride done → s.placeRow a Need.read (memRow addr stride k) (64 * e) = (.ok ls, u) →
      u.cores = s.cores → u.remote = [] → u.damps (s.group m.g).vd ls = false →
      ∃ t : State, exec i s = .next t ∧ Closed t core m ∧
        (∀ j < 64, (accAt t core m k j).1 = widen fmt (leN (((ls.drop (j * e)).take e).map u.readByte))) ∧
        ∀ n, n ≠ m.row + k → ∀ j < 64, (t.core core).accElem n j = (s.core core).accElem n j) ∧
    (m.kind = .store fmt addr stride done → s.placeRow a Need.write (memRow addr stride k) (64 * e) = (.ok ls, u) →
      u.cores = s.cores → u.remote = [] → u.damps (s.group m.g).vd ls = false → Untracked u ls →
      ∃ t : State, exec i s = .next t ∧ Closed t core m ∧
        (∀ j < 64, ∀ b < e, ∀ l, ls[j * e + b]? = some l →
          t.readByte l = BitVec.ofNat 8 ((narrow fmt (accAt s core m k j).1).1 / 256 ^ b)) ∧
        (∀ l : Loc, (∀ q r, l.space ≠ .window q r) → (∀ x ∈ ls, l.key ≠ x.key) → t.readByte l = u.readByte l))

/-- 11 R281: an element of an integer product is the old element plus the sum of the 64 products, modulo 2^32. -/
def IntegerProductIsASum : Prop :=
  ∀ (a b : Nat → BitVec 8) (old : W32),
    accumulateElem .s8 64 ((List.range 64).map fun k => ⟨k, MTy.value .s8 (a k).toNat, none⟩)
        ((List.range 64).map fun k => (MTy.value .s8 (b k).toNat, none)) (old, none) =
      (((List.range 64).foldl (fun acc k => acc + (a k).signExtend 32 * (b k).signExtend 32) old, none), fpNone)

/-- 10 R262-R264: the operands of a copy as its issue reads them: the source from S[sa], the destination from S[sb], the length
from S[sd], or rows times their bytes, the tag and the barrier. -/
def CopyOperands : Prop :=
  ∀ (s : State) (o : GK),
    (∀ fn, fn = 0 ∨ fn = 2 → let c := s.copyOf fn o
      c.src = s.sreg o.sa ∧ c.dst = s.sreg o.sb ∧ c.len = (s.sreg o.sd).toNat ∧ c.tag = o.tag ∧ c.barrier = s.sreg o.se ∧
        c.zero = decide (fn = 2) ∧ c.gather = false ∧
        c.queue = if o.flags.getLsbD 1 then some ((s.sreg o.sb).toNat % 16) else none) ∧
    (∀ g l, s.cur = .stoker g → s.sreg o.sc ≠ 0 → (s.group g).sealAt (s.sreg o.sc) = some l →
      let c := s.copyOf 1 o
      c.gather = true ∧ c.layout = some l ∧ c.len = (s.sreg o.sd).toNat * (listGet 1 l.ext 0 * 2 ^ l.elog))

/-- 10 R266: the sectors of a flat copy split it: every byte lies in exactly one sector, in at most 32 bytes. -/
def SectorsSplitACopy : Prop :=
  ∀ (c : Copy), c.layout = none → c.dst.toNat + c.len ≤ 2 ^ 64 →
    (∀ j, j < c.len ↔ ∃ n, j ∈ c.sectorBytes none n) ∧
    (∀ j n m, j ∈ c.sectorBytes none n → j ∈ c.sectorBytes none m → n = m) ∧ ∀ n, (c.sectorBytes none n).length ≤ 32

/-- 10 R259, R262: a layout that strictly nests gives distinct places to distinct bytes: the place of byte j leads back to j. -/
def LayoutPlacesAreDistinct : Prop :=
  ∀ (bs : List Byte) (addr : Word) (l : LayoutRec), parseLayout bs addr = some l →
    ∀ j < listGet 0 l.ext 0 * listGet 0 l.ext 1 * listGet 0 l.ext 2 * listGet 0 l.ext 3 * 2 ^ l.elog, l.byteAt (l.offset j) = some j

/-- 10 R266: a sector of a started copy whose bytes are there and whose places lie in local memory is written: its bytes are at
those places with no other byte changed, and a copy without a barrier counts it done and its bytes credited. The model's own
choices in it: log 16. -/
def CopySectorsMove : Prop :=
  ∀ (s u v : State) (g op n : Nat) (k : OpClass) (c c' : Copy) (bs : List (Byte × Option Prov)) (ls : List Loc),
    let a := AgentId.stoker g
    let js := c.sectorBytes none n
    s.op? a op = some ⟨op, k, .copy c⟩ → s.live a = true → c.queue = none → c.barrier = 0 → c.started = true → c.failed = none →
    c.sending = [] → c.sectors.contains n = false → (∀ p ∈ c.parked, p.part ≠ n) → js ≠ [] → (s.group g).residence = .resident →
    s.sectorData g op n c js = (.bytes bs, c', u) → u.placeBytes a Need.write (js.map c'.dstAddr) = (.ok ls, v) →
    c' = { c with snapshot := c'.snapshot } →
    (∀ l ∈ ls, l.space = .hbm ∨ l.space = .scratch g) → (ls.map Loc.key).Nodup → Untracked v ls → v.groups = s.groups →
    s.damps (s.vdOf a) ls = false →
    ∃ t : State, exec (.copySectorComplete g op n) s = .next t ∧
      (∀ i l, ls[i]? = some l → t.readByte l = (listGet (0, none) bs i).1) ∧
      (∀ l : Loc, (∀ q r, l.space ≠ .window q r) → (∀ x ∈ ls, l.key ≠ x.key) → t.readByte l = v.readByte l) ∧
      ∀ y ∈ (t.agent a).ops, y.id = op →
        y.work = .copy { c' with sectors := n :: c.sectors, credited := c.credited + js.length }

/-- 10 R264-R267: COPY_DEFERRED_START starts a copy that waits for nothing. -/
def CopiesStartAndEnd : Prop :=
  ∀ (s : State) (g op : Nat) (k : OpClass) (c : Copy), let a := AgentId.stoker g
    s.op? a op = some ⟨op, k, .copy c⟩ → s.live a = true →
    (c.started = false → c.queue = none → (s.group g).residence = .resident → s.conflicts a op = false →
      ∃ t : State, exec (.copyDeferredStart g op) s = .next t ∧ t = { s with groups := t.groups } ∧
        ∀ y ∈ (t.agent a).ops, y.id = op → y.work = .copy { c with started := true }) ∧
    (s.conflicts a op = true → exec (.copyDeferredStart g op) s = .next s) ∧
    (c.failed = none → c.sending = [] → (c.started = false ∨ c.credited ≠ c.len) → exec (.copyComplete g op) s = .next s) ∧
    (c.failed = none → c.sending = [] → c.started = true → c.credited = c.len → c.queue = none →
      ∃ t : State, exec (.copyComplete g op) s = .next t ∧ (∀ y ∈ (t.agent a).ops, y.id = op → y.work = .finished) ∧
        (let left := Table.get 0 (s.group g).tagCounts c.tag.toNat - 1
         Table.get 0 (t.group g).tagCounts c.tag.toNat = left ∧
         (t.group g).tagBits = if left = 0 then (s.group g).tagBits ||| BitVec.ofNat 64 (2 ^ c.tag.toNat) else (s.group g).tagBits) ∧
        (∀ core, ∀ l ∈ (t.core core).locks, l.op ≠ op) ∧ t.mem = s.mem ∧ (t.group g).asyncHeld = (s.group g).asyncHeld) ∧
    (∀ off cause, c.failed = some (off, cause) → c.sending = [] → c.queue = none →
      ∃ t rec, exec (.copyComplete g op) s = .next t ∧ (∀ y ∈ (t.agent a).ops, y.id = op → y.work = .finished) ∧
        ((t : State).group g).asyncHeld = (s.group g).asyncHeld ++ [rec] ∧ rec.kind = .async ∧ rec.cause = 0x05 ∧
        rec.s92 = BitVec.ofNat 64 (2 ^ 62 + 2 ^ 56 * c.tag.toNat + off % 2 ^ 40))

/-- 18 R413: of the G - 1 positions of a row, row r's parity is at position r mod (G - 1), and holds the exclusive or of the
row's units with the lowest poison tag among them (17 R392), and the units follow in order at the others. -/
def StripesAndParity : Prop :=
  ∀ (d : List Byte) (image : List CkByte) (u r : Nat), let k := ckG d - 2
    let p := r % (k + 1)
    let unit (j i : Nat) : CkByte := listGet (0, none) (imageUnit image u (r * k + j)) i
    (∀ j < k, ckUnit d u image r (if j < p then j else j + 1) = imageUnit image u (r * k + j)) ∧
    (∀ i < u, listGet (0, none) (ckUnit d u image r p) i = (((List.range k).map fun j => (unit j i).1).foldl (· ^^^ ·) 0,
      ((List.range k).map fun j => (unit j i).2).foldl minProv none)) ∧
    ∀ n i, n * u + i < image.length → i < u → listGet (0, none) (imageUnit image u n) i = listGet (0, none) image (n * u + i)

end Sys2Proof.Claims

/-- Scalar arithmetic, general and short, writes its value and moves on. The model's own choices in it: log 20. -/
def Obligations.ScalarResults : Prop :=
  SaluWritesItsResult ∧ SaluShortWritesItsResult ∧ SaluiWritesItsResult ∧ ConditionsAndCounts ∧ PairedScalarsCompare

/-- Scalar instructions change only their destination and the PC; writes read back; heads move whole. -/
def Obligations.RegistersAndHeads : Prop :=
  ScalarFrame ∧ ScalarWriteReadsBack ∧ MovingTheHead

/-- Every branch goes where its rule says, and bad targets trap. -/
def Obligations.Branches : Prop :=
  UniformBranches ∧ IndirectBranches ∧ OddTargetsTrap ∧ BrpMovesEachThread ∧ BadPcsTrap

/-- A trap is held for the handler, or dooms the gang without one; TRET restores and resumes. -/
def Obligations.TrapsAreTaken : Prop :=
  TrapIsHeld ∧ UnhandledTrapDoomsTheGang ∧ TretLeavesTheHandler

/-- VINT writes its element results in every active thread and nothing else. The model's own choices in it: log 20. -/
def Obligations.IntegerLaneResults : Prop :=
  IntegerLanes ∧ PackedElements ∧ PairedLanesCompare ∧ PoisonedLanesTrap

/-- Conversions write their results, and the values the spec fixes are met. -/
def Obligations.FloatValuesAndConversions : Prop :=
  SpecialFunctionValues ∧ FloatValues ∧ Conversions

/-- Cross-lane moves, reductions and scans give every active thread its value. -/
def Obligations.CrossLaneResults : Prop :=
  CrossLaneMoves ∧ CrossLaneReductions ∧ ReductionBySum

/-- Spills, fills and prefetches issue, and finding a place changes only A and D bits. The model's own choices in it: log 81. -/
def Obligations.SpillFillAndPrefetch : Prop :=
  SpillAndFillIssue ∧ SpillImageHoldsTheRegister ∧ PrefetchOnlyMovesOn ∧ FindingAPlaceChangesLittle

/-- Matrix instructions sign, check, and are accepted by the matrix unit. The model's own choices in it: logs 17, 73. -/
def Obligations.MatrixSigning : Prop :=
  MatrixSignatures ∧ MatrixIssue ∧ WindowsAreSet ∧ AccumulatorOperations

/-- The matrix unit reads its operands, computes its rows and writes them. The model's own choices in it: logs 16, 17. -/
def Obligations.MatrixWork : Prop :=
  MatrixOperationsStart ∧ MatrixOperationsComplete ∧ AccumulatorRowsMove ∧ IntegerProductIsASum

/-- Copies are checked and issued, and their sectors and layouts split them exactly. The model's own choices in it: logs 35, 38. -/
def Obligations.CopyIssue : Prop :=
  CopiesIssue ∧ CopyOperands ∧ SectorsSplitACopy ∧ LayoutPlacesAreDistinct

/-- Copies move their sectors, end, and set the tag bits that TWANY and TWALL wait for. The model's own choices in it: log 16. -/
def Obligations.CopyWork : Prop :=
  CopySectorsMove ∧ CopiesStartAndEnd ∧ TagWaits

/-- Checkpoints and restores begin, end and protect their rows by parity. The model's own choices in it: log 61. -/
def Obligations.Checkpoints : Prop :=
  CheckpointsBegin ∧ CheckpointsEnd ∧ StripesAndParity
end

