-- ==== Sys2Proof/Laws/Exec.lean ====
section
/-! SUPPORT. What exec does with each constructor: its meaning, by definition. -/

namespace Sys2Proof.Machine

@[simp] theorem exec_packageReset (s : State) : exec .packageReset s = execPackageReset s := rfl
@[simp] theorem exec_bootPhaseComplete (b : BootStep) (s : State) : exec (.bootPhaseComplete b) s = execBootPhaseComplete b s := rfl
@[simp] theorem exec_pcieConfigRequest (s : State) : exec .pcieConfigRequest s = execPcieConfigRequest s := rfl
@[simp] theorem exec_enterBanked (s : State) : exec .enterBanked s = execEnterBanked s := rfl
@[simp] theorem exec_leaveBanked (s : State) : exec .leaveBanked s = execLeaveBanked s := rfl
@[simp] theorem exec_bankedEntryComplete (s : State) : exec .bankedEntryComplete s = execBankedEntryComplete s := rfl
@[simp] theorem exec_bankedExitComplete (needs : List (Nat × Nat)) (s : State) : exec (.bankedExitComplete needs) s = execBankedExitComplete needs s := rfl
@[simp] theorem exec_powerWindowEnd (watts : Nat) (s : State) : exec (.powerWindowEnd watts) s = execPowerWindowEnd watts s := rfl
@[simp] theorem exec_thermalSample (deg : Int) (s : State) : exec (.thermalSample deg) s = execThermalSample deg s := rfl
@[simp] theorem exec_powerOnHour (s : State) : exec .powerOnHour s = execPowerOnHour s := rfl
@[simp] theorem exec_hbmRefreshRaise (s : State) : exec .hbmRefreshRaise s = execHbmRefreshRaise s := rfl
@[simp] theorem exec_spdmRequest (r : SpdmRequest) (s : State) : exec (.spdmRequest r) s = execSpdmRequest r s := rfl
@[simp] theorem exec_measurementRequest (n : BitVec 4) (digest : BitVec 512) (s : State) : exec (.measurementRequest n digest) s = execMeasurementRequest n digest s := rfl
@[simp] theorem exec_lifeCycleChange (r : LifeCycleRequest) (s : State) : exec (.lifeCycleChange r) s = execLifeCycleChange r s := rfl
@[simp] theorem exec_create (s : State) : exec .create s = execCreate s := rfl
@[simp] theorem exec_createComplete (vd : Nat) (found : Bool) (s : State) : exec (.createComplete vd found) s = execCreateComplete vd found s := rfl
@[simp] theorem exec_destroy (s : State) : exec .destroy s = execDestroy s := rfl
@[simp] theorem exec_destroyDrained (vd : Nat) (s : State) : exec (.destroyDrained vd) s = execDestroyDrained vd s := rfl
@[simp] theorem exec_wipeComplete (vd : Nat) (s : State) : exec (.wipeComplete vd) s = execWipeComplete vd s := rfl
@[simp] theorem exec_reset (s : State) : exec .reset s = execReset s := rfl
@[simp] theorem exec_setshare (s : State) : exec .setshare s = execSetshare s := rfl
@[simp] theorem exec_query (s : State) : exec .query s = execQuery s := rfl
@[simp] theorem exec_sharemap (s : State) : exec .sharemap s = execSharemap s := rfl
@[simp] theorem exec_sharemapComplete (slot : Nat) (s : State) : exec (.sharemapComplete slot) s = execSharemapComplete slot s := rfl
@[simp] theorem exec_resetreq (vd : Nat) (s : State) : exec (.resetreq vd) s = execResetreq vd s := rfl
@[simp] theorem exec_ashpitDumpDone (vd : Nat) (s : State) : exec (.ashpitDumpDone vd) s = execAshpitDumpDone vd s := rfl
@[simp] theorem exec_resetDrained (vd : Nat) (s : State) : exec (.resetDrained vd) s = execResetDrained vd s := rfl
@[simp] theorem exec_resetRearm (vd : Nat) (s : State) : exec (.resetRearm vd) s = execResetRearm vd s := rfl
@[simp] theorem exec_queueEnable (q : Nat) (value : BitVec 32) (s : State) : exec (.queueEnable q value) s = execQueueEnable q value s := rfl
@[simp] theorem exec_queueDisable (q : Nat) (value : BitVec 32) (s : State) : exec (.queueDisable q value) s = execQueueDisable q value s := rfl
@[simp] theorem exec_queueStopped (q : Nat) (s : State) : exec (.queueStopped q) s = execQueueStopped q s := rfl
@[simp] theorem exec_kick (q : Nat) (value : BitVec 32) (s : State) : exec (.kick q value) s = execKick q value s := rfl
@[simp] theorem exec_kcconsWrite (q : Nat) (value : BitVec 32) (s : State) : exec (.kcconsWrite q value) s = execKcconsWrite q value s := rfl
@[simp] theorem exec_faultQueueEnable (vd : Nat) (value : BitVec 32) (s : State) : exec (.faultQueueEnable vd value) s = execFaultQueueEnable vd value s := rfl
@[simp] theorem exec_fqconsWrite (vd : Nat) (value : BitVec 32) (s : State) : exec (.fqconsWrite vd value) s = execFqconsWrite vd value s := rfl
@[simp] theorem exec_faultRetry (vd : Nat) (index : BitVec 32) (s : State) : exec (.faultRetry vd index) s = execFaultRetry vd index s := rfl
@[simp] theorem exec_faultAbort (vd : Nat) (index : BitVec 32) (s : State) : exec (.faultAbort vd index) s = execFaultAbort vd index s := rfl
@[simp] theorem exec_fqrespAbortStore (vd : Nat) (abort : Bool) (s : State) : exec (.fqrespAbortStore vd abort) s = execFqrespAbortStore vd abort s := rfl
@[simp] theorem exec_dieScratchRequest (vd : Nat) (value : BitVec 32) (s : State) : exec (.dieScratchRequest vd value) s = execDieScratchRequest vd value s := rfl
@[simp] theorem exec_dieScratchGrant (vd : Nat) (s : State) : exec (.dieScratchGrant vd) s = execDieScratchGrant vd s := rfl
@[simp] theorem exec_ashbaseWrite (vd : Nat) (value : Word) (s : State) : exec (.ashbaseWrite vd value) s = execAshbaseWrite vd value s := rfl
@[simp] theorem exec_checkpoint (vd : Nat) (value : BitVec 32) (s : State) : exec (.checkpoint vd value) s = execCheckpoint vd value s := rfl
@[simp] theorem exec_checkpointArmed (vd : Nat) (s : State) : exec (.checkpointArmed vd) s = execCheckpointArmed vd s := rfl
@[simp] theorem exec_checkpointCommit (vd : Nat) (answered : Bool) (s : State) : exec (.checkpointCommit vd answered) s = execCheckpointCommit vd answered s := rfl
@[simp] theorem exec_restore (vd : Nat) (value : BitVec 32) (parts : List (Nat × List (Byte × Option (BitVec 12)))) (s : State) : exec (.restore vd value parts) s = execRestore vd value parts s := rfl
@[simp] theorem exec_restoreComplete (vd : Nat) (s : State) : exec (.restoreComplete vd) s = execRestoreComplete vd s := rfl
@[simp] theorem exec_partcfgWrite (value : BitVec 32) (s : State) : exec (.partcfgWrite value) s = execPartcfgWrite value s := rfl
@[simp] theorem exec_fwlogClear (die : Nat) (value : BitVec 32) (s : State) : exec (.fwlogClear die value) s = execFwlogClear die value s := rfl
@[simp] theorem exec_dscarveWrite (die : Nat) (value : BitVec 32) (s : State) : exec (.dscarveWrite die value) s = execDscarveWrite die value s := rfl
@[simp] theorem exec_fabcfgWrite (value : BitVec 32) (s : State) : exec (.fabcfgWrite value) s = execFabcfgWrite value s := rfl
@[simp] theorem exec_portEnable (n : Nat) (value : BitVec 32) (s : State) : exec (.portEnable n value) s = execPortEnable n value s := rfl
@[simp] theorem exec_portDisable (n : Nat) (value : BitVec 32) (s : State) : exec (.portDisable n value) s = execPortDisable n value s := rfl
@[simp] theorem exec_ptxtailWrite (n : Nat) (value : BitVec 32) (s : State) : exec (.ptxtailWrite n value) s = execPtxtailWrite n value s := rfl
@[simp] theorem exec_prxtailWrite (n : Nat) (value : BitVec 32) (s : State) : exec (.prxtailWrite n value) s = execPrxtailWrite n value s := rfl
@[simp] theorem exec_frameSent (n : Nat) (bad : Bool) (s : State) : exec (.frameSent n bad) s = execFrameSent n bad s := rfl
@[simp] theorem exec_frameReceived (n : Nat) (bytes : List Byte) (bad : Bool) (s : State) : exec (.frameReceived n bytes bad) s = execFrameReceived n bytes bad s := rfl
@[simp] theorem exec_registerWrite (w : RegAccess) (s : State) : exec (.registerWrite w) s = execRegisterWrite w s := rfl
@[simp] theorem exec_hostWrite (w : HostWrite) (s : State) : exec (.hostWrite w) s = execHostWrite w s := rfl
@[simp] theorem exec_hostRead (r : HostRead) (s : State) : exec (.hostRead r) s = execHostRead r s := rfl
@[simp] theorem exec_dispatchDecision (part : Nat) (cores : List Nat) (s : State) : exec (.dispatchDecision part cores) s = execDispatchDecision part cores s := rfl
@[simp] theorem exec_sliceEnd (vd core : Nat) (s : State) : exec (.sliceEnd vd core) s = execSliceEnd vd core s := rfl
@[simp] theorem exec_damperWindowEnd (vd : Nat) (s : State) : exec (.damperWindowEnd vd) s = execDamperWindowEnd vd s := rfl
@[simp] theorem exec_bankPowerGate (core bank : Nat) (s : State) : exec (.bankPowerGate core bank) s = execBankPowerGate core bank s := rfl
@[simp] theorem exec_forwardProgressSwap (core : Nat) (s : State) : exec (.forwardProgressSwap core) s = execForwardProgressSwap core s := rfl
@[simp] theorem exec_queueWatchdog (q : Nat) (s : State) : exec (.queueWatchdog q) s = execQueueWatchdog q s := rfl
@[simp] theorem exec_sempollTick (vd : Nat) (s : State) : exec (.sempollTick vd) s = execSempollTick vd s := rfl
@[simp] theorem exec_waitsemTimeout (q : Nat) (s : State) : exec (.waitsemTimeout q) s = execWaitsemTimeout q s := rfl
@[simp] theorem exec_launchRecordComplete (q : Nat) (index : BitVec 32) (s : State) : exec (.launchRecordComplete q index) s = execLaunchRecordComplete q index s := rfl
@[simp] theorem exec_systemCopyComplete (q : Nat) (index : BitVec 32) (s : State) : exec (.systemCopyComplete q index) s = execSystemCopyComplete q index s := rfl
@[simp] theorem exec_fenceqComplete (q : Nat) (index : BitVec 32) (s : State) : exec (.fenceqComplete q index) s = execFenceqComplete q index s := rfl
@[simp] theorem exec_workgroupEnd (g : Nat) (s : State) : exec (.workgroupEnd g) s = execWorkgroupEnd g s := rfl
@[simp] theorem exec_gridEnd (grid : Nat) (s : State) : exec (.gridEnd grid) s = execGridEnd grid s := rfl
@[simp] theorem exec_loadComplete (a : AgentId) (op : LoadEnd) (s : State) : exec (.loadComplete a op) s = execLoadComplete a op s := rfl
@[simp] theorem exec_storeOrderingPoint (a : AgentId) (op : Nat) (s : State) : exec (.storeOrderingPoint a op) s = execStoreOrderingPoint a op s := rfl
@[simp] theorem exec_trackedStoreComplete (a : AgentId) (op : Nat) (s : State) : exec (.trackedStoreComplete a op) s = execTrackedStoreComplete a op s := rfl
@[simp] theorem exec_waitResume (a : AgentId) (s : State) : exec (.waitResume a) s = execWaitResume a s := rfl
@[simp] theorem exec_bwaitComplete (a : AgentId) (s : State) : exec (.bwaitComplete a) s = execBwaitComplete a s := rfl
@[simp] theorem exec_mwaitReread (a : AgentId) (s : State) : exec (.mwaitReread a) s = execMwaitReread a s := rfl
@[simp] theorem exec_qpopResume (a : AgentId) (s : State) : exec (.qpopResume a) s = execQpopResume a s := rfl
@[simp] theorem exec_qpushResume (a : AgentId) (s : State) : exec (.qpushResume a) s = execQpushResume a s := rfl
@[simp] theorem exec_queueOpComplete (a : AgentId) (op : Nat) (s : State) : exec (.queueOpComplete a op) s = execQueueOpComplete a op s := rfl
@[simp] theorem exec_tagWaitComplete (a : AgentId) (s : State) : exec (.tagWaitComplete a) s = execTagWaitComplete a s := rfl
@[simp] theorem exec_gstepResume (a : AgentId) (s : State) : exec (.gstepResume a) s = execGstepResume a s := rfl
@[simp] theorem exec_vldstepWake (a : AgentId) (op : Nat) (s : State) : exec (.vldstepWake a op) s = execVldstepWake a op s := rfl
@[simp] theorem exec_haloWaitExpire (a : AgentId) (op : Nat) (s : State) : exec (.haloWaitExpire a op) s = execHaloWaitExpire a op s := rfl
@[simp] theorem exec_copySectorComplete (g op sector : Nat) (s : State) : exec (.copySectorComplete g op sector) s = execCopySectorComplete g op sector s := rfl
@[simp] theorem exec_copyComplete (g op : Nat) (s : State) : exec (.copyComplete g op) s = execCopyComplete g op s := rfl
@[simp] theorem exec_copyDeferredStart (g op : Nat) (s : State) : exec (.copyDeferredStart g op) s = execCopyDeferredStart g op s := rfl
@[simp] theorem exec_streamPush (g slot : Nat) (s : State) : exec (.streamPush g slot) s = execStreamPush g slot s := rfl
@[simp] theorem exec_matrixOpStart (core : Nat) (s : State) : exec (.matrixOpStart core) s = execMatrixOpStart core s := rfl
@[simp] theorem exec_tileOpComplete (core : Nat) (op : TileEnd) (s : State) : exec (.tileOpComplete core op) s = execTileOpComplete core op s := rfl
@[simp] theorem exec_faultPostResume (vd : Nat) (s : State) : exec (.faultPostResume vd) s = execFaultPostResume vd s := rfl
@[simp] theorem exec_pageMigrationComplete (vd page : Nat) (s : State) : exec (.pageMigrationComplete vd page) s = execPageMigrationComplete vd page s := rfl
@[simp] theorem exec_parkedReplay (vd page : Nat) (s : State) : exec (.parkedReplay vd page) s = execParkedReplay vd page s := rfl
@[simp] theorem exec_handlerEntry (g : Nat) (s : State) : exec (.handlerEntry g) s = execHandlerEntry g s := rfl
@[simp] theorem exec_asyncTrap (g : Nat) (s : State) : exec (.asyncTrap g) s = execAsyncTrap g s := rfl
@[simp] theorem exec_sliceBudgetExpire (g : Nat) (s : State) : exec (.sliceBudgetExpire g) s = execSliceBudgetExpire g s := rfl
@[simp] theorem exec_contextSave (g : Nat) (s : State) : exec (.contextSave g) s = execContextSave g s := rfl
@[simp] theorem exec_gangKill (g : Nat) (s : State) : exec (.gangKill g) s = execGangKill g s := rfl
@[simp] theorem exec_gangRelaunch (grid gang : Nat) (s : State) : exec (.gangRelaunch grid gang) s = execGangRelaunch grid gang s := rfl
@[simp] theorem exec_engineDrained (vd : Nat) (e : Engine) (s : State) : exec (.engineDrained vd e) s = execEngineDrained vd e s := rfl
@[simp] theorem exec_sharedFrameRepair (slot page : Nat) (readable persistent : Bool) (s : State) : exec (.sharedFrameRepair slot page readable persistent) s = execSharedFrameRepair slot page readable persistent s := rfl
@[simp] theorem exec_irqCoalesceTimeout (entry : Nat) (s : State) : exec (.irqCoalesceTimeout entry) s = execIrqCoalesceTimeout entry s := rfl
@[simp] theorem exec_remoteRequest (r : RemoteRequest) (s : State) : exec (.remoteRequest r) s = execRemoteRequest r s := rfl
@[simp] theorem exec_remoteResponse (id : Nat) (r : RemoteReply) (s : State) : exec (.remoteResponse id r) s = execRemoteResponse id r s := rfl
@[simp] theorem exec_remoteLoadTimeout (id : Nat) (s : State) : exec (.remoteLoadTimeout id) s = execRemoteLoadTimeout id s := rfl
@[simp] theorem exec_remoteWriteFailure (id : Nat) (s : State) : exec (.remoteWriteFailure id) s = execRemoteWriteFailure id s := rfl
@[simp] theorem exec_wcAgeFlush (core : Nat) (entry : Nat) (s : State) : exec (.wcAgeFlush core entry) s = execWcAgeFlush core entry s := rfl
@[simp] theorem exec_stationStateChange (n : Nat) (state : StationState) (s : State) : exec (.stationStateChange n state) s = execStationStateChange n state s := rfl
@[simp] theorem exec_channelSeal (station peer : Nat) (s : State) : exec (.channelSeal station peer) s = execChannelSeal station peer s := rfl
@[simp] theorem exec_sealedFlitReceive (station peer : Nat) (f : Flit) (s : State) : exec (.sealedFlitReceive station peer f) s = execSealedFlitReceive station peer f s := rfl
@[simp] theorem exec_sealedAckTimer (station peer : Nat) (s : State) : exec (.sealedAckTimer station peer) s = execSealedAckTimer station peer s := rfl
@[simp] theorem exec_flitResendTimeout (station peer : Nat) (s : State) : exec (.flitResendTimeout station peer) s = execFlitResendTimeout station peer s := rfl
@[simp] theorem exec_keyRollover (station peer : Nat) (s : State) : exec (.keyRollover station peer) s = execKeyRollover station peer s := rfl
@[simp] theorem exec_fluePush (die part : Nat) (push : FlueMove) (s : State) : exec (.fluePush die part push) s = execFluePush die part push s := rfl
@[simp] theorem exec_slabRetag (die : Nat) (part face : Nat) (s : State) : exec (.slabRetag die part face) s = execSlabRetag die part face s := rfl
@[simp] theorem exec_flueCounterUpdate (station source : Nat) (dest : FlueDest) (note : FlueNote) (s : State) : exec (.flueCounterUpdate station source dest note) s = execFlueCounterUpdate station source dest note s := rfl
@[simp] theorem exec_gstepCredit (die part : Nat) (s : State) : exec (.gstepCredit die part) s = execGstepCredit die part s := rfl
@[simp] theorem exec_flueStateDelete (die part : Nat) (s : State) : exec (.flueStateDelete die part) s = execFlueStateDelete die part s := rfl
@[simp] theorem exec_heartbeatExpire (core : Nat) (s : State) : exec (.heartbeatExpire core) s = execHeartbeatExpire core s := rfl
@[simp] theorem exec_takeoverHandover (pair : Nat) (s : State) : exec (.takeoverHandover pair) s = execTakeoverHandover pair s := rfl
@[simp] theorem exec_controlTimerTick (s : State) : exec .controlTimerTick s = execControlTimerTick s := rfl
@[simp] theorem exec_coreReloadComplete (core : Nat) (image : List Byte) (works : Bool) (s : State) : exec (.coreReloadComplete core image works) s = execCoreReloadComplete core image works s := rfl
@[simp] theorem exec_securityCoreRestart (image : SignedImage) (s : State) : exec (.securityCoreRestart image) s = execSecurityCoreRestart image s := rfl
@[simp] theorem exec_fusedSoftmax (o : FusedOp) (s : State) : exec (.fusedSoftmax o) s = execFusedSoftmax o s := rfl
@[simp] theorem exec_nop (s : State) : exec .nop s = execNop s := rfl
@[simp] theorem exec_exit (s : State) : exec .exit s = execExit s := rfl
@[simp] theorem exec_yield (s : State) : exec .yield s = execYield s := rfl
@[simp] theorem exec_trap (code : BitVec 16) (s : State) : exec (.trap code) s = execTrap code s := rfl
@[simp] theorem exec_tret (s : State) : exec .tret s = execTret s := rfl
@[simp] theorem exec_prio (n : BitVec 3) (s : State) : exec (.prio n) s = execPrio n s := rfl
@[simp] theorem exec_wait (o : WaitOp) (s : State) : exec (.wait o) s = execWait o s := rfl
@[simp] theorem exec_launch (sd sa : Reg) (s : State) : exec (.launch sd sa) s = execLaunch sd sa s := rfl
@[simp] theorem exec_halt (s : State) : exec .halt s = execHalt s := rfl
@[simp] theorem exec_wfi (s : State) : exec .wfi s = execWfi s := rfl
@[simp] theorem exec_srd (sd : Reg) (num : BitVec 12) (s : State) : exec (.srd sd num) s = execSrd sd num s := rfl
@[simp] theorem exec_swr (sa : Reg) (num : BitVec 12) (s : State) : exec (.swr sa num) s = execSwr sa num s := rfl
@[simp] theorem exec_sadd (o : GS) (s : State) : exec (.sadd o) s = execSadd o s := rfl
@[simp] theorem exec_ssub (o : GS) (s : State) : exec (.ssub o) s = execSsub o s := rfl
@[simp] theorem exec_smul (o : GS) (s : State) : exec (.smul o) s = execSmul o s := rfl
@[simp] theorem exec_smulhS (o : GS) (s : State) : exec (.smulhS o) s = execSmulhS o s := rfl
@[simp] theorem exec_smulhN (o : GS) (s : State) : exec (.smulhN o) s = execSmulhN o s := rfl
@[simp] theorem exec_sdivS (o : GS) (s : State) : exec (.sdivS o) s = execSdivS o s := rfl
@[simp] theorem exec_sdivN (o : GS) (s : State) : exec (.sdivN o) s = execSdivN o s := rfl
@[simp] theorem exec_sremS (o : GS) (s : State) : exec (.sremS o) s = execSremS o s := rfl
@[simp] theorem exec_sremN (o : GS) (s : State) : exec (.sremN o) s = execSremN o s := rfl
@[simp] theorem exec_sand (o : GS) (s : State) : exec (.sand o) s = execSand o s := rfl
@[simp] theorem exec_sor (o : GS) (s : State) : exec (.sor o) s = execSor o s := rfl
@[simp] theorem exec_sxor (o : GS) (s : State) : exec (.sxor o) s = execSxor o s := rfl
@[simp] theorem exec_sandn (o : GS) (s : State) : exec (.sandn o) s = execSandn o s := rfl
@[simp] theorem exec_sshl (o : GS) (s : State) : exec (.sshl o) s = execSshl o s := rfl
@[simp] theorem exec_sshrS (o : GS) (s : State) : exec (.sshrS o) s = execSshrS o s := rfl
@[simp] theorem exec_sshrN (o : GS) (s : State) : exec (.sshrN o) s = execSshrN o s := rfl
@[simp] theorem exec_srotr (o : GS) (s : State) : exec (.srotr o) s = execSrotr o s := rfl
@[simp] theorem exec_sminS (o : GS) (s : State) : exec (.sminS o) s = execSminS o s := rfl
@[simp] theorem exec_sminN (o : GS) (s : State) : exec (.sminN o) s = execSminN o s := rfl
@[simp] theorem exec_smaxS (o : GS) (s : State) : exec (.smaxS o) s = execSmaxS o s := rfl
@[simp] theorem exec_smaxN (o : GS) (s : State) : exec (.smaxN o) s = execSmaxN o s := rfl
@[simp] theorem exec_sclz (o : GS) (s : State) : exec (.sclz o) s = execSclz o s := rfl
@[simp] theorem exec_sffs (o : GS) (s : State) : exec (.sffs o) s = execSffs o s := rfl
@[simp] theorem exec_spopc (o : GS) (s : State) : exec (.spopc o) s = execSpopc o s := rfl
@[simp] theorem exec_sbrev (o : GS) (s : State) : exec (.sbrev o) s = execSbrev o s := rfl
@[simp] theorem exec_ssel (o : GS) (s : State) : exec (.ssel o) s = execSsel o s := rfl
@[simp] theorem exec_scmp (o : GS) (s : State) : exec (.scmp o) s = execScmp o s := rfl
@[simp] theorem exec_sext (o : GS) (s : State) : exec (.sext o) s = execSext o s := rfl
@[simp] theorem exec_smov (o : GS) (s : State) : exec (.smov o) s = execSmov o s := rfl
@[simp] theorem exec_sbfx (o : GS) (s : State) : exec (.sbfx o) s = execSbfx o s := rfl
@[simp] theorem exec_sbfi (o : GS) (s : State) : exec (.sbfi o) s = execSbfi o s := rfl
@[simp] theorem exec_smad (o : GS) (s : State) : exec (.smad o) s = execSmad o s := rfl
@[simp] theorem exec_saddi (o : GSI) (s : State) : exec (.saddi o) s = execSaddi o s := rfl
@[simp] theorem exec_sandi (o : GSI) (s : State) : exec (.sandi o) s = execSandi o s := rfl
@[simp] theorem exec_sori (o : GSI) (s : State) : exec (.sori o) s = execSori o s := rfl
@[simp] theorem exec_sxori (o : GSI) (s : State) : exec (.sxori o) s = execSxori o s := rfl
@[simp] theorem exec_sshli (o : GSI) (s : State) : exec (.sshli o) s = execSshli o s := rfl
@[simp] theorem exec_sshriS (o : GSI) (s : State) : exec (.sshriS o) s = execSshriS o s := rfl
@[simp] theorem exec_sshriN (o : GSI) (s : State) : exec (.sshriN o) s = execSshriN o s := rfl
@[simp] theorem exec_sli (o : GSI) (s : State) : exec (.sli o) s = execSli o s := rfl
@[simp] theorem exec_slih (o : GSI) (s : State) : exec (.slih o) s = execSlih o s := rfl
@[simp] theorem exec_scmpi (o : GSI) (s : State) : exec (.scmpi o) s = execScmpi o s := rfl
@[simp] theorem exec_br (o : GB) (s : State) : exec (.br o) s = execBr o s := rfl
@[simp] theorem exec_brz (o : GB) (s : State) : exec (.brz o) s = execBrz o s := rfl
@[simp] theorem exec_brnz (o : GB) (s : State) : exec (.brnz o) s = execBrnz o s := rfl
@[simp] theorem exec_brc (o : GB) (s : State) : exec (.brc o) s = execBrc o s := rfl
@[simp] theorem exec_call (o : GB) (s : State) : exec (.call o) s = execCall o s := rfl
@[simp] theorem exec_jmpr (o : GB) (s : State) : exec (.jmpr o) s = execJmpr o s := rfl
@[simp] theorem exec_callr (o : GB) (s : State) : exec (.callr o) s = execCallr o s := rfl
@[simp] theorem exec_ret (o : GB) (s : State) : exec (.ret o) s = execRet o s := rfl
@[simp] theorem exec_brp (o : GB) (s : State) : exec (.brp o) s = execBrp o s := rfl
@[simp] theorem exec_loop (o : GB) (s : State) : exec (.loop o) s = execLoop o s := rfl
@[simp] theorem exec_sld (o : GSI) (s : State) : exec (.sld o) s = execSld o s := rfl
@[simp] theorem exec_sst (o : GSI) (s : State) : exec (.sst o) s = execSst o s := rfl
@[simp] theorem exec_satom (o : GS) (s : State) : exec (.satom o) s = execSatom o s := rfl
@[simp] theorem exec_vadd (o : GV) (s : State) : exec (.vadd o) s = execVadd o s := rfl
@[simp] theorem exec_vsub (o : GV) (s : State) : exec (.vsub o) s = execVsub o s := rfl
@[simp] theorem exec_vmul (o : GV) (s : State) : exec (.vmul o) s = execVmul o s := rfl
@[simp] theorem exec_vmulh (o : GV) (s : State) : exec (.vmulh o) s = execVmulh o s := rfl
@[simp] theorem exec_vmad (o : GV) (s : State) : exec (.vmad o) s = execVmad o s := rfl
@[simp] theorem exec_vadds (o : GV) (s : State) : exec (.vadds o) s = execVadds o s := rfl
@[simp] theorem exec_vsubs (o : GV) (s : State) : exec (.vsubs o) s = execVsubs o s := rfl
@[simp] theorem exec_vabsd (o : GV) (s : State) : exec (.vabsd o) s = execVabsd o s := rfl
@[simp] theorem exec_vmin (o : GV) (s : State) : exec (.vmin o) s = execVmin o s := rfl
@[simp] theorem exec_vmax (o : GV) (s : State) : exec (.vmax o) s = execVmax o s := rfl
@[simp] theorem exec_vand (o : GV) (s : State) : exec (.vand o) s = execVand o s := rfl
@[simp] theorem exec_vor (o : GV) (s : State) : exec (.vor o) s = execVor o s := rfl
@[simp] theorem exec_vxor (o : GV) (s : State) : exec (.vxor o) s = execVxor o s := rfl
@[simp] theorem exec_vandn (o : GV) (s : State) : exec (.vandn o) s = execVandn o s := rfl
@[simp] theorem exec_vnot (o : GV) (s : State) : exec (.vnot o) s = execVnot o s := rfl
@[simp] theorem exec_vshl (o : GV) (s : State) : exec (.vshl o) s = execVshl o s := rfl
@[simp] theorem exec_vshr (o : GV) (s : State) : exec (.vshr o) s = execVshr o s := rfl
@[simp] theorem exec_vrotr (o : GV) (s : State) : exec (.vrotr o) s = execVrotr o s := rfl
@[simp] theorem exec_vclz (o : GV) (s : State) : exec (.vclz o) s = execVclz o s := rfl
@[simp] theorem exec_vffs (o : GV) (s : State) : exec (.vffs o) s = execVffs o s := rfl
@[simp] theorem exec_vpopc (o : GV) (s : State) : exec (.vpopc o) s = execVpopc o s := rfl
@[simp] theorem exec_vbrev (o : GV) (s : State) : exec (.vbrev o) s = execVbrev o s := rfl
@[simp] theorem exec_vsel (o : GV) (s : State) : exec (.vsel o) s = execVsel o s := rfl
@[simp] theorem exec_vcmp (o : GV) (s : State) : exec (.vcmp o) s = execVcmp o s := rfl
@[simp] theorem exec_vaddmin (o : GV) (s : State) : exec (.vaddmin o) s = execVaddmin o s := rfl
@[simp] theorem exec_vbfx (o : GV) (s : State) : exec (.vbfx o) s = execVbfx o s := rfl
@[simp] theorem exec_vbfi (o : GV) (s : State) : exec (.vbfi o) s = execVbfi o s := rfl
@[simp] theorem exec_vmov (o : GV) (s : State) : exec (.vmov o) s = execVmov o s := rfl
@[simp] theorem exec_vsrd (o : GV) (s : State) : exec (.vsrd o) s = execVsrd o s := rfl
@[simp] theorem exec_vintiVadd (o : GVI) (s : State) : exec (.vintiVadd o) s = execVintiVadd o s := rfl
@[simp] theorem exec_vintiVand (o : GVI) (s : State) : exec (.vintiVand o) s = execVintiVand o s := rfl
@[simp] theorem exec_vintiVor (o : GVI) (s : State) : exec (.vintiVor o) s = execVintiVor o s := rfl
@[simp] theorem exec_vintiVxor (o : GVI) (s : State) : exec (.vintiVxor o) s = execVintiVxor o s := rfl
@[simp] theorem exec_vintiVshl (o : GVI) (s : State) : exec (.vintiVshl o) s = execVintiVshl o s := rfl
@[simp] theorem exec_vintiVshr (o : GVI) (s : State) : exec (.vintiVshr o) s = execVintiVshr o s := rfl
@[simp] theorem exec_vintiVmin (o : GVI) (s : State) : exec (.vintiVmin o) s = execVintiVmin o s := rfl
@[simp] theorem exec_vintiVmax (o : GVI) (s : State) : exec (.vintiVmax o) s = execVintiVmax o s := rfl
@[simp] theorem exec_vintiVcmp (o : GVI) (s : State) : exec (.vintiVcmp o) s = execVintiVcmp o s := rfl
@[simp] theorem exec_vmovi (o : GVI) (s : State) : exec (.vmovi o) s = execVmovi o s := rfl
@[simp] theorem exec_vintiVaddmin (o : GVI) (s : State) : exec (.vintiVaddmin o) s = execVintiVaddmin o s := rfl
@[simp] theorem exec_fadd (o : GV) (s : State) : exec (.fadd o) s = execFadd o s := rfl
@[simp] theorem exec_fsub (o : GV) (s : State) : exec (.fsub o) s = execFsub o s := rfl
@[simp] theorem exec_fmul (o : GV) (s : State) : exec (.fmul o) s = execFmul o s := rfl
@[simp] theorem exec_ffma (o : GV) (s : State) : exec (.ffma o) s = execFfma o s := rfl
@[simp] theorem exec_ffms (o : GV) (s : State) : exec (.ffms o) s = execFfms o s := rfl
@[simp] theorem exec_fmin (o : GV) (s : State) : exec (.fmin o) s = execFmin o s := rfl
@[simp] theorem exec_fmax (o : GV) (s : State) : exec (.fmax o) s = execFmax o s := rfl
@[simp] theorem exec_fabs (o : GV) (s : State) : exec (.fabs o) s = execFabs o s := rfl
@[simp] theorem exec_fneg (o : GV) (s : State) : exec (.fneg o) s = execFneg o s := rfl
@[simp] theorem exec_fcmp (o : GV) (s : State) : exec (.fcmp o) s = execFcmp o s := rfl
@[simp] theorem exec_fclass (o : GV) (s : State) : exec (.fclass o) s = execFclass o s := rfl
@[simp] theorem exec_fscaleb (o : GV) (s : State) : exec (.fscaleb o) s = execFscaleb o s := rfl
@[simp] theorem exec_frnd (o : GV) (s : State) : exec (.frnd o) s = execFrnd o s := rfl
@[simp] theorem exec_fdiv (o : GV) (s : State) : exec (.fdiv o) s = execFdiv o s := rfl
@[simp] theorem exec_faddmin (o : GV) (s : State) : exec (.faddmin o) s = execFaddmin o s := rfl
@[simp] theorem exec_cvt (o : GV) (s : State) : exec (.cvt o) s = execCvt o s := rfl
@[simp] theorem exec_pack (o : GV) (s : State) : exec (.pack o) s = execPack o s := rfl
@[simp] theorem exec_unpack (o : GV) (s : State) : exec (.unpack o) s = execUnpack o s := rfl
@[simp] theorem exec_mxscale (o : GV) (s : State) : exec (.mxscale o) s = execMxscale o s := rfl
@[simp] theorem exec_vshfl (o : GV) (s : State) : exec (.vshfl o) s = execVshfl o s := rfl
@[simp] theorem exec_vshup (o : GV) (s : State) : exec (.vshup o) s = execVshup o s := rfl
@[simp] theorem exec_vshdn (o : GV) (s : State) : exec (.vshdn o) s = execVshdn o s := rfl
@[simp] theorem exec_vrotw (o : GV) (s : State) : exec (.vrotw o) s = execVrotw o s := rfl
@[simp] theorem exec_vbcast (o : GV) (s : State) : exec (.vbcast o) s = execVbcast o s := rfl
@[simp] theorem exec_vreduce (o : GV) (s : State) : exec (.vreduce o) s = execVreduce o s := rfl
@[simp] theorem exec_vscan (o : GV) (s : State) : exec (.vscan o) s = execVscan o s := rfl
@[simp] theorem exec_qswap (o : GV) (s : State) : exec (.qswap o) s = execQswap o s := rfl
@[simp] theorem exec_qbcast (o : GV) (s : State) : exec (.qbcast o) s = execQbcast o s := rfl
@[simp] theorem exec_vballot (o : GV) (s : State) : exec (.vballot o) s = execVballot o s := rfl
@[simp] theorem exec_vvote (o : GV) (s : State) : exec (.vvote o) s = execVvote o s := rfl
@[simp] theorem exec_vmatch (o : GV) (s : State) : exec (.vmatch o) s = execVmatch o s := rfl
@[simp] theorem exec_pand (o : GV) (s : State) : exec (.pand o) s = execPand o s := rfl
@[simp] theorem exec_por (o : GV) (s : State) : exec (.por o) s = execPor o s := rfl
@[simp] theorem exec_pxor (o : GV) (s : State) : exec (.pxor o) s = execPxor o s := rfl
@[simp] theorem exec_pnot (o : GV) (s : State) : exec (.pnot o) s = execPnot o s := rfl
@[simp] theorem exec_pset (o : GV) (s : State) : exec (.pset o) s = execPset o s := rfl
@[simp] theorem exec_pget (o : GV) (s : State) : exec (.pget o) s = execPget o s := rfl
@[simp] theorem exec_frcp (o : GV) (s : State) : exec (.frcp o) s = execFrcp o s := rfl
@[simp] theorem exec_frsq (o : GV) (s : State) : exec (.frsq o) s = execFrsq o s := rfl
@[simp] theorem exec_fsqrt (o : GV) (s : State) : exec (.fsqrt o) s = execFsqrt o s := rfl
@[simp] theorem exec_fexp2 (o : GV) (s : State) : exec (.fexp2 o) s = execFexp2 o s := rfl
@[simp] theorem exec_flog2 (o : GV) (s : State) : exec (.flog2 o) s = execFlog2 o s := rfl
@[simp] theorem exec_fsin (o : GV) (s : State) : exec (.fsin o) s = execFsin o s := rfl
@[simp] theorem exec_fcos (o : GV) (s : State) : exec (.fcos o) s = execFcos o s := rfl
@[simp] theorem exec_ftanh (o : GV) (s : State) : exec (.ftanh o) s = execFtanh o s := rfl
@[simp] theorem exec_vld (o : GM) (s : State) : exec (.vld o) s = execVld o s := rfl
@[simp] theorem exec_vst (o : GM) (s : State) : exec (.vst o) s = execVst o s := rfl
@[simp] theorem exec_vgather (o : GM) (s : State) : exec (.vgather o) s = execVgather o s := rfl
@[simp] theorem exec_vscatter (o : GM) (s : State) : exec (.vscatter o) s = execVscatter o s := rfl
@[simp] theorem exec_vldstep (o : GM) (s : State) : exec (.vldstep o) s = execVldstep o s := rfl
@[simp] theorem exec_vpref (o : GM) (s : State) : exec (.vpref o) s = execVpref o s := rfl
@[simp] theorem exec_vspill (o : GM) (s : State) : exec (.vspill o) s = execVspill o s := rfl
@[simp] theorem exec_vfill (o : GM) (s : State) : exec (.vfill o) s = execVfill o s := rfl
@[simp] theorem exec_vatom (o : GM) (s : State) : exec (.vatom o) s = execVatom o s := rfl
@[simp] theorem exec_vred (o : GM) (s : State) : exec (.vred o) s = execVred o s := rfl
@[simp] theorem exec_fence (o : GS) (s : State) : exec (.fence o) s = execFence o s := rfl
@[simp] theorem exec_binit (o : GS) (s : State) : exec (.binit o) s = execBinit o s := rfl
@[simp] theorem exec_barrive (o : GS) (s : State) : exec (.barrive o) s = execBarrive o s := rfl
@[simp] theorem exec_bwait (o : GS) (s : State) : exec (.bwait o) s = execBwait o s := rfl
@[simp] theorem exec_btest (o : GS) (s : State) : exec (.btest o) s = execBtest o s := rfl
@[simp] theorem exec_wsync (o : GS) (s : State) : exec (.wsync o) s = execWsync o s := rfl
@[simp] theorem exec_cvinit (o : GS) (s : State) : exec (.cvinit o) s = execCvinit o s := rfl
@[simp] theorem exec_mwait (o : GS) (s : State) : exec (.mwait o) s = execMwait o s := rfl
@[simp] theorem exec_qpush (o : GV) (s : State) : exec (.qpush o) s = execQpush o s := rfl
@[simp] theorem exec_qpop (o : GV) (s : State) : exec (.qpop o) s = execQpop o s := rfl
@[simp] theorem exec_qpops (o : GV) (s : State) : exec (.qpops o) s = execQpops o s := rfl
@[simp] theorem exec_qstat (o : GV) (s : State) : exec (.qstat o) s = execQstat o s := rfl
@[simp] theorem exec_mma (o : GMM) (s : State) : exec (.mma o) s = execMma o s := rfl
@[simp] theorem exec_mmas (o : GMM) (s : State) : exec (.mmas o) s = execMmas o s := rfl
@[simp] theorem exec_mmai (o : GMM) (s : State) : exec (.mmai o) s = execMmai o s := rfl
@[simp] theorem exec_mmax (o : GMM) (s : State) : exec (.mmax o) s = execMmax o s := rfl
@[simp] theorem exec_awin (o : GMM) (s : State) : exec (.awin o) s = execAwin o s := rfl
@[simp] theorem exec_azero (o : GMM) (s : State) : exec (.azero o) s = execAzero o s := rfl
@[simp] theorem exec_ald (o : GMM) (s : State) : exec (.ald o) s = execAld o s := rfl
@[simp] theorem exec_ast (o : GMM) (s : State) : exec (.ast o) s = execAst o s := rfl
@[simp] theorem exec_arstat (o : GMM) (s : State) : exec (.arstat o) s = execArstat o s := rfl
@[simp] theorem exec_cpy (o : GK) (s : State) : exec (.cpy o) s = execCpy o s := rfl
@[simp] theorem exec_cpyg (o : GK) (s : State) : exec (.cpyg o) s = execCpyg o s := rfl
@[simp] theorem exec_cpyz (o : GK) (s : State) : exec (.cpyz o) s = execCpyz o s := rfl
@[simp] theorem exec_sealRecord (o : GK) (s : State) : exec (.sealRecord o) s = execSealRecord o s := rfl
@[simp] theorem exec_strdef (o : GK) (s : State) : exec (.strdef o) s = execStrdef o s := rfl
@[simp] theorem exec_strrun (o : GK) (s : State) : exec (.strrun o) s = execStrrun o s := rfl
@[simp] theorem exec_twany (o : GK) (s : State) : exec (.twany o) s = execTwany o s := rfl
@[simp] theorem exec_twall (o : GK) (s : State) : exec (.twall o) s = execTwall o s := rfl
@[simp] theorem exec_tfirst (o : GK) (s : State) : exec (.tfirst o) s = execTfirst o s := rfl
@[simp] theorem exec_tclr (o : GK) (s : State) : exec (.tclr o) s = execTclr o s := rfl
@[simp] theorem exec_gattach (o : GK) (s : State) : exec (.gattach o) s = execGattach o s := rfl
@[simp] theorem exec_gstep (o : GK) (s : State) : exec (.gstep o) s = execGstep o s := rfl
@[simp] theorem exec_gstat (o : GK) (s : State) : exec (.gstat o) s = execGstat o s := rfl
@[simp] theorem exec_gdetach (o : GK) (s : State) : exec (.gdetach o) s = execGdetach o s := rfl
@[simp] theorem exec_kscan (o : GS) (s : State) : exec (.kscan o) s = execKscan o s := rfl
@[simp] theorem exec_jappend (o : GS) (s : State) : exec (.jappend o) s = execJappend o s := rfl
@[simp] theorem exec_jread (o : GS) (s : State) : exec (.jread o) s = execJread o s := rfl
@[simp] theorem exec_vdrd (o : GS) (s : State) : exec (.vdrd o) s = execVdrd o s := rfl
@[simp] theorem exec_vdwr (o : GS) (s : State) : exec (.vdwr o) s = execVdwr o s := rfl
@[simp] theorem exec_qrd (o : GS) (s : State) : exec (.qrd o) s = execQrd o s := rfl
@[simp] theorem exec_qwr (o : GS) (s : State) : exec (.qwr o) s = execQwr o s := rfl
@[simp] theorem exec_irtrd (o : GS) (s : State) : exec (.irtrd o) s = execIrtrd o s := rfl
@[simp] theorem exec_irtwr (o : GS) (s : State) : exec (.irtwr o) s = execIrtwr o s := rfl
@[simp] theorem exec_vdcmdStart (o : GS) (s : State) : exec (.vdcmdStart o) s = execVdcmdStart o s := rfl
@[simp] theorem exec_vdcmdRetire (o : GS) (s : State) : exec (.vdcmdRetire o) s = execVdcmdRetire o s := rfl
@[simp] theorem exec_vdcmdKill (o : GS) (s : State) : exec (.vdcmdKill o) s = execVdcmdKill o s := rfl
@[simp] theorem exec_irqsend (o : GS) (s : State) : exec (.irqsend o) s = execIrqsend o s := rfl
@[simp] theorem exec_chold (o : GS) (s : State) : exec (.chold o) s = execChold o s := rfl
@[simp] theorem exec_crelease (o : GS) (s : State) : exec (.crelease o) s = execCrelease o s := rfl
@[simp] theorem exec_cMov (o : CV) (s : State) : exec (.cMov o) s = execCMov o s := rfl
@[simp] theorem exec_cAddS32 (o : CV) (s : State) : exec (.cAddS32 o) s = execCAddS32 o s := rfl
@[simp] theorem exec_cSubS32 (o : CV) (s : State) : exec (.cSubS32 o) s = execCSubS32 o s := rfl
@[simp] theorem exec_cAnd (o : CV) (s : State) : exec (.cAnd o) s = execCAnd o s := rfl
@[simp] theorem exec_cOr (o : CV) (s : State) : exec (.cOr o) s = execCOr o s := rfl
@[simp] theorem exec_cXor (o : CV) (s : State) : exec (.cXor o) s = execCXor o s := rfl
@[simp] theorem exec_cShlN32 (o : CV) (s : State) : exec (.cShlN32 o) s = execCShlN32 o s := rfl
@[simp] theorem exec_cShrN32 (o : CV) (s : State) : exec (.cShrN32 o) s = execCShrN32 o s := rfl
@[simp] theorem exec_cFaddF32 (o : CV) (s : State) : exec (.cFaddF32 o) s = execCFaddF32 o s := rfl
@[simp] theorem exec_cFsubF32 (o : CV) (s : State) : exec (.cFsubF32 o) s = execCFsubF32 o s := rfl
@[simp] theorem exec_cFmulF32 (o : CV) (s : State) : exec (.cFmulF32 o) s = execCFmulF32 o s := rfl
@[simp] theorem exec_cFminF32 (o : CV) (s : State) : exec (.cFminF32 o) s = execCFminF32 o s := rfl
@[simp] theorem exec_cFmaxF32 (o : CV) (s : State) : exec (.cFmaxF32 o) s = execCFmaxF32 o s := rfl
@[simp] theorem exec_cMinS32 (o : CV) (s : State) : exec (.cMinS32 o) s = execCMinS32 o s := rfl
@[simp] theorem exec_cMaxS32 (o : CV) (s : State) : exec (.cMaxS32 o) s = execCMaxS32 o s := rfl
@[simp] theorem exec_cNot (o : CV) (s : State) : exec (.cNot o) s = execCNot o s := rfl
@[simp] theorem exec_nopShort (s : State) : exec .nopShort s = execNopShort s := rfl
@[simp] theorem exec_exitShort (s : State) : exec .exitShort s = execExitShort s := rfl
@[simp] theorem exec_yieldShort (s : State) : exec .yieldShort s = execYieldShort s := rfl
@[simp] theorem exec_trapShort (code : BitVec 16) (s : State) : exec (.trapShort code) s = execTrapShort code s := rfl
@[simp] theorem exec_tretShort (s : State) : exec .tretShort s = execTretShort s := rfl
@[simp] theorem exec_prioShort (n : BitVec 3) (s : State) : exec (.prioShort n) s = execPrioShort n s := rfl
@[simp] theorem exec_haltShort (s : State) : exec .haltShort s = execHaltShort s := rfl
@[simp] theorem exec_wfiShort (s : State) : exec .wfiShort s = execWfiShort s := rfl
@[simp] theorem exec_vaddS32Short (o : SV3) (s : State) : exec (.vaddS32Short o) s = execVaddS32Short o s := rfl
@[simp] theorem exec_vsubS32Short (o : SV3) (s : State) : exec (.vsubS32Short o) s = execVsubS32Short o s := rfl
@[simp] theorem exec_vmulS32Short (o : SV3) (s : State) : exec (.vmulS32Short o) s = execVmulS32Short o s := rfl
@[simp] theorem exec_vminS32Short (o : SV3) (s : State) : exec (.vminS32Short o) s = execVminS32Short o s := rfl
@[simp] theorem exec_vmaxS32Short (o : SV3) (s : State) : exec (.vmaxS32Short o) s = execVmaxS32Short o s := rfl
@[simp] theorem exec_vminN32Short (o : SV3) (s : State) : exec (.vminN32Short o) s = execVminN32Short o s := rfl
@[simp] theorem exec_vmaxN32Short (o : SV3) (s : State) : exec (.vmaxN32Short o) s = execVmaxN32Short o s := rfl
@[simp] theorem exec_vandShort (o : SV3) (s : State) : exec (.vandShort o) s = execVandShort o s := rfl
@[simp] theorem exec_vorShort (o : SV3) (s : State) : exec (.vorShort o) s = execVorShort o s := rfl
@[simp] theorem exec_vxorShort (o : SV3) (s : State) : exec (.vxorShort o) s = execVxorShort o s := rfl
@[simp] theorem exec_vshlN32Short (o : SV3) (s : State) : exec (.vshlN32Short o) s = execVshlN32Short o s := rfl
@[simp] theorem exec_vshrN32Short (o : SV3) (s : State) : exec (.vshrN32Short o) s = execVshrN32Short o s := rfl
@[simp] theorem exec_vshrS32Short (o : SV3) (s : State) : exec (.vshrS32Short o) s = execVshrS32Short o s := rfl
@[simp] theorem exec_faddF32Short (o : SV3) (s : State) : exec (.faddF32Short o) s = execFaddF32Short o s := rfl
@[simp] theorem exec_fsubF32Short (o : SV3) (s : State) : exec (.fsubF32Short o) s = execFsubF32Short o s := rfl
@[simp] theorem exec_fmulF32Short (o : SV3) (s : State) : exec (.fmulF32Short o) s = execFmulF32Short o s := rfl
@[simp] theorem exec_fminF32Short (o : SV3) (s : State) : exec (.fminF32Short o) s = execFminF32Short o s := rfl
@[simp] theorem exec_fmaxF32Short (o : SV3) (s : State) : exec (.fmaxF32Short o) s = execFmaxF32Short o s := rfl
@[simp] theorem exec_faddBf16x2Short (o : SV3) (s : State) : exec (.faddBf16x2Short o) s = execFaddBf16x2Short o s := rfl
@[simp] theorem exec_fmulBf16x2Short (o : SV3) (s : State) : exec (.fmulBf16x2Short o) s = execFmulBf16x2Short o s := rfl
@[simp] theorem exec_vselShort (o : SV3) (s : State) : exec (.vselShort o) s = execVselShort o s := rfl
@[simp] theorem exec_vshflShort (o : SV3) (s : State) : exec (.vshflShort o) s = execVshflShort o s := rfl
@[simp] theorem exec_vaddminS32Short (o : SV3) (s : State) : exec (.vaddminS32Short o) s = execVaddminS32Short o s := rfl
@[simp] theorem exec_ffmaF32Short (o : SV3) (s : State) : exec (.ffmaF32Short o) s = execFfmaF32Short o s := rfl
@[simp] theorem exec_ffmaBf16x2Short (o : SV3) (s : State) : exec (.ffmaBf16x2Short o) s = execFfmaBf16x2Short o s := rfl
@[simp] theorem exec_vcmpLtS32Short (o : SV3) (s : State) : exec (.vcmpLtS32Short o) s = execVcmpLtS32Short o s := rfl
@[simp] theorem exec_fcmpLtF32Short (o : SV3) (s : State) : exec (.fcmpLtF32Short o) s = execFcmpLtF32Short o s := rfl
@[simp] theorem exec_vintiVaddShort (o : SVI) (s : State) : exec (.vintiVaddShort o) s = execVintiVaddShort o s := rfl
@[simp] theorem exec_vintiVandShort (o : SVI) (s : State) : exec (.vintiVandShort o) s = execVintiVandShort o s := rfl
@[simp] theorem exec_vintiVshlShort (o : SVI) (s : State) : exec (.vintiVshlShort o) s = execVintiVshlShort o s := rfl
@[simp] theorem exec_vintiVshrN32Short (o : SVI) (s : State) : exec (.vintiVshrN32Short o) s = execVintiVshrN32Short o s := rfl
@[simp] theorem exec_vintiVshrS32Short (o : SVI) (s : State) : exec (.vintiVshrS32Short o) s = execVintiVshrS32Short o s := rfl
@[simp] theorem exec_vintiVminShort (o : SVI) (s : State) : exec (.vintiVminShort o) s = execVintiVminShort o s := rfl
@[simp] theorem exec_vintiVmaxShort (o : SVI) (s : State) : exec (.vintiVmaxShort o) s = execVintiVmaxShort o s := rfl
@[simp] theorem exec_vintiVcmpEqShort (o : SVI) (s : State) : exec (.vintiVcmpEqShort o) s = execVintiVcmpEqShort o s := rfl
@[simp] theorem exec_saddShort (o : SS3) (s : State) : exec (.saddShort o) s = execSaddShort o s := rfl
@[simp] theorem exec_ssubShort (o : SS3) (s : State) : exec (.ssubShort o) s = execSsubShort o s := rfl
@[simp] theorem exec_smulShort (o : SS3) (s : State) : exec (.smulShort o) s = execSmulShort o s := rfl
@[simp] theorem exec_smulhSShort (o : SS3) (s : State) : exec (.smulhSShort o) s = execSmulhSShort o s := rfl
@[simp] theorem exec_smulhNShort (o : SS3) (s : State) : exec (.smulhNShort o) s = execSmulhNShort o s := rfl
@[simp] theorem exec_sdivSShort (o : SS3) (s : State) : exec (.sdivSShort o) s = execSdivSShort o s := rfl
@[simp] theorem exec_sdivNShort (o : SS3) (s : State) : exec (.sdivNShort o) s = execSdivNShort o s := rfl
@[simp] theorem exec_sremSShort (o : SS3) (s : State) : exec (.sremSShort o) s = execSremSShort o s := rfl
@[simp] theorem exec_sremNShort (o : SS3) (s : State) : exec (.sremNShort o) s = execSremNShort o s := rfl
@[simp] theorem exec_sandShort (o : SS3) (s : State) : exec (.sandShort o) s = execSandShort o s := rfl
@[simp] theorem exec_sorShort (o : SS3) (s : State) : exec (.sorShort o) s = execSorShort o s := rfl
@[simp] theorem exec_sxorShort (o : SS3) (s : State) : exec (.sxorShort o) s = execSxorShort o s := rfl
@[simp] theorem exec_sandnShort (o : SS3) (s : State) : exec (.sandnShort o) s = execSandnShort o s := rfl
@[simp] theorem exec_sshlShort (o : SS3) (s : State) : exec (.sshlShort o) s = execSshlShort o s := rfl
@[simp] theorem exec_sshrSShort (o : SS3) (s : State) : exec (.sshrSShort o) s = execSshrSShort o s := rfl
@[simp] theorem exec_sshrNShort (o : SS3) (s : State) : exec (.sshrNShort o) s = execSshrNShort o s := rfl
@[simp] theorem exec_srotrShort (o : SS3) (s : State) : exec (.srotrShort o) s = execSrotrShort o s := rfl
@[simp] theorem exec_sminSShort (o : SS3) (s : State) : exec (.sminSShort o) s = execSminSShort o s := rfl
@[simp] theorem exec_sminNShort (o : SS3) (s : State) : exec (.sminNShort o) s = execSminNShort o s := rfl
@[simp] theorem exec_smaxSShort (o : SS3) (s : State) : exec (.smaxSShort o) s = execSmaxSShort o s := rfl
@[simp] theorem exec_smaxNShort (o : SS3) (s : State) : exec (.smaxNShort o) s = execSmaxNShort o s := rfl
@[simp] theorem exec_sclzShort (o : SS3) (s : State) : exec (.sclzShort o) s = execSclzShort o s := rfl
@[simp] theorem exec_sffsShort (o : SS3) (s : State) : exec (.sffsShort o) s = execSffsShort o s := rfl
@[simp] theorem exec_spopcShort (o : SS3) (s : State) : exec (.spopcShort o) s = execSpopcShort o s := rfl
@[simp] theorem exec_sbrevShort (o : SS3) (s : State) : exec (.sbrevShort o) s = execSbrevShort o s := rfl
@[simp] theorem exec_sselShort (o : SS3) (s : State) : exec (.sselShort o) s = execSselShort o s := rfl
@[simp] theorem exec_scmpShort (o : SS3) (s : State) : exec (.scmpShort o) s = execScmpShort o s := rfl
@[simp] theorem exec_sextShort (o : SS3) (s : State) : exec (.sextShort o) s = execSextShort o s := rfl
@[simp] theorem exec_smovShort (o : SS3) (s : State) : exec (.smovShort o) s = execSmovShort o s := rfl
@[simp] theorem exec_sbfxShort (o : SS3) (s : State) : exec (.sbfxShort o) s = execSbfxShort o s := rfl
@[simp] theorem exec_sbfiShort (o : SS3) (s : State) : exec (.sbfiShort o) s = execSbfiShort o s := rfl
@[simp] theorem exec_smadShort (o : SS3) (s : State) : exec (.smadShort o) s = execSmadShort o s := rfl
@[simp] theorem exec_saddiShort (sd sa : Reg) (imm : BitVec 10) (s : State) : exec (.saddiShort sd sa imm) s = execSaddiShort sd sa imm s := rfl
@[simp] theorem exec_sliShort (sd : Reg) (imm : BitVec 17) (s : State) : exec (.sliShort sd imm) s = execSliShort sd imm s := rfl
@[simp] theorem exec_sld64Short (sd sa : Reg) (imm : BitVec 10) (s : State) : exec (.sld64Short sd sa imm) s = execSld64Short sd sa imm s := rfl
@[simp] theorem exec_sst64Short (sd sa : Reg) (imm : BitVec 10) (s : State) : exec (.sst64Short sd sa imm) s = execSst64Short sd sa imm s := rfl
@[simp] theorem exec_vld32Short (o : SVM) (s : State) : exec (.vld32Short o) s = execVld32Short o s := rfl
@[simp] theorem exec_vst32Short (o : SVM) (s : State) : exec (.vst32Short o) s = execVst32Short o s := rfl
@[simp] theorem exec_brShort (off : BitVec 24) (s : State) : exec (.brShort off) s = execBrShort off s := rfl
@[simp] theorem exec_callShort (off : BitVec 24) (s : State) : exec (.callShort off) s = execCallShort off s := rfl
@[simp] theorem exec_brzShort (sa : Reg) (off : BitVec 16) (s : State) : exec (.brzShort sa off) s = execBrzShort sa off s := rfl
@[simp] theorem exec_brnzShort (sa : Reg) (off : BitVec 16) (s : State) : exec (.brnzShort sa off) s = execBrnzShort sa off s := rfl
@[simp] theorem exec_brpShort (p : BitVec 3) (neg : Bool) (off : BitVec 20) (s : State) : exec (.brpShort p neg off) s = execBrpShort p neg off s := rfl
@[simp] theorem exec_waitShort (o : WaitOp) (s : State) : exec (.waitShort o) s = execWaitShort o s := rfl
@[simp] theorem exec_unknownOpCommand (s : State) : exec .unknownOpCommand s = execUnknownOpCommand s := rfl
@[simp] theorem exec_mirrorCopyFinished (g w : Nat) (s : State) : exec (.mirrorCopyFinished g w) s = execMirrorCopyFinished g w s := rfl

end Sys2Proof.Machine
end

