-- ==== Sys2Proof/Laws/State.lean ====
section
/-! SUPPORT. What each update of the state leaves as it was, field by field. -/

namespace Sys2Proof.Machine

/-! setVd changes vds alone. -/

@[simp] theorem State.setVd_cur (s : State) (n : Nat) (v : Vd) : (s.setVd n v).cur = s.cur := rfl
@[simp] theorem State.setVd_inputs (s : State) (n : Nat) (v : Vd) : (s.setVd n v).inputs = s.inputs := rfl
@[simp] theorem State.setVd_free (s : State) (n : Nat) (v : Vd) : (s.setVd n v).free = s.free := rfl
@[simp] theorem State.setVd_l1Choice (s : State) (n : Nat) (v : Vd) : (s.setVd n v).l1Choice = s.l1Choice := rfl
@[simp] theorem State.setVd_clk (s : State) (n : Nat) (v : Vd) : (s.setVd n v).clk = s.clk := rfl
@[simp] theorem State.setVd_uid (s : State) (n : Nat) (v : Vd) : (s.setVd n v).uid = s.uid := rfl
@[simp] theorem State.setVd_sent (s : State) (n : Nat) (v : Vd) : (s.setVd n v).sent = s.sent := rfl
@[simp] theorem State.setVd_power (s : State) (n : Nat) (v : Vd) : (s.setVd n v).power = s.power := rfl
@[simp] theorem State.setVd_pf (s : State) (n : Nat) (v : Vd) : (s.setVd n v).pf = s.pf := rfl
@[simp] theorem State.setVd_queues (s : State) (n : Nat) (v : Vd) : (s.setVd n v).queues = s.queues := rfl
@[simp] theorem State.setVd_irt (s : State) (n : Nat) (v : Vd) : (s.setVd n v).irt = s.irt := rfl
@[simp] theorem State.setVd_ctl (s : State) (n : Nat) (v : Vd) : (s.setVd n v).ctl = s.ctl := rfl
@[simp] theorem State.setVd_pairs (s : State) (n : Nat) (v : Vd) : (s.setVd n v).pairs = s.pairs := rfl
@[simp] theorem State.setVd_grids (s : State) (n : Nat) (v : Vd) : (s.setVd n v).grids = s.grids := rfl
@[simp] theorem State.setVd_groups (s : State) (n : Nat) (v : Vd) : (s.setVd n v).groups = s.groups := rfl
@[simp] theorem State.setVd_cores (s : State) (n : Nat) (v : Vd) : (s.setVd n v).cores = s.cores := rfl
@[simp] theorem State.setVd_parts (s : State) (n : Nat) (v : Vd) : (s.setVd n v).parts = s.parts := rfl
@[simp] theorem State.setVd_tables (s : State) (n : Nat) (v : Vd) : (s.setVd n v).tables = s.tables := rfl
@[simp] theorem State.setVd_tlb (s : State) (n : Nat) (v : Vd) : (s.setVd n v).tlb = s.tlb := rfl
@[simp] theorem State.setVd_walks (s : State) (n : Nat) (v : Vd) : (s.setVd n v).walks = s.walks := rfl
@[simp] theorem State.setVd_tlbChoice (s : State) (n : Nat) (v : Vd) : (s.setVd n v).tlbChoice = s.tlbChoice := rfl
@[simp] theorem State.setVd_owners (s : State) (n : Nat) (v : Vd) : (s.setVd n v).owners = s.owners := rfl
@[simp] theorem State.setVd_tracked (s : State) (n : Nat) (v : Vd) : (s.setVd n v).tracked = s.tracked := rfl
@[simp] theorem State.setVd_errors (s : State) (n : Nat) (v : Vd) : (s.setVd n v).errors = s.errors := rfl
@[simp] theorem State.setVd_pairing (s : State) (n : Nat) (v : Vd) : (s.setVd n v).pairing = s.pairing := rfl
@[simp] theorem State.setVd_endpoints (s : State) (n : Nat) (v : Vd) : (s.setVd n v).endpoints = s.endpoints := rfl
@[simp] theorem State.setVd_stations (s : State) (n : Nat) (v : Vd) : (s.setVd n v).stations = s.stations := rfl
@[simp] theorem State.setVd_remote (s : State) (n : Nat) (v : Vd) : (s.setVd n v).remote = s.remote := rfl
@[simp] theorem State.setVd_heldRequests (s : State) (n : Nat) (v : Vd) : (s.setVd n v).heldRequests = s.heldRequests := rfl
@[simp] theorem State.setVd_engineData (s : State) (n : Nat) (v : Vd) : (s.setVd n v).engineData = s.engineData := rfl
@[simp] theorem State.setVd_ports (s : State) (n : Nat) (v : Vd) : (s.setVd n v).ports = s.ports := rfl
@[simp] theorem State.setVd_frames (s : State) (n : Nat) (v : Vd) : (s.setVd n v).frames = s.frames := rfl
@[simp] theorem State.setVd_keys (s : State) (n : Nat) (v : Vd) : (s.setVd n v).keys = s.keys := rfl
@[simp] theorem State.setVd_mem (s : State) (n : Nat) (v : Vd) : (s.setVd n v).mem = s.mem := rfl
@[simp] theorem State.setVd_poison (s : State) (n : Nat) (v : Vd) : (s.setVd n v).poison = s.poison := rfl

/-! setQueue changes queues alone. -/

@[simp] theorem State.setQueue_cur (s : State) (n : Nat) (v : Queue) : (s.setQueue n v).cur = s.cur := rfl
@[simp] theorem State.setQueue_inputs (s : State) (n : Nat) (v : Queue) : (s.setQueue n v).inputs = s.inputs := rfl
@[simp] theorem State.setQueue_free (s : State) (n : Nat) (v : Queue) : (s.setQueue n v).free = s.free := rfl
@[simp] theorem State.setQueue_l1Choice (s : State) (n : Nat) (v : Queue) : (s.setQueue n v).l1Choice = s.l1Choice := rfl
@[simp] theorem State.setQueue_clk (s : State) (n : Nat) (v : Queue) : (s.setQueue n v).clk = s.clk := rfl
@[simp] theorem State.setQueue_uid (s : State) (n : Nat) (v : Queue) : (s.setQueue n v).uid = s.uid := rfl
@[simp] theorem State.setQueue_sent (s : State) (n : Nat) (v : Queue) : (s.setQueue n v).sent = s.sent := rfl
@[simp] theorem State.setQueue_power (s : State) (n : Nat) (v : Queue) : (s.setQueue n v).power = s.power := rfl
@[simp] theorem State.setQueue_pf (s : State) (n : Nat) (v : Queue) : (s.setQueue n v).pf = s.pf := rfl
@[simp] theorem State.setQueue_vds (s : State) (n : Nat) (v : Queue) : (s.setQueue n v).vds = s.vds := rfl
@[simp] theorem State.setQueue_irt (s : State) (n : Nat) (v : Queue) : (s.setQueue n v).irt = s.irt := rfl
@[simp] theorem State.setQueue_ctl (s : State) (n : Nat) (v : Queue) : (s.setQueue n v).ctl = s.ctl := rfl
@[simp] theorem State.setQueue_pairs (s : State) (n : Nat) (v : Queue) : (s.setQueue n v).pairs = s.pairs := rfl
@[simp] theorem State.setQueue_grids (s : State) (n : Nat) (v : Queue) : (s.setQueue n v).grids = s.grids := rfl
@[simp] theorem State.setQueue_groups (s : State) (n : Nat) (v : Queue) : (s.setQueue n v).groups = s.groups := rfl
@[simp] theorem State.setQueue_cores (s : State) (n : Nat) (v : Queue) : (s.setQueue n v).cores = s.cores := rfl
@[simp] theorem State.setQueue_parts (s : State) (n : Nat) (v : Queue) : (s.setQueue n v).parts = s.parts := rfl
@[simp] theorem State.setQueue_tables (s : State) (n : Nat) (v : Queue) : (s.setQueue n v).tables = s.tables := rfl
@[simp] theorem State.setQueue_tlb (s : State) (n : Nat) (v : Queue) : (s.setQueue n v).tlb = s.tlb := rfl
@[simp] theorem State.setQueue_walks (s : State) (n : Nat) (v : Queue) : (s.setQueue n v).walks = s.walks := rfl
@[simp] theorem State.setQueue_tlbChoice (s : State) (n : Nat) (v : Queue) : (s.setQueue n v).tlbChoice = s.tlbChoice := rfl
@[simp] theorem State.setQueue_owners (s : State) (n : Nat) (v : Queue) : (s.setQueue n v).owners = s.owners := rfl
@[simp] theorem State.setQueue_tracked (s : State) (n : Nat) (v : Queue) : (s.setQueue n v).tracked = s.tracked := rfl
@[simp] theorem State.setQueue_errors (s : State) (n : Nat) (v : Queue) : (s.setQueue n v).errors = s.errors := rfl
@[simp] theorem State.setQueue_pairing (s : State) (n : Nat) (v : Queue) : (s.setQueue n v).pairing = s.pairing := rfl
@[simp] theorem State.setQueue_endpoints (s : State) (n : Nat) (v : Queue) : (s.setQueue n v).endpoints = s.endpoints := rfl
@[simp] theorem State.setQueue_stations (s : State) (n : Nat) (v : Queue) : (s.setQueue n v).stations = s.stations := rfl
@[simp] theorem State.setQueue_remote (s : State) (n : Nat) (v : Queue) : (s.setQueue n v).remote = s.remote := rfl
@[simp] theorem State.setQueue_heldRequests (s : State) (n : Nat) (v : Queue) : (s.setQueue n v).heldRequests = s.heldRequests := rfl
@[simp] theorem State.setQueue_engineData (s : State) (n : Nat) (v : Queue) : (s.setQueue n v).engineData = s.engineData := rfl
@[simp] theorem State.setQueue_ports (s : State) (n : Nat) (v : Queue) : (s.setQueue n v).ports = s.ports := rfl
@[simp] theorem State.setQueue_frames (s : State) (n : Nat) (v : Queue) : (s.setQueue n v).frames = s.frames := rfl
@[simp] theorem State.setQueue_keys (s : State) (n : Nat) (v : Queue) : (s.setQueue n v).keys = s.keys := rfl
@[simp] theorem State.setQueue_mem (s : State) (n : Nat) (v : Queue) : (s.setQueue n v).mem = s.mem := rfl
@[simp] theorem State.setQueue_poison (s : State) (n : Nat) (v : Queue) : (s.setQueue n v).poison = s.poison := rfl

/-! setGroup changes groups alone. -/

@[simp] theorem State.setGroup_cur (s : State) (n : Nat) (v : Group) : (s.setGroup n v).cur = s.cur := rfl
@[simp] theorem State.setGroup_inputs (s : State) (n : Nat) (v : Group) : (s.setGroup n v).inputs = s.inputs := rfl
@[simp] theorem State.setGroup_free (s : State) (n : Nat) (v : Group) : (s.setGroup n v).free = s.free := rfl
@[simp] theorem State.setGroup_l1Choice (s : State) (n : Nat) (v : Group) : (s.setGroup n v).l1Choice = s.l1Choice := rfl
@[simp] theorem State.setGroup_clk (s : State) (n : Nat) (v : Group) : (s.setGroup n v).clk = s.clk := rfl
@[simp] theorem State.setGroup_uid (s : State) (n : Nat) (v : Group) : (s.setGroup n v).uid = s.uid := rfl
@[simp] theorem State.setGroup_sent (s : State) (n : Nat) (v : Group) : (s.setGroup n v).sent = s.sent := rfl
@[simp] theorem State.setGroup_power (s : State) (n : Nat) (v : Group) : (s.setGroup n v).power = s.power := rfl
@[simp] theorem State.setGroup_pf (s : State) (n : Nat) (v : Group) : (s.setGroup n v).pf = s.pf := rfl
@[simp] theorem State.setGroup_vds (s : State) (n : Nat) (v : Group) : (s.setGroup n v).vds = s.vds := rfl
@[simp] theorem State.setGroup_queues (s : State) (n : Nat) (v : Group) : (s.setGroup n v).queues = s.queues := rfl
@[simp] theorem State.setGroup_irt (s : State) (n : Nat) (v : Group) : (s.setGroup n v).irt = s.irt := rfl
@[simp] theorem State.setGroup_ctl (s : State) (n : Nat) (v : Group) : (s.setGroup n v).ctl = s.ctl := rfl
@[simp] theorem State.setGroup_pairs (s : State) (n : Nat) (v : Group) : (s.setGroup n v).pairs = s.pairs := rfl
@[simp] theorem State.setGroup_grids (s : State) (n : Nat) (v : Group) : (s.setGroup n v).grids = s.grids := rfl
@[simp] theorem State.setGroup_cores (s : State) (n : Nat) (v : Group) : (s.setGroup n v).cores = s.cores := rfl
@[simp] theorem State.setGroup_parts (s : State) (n : Nat) (v : Group) : (s.setGroup n v).parts = s.parts := rfl
@[simp] theorem State.setGroup_tables (s : State) (n : Nat) (v : Group) : (s.setGroup n v).tables = s.tables := rfl
@[simp] theorem State.setGroup_tlb (s : State) (n : Nat) (v : Group) : (s.setGroup n v).tlb = s.tlb := rfl
@[simp] theorem State.setGroup_walks (s : State) (n : Nat) (v : Group) : (s.setGroup n v).walks = s.walks := rfl
@[simp] theorem State.setGroup_tlbChoice (s : State) (n : Nat) (v : Group) : (s.setGroup n v).tlbChoice = s.tlbChoice := rfl
@[simp] theorem State.setGroup_owners (s : State) (n : Nat) (v : Group) : (s.setGroup n v).owners = s.owners := rfl
@[simp] theorem State.setGroup_tracked (s : State) (n : Nat) (v : Group) : (s.setGroup n v).tracked = s.tracked := rfl
@[simp] theorem State.setGroup_errors (s : State) (n : Nat) (v : Group) : (s.setGroup n v).errors = s.errors := rfl
@[simp] theorem State.setGroup_pairing (s : State) (n : Nat) (v : Group) : (s.setGroup n v).pairing = s.pairing := rfl
@[simp] theorem State.setGroup_endpoints (s : State) (n : Nat) (v : Group) : (s.setGroup n v).endpoints = s.endpoints := rfl
@[simp] theorem State.setGroup_stations (s : State) (n : Nat) (v : Group) : (s.setGroup n v).stations = s.stations := rfl
@[simp] theorem State.setGroup_remote (s : State) (n : Nat) (v : Group) : (s.setGroup n v).remote = s.remote := rfl
@[simp] theorem State.setGroup_heldRequests (s : State) (n : Nat) (v : Group) : (s.setGroup n v).heldRequests = s.heldRequests := rfl
@[simp] theorem State.setGroup_engineData (s : State) (n : Nat) (v : Group) : (s.setGroup n v).engineData = s.engineData := rfl
@[simp] theorem State.setGroup_ports (s : State) (n : Nat) (v : Group) : (s.setGroup n v).ports = s.ports := rfl
@[simp] theorem State.setGroup_frames (s : State) (n : Nat) (v : Group) : (s.setGroup n v).frames = s.frames := rfl
@[simp] theorem State.setGroup_keys (s : State) (n : Nat) (v : Group) : (s.setGroup n v).keys = s.keys := rfl
@[simp] theorem State.setGroup_mem (s : State) (n : Nat) (v : Group) : (s.setGroup n v).mem = s.mem := rfl
@[simp] theorem State.setGroup_poison (s : State) (n : Nat) (v : Group) : (s.setGroup n v).poison = s.poison := rfl

/-! setGrid changes grids alone. -/

@[simp] theorem State.setGrid_cur (s : State) (n : Nat) (v : Grid) : (s.setGrid n v).cur = s.cur := rfl
@[simp] theorem State.setGrid_inputs (s : State) (n : Nat) (v : Grid) : (s.setGrid n v).inputs = s.inputs := rfl
@[simp] theorem State.setGrid_free (s : State) (n : Nat) (v : Grid) : (s.setGrid n v).free = s.free := rfl
@[simp] theorem State.setGrid_l1Choice (s : State) (n : Nat) (v : Grid) : (s.setGrid n v).l1Choice = s.l1Choice := rfl
@[simp] theorem State.setGrid_clk (s : State) (n : Nat) (v : Grid) : (s.setGrid n v).clk = s.clk := rfl
@[simp] theorem State.setGrid_uid (s : State) (n : Nat) (v : Grid) : (s.setGrid n v).uid = s.uid := rfl
@[simp] theorem State.setGrid_sent (s : State) (n : Nat) (v : Grid) : (s.setGrid n v).sent = s.sent := rfl
@[simp] theorem State.setGrid_power (s : State) (n : Nat) (v : Grid) : (s.setGrid n v).power = s.power := rfl
@[simp] theorem State.setGrid_pf (s : State) (n : Nat) (v : Grid) : (s.setGrid n v).pf = s.pf := rfl
@[simp] theorem State.setGrid_vds (s : State) (n : Nat) (v : Grid) : (s.setGrid n v).vds = s.vds := rfl
@[simp] theorem State.setGrid_queues (s : State) (n : Nat) (v : Grid) : (s.setGrid n v).queues = s.queues := rfl
@[simp] theorem State.setGrid_irt (s : State) (n : Nat) (v : Grid) : (s.setGrid n v).irt = s.irt := rfl
@[simp] theorem State.setGrid_ctl (s : State) (n : Nat) (v : Grid) : (s.setGrid n v).ctl = s.ctl := rfl
@[simp] theorem State.setGrid_pairs (s : State) (n : Nat) (v : Grid) : (s.setGrid n v).pairs = s.pairs := rfl
@[simp] theorem State.setGrid_groups (s : State) (n : Nat) (v : Grid) : (s.setGrid n v).groups = s.groups := rfl
@[simp] theorem State.setGrid_cores (s : State) (n : Nat) (v : Grid) : (s.setGrid n v).cores = s.cores := rfl
@[simp] theorem State.setGrid_parts (s : State) (n : Nat) (v : Grid) : (s.setGrid n v).parts = s.parts := rfl
@[simp] theorem State.setGrid_tables (s : State) (n : Nat) (v : Grid) : (s.setGrid n v).tables = s.tables := rfl
@[simp] theorem State.setGrid_tlb (s : State) (n : Nat) (v : Grid) : (s.setGrid n v).tlb = s.tlb := rfl
@[simp] theorem State.setGrid_walks (s : State) (n : Nat) (v : Grid) : (s.setGrid n v).walks = s.walks := rfl
@[simp] theorem State.setGrid_tlbChoice (s : State) (n : Nat) (v : Grid) : (s.setGrid n v).tlbChoice = s.tlbChoice := rfl
@[simp] theorem State.setGrid_owners (s : State) (n : Nat) (v : Grid) : (s.setGrid n v).owners = s.owners := rfl
@[simp] theorem State.setGrid_tracked (s : State) (n : Nat) (v : Grid) : (s.setGrid n v).tracked = s.tracked := rfl
@[simp] theorem State.setGrid_errors (s : State) (n : Nat) (v : Grid) : (s.setGrid n v).errors = s.errors := rfl
@[simp] theorem State.setGrid_pairing (s : State) (n : Nat) (v : Grid) : (s.setGrid n v).pairing = s.pairing := rfl
@[simp] theorem State.setGrid_endpoints (s : State) (n : Nat) (v : Grid) : (s.setGrid n v).endpoints = s.endpoints := rfl
@[simp] theorem State.setGrid_stations (s : State) (n : Nat) (v : Grid) : (s.setGrid n v).stations = s.stations := rfl
@[simp] theorem State.setGrid_remote (s : State) (n : Nat) (v : Grid) : (s.setGrid n v).remote = s.remote := rfl
@[simp] theorem State.setGrid_heldRequests (s : State) (n : Nat) (v : Grid) : (s.setGrid n v).heldRequests = s.heldRequests := rfl
@[simp] theorem State.setGrid_engineData (s : State) (n : Nat) (v : Grid) : (s.setGrid n v).engineData = s.engineData := rfl
@[simp] theorem State.setGrid_ports (s : State) (n : Nat) (v : Grid) : (s.setGrid n v).ports = s.ports := rfl
@[simp] theorem State.setGrid_frames (s : State) (n : Nat) (v : Grid) : (s.setGrid n v).frames = s.frames := rfl
@[simp] theorem State.setGrid_keys (s : State) (n : Nat) (v : Grid) : (s.setGrid n v).keys = s.keys := rfl
@[simp] theorem State.setGrid_mem (s : State) (n : Nat) (v : Grid) : (s.setGrid n v).mem = s.mem := rfl
@[simp] theorem State.setGrid_poison (s : State) (n : Nat) (v : Grid) : (s.setGrid n v).poison = s.poison := rfl

/-! setCore changes cores alone. -/

@[simp] theorem State.setCore_cur (s : State) (n : Nat) (v : Core) : (s.setCore n v).cur = s.cur := rfl
@[simp] theorem State.setCore_inputs (s : State) (n : Nat) (v : Core) : (s.setCore n v).inputs = s.inputs := rfl
@[simp] theorem State.setCore_free (s : State) (n : Nat) (v : Core) : (s.setCore n v).free = s.free := rfl
@[simp] theorem State.setCore_l1Choice (s : State) (n : Nat) (v : Core) : (s.setCore n v).l1Choice = s.l1Choice := rfl
@[simp] theorem State.setCore_clk (s : State) (n : Nat) (v : Core) : (s.setCore n v).clk = s.clk := rfl
@[simp] theorem State.setCore_uid (s : State) (n : Nat) (v : Core) : (s.setCore n v).uid = s.uid := rfl
@[simp] theorem State.setCore_sent (s : State) (n : Nat) (v : Core) : (s.setCore n v).sent = s.sent := rfl
@[simp] theorem State.setCore_power (s : State) (n : Nat) (v : Core) : (s.setCore n v).power = s.power := rfl
@[simp] theorem State.setCore_pf (s : State) (n : Nat) (v : Core) : (s.setCore n v).pf = s.pf := rfl
@[simp] theorem State.setCore_vds (s : State) (n : Nat) (v : Core) : (s.setCore n v).vds = s.vds := rfl
@[simp] theorem State.setCore_queues (s : State) (n : Nat) (v : Core) : (s.setCore n v).queues = s.queues := rfl
@[simp] theorem State.setCore_irt (s : State) (n : Nat) (v : Core) : (s.setCore n v).irt = s.irt := rfl
@[simp] theorem State.setCore_ctl (s : State) (n : Nat) (v : Core) : (s.setCore n v).ctl = s.ctl := rfl
@[simp] theorem State.setCore_pairs (s : State) (n : Nat) (v : Core) : (s.setCore n v).pairs = s.pairs := rfl
@[simp] theorem State.setCore_grids (s : State) (n : Nat) (v : Core) : (s.setCore n v).grids = s.grids := rfl
@[simp] theorem State.setCore_groups (s : State) (n : Nat) (v : Core) : (s.setCore n v).groups = s.groups := rfl
@[simp] theorem State.setCore_parts (s : State) (n : Nat) (v : Core) : (s.setCore n v).parts = s.parts := rfl
@[simp] theorem State.setCore_tables (s : State) (n : Nat) (v : Core) : (s.setCore n v).tables = s.tables := rfl
@[simp] theorem State.setCore_tlb (s : State) (n : Nat) (v : Core) : (s.setCore n v).tlb = s.tlb := rfl
@[simp] theorem State.setCore_walks (s : State) (n : Nat) (v : Core) : (s.setCore n v).walks = s.walks := rfl
@[simp] theorem State.setCore_tlbChoice (s : State) (n : Nat) (v : Core) : (s.setCore n v).tlbChoice = s.tlbChoice := rfl
@[simp] theorem State.setCore_owners (s : State) (n : Nat) (v : Core) : (s.setCore n v).owners = s.owners := rfl
@[simp] theorem State.setCore_tracked (s : State) (n : Nat) (v : Core) : (s.setCore n v).tracked = s.tracked := rfl
@[simp] theorem State.setCore_errors (s : State) (n : Nat) (v : Core) : (s.setCore n v).errors = s.errors := rfl
@[simp] theorem State.setCore_pairing (s : State) (n : Nat) (v : Core) : (s.setCore n v).pairing = s.pairing := rfl
@[simp] theorem State.setCore_endpoints (s : State) (n : Nat) (v : Core) : (s.setCore n v).endpoints = s.endpoints := rfl
@[simp] theorem State.setCore_stations (s : State) (n : Nat) (v : Core) : (s.setCore n v).stations = s.stations := rfl
@[simp] theorem State.setCore_remote (s : State) (n : Nat) (v : Core) : (s.setCore n v).remote = s.remote := rfl
@[simp] theorem State.setCore_heldRequests (s : State) (n : Nat) (v : Core) : (s.setCore n v).heldRequests = s.heldRequests := rfl
@[simp] theorem State.setCore_engineData (s : State) (n : Nat) (v : Core) : (s.setCore n v).engineData = s.engineData := rfl
@[simp] theorem State.setCore_ports (s : State) (n : Nat) (v : Core) : (s.setCore n v).ports = s.ports := rfl
@[simp] theorem State.setCore_frames (s : State) (n : Nat) (v : Core) : (s.setCore n v).frames = s.frames := rfl
@[simp] theorem State.setCore_keys (s : State) (n : Nat) (v : Core) : (s.setCore n v).keys = s.keys := rfl
@[simp] theorem State.setCore_mem (s : State) (n : Nat) (v : Core) : (s.setCore n v).mem = s.mem := rfl
@[simp] theorem State.setCore_poison (s : State) (n : Nat) (v : Core) : (s.setCore n v).poison = s.poison := rfl

/-! setCtl changes ctl alone. -/

@[simp] theorem State.setCtl_cur (s : State) (n : Nat) (v : CtlCore) : (s.setCtl n v).cur = s.cur := rfl
@[simp] theorem State.setCtl_inputs (s : State) (n : Nat) (v : CtlCore) : (s.setCtl n v).inputs = s.inputs := rfl
@[simp] theorem State.setCtl_free (s : State) (n : Nat) (v : CtlCore) : (s.setCtl n v).free = s.free := rfl
@[simp] theorem State.setCtl_l1Choice (s : State) (n : Nat) (v : CtlCore) : (s.setCtl n v).l1Choice = s.l1Choice := rfl
@[simp] theorem State.setCtl_clk (s : State) (n : Nat) (v : CtlCore) : (s.setCtl n v).clk = s.clk := rfl
@[simp] theorem State.setCtl_uid (s : State) (n : Nat) (v : CtlCore) : (s.setCtl n v).uid = s.uid := rfl
@[simp] theorem State.setCtl_sent (s : State) (n : Nat) (v : CtlCore) : (s.setCtl n v).sent = s.sent := rfl
@[simp] theorem State.setCtl_power (s : State) (n : Nat) (v : CtlCore) : (s.setCtl n v).power = s.power := rfl
@[simp] theorem State.setCtl_pf (s : State) (n : Nat) (v : CtlCore) : (s.setCtl n v).pf = s.pf := rfl
@[simp] theorem State.setCtl_vds (s : State) (n : Nat) (v : CtlCore) : (s.setCtl n v).vds = s.vds := rfl
@[simp] theorem State.setCtl_queues (s : State) (n : Nat) (v : CtlCore) : (s.setCtl n v).queues = s.queues := rfl
@[simp] theorem State.setCtl_irt (s : State) (n : Nat) (v : CtlCore) : (s.setCtl n v).irt = s.irt := rfl
@[simp] theorem State.setCtl_pairs (s : State) (n : Nat) (v : CtlCore) : (s.setCtl n v).pairs = s.pairs := rfl
@[simp] theorem State.setCtl_grids (s : State) (n : Nat) (v : CtlCore) : (s.setCtl n v).grids = s.grids := rfl
@[simp] theorem State.setCtl_groups (s : State) (n : Nat) (v : CtlCore) : (s.setCtl n v).groups = s.groups := rfl
@[simp] theorem State.setCtl_cores (s : State) (n : Nat) (v : CtlCore) : (s.setCtl n v).cores = s.cores := rfl
@[simp] theorem State.setCtl_parts (s : State) (n : Nat) (v : CtlCore) : (s.setCtl n v).parts = s.parts := rfl
@[simp] theorem State.setCtl_tables (s : State) (n : Nat) (v : CtlCore) : (s.setCtl n v).tables = s.tables := rfl
@[simp] theorem State.setCtl_tlb (s : State) (n : Nat) (v : CtlCore) : (s.setCtl n v).tlb = s.tlb := rfl
@[simp] theorem State.setCtl_walks (s : State) (n : Nat) (v : CtlCore) : (s.setCtl n v).walks = s.walks := rfl
@[simp] theorem State.setCtl_tlbChoice (s : State) (n : Nat) (v : CtlCore) : (s.setCtl n v).tlbChoice = s.tlbChoice := rfl
@[simp] theorem State.setCtl_owners (s : State) (n : Nat) (v : CtlCore) : (s.setCtl n v).owners = s.owners := rfl
@[simp] theorem State.setCtl_tracked (s : State) (n : Nat) (v : CtlCore) : (s.setCtl n v).tracked = s.tracked := rfl
@[simp] theorem State.setCtl_errors (s : State) (n : Nat) (v : CtlCore) : (s.setCtl n v).errors = s.errors := rfl
@[simp] theorem State.setCtl_pairing (s : State) (n : Nat) (v : CtlCore) : (s.setCtl n v).pairing = s.pairing := rfl
@[simp] theorem State.setCtl_endpoints (s : State) (n : Nat) (v : CtlCore) : (s.setCtl n v).endpoints = s.endpoints := rfl
@[simp] theorem State.setCtl_stations (s : State) (n : Nat) (v : CtlCore) : (s.setCtl n v).stations = s.stations := rfl
@[simp] theorem State.setCtl_remote (s : State) (n : Nat) (v : CtlCore) : (s.setCtl n v).remote = s.remote := rfl
@[simp] theorem State.setCtl_heldRequests (s : State) (n : Nat) (v : CtlCore) : (s.setCtl n v).heldRequests = s.heldRequests := rfl
@[simp] theorem State.setCtl_engineData (s : State) (n : Nat) (v : CtlCore) : (s.setCtl n v).engineData = s.engineData := rfl
@[simp] theorem State.setCtl_ports (s : State) (n : Nat) (v : CtlCore) : (s.setCtl n v).ports = s.ports := rfl
@[simp] theorem State.setCtl_frames (s : State) (n : Nat) (v : CtlCore) : (s.setCtl n v).frames = s.frames := rfl
@[simp] theorem State.setCtl_keys (s : State) (n : Nat) (v : CtlCore) : (s.setCtl n v).keys = s.keys := rfl
@[simp] theorem State.setCtl_mem (s : State) (n : Nat) (v : CtlCore) : (s.setCtl n v).mem = s.mem := rfl
@[simp] theorem State.setCtl_poison (s : State) (n : Nat) (v : CtlCore) : (s.setCtl n v).poison = s.poison := rfl

/-! setPair changes pairs alone. -/

@[simp] theorem State.setPair_cur (s : State) (n : Nat) (v : Pair) : (s.setPair n v).cur = s.cur := rfl
@[simp] theorem State.setPair_inputs (s : State) (n : Nat) (v : Pair) : (s.setPair n v).inputs = s.inputs := rfl
@[simp] theorem State.setPair_free (s : State) (n : Nat) (v : Pair) : (s.setPair n v).free = s.free := rfl
@[simp] theorem State.setPair_l1Choice (s : State) (n : Nat) (v : Pair) : (s.setPair n v).l1Choice = s.l1Choice := rfl
@[simp] theorem State.setPair_clk (s : State) (n : Nat) (v : Pair) : (s.setPair n v).clk = s.clk := rfl
@[simp] theorem State.setPair_uid (s : State) (n : Nat) (v : Pair) : (s.setPair n v).uid = s.uid := rfl
@[simp] theorem State.setPair_sent (s : State) (n : Nat) (v : Pair) : (s.setPair n v).sent = s.sent := rfl
@[simp] theorem State.setPair_power (s : State) (n : Nat) (v : Pair) : (s.setPair n v).power = s.power := rfl
@[simp] theorem State.setPair_pf (s : State) (n : Nat) (v : Pair) : (s.setPair n v).pf = s.pf := rfl
@[simp] theorem State.setPair_vds (s : State) (n : Nat) (v : Pair) : (s.setPair n v).vds = s.vds := rfl
@[simp] theorem State.setPair_queues (s : State) (n : Nat) (v : Pair) : (s.setPair n v).queues = s.queues := rfl
@[simp] theorem State.setPair_irt (s : State) (n : Nat) (v : Pair) : (s.setPair n v).irt = s.irt := rfl
@[simp] theorem State.setPair_ctl (s : State) (n : Nat) (v : Pair) : (s.setPair n v).ctl = s.ctl := rfl
@[simp] theorem State.setPair_grids (s : State) (n : Nat) (v : Pair) : (s.setPair n v).grids = s.grids := rfl
@[simp] theorem State.setPair_groups (s : State) (n : Nat) (v : Pair) : (s.setPair n v).groups = s.groups := rfl
@[simp] theorem State.setPair_cores (s : State) (n : Nat) (v : Pair) : (s.setPair n v).cores = s.cores := rfl
@[simp] theorem State.setPair_parts (s : State) (n : Nat) (v : Pair) : (s.setPair n v).parts = s.parts := rfl
@[simp] theorem State.setPair_tables (s : State) (n : Nat) (v : Pair) : (s.setPair n v).tables = s.tables := rfl
@[simp] theorem State.setPair_tlb (s : State) (n : Nat) (v : Pair) : (s.setPair n v).tlb = s.tlb := rfl
@[simp] theorem State.setPair_walks (s : State) (n : Nat) (v : Pair) : (s.setPair n v).walks = s.walks := rfl
@[simp] theorem State.setPair_tlbChoice (s : State) (n : Nat) (v : Pair) : (s.setPair n v).tlbChoice = s.tlbChoice := rfl
@[simp] theorem State.setPair_owners (s : State) (n : Nat) (v : Pair) : (s.setPair n v).owners = s.owners := rfl
@[simp] theorem State.setPair_tracked (s : State) (n : Nat) (v : Pair) : (s.setPair n v).tracked = s.tracked := rfl
@[simp] theorem State.setPair_errors (s : State) (n : Nat) (v : Pair) : (s.setPair n v).errors = s.errors := rfl
@[simp] theorem State.setPair_pairing (s : State) (n : Nat) (v : Pair) : (s.setPair n v).pairing = s.pairing := rfl
@[simp] theorem State.setPair_endpoints (s : State) (n : Nat) (v : Pair) : (s.setPair n v).endpoints = s.endpoints := rfl
@[simp] theorem State.setPair_stations (s : State) (n : Nat) (v : Pair) : (s.setPair n v).stations = s.stations := rfl
@[simp] theorem State.setPair_remote (s : State) (n : Nat) (v : Pair) : (s.setPair n v).remote = s.remote := rfl
@[simp] theorem State.setPair_heldRequests (s : State) (n : Nat) (v : Pair) : (s.setPair n v).heldRequests = s.heldRequests := rfl
@[simp] theorem State.setPair_engineData (s : State) (n : Nat) (v : Pair) : (s.setPair n v).engineData = s.engineData := rfl
@[simp] theorem State.setPair_ports (s : State) (n : Nat) (v : Pair) : (s.setPair n v).ports = s.ports := rfl
@[simp] theorem State.setPair_frames (s : State) (n : Nat) (v : Pair) : (s.setPair n v).frames = s.frames := rfl
@[simp] theorem State.setPair_keys (s : State) (n : Nat) (v : Pair) : (s.setPair n v).keys = s.keys := rfl
@[simp] theorem State.setPair_mem (s : State) (n : Nat) (v : Pair) : (s.setPair n v).mem = s.mem := rfl
@[simp] theorem State.setPair_poison (s : State) (n : Nat) (v : Pair) : (s.setPair n v).poison = s.poison := rfl

/-! setIrt changes irt alone. -/

@[simp] theorem State.setIrt_cur (s : State) (n : Nat) (v : Irt) : (s.setIrt n v).cur = s.cur := rfl
@[simp] theorem State.setIrt_inputs (s : State) (n : Nat) (v : Irt) : (s.setIrt n v).inputs = s.inputs := rfl
@[simp] theorem State.setIrt_free (s : State) (n : Nat) (v : Irt) : (s.setIrt n v).free = s.free := rfl
@[simp] theorem State.setIrt_l1Choice (s : State) (n : Nat) (v : Irt) : (s.setIrt n v).l1Choice = s.l1Choice := rfl
@[simp] theorem State.setIrt_clk (s : State) (n : Nat) (v : Irt) : (s.setIrt n v).clk = s.clk := rfl
@[simp] theorem State.setIrt_uid (s : State) (n : Nat) (v : Irt) : (s.setIrt n v).uid = s.uid := rfl
@[simp] theorem State.setIrt_sent (s : State) (n : Nat) (v : Irt) : (s.setIrt n v).sent = s.sent := rfl
@[simp] theorem State.setIrt_power (s : State) (n : Nat) (v : Irt) : (s.setIrt n v).power = s.power := rfl
@[simp] theorem State.setIrt_pf (s : State) (n : Nat) (v : Irt) : (s.setIrt n v).pf = s.pf := rfl
@[simp] theorem State.setIrt_vds (s : State) (n : Nat) (v : Irt) : (s.setIrt n v).vds = s.vds := rfl
@[simp] theorem State.setIrt_queues (s : State) (n : Nat) (v : Irt) : (s.setIrt n v).queues = s.queues := rfl
@[simp] theorem State.setIrt_ctl (s : State) (n : Nat) (v : Irt) : (s.setIrt n v).ctl = s.ctl := rfl
@[simp] theorem State.setIrt_pairs (s : State) (n : Nat) (v : Irt) : (s.setIrt n v).pairs = s.pairs := rfl
@[simp] theorem State.setIrt_grids (s : State) (n : Nat) (v : Irt) : (s.setIrt n v).grids = s.grids := rfl
@[simp] theorem State.setIrt_groups (s : State) (n : Nat) (v : Irt) : (s.setIrt n v).groups = s.groups := rfl
@[simp] theorem State.setIrt_cores (s : State) (n : Nat) (v : Irt) : (s.setIrt n v).cores = s.cores := rfl
@[simp] theorem State.setIrt_parts (s : State) (n : Nat) (v : Irt) : (s.setIrt n v).parts = s.parts := rfl
@[simp] theorem State.setIrt_tables (s : State) (n : Nat) (v : Irt) : (s.setIrt n v).tables = s.tables := rfl
@[simp] theorem State.setIrt_tlb (s : State) (n : Nat) (v : Irt) : (s.setIrt n v).tlb = s.tlb := rfl
@[simp] theorem State.setIrt_walks (s : State) (n : Nat) (v : Irt) : (s.setIrt n v).walks = s.walks := rfl
@[simp] theorem State.setIrt_tlbChoice (s : State) (n : Nat) (v : Irt) : (s.setIrt n v).tlbChoice = s.tlbChoice := rfl
@[simp] theorem State.setIrt_owners (s : State) (n : Nat) (v : Irt) : (s.setIrt n v).owners = s.owners := rfl
@[simp] theorem State.setIrt_tracked (s : State) (n : Nat) (v : Irt) : (s.setIrt n v).tracked = s.tracked := rfl
@[simp] theorem State.setIrt_errors (s : State) (n : Nat) (v : Irt) : (s.setIrt n v).errors = s.errors := rfl
@[simp] theorem State.setIrt_pairing (s : State) (n : Nat) (v : Irt) : (s.setIrt n v).pairing = s.pairing := rfl
@[simp] theorem State.setIrt_endpoints (s : State) (n : Nat) (v : Irt) : (s.setIrt n v).endpoints = s.endpoints := rfl
@[simp] theorem State.setIrt_stations (s : State) (n : Nat) (v : Irt) : (s.setIrt n v).stations = s.stations := rfl
@[simp] theorem State.setIrt_remote (s : State) (n : Nat) (v : Irt) : (s.setIrt n v).remote = s.remote := rfl
@[simp] theorem State.setIrt_heldRequests (s : State) (n : Nat) (v : Irt) : (s.setIrt n v).heldRequests = s.heldRequests := rfl
@[simp] theorem State.setIrt_engineData (s : State) (n : Nat) (v : Irt) : (s.setIrt n v).engineData = s.engineData := rfl
@[simp] theorem State.setIrt_ports (s : State) (n : Nat) (v : Irt) : (s.setIrt n v).ports = s.ports := rfl
@[simp] theorem State.setIrt_frames (s : State) (n : Nat) (v : Irt) : (s.setIrt n v).frames = s.frames := rfl
@[simp] theorem State.setIrt_keys (s : State) (n : Nat) (v : Irt) : (s.setIrt n v).keys = s.keys := rfl
@[simp] theorem State.setIrt_mem (s : State) (n : Nat) (v : Irt) : (s.setIrt n v).mem = s.mem := rfl
@[simp] theorem State.setIrt_poison (s : State) (n : Nat) (v : Irt) : (s.setIrt n v).poison = s.poison := rfl

/-! setPort changes ports alone. -/

@[simp] theorem State.setPort_cur (s : State) (n : Nat) (v : Port) : (s.setPort n v).cur = s.cur := rfl
@[simp] theorem State.setPort_inputs (s : State) (n : Nat) (v : Port) : (s.setPort n v).inputs = s.inputs := rfl
@[simp] theorem State.setPort_free (s : State) (n : Nat) (v : Port) : (s.setPort n v).free = s.free := rfl
@[simp] theorem State.setPort_l1Choice (s : State) (n : Nat) (v : Port) : (s.setPort n v).l1Choice = s.l1Choice := rfl
@[simp] theorem State.setPort_clk (s : State) (n : Nat) (v : Port) : (s.setPort n v).clk = s.clk := rfl
@[simp] theorem State.setPort_uid (s : State) (n : Nat) (v : Port) : (s.setPort n v).uid = s.uid := rfl
@[simp] theorem State.setPort_sent (s : State) (n : Nat) (v : Port) : (s.setPort n v).sent = s.sent := rfl
@[simp] theorem State.setPort_power (s : State) (n : Nat) (v : Port) : (s.setPort n v).power = s.power := rfl
@[simp] theorem State.setPort_pf (s : State) (n : Nat) (v : Port) : (s.setPort n v).pf = s.pf := rfl
@[simp] theorem State.setPort_vds (s : State) (n : Nat) (v : Port) : (s.setPort n v).vds = s.vds := rfl
@[simp] theorem State.setPort_queues (s : State) (n : Nat) (v : Port) : (s.setPort n v).queues = s.queues := rfl
@[simp] theorem State.setPort_irt (s : State) (n : Nat) (v : Port) : (s.setPort n v).irt = s.irt := rfl
@[simp] theorem State.setPort_ctl (s : State) (n : Nat) (v : Port) : (s.setPort n v).ctl = s.ctl := rfl
@[simp] theorem State.setPort_pairs (s : State) (n : Nat) (v : Port) : (s.setPort n v).pairs = s.pairs := rfl
@[simp] theorem State.setPort_grids (s : State) (n : Nat) (v : Port) : (s.setPort n v).grids = s.grids := rfl
@[simp] theorem State.setPort_groups (s : State) (n : Nat) (v : Port) : (s.setPort n v).groups = s.groups := rfl
@[simp] theorem State.setPort_cores (s : State) (n : Nat) (v : Port) : (s.setPort n v).cores = s.cores := rfl
@[simp] theorem State.setPort_parts (s : State) (n : Nat) (v : Port) : (s.setPort n v).parts = s.parts := rfl
@[simp] theorem State.setPort_tables (s : State) (n : Nat) (v : Port) : (s.setPort n v).tables = s.tables := rfl
@[simp] theorem State.setPort_tlb (s : State) (n : Nat) (v : Port) : (s.setPort n v).tlb = s.tlb := rfl
@[simp] theorem State.setPort_walks (s : State) (n : Nat) (v : Port) : (s.setPort n v).walks = s.walks := rfl
@[simp] theorem State.setPort_tlbChoice (s : State) (n : Nat) (v : Port) : (s.setPort n v).tlbChoice = s.tlbChoice := rfl
@[simp] theorem State.setPort_owners (s : State) (n : Nat) (v : Port) : (s.setPort n v).owners = s.owners := rfl
@[simp] theorem State.setPort_tracked (s : State) (n : Nat) (v : Port) : (s.setPort n v).tracked = s.tracked := rfl
@[simp] theorem State.setPort_errors (s : State) (n : Nat) (v : Port) : (s.setPort n v).errors = s.errors := rfl
@[simp] theorem State.setPort_pairing (s : State) (n : Nat) (v : Port) : (s.setPort n v).pairing = s.pairing := rfl
@[simp] theorem State.setPort_endpoints (s : State) (n : Nat) (v : Port) : (s.setPort n v).endpoints = s.endpoints := rfl
@[simp] theorem State.setPort_stations (s : State) (n : Nat) (v : Port) : (s.setPort n v).stations = s.stations := rfl
@[simp] theorem State.setPort_remote (s : State) (n : Nat) (v : Port) : (s.setPort n v).remote = s.remote := rfl
@[simp] theorem State.setPort_heldRequests (s : State) (n : Nat) (v : Port) : (s.setPort n v).heldRequests = s.heldRequests := rfl
@[simp] theorem State.setPort_engineData (s : State) (n : Nat) (v : Port) : (s.setPort n v).engineData = s.engineData := rfl
@[simp] theorem State.setPort_frames (s : State) (n : Nat) (v : Port) : (s.setPort n v).frames = s.frames := rfl
@[simp] theorem State.setPort_keys (s : State) (n : Nat) (v : Port) : (s.setPort n v).keys = s.keys := rfl
@[simp] theorem State.setPort_mem (s : State) (n : Nat) (v : Port) : (s.setPort n v).mem = s.mem := rfl
@[simp] theorem State.setPort_poison (s : State) (n : Nat) (v : Port) : (s.setPort n v).poison = s.poison := rfl

/-! send changes sent alone. -/

@[simp] theorem State.send_cur (s : State) (m : Message) : (s.send m).cur = s.cur := rfl
@[simp] theorem State.send_inputs (s : State) (m : Message) : (s.send m).inputs = s.inputs := rfl
@[simp] theorem State.send_free (s : State) (m : Message) : (s.send m).free = s.free := rfl
@[simp] theorem State.send_l1Choice (s : State) (m : Message) : (s.send m).l1Choice = s.l1Choice := rfl
@[simp] theorem State.send_clk (s : State) (m : Message) : (s.send m).clk = s.clk := rfl
@[simp] theorem State.send_uid (s : State) (m : Message) : (s.send m).uid = s.uid := rfl
@[simp] theorem State.send_power (s : State) (m : Message) : (s.send m).power = s.power := rfl
@[simp] theorem State.send_pf (s : State) (m : Message) : (s.send m).pf = s.pf := rfl
@[simp] theorem State.send_vds (s : State) (m : Message) : (s.send m).vds = s.vds := rfl
@[simp] theorem State.send_queues (s : State) (m : Message) : (s.send m).queues = s.queues := rfl
@[simp] theorem State.send_irt (s : State) (m : Message) : (s.send m).irt = s.irt := rfl
@[simp] theorem State.send_ctl (s : State) (m : Message) : (s.send m).ctl = s.ctl := rfl
@[simp] theorem State.send_pairs (s : State) (m : Message) : (s.send m).pairs = s.pairs := rfl
@[simp] theorem State.send_grids (s : State) (m : Message) : (s.send m).grids = s.grids := rfl
@[simp] theorem State.send_groups (s : State) (m : Message) : (s.send m).groups = s.groups := rfl
@[simp] theorem State.send_cores (s : State) (m : Message) : (s.send m).cores = s.cores := rfl
@[simp] theorem State.send_parts (s : State) (m : Message) : (s.send m).parts = s.parts := rfl
@[simp] theorem State.send_tables (s : State) (m : Message) : (s.send m).tables = s.tables := rfl
@[simp] theorem State.send_tlb (s : State) (m : Message) : (s.send m).tlb = s.tlb := rfl
@[simp] theorem State.send_walks (s : State) (m : Message) : (s.send m).walks = s.walks := rfl
@[simp] theorem State.send_tlbChoice (s : State) (m : Message) : (s.send m).tlbChoice = s.tlbChoice := rfl
@[simp] theorem State.send_owners (s : State) (m : Message) : (s.send m).owners = s.owners := rfl
@[simp] theorem State.send_tracked (s : State) (m : Message) : (s.send m).tracked = s.tracked := rfl
@[simp] theorem State.send_errors (s : State) (m : Message) : (s.send m).errors = s.errors := rfl
@[simp] theorem State.send_pairing (s : State) (m : Message) : (s.send m).pairing = s.pairing := rfl
@[simp] theorem State.send_endpoints (s : State) (m : Message) : (s.send m).endpoints = s.endpoints := rfl
@[simp] theorem State.send_stations (s : State) (m : Message) : (s.send m).stations = s.stations := rfl
@[simp] theorem State.send_remote (s : State) (m : Message) : (s.send m).remote = s.remote := rfl
@[simp] theorem State.send_heldRequests (s : State) (m : Message) : (s.send m).heldRequests = s.heldRequests := rfl
@[simp] theorem State.send_engineData (s : State) (m : Message) : (s.send m).engineData = s.engineData := rfl
@[simp] theorem State.send_ports (s : State) (m : Message) : (s.send m).ports = s.ports := rfl
@[simp] theorem State.send_frames (s : State) (m : Message) : (s.send m).frames = s.frames := rfl
@[simp] theorem State.send_keys (s : State) (m : Message) : (s.send m).keys = s.keys := rfl
@[simp] theorem State.send_mem (s : State) (m : Message) : (s.send m).mem = s.mem := rfl
@[simp] theorem State.send_poison (s : State) (m : Message) : (s.send m).poison = s.poison := rfl

/-! updVd changes vds alone. -/

@[simp] theorem State.updVd_cur (s : State) (n : Nat) (f : Vd → Vd) : (s.updVd n f).cur = s.cur := rfl
@[simp] theorem State.updVd_inputs (s : State) (n : Nat) (f : Vd → Vd) : (s.updVd n f).inputs = s.inputs := rfl
@[simp] theorem State.updVd_free (s : State) (n : Nat) (f : Vd → Vd) : (s.updVd n f).free = s.free := rfl
@[simp] theorem State.updVd_l1Choice (s : State) (n : Nat) (f : Vd → Vd) : (s.updVd n f).l1Choice = s.l1Choice := rfl
@[simp] theorem State.updVd_clk (s : State) (n : Nat) (f : Vd → Vd) : (s.updVd n f).clk = s.clk := rfl
@[simp] theorem State.updVd_uid (s : State) (n : Nat) (f : Vd → Vd) : (s.updVd n f).uid = s.uid := rfl
@[simp] theorem State.updVd_sent (s : State) (n : Nat) (f : Vd → Vd) : (s.updVd n f).sent = s.sent := rfl
@[simp] theorem State.updVd_power (s : State) (n : Nat) (f : Vd → Vd) : (s.updVd n f).power = s.power := rfl
@[simp] theorem State.updVd_pf (s : State) (n : Nat) (f : Vd → Vd) : (s.updVd n f).pf = s.pf := rfl
@[simp] theorem State.updVd_queues (s : State) (n : Nat) (f : Vd → Vd) : (s.updVd n f).queues = s.queues := rfl
@[simp] theorem State.updVd_irt (s : State) (n : Nat) (f : Vd → Vd) : (s.updVd n f).irt = s.irt := rfl
@[simp] theorem State.updVd_ctl (s : State) (n : Nat) (f : Vd → Vd) : (s.updVd n f).ctl = s.ctl := rfl
@[simp] theorem State.updVd_pairs (s : State) (n : Nat) (f : Vd → Vd) : (s.updVd n f).pairs = s.pairs := rfl
@[simp] theorem State.updVd_grids (s : State) (n : Nat) (f : Vd → Vd) : (s.updVd n f).grids = s.grids := rfl
@[simp] theorem State.updVd_groups (s : State) (n : Nat) (f : Vd → Vd) : (s.updVd n f).groups = s.groups := rfl
@[simp] theorem State.updVd_cores (s : State) (n : Nat) (f : Vd → Vd) : (s.updVd n f).cores = s.cores := rfl
@[simp] theorem State.updVd_parts (s : State) (n : Nat) (f : Vd → Vd) : (s.updVd n f).parts = s.parts := rfl
@[simp] theorem State.updVd_tables (s : State) (n : Nat) (f : Vd → Vd) : (s.updVd n f).tables = s.tables := rfl
@[simp] theorem State.updVd_tlb (s : State) (n : Nat) (f : Vd → Vd) : (s.updVd n f).tlb = s.tlb := rfl
@[simp] theorem State.updVd_walks (s : State) (n : Nat) (f : Vd → Vd) : (s.updVd n f).walks = s.walks := rfl
@[simp] theorem State.updVd_tlbChoice (s : State) (n : Nat) (f : Vd → Vd) : (s.updVd n f).tlbChoice = s.tlbChoice := rfl
@[simp] theorem State.updVd_owners (s : State) (n : Nat) (f : Vd → Vd) : (s.updVd n f).owners = s.owners := rfl
@[simp] theorem State.updVd_tracked (s : State) (n : Nat) (f : Vd → Vd) : (s.updVd n f).tracked = s.tracked := rfl
@[simp] theorem State.updVd_errors (s : State) (n : Nat) (f : Vd → Vd) : (s.updVd n f).errors = s.errors := rfl
@[simp] theorem State.updVd_pairing (s : State) (n : Nat) (f : Vd → Vd) : (s.updVd n f).pairing = s.pairing := rfl
@[simp] theorem State.updVd_endpoints (s : State) (n : Nat) (f : Vd → Vd) : (s.updVd n f).endpoints = s.endpoints := rfl
@[simp] theorem State.updVd_stations (s : State) (n : Nat) (f : Vd → Vd) : (s.updVd n f).stations = s.stations := rfl
@[simp] theorem State.updVd_remote (s : State) (n : Nat) (f : Vd → Vd) : (s.updVd n f).remote = s.remote := rfl
@[simp] theorem State.updVd_heldRequests (s : State) (n : Nat) (f : Vd → Vd) : (s.updVd n f).heldRequests = s.heldRequests := rfl
@[simp] theorem State.updVd_engineData (s : State) (n : Nat) (f : Vd → Vd) : (s.updVd n f).engineData = s.engineData := rfl
@[simp] theorem State.updVd_ports (s : State) (n : Nat) (f : Vd → Vd) : (s.updVd n f).ports = s.ports := rfl
@[simp] theorem State.updVd_frames (s : State) (n : Nat) (f : Vd → Vd) : (s.updVd n f).frames = s.frames := rfl
@[simp] theorem State.updVd_keys (s : State) (n : Nat) (f : Vd → Vd) : (s.updVd n f).keys = s.keys := rfl
@[simp] theorem State.updVd_mem (s : State) (n : Nat) (f : Vd → Vd) : (s.updVd n f).mem = s.mem := rfl
@[simp] theorem State.updVd_poison (s : State) (n : Nat) (f : Vd → Vd) : (s.updVd n f).poison = s.poison := rfl

/-! updQueue changes queues alone. -/

@[simp] theorem State.updQueue_cur (s : State) (n : Nat) (f : Queue → Queue) : (s.updQueue n f).cur = s.cur := rfl
@[simp] theorem State.updQueue_inputs (s : State) (n : Nat) (f : Queue → Queue) : (s.updQueue n f).inputs = s.inputs := rfl
@[simp] theorem State.updQueue_free (s : State) (n : Nat) (f : Queue → Queue) : (s.updQueue n f).free = s.free := rfl
@[simp] theorem State.updQueue_l1Choice (s : State) (n : Nat) (f : Queue → Queue) : (s.updQueue n f).l1Choice = s.l1Choice := rfl
@[simp] theorem State.updQueue_clk (s : State) (n : Nat) (f : Queue → Queue) : (s.updQueue n f).clk = s.clk := rfl
@[simp] theorem State.updQueue_uid (s : State) (n : Nat) (f : Queue → Queue) : (s.updQueue n f).uid = s.uid := rfl
@[simp] theorem State.updQueue_sent (s : State) (n : Nat) (f : Queue → Queue) : (s.updQueue n f).sent = s.sent := rfl
@[simp] theorem State.updQueue_power (s : State) (n : Nat) (f : Queue → Queue) : (s.updQueue n f).power = s.power := rfl
@[simp] theorem State.updQueue_pf (s : State) (n : Nat) (f : Queue → Queue) : (s.updQueue n f).pf = s.pf := rfl
@[simp] theorem State.updQueue_vds (s : State) (n : Nat) (f : Queue → Queue) : (s.updQueue n f).vds = s.vds := rfl
@[simp] theorem State.updQueue_irt (s : State) (n : Nat) (f : Queue → Queue) : (s.updQueue n f).irt = s.irt := rfl
@[simp] theorem State.updQueue_ctl (s : State) (n : Nat) (f : Queue → Queue) : (s.updQueue n f).ctl = s.ctl := rfl
@[simp] theorem State.updQueue_pairs (s : State) (n : Nat) (f : Queue → Queue) : (s.updQueue n f).pairs = s.pairs := rfl
@[simp] theorem State.updQueue_grids (s : State) (n : Nat) (f : Queue → Queue) : (s.updQueue n f).grids = s.grids := rfl
@[simp] theorem State.updQueue_groups (s : State) (n : Nat) (f : Queue → Queue) : (s.updQueue n f).groups = s.groups := rfl
@[simp] theorem State.updQueue_cores (s : State) (n : Nat) (f : Queue → Queue) : (s.updQueue n f).cores = s.cores := rfl
@[simp] theorem State.updQueue_parts (s : State) (n : Nat) (f : Queue → Queue) : (s.updQueue n f).parts = s.parts := rfl
@[simp] theorem State.updQueue_tables (s : State) (n : Nat) (f : Queue → Queue) : (s.updQueue n f).tables = s.tables := rfl
@[simp] theorem State.updQueue_tlb (s : State) (n : Nat) (f : Queue → Queue) : (s.updQueue n f).tlb = s.tlb := rfl
@[simp] theorem State.updQueue_walks (s : State) (n : Nat) (f : Queue → Queue) : (s.updQueue n f).walks = s.walks := rfl
@[simp] theorem State.updQueue_tlbChoice (s : State) (n : Nat) (f : Queue → Queue) : (s.updQueue n f).tlbChoice = s.tlbChoice := rfl
@[simp] theorem State.updQueue_owners (s : State) (n : Nat) (f : Queue → Queue) : (s.updQueue n f).owners = s.owners := rfl
@[simp] theorem State.updQueue_tracked (s : State) (n : Nat) (f : Queue → Queue) : (s.updQueue n f).tracked = s.tracked := rfl
@[simp] theorem State.updQueue_errors (s : State) (n : Nat) (f : Queue → Queue) : (s.updQueue n f).errors = s.errors := rfl
@[simp] theorem State.updQueue_pairing (s : State) (n : Nat) (f : Queue → Queue) : (s.updQueue n f).pairing = s.pairing := rfl
@[simp] theorem State.updQueue_endpoints (s : State) (n : Nat) (f : Queue → Queue) : (s.updQueue n f).endpoints = s.endpoints := rfl
@[simp] theorem State.updQueue_stations (s : State) (n : Nat) (f : Queue → Queue) : (s.updQueue n f).stations = s.stations := rfl
@[simp] theorem State.updQueue_remote (s : State) (n : Nat) (f : Queue → Queue) : (s.updQueue n f).remote = s.remote := rfl
@[simp] theorem State.updQueue_heldRequests (s : State) (n : Nat) (f : Queue → Queue) : (s.updQueue n f).heldRequests = s.heldRequests := rfl
@[simp] theorem State.updQueue_engineData (s : State) (n : Nat) (f : Queue → Queue) : (s.updQueue n f).engineData = s.engineData := rfl
@[simp] theorem State.updQueue_ports (s : State) (n : Nat) (f : Queue → Queue) : (s.updQueue n f).ports = s.ports := rfl
@[simp] theorem State.updQueue_frames (s : State) (n : Nat) (f : Queue → Queue) : (s.updQueue n f).frames = s.frames := rfl
@[simp] theorem State.updQueue_keys (s : State) (n : Nat) (f : Queue → Queue) : (s.updQueue n f).keys = s.keys := rfl
@[simp] theorem State.updQueue_mem (s : State) (n : Nat) (f : Queue → Queue) : (s.updQueue n f).mem = s.mem := rfl
@[simp] theorem State.updQueue_poison (s : State) (n : Nat) (f : Queue → Queue) : (s.updQueue n f).poison = s.poison := rfl

/-! updGroup changes groups alone. -/

@[simp] theorem State.updGroup_cur (s : State) (n : Nat) (f : Group → Group) : (s.updGroup n f).cur = s.cur := rfl
@[simp] theorem State.updGroup_inputs (s : State) (n : Nat) (f : Group → Group) : (s.updGroup n f).inputs = s.inputs := rfl
@[simp] theorem State.updGroup_free (s : State) (n : Nat) (f : Group → Group) : (s.updGroup n f).free = s.free := rfl
@[simp] theorem State.updGroup_l1Choice (s : State) (n : Nat) (f : Group → Group) : (s.updGroup n f).l1Choice = s.l1Choice := rfl
@[simp] theorem State.updGroup_clk (s : State) (n : Nat) (f : Group → Group) : (s.updGroup n f).clk = s.clk := rfl
@[simp] theorem State.updGroup_uid (s : State) (n : Nat) (f : Group → Group) : (s.updGroup n f).uid = s.uid := rfl
@[simp] theorem State.updGroup_sent (s : State) (n : Nat) (f : Group → Group) : (s.updGroup n f).sent = s.sent := rfl
@[simp] theorem State.updGroup_power (s : State) (n : Nat) (f : Group → Group) : (s.updGroup n f).power = s.power := rfl
@[simp] theorem State.updGroup_pf (s : State) (n : Nat) (f : Group → Group) : (s.updGroup n f).pf = s.pf := rfl
@[simp] theorem State.updGroup_vds (s : State) (n : Nat) (f : Group → Group) : (s.updGroup n f).vds = s.vds := rfl
@[simp] theorem State.updGroup_queues (s : State) (n : Nat) (f : Group → Group) : (s.updGroup n f).queues = s.queues := rfl
@[simp] theorem State.updGroup_irt (s : State) (n : Nat) (f : Group → Group) : (s.updGroup n f).irt = s.irt := rfl
@[simp] theorem State.updGroup_ctl (s : State) (n : Nat) (f : Group → Group) : (s.updGroup n f).ctl = s.ctl := rfl
@[simp] theorem State.updGroup_pairs (s : State) (n : Nat) (f : Group → Group) : (s.updGroup n f).pairs = s.pairs := rfl
@[simp] theorem State.updGroup_grids (s : State) (n : Nat) (f : Group → Group) : (s.updGroup n f).grids = s.grids := rfl
@[simp] theorem State.updGroup_cores (s : State) (n : Nat) (f : Group → Group) : (s.updGroup n f).cores = s.cores := rfl
@[simp] theorem State.updGroup_parts (s : State) (n : Nat) (f : Group → Group) : (s.updGroup n f).parts = s.parts := rfl
@[simp] theorem State.updGroup_tables (s : State) (n : Nat) (f : Group → Group) : (s.updGroup n f).tables = s.tables := rfl
@[simp] theorem State.updGroup_tlb (s : State) (n : Nat) (f : Group → Group) : (s.updGroup n f).tlb = s.tlb := rfl
@[simp] theorem State.updGroup_walks (s : State) (n : Nat) (f : Group → Group) : (s.updGroup n f).walks = s.walks := rfl
@[simp] theorem State.updGroup_tlbChoice (s : State) (n : Nat) (f : Group → Group) : (s.updGroup n f).tlbChoice = s.tlbChoice := rfl
@[simp] theorem State.updGroup_owners (s : State) (n : Nat) (f : Group → Group) : (s.updGroup n f).owners = s.owners := rfl
@[simp] theorem State.updGroup_tracked (s : State) (n : Nat) (f : Group → Group) : (s.updGroup n f).tracked = s.tracked := rfl
@[simp] theorem State.updGroup_errors (s : State) (n : Nat) (f : Group → Group) : (s.updGroup n f).errors = s.errors := rfl
@[simp] theorem State.updGroup_pairing (s : State) (n : Nat) (f : Group → Group) : (s.updGroup n f).pairing = s.pairing := rfl
@[simp] theorem State.updGroup_endpoints (s : State) (n : Nat) (f : Group → Group) : (s.updGroup n f).endpoints = s.endpoints := rfl
@[simp] theorem State.updGroup_stations (s : State) (n : Nat) (f : Group → Group) : (s.updGroup n f).stations = s.stations := rfl
@[simp] theorem State.updGroup_remote (s : State) (n : Nat) (f : Group → Group) : (s.updGroup n f).remote = s.remote := rfl
@[simp] theorem State.updGroup_heldRequests (s : State) (n : Nat) (f : Group → Group) : (s.updGroup n f).heldRequests = s.heldRequests := rfl
@[simp] theorem State.updGroup_engineData (s : State) (n : Nat) (f : Group → Group) : (s.updGroup n f).engineData = s.engineData := rfl
@[simp] theorem State.updGroup_ports (s : State) (n : Nat) (f : Group → Group) : (s.updGroup n f).ports = s.ports := rfl
@[simp] theorem State.updGroup_frames (s : State) (n : Nat) (f : Group → Group) : (s.updGroup n f).frames = s.frames := rfl
@[simp] theorem State.updGroup_keys (s : State) (n : Nat) (f : Group → Group) : (s.updGroup n f).keys = s.keys := rfl
@[simp] theorem State.updGroup_mem (s : State) (n : Nat) (f : Group → Group) : (s.updGroup n f).mem = s.mem := rfl
@[simp] theorem State.updGroup_poison (s : State) (n : Nat) (f : Group → Group) : (s.updGroup n f).poison = s.poison := rfl

/-! updGrid changes grids alone. -/

@[simp] theorem State.updGrid_cur (s : State) (n : Nat) (f : Grid → Grid) : (s.updGrid n f).cur = s.cur := rfl
@[simp] theorem State.updGrid_inputs (s : State) (n : Nat) (f : Grid → Grid) : (s.updGrid n f).inputs = s.inputs := rfl
@[simp] theorem State.updGrid_free (s : State) (n : Nat) (f : Grid → Grid) : (s.updGrid n f).free = s.free := rfl
@[simp] theorem State.updGrid_l1Choice (s : State) (n : Nat) (f : Grid → Grid) : (s.updGrid n f).l1Choice = s.l1Choice := rfl
@[simp] theorem State.updGrid_clk (s : State) (n : Nat) (f : Grid → Grid) : (s.updGrid n f).clk = s.clk := rfl
@[simp] theorem State.updGrid_uid (s : State) (n : Nat) (f : Grid → Grid) : (s.updGrid n f).uid = s.uid := rfl
@[simp] theorem State.updGrid_sent (s : State) (n : Nat) (f : Grid → Grid) : (s.updGrid n f).sent = s.sent := rfl
@[simp] theorem State.updGrid_power (s : State) (n : Nat) (f : Grid → Grid) : (s.updGrid n f).power = s.power := rfl
@[simp] theorem State.updGrid_pf (s : State) (n : Nat) (f : Grid → Grid) : (s.updGrid n f).pf = s.pf := rfl
@[simp] theorem State.updGrid_vds (s : State) (n : Nat) (f : Grid → Grid) : (s.updGrid n f).vds = s.vds := rfl
@[simp] theorem State.updGrid_queues (s : State) (n : Nat) (f : Grid → Grid) : (s.updGrid n f).queues = s.queues := rfl
@[simp] theorem State.updGrid_irt (s : State) (n : Nat) (f : Grid → Grid) : (s.updGrid n f).irt = s.irt := rfl
@[simp] theorem State.updGrid_ctl (s : State) (n : Nat) (f : Grid → Grid) : (s.updGrid n f).ctl = s.ctl := rfl
@[simp] theorem State.updGrid_pairs (s : State) (n : Nat) (f : Grid → Grid) : (s.updGrid n f).pairs = s.pairs := rfl
@[simp] theorem State.updGrid_groups (s : State) (n : Nat) (f : Grid → Grid) : (s.updGrid n f).groups = s.groups := rfl
@[simp] theorem State.updGrid_cores (s : State) (n : Nat) (f : Grid → Grid) : (s.updGrid n f).cores = s.cores := rfl
@[simp] theorem State.updGrid_parts (s : State) (n : Nat) (f : Grid → Grid) : (s.updGrid n f).parts = s.parts := rfl
@[simp] theorem State.updGrid_tables (s : State) (n : Nat) (f : Grid → Grid) : (s.updGrid n f).tables = s.tables := rfl
@[simp] theorem State.updGrid_tlb (s : State) (n : Nat) (f : Grid → Grid) : (s.updGrid n f).tlb = s.tlb := rfl
@[simp] theorem State.updGrid_walks (s : State) (n : Nat) (f : Grid → Grid) : (s.updGrid n f).walks = s.walks := rfl
@[simp] theorem State.updGrid_tlbChoice (s : State) (n : Nat) (f : Grid → Grid) : (s.updGrid n f).tlbChoice = s.tlbChoice := rfl
@[simp] theorem State.updGrid_owners (s : State) (n : Nat) (f : Grid → Grid) : (s.updGrid n f).owners = s.owners := rfl
@[simp] theorem State.updGrid_tracked (s : State) (n : Nat) (f : Grid → Grid) : (s.updGrid n f).tracked = s.tracked := rfl
@[simp] theorem State.updGrid_errors (s : State) (n : Nat) (f : Grid → Grid) : (s.updGrid n f).errors = s.errors := rfl
@[simp] theorem State.updGrid_pairing (s : State) (n : Nat) (f : Grid → Grid) : (s.updGrid n f).pairing = s.pairing := rfl
@[simp] theorem State.updGrid_endpoints (s : State) (n : Nat) (f : Grid → Grid) : (s.updGrid n f).endpoints = s.endpoints := rfl
@[simp] theorem State.updGrid_stations (s : State) (n : Nat) (f : Grid → Grid) : (s.updGrid n f).stations = s.stations := rfl
@[simp] theorem State.updGrid_remote (s : State) (n : Nat) (f : Grid → Grid) : (s.updGrid n f).remote = s.remote := rfl
@[simp] theorem State.updGrid_heldRequests (s : State) (n : Nat) (f : Grid → Grid) : (s.updGrid n f).heldRequests = s.heldRequests := rfl
@[simp] theorem State.updGrid_engineData (s : State) (n : Nat) (f : Grid → Grid) : (s.updGrid n f).engineData = s.engineData := rfl
@[simp] theorem State.updGrid_ports (s : State) (n : Nat) (f : Grid → Grid) : (s.updGrid n f).ports = s.ports := rfl
@[simp] theorem State.updGrid_frames (s : State) (n : Nat) (f : Grid → Grid) : (s.updGrid n f).frames = s.frames := rfl
@[simp] theorem State.updGrid_keys (s : State) (n : Nat) (f : Grid → Grid) : (s.updGrid n f).keys = s.keys := rfl
@[simp] theorem State.updGrid_mem (s : State) (n : Nat) (f : Grid → Grid) : (s.updGrid n f).mem = s.mem := rfl
@[simp] theorem State.updGrid_poison (s : State) (n : Nat) (f : Grid → Grid) : (s.updGrid n f).poison = s.poison := rfl

/-! updCore changes cores alone. -/

@[simp] theorem State.updCore_cur (s : State) (n : Nat) (f : Core → Core) : (s.updCore n f).cur = s.cur := rfl
@[simp] theorem State.updCore_inputs (s : State) (n : Nat) (f : Core → Core) : (s.updCore n f).inputs = s.inputs := rfl
@[simp] theorem State.updCore_free (s : State) (n : Nat) (f : Core → Core) : (s.updCore n f).free = s.free := rfl
@[simp] theorem State.updCore_l1Choice (s : State) (n : Nat) (f : Core → Core) : (s.updCore n f).l1Choice = s.l1Choice := rfl
@[simp] theorem State.updCore_clk (s : State) (n : Nat) (f : Core → Core) : (s.updCore n f).clk = s.clk := rfl
@[simp] theorem State.updCore_uid (s : State) (n : Nat) (f : Core → Core) : (s.updCore n f).uid = s.uid := rfl
@[simp] theorem State.updCore_sent (s : State) (n : Nat) (f : Core → Core) : (s.updCore n f).sent = s.sent := rfl
@[simp] theorem State.updCore_power (s : State) (n : Nat) (f : Core → Core) : (s.updCore n f).power = s.power := rfl
@[simp] theorem State.updCore_pf (s : State) (n : Nat) (f : Core → Core) : (s.updCore n f).pf = s.pf := rfl
@[simp] theorem State.updCore_vds (s : State) (n : Nat) (f : Core → Core) : (s.updCore n f).vds = s.vds := rfl
@[simp] theorem State.updCore_queues (s : State) (n : Nat) (f : Core → Core) : (s.updCore n f).queues = s.queues := rfl
@[simp] theorem State.updCore_irt (s : State) (n : Nat) (f : Core → Core) : (s.updCore n f).irt = s.irt := rfl
@[simp] theorem State.updCore_ctl (s : State) (n : Nat) (f : Core → Core) : (s.updCore n f).ctl = s.ctl := rfl
@[simp] theorem State.updCore_pairs (s : State) (n : Nat) (f : Core → Core) : (s.updCore n f).pairs = s.pairs := rfl
@[simp] theorem State.updCore_grids (s : State) (n : Nat) (f : Core → Core) : (s.updCore n f).grids = s.grids := rfl
@[simp] theorem State.updCore_groups (s : State) (n : Nat) (f : Core → Core) : (s.updCore n f).groups = s.groups := rfl
@[simp] theorem State.updCore_parts (s : State) (n : Nat) (f : Core → Core) : (s.updCore n f).parts = s.parts := rfl
@[simp] theorem State.updCore_tables (s : State) (n : Nat) (f : Core → Core) : (s.updCore n f).tables = s.tables := rfl
@[simp] theorem State.updCore_tlb (s : State) (n : Nat) (f : Core → Core) : (s.updCore n f).tlb = s.tlb := rfl
@[simp] theorem State.updCore_walks (s : State) (n : Nat) (f : Core → Core) : (s.updCore n f).walks = s.walks := rfl
@[simp] theorem State.updCore_tlbChoice (s : State) (n : Nat) (f : Core → Core) : (s.updCore n f).tlbChoice = s.tlbChoice := rfl
@[simp] theorem State.updCore_owners (s : State) (n : Nat) (f : Core → Core) : (s.updCore n f).owners = s.owners := rfl
@[simp] theorem State.updCore_tracked (s : State) (n : Nat) (f : Core → Core) : (s.updCore n f).tracked = s.tracked := rfl
@[simp] theorem State.updCore_errors (s : State) (n : Nat) (f : Core → Core) : (s.updCore n f).errors = s.errors := rfl
@[simp] theorem State.updCore_pairing (s : State) (n : Nat) (f : Core → Core) : (s.updCore n f).pairing = s.pairing := rfl
@[simp] theorem State.updCore_endpoints (s : State) (n : Nat) (f : Core → Core) : (s.updCore n f).endpoints = s.endpoints := rfl
@[simp] theorem State.updCore_stations (s : State) (n : Nat) (f : Core → Core) : (s.updCore n f).stations = s.stations := rfl
@[simp] theorem State.updCore_remote (s : State) (n : Nat) (f : Core → Core) : (s.updCore n f).remote = s.remote := rfl
@[simp] theorem State.updCore_heldRequests (s : State) (n : Nat) (f : Core → Core) : (s.updCore n f).heldRequests = s.heldRequests := rfl
@[simp] theorem State.updCore_engineData (s : State) (n : Nat) (f : Core → Core) : (s.updCore n f).engineData = s.engineData := rfl
@[simp] theorem State.updCore_ports (s : State) (n : Nat) (f : Core → Core) : (s.updCore n f).ports = s.ports := rfl
@[simp] theorem State.updCore_frames (s : State) (n : Nat) (f : Core → Core) : (s.updCore n f).frames = s.frames := rfl
@[simp] theorem State.updCore_keys (s : State) (n : Nat) (f : Core → Core) : (s.updCore n f).keys = s.keys := rfl
@[simp] theorem State.updCore_mem (s : State) (n : Nat) (f : Core → Core) : (s.updCore n f).mem = s.mem := rfl
@[simp] theorem State.updCore_poison (s : State) (n : Nat) (f : Core → Core) : (s.updCore n f).poison = s.poison := rfl

/-! updCtl changes ctl alone. -/

@[simp] theorem State.updCtl_cur (s : State) (n : Nat) (f : CtlCore → CtlCore) : (s.updCtl n f).cur = s.cur := rfl
@[simp] theorem State.updCtl_inputs (s : State) (n : Nat) (f : CtlCore → CtlCore) : (s.updCtl n f).inputs = s.inputs := rfl
@[simp] theorem State.updCtl_free (s : State) (n : Nat) (f : CtlCore → CtlCore) : (s.updCtl n f).free = s.free := rfl
@[simp] theorem State.updCtl_l1Choice (s : State) (n : Nat) (f : CtlCore → CtlCore) : (s.updCtl n f).l1Choice = s.l1Choice := rfl
@[simp] theorem State.updCtl_clk (s : State) (n : Nat) (f : CtlCore → CtlCore) : (s.updCtl n f).clk = s.clk := rfl
@[simp] theorem State.updCtl_uid (s : State) (n : Nat) (f : CtlCore → CtlCore) : (s.updCtl n f).uid = s.uid := rfl
@[simp] theorem State.updCtl_sent (s : State) (n : Nat) (f : CtlCore → CtlCore) : (s.updCtl n f).sent = s.sent := rfl
@[simp] theorem State.updCtl_power (s : State) (n : Nat) (f : CtlCore → CtlCore) : (s.updCtl n f).power = s.power := rfl
@[simp] theorem State.updCtl_pf (s : State) (n : Nat) (f : CtlCore → CtlCore) : (s.updCtl n f).pf = s.pf := rfl
@[simp] theorem State.updCtl_vds (s : State) (n : Nat) (f : CtlCore → CtlCore) : (s.updCtl n f).vds = s.vds := rfl
@[simp] theorem State.updCtl_queues (s : State) (n : Nat) (f : CtlCore → CtlCore) : (s.updCtl n f).queues = s.queues := rfl
@[simp] theorem State.updCtl_irt (s : State) (n : Nat) (f : CtlCore → CtlCore) : (s.updCtl n f).irt = s.irt := rfl
@[simp] theorem State.updCtl_pairs (s : State) (n : Nat) (f : CtlCore → CtlCore) : (s.updCtl n f).pairs = s.pairs := rfl
@[simp] theorem State.updCtl_grids (s : State) (n : Nat) (f : CtlCore → CtlCore) : (s.updCtl n f).grids = s.grids := rfl
@[simp] theorem State.updCtl_groups (s : State) (n : Nat) (f : CtlCore → CtlCore) : (s.updCtl n f).groups = s.groups := rfl
@[simp] theorem State.updCtl_cores (s : State) (n : Nat) (f : CtlCore → CtlCore) : (s.updCtl n f).cores = s.cores := rfl
@[simp] theorem State.updCtl_parts (s : State) (n : Nat) (f : CtlCore → CtlCore) : (s.updCtl n f).parts = s.parts := rfl
@[simp] theorem State.updCtl_tables (s : State) (n : Nat) (f : CtlCore → CtlCore) : (s.updCtl n f).tables = s.tables := rfl
@[simp] theorem State.updCtl_tlb (s : State) (n : Nat) (f : CtlCore → CtlCore) : (s.updCtl n f).tlb = s.tlb := rfl
@[simp] theorem State.updCtl_walks (s : State) (n : Nat) (f : CtlCore → CtlCore) : (s.updCtl n f).walks = s.walks := rfl
@[simp] theorem State.updCtl_tlbChoice (s : State) (n : Nat) (f : CtlCore → CtlCore) : (s.updCtl n f).tlbChoice = s.tlbChoice := rfl
@[simp] theorem State.updCtl_owners (s : State) (n : Nat) (f : CtlCore → CtlCore) : (s.updCtl n f).owners = s.owners := rfl
@[simp] theorem State.updCtl_tracked (s : State) (n : Nat) (f : CtlCore → CtlCore) : (s.updCtl n f).tracked = s.tracked := rfl
@[simp] theorem State.updCtl_errors (s : State) (n : Nat) (f : CtlCore → CtlCore) : (s.updCtl n f).errors = s.errors := rfl
@[simp] theorem State.updCtl_pairing (s : State) (n : Nat) (f : CtlCore → CtlCore) : (s.updCtl n f).pairing = s.pairing := rfl
@[simp] theorem State.updCtl_endpoints (s : State) (n : Nat) (f : CtlCore → CtlCore) : (s.updCtl n f).endpoints = s.endpoints := rfl
@[simp] theorem State.updCtl_stations (s : State) (n : Nat) (f : CtlCore → CtlCore) : (s.updCtl n f).stations = s.stations := rfl
@[simp] theorem State.updCtl_remote (s : State) (n : Nat) (f : CtlCore → CtlCore) : (s.updCtl n f).remote = s.remote := rfl
@[simp] theorem State.updCtl_heldRequests (s : State) (n : Nat) (f : CtlCore → CtlCore) : (s.updCtl n f).heldRequests = s.heldRequests := rfl
@[simp] theorem State.updCtl_engineData (s : State) (n : Nat) (f : CtlCore → CtlCore) : (s.updCtl n f).engineData = s.engineData := rfl
@[simp] theorem State.updCtl_ports (s : State) (n : Nat) (f : CtlCore → CtlCore) : (s.updCtl n f).ports = s.ports := rfl
@[simp] theorem State.updCtl_frames (s : State) (n : Nat) (f : CtlCore → CtlCore) : (s.updCtl n f).frames = s.frames := rfl
@[simp] theorem State.updCtl_keys (s : State) (n : Nat) (f : CtlCore → CtlCore) : (s.updCtl n f).keys = s.keys := rfl
@[simp] theorem State.updCtl_mem (s : State) (n : Nat) (f : CtlCore → CtlCore) : (s.updCtl n f).mem = s.mem := rfl
@[simp] theorem State.updCtl_poison (s : State) (n : Nat) (f : CtlCore → CtlCore) : (s.updCtl n f).poison = s.poison := rfl

/-! updPair changes pairs alone. -/

@[simp] theorem State.updPair_cur (s : State) (n : Nat) (f : Pair → Pair) : (s.updPair n f).cur = s.cur := rfl
@[simp] theorem State.updPair_inputs (s : State) (n : Nat) (f : Pair → Pair) : (s.updPair n f).inputs = s.inputs := rfl
@[simp] theorem State.updPair_free (s : State) (n : Nat) (f : Pair → Pair) : (s.updPair n f).free = s.free := rfl
@[simp] theorem State.updPair_l1Choice (s : State) (n : Nat) (f : Pair → Pair) : (s.updPair n f).l1Choice = s.l1Choice := rfl
@[simp] theorem State.updPair_clk (s : State) (n : Nat) (f : Pair → Pair) : (s.updPair n f).clk = s.clk := rfl
@[simp] theorem State.updPair_uid (s : State) (n : Nat) (f : Pair → Pair) : (s.updPair n f).uid = s.uid := rfl
@[simp] theorem State.updPair_sent (s : State) (n : Nat) (f : Pair → Pair) : (s.updPair n f).sent = s.sent := rfl
@[simp] theorem State.updPair_power (s : State) (n : Nat) (f : Pair → Pair) : (s.updPair n f).power = s.power := rfl
@[simp] theorem State.updPair_pf (s : State) (n : Nat) (f : Pair → Pair) : (s.updPair n f).pf = s.pf := rfl
@[simp] theorem State.updPair_vds (s : State) (n : Nat) (f : Pair → Pair) : (s.updPair n f).vds = s.vds := rfl
@[simp] theorem State.updPair_queues (s : State) (n : Nat) (f : Pair → Pair) : (s.updPair n f).queues = s.queues := rfl
@[simp] theorem State.updPair_irt (s : State) (n : Nat) (f : Pair → Pair) : (s.updPair n f).irt = s.irt := rfl
@[simp] theorem State.updPair_ctl (s : State) (n : Nat) (f : Pair → Pair) : (s.updPair n f).ctl = s.ctl := rfl
@[simp] theorem State.updPair_grids (s : State) (n : Nat) (f : Pair → Pair) : (s.updPair n f).grids = s.grids := rfl
@[simp] theorem State.updPair_groups (s : State) (n : Nat) (f : Pair → Pair) : (s.updPair n f).groups = s.groups := rfl
@[simp] theorem State.updPair_cores (s : State) (n : Nat) (f : Pair → Pair) : (s.updPair n f).cores = s.cores := rfl
@[simp] theorem State.updPair_parts (s : State) (n : Nat) (f : Pair → Pair) : (s.updPair n f).parts = s.parts := rfl
@[simp] theorem State.updPair_tables (s : State) (n : Nat) (f : Pair → Pair) : (s.updPair n f).tables = s.tables := rfl
@[simp] theorem State.updPair_tlb (s : State) (n : Nat) (f : Pair → Pair) : (s.updPair n f).tlb = s.tlb := rfl
@[simp] theorem State.updPair_walks (s : State) (n : Nat) (f : Pair → Pair) : (s.updPair n f).walks = s.walks := rfl
@[simp] theorem State.updPair_tlbChoice (s : State) (n : Nat) (f : Pair → Pair) : (s.updPair n f).tlbChoice = s.tlbChoice := rfl
@[simp] theorem State.updPair_owners (s : State) (n : Nat) (f : Pair → Pair) : (s.updPair n f).owners = s.owners := rfl
@[simp] theorem State.updPair_tracked (s : State) (n : Nat) (f : Pair → Pair) : (s.updPair n f).tracked = s.tracked := rfl
@[simp] theorem State.updPair_errors (s : State) (n : Nat) (f : Pair → Pair) : (s.updPair n f).errors = s.errors := rfl
@[simp] theorem State.updPair_pairing (s : State) (n : Nat) (f : Pair → Pair) : (s.updPair n f).pairing = s.pairing := rfl
@[simp] theorem State.updPair_endpoints (s : State) (n : Nat) (f : Pair → Pair) : (s.updPair n f).endpoints = s.endpoints := rfl
@[simp] theorem State.updPair_stations (s : State) (n : Nat) (f : Pair → Pair) : (s.updPair n f).stations = s.stations := rfl
@[simp] theorem State.updPair_remote (s : State) (n : Nat) (f : Pair → Pair) : (s.updPair n f).remote = s.remote := rfl
@[simp] theorem State.updPair_heldRequests (s : State) (n : Nat) (f : Pair → Pair) : (s.updPair n f).heldRequests = s.heldRequests := rfl
@[simp] theorem State.updPair_engineData (s : State) (n : Nat) (f : Pair → Pair) : (s.updPair n f).engineData = s.engineData := rfl
@[simp] theorem State.updPair_ports (s : State) (n : Nat) (f : Pair → Pair) : (s.updPair n f).ports = s.ports := rfl
@[simp] theorem State.updPair_frames (s : State) (n : Nat) (f : Pair → Pair) : (s.updPair n f).frames = s.frames := rfl
@[simp] theorem State.updPair_keys (s : State) (n : Nat) (f : Pair → Pair) : (s.updPair n f).keys = s.keys := rfl
@[simp] theorem State.updPair_mem (s : State) (n : Nat) (f : Pair → Pair) : (s.updPair n f).mem = s.mem := rfl
@[simp] theorem State.updPair_poison (s : State) (n : Nat) (f : Pair → Pair) : (s.updPair n f).poison = s.poison := rfl

/-! setWarp changes groups alone. -/

@[simp] theorem State.setWarp_cur (s : State) (g w : Nat) (v : Warp) : (s.setWarp g w v).cur = s.cur := rfl
@[simp] theorem State.setWarp_inputs (s : State) (g w : Nat) (v : Warp) : (s.setWarp g w v).inputs = s.inputs := rfl
@[simp] theorem State.setWarp_free (s : State) (g w : Nat) (v : Warp) : (s.setWarp g w v).free = s.free := rfl
@[simp] theorem State.setWarp_l1Choice (s : State) (g w : Nat) (v : Warp) : (s.setWarp g w v).l1Choice = s.l1Choice := rfl
@[simp] theorem State.setWarp_clk (s : State) (g w : Nat) (v : Warp) : (s.setWarp g w v).clk = s.clk := rfl
@[simp] theorem State.setWarp_uid (s : State) (g w : Nat) (v : Warp) : (s.setWarp g w v).uid = s.uid := rfl
@[simp] theorem State.setWarp_sent (s : State) (g w : Nat) (v : Warp) : (s.setWarp g w v).sent = s.sent := rfl
@[simp] theorem State.setWarp_power (s : State) (g w : Nat) (v : Warp) : (s.setWarp g w v).power = s.power := rfl
@[simp] theorem State.setWarp_pf (s : State) (g w : Nat) (v : Warp) : (s.setWarp g w v).pf = s.pf := rfl
@[simp] theorem State.setWarp_vds (s : State) (g w : Nat) (v : Warp) : (s.setWarp g w v).vds = s.vds := rfl
@[simp] theorem State.setWarp_queues (s : State) (g w : Nat) (v : Warp) : (s.setWarp g w v).queues = s.queues := rfl
@[simp] theorem State.setWarp_irt (s : State) (g w : Nat) (v : Warp) : (s.setWarp g w v).irt = s.irt := rfl
@[simp] theorem State.setWarp_ctl (s : State) (g w : Nat) (v : Warp) : (s.setWarp g w v).ctl = s.ctl := rfl
@[simp] theorem State.setWarp_pairs (s : State) (g w : Nat) (v : Warp) : (s.setWarp g w v).pairs = s.pairs := rfl
@[simp] theorem State.setWarp_grids (s : State) (g w : Nat) (v : Warp) : (s.setWarp g w v).grids = s.grids := rfl
@[simp] theorem State.setWarp_cores (s : State) (g w : Nat) (v : Warp) : (s.setWarp g w v).cores = s.cores := rfl
@[simp] theorem State.setWarp_parts (s : State) (g w : Nat) (v : Warp) : (s.setWarp g w v).parts = s.parts := rfl
@[simp] theorem State.setWarp_tables (s : State) (g w : Nat) (v : Warp) : (s.setWarp g w v).tables = s.tables := rfl
@[simp] theorem State.setWarp_tlb (s : State) (g w : Nat) (v : Warp) : (s.setWarp g w v).tlb = s.tlb := rfl
@[simp] theorem State.setWarp_walks (s : State) (g w : Nat) (v : Warp) : (s.setWarp g w v).walks = s.walks := rfl
@[simp] theorem State.setWarp_tlbChoice (s : State) (g w : Nat) (v : Warp) : (s.setWarp g w v).tlbChoice = s.tlbChoice := rfl
@[simp] theorem State.setWarp_owners (s : State) (g w : Nat) (v : Warp) : (s.setWarp g w v).owners = s.owners := rfl
@[simp] theorem State.setWarp_tracked (s : State) (g w : Nat) (v : Warp) : (s.setWarp g w v).tracked = s.tracked := rfl
@[simp] theorem State.setWarp_errors (s : State) (g w : Nat) (v : Warp) : (s.setWarp g w v).errors = s.errors := rfl
@[simp] theorem State.setWarp_pairing (s : State) (g w : Nat) (v : Warp) : (s.setWarp g w v).pairing = s.pairing := rfl
@[simp] theorem State.setWarp_endpoints (s : State) (g w : Nat) (v : Warp) : (s.setWarp g w v).endpoints = s.endpoints := rfl
@[simp] theorem State.setWarp_stations (s : State) (g w : Nat) (v : Warp) : (s.setWarp g w v).stations = s.stations := rfl
@[simp] theorem State.setWarp_remote (s : State) (g w : Nat) (v : Warp) : (s.setWarp g w v).remote = s.remote := rfl
@[simp] theorem State.setWarp_heldRequests (s : State) (g w : Nat) (v : Warp) : (s.setWarp g w v).heldRequests = s.heldRequests := rfl
@[simp] theorem State.setWarp_engineData (s : State) (g w : Nat) (v : Warp) : (s.setWarp g w v).engineData = s.engineData := rfl
@[simp] theorem State.setWarp_ports (s : State) (g w : Nat) (v : Warp) : (s.setWarp g w v).ports = s.ports := rfl
@[simp] theorem State.setWarp_frames (s : State) (g w : Nat) (v : Warp) : (s.setWarp g w v).frames = s.frames := rfl
@[simp] theorem State.setWarp_keys (s : State) (g w : Nat) (v : Warp) : (s.setWarp g w v).keys = s.keys := rfl
@[simp] theorem State.setWarp_mem (s : State) (g w : Nat) (v : Warp) : (s.setWarp g w v).mem = s.mem := rfl
@[simp] theorem State.setWarp_poison (s : State) (g w : Nat) (v : Warp) : (s.setWarp g w v).poison = s.poison := rfl

/-! updWarp changes groups alone. -/

@[simp] theorem State.updWarp_cur (s : State) (g w : Nat) (f : Warp → Warp) : (s.updWarp g w f).cur = s.cur := rfl
@[simp] theorem State.updWarp_inputs (s : State) (g w : Nat) (f : Warp → Warp) : (s.updWarp g w f).inputs = s.inputs := rfl
@[simp] theorem State.updWarp_free (s : State) (g w : Nat) (f : Warp → Warp) : (s.updWarp g w f).free = s.free := rfl
@[simp] theorem State.updWarp_l1Choice (s : State) (g w : Nat) (f : Warp → Warp) : (s.updWarp g w f).l1Choice = s.l1Choice := rfl
@[simp] theorem State.updWarp_clk (s : State) (g w : Nat) (f : Warp → Warp) : (s.updWarp g w f).clk = s.clk := rfl
@[simp] theorem State.updWarp_uid (s : State) (g w : Nat) (f : Warp → Warp) : (s.updWarp g w f).uid = s.uid := rfl
@[simp] theorem State.updWarp_sent (s : State) (g w : Nat) (f : Warp → Warp) : (s.updWarp g w f).sent = s.sent := rfl
@[simp] theorem State.updWarp_power (s : State) (g w : Nat) (f : Warp → Warp) : (s.updWarp g w f).power = s.power := rfl
@[simp] theorem State.updWarp_pf (s : State) (g w : Nat) (f : Warp → Warp) : (s.updWarp g w f).pf = s.pf := rfl
@[simp] theorem State.updWarp_vds (s : State) (g w : Nat) (f : Warp → Warp) : (s.updWarp g w f).vds = s.vds := rfl
@[simp] theorem State.updWarp_queues (s : State) (g w : Nat) (f : Warp → Warp) : (s.updWarp g w f).queues = s.queues := rfl
@[simp] theorem State.updWarp_irt (s : State) (g w : Nat) (f : Warp → Warp) : (s.updWarp g w f).irt = s.irt := rfl
@[simp] theorem State.updWarp_ctl (s : State) (g w : Nat) (f : Warp → Warp) : (s.updWarp g w f).ctl = s.ctl := rfl
@[simp] theorem State.updWarp_pairs (s : State) (g w : Nat) (f : Warp → Warp) : (s.updWarp g w f).pairs = s.pairs := rfl
@[simp] theorem State.updWarp_grids (s : State) (g w : Nat) (f : Warp → Warp) : (s.updWarp g w f).grids = s.grids := rfl
@[simp] theorem State.updWarp_cores (s : State) (g w : Nat) (f : Warp → Warp) : (s.updWarp g w f).cores = s.cores := rfl
@[simp] theorem State.updWarp_parts (s : State) (g w : Nat) (f : Warp → Warp) : (s.updWarp g w f).parts = s.parts := rfl
@[simp] theorem State.updWarp_tables (s : State) (g w : Nat) (f : Warp → Warp) : (s.updWarp g w f).tables = s.tables := rfl
@[simp] theorem State.updWarp_tlb (s : State) (g w : Nat) (f : Warp → Warp) : (s.updWarp g w f).tlb = s.tlb := rfl
@[simp] theorem State.updWarp_walks (s : State) (g w : Nat) (f : Warp → Warp) : (s.updWarp g w f).walks = s.walks := rfl
@[simp] theorem State.updWarp_tlbChoice (s : State) (g w : Nat) (f : Warp → Warp) : (s.updWarp g w f).tlbChoice = s.tlbChoice := rfl
@[simp] theorem State.updWarp_owners (s : State) (g w : Nat) (f : Warp → Warp) : (s.updWarp g w f).owners = s.owners := rfl
@[simp] theorem State.updWarp_tracked (s : State) (g w : Nat) (f : Warp → Warp) : (s.updWarp g w f).tracked = s.tracked := rfl
@[simp] theorem State.updWarp_errors (s : State) (g w : Nat) (f : Warp → Warp) : (s.updWarp g w f).errors = s.errors := rfl
@[simp] theorem State.updWarp_pairing (s : State) (g w : Nat) (f : Warp → Warp) : (s.updWarp g w f).pairing = s.pairing := rfl
@[simp] theorem State.updWarp_endpoints (s : State) (g w : Nat) (f : Warp → Warp) : (s.updWarp g w f).endpoints = s.endpoints := rfl
@[simp] theorem State.updWarp_stations (s : State) (g w : Nat) (f : Warp → Warp) : (s.updWarp g w f).stations = s.stations := rfl
@[simp] theorem State.updWarp_remote (s : State) (g w : Nat) (f : Warp → Warp) : (s.updWarp g w f).remote = s.remote := rfl
@[simp] theorem State.updWarp_heldRequests (s : State) (g w : Nat) (f : Warp → Warp) : (s.updWarp g w f).heldRequests = s.heldRequests := rfl
@[simp] theorem State.updWarp_engineData (s : State) (g w : Nat) (f : Warp → Warp) : (s.updWarp g w f).engineData = s.engineData := rfl
@[simp] theorem State.updWarp_ports (s : State) (g w : Nat) (f : Warp → Warp) : (s.updWarp g w f).ports = s.ports := rfl
@[simp] theorem State.updWarp_frames (s : State) (g w : Nat) (f : Warp → Warp) : (s.updWarp g w f).frames = s.frames := rfl
@[simp] theorem State.updWarp_keys (s : State) (g w : Nat) (f : Warp → Warp) : (s.updWarp g w f).keys = s.keys := rfl
@[simp] theorem State.updWarp_mem (s : State) (g w : Nat) (f : Warp → Warp) : (s.updWarp g w f).mem = s.mem := rfl
@[simp] theorem State.updWarp_poison (s : State) (g w : Nat) (f : Warp → Warp) : (s.updWarp g w f).poison = s.poison := rfl

/-! setStoker changes groups alone. -/

@[simp] theorem State.setStoker_cur (s : State) (g : Nat) (v : Stoker) : (s.setStoker g v).cur = s.cur := rfl
@[simp] theorem State.setStoker_inputs (s : State) (g : Nat) (v : Stoker) : (s.setStoker g v).inputs = s.inputs := rfl
@[simp] theorem State.setStoker_free (s : State) (g : Nat) (v : Stoker) : (s.setStoker g v).free = s.free := rfl
@[simp] theorem State.setStoker_l1Choice (s : State) (g : Nat) (v : Stoker) : (s.setStoker g v).l1Choice = s.l1Choice := rfl
@[simp] theorem State.setStoker_clk (s : State) (g : Nat) (v : Stoker) : (s.setStoker g v).clk = s.clk := rfl
@[simp] theorem State.setStoker_uid (s : State) (g : Nat) (v : Stoker) : (s.setStoker g v).uid = s.uid := rfl
@[simp] theorem State.setStoker_sent (s : State) (g : Nat) (v : Stoker) : (s.setStoker g v).sent = s.sent := rfl
@[simp] theorem State.setStoker_power (s : State) (g : Nat) (v : Stoker) : (s.setStoker g v).power = s.power := rfl
@[simp] theorem State.setStoker_pf (s : State) (g : Nat) (v : Stoker) : (s.setStoker g v).pf = s.pf := rfl
@[simp] theorem State.setStoker_vds (s : State) (g : Nat) (v : Stoker) : (s.setStoker g v).vds = s.vds := rfl
@[simp] theorem State.setStoker_queues (s : State) (g : Nat) (v : Stoker) : (s.setStoker g v).queues = s.queues := rfl
@[simp] theorem State.setStoker_irt (s : State) (g : Nat) (v : Stoker) : (s.setStoker g v).irt = s.irt := rfl
@[simp] theorem State.setStoker_ctl (s : State) (g : Nat) (v : Stoker) : (s.setStoker g v).ctl = s.ctl := rfl
@[simp] theorem State.setStoker_pairs (s : State) (g : Nat) (v : Stoker) : (s.setStoker g v).pairs = s.pairs := rfl
@[simp] theorem State.setStoker_grids (s : State) (g : Nat) (v : Stoker) : (s.setStoker g v).grids = s.grids := rfl
@[simp] theorem State.setStoker_cores (s : State) (g : Nat) (v : Stoker) : (s.setStoker g v).cores = s.cores := rfl
@[simp] theorem State.setStoker_parts (s : State) (g : Nat) (v : Stoker) : (s.setStoker g v).parts = s.parts := rfl
@[simp] theorem State.setStoker_tables (s : State) (g : Nat) (v : Stoker) : (s.setStoker g v).tables = s.tables := rfl
@[simp] theorem State.setStoker_tlb (s : State) (g : Nat) (v : Stoker) : (s.setStoker g v).tlb = s.tlb := rfl
@[simp] theorem State.setStoker_walks (s : State) (g : Nat) (v : Stoker) : (s.setStoker g v).walks = s.walks := rfl
@[simp] theorem State.setStoker_tlbChoice (s : State) (g : Nat) (v : Stoker) : (s.setStoker g v).tlbChoice = s.tlbChoice := rfl
@[simp] theorem State.setStoker_owners (s : State) (g : Nat) (v : Stoker) : (s.setStoker g v).owners = s.owners := rfl
@[simp] theorem State.setStoker_tracked (s : State) (g : Nat) (v : Stoker) : (s.setStoker g v).tracked = s.tracked := rfl
@[simp] theorem State.setStoker_errors (s : State) (g : Nat) (v : Stoker) : (s.setStoker g v).errors = s.errors := rfl
@[simp] theorem State.setStoker_pairing (s : State) (g : Nat) (v : Stoker) : (s.setStoker g v).pairing = s.pairing := rfl
@[simp] theorem State.setStoker_endpoints (s : State) (g : Nat) (v : Stoker) : (s.setStoker g v).endpoints = s.endpoints := rfl
@[simp] theorem State.setStoker_stations (s : State) (g : Nat) (v : Stoker) : (s.setStoker g v).stations = s.stations := rfl
@[simp] theorem State.setStoker_remote (s : State) (g : Nat) (v : Stoker) : (s.setStoker g v).remote = s.remote := rfl
@[simp] theorem State.setStoker_heldRequests (s : State) (g : Nat) (v : Stoker) : (s.setStoker g v).heldRequests = s.heldRequests := rfl
@[simp] theorem State.setStoker_engineData (s : State) (g : Nat) (v : Stoker) : (s.setStoker g v).engineData = s.engineData := rfl
@[simp] theorem State.setStoker_ports (s : State) (g : Nat) (v : Stoker) : (s.setStoker g v).ports = s.ports := rfl
@[simp] theorem State.setStoker_frames (s : State) (g : Nat) (v : Stoker) : (s.setStoker g v).frames = s.frames := rfl
@[simp] theorem State.setStoker_keys (s : State) (g : Nat) (v : Stoker) : (s.setStoker g v).keys = s.keys := rfl
@[simp] theorem State.setStoker_mem (s : State) (g : Nat) (v : Stoker) : (s.setStoker g v).mem = s.mem := rfl
@[simp] theorem State.setStoker_poison (s : State) (g : Nat) (v : Stoker) : (s.setStoker g v).poison = s.poison := rfl

/-! logEvent changes sent alone. -/

@[simp] theorem State.logEvent_cur (s : State) (c n : Nat) : (s.logEvent c n).cur = s.cur := rfl
@[simp] theorem State.logEvent_inputs (s : State) (c n : Nat) : (s.logEvent c n).inputs = s.inputs := rfl
@[simp] theorem State.logEvent_free (s : State) (c n : Nat) : (s.logEvent c n).free = s.free := rfl
@[simp] theorem State.logEvent_l1Choice (s : State) (c n : Nat) : (s.logEvent c n).l1Choice = s.l1Choice := rfl
@[simp] theorem State.logEvent_clk (s : State) (c n : Nat) : (s.logEvent c n).clk = s.clk := rfl
@[simp] theorem State.logEvent_uid (s : State) (c n : Nat) : (s.logEvent c n).uid = s.uid := rfl
@[simp] theorem State.logEvent_power (s : State) (c n : Nat) : (s.logEvent c n).power = s.power := rfl
@[simp] theorem State.logEvent_pf (s : State) (c n : Nat) : (s.logEvent c n).pf = s.pf := rfl
@[simp] theorem State.logEvent_vds (s : State) (c n : Nat) : (s.logEvent c n).vds = s.vds := rfl
@[simp] theorem State.logEvent_queues (s : State) (c n : Nat) : (s.logEvent c n).queues = s.queues := rfl
@[simp] theorem State.logEvent_irt (s : State) (c n : Nat) : (s.logEvent c n).irt = s.irt := rfl
@[simp] theorem State.logEvent_ctl (s : State) (c n : Nat) : (s.logEvent c n).ctl = s.ctl := rfl
@[simp] theorem State.logEvent_pairs (s : State) (c n : Nat) : (s.logEvent c n).pairs = s.pairs := rfl
@[simp] theorem State.logEvent_grids (s : State) (c n : Nat) : (s.logEvent c n).grids = s.grids := rfl
@[simp] theorem State.logEvent_groups (s : State) (c n : Nat) : (s.logEvent c n).groups = s.groups := rfl
@[simp] theorem State.logEvent_cores (s : State) (c n : Nat) : (s.logEvent c n).cores = s.cores := rfl
@[simp] theorem State.logEvent_parts (s : State) (c n : Nat) : (s.logEvent c n).parts = s.parts := rfl
@[simp] theorem State.logEvent_tables (s : State) (c n : Nat) : (s.logEvent c n).tables = s.tables := rfl
@[simp] theorem State.logEvent_tlb (s : State) (c n : Nat) : (s.logEvent c n).tlb = s.tlb := rfl
@[simp] theorem State.logEvent_walks (s : State) (c n : Nat) : (s.logEvent c n).walks = s.walks := rfl
@[simp] theorem State.logEvent_tlbChoice (s : State) (c n : Nat) : (s.logEvent c n).tlbChoice = s.tlbChoice := rfl
@[simp] theorem State.logEvent_owners (s : State) (c n : Nat) : (s.logEvent c n).owners = s.owners := rfl
@[simp] theorem State.logEvent_tracked (s : State) (c n : Nat) : (s.logEvent c n).tracked = s.tracked := rfl
@[simp] theorem State.logEvent_errors (s : State) (c n : Nat) : (s.logEvent c n).errors = s.errors := rfl
@[simp] theorem State.logEvent_pairing (s : State) (c n : Nat) : (s.logEvent c n).pairing = s.pairing := rfl
@[simp] theorem State.logEvent_endpoints (s : State) (c n : Nat) : (s.logEvent c n).endpoints = s.endpoints := rfl
@[simp] theorem State.logEvent_stations (s : State) (c n : Nat) : (s.logEvent c n).stations = s.stations := rfl
@[simp] theorem State.logEvent_remote (s : State) (c n : Nat) : (s.logEvent c n).remote = s.remote := rfl
@[simp] theorem State.logEvent_heldRequests (s : State) (c n : Nat) : (s.logEvent c n).heldRequests = s.heldRequests := rfl
@[simp] theorem State.logEvent_engineData (s : State) (c n : Nat) : (s.logEvent c n).engineData = s.engineData := rfl
@[simp] theorem State.logEvent_ports (s : State) (c n : Nat) : (s.logEvent c n).ports = s.ports := rfl
@[simp] theorem State.logEvent_frames (s : State) (c n : Nat) : (s.logEvent c n).frames = s.frames := rfl
@[simp] theorem State.logEvent_keys (s : State) (c n : Nat) : (s.logEvent c n).keys = s.keys := rfl
@[simp] theorem State.logEvent_mem (s : State) (c n : Nat) : (s.logEvent c n).mem = s.mem := rfl
@[simp] theorem State.logEvent_poison (s : State) (c n : Nat) : (s.logEvent c n).poison = s.poison := rfl

/-! setAgent changes groups and ctl alone. -/

@[simp] theorem State.setAgent_cur (s : State) (a : AgentId) (v : Agent) : (s.setAgent a v).cur = s.cur := by cases a <;> rfl
@[simp] theorem State.setAgent_inputs (s : State) (a : AgentId) (v : Agent) : (s.setAgent a v).inputs = s.inputs := by cases a <;> rfl
@[simp] theorem State.setAgent_free (s : State) (a : AgentId) (v : Agent) : (s.setAgent a v).free = s.free := by cases a <;> rfl
@[simp] theorem State.setAgent_l1Choice (s : State) (a : AgentId) (v : Agent) : (s.setAgent a v).l1Choice = s.l1Choice := by cases a <;> rfl
@[simp] theorem State.setAgent_clk (s : State) (a : AgentId) (v : Agent) : (s.setAgent a v).clk = s.clk := by cases a <;> rfl
@[simp] theorem State.setAgent_uid (s : State) (a : AgentId) (v : Agent) : (s.setAgent a v).uid = s.uid := by cases a <;> rfl
@[simp] theorem State.setAgent_sent (s : State) (a : AgentId) (v : Agent) : (s.setAgent a v).sent = s.sent := by cases a <;> rfl
@[simp] theorem State.setAgent_power (s : State) (a : AgentId) (v : Agent) : (s.setAgent a v).power = s.power := by cases a <;> rfl
@[simp] theorem State.setAgent_pf (s : State) (a : AgentId) (v : Agent) : (s.setAgent a v).pf = s.pf := by cases a <;> rfl
@[simp] theorem State.setAgent_vds (s : State) (a : AgentId) (v : Agent) : (s.setAgent a v).vds = s.vds := by cases a <;> rfl
@[simp] theorem State.setAgent_queues (s : State) (a : AgentId) (v : Agent) : (s.setAgent a v).queues = s.queues := by cases a <;> rfl
@[simp] theorem State.setAgent_irt (s : State) (a : AgentId) (v : Agent) : (s.setAgent a v).irt = s.irt := by cases a <;> rfl
@[simp] theorem State.setAgent_pairs (s : State) (a : AgentId) (v : Agent) : (s.setAgent a v).pairs = s.pairs := by cases a <;> rfl
@[simp] theorem State.setAgent_grids (s : State) (a : AgentId) (v : Agent) : (s.setAgent a v).grids = s.grids := by cases a <;> rfl
@[simp] theorem State.setAgent_cores (s : State) (a : AgentId) (v : Agent) : (s.setAgent a v).cores = s.cores := by cases a <;> rfl
@[simp] theorem State.setAgent_parts (s : State) (a : AgentId) (v : Agent) : (s.setAgent a v).parts = s.parts := by cases a <;> rfl
@[simp] theorem State.setAgent_tables (s : State) (a : AgentId) (v : Agent) : (s.setAgent a v).tables = s.tables := by cases a <;> rfl
@[simp] theorem State.setAgent_tlb (s : State) (a : AgentId) (v : Agent) : (s.setAgent a v).tlb = s.tlb := by cases a <;> rfl
@[simp] theorem State.setAgent_walks (s : State) (a : AgentId) (v : Agent) : (s.setAgent a v).walks = s.walks := by cases a <;> rfl
@[simp] theorem State.setAgent_tlbChoice (s : State) (a : AgentId) (v : Agent) : (s.setAgent a v).tlbChoice = s.tlbChoice := by cases a <;> rfl
@[simp] theorem State.setAgent_owners (s : State) (a : AgentId) (v : Agent) : (s.setAgent a v).owners = s.owners := by cases a <;> rfl
@[simp] theorem State.setAgent_tracked (s : State) (a : AgentId) (v : Agent) : (s.setAgent a v).tracked = s.tracked := by cases a <;> rfl
@[simp] theorem State.setAgent_errors (s : State) (a : AgentId) (v : Agent) : (s.setAgent a v).errors = s.errors := by cases a <;> rfl
@[simp] theorem State.setAgent_pairing (s : State) (a : AgentId) (v : Agent) : (s.setAgent a v).pairing = s.pairing := by cases a <;> rfl
@[simp] theorem State.setAgent_endpoints (s : State) (a : AgentId) (v : Agent) : (s.setAgent a v).endpoints = s.endpoints := by cases a <;> rfl
@[simp] theorem State.setAgent_stations (s : State) (a : AgentId) (v : Agent) : (s.setAgent a v).stations = s.stations := by cases a <;> rfl
@[simp] theorem State.setAgent_remote (s : State) (a : AgentId) (v : Agent) : (s.setAgent a v).remote = s.remote := by cases a <;> rfl
@[simp] theorem State.setAgent_heldRequests (s : State) (a : AgentId) (v : Agent) : (s.setAgent a v).heldRequests = s.heldRequests := by cases a <;> rfl
@[simp] theorem State.setAgent_engineData (s : State) (a : AgentId) (v : Agent) : (s.setAgent a v).engineData = s.engineData := by cases a <;> rfl
@[simp] theorem State.setAgent_ports (s : State) (a : AgentId) (v : Agent) : (s.setAgent a v).ports = s.ports := by cases a <;> rfl
@[simp] theorem State.setAgent_frames (s : State) (a : AgentId) (v : Agent) : (s.setAgent a v).frames = s.frames := by cases a <;> rfl
@[simp] theorem State.setAgent_keys (s : State) (a : AgentId) (v : Agent) : (s.setAgent a v).keys = s.keys := by cases a <;> rfl
@[simp] theorem State.setAgent_mem (s : State) (a : AgentId) (v : Agent) : (s.setAgent a v).mem = s.mem := by cases a <;> rfl
@[simp] theorem State.setAgent_poison (s : State) (a : AgentId) (v : Agent) : (s.setAgent a v).poison = s.poison := by cases a <;> rfl

/-! updAgent changes groups and ctl alone. -/

@[simp] theorem State.updAgent_cur (s : State) (a : AgentId) (f : Agent → Agent) : (s.updAgent a f).cur = s.cur := by cases a <;> rfl
@[simp] theorem State.updAgent_inputs (s : State) (a : AgentId) (f : Agent → Agent) : (s.updAgent a f).inputs = s.inputs := by cases a <;> rfl
@[simp] theorem State.updAgent_free (s : State) (a : AgentId) (f : Agent → Agent) : (s.updAgent a f).free = s.free := by cases a <;> rfl
@[simp] theorem State.updAgent_l1Choice (s : State) (a : AgentId) (f : Agent → Agent) : (s.updAgent a f).l1Choice = s.l1Choice := by cases a <;> rfl
@[simp] theorem State.updAgent_clk (s : State) (a : AgentId) (f : Agent → Agent) : (s.updAgent a f).clk = s.clk := by cases a <;> rfl
@[simp] theorem State.updAgent_uid (s : State) (a : AgentId) (f : Agent → Agent) : (s.updAgent a f).uid = s.uid := by cases a <;> rfl
@[simp] theorem State.updAgent_sent (s : State) (a : AgentId) (f : Agent → Agent) : (s.updAgent a f).sent = s.sent := by cases a <;> rfl
@[simp] theorem State.updAgent_power (s : State) (a : AgentId) (f : Agent → Agent) : (s.updAgent a f).power = s.power := by cases a <;> rfl
@[simp] theorem State.updAgent_pf (s : State) (a : AgentId) (f : Agent → Agent) : (s.updAgent a f).pf = s.pf := by cases a <;> rfl
@[simp] theorem State.updAgent_vds (s : State) (a : AgentId) (f : Agent → Agent) : (s.updAgent a f).vds = s.vds := by cases a <;> rfl
@[simp] theorem State.updAgent_queues (s : State) (a : AgentId) (f : Agent → Agent) : (s.updAgent a f).queues = s.queues := by cases a <;> rfl
@[simp] theorem State.updAgent_irt (s : State) (a : AgentId) (f : Agent → Agent) : (s.updAgent a f).irt = s.irt := by cases a <;> rfl
@[simp] theorem State.updAgent_pairs (s : State) (a : AgentId) (f : Agent → Agent) : (s.updAgent a f).pairs = s.pairs := by cases a <;> rfl
@[simp] theorem State.updAgent_grids (s : State) (a : AgentId) (f : Agent → Agent) : (s.updAgent a f).grids = s.grids := by cases a <;> rfl
@[simp] theorem State.updAgent_cores (s : State) (a : AgentId) (f : Agent → Agent) : (s.updAgent a f).cores = s.cores := by cases a <;> rfl
@[simp] theorem State.updAgent_parts (s : State) (a : AgentId) (f : Agent → Agent) : (s.updAgent a f).parts = s.parts := by cases a <;> rfl
@[simp] theorem State.updAgent_tables (s : State) (a : AgentId) (f : Agent → Agent) : (s.updAgent a f).tables = s.tables := by cases a <;> rfl
@[simp] theorem State.updAgent_tlb (s : State) (a : AgentId) (f : Agent → Agent) : (s.updAgent a f).tlb = s.tlb := by cases a <;> rfl
@[simp] theorem State.updAgent_walks (s : State) (a : AgentId) (f : Agent → Agent) : (s.updAgent a f).walks = s.walks := by cases a <;> rfl
@[simp] theorem State.updAgent_tlbChoice (s : State) (a : AgentId) (f : Agent → Agent) : (s.updAgent a f).tlbChoice = s.tlbChoice := by cases a <;> rfl
@[simp] theorem State.updAgent_owners (s : State) (a : AgentId) (f : Agent → Agent) : (s.updAgent a f).owners = s.owners := by cases a <;> rfl
@[simp] theorem State.updAgent_tracked (s : State) (a : AgentId) (f : Agent → Agent) : (s.updAgent a f).tracked = s.tracked := by cases a <;> rfl
@[simp] theorem State.updAgent_errors (s : State) (a : AgentId) (f : Agent → Agent) : (s.updAgent a f).errors = s.errors := by cases a <;> rfl
@[simp] theorem State.updAgent_pairing (s : State) (a : AgentId) (f : Agent → Agent) : (s.updAgent a f).pairing = s.pairing := by cases a <;> rfl
@[simp] theorem State.updAgent_endpoints (s : State) (a : AgentId) (f : Agent → Agent) : (s.updAgent a f).endpoints = s.endpoints := by cases a <;> rfl
@[simp] theorem State.updAgent_stations (s : State) (a : AgentId) (f : Agent → Agent) : (s.updAgent a f).stations = s.stations := by cases a <;> rfl
@[simp] theorem State.updAgent_remote (s : State) (a : AgentId) (f : Agent → Agent) : (s.updAgent a f).remote = s.remote := by cases a <;> rfl
@[simp] theorem State.updAgent_heldRequests (s : State) (a : AgentId) (f : Agent → Agent) : (s.updAgent a f).heldRequests = s.heldRequests := by cases a <;> rfl
@[simp] theorem State.updAgent_engineData (s : State) (a : AgentId) (f : Agent → Agent) : (s.updAgent a f).engineData = s.engineData := by cases a <;> rfl
@[simp] theorem State.updAgent_ports (s : State) (a : AgentId) (f : Agent → Agent) : (s.updAgent a f).ports = s.ports := by cases a <;> rfl
@[simp] theorem State.updAgent_frames (s : State) (a : AgentId) (f : Agent → Agent) : (s.updAgent a f).frames = s.frames := by cases a <;> rfl
@[simp] theorem State.updAgent_keys (s : State) (a : AgentId) (f : Agent → Agent) : (s.updAgent a f).keys = s.keys := by cases a <;> rfl
@[simp] theorem State.updAgent_mem (s : State) (a : AgentId) (f : Agent → Agent) : (s.updAgent a f).mem = s.mem := by cases a <;> rfl
@[simp] theorem State.updAgent_poison (s : State) (a : AgentId) (f : Agent → Agent) : (s.updAgent a f).poison = s.poison := by cases a <;> rfl

/-! setPcOf changes groups and ctl alone. -/

@[simp] theorem State.setPcOf_cur (s : State) (a : AgentId) (pc : Word) : (s.setPcOf a pc).cur = s.cur := by cases a <;> rfl
@[simp] theorem State.setPcOf_inputs (s : State) (a : AgentId) (pc : Word) : (s.setPcOf a pc).inputs = s.inputs := by cases a <;> rfl
@[simp] theorem State.setPcOf_free (s : State) (a : AgentId) (pc : Word) : (s.setPcOf a pc).free = s.free := by cases a <;> rfl
@[simp] theorem State.setPcOf_l1Choice (s : State) (a : AgentId) (pc : Word) : (s.setPcOf a pc).l1Choice = s.l1Choice := by cases a <;> rfl
@[simp] theorem State.setPcOf_clk (s : State) (a : AgentId) (pc : Word) : (s.setPcOf a pc).clk = s.clk := by cases a <;> rfl
@[simp] theorem State.setPcOf_uid (s : State) (a : AgentId) (pc : Word) : (s.setPcOf a pc).uid = s.uid := by cases a <;> rfl
@[simp] theorem State.setPcOf_sent (s : State) (a : AgentId) (pc : Word) : (s.setPcOf a pc).sent = s.sent := by cases a <;> rfl
@[simp] theorem State.setPcOf_power (s : State) (a : AgentId) (pc : Word) : (s.setPcOf a pc).power = s.power := by cases a <;> rfl
@[simp] theorem State.setPcOf_pf (s : State) (a : AgentId) (pc : Word) : (s.setPcOf a pc).pf = s.pf := by cases a <;> rfl
@[simp] theorem State.setPcOf_vds (s : State) (a : AgentId) (pc : Word) : (s.setPcOf a pc).vds = s.vds := by cases a <;> rfl
@[simp] theorem State.setPcOf_queues (s : State) (a : AgentId) (pc : Word) : (s.setPcOf a pc).queues = s.queues := by cases a <;> rfl
@[simp] theorem State.setPcOf_irt (s : State) (a : AgentId) (pc : Word) : (s.setPcOf a pc).irt = s.irt := by cases a <;> rfl
@[simp] theorem State.setPcOf_pairs (s : State) (a : AgentId) (pc : Word) : (s.setPcOf a pc).pairs = s.pairs := by cases a <;> rfl
@[simp] theorem State.setPcOf_grids (s : State) (a : AgentId) (pc : Word) : (s.setPcOf a pc).grids = s.grids := by cases a <;> rfl
@[simp] theorem State.setPcOf_cores (s : State) (a : AgentId) (pc : Word) : (s.setPcOf a pc).cores = s.cores := by cases a <;> rfl
@[simp] theorem State.setPcOf_parts (s : State) (a : AgentId) (pc : Word) : (s.setPcOf a pc).parts = s.parts := by cases a <;> rfl
@[simp] theorem State.setPcOf_tables (s : State) (a : AgentId) (pc : Word) : (s.setPcOf a pc).tables = s.tables := by cases a <;> rfl
@[simp] theorem State.setPcOf_tlb (s : State) (a : AgentId) (pc : Word) : (s.setPcOf a pc).tlb = s.tlb := by cases a <;> rfl
@[simp] theorem State.setPcOf_walks (s : State) (a : AgentId) (pc : Word) : (s.setPcOf a pc).walks = s.walks := by cases a <;> rfl
@[simp] theorem State.setPcOf_tlbChoice (s : State) (a : AgentId) (pc : Word) : (s.setPcOf a pc).tlbChoice = s.tlbChoice := by cases a <;> rfl
@[simp] theorem State.setPcOf_owners (s : State) (a : AgentId) (pc : Word) : (s.setPcOf a pc).owners = s.owners := by cases a <;> rfl
@[simp] theorem State.setPcOf_tracked (s : State) (a : AgentId) (pc : Word) : (s.setPcOf a pc).tracked = s.tracked := by cases a <;> rfl
@[simp] theorem State.setPcOf_errors (s : State) (a : AgentId) (pc : Word) : (s.setPcOf a pc).errors = s.errors := by cases a <;> rfl
@[simp] theorem State.setPcOf_pairing (s : State) (a : AgentId) (pc : Word) : (s.setPcOf a pc).pairing = s.pairing := by cases a <;> rfl
@[simp] theorem State.setPcOf_endpoints (s : State) (a : AgentId) (pc : Word) : (s.setPcOf a pc).endpoints = s.endpoints := by cases a <;> rfl
@[simp] theorem State.setPcOf_stations (s : State) (a : AgentId) (pc : Word) : (s.setPcOf a pc).stations = s.stations := by cases a <;> rfl
@[simp] theorem State.setPcOf_remote (s : State) (a : AgentId) (pc : Word) : (s.setPcOf a pc).remote = s.remote := by cases a <;> rfl
@[simp] theorem State.setPcOf_heldRequests (s : State) (a : AgentId) (pc : Word) : (s.setPcOf a pc).heldRequests = s.heldRequests := by cases a <;> rfl
@[simp] theorem State.setPcOf_engineData (s : State) (a : AgentId) (pc : Word) : (s.setPcOf a pc).engineData = s.engineData := by cases a <;> rfl
@[simp] theorem State.setPcOf_ports (s : State) (a : AgentId) (pc : Word) : (s.setPcOf a pc).ports = s.ports := by cases a <;> rfl
@[simp] theorem State.setPcOf_frames (s : State) (a : AgentId) (pc : Word) : (s.setPcOf a pc).frames = s.frames := by cases a <;> rfl
@[simp] theorem State.setPcOf_keys (s : State) (a : AgentId) (pc : Word) : (s.setPcOf a pc).keys = s.keys := by cases a <;> rfl
@[simp] theorem State.setPcOf_mem (s : State) (a : AgentId) (pc : Word) : (s.setPcOf a pc).mem = s.mem := by cases a <;> rfl
@[simp] theorem State.setPcOf_poison (s : State) (a : AgentId) (pc : Word) : (s.setPcOf a pc).poison = s.poison := by cases a <;> rfl

/-! setSreg changes groups and ctl alone. -/

@[simp] theorem State.setSreg_cur (s : State) (r : Reg) (v : Word) : (s.setSreg r v).cur = s.cur := by simp [State.setSreg]
@[simp] theorem State.setSreg_inputs (s : State) (r : Reg) (v : Word) : (s.setSreg r v).inputs = s.inputs := by simp [State.setSreg]
@[simp] theorem State.setSreg_free (s : State) (r : Reg) (v : Word) : (s.setSreg r v).free = s.free := by simp [State.setSreg]
@[simp] theorem State.setSreg_l1Choice (s : State) (r : Reg) (v : Word) : (s.setSreg r v).l1Choice = s.l1Choice := by simp [State.setSreg]
@[simp] theorem State.setSreg_clk (s : State) (r : Reg) (v : Word) : (s.setSreg r v).clk = s.clk := by simp [State.setSreg]
@[simp] theorem State.setSreg_uid (s : State) (r : Reg) (v : Word) : (s.setSreg r v).uid = s.uid := by simp [State.setSreg]
@[simp] theorem State.setSreg_sent (s : State) (r : Reg) (v : Word) : (s.setSreg r v).sent = s.sent := by simp [State.setSreg]
@[simp] theorem State.setSreg_power (s : State) (r : Reg) (v : Word) : (s.setSreg r v).power = s.power := by simp [State.setSreg]
@[simp] theorem State.setSreg_pf (s : State) (r : Reg) (v : Word) : (s.setSreg r v).pf = s.pf := by simp [State.setSreg]
@[simp] theorem State.setSreg_vds (s : State) (r : Reg) (v : Word) : (s.setSreg r v).vds = s.vds := by simp [State.setSreg]
@[simp] theorem State.setSreg_queues (s : State) (r : Reg) (v : Word) : (s.setSreg r v).queues = s.queues := by simp [State.setSreg]
@[simp] theorem State.setSreg_irt (s : State) (r : Reg) (v : Word) : (s.setSreg r v).irt = s.irt := by simp [State.setSreg]
@[simp] theorem State.setSreg_pairs (s : State) (r : Reg) (v : Word) : (s.setSreg r v).pairs = s.pairs := by simp [State.setSreg]
@[simp] theorem State.setSreg_grids (s : State) (r : Reg) (v : Word) : (s.setSreg r v).grids = s.grids := by simp [State.setSreg]
@[simp] theorem State.setSreg_cores (s : State) (r : Reg) (v : Word) : (s.setSreg r v).cores = s.cores := by simp [State.setSreg]
@[simp] theorem State.setSreg_parts (s : State) (r : Reg) (v : Word) : (s.setSreg r v).parts = s.parts := by simp [State.setSreg]
@[simp] theorem State.setSreg_tables (s : State) (r : Reg) (v : Word) : (s.setSreg r v).tables = s.tables := by simp [State.setSreg]
@[simp] theorem State.setSreg_tlb (s : State) (r : Reg) (v : Word) : (s.setSreg r v).tlb = s.tlb := by simp [State.setSreg]
@[simp] theorem State.setSreg_walks (s : State) (r : Reg) (v : Word) : (s.setSreg r v).walks = s.walks := by simp [State.setSreg]
@[simp] theorem State.setSreg_tlbChoice (s : State) (r : Reg) (v : Word) : (s.setSreg r v).tlbChoice = s.tlbChoice := by simp [State.setSreg]
@[simp] theorem State.setSreg_owners (s : State) (r : Reg) (v : Word) : (s.setSreg r v).owners = s.owners := by simp [State.setSreg]
@[simp] theorem State.setSreg_tracked (s : State) (r : Reg) (v : Word) : (s.setSreg r v).tracked = s.tracked := by simp [State.setSreg]
@[simp] theorem State.setSreg_errors (s : State) (r : Reg) (v : Word) : (s.setSreg r v).errors = s.errors := by simp [State.setSreg]
@[simp] theorem State.setSreg_pairing (s : State) (r : Reg) (v : Word) : (s.setSreg r v).pairing = s.pairing := by simp [State.setSreg]
@[simp] theorem State.setSreg_endpoints (s : State) (r : Reg) (v : Word) : (s.setSreg r v).endpoints = s.endpoints := by simp [State.setSreg]
@[simp] theorem State.setSreg_stations (s : State) (r : Reg) (v : Word) : (s.setSreg r v).stations = s.stations := by simp [State.setSreg]
@[simp] theorem State.setSreg_remote (s : State) (r : Reg) (v : Word) : (s.setSreg r v).remote = s.remote := by simp [State.setSreg]
@[simp] theorem State.setSreg_heldRequests (s : State) (r : Reg) (v : Word) : (s.setSreg r v).heldRequests = s.heldRequests := by simp [State.setSreg]
@[simp] theorem State.setSreg_engineData (s : State) (r : Reg) (v : Word) : (s.setSreg r v).engineData = s.engineData := by simp [State.setSreg]
@[simp] theorem State.setSreg_ports (s : State) (r : Reg) (v : Word) : (s.setSreg r v).ports = s.ports := by simp [State.setSreg]
@[simp] theorem State.setSreg_frames (s : State) (r : Reg) (v : Word) : (s.setSreg r v).frames = s.frames := by simp [State.setSreg]
@[simp] theorem State.setSreg_keys (s : State) (r : Reg) (v : Word) : (s.setSreg r v).keys = s.keys := by simp [State.setSreg]
@[simp] theorem State.setSreg_mem (s : State) (r : Reg) (v : Word) : (s.setSreg r v).mem = s.mem := by simp [State.setSreg]
@[simp] theorem State.setSreg_poison (s : State) (r : Reg) (v : Word) : (s.setSreg r v).poison = s.poison := by simp [State.setSreg]

/-! setPc changes groups and ctl alone. -/

@[simp] theorem State.setPc_cur (s : State) (pc : Word) : (s.setPc pc).cur = s.cur := by simp [State.setPc]
@[simp] theorem State.setPc_inputs (s : State) (pc : Word) : (s.setPc pc).inputs = s.inputs := by simp [State.setPc]
@[simp] theorem State.setPc_free (s : State) (pc : Word) : (s.setPc pc).free = s.free := by simp [State.setPc]
@[simp] theorem State.setPc_l1Choice (s : State) (pc : Word) : (s.setPc pc).l1Choice = s.l1Choice := by simp [State.setPc]
@[simp] theorem State.setPc_clk (s : State) (pc : Word) : (s.setPc pc).clk = s.clk := by simp [State.setPc]
@[simp] theorem State.setPc_uid (s : State) (pc : Word) : (s.setPc pc).uid = s.uid := by simp [State.setPc]
@[simp] theorem State.setPc_sent (s : State) (pc : Word) : (s.setPc pc).sent = s.sent := by simp [State.setPc]
@[simp] theorem State.setPc_power (s : State) (pc : Word) : (s.setPc pc).power = s.power := by simp [State.setPc]
@[simp] theorem State.setPc_pf (s : State) (pc : Word) : (s.setPc pc).pf = s.pf := by simp [State.setPc]
@[simp] theorem State.setPc_vds (s : State) (pc : Word) : (s.setPc pc).vds = s.vds := by simp [State.setPc]
@[simp] theorem State.setPc_queues (s : State) (pc : Word) : (s.setPc pc).queues = s.queues := by simp [State.setPc]
@[simp] theorem State.setPc_irt (s : State) (pc : Word) : (s.setPc pc).irt = s.irt := by simp [State.setPc]
@[simp] theorem State.setPc_pairs (s : State) (pc : Word) : (s.setPc pc).pairs = s.pairs := by simp [State.setPc]
@[simp] theorem State.setPc_grids (s : State) (pc : Word) : (s.setPc pc).grids = s.grids := by simp [State.setPc]
@[simp] theorem State.setPc_cores (s : State) (pc : Word) : (s.setPc pc).cores = s.cores := by simp [State.setPc]
@[simp] theorem State.setPc_parts (s : State) (pc : Word) : (s.setPc pc).parts = s.parts := by simp [State.setPc]
@[simp] theorem State.setPc_tables (s : State) (pc : Word) : (s.setPc pc).tables = s.tables := by simp [State.setPc]
@[simp] theorem State.setPc_tlb (s : State) (pc : Word) : (s.setPc pc).tlb = s.tlb := by simp [State.setPc]
@[simp] theorem State.setPc_walks (s : State) (pc : Word) : (s.setPc pc).walks = s.walks := by simp [State.setPc]
@[simp] theorem State.setPc_tlbChoice (s : State) (pc : Word) : (s.setPc pc).tlbChoice = s.tlbChoice := by simp [State.setPc]
@[simp] theorem State.setPc_owners (s : State) (pc : Word) : (s.setPc pc).owners = s.owners := by simp [State.setPc]
@[simp] theorem State.setPc_tracked (s : State) (pc : Word) : (s.setPc pc).tracked = s.tracked := by simp [State.setPc]
@[simp] theorem State.setPc_errors (s : State) (pc : Word) : (s.setPc pc).errors = s.errors := by simp [State.setPc]
@[simp] theorem State.setPc_pairing (s : State) (pc : Word) : (s.setPc pc).pairing = s.pairing := by simp [State.setPc]
@[simp] theorem State.setPc_endpoints (s : State) (pc : Word) : (s.setPc pc).endpoints = s.endpoints := by simp [State.setPc]
@[simp] theorem State.setPc_stations (s : State) (pc : Word) : (s.setPc pc).stations = s.stations := by simp [State.setPc]
@[simp] theorem State.setPc_remote (s : State) (pc : Word) : (s.setPc pc).remote = s.remote := by simp [State.setPc]
@[simp] theorem State.setPc_heldRequests (s : State) (pc : Word) : (s.setPc pc).heldRequests = s.heldRequests := by simp [State.setPc]
@[simp] theorem State.setPc_engineData (s : State) (pc : Word) : (s.setPc pc).engineData = s.engineData := by simp [State.setPc]
@[simp] theorem State.setPc_ports (s : State) (pc : Word) : (s.setPc pc).ports = s.ports := by simp [State.setPc]
@[simp] theorem State.setPc_frames (s : State) (pc : Word) : (s.setPc pc).frames = s.frames := by simp [State.setPc]
@[simp] theorem State.setPc_keys (s : State) (pc : Word) : (s.setPc pc).keys = s.keys := by simp [State.setPc]
@[simp] theorem State.setPc_mem (s : State) (pc : Word) : (s.setPc pc).mem = s.mem := by simp [State.setPc]
@[simp] theorem State.setPc_poison (s : State) (pc : Word) : (s.setPc pc).poison = s.poison := by simp [State.setPc]

/-! advance changes groups and ctl alone. -/

@[simp] theorem State.advance_cur (s : State) (len : Nat) : (s.advance len).cur = s.cur := by simp [State.advance]
@[simp] theorem State.advance_inputs (s : State) (len : Nat) : (s.advance len).inputs = s.inputs := by simp [State.advance]
@[simp] theorem State.advance_free (s : State) (len : Nat) : (s.advance len).free = s.free := by simp [State.advance]
@[simp] theorem State.advance_l1Choice (s : State) (len : Nat) : (s.advance len).l1Choice = s.l1Choice := by simp [State.advance]
@[simp] theorem State.advance_clk (s : State) (len : Nat) : (s.advance len).clk = s.clk := by simp [State.advance]
@[simp] theorem State.advance_uid (s : State) (len : Nat) : (s.advance len).uid = s.uid := by simp [State.advance]
@[simp] theorem State.advance_sent (s : State) (len : Nat) : (s.advance len).sent = s.sent := by simp [State.advance]
@[simp] theorem State.advance_power (s : State) (len : Nat) : (s.advance len).power = s.power := by simp [State.advance]
@[simp] theorem State.advance_pf (s : State) (len : Nat) : (s.advance len).pf = s.pf := by simp [State.advance]
@[simp] theorem State.advance_vds (s : State) (len : Nat) : (s.advance len).vds = s.vds := by simp [State.advance]
@[simp] theorem State.advance_queues (s : State) (len : Nat) : (s.advance len).queues = s.queues := by simp [State.advance]
@[simp] theorem State.advance_irt (s : State) (len : Nat) : (s.advance len).irt = s.irt := by simp [State.advance]
@[simp] theorem State.advance_pairs (s : State) (len : Nat) : (s.advance len).pairs = s.pairs := by simp [State.advance]
@[simp] theorem State.advance_grids (s : State) (len : Nat) : (s.advance len).grids = s.grids := by simp [State.advance]
@[simp] theorem State.advance_cores (s : State) (len : Nat) : (s.advance len).cores = s.cores := by simp [State.advance]
@[simp] theorem State.advance_parts (s : State) (len : Nat) : (s.advance len).parts = s.parts := by simp [State.advance]
@[simp] theorem State.advance_tables (s : State) (len : Nat) : (s.advance len).tables = s.tables := by simp [State.advance]
@[simp] theorem State.advance_tlb (s : State) (len : Nat) : (s.advance len).tlb = s.tlb := by simp [State.advance]
@[simp] theorem State.advance_walks (s : State) (len : Nat) : (s.advance len).walks = s.walks := by simp [State.advance]
@[simp] theorem State.advance_tlbChoice (s : State) (len : Nat) : (s.advance len).tlbChoice = s.tlbChoice := by simp [State.advance]
@[simp] theorem State.advance_owners (s : State) (len : Nat) : (s.advance len).owners = s.owners := by simp [State.advance]
@[simp] theorem State.advance_tracked (s : State) (len : Nat) : (s.advance len).tracked = s.tracked := by simp [State.advance]
@[simp] theorem State.advance_errors (s : State) (len : Nat) : (s.advance len).errors = s.errors := by simp [State.advance]
@[simp] theorem State.advance_pairing (s : State) (len : Nat) : (s.advance len).pairing = s.pairing := by simp [State.advance]
@[simp] theorem State.advance_endpoints (s : State) (len : Nat) : (s.advance len).endpoints = s.endpoints := by simp [State.advance]
@[simp] theorem State.advance_stations (s : State) (len : Nat) : (s.advance len).stations = s.stations := by simp [State.advance]
@[simp] theorem State.advance_remote (s : State) (len : Nat) : (s.advance len).remote = s.remote := by simp [State.advance]
@[simp] theorem State.advance_heldRequests (s : State) (len : Nat) : (s.advance len).heldRequests = s.heldRequests := by simp [State.advance]
@[simp] theorem State.advance_engineData (s : State) (len : Nat) : (s.advance len).engineData = s.engineData := by simp [State.advance]
@[simp] theorem State.advance_ports (s : State) (len : Nat) : (s.advance len).ports = s.ports := by simp [State.advance]
@[simp] theorem State.advance_frames (s : State) (len : Nat) : (s.advance len).frames = s.frames := by simp [State.advance]
@[simp] theorem State.advance_keys (s : State) (len : Nat) : (s.advance len).keys = s.keys := by simp [State.advance]
@[simp] theorem State.advance_mem (s : State) (len : Nat) : (s.advance len).mem = s.mem := by simp [State.advance]
@[simp] theorem State.advance_poison (s : State) (len : Nat) : (s.advance len).poison = s.poison := by simp [State.advance]

/-! writeNext changes groups and ctl alone. -/

@[simp] theorem State.writeNext_cur (s : State) (len : Nat) (r : Reg) (v : Word) : (s.writeNext len r v).cur = s.cur := by simp [State.writeNext]
@[simp] theorem State.writeNext_inputs (s : State) (len : Nat) (r : Reg) (v : Word) : (s.writeNext len r v).inputs = s.inputs := by simp [State.writeNext]
@[simp] theorem State.writeNext_free (s : State) (len : Nat) (r : Reg) (v : Word) : (s.writeNext len r v).free = s.free := by simp [State.writeNext]
@[simp] theorem State.writeNext_l1Choice (s : State) (len : Nat) (r : Reg) (v : Word) : (s.writeNext len r v).l1Choice = s.l1Choice := by simp [State.writeNext]
@[simp] theorem State.writeNext_clk (s : State) (len : Nat) (r : Reg) (v : Word) : (s.writeNext len r v).clk = s.clk := by simp [State.writeNext]
@[simp] theorem State.writeNext_uid (s : State) (len : Nat) (r : Reg) (v : Word) : (s.writeNext len r v).uid = s.uid := by simp [State.writeNext]
@[simp] theorem State.writeNext_sent (s : State) (len : Nat) (r : Reg) (v : Word) : (s.writeNext len r v).sent = s.sent := by simp [State.writeNext]
@[simp] theorem State.writeNext_power (s : State) (len : Nat) (r : Reg) (v : Word) : (s.writeNext len r v).power = s.power := by simp [State.writeNext]
@[simp] theorem State.writeNext_pf (s : State) (len : Nat) (r : Reg) (v : Word) : (s.writeNext len r v).pf = s.pf := by simp [State.writeNext]
@[simp] theorem State.writeNext_vds (s : State) (len : Nat) (r : Reg) (v : Word) : (s.writeNext len r v).vds = s.vds := by simp [State.writeNext]
@[simp] theorem State.writeNext_queues (s : State) (len : Nat) (r : Reg) (v : Word) : (s.writeNext len r v).queues = s.queues := by simp [State.writeNext]
@[simp] theorem State.writeNext_irt (s : State) (len : Nat) (r : Reg) (v : Word) : (s.writeNext len r v).irt = s.irt := by simp [State.writeNext]
@[simp] theorem State.writeNext_pairs (s : State) (len : Nat) (r : Reg) (v : Word) : (s.writeNext len r v).pairs = s.pairs := by simp [State.writeNext]
@[simp] theorem State.writeNext_grids (s : State) (len : Nat) (r : Reg) (v : Word) : (s.writeNext len r v).grids = s.grids := by simp [State.writeNext]
@[simp] theorem State.writeNext_cores (s : State) (len : Nat) (r : Reg) (v : Word) : (s.writeNext len r v).cores = s.cores := by simp [State.writeNext]
@[simp] theorem State.writeNext_parts (s : State) (len : Nat) (r : Reg) (v : Word) : (s.writeNext len r v).parts = s.parts := by simp [State.writeNext]
@[simp] theorem State.writeNext_tables (s : State) (len : Nat) (r : Reg) (v : Word) : (s.writeNext len r v).tables = s.tables := by simp [State.writeNext]
@[simp] theorem State.writeNext_tlb (s : State) (len : Nat) (r : Reg) (v : Word) : (s.writeNext len r v).tlb = s.tlb := by simp [State.writeNext]
@[simp] theorem State.writeNext_walks (s : State) (len : Nat) (r : Reg) (v : Word) : (s.writeNext len r v).walks = s.walks := by simp [State.writeNext]
@[simp] theorem State.writeNext_tlbChoice (s : State) (len : Nat) (r : Reg) (v : Word) : (s.writeNext len r v).tlbChoice = s.tlbChoice := by simp [State.writeNext]
@[simp] theorem State.writeNext_owners (s : State) (len : Nat) (r : Reg) (v : Word) : (s.writeNext len r v).owners = s.owners := by simp [State.writeNext]
@[simp] theorem State.writeNext_tracked (s : State) (len : Nat) (r : Reg) (v : Word) : (s.writeNext len r v).tracked = s.tracked := by simp [State.writeNext]
@[simp] theorem State.writeNext_errors (s : State) (len : Nat) (r : Reg) (v : Word) : (s.writeNext len r v).errors = s.errors := by simp [State.writeNext]
@[simp] theorem State.writeNext_pairing (s : State) (len : Nat) (r : Reg) (v : Word) : (s.writeNext len r v).pairing = s.pairing := by simp [State.writeNext]
@[simp] theorem State.writeNext_endpoints (s : State) (len : Nat) (r : Reg) (v : Word) : (s.writeNext len r v).endpoints = s.endpoints := by simp [State.writeNext]
@[simp] theorem State.writeNext_stations (s : State) (len : Nat) (r : Reg) (v : Word) : (s.writeNext len r v).stations = s.stations := by simp [State.writeNext]
@[simp] theorem State.writeNext_remote (s : State) (len : Nat) (r : Reg) (v : Word) : (s.writeNext len r v).remote = s.remote := by simp [State.writeNext]
@[simp] theorem State.writeNext_heldRequests (s : State) (len : Nat) (r : Reg) (v : Word) : (s.writeNext len r v).heldRequests = s.heldRequests := by simp [State.writeNext]
@[simp] theorem State.writeNext_engineData (s : State) (len : Nat) (r : Reg) (v : Word) : (s.writeNext len r v).engineData = s.engineData := by simp [State.writeNext]
@[simp] theorem State.writeNext_ports (s : State) (len : Nat) (r : Reg) (v : Word) : (s.writeNext len r v).ports = s.ports := by simp [State.writeNext]
@[simp] theorem State.writeNext_frames (s : State) (len : Nat) (r : Reg) (v : Word) : (s.writeNext len r v).frames = s.frames := by simp [State.writeNext]
@[simp] theorem State.writeNext_keys (s : State) (len : Nat) (r : Reg) (v : Word) : (s.writeNext len r v).keys = s.keys := by simp [State.writeNext]
@[simp] theorem State.writeNext_mem (s : State) (len : Nat) (r : Reg) (v : Word) : (s.writeNext len r v).mem = s.mem := by simp [State.writeNext]
@[simp] theorem State.writeNext_poison (s : State) (len : Nat) (r : Reg) (v : Word) : (s.writeNext len r v).poison = s.poison := by simp [State.writeNext]

/-! haltBroadcast changes groups alone. -/

@[simp] theorem State.haltBroadcast_cur (s : State) (g : Nat) : (s.haltBroadcast g).cur = s.cur := by simp only [State.haltBroadcast]; split <;> rfl
@[simp] theorem State.haltBroadcast_inputs (s : State) (g : Nat) : (s.haltBroadcast g).inputs = s.inputs := by simp only [State.haltBroadcast]; split <;> rfl
@[simp] theorem State.haltBroadcast_free (s : State) (g : Nat) : (s.haltBroadcast g).free = s.free := by simp only [State.haltBroadcast]; split <;> rfl
@[simp] theorem State.haltBroadcast_l1Choice (s : State) (g : Nat) : (s.haltBroadcast g).l1Choice = s.l1Choice := by simp only [State.haltBroadcast]; split <;> rfl
@[simp] theorem State.haltBroadcast_clk (s : State) (g : Nat) : (s.haltBroadcast g).clk = s.clk := by simp only [State.haltBroadcast]; split <;> rfl
@[simp] theorem State.haltBroadcast_uid (s : State) (g : Nat) : (s.haltBroadcast g).uid = s.uid := by simp only [State.haltBroadcast]; split <;> rfl
@[simp] theorem State.haltBroadcast_sent (s : State) (g : Nat) : (s.haltBroadcast g).sent = s.sent := by simp only [State.haltBroadcast]; split <;> rfl
@[simp] theorem State.haltBroadcast_power (s : State) (g : Nat) : (s.haltBroadcast g).power = s.power := by simp only [State.haltBroadcast]; split <;> rfl
@[simp] theorem State.haltBroadcast_pf (s : State) (g : Nat) : (s.haltBroadcast g).pf = s.pf := by simp only [State.haltBroadcast]; split <;> rfl
@[simp] theorem State.haltBroadcast_vds (s : State) (g : Nat) : (s.haltBroadcast g).vds = s.vds := by simp only [State.haltBroadcast]; split <;> rfl
@[simp] theorem State.haltBroadcast_queues (s : State) (g : Nat) : (s.haltBroadcast g).queues = s.queues := by simp only [State.haltBroadcast]; split <;> rfl
@[simp] theorem State.haltBroadcast_irt (s : State) (g : Nat) : (s.haltBroadcast g).irt = s.irt := by simp only [State.haltBroadcast]; split <;> rfl
@[simp] theorem State.haltBroadcast_ctl (s : State) (g : Nat) : (s.haltBroadcast g).ctl = s.ctl := by simp only [State.haltBroadcast]; split <;> rfl
@[simp] theorem State.haltBroadcast_pairs (s : State) (g : Nat) : (s.haltBroadcast g).pairs = s.pairs := by simp only [State.haltBroadcast]; split <;> rfl
@[simp] theorem State.haltBroadcast_grids (s : State) (g : Nat) : (s.haltBroadcast g).grids = s.grids := by simp only [State.haltBroadcast]; split <;> rfl
@[simp] theorem State.haltBroadcast_cores (s : State) (g : Nat) : (s.haltBroadcast g).cores = s.cores := by simp only [State.haltBroadcast]; split <;> rfl
@[simp] theorem State.haltBroadcast_parts (s : State) (g : Nat) : (s.haltBroadcast g).parts = s.parts := by simp only [State.haltBroadcast]; split <;> rfl
@[simp] theorem State.haltBroadcast_tables (s : State) (g : Nat) : (s.haltBroadcast g).tables = s.tables := by simp only [State.haltBroadcast]; split <;> rfl
@[simp] theorem State.haltBroadcast_tlb (s : State) (g : Nat) : (s.haltBroadcast g).tlb = s.tlb := by simp only [State.haltBroadcast]; split <;> rfl
@[simp] theorem State.haltBroadcast_walks (s : State) (g : Nat) : (s.haltBroadcast g).walks = s.walks := by simp only [State.haltBroadcast]; split <;> rfl
@[simp] theorem State.haltBroadcast_tlbChoice (s : State) (g : Nat) : (s.haltBroadcast g).tlbChoice = s.tlbChoice := by simp only [State.haltBroadcast]; split <;> rfl
@[simp] theorem State.haltBroadcast_owners (s : State) (g : Nat) : (s.haltBroadcast g).owners = s.owners := by simp only [State.haltBroadcast]; split <;> rfl
@[simp] theorem State.haltBroadcast_tracked (s : State) (g : Nat) : (s.haltBroadcast g).tracked = s.tracked := by simp only [State.haltBroadcast]; split <;> rfl
@[simp] theorem State.haltBroadcast_errors (s : State) (g : Nat) : (s.haltBroadcast g).errors = s.errors := by simp only [State.haltBroadcast]; split <;> rfl
@[simp] theorem State.haltBroadcast_pairing (s : State) (g : Nat) : (s.haltBroadcast g).pairing = s.pairing := by simp only [State.haltBroadcast]; split <;> rfl
@[simp] theorem State.haltBroadcast_endpoints (s : State) (g : Nat) : (s.haltBroadcast g).endpoints = s.endpoints := by simp only [State.haltBroadcast]; split <;> rfl
@[simp] theorem State.haltBroadcast_stations (s : State) (g : Nat) : (s.haltBroadcast g).stations = s.stations := by simp only [State.haltBroadcast]; split <;> rfl
@[simp] theorem State.haltBroadcast_remote (s : State) (g : Nat) : (s.haltBroadcast g).remote = s.remote := by simp only [State.haltBroadcast]; split <;> rfl
@[simp] theorem State.haltBroadcast_heldRequests (s : State) (g : Nat) : (s.haltBroadcast g).heldRequests = s.heldRequests := by simp only [State.haltBroadcast]; split <;> rfl
@[simp] theorem State.haltBroadcast_engineData (s : State) (g : Nat) : (s.haltBroadcast g).engineData = s.engineData := by simp only [State.haltBroadcast]; split <;> rfl
@[simp] theorem State.haltBroadcast_ports (s : State) (g : Nat) : (s.haltBroadcast g).ports = s.ports := by simp only [State.haltBroadcast]; split <;> rfl
@[simp] theorem State.haltBroadcast_frames (s : State) (g : Nat) : (s.haltBroadcast g).frames = s.frames := by simp only [State.haltBroadcast]; split <;> rfl
@[simp] theorem State.haltBroadcast_keys (s : State) (g : Nat) : (s.haltBroadcast g).keys = s.keys := by simp only [State.haltBroadcast]; split <;> rfl
@[simp] theorem State.haltBroadcast_mem (s : State) (g : Nat) : (s.haltBroadcast g).mem = s.mem := by simp only [State.haltBroadcast]; split <;> rfl
@[simp] theorem State.haltBroadcast_poison (s : State) (g : Nat) : (s.haltBroadcast g).poison = s.poison := by simp only [State.haltBroadcast]; split <;> rfl

/-! securityCheck changes ctl, pf, sent alone. -/

@[simp] theorem State.securityCheck_cur (s : State) (c : Nat) : (s.securityCheck c).cur = s.cur := rfl
@[simp] theorem State.securityCheck_inputs (s : State) (c : Nat) : (s.securityCheck c).inputs = s.inputs := rfl
@[simp] theorem State.securityCheck_free (s : State) (c : Nat) : (s.securityCheck c).free = s.free := rfl
@[simp] theorem State.securityCheck_l1Choice (s : State) (c : Nat) : (s.securityCheck c).l1Choice = s.l1Choice := rfl
@[simp] theorem State.securityCheck_clk (s : State) (c : Nat) : (s.securityCheck c).clk = s.clk := rfl
@[simp] theorem State.securityCheck_uid (s : State) (c : Nat) : (s.securityCheck c).uid = s.uid := rfl
@[simp] theorem State.securityCheck_power (s : State) (c : Nat) : (s.securityCheck c).power = s.power := rfl
@[simp] theorem State.securityCheck_vds (s : State) (c : Nat) : (s.securityCheck c).vds = s.vds := rfl
@[simp] theorem State.securityCheck_queues (s : State) (c : Nat) : (s.securityCheck c).queues = s.queues := rfl
@[simp] theorem State.securityCheck_irt (s : State) (c : Nat) : (s.securityCheck c).irt = s.irt := rfl
@[simp] theorem State.securityCheck_pairs (s : State) (c : Nat) : (s.securityCheck c).pairs = s.pairs := rfl
@[simp] theorem State.securityCheck_grids (s : State) (c : Nat) : (s.securityCheck c).grids = s.grids := rfl
@[simp] theorem State.securityCheck_groups (s : State) (c : Nat) : (s.securityCheck c).groups = s.groups := rfl
@[simp] theorem State.securityCheck_cores (s : State) (c : Nat) : (s.securityCheck c).cores = s.cores := rfl
@[simp] theorem State.securityCheck_parts (s : State) (c : Nat) : (s.securityCheck c).parts = s.parts := rfl
@[simp] theorem State.securityCheck_tables (s : State) (c : Nat) : (s.securityCheck c).tables = s.tables := rfl
@[simp] theorem State.securityCheck_tlb (s : State) (c : Nat) : (s.securityCheck c).tlb = s.tlb := rfl
@[simp] theorem State.securityCheck_walks (s : State) (c : Nat) : (s.securityCheck c).walks = s.walks := rfl
@[simp] theorem State.securityCheck_tlbChoice (s : State) (c : Nat) : (s.securityCheck c).tlbChoice = s.tlbChoice := rfl
@[simp] theorem State.securityCheck_owners (s : State) (c : Nat) : (s.securityCheck c).owners = s.owners := rfl
@[simp] theorem State.securityCheck_tracked (s : State) (c : Nat) : (s.securityCheck c).tracked = s.tracked := rfl
@[simp] theorem State.securityCheck_errors (s : State) (c : Nat) : (s.securityCheck c).errors = s.errors := rfl
@[simp] theorem State.securityCheck_pairing (s : State) (c : Nat) : (s.securityCheck c).pairing = s.pairing := rfl
@[simp] theorem State.securityCheck_endpoints (s : State) (c : Nat) : (s.securityCheck c).endpoints = s.endpoints := rfl
@[simp] theorem State.securityCheck_stations (s : State) (c : Nat) : (s.securityCheck c).stations = s.stations := rfl
@[simp] theorem State.securityCheck_remote (s : State) (c : Nat) : (s.securityCheck c).remote = s.remote := rfl
@[simp] theorem State.securityCheck_heldRequests (s : State) (c : Nat) : (s.securityCheck c).heldRequests = s.heldRequests := rfl
@[simp] theorem State.securityCheck_engineData (s : State) (c : Nat) : (s.securityCheck c).engineData = s.engineData := rfl
@[simp] theorem State.securityCheck_ports (s : State) (c : Nat) : (s.securityCheck c).ports = s.ports := rfl
@[simp] theorem State.securityCheck_frames (s : State) (c : Nat) : (s.securityCheck c).frames = s.frames := rfl
@[simp] theorem State.securityCheck_keys (s : State) (c : Nat) : (s.securityCheck c).keys = s.keys := rfl
@[simp] theorem State.securityCheck_mem (s : State) (c : Nat) : (s.securityCheck c).mem = s.mem := rfl
@[simp] theorem State.securityCheck_poison (s : State) (c : Nat) : (s.securityCheck c).poison = s.poison := rfl

/-! machineCheck changes ctl, pairs, pf, sent alone. -/

@[simp] theorem State.machineCheck_cur (s : State) (c k : Nat) : (s.machineCheck c k).cur = s.cur := by
  simp only [State.machineCheck]
  (repeat' split) <;> simp
@[simp] theorem State.machineCheck_inputs (s : State) (c k : Nat) : (s.machineCheck c k).inputs = s.inputs := by
  simp only [State.machineCheck]
  (repeat' split) <;> simp
@[simp] theorem State.machineCheck_free (s : State) (c k : Nat) : (s.machineCheck c k).free = s.free := by
  simp only [State.machineCheck]
  (repeat' split) <;> simp
@[simp] theorem State.machineCheck_l1Choice (s : State) (c k : Nat) : (s.machineCheck c k).l1Choice = s.l1Choice := by
  simp only [State.machineCheck]
  (repeat' split) <;> simp
@[simp] theorem State.machineCheck_clk (s : State) (c k : Nat) : (s.machineCheck c k).clk = s.clk := by
  simp only [State.machineCheck]
  (repeat' split) <;> simp
@[simp] theorem State.machineCheck_uid (s : State) (c k : Nat) : (s.machineCheck c k).uid = s.uid := by
  simp only [State.machineCheck]
  (repeat' split) <;> simp
@[simp] theorem State.machineCheck_power (s : State) (c k : Nat) : (s.machineCheck c k).power = s.power := by
  simp only [State.machineCheck]
  (repeat' split) <;> simp
@[simp] theorem State.machineCheck_vds (s : State) (c k : Nat) : (s.machineCheck c k).vds = s.vds := by
  simp only [State.machineCheck]
  (repeat' split) <;> simp
@[simp] theorem State.machineCheck_queues (s : State) (c k : Nat) : (s.machineCheck c k).queues = s.queues := by
  simp only [State.machineCheck]
  (repeat' split) <;> simp
@[simp] theorem State.machineCheck_irt (s : State) (c k : Nat) : (s.machineCheck c k).irt = s.irt := by
  simp only [State.machineCheck]
  (repeat' split) <;> simp
@[simp] theorem State.machineCheck_grids (s : State) (c k : Nat) : (s.machineCheck c k).grids = s.grids := by
  simp only [State.machineCheck]
  (repeat' split) <;> simp
@[simp] theorem State.machineCheck_groups (s : State) (c k : Nat) : (s.machineCheck c k).groups = s.groups := by
  simp only [State.machineCheck]
  (repeat' split) <;> simp
@[simp] theorem State.machineCheck_cores (s : State) (c k : Nat) : (s.machineCheck c k).cores = s.cores := by
  simp only [State.machineCheck]
  (repeat' split) <;> simp
@[simp] theorem State.machineCheck_parts (s : State) (c k : Nat) : (s.machineCheck c k).parts = s.parts := by
  simp only [State.machineCheck]
  (repeat' split) <;> simp
@[simp] theorem State.machineCheck_tables (s : State) (c k : Nat) : (s.machineCheck c k).tables = s.tables := by
  simp only [State.machineCheck]
  (repeat' split) <;> simp
@[simp] theorem State.machineCheck_tlb (s : State) (c k : Nat) : (s.machineCheck c k).tlb = s.tlb := by
  simp only [State.machineCheck]
  (repeat' split) <;> simp
@[simp] theorem State.machineCheck_walks (s : State) (c k : Nat) : (s.machineCheck c k).walks = s.walks := by
  simp only [State.machineCheck]
  (repeat' split) <;> simp
@[simp] theorem State.machineCheck_tlbChoice (s : State) (c k : Nat) : (s.machineCheck c k).tlbChoice = s.tlbChoice := by
  simp only [State.machineCheck]
  (repeat' split) <;> simp
@[simp] theorem State.machineCheck_owners (s : State) (c k : Nat) : (s.machineCheck c k).owners = s.owners := by
  simp only [State.machineCheck]
  (repeat' split) <;> simp
@[simp] theorem State.machineCheck_tracked (s : State) (c k : Nat) : (s.machineCheck c k).tracked = s.tracked := by
  simp only [State.machineCheck]
  (repeat' split) <;> simp
@[simp] theorem State.machineCheck_errors (s : State) (c k : Nat) : (s.machineCheck c k).errors = s.errors := by
  simp only [State.machineCheck]
  (repeat' split) <;> simp
@[simp] theorem State.machineCheck_pairing (s : State) (c k : Nat) : (s.machineCheck c k).pairing = s.pairing := by
  simp only [State.machineCheck]
  (repeat' split) <;> simp
@[simp] theorem State.machineCheck_endpoints (s : State) (c k : Nat) : (s.machineCheck c k).endpoints = s.endpoints := by
  simp only [State.machineCheck]
  (repeat' split) <;> simp
@[simp] theorem State.machineCheck_stations (s : State) (c k : Nat) : (s.machineCheck c k).stations = s.stations := by
  simp only [State.machineCheck]
  (repeat' split) <;> simp
@[simp] theorem State.machineCheck_remote (s : State) (c k : Nat) : (s.machineCheck c k).remote = s.remote := by
  simp only [State.machineCheck]
  (repeat' split) <;> simp
@[simp] theorem State.machineCheck_heldRequests (s : State) (c k : Nat) : (s.machineCheck c k).heldRequests = s.heldRequests := by
  simp only [State.machineCheck]
  (repeat' split) <;> simp
@[simp] theorem State.machineCheck_engineData (s : State) (c k : Nat) : (s.machineCheck c k).engineData = s.engineData := by
  simp only [State.machineCheck]
  (repeat' split) <;> simp
@[simp] theorem State.machineCheck_ports (s : State) (c k : Nat) : (s.machineCheck c k).ports = s.ports := by
  simp only [State.machineCheck]
  (repeat' split) <;> simp
@[simp] theorem State.machineCheck_frames (s : State) (c k : Nat) : (s.machineCheck c k).frames = s.frames := by
  simp only [State.machineCheck]
  (repeat' split) <;> simp
@[simp] theorem State.machineCheck_keys (s : State) (c k : Nat) : (s.machineCheck c k).keys = s.keys := by
  simp only [State.machineCheck]
  (repeat' split) <;> simp
@[simp] theorem State.machineCheck_mem (s : State) (c k : Nat) : (s.machineCheck c k).mem = s.mem := by
  simp only [State.machineCheck]
  (repeat' split) <;> simp
@[simp] theorem State.machineCheck_poison (s : State) (c k : Nat) : (s.machineCheck c k).poison = s.poison := by
  simp only [State.machineCheck]
  (repeat' split) <;> simp

/-! holdTrap changes groups, ctl, pairs, pf, sent alone. -/

@[simp] theorem State.holdTrap_cur (s : State) (a : AgentId) (op : Option Nat) (c : Cause) (p : Option Prov) (t : TrapRec) : (s.holdTrap a op c p t).cur = s.cur := by
  cases a <;> simp only [State.holdTrap]
  all_goals ((repeat' split) <;> simp)
@[simp] theorem State.holdTrap_inputs (s : State) (a : AgentId) (op : Option Nat) (c : Cause) (p : Option Prov) (t : TrapRec) : (s.holdTrap a op c p t).inputs = s.inputs := by
  cases a <;> simp only [State.holdTrap]
  all_goals ((repeat' split) <;> simp)
@[simp] theorem State.holdTrap_free (s : State) (a : AgentId) (op : Option Nat) (c : Cause) (p : Option Prov) (t : TrapRec) : (s.holdTrap a op c p t).free = s.free := by
  cases a <;> simp only [State.holdTrap]
  all_goals ((repeat' split) <;> simp)
@[simp] theorem State.holdTrap_l1Choice (s : State) (a : AgentId) (op : Option Nat) (c : Cause) (p : Option Prov) (t : TrapRec) : (s.holdTrap a op c p t).l1Choice = s.l1Choice := by
  cases a <;> simp only [State.holdTrap]
  all_goals ((repeat' split) <;> simp)
@[simp] theorem State.holdTrap_clk (s : State) (a : AgentId) (op : Option Nat) (c : Cause) (p : Option Prov) (t : TrapRec) : (s.holdTrap a op c p t).clk = s.clk := by
  cases a <;> simp only [State.holdTrap]
  all_goals ((repeat' split) <;> simp)
@[simp] theorem State.holdTrap_uid (s : State) (a : AgentId) (op : Option Nat) (c : Cause) (p : Option Prov) (t : TrapRec) : (s.holdTrap a op c p t).uid = s.uid := by
  cases a <;> simp only [State.holdTrap]
  all_goals ((repeat' split) <;> simp)
@[simp] theorem State.holdTrap_power (s : State) (a : AgentId) (op : Option Nat) (c : Cause) (p : Option Prov) (t : TrapRec) : (s.holdTrap a op c p t).power = s.power := by
  cases a <;> simp only [State.holdTrap]
  all_goals ((repeat' split) <;> simp)
@[simp] theorem State.holdTrap_vds (s : State) (a : AgentId) (op : Option Nat) (c : Cause) (p : Option Prov) (t : TrapRec) : (s.holdTrap a op c p t).vds = s.vds := by
  cases a <;> simp only [State.holdTrap]
  all_goals ((repeat' split) <;> simp)
@[simp] theorem State.holdTrap_queues (s : State) (a : AgentId) (op : Option Nat) (c : Cause) (p : Option Prov) (t : TrapRec) : (s.holdTrap a op c p t).queues = s.queues := by
  cases a <;> simp only [State.holdTrap]
  all_goals ((repeat' split) <;> simp)
@[simp] theorem State.holdTrap_irt (s : State) (a : AgentId) (op : Option Nat) (c : Cause) (p : Option Prov) (t : TrapRec) : (s.holdTrap a op c p t).irt = s.irt := by
  cases a <;> simp only [State.holdTrap]
  all_goals ((repeat' split) <;> simp)
@[simp] theorem State.holdTrap_grids (s : State) (a : AgentId) (op : Option Nat) (c : Cause) (p : Option Prov) (t : TrapRec) : (s.holdTrap a op c p t).grids = s.grids := by
  cases a <;> simp only [State.holdTrap]
  all_goals ((repeat' split) <;> simp)
@[simp] theorem State.holdTrap_cores (s : State) (a : AgentId) (op : Option Nat) (c : Cause) (p : Option Prov) (t : TrapRec) : (s.holdTrap a op c p t).cores = s.cores := by
  cases a <;> simp only [State.holdTrap]
  all_goals ((repeat' split) <;> simp)
@[simp] theorem State.holdTrap_parts (s : State) (a : AgentId) (op : Option Nat) (c : Cause) (p : Option Prov) (t : TrapRec) : (s.holdTrap a op c p t).parts = s.parts := by
  cases a <;> simp only [State.holdTrap]
  all_goals ((repeat' split) <;> simp)
@[simp] theorem State.holdTrap_tables (s : State) (a : AgentId) (op : Option Nat) (c : Cause) (p : Option Prov) (t : TrapRec) : (s.holdTrap a op c p t).tables = s.tables := by
  cases a <;> simp only [State.holdTrap]
  all_goals ((repeat' split) <;> simp)
@[simp] theorem State.holdTrap_tlb (s : State) (a : AgentId) (op : Option Nat) (c : Cause) (p : Option Prov) (t : TrapRec) : (s.holdTrap a op c p t).tlb = s.tlb := by
  cases a <;> simp only [State.holdTrap]
  all_goals ((repeat' split) <;> simp)
@[simp] theorem State.holdTrap_walks (s : State) (a : AgentId) (op : Option Nat) (c : Cause) (p : Option Prov) (t : TrapRec) : (s.holdTrap a op c p t).walks = s.walks := by
  cases a <;> simp only [State.holdTrap]
  all_goals ((repeat' split) <;> simp)
@[simp] theorem State.holdTrap_tlbChoice (s : State) (a : AgentId) (op : Option Nat) (c : Cause) (p : Option Prov) (t : TrapRec) : (s.holdTrap a op c p t).tlbChoice = s.tlbChoice := by
  cases a <;> simp only [State.holdTrap]
  all_goals ((repeat' split) <;> simp)
@[simp] theorem State.holdTrap_owners (s : State) (a : AgentId) (op : Option Nat) (c : Cause) (p : Option Prov) (t : TrapRec) : (s.holdTrap a op c p t).owners = s.owners := by
  cases a <;> simp only [State.holdTrap]
  all_goals ((repeat' split) <;> simp)
@[simp] theorem State.holdTrap_tracked (s : State) (a : AgentId) (op : Option Nat) (c : Cause) (p : Option Prov) (t : TrapRec) : (s.holdTrap a op c p t).tracked = s.tracked := by
  cases a <;> simp only [State.holdTrap]
  all_goals ((repeat' split) <;> simp)
@[simp] theorem State.holdTrap_errors (s : State) (a : AgentId) (op : Option Nat) (c : Cause) (p : Option Prov) (t : TrapRec) : (s.holdTrap a op c p t).errors = s.errors := by
  cases a <;> simp only [State.holdTrap]
  all_goals ((repeat' split) <;> simp)
@[simp] theorem State.holdTrap_pairing (s : State) (a : AgentId) (op : Option Nat) (c : Cause) (p : Option Prov) (t : TrapRec) : (s.holdTrap a op c p t).pairing = s.pairing := by
  cases a <;> simp only [State.holdTrap]
  all_goals ((repeat' split) <;> simp)
@[simp] theorem State.holdTrap_endpoints (s : State) (a : AgentId) (op : Option Nat) (c : Cause) (p : Option Prov) (t : TrapRec) : (s.holdTrap a op c p t).endpoints = s.endpoints := by
  cases a <;> simp only [State.holdTrap]
  all_goals ((repeat' split) <;> simp)
@[simp] theorem State.holdTrap_stations (s : State) (a : AgentId) (op : Option Nat) (c : Cause) (p : Option Prov) (t : TrapRec) : (s.holdTrap a op c p t).stations = s.stations := by
  cases a <;> simp only [State.holdTrap]
  all_goals ((repeat' split) <;> simp)
@[simp] theorem State.holdTrap_remote (s : State) (a : AgentId) (op : Option Nat) (c : Cause) (p : Option Prov) (t : TrapRec) : (s.holdTrap a op c p t).remote = s.remote := by
  cases a <;> simp only [State.holdTrap]
  all_goals ((repeat' split) <;> simp)
@[simp] theorem State.holdTrap_heldRequests (s : State) (a : AgentId) (op : Option Nat) (c : Cause) (p : Option Prov) (t : TrapRec) : (s.holdTrap a op c p t).heldRequests = s.heldRequests := by
  cases a <;> simp only [State.holdTrap]
  all_goals ((repeat' split) <;> simp)
@[simp] theorem State.holdTrap_engineData (s : State) (a : AgentId) (op : Option Nat) (c : Cause) (p : Option Prov) (t : TrapRec) : (s.holdTrap a op c p t).engineData = s.engineData := by
  cases a <;> simp only [State.holdTrap]
  all_goals ((repeat' split) <;> simp)
@[simp] theorem State.holdTrap_ports (s : State) (a : AgentId) (op : Option Nat) (c : Cause) (p : Option Prov) (t : TrapRec) : (s.holdTrap a op c p t).ports = s.ports := by
  cases a <;> simp only [State.holdTrap]
  all_goals ((repeat' split) <;> simp)
@[simp] theorem State.holdTrap_frames (s : State) (a : AgentId) (op : Option Nat) (c : Cause) (p : Option Prov) (t : TrapRec) : (s.holdTrap a op c p t).frames = s.frames := by
  cases a <;> simp only [State.holdTrap]
  all_goals ((repeat' split) <;> simp)
@[simp] theorem State.holdTrap_keys (s : State) (a : AgentId) (op : Option Nat) (c : Cause) (p : Option Prov) (t : TrapRec) : (s.holdTrap a op c p t).keys = s.keys := by
  cases a <;> simp only [State.holdTrap]
  all_goals ((repeat' split) <;> simp)
@[simp] theorem State.holdTrap_mem (s : State) (a : AgentId) (op : Option Nat) (c : Cause) (p : Option Prov) (t : TrapRec) : (s.holdTrap a op c p t).mem = s.mem := by
  cases a <;> simp only [State.holdTrap]
  all_goals ((repeat' split) <;> simp)
@[simp] theorem State.holdTrap_poison (s : State) (a : AgentId) (op : Option Nat) (c : Cause) (p : Option Prov) (t : TrapRec) : (s.holdTrap a op c p t).poison = s.poison := by
  cases a <;> simp only [State.holdTrap]
  all_goals ((repeat' split) <;> simp)

/-! trapWith changes groups, ctl, pairs, pf, sent alone. -/

@[simp] theorem State.trapWith_cur (s : State) (c : Cause) (d : Option Cause) (p : Option Prov) (l m : Mask) (x : Word) (r : Option Mask) : (s.trapWith c d p l m x r).cur = s.cur := by simp [State.trapWith]
@[simp] theorem State.trapWith_inputs (s : State) (c : Cause) (d : Option Cause) (p : Option Prov) (l m : Mask) (x : Word) (r : Option Mask) : (s.trapWith c d p l m x r).inputs = s.inputs := by simp [State.trapWith]
@[simp] theorem State.trapWith_free (s : State) (c : Cause) (d : Option Cause) (p : Option Prov) (l m : Mask) (x : Word) (r : Option Mask) : (s.trapWith c d p l m x r).free = s.free := by simp [State.trapWith]
@[simp] theorem State.trapWith_l1Choice (s : State) (c : Cause) (d : Option Cause) (p : Option Prov) (l m : Mask) (x : Word) (r : Option Mask) : (s.trapWith c d p l m x r).l1Choice = s.l1Choice := by simp [State.trapWith]
@[simp] theorem State.trapWith_clk (s : State) (c : Cause) (d : Option Cause) (p : Option Prov) (l m : Mask) (x : Word) (r : Option Mask) : (s.trapWith c d p l m x r).clk = s.clk := by simp [State.trapWith]
@[simp] theorem State.trapWith_uid (s : State) (c : Cause) (d : Option Cause) (p : Option Prov) (l m : Mask) (x : Word) (r : Option Mask) : (s.trapWith c d p l m x r).uid = s.uid := by simp [State.trapWith]
@[simp] theorem State.trapWith_power (s : State) (c : Cause) (d : Option Cause) (p : Option Prov) (l m : Mask) (x : Word) (r : Option Mask) : (s.trapWith c d p l m x r).power = s.power := by simp [State.trapWith]
@[simp] theorem State.trapWith_vds (s : State) (c : Cause) (d : Option Cause) (p : Option Prov) (l m : Mask) (x : Word) (r : Option Mask) : (s.trapWith c d p l m x r).vds = s.vds := by simp [State.trapWith]
@[simp] theorem State.trapWith_queues (s : State) (c : Cause) (d : Option Cause) (p : Option Prov) (l m : Mask) (x : Word) (r : Option Mask) : (s.trapWith c d p l m x r).queues = s.queues := by simp [State.trapWith]
@[simp] theorem State.trapWith_irt (s : State) (c : Cause) (d : Option Cause) (p : Option Prov) (l m : Mask) (x : Word) (r : Option Mask) : (s.trapWith c d p l m x r).irt = s.irt := by simp [State.trapWith]
@[simp] theorem State.trapWith_grids (s : State) (c : Cause) (d : Option Cause) (p : Option Prov) (l m : Mask) (x : Word) (r : Option Mask) : (s.trapWith c d p l m x r).grids = s.grids := by simp [State.trapWith]
@[simp] theorem State.trapWith_cores (s : State) (c : Cause) (d : Option Cause) (p : Option Prov) (l m : Mask) (x : Word) (r : Option Mask) : (s.trapWith c d p l m x r).cores = s.cores := by simp [State.trapWith]
@[simp] theorem State.trapWith_parts (s : State) (c : Cause) (d : Option Cause) (p : Option Prov) (l m : Mask) (x : Word) (r : Option Mask) : (s.trapWith c d p l m x r).parts = s.parts := by simp [State.trapWith]
@[simp] theorem State.trapWith_tables (s : State) (c : Cause) (d : Option Cause) (p : Option Prov) (l m : Mask) (x : Word) (r : Option Mask) : (s.trapWith c d p l m x r).tables = s.tables := by simp [State.trapWith]
@[simp] theorem State.trapWith_tlb (s : State) (c : Cause) (d : Option Cause) (p : Option Prov) (l m : Mask) (x : Word) (r : Option Mask) : (s.trapWith c d p l m x r).tlb = s.tlb := by simp [State.trapWith]
@[simp] theorem State.trapWith_walks (s : State) (c : Cause) (d : Option Cause) (p : Option Prov) (l m : Mask) (x : Word) (r : Option Mask) : (s.trapWith c d p l m x r).walks = s.walks := by simp [State.trapWith]
@[simp] theorem State.trapWith_tlbChoice (s : State) (c : Cause) (d : Option Cause) (p : Option Prov) (l m : Mask) (x : Word) (r : Option Mask) : (s.trapWith c d p l m x r).tlbChoice = s.tlbChoice := by simp [State.trapWith]
@[simp] theorem State.trapWith_owners (s : State) (c : Cause) (d : Option Cause) (p : Option Prov) (l m : Mask) (x : Word) (r : Option Mask) : (s.trapWith c d p l m x r).owners = s.owners := by simp [State.trapWith]
@[simp] theorem State.trapWith_tracked (s : State) (c : Cause) (d : Option Cause) (p : Option Prov) (l m : Mask) (x : Word) (r : Option Mask) : (s.trapWith c d p l m x r).tracked = s.tracked := by simp [State.trapWith]
@[simp] theorem State.trapWith_errors (s : State) (c : Cause) (d : Option Cause) (p : Option Prov) (l m : Mask) (x : Word) (r : Option Mask) : (s.trapWith c d p l m x r).errors = s.errors := by simp [State.trapWith]
@[simp] theorem State.trapWith_pairing (s : State) (c : Cause) (d : Option Cause) (p : Option Prov) (l m : Mask) (x : Word) (r : Option Mask) : (s.trapWith c d p l m x r).pairing = s.pairing := by simp [State.trapWith]
@[simp] theorem State.trapWith_endpoints (s : State) (c : Cause) (d : Option Cause) (p : Option Prov) (l m : Mask) (x : Word) (r : Option Mask) : (s.trapWith c d p l m x r).endpoints = s.endpoints := by simp [State.trapWith]
@[simp] theorem State.trapWith_stations (s : State) (c : Cause) (d : Option Cause) (p : Option Prov) (l m : Mask) (x : Word) (r : Option Mask) : (s.trapWith c d p l m x r).stations = s.stations := by simp [State.trapWith]
@[simp] theorem State.trapWith_remote (s : State) (c : Cause) (d : Option Cause) (p : Option Prov) (l m : Mask) (x : Word) (r : Option Mask) : (s.trapWith c d p l m x r).remote = s.remote := by simp [State.trapWith]
@[simp] theorem State.trapWith_heldRequests (s : State) (c : Cause) (d : Option Cause) (p : Option Prov) (l m : Mask) (x : Word) (r : Option Mask) : (s.trapWith c d p l m x r).heldRequests = s.heldRequests := by simp [State.trapWith]
@[simp] theorem State.trapWith_engineData (s : State) (c : Cause) (d : Option Cause) (p : Option Prov) (l m : Mask) (x : Word) (r : Option Mask) : (s.trapWith c d p l m x r).engineData = s.engineData := by simp [State.trapWith]
@[simp] theorem State.trapWith_ports (s : State) (c : Cause) (d : Option Cause) (p : Option Prov) (l m : Mask) (x : Word) (r : Option Mask) : (s.trapWith c d p l m x r).ports = s.ports := by simp [State.trapWith]
@[simp] theorem State.trapWith_frames (s : State) (c : Cause) (d : Option Cause) (p : Option Prov) (l m : Mask) (x : Word) (r : Option Mask) : (s.trapWith c d p l m x r).frames = s.frames := by simp [State.trapWith]
@[simp] theorem State.trapWith_keys (s : State) (c : Cause) (d : Option Cause) (p : Option Prov) (l m : Mask) (x : Word) (r : Option Mask) : (s.trapWith c d p l m x r).keys = s.keys := by simp [State.trapWith]
@[simp] theorem State.trapWith_mem (s : State) (c : Cause) (d : Option Cause) (p : Option Prov) (l m : Mask) (x : Word) (r : Option Mask) : (s.trapWith c d p l m x r).mem = s.mem := by simp [State.trapWith]
@[simp] theorem State.trapWith_poison (s : State) (c : Cause) (d : Option Cause) (p : Option Prov) (l m : Mask) (x : Word) (r : Option Mask) : (s.trapWith c d p l m x r).poison = s.poison := by simp [State.trapWith]

/-! trapAt changes groups, ctl, pairs, pf, sent alone. -/

@[simp] theorem State.trapAt_cur (s : State) (c : Cause) (x : Word) : (s.trapAt c x).cur = s.cur := by simp [State.trapAt]
@[simp] theorem State.trapAt_inputs (s : State) (c : Cause) (x : Word) : (s.trapAt c x).inputs = s.inputs := by simp [State.trapAt]
@[simp] theorem State.trapAt_free (s : State) (c : Cause) (x : Word) : (s.trapAt c x).free = s.free := by simp [State.trapAt]
@[simp] theorem State.trapAt_l1Choice (s : State) (c : Cause) (x : Word) : (s.trapAt c x).l1Choice = s.l1Choice := by simp [State.trapAt]
@[simp] theorem State.trapAt_clk (s : State) (c : Cause) (x : Word) : (s.trapAt c x).clk = s.clk := by simp [State.trapAt]
@[simp] theorem State.trapAt_uid (s : State) (c : Cause) (x : Word) : (s.trapAt c x).uid = s.uid := by simp [State.trapAt]
@[simp] theorem State.trapAt_power (s : State) (c : Cause) (x : Word) : (s.trapAt c x).power = s.power := by simp [State.trapAt]
@[simp] theorem State.trapAt_vds (s : State) (c : Cause) (x : Word) : (s.trapAt c x).vds = s.vds := by simp [State.trapAt]
@[simp] theorem State.trapAt_queues (s : State) (c : Cause) (x : Word) : (s.trapAt c x).queues = s.queues := by simp [State.trapAt]
@[simp] theorem State.trapAt_irt (s : State) (c : Cause) (x : Word) : (s.trapAt c x).irt = s.irt := by simp [State.trapAt]
@[simp] theorem State.trapAt_grids (s : State) (c : Cause) (x : Word) : (s.trapAt c x).grids = s.grids := by simp [State.trapAt]
@[simp] theorem State.trapAt_cores (s : State) (c : Cause) (x : Word) : (s.trapAt c x).cores = s.cores := by simp [State.trapAt]
@[simp] theorem State.trapAt_parts (s : State) (c : Cause) (x : Word) : (s.trapAt c x).parts = s.parts := by simp [State.trapAt]
@[simp] theorem State.trapAt_tables (s : State) (c : Cause) (x : Word) : (s.trapAt c x).tables = s.tables := by simp [State.trapAt]
@[simp] theorem State.trapAt_tlb (s : State) (c : Cause) (x : Word) : (s.trapAt c x).tlb = s.tlb := by simp [State.trapAt]
@[simp] theorem State.trapAt_walks (s : State) (c : Cause) (x : Word) : (s.trapAt c x).walks = s.walks := by simp [State.trapAt]
@[simp] theorem State.trapAt_tlbChoice (s : State) (c : Cause) (x : Word) : (s.trapAt c x).tlbChoice = s.tlbChoice := by simp [State.trapAt]
@[simp] theorem State.trapAt_owners (s : State) (c : Cause) (x : Word) : (s.trapAt c x).owners = s.owners := by simp [State.trapAt]
@[simp] theorem State.trapAt_tracked (s : State) (c : Cause) (x : Word) : (s.trapAt c x).tracked = s.tracked := by simp [State.trapAt]
@[simp] theorem State.trapAt_errors (s : State) (c : Cause) (x : Word) : (s.trapAt c x).errors = s.errors := by simp [State.trapAt]
@[simp] theorem State.trapAt_pairing (s : State) (c : Cause) (x : Word) : (s.trapAt c x).pairing = s.pairing := by simp [State.trapAt]
@[simp] theorem State.trapAt_endpoints (s : State) (c : Cause) (x : Word) : (s.trapAt c x).endpoints = s.endpoints := by simp [State.trapAt]
@[simp] theorem State.trapAt_stations (s : State) (c : Cause) (x : Word) : (s.trapAt c x).stations = s.stations := by simp [State.trapAt]
@[simp] theorem State.trapAt_remote (s : State) (c : Cause) (x : Word) : (s.trapAt c x).remote = s.remote := by simp [State.trapAt]
@[simp] theorem State.trapAt_heldRequests (s : State) (c : Cause) (x : Word) : (s.trapAt c x).heldRequests = s.heldRequests := by simp [State.trapAt]
@[simp] theorem State.trapAt_engineData (s : State) (c : Cause) (x : Word) : (s.trapAt c x).engineData = s.engineData := by simp [State.trapAt]
@[simp] theorem State.trapAt_ports (s : State) (c : Cause) (x : Word) : (s.trapAt c x).ports = s.ports := by simp [State.trapAt]
@[simp] theorem State.trapAt_frames (s : State) (c : Cause) (x : Word) : (s.trapAt c x).frames = s.frames := by simp [State.trapAt]
@[simp] theorem State.trapAt_keys (s : State) (c : Cause) (x : Word) : (s.trapAt c x).keys = s.keys := by simp [State.trapAt]
@[simp] theorem State.trapAt_mem (s : State) (c : Cause) (x : Word) : (s.trapAt c x).mem = s.mem := by simp [State.trapAt]
@[simp] theorem State.trapAt_poison (s : State) (c : Cause) (x : Word) : (s.trapAt c x).poison = s.poison := by simp [State.trapAt]

/-! trap changes groups, ctl, pairs, pf, sent alone. -/

@[simp] theorem State.trap_cur (s : State) (c : Cause) : (s.trap c).cur = s.cur := by simp [State.trap]
@[simp] theorem State.trap_inputs (s : State) (c : Cause) : (s.trap c).inputs = s.inputs := by simp [State.trap]
@[simp] theorem State.trap_free (s : State) (c : Cause) : (s.trap c).free = s.free := by simp [State.trap]
@[simp] theorem State.trap_l1Choice (s : State) (c : Cause) : (s.trap c).l1Choice = s.l1Choice := by simp [State.trap]
@[simp] theorem State.trap_clk (s : State) (c : Cause) : (s.trap c).clk = s.clk := by simp [State.trap]
@[simp] theorem State.trap_uid (s : State) (c : Cause) : (s.trap c).uid = s.uid := by simp [State.trap]
@[simp] theorem State.trap_power (s : State) (c : Cause) : (s.trap c).power = s.power := by simp [State.trap]
@[simp] theorem State.trap_vds (s : State) (c : Cause) : (s.trap c).vds = s.vds := by simp [State.trap]
@[simp] theorem State.trap_queues (s : State) (c : Cause) : (s.trap c).queues = s.queues := by simp [State.trap]
@[simp] theorem State.trap_irt (s : State) (c : Cause) : (s.trap c).irt = s.irt := by simp [State.trap]
@[simp] theorem State.trap_grids (s : State) (c : Cause) : (s.trap c).grids = s.grids := by simp [State.trap]
@[simp] theorem State.trap_cores (s : State) (c : Cause) : (s.trap c).cores = s.cores := by simp [State.trap]
@[simp] theorem State.trap_parts (s : State) (c : Cause) : (s.trap c).parts = s.parts := by simp [State.trap]
@[simp] theorem State.trap_tables (s : State) (c : Cause) : (s.trap c).tables = s.tables := by simp [State.trap]
@[simp] theorem State.trap_tlb (s : State) (c : Cause) : (s.trap c).tlb = s.tlb := by simp [State.trap]
@[simp] theorem State.trap_walks (s : State) (c : Cause) : (s.trap c).walks = s.walks := by simp [State.trap]
@[simp] theorem State.trap_tlbChoice (s : State) (c : Cause) : (s.trap c).tlbChoice = s.tlbChoice := by simp [State.trap]
@[simp] theorem State.trap_owners (s : State) (c : Cause) : (s.trap c).owners = s.owners := by simp [State.trap]
@[simp] theorem State.trap_tracked (s : State) (c : Cause) : (s.trap c).tracked = s.tracked := by simp [State.trap]
@[simp] theorem State.trap_errors (s : State) (c : Cause) : (s.trap c).errors = s.errors := by simp [State.trap]
@[simp] theorem State.trap_pairing (s : State) (c : Cause) : (s.trap c).pairing = s.pairing := by simp [State.trap]
@[simp] theorem State.trap_endpoints (s : State) (c : Cause) : (s.trap c).endpoints = s.endpoints := by simp [State.trap]
@[simp] theorem State.trap_stations (s : State) (c : Cause) : (s.trap c).stations = s.stations := by simp [State.trap]
@[simp] theorem State.trap_remote (s : State) (c : Cause) : (s.trap c).remote = s.remote := by simp [State.trap]
@[simp] theorem State.trap_heldRequests (s : State) (c : Cause) : (s.trap c).heldRequests = s.heldRequests := by simp [State.trap]
@[simp] theorem State.trap_engineData (s : State) (c : Cause) : (s.trap c).engineData = s.engineData := by simp [State.trap]
@[simp] theorem State.trap_ports (s : State) (c : Cause) : (s.trap c).ports = s.ports := by simp [State.trap]
@[simp] theorem State.trap_frames (s : State) (c : Cause) : (s.trap c).frames = s.frames := by simp [State.trap]
@[simp] theorem State.trap_keys (s : State) (c : Cause) : (s.trap c).keys = s.keys := by simp [State.trap]
@[simp] theorem State.trap_mem (s : State) (c : Cause) : (s.trap c).mem = s.mem := by simp [State.trap]
@[simp] theorem State.trap_poison (s : State) (c : Cause) : (s.trap c).poison = s.poison := by simp [State.trap]

end Sys2Proof.Machine
end

