-- ==== Sys2Proof/Laws/Tables.lean ====
section
/-! SUPPORT. Tables and memory: what is read after a write, and that every memory operation keeps the canonical form. -/

namespace Sys2Proof.Machine

variable {β : Type}

/-! Reading after writing. -/

@[simp] theorem Table.get_put_self (d : β) (n : Nat) (v : β) (t : Table β) : Table.get d (Table.put n v t) n = v := by
  induction t with
  | nil => simp [Table.put, Table.get]
  | cons e t ih =>
    obtain ⟨k, u⟩ := e
    simp only [Table.put]
    split
    · simp [Table.get]
    · split
      · simp [Table.get]
      · rename_i h1 h2
        simp only [Table.get, h2, if_false, Bool.false_eq_true]
        exact ih

theorem Table.get_put_ne (d : β) {n m : Nat} (h : m ≠ n) (v : β) (t : Table β) :
    Table.get d (Table.put n v t) m = Table.get d t m := by
  induction t with
  | nil => simp [Table.put, Table.get, h]
  | cons e t ih =>
    obtain ⟨k, u⟩ := e
    simp only [Table.put]
    split
    · simp [Table.get, h]
    · split
      · rename_i h1 h2
        simp only [beq_iff_eq] at h2
        subst h2
        simp [Table.get, h]
      · simp only [Table.get]
        rw [ih]

@[simp] theorem Table.get_drop_self (d : β) (n : Nat) (t : Table β) : Table.get d (Table.drop n t) n = d := by
  induction t with
  | nil => rfl
  | cons e t ih =>
    simp only [Table.drop] at ih ⊢
    rw [List.filter_cons]
    split
    · rename_i h
      have h' : ¬ n = e.1 := fun hn => by simp [hn] at h
      simp [Table.get, h', ih]
    · exact ih

theorem Table.get_drop_ne (d : β) {n m : Nat} (h : m ≠ n) (t : Table β) :
    Table.get d (Table.drop n t) m = Table.get d t m := by
  induction t with
  | nil => rfl
  | cons e t ih =>
    simp only [Table.drop] at ih ⊢
    rw [List.filter_cons]
    split
    · simp [Table.get, ih]
    · rename_i hk
      have hk' : e.1 = n := by simpa using hk
      simp [Table.get, hk', h, ih]

@[simp] theorem Table.get_set_self [DecidableEq β] (d : β) (n : Nat) (v : β) (t : Table β) :
    Table.get d (Table.set d n v t) n = v := by
  unfold Table.set
  split
  · rename_i hv
    rw [Table.get_drop_self, hv]
  · exact Table.get_put_self d n v t

theorem Table.get_set_ne [DecidableEq β] (d : β) {n m : Nat} (h : m ≠ n) (v : β) (t : Table β) :
    Table.get d (Table.set d n v t) m = Table.get d t m := by
  unfold Table.set
  split
  · exact Table.get_drop_ne d h t
  · exact Table.get_put_ne d h v t

@[simp] theorem Table.look_put_self (n : Nat) (v : β) (t : Table β) : Table.look (Table.put n v t) n = some v := by
  have h : ∀ t : Table β, ((Table.put n v t).map fun e => (e.1, some e.2)) =
      Table.put n (some v) (t.map fun e => (e.1, some e.2)) := by
    intro t
    induction t with
    | nil => rfl
    | cons e t ih =>
      obtain ⟨k, u⟩ := e
      simp only [Table.put, List.map]
      split
      · rfl
      · split
        · rfl
        · simp [ih]
  rw [Table.look, h, Table.get_put_self]

@[simp] theorem Table.look_drop_self (n : Nat) (t : Table β) : Table.look (Table.drop n t) n = none := by
  have h : ((Table.drop n t).map fun e => (e.1, some e.2)) = Table.drop n (t.map fun e => (e.1, some e.2)) := by
    simp [Table.drop, List.filter_map, Function.comp_def]
  rw [Table.look, h, Table.get_drop_self]

/-! The canonical form. -/

/-- The head of a rising table lies below every key of its tail. -/
theorem Table.rising_cons {k : Nat} {u : β} {t : Table β} :
    Table.rising ((k, u) :: t) = true ↔ (∀ e ∈ t, k < e.1) ∧ Table.rising t = true := by
  induction t generalizing k u with
  | nil => simp [Table.rising]
  | cons e t ih =>
    obtain ⟨l, v⟩ := e
    simp only [Table.rising, Bool.and_eq_true, decide_eq_true_eq, List.mem_cons, forall_eq_or_imp, and_assoc]
    constructor
    · rintro ⟨h1, h2⟩
      exact ⟨h1, fun e he => Nat.lt_trans h1 ((ih.1 h2).1 e he), h2⟩
    · rintro ⟨h1, _, h3⟩
      exact ⟨h1, h3⟩

theorem Table.rising_filter (p : Nat × β → Bool) (t : Table β) (hr : Table.rising t = true) : Table.rising (t.filter p) = true := by
  induction t with
  | nil => rfl
  | cons e t ih =>
    obtain ⟨k, u⟩ := e
    have hc := Table.rising_cons.1 hr
    simp only [List.filter]
    split
    · exact Table.rising_cons.2 ⟨fun e he => hc.1 e (List.mem_filter.1 he).1, ih hc.2⟩
    · exact ih hc.2

theorem Table.mem_put {n : Nat} {v : β} {t : Table β} {e : Nat × β} (h : e ∈ Table.put n v t) : e = (n, v) ∨ e ∈ t := by
  induction t with
  | nil => exact .inl (by simpa [Table.put] using h)
  | cons f t ih =>
    obtain ⟨k, u⟩ := f
    simp only [Table.put] at h
    split at h
    · simpa using h
    · split at h
      · rcases List.mem_cons.1 h with h | h
        · exact .inl h
        · exact .inr (by simp [h])
      · rcases List.mem_cons.1 h with h | h
        · exact .inr (by simp [h])
        · rcases ih h with h | h
          · exact .inl h
          · exact .inr (by simp [h])

theorem Table.rising_put (n : Nat) (v : β) (t : Table β) (hr : Table.rising t = true) : Table.rising (Table.put n v t) = true := by
  induction t with
  | nil => rfl
  | cons e t ih =>
    obtain ⟨k, u⟩ := e
    have hc := Table.rising_cons.1 hr
    simp only [Table.put]
    split
    · rename_i hk
      refine Table.rising_cons.2 ⟨fun e he => ?_, hr⟩
      rcases List.mem_cons.1 he with rfl | h
      · exact hk
      · exact Nat.lt_trans hk (hc.1 e h)
    · split
      · rename_i h1 h2
        simp only [beq_iff_eq] at h2
        subst h2
        exact Table.rising_cons.2 hc
      · rename_i h1 h2
        simp only [beq_iff_eq] at h2
        refine Table.rising_cons.2 ⟨fun e he => ?_, ih hc.2⟩
        rcases Table.mem_put he with rfl | h
        · show k < n
          omega
        · exact hc.1 e h

theorem Table.rising_drop (n : Nat) (t : Table β) (hr : Table.rising t = true) : Table.rising (Table.drop n t) = true :=
  Table.rising_filter _ t hr

theorem Table.wf_iff [DecidableEq β] (d : β) (t : Table β) :
    Table.wf d t = true ↔ Table.rising t = true ∧ ∀ e ∈ t, e.2 ≠ d := by
  simp [Table.wf, List.all_eq_true]

theorem Table.wf_set [DecidableEq β] (d : β) (n : Nat) (v : β) (t : Table β) (h : Table.wf d t = true) :
    Table.wf d (Table.set d n v t) = true := by
  rw [Table.wf_iff] at h ⊢
  unfold Table.set
  split
  · exact ⟨Table.rising_drop n t h.1, fun e he => h.2 e (List.mem_filter.1 he).1⟩
  · rename_i hv
    refine ⟨Table.rising_put n v t h.1, fun e he => ?_⟩
    rcases Table.mem_put he with rfl | he
    · exact hv
    · exact h.2 e he

theorem Table.wf_filter [DecidableEq β] (d : β) (p : Nat × β → Bool) (t : Table β) (h : Table.wf d t = true) :
    Table.wf d (t.filter p) = true := by
  rw [Table.wf_iff] at h ⊢
  exact ⟨Table.rising_filter p t h.1, fun e he => h.2 e (List.mem_filter.1 he).1⟩

/-! Memory. -/

theorem Memory.wf_memSet (m : Memory) (k : Nat) (b : Byte) (h : m.wf = true) : (memSet m k b).wf = true :=
  Table.wf_set 0 k b m h

theorem Memory.wf_filter (m : Memory) (p : Host.Cell → Bool) (h : m.wf = true) : Memory.wf (m.filter p) = true :=
  Table.wf_filter 0 p m h

/-- A byte reads as it was written. -/
@[simp] theorem memGet_memSet_self (m : Memory) (k : Nat) (b : Byte) : memGet (memSet m k b) k = b :=
  Table.get_set_self 0 k b m

/-- A write leaves every other byte alone. -/
theorem memGet_memSet_ne (m : Memory) {k l : Nat} (b : Byte) (h : l ≠ k) : memGet (memSet m k b) l = memGet m l :=
  Table.get_set_ne 0 h b m

end Sys2Proof.Machine
end

