-- ==== Sys2Proof/Laws/Ops.lean ====
section
/-! SUPPORT. The named operations: what is read after an update, the memory writes' canonical form and frame, and the checks
that every instruction makes. -/

namespace Sys2Proof.Machine

/-! Lists. -/

theorem listGet_listSet_self {α : Type} (d : α) (l : List α) (n : Nat) (v : α) (h : n < l.length) :
    listGet d (listSet l n v) n = v := by
  induction l generalizing n with
  | nil => simp at h
  | cons a l ih =>
    cases n with
    | zero => rfl
    | succ n => exact ih n (by simpa using h)

theorem listGet_listSet_ne {α : Type} (d : α) (l : List α) {n m : Nat} (v : α) (h : m ≠ n) :
    listGet d (listSet l n v) m = listGet d l m := by
  induction l generalizing n m with
  | nil => rfl
  | cons a l ih =>
    cases n with
    | zero => cases m with
      | zero => exact absurd rfl h
      | succ m => rfl
    | succ n => cases m with
      | zero => rfl
      | succ m => exact ih (by omega)

@[simp] theorem length_listSet {α : Type} (l : List α) (n : Nat) (v : α) : (listSet l n v).length = l.length := by
  induction l generalizing n with
  | nil => rfl
  | cons a l ih => cases n <;> simp [listSet, ih]

/-! Entities. -/

@[simp] theorem State.vd_setVd (s : State) (n : Nat) (v : Vd) : (s.setVd n v).vd n = v := by simp [State.vd, State.setVd]
theorem State.vd_setVd_ne (s : State) {n m : Nat} (v : Vd) (h : m ≠ n) : (s.setVd n v).vd m = s.vd m := by
  simp [State.vd, State.setVd, Table.get_put_ne _ h]
@[simp] theorem State.vd_updVd (s : State) (n : Nat) (f : Vd → Vd) : (s.updVd n f).vd n = f (s.vd n) := by simp [State.updVd]
@[simp] theorem State.queue_setQueue (s : State) (n : Nat) (v : Queue) : (s.setQueue n v).queue n = v := by
  simp [State.queue, State.setQueue]
theorem State.queue_setQueue_ne (s : State) {n m : Nat} (v : Queue) (h : m ≠ n) : (s.setQueue n v).queue m = s.queue m := by
  simp [State.queue, State.setQueue, Table.get_put_ne _ h]
@[simp] theorem State.queue_updQueue (s : State) (n : Nat) (f : Queue → Queue) : (s.updQueue n f).queue n = f (s.queue n) := by
  simp [State.updQueue]
@[simp] theorem State.group_setGroup (s : State) (n : Nat) (v : Group) : (s.setGroup n v).group n = v := by
  simp [State.group, State.setGroup]
theorem State.group_setGroup_ne (s : State) {n m : Nat} (v : Group) (h : m ≠ n) : (s.setGroup n v).group m = s.group m := by
  simp [State.group, State.setGroup, Table.get_put_ne _ h]
@[simp] theorem State.group_updGroup (s : State) (n : Nat) (f : Group → Group) : (s.updGroup n f).group n = f (s.group n) := by
  simp [State.updGroup]
@[simp] theorem State.grid_setGrid (s : State) (n : Nat) (v : Grid) : (s.setGrid n v).grid n = v := by
  simp [State.grid, State.setGrid]
@[simp] theorem State.grid_updGrid (s : State) (n : Nat) (f : Grid → Grid) : (s.updGrid n f).grid n = f (s.grid n) := by
  simp [State.updGrid]
@[simp] theorem State.core_setCore (s : State) (n : Nat) (v : Core) : (s.setCore n v).core n = v := by
  simp [State.core, State.setCore]
@[simp] theorem State.core_updCore (s : State) (n : Nat) (f : Core → Core) : (s.updCore n f).core n = f (s.core n) := by
  simp [State.updCore]
@[simp] theorem State.ctlCore_setCtl (s : State) (n : Nat) (v : CtlCore) : (s.setCtl n v).ctlCore n = v := by
  simp [State.ctlCore, State.setCtl]
theorem State.ctlCore_setCtl_ne (s : State) {n m : Nat} (v : CtlCore) (h : m ≠ n) : (s.setCtl n v).ctlCore m = s.ctlCore m := by
  simp [State.ctlCore, State.setCtl, Table.get_put_ne _ h]
@[simp] theorem State.ctlCore_updCtl (s : State) (n : Nat) (f : CtlCore → CtlCore) : (s.updCtl n f).ctlCore n = f (s.ctlCore n) := by
  simp [State.updCtl]
@[simp] theorem State.pair_setPair (s : State) (n : Nat) (v : Pair) : (s.setPair n v).pair n = v := by
  simp [State.pair, State.setPair]
@[simp] theorem State.pair_updPair (s : State) (n : Nat) (f : Pair → Pair) : (s.updPair n f).pair n = f (s.pair n) := by
  simp [State.updPair]

/-- The number of warps of a workgroup does not change with a warp. -/
@[simp] theorem State.length_warps_setWarp (s : State) (g w : Nat) (v : Warp) :
    ((s.setWarp g w v).group g).warps.length = (s.group g).warps.length := by simp [State.setWarp]

theorem State.warp_setWarp (s : State) (g w : Nat) (v : Warp) (h : w < (s.group g).warps.length) :
    (s.setWarp g w v).warp g w = v := by
  simp [State.warp, State.setWarp, listGet_listSet_self, h]

theorem State.warp_setWarp_ne (s : State) (g : Nat) {w x : Nat} (v : Warp) (h : x ≠ w) :
    (s.setWarp g w v).warp g x = s.warp g x := by
  simp [State.warp, State.setWarp, listGet_listSet_ne, h]

theorem State.warp_updWarp (s : State) (g w : Nat) (f : Warp → Warp) (h : w < (s.group g).warps.length) :
    (s.updWarp g w f).warp g w = f (s.warp g w) := by simp [State.updWarp, State.warp_setWarp, h]

@[simp] theorem State.stoker_setStoker (s : State) (g : Nat) (v : Stoker) : (s.setStoker g v).stoker g = v := by
  simp [State.stoker, State.setStoker]

/-! Agents. -/

/-- Whether an agent has a place of its own in the state: a warp is one of its workgroup's. -/
def State.has (s : State) (a : AgentId) : Prop :=
  match a with
  | .warp g w => w < (s.group g).warps.length
  | _ => True

theorem State.agent_setAgent (s : State) (a : AgentId) (v : Agent) (h : s.has a) : (s.setAgent a v).agent a = v := by
  cases a with
  | warp g w => simp only [State.has] at h; simp [State.agent, State.setAgent, State.warp_updWarp, h]
  | stoker g => simp [State.agent, State.setAgent]
  | ctl c => simp [State.agent, State.setAgent]

theorem State.agent_updAgent (s : State) (a : AgentId) (f : Agent → Agent) (h : s.has a) :
    (s.updAgent a f).agent a = f (s.agent a) := State.agent_setAgent s a _ h

/-- s0 reads 0 (07 R180). -/
@[simp] theorem Agent.sreg_zero (a : Agent) : a.sreg 0 = 0 := rfl

theorem Agent.sreg_setSreg (a : Agent) (r : Reg) (v : Word) (p : Option Prov) (h : r ≠ 0) :
    (a.setSreg r.toNat v p).sreg r = v := by
  have h' : ¬ r.toNat = 0 := fun hr => h (BitVec.eq_of_toNat_eq hr)
  have hb : (r == 0) = false := by simpa using h
  simp only [Agent.sreg, Agent.setSreg, hb]
  simp [h']

theorem Agent.sreg_setSreg_ne (a : Agent) {r q : Reg} (v : Word) (p : Option Prov) (h : q ≠ r) :
    (a.setSreg r.toNat v p).sreg q = a.sreg q := by
  have h' : q.toNat ≠ r.toNat := fun hr => h (BitVec.eq_of_toNat_eq hr)
  simp only [Agent.sreg, Agent.setSreg]
  split
  · rfl
  · split
    · rfl
    · exact Table.get_set_ne 0 h' v _

/-- A write to s0 is discarded (06 R162). -/
@[simp] theorem Agent.setSreg_zero (a : Agent) (v : Word) (p : Option Prov) : a.setSreg 0 v p = a := rfl

@[simp] theorem Agent.setSreg_ops (a : Agent) (r : Nat) (v : Word) (p : Option Prov) : (a.setSreg r v p).ops = a.ops := by
  unfold Agent.setSreg; split <;> rfl
@[simp] theorem Agent.setSreg_wait (a : Agent) (r : Nat) (v : Word) (p : Option Prov) : (a.setSreg r v p).wait = a.wait := by
  unfold Agent.setSreg; split <;> rfl
@[simp] theorem Agent.setSreg_ended (a : Agent) (r : Nat) (v : Word) (p : Option Prov) : (a.setSreg r v p).ended = a.ended := by
  unfold Agent.setSreg; split <;> rfl

/-- Moving an agent leaves its registers and operations. -/
@[simp] theorem State.agent_setPcOf (s : State) (a : AgentId) (pc : Word) (h : s.has a) : (s.setPcOf a pc).agent a = s.agent a := by
  cases a with
  | warp g w => simp only [State.has] at h; simp [State.agent, State.setPcOf, State.warp_updWarp, h, Warp.moveHead]
  | stoker g => simp [State.agent, State.setPcOf]
  | ctl c => simp [State.agent, State.setPcOf]

/-! Memory (01 R4). -/

theorem State.writeByte_mem (s : State) (l : Loc) (b : Byte) :
    (s.writeByte l b).mem = memSet s.mem l.key b ∨ (s.writeByte l b).mem = s.mem := by
  unfold State.writeByte
  split
  · exact .inr rfl
  · exact .inl rfl

/-- A byte write keeps memory in canonical form. -/
theorem State.wf_writeByte (s : State) (l : Loc) (b : Byte) (h : s.mem.wf = true) : (s.writeByte l b).mem.wf = true := by
  rcases s.writeByte_mem l b with e | e <;> rw [e]
  · exact Memory.wf_memSet _ _ _ h
  · exact h

@[simp] theorem State.writeByte_poison (s : State) (l : Loc) (b : Byte) : (s.writeByte l b).poison = s.poison := by
  unfold State.writeByte; split <;> rfl

@[simp] theorem State.markDirty_mem (s : State) (l : Loc) : (s.markDirty l).mem = s.mem := by
  simp only [State.markDirty]; split <;> (try split) <;> rfl
@[simp] theorem State.markDirty_poison (s : State) (l : Loc) : (s.markDirty l).poison = s.poison := by
  simp only [State.markDirty]; split <;> (try split) <;> rfl

@[simp] theorem State.setPoison_mem (s : State) (l : Loc) (p : Option Prov) : (s.setPoison l p).mem = s.mem := by
  unfold State.setPoison; split <;> rfl

theorem State.rising_setPoison (s : State) (l : Loc) (p : Option Prov) (h : Table.rising s.poison = true) :
    Table.rising (s.setPoison l p).poison = true := by
  unfold State.setPoison
  split
  · exact h
  · cases p
    · exact Table.rising_drop _ _ h
    · exact Table.rising_put _ _ _ h

/-- A property that each step of a fold keeps holds of the whole. -/
theorem foldl_keeps {α β : Type} (P : β → Prop) (f : β → α → β) (hf : ∀ b a, P b → P (f b a)) (l : List α) (b : β) (h : P b) :
    P (l.foldl f b) := by
  induction l generalizing b with
  | nil => exact h
  | cons a l ih => exact ih _ (hf b a h)

/-- Memory and its poison stay in canonical form through a group of writes. -/
theorem State.canonical_performWrites (s : State) (ws : List ByteWrite) (h : s.mem.wf = true ∧ Table.rising s.poison = true) :
    (s.performWrites ws).mem.wf = true ∧ Table.rising (s.performWrites ws).poison = true := by
  unfold State.performWrites
  refine foldl_keeps (fun t : State => t.mem.wf = true ∧ Table.rising t.poison = true) _ ?_ _ _
    (foldl_keeps (fun t : State => t.mem.wf = true ∧ Table.rising t.poison = true) _ ?_ _ _ h)
  · intro t l ht
    dsimp only
    split
    · exact ht
    · exact ⟨by simpa using ht.1, State.rising_setPoison _ _ _ ht.2⟩
  · intro t w ht
    exact ⟨by simpa using State.wf_writeByte _ _ _ ht.1, by simpa using ht.2⟩

theorem State.canonical_store (s : State) (l : Loc) (bs : List Byte) (h : s.mem.wf = true ∧ Table.rising s.poison = true) :
    (s.store l bs).mem.wf = true ∧ Table.rising (s.store l bs).poison = true := State.canonical_performWrites s _ h

/-- A byte that no write of a group names keeps its value in memory. -/
theorem State.memGet_performWrites (s : State) (ws : List ByteWrite) (k : Nat) (h : ∀ w ∈ ws, w.loc.key ≠ k) :
    memGet (s.performWrites ws).mem k = memGet s.mem k := by
  have hb : ∀ (ws : List ByteWrite) (t : State), (∀ w ∈ ws, w.loc.key ≠ k) →
      memGet (ws.foldl (fun s w => (s.writeByte w.loc w.byte).markDirty w.loc) t).mem k = memGet t.mem k := by
    intro ws
    induction ws with
    | nil => intro t _; rfl
    | cons w ws ih =>
      intro t hw
      rw [List.foldl_cons, ih _ fun x hx => hw x (by simp [hx]), State.markDirty_mem]
      rcases t.writeByte_mem w.loc w.byte with e | e <;> rw [e]
      exact memGet_memSet_ne _ _ (Ne.symm (hw w (by simp)))
  unfold State.performWrites
  refine foldl_keeps (fun t : State => memGet t.mem k = memGet s.mem k) _ ?_ _ _ (hb ws s h)
  intro t l ht
  dsimp only
  split
  · exact ht
  · simpa using ht

/-! The checks of every instruction. -/

/-- An instruction that passes its checks has its effect. -/
theorem checked_ok (f : Form) (s : State) (k : State → Res) (h : s.decodeCause f = none) (p : s.scalarPoison f = none) :
    checked f s k = k s := by simp [checked, h, p]

/-- An instruction that a decode check stops traps with its cause (06 R168). -/
theorem checked_cause (f : Form) (s : State) (k : State → Res) (c : Cause) (h : s.decodeCause f = some c) :
    checked f s k = .next (s.trap c) := by simp [checked, h]

/-- An instruction that consumes a poisoned scalar register traps POISON (17 R392). -/
theorem checked_poison (f : Form) (s : State) (k : State → Res) (q : Prov) (h : s.decodeCause f = none)
    (p : s.scalarPoison f = some q) : checked f s k = .next (s.trapWith .poison none (some q) s.issueMask 0 0 none) := by
  simp [checked, h, p]

end Sys2Proof.Machine
end

