-- ==== Sys2Proof/Laws/Lane.lean ====
section
/-! SUPPORT. Lane instructions: masks, what a lane's write changes, and what a lane instruction without poison does. -/

namespace Sys2Proof.Machine

/-! Masks. -/

theorem mem_lanesOf (m : Mask) (l : Nat) : l ∈ lanesOf m ↔ l < 64 ∧ bit m l = true := by
  simp [lanesOf]

theorem nodup_lanesOf (m : Mask) : (lanesOf m).Nodup := List.nodup_range.sublist List.filter_sublist

/-- A sum of distinct powers of two below 2^n has the bits that were added. -/
theorem testBit_maskSum (f : Nat → Bool) (n l : Nat) :
    ((List.range n).foldl (fun acc k => if f k then acc + 2 ^ k else acc) 0) < 2 ^ n ∧
    ((List.range n).foldl (fun acc k => if f k then acc + 2 ^ k else acc) 0).testBit l = (decide (l < n) && f l) := by
  induction n with
  | zero => simp
  | succ n ih =>
    rw [List.range_succ, List.foldl_append]
    generalize (List.range n).foldl (fun acc k => if f k then acc + 2 ^ k else acc) 0 = x at ih
    obtain ⟨hx, hb⟩ := ih
    simp only [List.foldl_cons, List.foldl_nil]
    have h2 : 2 ^ (n + 1) = 2 ^ n + 2 ^ n := by rw [Nat.pow_succ]; omega
    by_cases hf : f n
    · simp only [hf, if_true]
      refine ⟨by omega, ?_⟩
      rw [Nat.add_comm x]
      by_cases hl : l = n
      · subst hl
        rw [Nat.testBit_two_pow_add_eq, Nat.testBit_lt_two_pow hx]
        simp [hf]
      · by_cases hlt : l < n
        · rw [Nat.testBit_two_pow_add_gt hlt, hb]
          simp [hlt, Nat.lt_succ_of_lt hlt]
        · rw [Nat.testBit_lt_two_pow (Nat.lt_of_lt_of_le (show 2 ^ n + x < 2 ^ (n + 1) by omega)
            (Nat.pow_le_pow_right (by omega) (by omega)))]
          simp [show ¬ l < n + 1 by omega]
    · simp only [hf, if_false, Bool.false_eq_true]
      refine ⟨by omega, ?_⟩
      rw [hb]
      by_cases hl : l = n
      · subst hl; simp [hf]
      · by_cases hlt : l < n
        · simp [hlt, Nat.lt_succ_of_lt hlt]
        · simp [hlt, show ¬ l < n + 1 by omega]

@[simp] theorem bit_maskOf (f : Nat → Bool) (l : Nat) : bit (maskOf f) l = (decide (l < 64) && f l) := by
  have h := testBit_maskSum f 64 l
  simp only [bit, maskOf, BitVec.getLsbD_ofNat]
  rw [h.2]
  by_cases hl : l < 64 <;> simp [hl]

@[simp] theorem bit_and (a b : Mask) (l : Nat) : bit (a &&& b) l = (bit a l && bit b l) := by simp [bit]
@[simp] theorem bit_or (a b : Mask) (l : Nat) : bit (a ||| b) l = (bit a l || bit b l) := by simp [bit]
@[simp] theorem bit_not (a : Mask) (l : Nat) : bit (~~~a) l = (decide (l < 64) && !bit a l) := by simp [bit]
@[simp] theorem bit_zero (l : Nat) : bit 0 l = false := by simp [bit]

theorem maskOf_eq_zero {f : Nat → Bool} (h : ∀ l < 64, f l = false) : maskOf f = 0 := by
  apply BitVec.eq_of_getLsbD_eq
  intro l hl
  have := bit_maskOf f l
  simp only [bit] at this
  rw [this]
  simp [h l hl]

/-! One lane's write. -/

theorem vkey_inj {k l n m : Nat} (h1 : l < 64) (h2 : m < 64) (h : vkey k l = vkey n m) : k = n ∧ l = m := by
  unfold vkey at h; omega

theorem Warp.v_setV (w : Warp) (n l : Nat) (x : W32) (p : Option Prov) : (w.setV n l x p).v n l = x := by
  simp [Warp.v, Warp.setV, Warp.markWindow]

theorem Warp.v_setV_ne (w : Warp) {n l k m : Nat} (x : W32) (p : Option Prov) (h : vkey k m ≠ vkey n l) :
    (w.setV n l x p).v k m = w.v k m := by
  simp [Warp.v, Warp.setV, Warp.markWindow, Table.get_set_ne _ h]

theorem Table.look_put_ne {β : Type} {n m : Nat} (h : m ≠ n) (v : β) (t : Table β) : Table.look (Table.put n v t) m = Table.look t m := by
  have e : ∀ t : Table β, ((Table.put n v t).map fun e => (e.1, some e.2)) =
      Table.put n (some v) (t.map fun e => (e.1, some e.2)) := by
    intro t
    induction t with
    | nil => rfl
    | cons e t ih =>
      obtain ⟨k, u⟩ := e
      simp only [Table.put, List.map]
      split
      · rfl
      · split
        · rfl
        · simp [ih]
  rw [Table.look, e, Table.get_put_ne _ h, Table.look]

theorem Table.look_drop_ne {β : Type} {n m : Nat} (h : m ≠ n) (t : Table β) : Table.look (Table.drop n t) m = Table.look t m := by
  have e : ((Table.drop n t).map fun e => (e.1, some e.2)) = Table.drop n (t.map fun e => (e.1, some e.2)) := by
    simp [Table.drop, List.filter_map, Function.comp_def]
  rw [Table.look, e, Table.get_drop_ne _ h, Table.look]

/-! A fold over lanes. -/

/-- Folding a step over distinct lanes: what lane `l` shows is what its own step makes of the start, when every other lane's
step leaves it alone. -/
theorem foldl_lane {α β : Type} (f : α → Nat → α) (g : α → Nat → β) (hne : ∀ x l m, m ≠ l → g (f x m) l = g x l)
    (hg : ∀ x y l, g x l = g y l → g (f x l) l = g (f y l) l) (ls : List Nat) (hd : ls.Nodup) (x : α) (l : Nat) :
    g (ls.foldl f x) l = if l ∈ ls then g (f x l) l else g x l := by
  induction ls generalizing x with
  | nil => simp
  | cons a ls ih =>
    have ha := (List.nodup_cons.1 hd).1
    have hd' := (List.nodup_cons.1 hd).2
    rw [List.foldl_cons, ih hd' (f x a)]
    by_cases hl : l = a
    · subst hl
      simp [ha]
    · by_cases hm : l ∈ ls
      · simp only [hm, if_true, List.mem_cons, or_true]
        exact hg _ _ _ (hne x l a (Ne.symm hl))
      · simp only [hm, if_false, List.mem_cons, hl, or_self]
        exact hne x l a (Ne.symm hl)

/-- Without paired issue, or with no mismatch to come, a comparison finds nothing and changes nothing (17 R398). -/
theorem State.pairTurn_none (s : State) (g : Nat) (h : (s.launchOf g).paired = false ∨ s.pairing = []) :
    s.pairTurn g = (⟨[], []⟩, s) := by
  unfold State.pairTurn
  rcases h with h | h
  · rw [h]; rfl
  · split
    · cases s; simp_all
    · rfl

theorem State.pairLanes_none (s : State) (g : Nat) (m : Mask) (h : (s.launchOf g).paired = false ∨ s.pairing = []) :
    s.pairLanes g m = ((0, none), s) := by
  have hm : (maskOf fun _ => false) = 0 := maskOf_eq_zero fun _ _ => rfl
  unfold State.pairLanes
  rw [s.pairTurn_none g h]
  simp [State.countPair, State.pairTag, hm]

/-- What a lane instruction does when no issued thread has poison to consume and no mismatch is to come: it writes every active
thread's result, from the warp as it stands at issue, and moves on (08 R203). -/
theorem laneOp_clean (len : Nat) (p : BitVec 3) (pneg : Bool) (poison : Warp → Nat → Option Prov) (f : Warp → Nat → Nat → LaneOut)
    (s : State) (g wn : Nat) (hc : s.cur = .warp g wn) (hp : (s.launchOf g).paired = false ∨ s.pairing = [])
    (h : ∀ l < 64, bit (s.warp g wn).issueMask l = true → (s.warp g wn).predPoison l [p.toNat] = none ∧
      (bit ((s.warp g wn).active p pneg) l = true → poison (s.warp g wn) l = none)) :
    laneOp len p pneg poison f s = .next ((s.setWarp g wn
      ((lanesOf ((s.warp g wn).issueMask &&& (s.warp g wn).active p pneg)).foldl
        (fun x t => x.putLane t (f (s.warp g wn) wn t)) (s.warp g wn))).advance len) := by
  have hblind : (maskOf fun t => bit (s.warp g wn).issueMask t && ((s.warp g wn).predPoison t [p.toNat]).isSome) = 0 :=
    maskOf_eq_zero fun l hl => by
      by_cases hb : bit (s.warp g wn).issueMask l = true
      · simp [(h l hl hb).1]
      · simp [hb]
  have hbad : (maskOf fun t => bit (s.warp g wn).issueMask t &&
      ((if bit ((s.warp g wn).active p pneg) t = true then poison (s.warp g wn) t else none)).isSome) = 0 :=
    maskOf_eq_zero fun l hl => by
      by_cases hb : bit (s.warp g wn).issueMask l = true
      · by_cases ha : bit ((s.warp g wn).active p pneg) l = true
        · simp [ha, (h l hl hb).2 ha]
        · simp [ha]
      · simp [hb]
  have hall : ∀ x : Mask, x &&& ~~~(0 : Mask) = x := by
    intro x
    rw [show ~~~(0 : Mask) = BitVec.allOnes 64 from rfl, BitVec.and_allOnes]
  unfold laneOp
  simp only [hc, hblind, bit_zero, Bool.false_eq_true, if_false]
  rw [hbad]
  simp only [hall, s.pairLanes_none g _ hp, State.finishLanes, beq_self_eq_true, if_true]

end Sys2Proof.Machine
end

