-- ==== Sys2Proof/Laws/Paging.lean ====
section
/-! SUPPORT. What a group of writes leaves, and when the paging engine has a frame for a page and for the tables above it. -/

namespace Sys2Proof.Machine

/-- A group of writes changes memory, poison and workgroups alone. -/
theorem State.performWrites_frame (s : State) (ws : List ByteWrite) :
    ∃ m p g, s.performWrites ws = { s with mem := m, poison := p, groups := g } := by
  let P (t : State) : Prop := ∃ m p g, t = { s with mem := m, poison := p, groups := g }
  have hw : ∀ (t : State) (l : Loc) (x : Byte), P t → P (t.writeByte l x) := by
    rintro _ l x ⟨m, p, g, rfl⟩
    unfold State.writeByte
    split <;> exact ⟨_, _, _, rfl⟩
  have hd : ∀ (t : State) (l : Loc), P t → P (t.markDirty l) := by
    intro t l ht
    unfold State.markDirty
    split
    · extract_lets n
      split
      · exact ht
      · obtain ⟨m, p, g, rfl⟩ := ht
        exact ⟨_, _, _, rfl⟩
    · exact ht
  have hp : ∀ (t : State) (l : Loc) (q : Option Prov), P t → P (t.setPoison l q) := by
    rintro _ l q ⟨m, p, g, rfl⟩
    unfold State.setPoison
    split <;> exact ⟨_, _, _, rfl⟩
  unfold State.performWrites
  refine foldl_keeps P _ ?_ _ _ (foldl_keeps P _ (fun t w h => hd _ _ (hw _ _ _ h)) _ _ ⟨_, _, _, rfl⟩)
  intro t l ht
  dsimp only
  split
  · exact ht
  · exact hp t l _ ht

/-- Writes from outside the cores change memory, poison, workgroups and ownership alone. -/
theorem State.performOutside_frame (s : State) (ws : List ByteWrite) :
    ∃ m p g o, s.performOutside ws = { s with mem := m, poison := p, groups := g, owners := o } := by
  unfold State.performOutside
  obtain ⟨m, p, g, e⟩ := State.performWrites_frame
    { s with owners := (hbmWords ws).foldl (fun t k => Table.drop k t) s.owners } ws
  exact ⟨m, p, g, _, e⟩

/-- With no line recorded as a table's, a table entry's store leaves the frames, the partition mode and that. -/
theorem State.writeEntry_frame (s : State) (slot : Nat) (w : Word) (h : s.tables = []) :
    (s.writeEntry slot w).frames = s.frames ∧ (s.writeEntry slot w).pf = s.pf ∧ (s.writeEntry slot w).tables = [] := by
  have ht : s.trackedLines (writesAt ⟨.hbm, slot⟩ (bytesOf w) none) = [] := by simp [State.trackedLines, h, Table.look, Table.get]
  unfold State.writeEntry State.engineStore State.retranslate
  rw [ht]
  obtain ⟨m, p, g, o, e⟩ := s.performOutside_frame (writesAt ⟨.hbm, slot⟩ (bytesOf w) none)
  rw [List.isEmpty_nil, if_pos rfl, e]
  exact ⟨rfl, rfl, h⟩

/-- The runs in use end by `B`, so that the frame after them is free. -/
theorem State.findRun_room (s : State) (part B : Nat) (hm : s.pf.partMode = false) (hB : B < 384 * 2 ^ 18)
    (h : ∀ e ∈ s.frames, e.1 + e.2.len ≤ B) : ∃ f ≤ B, s.findRun part 1 1 = some f := by
  have hr : ∀ n, roundUp n 1 = n := fun n => by simp [roundUp]
  have ends : ∀ l : List Nat, (∀ x ∈ l, x ≤ B) → ∃ m ≤ B, m ∈ (0 :: l) ∧ ∀ x ∈ l, x ≤ m := by
    intro l
    induction l with
    | nil => exact fun _ => ⟨0, Nat.zero_le _, by simp, by simp⟩
    | cons a l ih =>
      intro hl
      obtain ⟨m, hmB, hml, hmx⟩ := ih fun x hx => hl x (by simp [hx])
      rcases Nat.le_total a m with ha | ha
      · refine ⟨m, hmB, ?_, ?_⟩
        · simp only [List.mem_cons] at hml ⊢
          exact hml.elim .inl fun k => .inr (.inr k)
        · intro x hx
          rcases List.mem_cons.mp hx with rfl | hx
          · exact ha
          · exact hmx x hx
      · refine ⟨a, hl a (by simp), by simp, ?_⟩
        intro x hx
        rcases List.mem_cons.mp hx with rfl | hx
        · exact Nat.le_refl _
        · exact Nat.le_trans (hmx x hx) ha
  have best : ∀ (l : List Nat) (b : Option Nat), (∀ x ∈ l, x ≤ B) → (∀ x ∈ b, x ≤ B) → (b ≠ none ∨ l ≠ []) →
      ∃ f ≤ B, l.foldl (fun (b : Option Nat) f => match b with | some x => some (min x f) | none => some f) b = some f := by
    intro l
    induction l with
    | nil =>
      intro b _ hb hn
      cases b with
      | none => simp at hn
      | some x => exact ⟨x, hb x rfl, rfl⟩
    | cons a l ih =>
      intro b hl hb _
      refine ih _ (fun x hx => hl x (by simp [hx])) ?_ (.inl ?_)
      · intro x hx
        cases b with
        | none => cases hx; exact hl _ (by simp)
        | some y => cases hx; exact Nat.le_trans (Nat.min_le_left _ _) (hb y rfl)
      · cases b <;> simp
  obtain ⟨m, hmB, hml, hmx⟩ := ends (s.frames.map fun e => e.1 + e.2.len) fun x hx => by
    obtain ⟨e, he, rfl⟩ := List.mem_map.mp hx
    exact h e he
  have hlo : s.frameRange part = (0, 2 * (192 * 2 ^ 18)) := by simp [State.frameRange, hm]
  unfold State.findRun
  rw [hlo]
  refine best _ none ?_ (by simp) (.inr ?_)
  · intro x hx
    obtain ⟨hx, -⟩ := List.mem_filter.mp hx
    simp only [List.mem_map, List.mem_cons, hr] at hx
    obtain ⟨y, rfl | ⟨e, he, rfl⟩, rfl⟩ := hx
    · exact Nat.zero_le _
    · exact h e he
  · refine List.ne_nil_of_mem (a := m) (List.mem_filter.mpr ⟨?_, ?_⟩)
    · simp only [List.mem_map, hr]
      exact ⟨m, hml, rfl⟩
    · have hf : s.framesFree m 1 = true := by
        simp only [State.framesFree, List.all_eq_true, Bool.or_eq_true, decide_eq_true_eq]
        exact fun e he => .inl (hmx _ (List.mem_map.mpr ⟨e, he, rfl⟩))
      simp only [hf, Bool.and_true, Bool.and_eq_true, decide_eq_true_eq]
      omega

/-- Room for `k` more frames above `B`. -/
def State.room (s : State) (k : Nat) : Prop :=
  s.pf.partMode = false ∧ s.tables = [] ∧ ∃ B, B + k < 384 * 2 ^ 18 ∧ ∀ e ∈ s.frames, e.1 + e.2.len ≤ B

theorem mem_put {β : Type} (n : Nat) (v : β) (t : Table β) : ∀ e ∈ Table.put n v t, e = (n, v) ∨ e ∈ t := by
  induction t with
  | nil => simp [Table.put]
  | cons a t ih =>
    intro e he
    unfold Table.put at he
    split at he
    · simpa using he
    · split at he
      · rcases List.mem_cons.mp he with h | h
        · exact .inl h
        · exact .inr (by simp [h])
      · rcases List.mem_cons.mp he with rfl | h
        · exact .inr (by simp)
        · exact (ih e h).imp_right fun h => by simp [h]

/-- Taking a frame uses up one of the room. -/
theorem State.takeRun_room (s : State) (part k : Nat) (o : FrameOwner) (page : Nat) (h : s.room (k + 1)) :
    ∃ f u, s.takeRun part 1 1 o page = some (f, u) ∧ u.room k := by
  obtain ⟨hm, ht, B, hB, hf⟩ := h
  obtain ⟨f, hfB, e⟩ := s.findRun_room part B hm (by omega) hf
  refine ⟨f, { s with frames := Table.put f ⟨1, o, page⟩ s.frames }, by unfold State.takeRun; rw [e], hm, ht, B + 1, by omega, ?_⟩
  intro x hx
  rcases mem_put _ _ _ x hx with rfl | hx
  · exact Nat.add_le_add_right hfB 1
  · exact Nat.le_succ_of_le (hf x hx)

/-- Writing a leaf succeeds when there is room for a table at every level. -/
theorem State.putLeaf_room (vd target : Nat) (leaf : Word) (pa : Nat) (ht : 1 ≤ target) (lvl table : Nat) (s : State)
    (h : s.room lvl) (hl : 1 ≤ lvl) : (s.putLeaf vd target leaf pa lvl table).isSome = true := by
  have entry : ∀ (t : State) (k slot : Nat) (w : Word), t.room k → (t.writeEntry slot w).room k := by
    rintro t k slot w ⟨a, b, c⟩
    obtain ⟨x, y, z⟩ := t.writeEntry_frame slot w b
    exact ⟨by rw [y]; exact a, z, by rw [x]; exact c⟩
  have less : ∀ (t : State) (k : Nat), t.room (k + 1) → t.room k := by
    rintro t k ⟨a, b, B, c, d⟩
    exact ⟨a, b, B, by omega, d⟩
  induction lvl generalizing table s with
  | zero => omega
  | succ lvl ih =>
    unfold State.putLeaf
    extract_lets slot e
    split
    · rfl
    · next hlt =>
      have h1 : 1 ≤ lvl := by omega
      split
      · exact ih _ _ (less s lvl h) h1
      · obtain ⟨f, u, hu, hr⟩ := s.takeRun_room (s.hardPart vd) lvl (.outside vd) 0 h
        rw [hu]
        refine ih _ _ (entry _ _ _ _ ?_) h1
        split
        · exact foldl_keeps (fun t : State => t.room lvl) _ (fun t i ht => entry t lvl _ _ ht) _ _ hr
        · exact hr

/-- The engine brings in a page of a VD below its quota when there is room for the page and for its tables. -/
theorem State.bringIn_room (s : State) (vd page : Nat) (hq : s.framesOf (.vd vd) < (s.vd vd).hbmQuota * 512) (h : s.room 6) :
    s.bringIn vd page ≠ none := by
  obtain ⟨f, u, hu, hr⟩ := s.takeRun_room (s.hardPart vd) 5 (.vd vd) page h
  have hn : decide ((s.vd vd).hbmQuota * 512 ≤ s.framesOf (.vd vd)) = false := by simpa using hq
  unfold State.bringIn
  extract_lets v full
  rw [show full = false from hn]
  simp only [Bool.false_eq_true, if_false, hu]
  refine Option.isSome_iff_ne_none.mp (State.putLeaf_room vd 1 _ _ (Nat.le_refl 1) 5 _ _ ?_ (by omega))
  obtain ⟨m, p, g, o, e⟩ := u.performOutside_frame (u.pageWrites ⟨.host, v.backing.toNat + 4096 * page⟩ ⟨.hbm, 4096 * f⟩)
  rw [e]
  exact hr

end Sys2Proof.Machine
end

