-- ==== Sys2Proof/Tests/Slice0.lean ====
section
/-! SUPPORT. Tests: words written out from the spec's encodings, ill-formed instructions that the checks refuse, and for every
statement with hypotheses a state that meets them together. -/

set_option maxRecDepth 100000

open Sys2Proof Sys2Proof.Machine Sys2Proof.Claims

namespace Sys2Proof.Tests

set_option Elab.async false

/-- Words of class SYS written from R158, R159 and R166, and from the spec's examples where it gives one. -/
theorem test_decode_sys : [0x103, 0x203, 0x303, 0x2fbbc0403, 0x503, 0x140603, 0x3f0c2040703, 0xc140803, 0x903, 0xa03, 0x40000c0b03, 0x3108000c03].map (decodeTableWord 64) =
    [some .nop,
     some .exit,
     some .yield,
     some (.trap 0xBEEF),
     some .tret,
     some (.prio 5),
     some (.wait ⟨1, 2, 3, 63⟩),
     some (.launch 5 6),
     some .halt,
     some .wfi,
     some (.srd 3 0x40),
     some (.swr 4 0x31)] := by decide +kernel

theorem test_encode_sys : [.nop,
     .exit,
     .yield,
     .trap 0xBEEF,
     .tret,
     .prio 5,
     .wait ⟨1, 2, 3, 63⟩,
     .launch 5 6,
     .halt,
     .wfi,
     .srd 3 0x40,
     .swr 4 0x31].map encode =
    [0x103, 0x203, 0x303, 0x2fbbc0403, 0x503, 0x140603, 0x3f0c2040703, 0xc140803, 0x903, 0xa03, 0x40000c0b03, 0x3108000c03].map (fun w => some (8, BitVec.ofNat 64 w)) := by decide +kernel

/-- Words of class SALU written from R158, R159 and R166, and from the spec's examples where it gives one. -/
theorem test_decode_salu0 : [0x40be140007, 0x40be140107, 0x40be140207, 0x40be140307, 0x40be140407, 0x40be140507, 0x40be140607, 0x40be140707, 0x40be140807, 0x40be140907, 0x40be140a07, 0x40be140b07, 0x40be140c07, 0x40be140d07, 0x40be140e07, 0x40be140f07].map (decodeTableWord 64) =
    [some (.sadd ⟨5, 95, 64, 0, 0⟩),
     some (.ssub ⟨5, 95, 64, 0, 0⟩),
     some (.smul ⟨5, 95, 64, 0, 0⟩),
     some (.smulhS ⟨5, 95, 64, 0, 0⟩),
     some (.smulhN ⟨5, 95, 64, 0, 0⟩),
     some (.sdivS ⟨5, 95, 64, 0, 0⟩),
     some (.sdivN ⟨5, 95, 64, 0, 0⟩),
     some (.sremS ⟨5, 95, 64, 0, 0⟩),
     some (.sremN ⟨5, 95, 64, 0, 0⟩),
     some (.sand ⟨5, 95, 64, 0, 0⟩),
     some (.sor ⟨5, 95, 64, 0, 0⟩),
     some (.sxor ⟨5, 95, 64, 0, 0⟩),
     some (.sandn ⟨5, 95, 64, 0, 0⟩),
     some (.sshl ⟨5, 95, 64, 0, 0⟩),
     some (.sshrS ⟨5, 95, 64, 0, 0⟩),
     some (.sshrN ⟨5, 95, 64, 0, 0⟩)] := by decide +kernel

theorem test_encode_salu0 : [.sadd ⟨5, 95, 64, 0, 0⟩,
     .ssub ⟨5, 95, 64, 0, 0⟩,
     .smul ⟨5, 95, 64, 0, 0⟩,
     .smulhS ⟨5, 95, 64, 0, 0⟩,
     .smulhN ⟨5, 95, 64, 0, 0⟩,
     .sdivS ⟨5, 95, 64, 0, 0⟩,
     .sdivN ⟨5, 95, 64, 0, 0⟩,
     .sremS ⟨5, 95, 64, 0, 0⟩,
     .sremN ⟨5, 95, 64, 0, 0⟩,
     .sand ⟨5, 95, 64, 0, 0⟩,
     .sor ⟨5, 95, 64, 0, 0⟩,
     .sxor ⟨5, 95, 64, 0, 0⟩,
     .sandn ⟨5, 95, 64, 0, 0⟩,
     .sshl ⟨5, 95, 64, 0, 0⟩,
     .sshrS ⟨5, 95, 64, 0, 0⟩,
     .sshrN ⟨5, 95, 64, 0, 0⟩].map encode =
    [0x40be140007, 0x40be140107, 0x40be140207, 0x40be140307, 0x40be140407, 0x40be140507, 0x40be140607, 0x40be140707, 0x40be140807, 0x40be140907, 0x40be140a07, 0x40be140b07, 0x40be140c07, 0x40be140d07, 0x40be140e07, 0x40be140f07].map (fun w => some (8, BitVec.ofNat 64 w)) := by decide +kernel

/-- Words of class SALU written from R158, R159 and R166, and from the spec's examples where it gives one. -/
theorem test_decode_salu1 : [0x40be141007, 0x40be141107, 0x40be141207, 0x40be141307, 0x40be141407, 0xbe141507, 0xbe141607, 0xbe141707, 0xbe141807, 0x250c0be141907, 0x18040be141a07, 0x14000be141b07, 0xbe141c07, 0x50c0be141d07, 0x10c0be141e07, 0x509101c1f07].map (decodeTableWord 64) =
    [some (.srotr ⟨5, 95, 64, 0, 0⟩),
     some (.sminS ⟨5, 95, 64, 0, 0⟩),
     some (.sminN ⟨5, 95, 64, 0, 0⟩),
     some (.smaxS ⟨5, 95, 64, 0, 0⟩),
     some (.smaxN ⟨5, 95, 64, 0, 0⟩),
     some (.sclz ⟨5, 95, 0, 0, 0⟩),
     some (.sffs ⟨5, 95, 0, 0, 0⟩),
     some (.spopc ⟨5, 95, 0, 0, 0⟩),
     some (.sbrev ⟨5, 95, 0, 0, 0⟩),
     some (.ssel ⟨5, 95, 64, 33, 9⟩),
     some (.scmp ⟨5, 95, 64, 0, 6⟩),
     some (.sext ⟨5, 95, 0, 0, 5⟩),
     some (.smov ⟨5, 95, 0, 0, 0⟩),
     some (.sbfx ⟨5, 95, 64, 33, 1⟩),
     some (.sbfi ⟨5, 95, 64, 33, 0⟩),
     some (.smad ⟨7, 8, 9, 10, 0⟩)] := by decide +kernel

theorem test_encode_salu1 : [.srotr ⟨5, 95, 64, 0, 0⟩,
     .sminS ⟨5, 95, 64, 0, 0⟩,
     .sminN ⟨5, 95, 64, 0, 0⟩,
     .smaxS ⟨5, 95, 64, 0, 0⟩,
     .smaxN ⟨5, 95, 64, 0, 0⟩,
     .sclz ⟨5, 95, 0, 0, 0⟩,
     .sffs ⟨5, 95, 0, 0, 0⟩,
     .spopc ⟨5, 95, 0, 0, 0⟩,
     .sbrev ⟨5, 95, 0, 0, 0⟩,
     .ssel ⟨5, 95, 64, 33, 9⟩,
     .scmp ⟨5, 95, 64, 0, 6⟩,
     .sext ⟨5, 95, 0, 0, 5⟩,
     .smov ⟨5, 95, 0, 0, 0⟩,
     .sbfx ⟨5, 95, 64, 33, 1⟩,
     .sbfi ⟨5, 95, 64, 33, 0⟩,
     .smad ⟨7, 8, 9, 10, 0⟩].map encode =
    [0x40be141007, 0x40be141107, 0x40be141207, 0x40be141307, 0x40be141407, 0xbe141507, 0xbe141607, 0xbe141707, 0xbe141807, 0x250c0be141907, 0x18040be141a07, 0x14000be141b07, 0xbe141c07, 0x50c0be141d07, 0x10c0be141e07, 0x509101c1f07].map (fun w => some (8, BitVec.ofNat 64 w)) := by decide +kernel

/-- Words of class SALUI written from R158, R159 and R166, and from the spec's examples where it gives one. -/
theorem test_decode_salui : [0x800000010208300b, 0x800000010208310b, 0x800000010208320b, 0x800000010208330b, 0x3f0208340b, 0x3f0208350b, 0x3f0208360b, 0xffff80000005e70b, 0x800000010208380b, 0xfffffffd0828490b].map (decodeTableWord 64) =
    [some (.saddi ⟨3, 65, 0, 0x80000001⟩),
     some (.sandi ⟨3, 65, 0, 0x80000001⟩),
     some (.sori ⟨3, 65, 0, 0x80000001⟩),
     some (.sxori ⟨3, 65, 0, 0x80000001⟩),
     some (.sshli ⟨3, 65, 0, 63⟩),
     some (.sshriS ⟨3, 65, 0, 63⟩),
     some (.sshriN ⟨3, 65, 0, 63⟩),
     some (.sli ⟨94, 0, 0, 0xffff8000⟩),
     some (.slih ⟨3, 65, 0, 0x80000001⟩),
     some (.scmpi ⟨4, 5, 2, 0xfffffffd⟩)] := by decide +kernel

theorem test_encode_salui : [.saddi ⟨3, 65, 0, 0x80000001⟩,
     .sandi ⟨3, 65, 0, 0x80000001⟩,
     .sori ⟨3, 65, 0, 0x80000001⟩,
     .sxori ⟨3, 65, 0, 0x80000001⟩,
     .sshli ⟨3, 65, 0, 63⟩,
     .sshriS ⟨3, 65, 0, 63⟩,
     .sshriN ⟨3, 65, 0, 63⟩,
     .sli ⟨94, 0, 0, 0xffff8000⟩,
     .slih ⟨3, 65, 0, 0x80000001⟩,
     .scmpi ⟨4, 5, 2, 0xfffffffd⟩].map encode =
    [0x800000010208300b, 0x800000010208310b, 0x800000010208320b, 0x800000010208330b, 0x3f0208340b, 0x3f0208350b, 0x3f0208360b, 0xffff80000005e70b, 0x800000010208380b, 0xfffffffd0828490b].map (fun w => some (8, BitVec.ofNat 64 w)) := by decide +kernel

/-- Words of class SCTL written from R158, R159 and R166, and from the spec's examples where it gives one. -/
theorem test_decode_sctl : [0xfffffff00000000f, 0x50004610f, 0x7fffffff0004720f, 0x91410130f, 0x800000000005e40f, 0x950f, 0x2f0960f, 0x5e70f, 0x80c00080f, 0xfffffffe0000290f].map (decodeTableWord 64) =
    [some (.br ⟨0, 0, 0, false, 0xfffffff0⟩),
     some (.brz ⟨70, 0, 0, false, 5⟩),
     some (.brnz ⟨71, 0, 0, false, 0x7fffffff⟩),
     some (.brc ⟨1, 2, 5, false, 9⟩),
     some (.call ⟨94, 0, 0, false, 0x80000000⟩),
     some (.jmpr ⟨9, 0, 0, false, 0⟩),
     some (.callr ⟨9, 94, 0, false, 0⟩),
     some (.ret ⟨94, 0, 0, false, 0⟩),
     some (.brp ⟨0, 0, 3, false, 8⟩),
     some (.loop ⟨2, 0, 0, false, 0xfffffffe⟩)] := by decide +kernel

theorem test_encode_sctl : [.br ⟨0, 0, 0, false, 0xfffffff0⟩,
     .brz ⟨70, 0, 0, false, 5⟩,
     .brnz ⟨71, 0, 0, false, 0x7fffffff⟩,
     .brc ⟨1, 2, 5, false, 9⟩,
     .call ⟨94, 0, 0, false, 0x80000000⟩,
     .jmpr ⟨9, 0, 0, false, 0⟩,
     .callr ⟨9, 94, 0, false, 0⟩,
     .ret ⟨94, 0, 0, false, 0⟩,
     .brp ⟨0, 0, 3, false, 8⟩,
     .loop ⟨2, 0, 0, false, 0xfffffffe⟩].map encode =
    [0xfffffff00000000f, 0x50004610f, 0x7fffffff0004720f, 0x91410130f, 0x800000000005e40f, 0x950f, 0x2f0960f, 0x5e70f, 0x80c00080f, 0xfffffffe0000290f].map (fun w => some (8, BitVec.ofNat 64 w)) := by decide +kernel

/-- Words of class SMEM written from R158, R159 and R166, and from the spec's examples where it gives one. -/
theorem test_decode_smem : [0xfffffffc58407013, 0x1024407113, 0x244880e180213].map (decodeTableWord 64) =
    [some (.sld ⟨7, 8, 22, 0xfffffffc⟩),
     some (.sst ⟨7, 8, 9, 16⟩),
     some (.satom ⟨6, 7, 8, 9, 9⟩)] := by decide +kernel

theorem test_encode_smem : [.sld ⟨7, 8, 22, 0xfffffffc⟩,
     .sst ⟨7, 8, 9, 16⟩,
     .satom ⟨6, 7, 8, 9, 9⟩].map encode =
    [0xfffffffc58407013, 0x1024407113, 0x244880e180213].map (fun w => some (8, BitVec.ofNat 64 w)) := by decide +kernel

/-- Words of class VINT written from R158, R159 and R166, and from the spec's examples where it gives one. -/
theorem test_decode_vint0 : [0x241830001c0023, 0x78a0a000740123, 0x78a0a001740223, 0x78a0a001b40323, 0x5278a0a000740423, 0x78a0a002340523, 0x78a0a003340623, 0x78a0a003740723, 0x78a0a000340823, 0x78a0a000740923, 0x78a0a003340a23, 0x78a0a003740b23, 0x78a0a000340c23, 0x78a0a000740d23, 0xb0c003580e23, 0x78a0a003740f23].map (decodeTableWord 64) =
    [some (.vadd ⟨7, false, .s32, .rne, false, 0, 3, 3, 9, 0⟩),
     some (.vsub ⟨5, true, .n32, .rne, false, 0, 10, 20, 30, 0⟩),
     some (.vmul ⟨5, true, .s16x2, .rne, false, 0, 10, 20, 30, 0⟩),
     some (.vmulh ⟨5, true, .n16x2, .rne, false, 0, 10, 20, 30, 0⟩),
     some (.vmad ⟨5, true, .n32, .rne, false, 0, 10, 20, 30, 41⟩),
     some (.vadds ⟨5, true, .n8x4, .rne, false, 0, 10, 20, 30, 0⟩),
     some (.vsubs ⟨5, true, .s64, .rne, false, 0, 10, 20, 30, 0⟩),
     some (.vabsd ⟨5, true, .n64, .rne, false, 0, 10, 20, 30, 0⟩),
     some (.vmin ⟨5, true, .s32, .rne, false, 0, 10, 20, 30, 0⟩),
     some (.vmax ⟨5, true, .n32, .rne, false, 0, 10, 20, 30, 0⟩),
     some (.vand ⟨5, true, .s64, .rne, false, 0, 10, 20, 30, 0⟩),
     some (.vor ⟨5, true, .n64, .rne, false, 0, 10, 20, 30, 0⟩),
     some (.vxor ⟨5, true, .s32, .rne, false, 0, 10, 20, 30, 0⟩),
     some (.vandn ⟨5, true, .n32, .rne, false, 0, 10, 20, 30, 0⟩),
     some (.vnot ⟨6, false, .n64, .rne, false, 0, 12, 22, 0, 0⟩),
     some (.vshl ⟨5, true, .n64, .rne, false, 0, 10, 20, 30, 0⟩)] := by decide +kernel

theorem test_encode_vint0 : [.vadd ⟨7, false, .s32, .rne, false, 0, 3, 3, 9, 0⟩,
     .vsub ⟨5, true, .n32, .rne, false, 0, 10, 20, 30, 0⟩,
     .vmul ⟨5, true, .s16x2, .rne, false, 0, 10, 20, 30, 0⟩,
     .vmulh ⟨5, true, .n16x2, .rne, false, 0, 10, 20, 30, 0⟩,
     .vmad ⟨5, true, .n32, .rne, false, 0, 10, 20, 30, 41⟩,
     .vadds ⟨5, true, .n8x4, .rne, false, 0, 10, 20, 30, 0⟩,
     .vsubs ⟨5, true, .s64, .rne, false, 0, 10, 20, 30, 0⟩,
     .vabsd ⟨5, true, .n64, .rne, false, 0, 10, 20, 30, 0⟩,
     .vmin ⟨5, true, .s32, .rne, false, 0, 10, 20, 30, 0⟩,
     .vmax ⟨5, true, .n32, .rne, false, 0, 10, 20, 30, 0⟩,
     .vand ⟨5, true, .s64, .rne, false, 0, 10, 20, 30, 0⟩,
     .vor ⟨5, true, .n64, .rne, false, 0, 10, 20, 30, 0⟩,
     .vxor ⟨5, true, .s32, .rne, false, 0, 10, 20, 30, 0⟩,
     .vandn ⟨5, true, .n32, .rne, false, 0, 10, 20, 30, 0⟩,
     .vnot ⟨6, false, .n64, .rne, false, 0, 12, 22, 0, 0⟩,
     .vshl ⟨5, true, .n64, .rne, false, 0, 10, 20, 30, 0⟩].map encode =
    [0x241830001c0023, 0x78a0a000740123, 0x78a0a001740223, 0x78a0a001b40323, 0x5278a0a000740423, 0x78a0a002340523, 0x78a0a003340623, 0x78a0a003740723, 0x78a0a000340823, 0x78a0a000740923, 0x78a0a003340a23, 0x78a0a003740b23, 0x78a0a000340c23, 0x78a0a000740d23, 0xb0c003580e23, 0x78a0a003740f23].map (fun w => some (8, BitVec.ofNat 64 w)) := by decide +kernel

/-- Words of class VINT written from R158, R159 and R166, and from the spec's examples where it gives one. -/
theorem test_decode_vint1 : [0x78a0a000341023, 0x78a0a000741123, 0xb0c001d81223, 0xb0c002181323, 0xb0c001981423, 0xb0c001981523, 0x78a0a0c3341623, 0x78a04080741723, 0x5278a0a000741823, 0x5278a0a000741923, 0x5278a0a000341a23, 0xb0c003181b23, 0x10401c1c23].map (decodeTableWord 64) =
    [some (.vshr ⟨5, true, .s32, .rne, false, 0, 10, 20, 30, 0⟩),
     some (.vrotr ⟨5, true, .n32, .rne, false, 0, 10, 20, 30, 0⟩),
     some (.vclz ⟨6, false, .s8x4, .rne, false, 0, 12, 22, 0, 0⟩),
     some (.vffs ⟨6, false, .n8x4, .rne, false, 0, 12, 22, 0, 0⟩),
     some (.vpopc ⟨6, false, .n16x2, .rne, false, 0, 12, 22, 0, 0⟩),
     some (.vbrev ⟨6, false, .n16x2, .rne, false, 0, 12, 22, 0, 0⟩),
     some (.vsel ⟨5, true, .s64, .rne, false, 3, 10, 20, 30, 0⟩),
     some (.vcmp ⟨5, true, .n32, .rne, false, 2, 4, 20, 30, 0⟩),
     some (.vaddmin ⟨5, true, .n32, .rne, false, 0, 10, 20, 30, 41⟩),
     some (.vbfx ⟨5, true, .n32, .rne, false, 0, 10, 20, 30, 41⟩),
     some (.vbfi ⟨5, true, .s32, .rne, false, 0, 10, 20, 30, 41⟩),
     some (.vmov ⟨6, false, .s64, .rne, false, 0, 12, 22, 0, 0⟩),
     some (.vsrd ⟨7, false, .s32, .rne, false, 1, 1, 0, 0, 0⟩)] := by decide +kernel

theorem test_encode_vint1 : [.vshr ⟨5, true, .s32, .rne, false, 0, 10, 20, 30, 0⟩,
     .vrotr ⟨5, true, .n32, .rne, false, 0, 10, 20, 30, 0⟩,
     .vclz ⟨6, false, .s8x4, .rne, false, 0, 12, 22, 0, 0⟩,
     .vffs ⟨6, false, .n8x4, .rne, false, 0, 12, 22, 0, 0⟩,
     .vpopc ⟨6, false, .n16x2, .rne, false, 0, 12, 22, 0, 0⟩,
     .vbrev ⟨6, false, .n16x2, .rne, false, 0, 12, 22, 0, 0⟩,
     .vsel ⟨5, true, .s64, .rne, false, 3, 10, 20, 30, 0⟩,
     .vcmp ⟨5, true, .n32, .rne, false, 2, 4, 20, 30, 0⟩,
     .vaddmin ⟨5, true, .n32, .rne, false, 0, 10, 20, 30, 41⟩,
     .vbfx ⟨5, true, .n32, .rne, false, 0, 10, 20, 30, 41⟩,
     .vbfi ⟨5, true, .s32, .rne, false, 0, 10, 20, 30, 41⟩,
     .vmov ⟨6, false, .s64, .rne, false, 0, 12, 22, 0, 0⟩,
     .vsrd ⟨7, false, .s32, .rne, false, 1, 1, 0, 0, 0⟩].map encode =
    [0x78a0a000341023, 0x78a0a000741123, 0xb0c001d81223, 0xb0c002181323, 0xb0c001981423, 0xb0c001981523, 0x78a0a0c3341623, 0x78a04080741723, 0x5278a0a000741823, 0x5278a0a000741923, 0x5278a0a000341a23, 0xb0c003181b23, 0x10401c1c23].map (fun w => some (8, BitVec.ofNat 64 w)) := by decide +kernel

/-- Words of class VINTI written from R158, R159 and R166, and from the spec's examples where it gives one. -/
theorem test_decode_vinti : [0xfffffffe44099027, 0xfffffffe44099127, 0xfffffffe44099227, 0xfffffffe44099327, 0x1f44099427, 0x1f44099527, 0xfffffffe44099627, 0xfffffffe44099727, 0x544231827, 0xdeadbeef80091927, 0xfffffffe44099a27].map (decodeTableWord 64) =
    [some (.vintiVadd ⟨1, true, 9, 8, 1, 0xfffffffe⟩),
     some (.vintiVand ⟨1, true, 9, 8, 1, 0xfffffffe⟩),
     some (.vintiVor ⟨1, true, 9, 8, 1, 0xfffffffe⟩),
     some (.vintiVxor ⟨1, true, 9, 8, 1, 0xfffffffe⟩),
     some (.vintiVshl ⟨1, true, 9, 8, 1, 31⟩),
     some (.vintiVshr ⟨1, true, 9, 8, 1, 31⟩),
     some (.vintiVmin ⟨1, true, 9, 8, 1, 0xfffffffe⟩),
     some (.vintiVmax ⟨1, true, 9, 8, 1, 0xfffffffe⟩),
     some (.vintiVcmp ⟨1, false, 35, 8, 1, 5⟩),
     some (.vmovi ⟨1, false, 9, 0, 2, 0xdeadbeef⟩),
     some (.vintiVaddmin ⟨1, true, 9, 8, 1, 0xfffffffe⟩)] := by decide +kernel

theorem test_encode_vinti : [.vintiVadd ⟨1, true, 9, 8, 1, 0xfffffffe⟩,
     .vintiVand ⟨1, true, 9, 8, 1, 0xfffffffe⟩,
     .vintiVor ⟨1, true, 9, 8, 1, 0xfffffffe⟩,
     .vintiVxor ⟨1, true, 9, 8, 1, 0xfffffffe⟩,
     .vintiVshl ⟨1, true, 9, 8, 1, 31⟩,
     .vintiVshr ⟨1, true, 9, 8, 1, 31⟩,
     .vintiVmin ⟨1, true, 9, 8, 1, 0xfffffffe⟩,
     .vintiVmax ⟨1, true, 9, 8, 1, 0xfffffffe⟩,
     .vintiVcmp ⟨1, false, 35, 8, 1, 5⟩,
     .vmovi ⟨1, false, 9, 0, 2, 0xdeadbeef⟩,
     .vintiVaddmin ⟨1, true, 9, 8, 1, 0xfffffffe⟩].map encode =
    [0xfffffffe44099027, 0xfffffffe44099127, 0xfffffffe44099227, 0xfffffffe44099327, 0x1f44099427, 0x1f44099527, 0xfffffffe44099627, 0xfffffffe44099727, 0x544231827, 0xdeadbeef80091927, 0xfffffffe44099a27].map (fun w => some (8, BitVec.ofNat 64 w)) := by decide +kernel

/-- Words of class VFLT written from R158, R159 and R166, and from the spec's examples where it gives one. -/
theorem test_decode_vflt : [0x78a0a028b4002b, 0x78a0a028b4012b, 0x78a0a028b4022b, 0x1a3058a00ca8032b, 0x5278a0a01134042b, 0x78a0a000f4052b, 0x78a0a002f4062b, 0xb0c00118072b, 0xb0c00098082b, 0x78a031c0b4092b, 0xb0c002d80a2b, 0x78a0a028b40b2b, 0xb0c00c980c2b, 0x78a0a028b40d2b, 0x5278a0a004f40e2b].map (decodeTableWord 64) =
    [some (.fadd ⟨5, true, .f32, .rdn, true, 0, 10, 20, 30, 0⟩),
     some (.fsub ⟨5, true, .f32, .rdn, true, 0, 10, 20, 30, 0⟩),
     some (.fmul ⟨5, true, .f32, .rdn, true, 0, 10, 20, 30, 0⟩),
     some (.ffma ⟨2, true, .f32, .rup, false, 0, 10, 11, 12, 13⟩),
     some (.ffms ⟨5, true, .f16x2, .rsr, false, 0, 10, 20, 30, 41⟩),
     some (.fmin ⟨5, true, .bf16x2, .rne, false, 0, 10, 20, 30, 0⟩),
     some (.fmax ⟨5, true, .f64, .rne, false, 0, 10, 20, 30, 0⟩),
     some (.fabs ⟨6, false, .f16x2, .rne, false, 0, 12, 22, 0, 0⟩),
     some (.fneg ⟨6, false, .f32, .rne, false, 0, 12, 22, 0, 0⟩),
     some (.fcmp ⟨5, true, .f32, .rne, false, 7, 3, 20, 30, 0⟩),
     some (.fclass ⟨6, false, .f64, .rne, false, 0, 12, 22, 0, 0⟩),
     some (.fscaleb ⟨5, true, .f32, .rdn, true, 0, 10, 20, 30, 0⟩),
     some (.frnd ⟨6, false, .f32, .rup, false, 0, 12, 22, 0, 0⟩),
     some (.fdiv ⟨5, true, .f32, .rdn, true, 0, 10, 20, 30, 0⟩),
     some (.faddmin ⟨5, true, .bf16x2, .rtz, false, 0, 10, 20, 30, 41⟩)] := by decide +kernel

theorem test_encode_vflt : [.fadd ⟨5, true, .f32, .rdn, true, 0, 10, 20, 30, 0⟩,
     .fsub ⟨5, true, .f32, .rdn, true, 0, 10, 20, 30, 0⟩,
     .fmul ⟨5, true, .f32, .rdn, true, 0, 10, 20, 30, 0⟩,
     .ffma ⟨2, true, .f32, .rup, false, 0, 10, 11, 12, 13⟩,
     .ffms ⟨5, true, .f16x2, .rsr, false, 0, 10, 20, 30, 41⟩,
     .fmin ⟨5, true, .bf16x2, .rne, false, 0, 10, 20, 30, 0⟩,
     .fmax ⟨5, true, .f64, .rne, false, 0, 10, 20, 30, 0⟩,
     .fabs ⟨6, false, .f16x2, .rne, false, 0, 12, 22, 0, 0⟩,
     .fneg ⟨6, false, .f32, .rne, false, 0, 12, 22, 0, 0⟩,
     .fcmp ⟨5, true, .f32, .rne, false, 7, 3, 20, 30, 0⟩,
     .fclass ⟨6, false, .f64, .rne, false, 0, 12, 22, 0, 0⟩,
     .fscaleb ⟨5, true, .f32, .rdn, true, 0, 10, 20, 30, 0⟩,
     .frnd ⟨6, false, .f32, .rup, false, 0, 12, 22, 0, 0⟩,
     .fdiv ⟨5, true, .f32, .rdn, true, 0, 10, 20, 30, 0⟩,
     .faddmin ⟨5, true, .bf16x2, .rtz, false, 0, 10, 20, 30, 41⟩].map encode =
    [0x78a0a028b4002b, 0x78a0a028b4012b, 0x78a0a028b4022b, 0x1a3058a00ca8032b, 0x5278a0a01134042b, 0x78a0a000f4052b, 0x78a0a002f4062b, 0xb0c00118072b, 0xb0c00098082b, 0x78a031c0b4092b, 0xb0c002d80a2b, 0x78a0a028b40b2b, 0xb0c00c980c2b, 0x78a0a028b40d2b, 0x5278a0a004f40e2b].map (fun w => some (8, BitVec.ofNat 64 w)) := by decide +kernel

/-- Words of class VCVT written from R158, R159 and R166, and from the spec's examples where it gives one. -/
theorem test_decode_vcvt : [0xb0c3a498002f, 0x78a0a0b0f4012f, 0x580ca0a240b4022f, 0xb0c48098032f].map (decodeTableWord 64) =
    [some (.cvt ⟨6, false, .f32, .rtz, true, 14, 12, 22, 0, 0⟩),
     some (.pack ⟨5, true, .bf16x2, .rsr, true, 2, 10, 20, 30, 0⟩),
     some (.unpack ⟨5, true, .f32, .rne, false, 9, 10, 20, 3, 44⟩),
     some (.mxscale ⟨6, false, .f32, .rne, false, 18, 12, 22, 0, 0⟩)] := by decide +kernel

theorem test_encode_vcvt : [.cvt ⟨6, false, .f32, .rtz, true, 14, 12, 22, 0, 0⟩,
     .pack ⟨5, true, .bf16x2, .rsr, true, 2, 10, 20, 30, 0⟩,
     .unpack ⟨5, true, .f32, .rne, false, 9, 10, 20, 3, 44⟩,
     .mxscale ⟨6, false, .f32, .rne, false, 18, 12, 22, 0, 0⟩].map encode =
    [0xb0c3a498002f, 0x78a0a0b0f4012f, 0x580ca0a240b4022f, 0xb0c48098032f].map (fun w => some (8, BitVec.ofNat 64 w)) := by decide +kernel

/-- Words of class VXL written from R158, R159 and R166, and from the spec's examples where it gives one. -/
theorem test_decode_vxl : [0x78a0a003340033, 0x1840401c0133, 0x1c3058001c0233, 0xb0c840180333, 0xfca0a000340433, 0x1040409c0533, 0x1030001c0633, 0xb0c080180733, 0xb0c0c3180833, 0x1a8000080933, 0x184040080a33, 0xb0c003180b33].map (decodeTableWord 64) =
    [some (.vshfl ⟨5, true, .s64, .rne, false, 0, 10, 20, 30, 0⟩),
     some (.vshup ⟨7, false, .s32, .rne, false, 1, 4, 3, 0, 0⟩),
     some (.vshdn ⟨7, false, .s32, .rne, false, 32, 5, 6, 7, 0⟩),
     some (.vrotw ⟨6, false, .s32, .rne, false, 33, 12, 22, 0, 0⟩),
     some (.vbcast ⟨5, true, .s32, .rne, false, 0, 10, 20, 63, 0⟩),
     some (.vreduce ⟨7, false, .f32, .rne, false, 1, 4, 2, 0, 0⟩),
     some (.vscan ⟨7, false, .s32, .rne, false, 0, 3, 2, 0, 0⟩),
     some (.qswap ⟨6, false, .s32, .rne, false, 2, 12, 22, 0, 0⟩),
     some (.qbcast ⟨6, false, .s64, .rne, false, 3, 12, 22, 0, 0⟩),
     some (.vballot ⟨2, false, .s32, .rne, false, 0, 40, 3, 0, 0⟩),
     some (.vvote ⟨2, false, .s32, .rne, false, 1, 4, 3, 0, 0⟩),
     some (.vmatch ⟨6, false, .s64, .rne, false, 0, 12, 22, 0, 0⟩)] := by decide +kernel

theorem test_encode_vxl : [.vshfl ⟨5, true, .s64, .rne, false, 0, 10, 20, 30, 0⟩,
     .vshup ⟨7, false, .s32, .rne, false, 1, 4, 3, 0, 0⟩,
     .vshdn ⟨7, false, .s32, .rne, false, 32, 5, 6, 7, 0⟩,
     .vrotw ⟨6, false, .s32, .rne, false, 33, 12, 22, 0, 0⟩,
     .vbcast ⟨5, true, .s32, .rne, false, 0, 10, 20, 63, 0⟩,
     .vreduce ⟨7, false, .f32, .rne, false, 1, 4, 2, 0, 0⟩,
     .vscan ⟨7, false, .s32, .rne, false, 0, 3, 2, 0, 0⟩,
     .qswap ⟨6, false, .s32, .rne, false, 2, 12, 22, 0, 0⟩,
     .qbcast ⟨6, false, .s64, .rne, false, 3, 12, 22, 0, 0⟩,
     .vballot ⟨2, false, .s32, .rne, false, 0, 40, 3, 0, 0⟩,
     .vvote ⟨2, false, .s32, .rne, false, 1, 4, 3, 0, 0⟩,
     .vmatch ⟨6, false, .s64, .rne, false, 0, 12, 22, 0, 0⟩].map encode =
    [0x78a0a003340033, 0x1840401c0133, 0x1c3058001c0233, 0xb0c840180333, 0xfca0a000340433, 0x1040409c0533, 0x1030001c0633, 0xb0c080180733, 0xb0c0c3180833, 0x1a8000080933, 0x184040080a33, 0xb0c003180b33].map (fun w => some (8, BitVec.ofNat 64 w)) := by decide +kernel

/-- Words of class VPRED written from R158, R159 and R166, and from the spec's examples where it gives one. -/
theorem test_decode_vpred : [0x10182000040037, 0x10182000040137, 0x10182000040237, 0x182000040337, 0x31827c0040437, 0x4d000040537].map (decodeTableWord 64) =
    [some (.pand ⟨1, false, .s32, .rne, false, 0, 2, 3, 4, 0⟩),
     some (.por ⟨1, false, .s32, .rne, false, 0, 2, 3, 4, 0⟩),
     some (.pxor ⟨1, false, .s32, .rne, false, 0, 2, 3, 4, 0⟩),
     some (.pnot ⟨1, false, .s32, .rne, false, 0, 2, 3, 0, 0⟩),
     some (.pset ⟨1, false, .s32, .rne, false, 31, 2, 99, 0, 0⟩),
     some (.pget ⟨1, false, .s32, .rne, false, 0, 77, 0, 0, 0⟩)] := by decide +kernel

theorem test_encode_vpred : [.pand ⟨1, false, .s32, .rne, false, 0, 2, 3, 4, 0⟩,
     .por ⟨1, false, .s32, .rne, false, 0, 2, 3, 4, 0⟩,
     .pxor ⟨1, false, .s32, .rne, false, 0, 2, 3, 4, 0⟩,
     .pnot ⟨1, false, .s32, .rne, false, 0, 2, 3, 0, 0⟩,
     .pset ⟨1, false, .s32, .rne, false, 31, 2, 99, 0, 0⟩,
     .pget ⟨1, false, .s32, .rne, false, 0, 77, 0, 0, 0⟩].map encode =
    [0x10182000040037, 0x10182000040137, 0x10182000040237, 0x182000040337, 0x31827c0040437, 0x4d000040537].map (fun w => some (8, BitVec.ofNat 64 w)) := by decide +kernel

/-- Words of class VSFU written from R158, R159 and R166, and from the spec's examples where it gives one. -/
theorem test_decode_vsfu : [0xb0c00098003b, 0xb0c000d8013b, 0xb0c012d8023b, 0x4090409c033b, 0xb0c00118043b, 0xb0c00098053b, 0xb0c000d8063b, 0xb0c00098073b].map (decodeTableWord 64) =
    [some (.frcp ⟨6, false, .f32, .rne, false, 0, 12, 22, 0, 0⟩),
     some (.frsq ⟨6, false, .bf16x2, .rne, false, 0, 12, 22, 0, 0⟩),
     some (.fsqrt ⟨6, false, .f64, .rsr, false, 0, 12, 22, 0, 0⟩),
     some (.fexp2 ⟨7, false, .f32, .rne, false, 1, 9, 8, 0, 0⟩),
     some (.flog2 ⟨6, false, .f16x2, .rne, false, 0, 12, 22, 0, 0⟩),
     some (.fsin ⟨6, false, .f32, .rne, false, 0, 12, 22, 0, 0⟩),
     some (.fcos ⟨6, false, .bf16x2, .rne, false, 0, 12, 22, 0, 0⟩),
     some (.ftanh ⟨6, false, .f32, .rne, false, 0, 12, 22, 0, 0⟩)] := by decide +kernel

theorem test_encode_vsfu : [.frcp ⟨6, false, .f32, .rne, false, 0, 12, 22, 0, 0⟩,
     .frsq ⟨6, false, .bf16x2, .rne, false, 0, 12, 22, 0, 0⟩,
     .fsqrt ⟨6, false, .f64, .rsr, false, 0, 12, 22, 0, 0⟩,
     .fexp2 ⟨7, false, .f32, .rne, false, 1, 9, 8, 0, 0⟩,
     .flog2 ⟨6, false, .f16x2, .rne, false, 0, 12, 22, 0, 0⟩,
     .fsin ⟨6, false, .f32, .rne, false, 0, 12, 22, 0, 0⟩,
     .fcos ⟨6, false, .bf16x2, .rne, false, 0, 12, 22, 0, 0⟩,
     .ftanh ⟨6, false, .f32, .rne, false, 0, 12, 22, 0, 0⟩].map encode =
    [0xb0c00098003b, 0xb0c000d8013b, 0xb0c012d8023b, 0x4090409c033b, 0xb0c00118043b, 0xb0c00098053b, 0xb0c000d8063b, 0xb0c00098073b].map (fun w => some (8, BitVec.ofNat 64 w)) := by decide +kernel

/-- Words of class VMEM written from R158, R159 and R166, and from the spec's examples where it gives one. -/
theorem test_decode_vmem : [0x1000030829c0043, 0xff800048851c0143, 0x8241c21409c0243, 0xfc3a3020a0dc0343, 0x240850909c0443, 0x1e84448000c0543, 0x1800000509c0643, 0x1800000509c0743].map (decodeTableWord 64) =
    [some (.vld ⟨7, false, .w32, .acq, 8, 6, 0, 0, false, 0, 2⟩),
     some (.vst ⟨7, false, .w128, .rel, 8, 9, 0, 0, false, 0, 0x1ff⟩),
     some (.vgather ⟨7, false, .w32, .none, 20, 4, 7, 2, false, 2, 16⟩),
     some (.vscatter ⟨7, false, .w64, .none, 10, 4, 12, 1, true, 3, 0x1f8⟩),
     some (.vldstep ⟨7, false, .w32, .none, 9, 10, 2, 2, false, 2, 0⟩),
     some (.vpref ⟨3, false, .w8, .none, 0, 9, 17, 0, true, 6, 3⟩),
     some (.vspill ⟨7, false, .w32, .none, 5, 0, 0, 0, false, 0, 3⟩),
     some (.vfill ⟨7, false, .w32, .none, 5, 0, 0, 0, false, 0, 3⟩)] := by decide +kernel

theorem test_encode_vmem : [.vld ⟨7, false, .w32, .acq, 8, 6, 0, 0, false, 0, 2⟩,
     .vst ⟨7, false, .w128, .rel, 8, 9, 0, 0, false, 0, 0x1ff⟩,
     .vgather ⟨7, false, .w32, .none, 20, 4, 7, 2, false, 2, 16⟩,
     .vscatter ⟨7, false, .w64, .none, 10, 4, 12, 1, true, 3, 0x1f8⟩,
     .vldstep ⟨7, false, .w32, .none, 9, 10, 2, 2, false, 2, 0⟩,
     .vpref ⟨3, false, .w8, .none, 0, 9, 17, 0, true, 6, 3⟩,
     .vspill ⟨7, false, .w32, .none, 5, 0, 0, 0, false, 0, 3⟩,
     .vfill ⟨7, false, .w32, .none, 5, 0, 0, 0, false, 0, 3⟩].map encode =
    [0x1000030829c0043, 0xff800048851c0143, 0x8241c21409c0243, 0xfc3a3020a0dc0343, 0x240850909c0443, 0x1e84448000c0543, 0x1800000509c0643, 0x1800000509c0743].map (fun w => some (8, BitVec.ofNat 64 w)) := by decide +kernel

/-- Words of class VATOM written from R158, R159 and R166, and from the spec's examples where it gives one. -/
theorem test_decode_vatom : [0x4a40c10669c0047, 0x230404884dc0147].map (decodeTableWord 64) =
    [some (.vatom ⟨7, false, .w32, .acqrel, 6, 2, 3, 2, false, 2, 9⟩),
     some (.vred ⟨7, false, .w64, .rel, 8, 9, 16, 0, false, 3, 4⟩)] := by decide +kernel

theorem test_encode_vatom : [.vatom ⟨7, false, .w32, .acqrel, 6, 2, 3, 2, false, 2, 9⟩,
     .vred ⟨7, false, .w64, .rel, 8, 9, 16, 0, false, 3, 4⟩].map encode =
    [0x4a40c10669c0047, 0x230404884dc0147].map (fun w => some (8, BitVec.ofNat 64 w)) := by decide +kernel

/-- Words of class SYNC written from R158, R159 and R166, and from the spec's examples where it gives one. -/
theorem test_decode_sync : [0x40000000004b, 0x50800014b, 0x824024b, 0x90800034b, 0x9082c044b, 0xc00054b, 0x40000e00064b, 0x240050828074b].map (decodeTableWord 64) =
    [some (.fence ⟨0, 0, 0, 0, 1⟩),
     some (.binit ⟨0, 4, 5, 0, 0⟩),
     some (.barrive ⟨9, 4, 0, 0, 0⟩),
     some (.bwait ⟨0, 4, 9, 0, 0⟩),
     some (.btest ⟨11, 4, 9, 0, 0⟩),
     some (.wsync ⟨0, 6, 0, 0, 0⟩),
     some (.cvinit ⟨0, 7, 0, 0, 1⟩),
     some (.mwait ⟨10, 4, 5, 0, 9⟩)] := by decide +kernel

theorem test_encode_sync : [.fence ⟨0, 0, 0, 0, 1⟩,
     .binit ⟨0, 4, 5, 0, 0⟩,
     .barrive ⟨9, 4, 0, 0, 0⟩,
     .bwait ⟨0, 4, 9, 0, 0⟩,
     .btest ⟨11, 4, 9, 0, 0⟩,
     .wsync ⟨0, 6, 0, 0, 0⟩,
     .cvinit ⟨0, 7, 0, 0, 1⟩,
     .mwait ⟨10, 4, 5, 0, 9⟩].map encode =
    [0x40000000004b, 0x50800014b, 0x824024b, 0x90800034b, 0x9082c044b, 0xc00054b, 0x40000e00064b, 0x240050828074b].map (fun w => some (8, BitVec.ofNat 64 w)) := by decide +kernel

/-- Words of class QUE written from R158, R159 and R166, and from the spec's examples where it gives one. -/
theorem test_decode_que : [0x2000c01c004f, 0x2800c01c014f, 0x2880c01c024f, 0x80c01c034f].map (decodeTableWord 64) =
    [some (.qpush ⟨7, false, .s32, .rne, false, 3, 0, 4, 0, 0⟩),
     some (.qpop ⟨7, false, .s32, .rne, false, 3, 0, 5, 0, 0⟩),
     some (.qpops ⟨7, false, .s32, .rne, false, 3, 8, 5, 0, 0⟩),
     some (.qstat ⟨7, false, .s32, .rne, false, 3, 8, 0, 0, 0⟩)] := by decide +kernel

theorem test_encode_que : [.qpush ⟨7, false, .s32, .rne, false, 3, 0, 4, 0, 0⟩,
     .qpop ⟨7, false, .s32, .rne, false, 3, 0, 5, 0, 0⟩,
     .qpops ⟨7, false, .s32, .rne, false, 3, 8, 5, 0, 0⟩,
     .qstat ⟨7, false, .s32, .rne, false, 3, 8, 0, 0, 0⟩].map encode =
    [0x2000c01c004f, 0x2800c01c014f, 0x2880c01c024f, 0x80c01c034f].map (fun w => some (8, BitVec.ofNat 64 w)) := by decide +kernel

/-- Words of class MMA written from R158, R159 and R166, and from the spec's examples where it gives one. -/
theorem test_decode_mma : [0x80002841040063, 0x2ffe0c1011280163, 0x70800010112c0263, 0x60000c10113c0363].map (decodeTableWord 64) =
    [some (.mma ⟨1, 8, 4, 5, 0, 64, .bf16⟩),
     some (.mmas ⟨2, 9, 1, 2, 3, 0x7ff, .e4m3⟩),
     some (.mmai ⟨3, 9, 1, 2, 0, 64, .s8⟩),
     some (.mmax ⟨7, 9, 1, 2, 3, 0, .e2m1⟩)] := by decide +kernel

theorem test_encode_mma : [.mma ⟨1, 8, 4, 5, 0, 64, .bf16⟩,
     .mmas ⟨2, 9, 1, 2, 3, 0x7ff, .e4m3⟩,
     .mmai ⟨3, 9, 1, 2, 0, 64, .s8⟩,
     .mmax ⟨7, 9, 1, 2, 3, 0, .e2m1⟩].map encode =
    [0x80002841040063, 0x2ffe0c1011280163, 0x70800010112c0263, 0x60000c10113c0363].map (fun w => some (8, BitVec.ofNat 64 w)) := by decide +kernel

/-- Words of class ACC written from R158, R159 and R166, and from the spec's examples where it gives one. -/
theorem test_decode_acc : [0x100002840000067, 0x180000000000167, 0x6002840040267, 0x6002840100367, 0x80000001800467].map (decodeTableWord 64) =
    [some (.awin ⟨0, 0, 4, 5, 0, 128, .bf16⟩),
     some (.azero ⟨0, 0, 0, 0, 0, 192, .bf16⟩),
     some (.ald ⟨1, 0, 4, 5, 0, 3, .bf16⟩),
     some (.ast ⟨4, 0, 4, 5, 0, 3, .bf16⟩),
     some (.arstat ⟨0, 12, 0, 0, 0, 64, .bf16⟩)] := by decide +kernel

theorem test_encode_acc : [.awin ⟨0, 0, 4, 5, 0, 128, .bf16⟩,
     .azero ⟨0, 0, 0, 0, 0, 192, .bf16⟩,
     .ald ⟨1, 0, 4, 5, 0, 3, .bf16⟩,
     .ast ⟨4, 0, 4, 5, 0, 3, .bf16⟩,
     .arstat ⟨0, 12, 0, 0, 0, 64, .bf16⟩].map encode =
    [0x100002840000067, 0x180000000000167, 0x6002840040267, 0x6002840100367, 0x80000001800467].map (fun w => some (8, BitVec.ofNat 64 w)) := by decide +kernel

/-- Words of class STK written from R158, R159 and R166, and from the spec's examples where it gives one. -/
theorem test_decode_stk : [0x70c0040a180073, 0x43840a180173, 0x100fc00400180273, 0xa8000500373, 0x1c0000c140473, 0x8000000c0573, 0x12200673, 0x12000773, 0xc140873, 0xc000973].map (decodeTableWord 64) =
    [some (.cpy ⟨6, 5, 4, 0, 3, 7, 0⟩),
     some (.cpyg ⟨6, 5, 4, 7, 1, 0, 0⟩),
     some (.cpyz ⟨6, 0, 4, 0, 63, 0, 2⟩),
     some (.sealRecord ⟨20, 0, 0, 21, 0, 0, 0⟩),
     some (.strdef ⟨5, 6, 0, 0, 7, 0, 0⟩),
     some (.strrun ⟨3, 0, 0, 0, 2, 0, 0⟩),
     some (.twany ⟨8, 9, 0, 0, 0, 0, 0⟩),
     some (.twall ⟨0, 9, 0, 0, 0, 0, 0⟩),
     some (.tfirst ⟨5, 6, 0, 0, 0, 0, 0⟩),
     some (.tclr ⟨0, 6, 0, 0, 0, 0, 0⟩)] := by decide +kernel

theorem test_encode_stk : [.cpy ⟨6, 5, 4, 0, 3, 7, 0⟩,
     .cpyg ⟨6, 5, 4, 7, 1, 0, 0⟩,
     .cpyz ⟨6, 0, 4, 0, 63, 0, 2⟩,
     .sealRecord ⟨20, 0, 0, 21, 0, 0, 0⟩,
     .strdef ⟨5, 6, 0, 0, 7, 0, 0⟩,
     .strrun ⟨3, 0, 0, 0, 2, 0, 0⟩,
     .twany ⟨8, 9, 0, 0, 0, 0, 0⟩,
     .twall ⟨0, 9, 0, 0, 0, 0, 0⟩,
     .tfirst ⟨5, 6, 0, 0, 0, 0, 0⟩,
     .tclr ⟨0, 6, 0, 0, 0, 0, 0⟩].map encode =
    [0x70c0040a180073, 0x43840a180173, 0x100fc00400180273, 0xa8000500373, 0x1c0000c140473, 0x8000000c0573, 0x12200673, 0x12000773, 0xc140873, 0xc000973].map (fun w => some (8, BitVec.ofNat 64 w)) := by decide +kernel

/-- Words of class GRID written from R158, R159 and R166, and from the spec's examples where it gives one. -/
theorem test_decode_grid : [0x2a500077, 0x7000002a000177, 0x2a240277, 0x2a000377].map (decodeTableWord 64) =
    [some (.gattach ⟨20, 21, 0, 0, 0, 0, 0⟩),
     some (.gstep ⟨0, 21, 0, 0, 0, 7, 0⟩),
     some (.gstat ⟨9, 21, 0, 0, 0, 0, 0⟩),
     some (.gdetach ⟨0, 21, 0, 0, 0, 0, 0⟩)] := by decide +kernel

theorem test_encode_grid : [.gattach ⟨20, 21, 0, 0, 0, 0, 0⟩,
     .gstep ⟨0, 21, 0, 0, 0, 7, 0⟩,
     .gstat ⟨9, 21, 0, 0, 0, 0, 0⟩,
     .gdetach ⟨0, 21, 0, 0, 0, 0, 0⟩].map encode =
    [0x2a500077, 0x7000002a000177, 0x2a240277, 0x2a000377].map (fun w => some (8, BitVec.ofNat 64 w)) := by decide +kernel

/-- Words of class CTLC written from R158, R159 and R166, and from the spec's examples where it gives one. -/
theorem test_decode_ctlc : [0x1628007b, 0xc78e1a30017b, 0x122240027b, 0x4070c14037b, 0x44070c14037b, 0x84070c14037b, 0xc4070c14037b, 0x104070c14037b, 0x144070c14037b, 0x184070c14037b, 0x1c60b1424037b, 0x204070c14037b, 0x60a00047b, 0xa00057b, 0xa00067b].map (decodeTableWord 64) =
    [some (.kscan ⟨10, 11, 0, 0, 0⟩),
     some (.jappend ⟨12, 13, 14, 15, 3⟩),
     some (.jread ⟨16, 17, 18, 0, 0⟩),
     some (.vdrd ⟨5, 6, 7, 8, 0⟩),
     some (.vdwr ⟨5, 6, 7, 8, 1⟩),
     some (.qrd ⟨5, 6, 7, 8, 2⟩),
     some (.qwr ⟨5, 6, 7, 8, 3⟩),
     some (.irtrd ⟨5, 6, 7, 8, 4⟩),
     some (.irtwr ⟨5, 6, 7, 8, 5⟩),
     some (.vdcmdStart ⟨5, 6, 7, 8, 6⟩),
     some (.vdcmdRetire ⟨9, 10, 11, 12, 7⟩),
     some (.vdcmdKill ⟨5, 6, 7, 8, 8⟩),
     some (.irqsend ⟨0, 5, 6, 0, 0⟩),
     some (.chold ⟨0, 5, 0, 0, 0⟩),
     some (.crelease ⟨0, 5, 0, 0, 0⟩)] := by decide +kernel

theorem test_encode_ctlc : [.kscan ⟨10, 11, 0, 0, 0⟩,
     .jappend ⟨12, 13, 14, 15, 3⟩,
     .jread ⟨16, 17, 18, 0, 0⟩,
     .vdrd ⟨5, 6, 7, 8, 0⟩,
     .vdwr ⟨5, 6, 7, 8, 1⟩,
     .qrd ⟨5, 6, 7, 8, 2⟩,
     .qwr ⟨5, 6, 7, 8, 3⟩,
     .irtrd ⟨5, 6, 7, 8, 4⟩,
     .irtwr ⟨5, 6, 7, 8, 5⟩,
     .vdcmdStart ⟨5, 6, 7, 8, 6⟩,
     .vdcmdRetire ⟨9, 10, 11, 12, 7⟩,
     .vdcmdKill ⟨5, 6, 7, 8, 8⟩,
     .irqsend ⟨0, 5, 6, 0, 0⟩,
     .chold ⟨0, 5, 0, 0, 0⟩,
     .crelease ⟨0, 5, 0, 0, 0⟩].map encode =
    [0x1628007b, 0xc78e1a30017b, 0x122240027b, 0x4070c14037b, 0x44070c14037b, 0x84070c14037b, 0xc4070c14037b, 0x104070c14037b, 0x144070c14037b, 0x184070c14037b, 0x1c60b1424037b, 0x204070c14037b, 0x60a00047b, 0xa00057b, 0xa00067b].map (fun w => some (8, BitVec.ofNat 64 w)) := by decide +kernel

/-- Compact parcels written from R153. -/
theorem test_decode_compact : [0xa620, 0xa622, 0xa624, 0xa626, 0xa628, 0xa62a, 0xa62c, 0xa62e, 0xa630, 0xa632, 0xa634, 0xa636, 0xa638, 0xa63a, 0xa63c, 0xa63e].map (decodeTableWord 16) =
    [some (.cMov ⟨true, 17, 9⟩),
     some (.cAddS32 ⟨true, 17, 9⟩),
     some (.cSubS32 ⟨true, 17, 9⟩),
     some (.cAnd ⟨true, 17, 9⟩),
     some (.cOr ⟨true, 17, 9⟩),
     some (.cXor ⟨true, 17, 9⟩),
     some (.cShlN32 ⟨true, 17, 9⟩),
     some (.cShrN32 ⟨true, 17, 9⟩),
     some (.cFaddF32 ⟨true, 17, 9⟩),
     some (.cFsubF32 ⟨true, 17, 9⟩),
     some (.cFmulF32 ⟨true, 17, 9⟩),
     some (.cFminF32 ⟨true, 17, 9⟩),
     some (.cFmaxF32 ⟨true, 17, 9⟩),
     some (.cMinS32 ⟨true, 17, 9⟩),
     some (.cMaxS32 ⟨true, 17, 9⟩),
     some (.cNot ⟨true, 17, 9⟩)] := by decide +kernel

theorem test_encode_compact : [.cMov ⟨true, 17, 9⟩,
     .cAddS32 ⟨true, 17, 9⟩,
     .cSubS32 ⟨true, 17, 9⟩,
     .cAnd ⟨true, 17, 9⟩,
     .cOr ⟨true, 17, 9⟩,
     .cXor ⟨true, 17, 9⟩,
     .cShlN32 ⟨true, 17, 9⟩,
     .cShrN32 ⟨true, 17, 9⟩,
     .cFaddF32 ⟨true, 17, 9⟩,
     .cFsubF32 ⟨true, 17, 9⟩,
     .cFmulF32 ⟨true, 17, 9⟩,
     .cFminF32 ⟨true, 17, 9⟩,
     .cFmaxF32 ⟨true, 17, 9⟩,
     .cMinS32 ⟨true, 17, 9⟩,
     .cMaxS32 ⟨true, 17, 9⟩,
     .cNot ⟨true, 17, 9⟩].map encode =
    [0xa620, 0xa622, 0xa624, 0xa626, 0xa628, 0xa62a, 0xa62c, 0xa62e, 0xa630, 0xa632, 0xa634, 0xa636, 0xa638, 0xa63a, 0xa63c, 0xa63e].map (fun w => some (2, BitVec.ofNat 64 w)) := by decide +kernel

/-- Short words written from R155-R157. -/
theorem test_decode_short0 : [0x101, 0x201, 0x301, 0x12340401, 0x501, 0x50601, 0x901, 0xa01, 0x12443105, 0x12443109, 0x1244310d, 0x12443111, 0x12443115, 0x12443119, 0x1244311d, 0x12443121].map (decodeTableWord 32) =
    [some .nopShort,
     some .exitShort,
     some .yieldShort,
     some (.trapShort 0x1234),
     some .tretShort,
     some (.prioShort 5),
     some .haltShort,
     some .wfiShort,
     some (.vaddS32Short ⟨1, 6, 17, 9⟩),
     some (.vsubS32Short ⟨1, 6, 17, 9⟩),
     some (.vmulS32Short ⟨1, 6, 17, 9⟩),
     some (.vminS32Short ⟨1, 6, 17, 9⟩),
     some (.vmaxS32Short ⟨1, 6, 17, 9⟩),
     some (.vminN32Short ⟨1, 6, 17, 9⟩),
     some (.vmaxN32Short ⟨1, 6, 17, 9⟩),
     some (.vandShort ⟨1, 6, 17, 9⟩)] := by decide +kernel

theorem test_encode_short0 : [.nopShort,
     .exitShort,
     .yieldShort,
     .trapShort 0x1234,
     .tretShort,
     .prioShort 5,
     .haltShort,
     .wfiShort,
     .vaddS32Short ⟨1, 6, 17, 9⟩,
     .vsubS32Short ⟨1, 6, 17, 9⟩,
     .vmulS32Short ⟨1, 6, 17, 9⟩,
     .vminS32Short ⟨1, 6, 17, 9⟩,
     .vmaxS32Short ⟨1, 6, 17, 9⟩,
     .vminN32Short ⟨1, 6, 17, 9⟩,
     .vmaxN32Short ⟨1, 6, 17, 9⟩,
     .vandShort ⟨1, 6, 17, 9⟩].map encode =
    [0x101, 0x201, 0x301, 0x12340401, 0x501, 0x50601, 0x901, 0xa01, 0x12443105, 0x12443109, 0x1244310d, 0x12443111, 0x12443115, 0x12443119, 0x1244311d, 0x12443121].map (fun w => some (4, BitVec.ofNat 64 w)) := by decide +kernel

/-- Short words written from R155-R157. -/
theorem test_decode_short1 : [0x12443125, 0x12443129, 0x1244312d, 0x12443131, 0x12443135, 0x12443139, 0x1244313d, 0x12443141, 0x12443145, 0x12443149, 0x1244314d, 0x12443151, 0x12443355, 0x12443159, 0x1244315d, 0x12443161].map (decodeTableWord 32) =
    [some (.vorShort ⟨1, 6, 17, 9⟩),
     some (.vxorShort ⟨1, 6, 17, 9⟩),
     some (.vshlN32Short ⟨1, 6, 17, 9⟩),
     some (.vshrN32Short ⟨1, 6, 17, 9⟩),
     some (.vshrS32Short ⟨1, 6, 17, 9⟩),
     some (.faddF32Short ⟨1, 6, 17, 9⟩),
     some (.fsubF32Short ⟨1, 6, 17, 9⟩),
     some (.fmulF32Short ⟨1, 6, 17, 9⟩),
     some (.fminF32Short ⟨1, 6, 17, 9⟩),
     some (.fmaxF32Short ⟨1, 6, 17, 9⟩),
     some (.faddBf16x2Short ⟨1, 6, 17, 9⟩),
     some (.fmulBf16x2Short ⟨1, 6, 17, 9⟩),
     some (.vselShort ⟨3, 6, 17, 9⟩),
     some (.vshflShort ⟨1, 6, 17, 9⟩),
     some (.vaddminS32Short ⟨1, 6, 17, 9⟩),
     some (.ffmaF32Short ⟨1, 6, 17, 9⟩)] := by decide +kernel

theorem test_encode_short1 : [.vorShort ⟨1, 6, 17, 9⟩,
     .vxorShort ⟨1, 6, 17, 9⟩,
     .vshlN32Short ⟨1, 6, 17, 9⟩,
     .vshrN32Short ⟨1, 6, 17, 9⟩,
     .vshrS32Short ⟨1, 6, 17, 9⟩,
     .faddF32Short ⟨1, 6, 17, 9⟩,
     .fsubF32Short ⟨1, 6, 17, 9⟩,
     .fmulF32Short ⟨1, 6, 17, 9⟩,
     .fminF32Short ⟨1, 6, 17, 9⟩,
     .fmaxF32Short ⟨1, 6, 17, 9⟩,
     .faddBf16x2Short ⟨1, 6, 17, 9⟩,
     .fmulBf16x2Short ⟨1, 6, 17, 9⟩,
     .vselShort ⟨3, 6, 17, 9⟩,
     .vshflShort ⟨1, 6, 17, 9⟩,
     .vaddminS32Short ⟨1, 6, 17, 9⟩,
     .ffmaF32Short ⟨1, 6, 17, 9⟩].map encode =
    [0x12443125, 0x12443129, 0x1244312d, 0x12443131, 0x12443135, 0x12443139, 0x1244313d, 0x12443141, 0x12443145, 0x12443149, 0x1244314d, 0x12443151, 0x12443355, 0x12443159, 0x1244315d, 0x12443161].map (fun w => some (4, BitVec.ofNat 64 w)) := by decide +kernel

/-- Short words written from R155-R157. -/
theorem test_decode_short2 : [0x12443165, 0x12443169, 0x1244316d, 0xa2443171, 0xa2443175, 0x22443179, 0x2244317d, 0x22443181, 0xa2443185, 0xa2443189, 0xa244318d, 0x2488691, 0x22488691, 0x42488691, 0x62488691, 0x82488691].map (decodeTableWord 32) =
    [some (.ffmaBf16x2Short ⟨1, 6, 17, 9⟩),
     some (.vcmpLtS32Short ⟨1, 6, 17, 9⟩),
     some (.fcmpLtF32Short ⟨1, 6, 17, 9⟩),
     some (.vintiVaddShort ⟨1, 6, 17, 81⟩),
     some (.vintiVandShort ⟨1, 6, 17, 81⟩),
     some (.vintiVshlShort ⟨1, 6, 17, 17⟩),
     some (.vintiVshrN32Short ⟨1, 6, 17, 17⟩),
     some (.vintiVshrS32Short ⟨1, 6, 17, 17⟩),
     some (.vintiVminShort ⟨1, 6, 17, 81⟩),
     some (.vintiVmaxShort ⟨1, 6, 17, 81⟩),
     some (.vintiVcmpEqShort ⟨1, 6, 17, 81⟩),
     some (.saddShort ⟨6, 17, 9⟩),
     some (.ssubShort ⟨6, 17, 9⟩),
     some (.smulShort ⟨6, 17, 9⟩),
     some (.smulhSShort ⟨6, 17, 9⟩),
     some (.smulhNShort ⟨6, 17, 9⟩)] := by decide +kernel

theorem test_encode_short2 : [.ffmaBf16x2Short ⟨1, 6, 17, 9⟩,
     .vcmpLtS32Short ⟨1, 6, 17, 9⟩,
     .fcmpLtF32Short ⟨1, 6, 17, 9⟩,
     .vintiVaddShort ⟨1, 6, 17, 81⟩,
     .vintiVandShort ⟨1, 6, 17, 81⟩,
     .vintiVshlShort ⟨1, 6, 17, 17⟩,
     .vintiVshrN32Short ⟨1, 6, 17, 17⟩,
     .vintiVshrS32Short ⟨1, 6, 17, 17⟩,
     .vintiVminShort ⟨1, 6, 17, 81⟩,
     .vintiVmaxShort ⟨1, 6, 17, 81⟩,
     .vintiVcmpEqShort ⟨1, 6, 17, 81⟩,
     .saddShort ⟨6, 17, 9⟩,
     .ssubShort ⟨6, 17, 9⟩,
     .smulShort ⟨6, 17, 9⟩,
     .smulhSShort ⟨6, 17, 9⟩,
     .smulhNShort ⟨6, 17, 9⟩].map encode =
    [0x12443165, 0x12443169, 0x1244316d, 0xa2443171, 0xa2443175, 0x22443179, 0x2244317d, 0x22443181, 0xa2443185, 0xa2443189, 0xa244318d, 0x2488691, 0x22488691, 0x42488691, 0x62488691, 0x82488691].map (fun w => some (4, BitVec.ofNat 64 w)) := by decide +kernel

/-- Short words written from R155-R157. -/
theorem test_decode_short3 : [0xa2488691, 0xc2488691, 0xe2488691, 0x2488695, 0x22488695, 0x42488695, 0x62488695, 0x82488695, 0xa2488695, 0xc2488695, 0xe2488695, 0x2488699, 0x22488699, 0x42488699, 0x62488699, 0x82488699].map (decodeTableWord 32) =
    [some (.sdivSShort ⟨6, 17, 9⟩),
     some (.sdivNShort ⟨6, 17, 9⟩),
     some (.sremSShort ⟨6, 17, 9⟩),
     some (.sremNShort ⟨6, 17, 9⟩),
     some (.sandShort ⟨6, 17, 9⟩),
     some (.sorShort ⟨6, 17, 9⟩),
     some (.sxorShort ⟨6, 17, 9⟩),
     some (.sandnShort ⟨6, 17, 9⟩),
     some (.sshlShort ⟨6, 17, 9⟩),
     some (.sshrSShort ⟨6, 17, 9⟩),
     some (.sshrNShort ⟨6, 17, 9⟩),
     some (.srotrShort ⟨6, 17, 9⟩),
     some (.sminSShort ⟨6, 17, 9⟩),
     some (.sminNShort ⟨6, 17, 9⟩),
     some (.smaxSShort ⟨6, 17, 9⟩),
     some (.smaxNShort ⟨6, 17, 9⟩)] := by decide +kernel

theorem test_encode_short3 : [.sdivSShort ⟨6, 17, 9⟩,
     .sdivNShort ⟨6, 17, 9⟩,
     .sremSShort ⟨6, 17, 9⟩,
     .sremNShort ⟨6, 17, 9⟩,
     .sandShort ⟨6, 17, 9⟩,
     .sorShort ⟨6, 17, 9⟩,
     .sxorShort ⟨6, 17, 9⟩,
     .sandnShort ⟨6, 17, 9⟩,
     .sshlShort ⟨6, 17, 9⟩,
     .sshrSShort ⟨6, 17, 9⟩,
     .sshrNShort ⟨6, 17, 9⟩,
     .srotrShort ⟨6, 17, 9⟩,
     .sminSShort ⟨6, 17, 9⟩,
     .sminNShort ⟨6, 17, 9⟩,
     .smaxSShort ⟨6, 17, 9⟩,
     .smaxNShort ⟨6, 17, 9⟩].map encode =
    [0xa2488691, 0xc2488691, 0xe2488691, 0x2488695, 0x22488695, 0x42488695, 0x62488695, 0x82488695, 0xa2488695, 0xc2488695, 0xe2488695, 0x2488699, 0x22488699, 0x42488699, 0x62488699, 0x82488699].map (fun w => some (4, BitVec.ofNat 64 w)) := by decide +kernel

/-- Short words written from R155-R157. -/
theorem test_decode_short4 : [0xa0088699, 0xc0088699, 0xe0088699, 0x8869d, 0x2248869d, 0x4248869d, 0x6008869d, 0x8008869d, 0xa248869d, 0xc248869d, 0xe248869d, 0x144886a1, 0x2886a5, 0x144886a9, 0x144886ad, 0xa24431b1].map (decodeTableWord 32) =
    [some (.sclzShort ⟨6, 17, 0⟩),
     some (.sffsShort ⟨6, 17, 0⟩),
     some (.spopcShort ⟨6, 17, 0⟩),
     some (.sbrevShort ⟨6, 17, 0⟩),
     some (.sselShort ⟨6, 17, 9⟩),
     some (.scmpShort ⟨6, 17, 9⟩),
     some (.sextShort ⟨6, 17, 0⟩),
     some (.smovShort ⟨6, 17, 0⟩),
     some (.sbfxShort ⟨6, 17, 9⟩),
     some (.sbfiShort ⟨6, 17, 9⟩),
     some (.smadShort ⟨6, 17, 9⟩),
     some (.saddiShort 6 17 81),
     some (.sliShort 6 81),
     some (.sld64Short 6 17 81),
     some (.sst64Short 6 17 81),
     some (.vld32Short ⟨1, 6, 17, 81⟩)] := by decide +kernel

theorem test_encode_short4 : [.sclzShort ⟨6, 17, 0⟩,
     .sffsShort ⟨6, 17, 0⟩,
     .spopcShort ⟨6, 17, 0⟩,
     .sbrevShort ⟨6, 17, 0⟩,
     .sselShort ⟨6, 17, 9⟩,
     .scmpShort ⟨6, 17, 9⟩,
     .sextShort ⟨6, 17, 0⟩,
     .smovShort ⟨6, 17, 0⟩,
     .sbfxShort ⟨6, 17, 9⟩,
     .sbfiShort ⟨6, 17, 9⟩,
     .smadShort ⟨6, 17, 9⟩,
     .saddiShort 6 17 81,
     .sliShort 6 81,
     .sld64Short 6 17 81,
     .sst64Short 6 17 81,
     .vld32Short ⟨1, 6, 17, 81⟩].map encode =
    [0xa0088699, 0xc0088699, 0xe0088699, 0x8869d, 0x2248869d, 0x4248869d, 0x6008869d, 0x8008869d, 0xa248869d, 0xc248869d, 0xe248869d, 0x144886a1, 0x2886a5, 0x144886a9, 0x144886ad, 0xa24431b1].map (fun w => some (4, BitVec.ofNat 64 w)) := by decide +kernel

/-- Short words written from R155-R157. -/
theorem test_decode_short5 : [0xa24431b5, 0x8123b9, 0x8123bd, 0x812311c1, 0x812391c1, 0x81239c5, 0x1050c2c9].map (decodeTableWord 32) =
    [some (.vst32Short ⟨1, 6, 17, 81⟩),
     some (.brShort 0x8123),
     some (.callShort 0x8123),
     some (.brzShort 17 0x8123),
     some (.brnzShort 17 0x8123),
     some (.brpShort 1 true 0x8123),
     some (.waitShort ⟨2, 3, 5, 4⟩)] := by decide +kernel

theorem test_encode_short5 : [.vst32Short ⟨1, 6, 17, 81⟩,
     .brShort 0x8123,
     .callShort 0x8123,
     .brzShort 17 0x8123,
     .brnzShort 17 0x8123,
     .brpShort 1 true 0x8123,
     .waitShort ⟨2, 3, 5, 4⟩].map encode =
    [0xa24431b5, 0x8123b9, 0x8123bd, 0x812311c1, 0x812391c1, 0x81239c5, 0x1050c2c9].map (fun w => some (4, BitVec.ofNat 64 w)) := by decide +kernel

/-! Ill-formed terms, one for each check of the encoding chapter (06 R152, R154, R160-R170), all refused. -/

theorem test_ill_formed_scalar : ([
    .sadd ⟨96, 0, 0, 0, 0⟩, .sadd ⟨0, 96, 0, 0, 0⟩, .sadd ⟨0, 0, 127, 0, 0⟩, .smad ⟨0, 0, 0, 96, 0⟩,
    .sclz ⟨0, 0, 1, 0, 0⟩, .sadd ⟨0, 0, 0, 1, 0⟩, .sadd ⟨0, 0, 0, 0, 1⟩, .ssel ⟨0, 0, 0, 0, 10⟩, .scmp ⟨0, 0, 0, 0, 10⟩,
    .scmp ⟨0, 0, 0, 1, 0⟩, .sext ⟨0, 0, 0, 0, 3⟩, .sext ⟨0, 0, 0, 0, 8⟩, .sext ⟨0, 0, 1, 0, 0⟩, .sbfx ⟨0, 0, 0, 0, 2⟩,
    .saddi ⟨0, 0, 1, 0⟩, .sshli ⟨0, 0, 0, 64⟩, .sshriS ⟨0, 0, 0, 64⟩, .sshriN ⟨0, 0, 0, 64⟩, .sli ⟨0, 1, 0, 0⟩,
    .slih ⟨0, 0, 1, 0⟩, .scmpi ⟨0, 0, 10, 0⟩, .saddi ⟨96, 0, 0, 0⟩, .saddi ⟨0, 96, 0, 0⟩,
    .sld ⟨0, 0, 0x08, 0⟩, .sld ⟨0, 0, 0x13, 0⟩, .sld ⟨0, 0, 0x20, 0⟩, .sst ⟨0, 0, 0x04, 0⟩, .sst ⟨0, 0, 0x10, 0⟩,
    .satom ⟨0, 0, 0, 0, 14⟩, .satom ⟨0, 0, 0, 1, 0⟩,
    .loop ⟨0, 0, 0, false, 0⟩, .brc ⟨0, 0, 6, false, 0⟩, .brc ⟨0, 0, 0, true, 0⟩, .br ⟨1, 0, 0, false, 0⟩,
    .brz ⟨0, 1, 0, false, 0⟩, .jmpr ⟨0, 0, 0, false, 1⟩, .callr ⟨0, 0, 0, false, 1⟩, .ret ⟨0, 0, 0, false, 1⟩,
    .brp ⟨1, 0, 0, false, 0⟩, .call ⟨0, 0, 1, false, 0⟩,
    .launch 96 0, .launch 0 96, .srd 96 0, .swr 96 0] : List Instr).all (fun i => !i.wf) = true := by decide

theorem test_ill_formed_lane : ([
    .vadd ⟨0, false, .f32, .rne, false, 0, 0, 0, 0, 0⟩, .vadd ⟨0, false, .s32, .rtz, false, 0, 0, 0, 0, 0⟩,
    .vadd ⟨0, false, .s32, .rne, true, 0, 0, 0, 0, 0⟩, .vadd ⟨0, false, .s32, .rne, false, 1, 0, 0, 0, 0⟩,
    .vadd ⟨0, false, .s32, .rne, false, 0, 0, 0, 0, 1⟩, .vnot ⟨0, false, .s32, .rne, false, 0, 0, 0, 1, 0⟩,
    .vsel ⟨0, false, .s32, .rne, false, 8, 0, 0, 0, 0⟩, .vcmp ⟨0, false, .s32, .rne, false, 6, 0, 0, 0, 0⟩,
    .vcmp ⟨0, false, .s32, .rne, false, 0, 8, 0, 0, 0⟩, .vsrd ⟨0, false, .s32, .rne, false, 4, 0, 0, 0, 0⟩,
    .vintiVshl ⟨0, false, 0, 0, 0, 32⟩, .vintiVadd ⟨0, false, 0, 0, 2, 0⟩, .vintiVcmp ⟨0, false, 0x30, 0, 0, 0⟩,
    .vmovi ⟨0, false, 0, 1, 0, 0⟩, .vintiVcmpEqShort ⟨0, 8, 0, 0⟩,
    .fadd ⟨0, false, .s32, .rne, false, 0, 0, 0, 0, 0⟩, .fmin ⟨0, false, .f32, .rtz, false, 0, 0, 0, 0, 0⟩,
    .fabs ⟨0, false, .f32, .rne, true, 0, 0, 0, 0, 0⟩, .faddmin ⟨0, false, .f64, .rne, false, 0, 0, 0, 0, 0⟩,
    .frcp ⟨0, false, .f64, .rne, false, 0, 0, 0, 0, 0⟩, .frcp ⟨0, false, .f32, .rtz, false, 0, 0, 0, 0, 0⟩,
    .fexp2 ⟨0, false, .f32, .rne, false, 2, 0, 0, 0, 0⟩,
    .cvt ⟨0, false, .f32, .rne, false, 0x18, 0, 0, 0, 0⟩, .cvt ⟨0, false, .s32, .rtz, false, 0x16, 0, 0, 0, 0⟩,
    .cvt ⟨0, false, .e4m3x4, .rne, false, 2, 0, 0, 0, 0⟩, .pack ⟨0, false, .s16x2, .rne, false, 2, 0, 0, 0, 0⟩,
    .unpack ⟨0, false, .f32, .rne, false, 3, 0, 0, 2, 0⟩, .mxscale ⟨0, false, .f32, .rne, false, 2, 0, 0, 0, 0⟩,
    .vshfl ⟨0, false, .f32, .rne, false, 0, 0, 0, 0, 0⟩, .vshup ⟨0, false, .s32, .rne, false, 0x28, 0, 0, 0, 0⟩,
    .vbcast ⟨0, false, .s32, .rne, false, 0, 0, 0, 64, 0⟩, .vreduce ⟨0, false, .f32, .rne, false, 3, 0, 0, 0, 0⟩,
    .vreduce ⟨0, false, .f32, .rtz, false, 1, 0, 0, 0, 0⟩, .vballot ⟨0, false, .s32, .rne, false, 0, 96, 0, 0, 0⟩,
    .vvote ⟨0, false, .s32, .rne, false, 3, 0, 0, 0, 0⟩, .vmatch ⟨0, false, .f32, .rne, false, 0, 0, 0, 0, 0⟩,
    .pand ⟨0, false, .s32, .rne, false, 0, 0, 8, 0, 0⟩, .pset ⟨0, false, .s32, .rne, false, 32, 0, 0, 0, 0⟩,
    .cMov ⟨false, 3, 3⟩,
    .fusedSoftmax ⟨0, false, .rne, 1, 1, 2, 3, 4, 8, 8, 8, 8⟩] : List Instr).all (fun i => !i.wf) = true := by decide

theorem test_ill_formed_memory : ([
    .vld ⟨7, false, .w32, .rel, 0, 0, 0, 0, false, 0, 0⟩, .vst ⟨7, false, .w32, .acq, 0, 0, 0, 0, false, 0, 0⟩,
    .vld ⟨7, false, .w32, .none, 0, 0, 1, 0, false, 0, 0⟩, .vld ⟨7, false, .w32, .none, 0, 96, 0, 0, false, 0, 0⟩,
    .vgather ⟨7, false, .w32, .none, 0, 0, 0, 3, true, 0, 0⟩, .vldstep ⟨7, false, .w32, .none, 0, 1, 0, 0, false, 0, 0⟩,
    .vpref ⟨7, false, .w32, .none, 0, 0, 0, 0, false, 0, 0⟩, .vspill ⟨6, false, .w32, .none, 0, 0, 0, 0, false, 0, 0⟩,
    .vspill ⟨7, false, .w64, .none, 0, 0, 0, 0, false, 0, 0⟩, .vfill ⟨7, false, .w32, .none, 0, 1, 0, 0, false, 0, 0⟩,
    .vatom ⟨7, false, .w32, .none, 0, 0, 0, 0, false, 0, 12⟩, .vatom ⟨7, false, .w64, .none, 0, 0, 0, 0, false, 0, 10⟩,
    .vatom ⟨7, false, .w16, .none, 0, 0, 0, 0, false, 0, 0⟩, .vred ⟨7, false, .w32, .none, 0, 0, 0, 0, false, 0, 8⟩,
    .vred ⟨7, false, .w32, .acq, 0, 0, 0, 0, false, 0, 0⟩] : List Instr).all (fun i => !i.wf) = true := by decide

theorem test_ill_formed_units : ([
    .fence ⟨0, 0, 0, 0, 0⟩, .fence ⟨0, 0, 0, 0, 4⟩, .binit ⟨1, 0, 0, 0, 0⟩, .barrive ⟨0, 0, 0, 0, 1⟩,
    .btest ⟨0, 0, 0, 1, 0⟩, .wsync ⟨0, 0, 1, 0, 0⟩, .cvinit ⟨0, 0, 0, 0, 8⟩, .mwait ⟨0, 0, 0, 0, 10⟩,
    .qpush ⟨6, false, .s32, .rne, false, 0, 0, 0, 0, 0⟩, .qpush ⟨7, false, .s32, .rne, false, 16, 0, 0, 0, 0⟩,
    .qpop ⟨7, false, .s32, .rne, false, 0, 1, 0, 0, 0⟩, .qpops ⟨7, false, .s32, .rne, false, 0, 96, 0, 0, 0⟩,
    .qstat ⟨7, false, .n32, .rne, false, 0, 0, 0, 0, 0⟩,
    .mma ⟨0, 0, 0, 0, 0, 0, .s8⟩, .mma ⟨0, 0, 0, 0, 1, 0, .bf16⟩, .mmas ⟨0, 0, 0, 0, 0, 0, .n8⟩,
    .mmai ⟨0, 0, 0, 0, 0, 0, .bf16⟩, .mmax ⟨0, 0, 0, 0, 0, 0, .bf16⟩, .awin ⟨1, 0, 0, 0, 0, 0, .bf16⟩,
    .azero ⟨0, 0, 1, 0, 0, 0, .bf16⟩, .ald ⟨6, 0, 0, 0, 0, 0, .bf16⟩, .ast ⟨0, 1, 0, 0, 0, 0, .bf16⟩,
    .arstat ⟨1, 0, 0, 0, 0, 0, .bf16⟩, .azero ⟨0, 0, 0, 0, 0, 0, .f16⟩,
    .cpy ⟨0, 0, 0, 0, 0, 0, 3⟩, .cpyg ⟨0, 0, 0, 0, 0, 0, 0⟩, .cpyz ⟨0, 1, 0, 0, 0, 0, 0⟩, .sealRecord ⟨0, 1, 0, 0, 0, 0, 0⟩,
    .strdef ⟨0, 0, 0, 0, 8, 0, 0⟩, .strrun ⟨0, 1, 0, 0, 0, 0, 0⟩, .twany ⟨0, 0, 0, 0, 1, 0, 0⟩, .twall ⟨1, 0, 0, 0, 0, 0, 0⟩,
    .tfirst ⟨0, 0, 1, 0, 0, 0, 0⟩, .tclr ⟨1, 0, 0, 0, 0, 0, 0⟩, .gattach ⟨0, 0, 0, 0, 0, 1, 0⟩, .gstep ⟨1, 0, 0, 0, 0, 0, 0⟩,
    .gstat ⟨0, 0, 0, 0, 7, 0, 0⟩, .gdetach ⟨0, 0, 0, 0, 0, 0, 1⟩, .cpy ⟨0, 0, 0, 0, 0, 96, 0⟩,
    .kscan ⟨0, 0, 0, 0, 3⟩, .kscan ⟨0, 0, 1, 0, 0⟩, .jappend ⟨0, 0, 0, 0, 0⟩, .jread ⟨0, 0, 0, 0, 1⟩, .vdrd ⟨0, 0, 0, 0, 9⟩,
    .vdrd ⟨0, 0, 0, 0, 1⟩, .vdwr ⟨0, 0, 0, 0, 0⟩, .qrd ⟨0, 0, 0, 0, 3⟩, .qwr ⟨0, 0, 0, 0, 2⟩, .irtrd ⟨0, 0, 0, 0, 5⟩,
    .irtwr ⟨0, 0, 0, 0, 4⟩, .vdcmdStart ⟨0, 0, 0, 0, 7⟩, .vdcmdRetire ⟨0, 0, 0, 0, 8⟩, .vdcmdKill ⟨0, 0, 0, 0, 6⟩,
    .irqsend ⟨1, 0, 0, 0, 0⟩, .chold ⟨0, 0, 1, 0, 0⟩, .crelease ⟨0, 0, 0, 1, 0⟩] : List Instr).all (fun i => !i.wf) = true := by
  decide

/-- Words that are no instruction: a class 06 R166 does not give, a function past its class, a SYS word with a bit outside its
fields, rnd 5, a type code 0x18, a prefix of a length the word does not have. -/
theorem test_reserved_words : [(64, 0x7F), (64, 0x2007), (64, 0x80000103), (64, 0xD03), (64, 0x3), (16, 0x0001), (32, 0x1)].map
    (fun p => decodeTableWord p.1 p.2) = [none, none, none, none, none, none, none] := by decide +kernel

/-! Small states. The placed workgroup has one warp of 64 threads with 128 vector registers, feed queue 0 and 128 accumulator
rows (Machine/Place.lean); the control cores are those of reset. -/

/-- The placed warp, its stoker thread, and control core `c`, about to execute. -/
def tw : State := { State.reset.placed none [] with cur := .warp 1 0, inputs := [] }
def tk : State := { tw with cur := .stoker 1 }
def tc (c : Nat) : State := { State.reset.updCtl c fun x => { x with halted := false } with cur := .ctl c }

/-- `tw` with another warp, workgroup or agent. -/
def wWith (f : Warp → Warp) : State := tw.updWarp 1 0 f
def gWith (f : Group → Group) : State := tw.updGroup 1 f
def aWith (f : Agent → Agent) : State := tw.updAgent (.warp 1 0) f

/-- Whether an instruction is executed for its own effect. -/
def rq (s : State) (i : Instr) : Bool :=
  match i.form with
  | some f => (s.decodeCause f).isNone && (s.scalarPoison f).isNone
  | none => false

theorem rq_runs {s : State} {i : Instr} (h : rq s i = true) : Runs i s := by
  unfold rq at h
  split at h
  · next f hf => simp only [Bool.and_eq_true, Option.isNone_iff_eq_none] at h; exact ⟨f, hf, h.1, h.2⟩
  · cases h

theorem all_runs {s : State} {l : List Instr} (h : l.all (rq s) = true) : ∀ i ∈ l, Runs i s :=
  fun i hi => rq_runs (List.all_eq_true.mp h i hi)

theorem test_runs_sys : ∀ i ∈ ([.nop, .exit, .yield, .trap 9, .tret, .prio 3, .wait ⟨1, 2, 3, 4⟩, .launch 1 2, .srd 1 0x40,
    .swr 1 0x30, .swr 1 0x28, .swr 1 0x31, .swr 1 0x61, .swr 1 0x70, .nopShort, .exitShort, .yieldShort, .trapShort 9,
    .tretShort, .prioShort 3, .waitShort ⟨1, 2, 3, 4⟩] : List Instr), Runs i tw := all_runs (by decide +kernel)

theorem test_runs_salu : ∀ i ∈ ([Instr.sadd, .ssub, .smul, .smulhS, .smulhN, .sdivS, .sdivN, .sremS, .sremN, .sand, .sor, .sxor,
    .sandn, .sshl, .sshrS, .sshrN, .srotr, .sminS, .sminN, .smaxS, .smaxN, .ssel, .scmp, .sbfx, .sbfi, .smad].map
      (fun c => c ⟨5, 6, 7, 0, 0⟩)) ++ ([Instr.sclz, .sffs, .spopc, .sbrev, .sext, .smov].map (fun c => c ⟨5, 6, 0, 0, 0⟩)),
    Runs i tw := all_runs (by decide +kernel)

theorem test_runs_salu_short : ∀ i ∈ ([Instr.saddShort, .ssubShort, .smulShort, .smulhSShort, .smulhNShort, .sdivSShort,
    .sdivNShort, .sremSShort, .sremNShort, .sandShort, .sorShort, .sxorShort, .sandnShort, .sshlShort, .sshrSShort,
    .sshrNShort, .srotrShort, .sminSShort, .sminNShort, .smaxSShort, .smaxNShort, .sselShort, .scmpShort, .sbfxShort,
    .sbfiShort, .smadShort].map (fun c => c ⟨5, 6, 7⟩)) ++ ([Instr.sclzShort, .sffsShort, .spopcShort, .sbrevShort, .sextShort,
    .smovShort].map (fun c => c ⟨5, 6, 0⟩)), Runs i tw := all_runs (by decide +kernel)

theorem test_runs_salui : ∀ i ∈ ([.saddi ⟨5, 6, 0, 9⟩, .sandi ⟨5, 6, 0, 9⟩, .sori ⟨5, 6, 0, 9⟩, .sxori ⟨5, 6, 0, 9⟩,
    .sshli ⟨5, 6, 0, 63⟩, .sshriS ⟨5, 6, 0, 63⟩, .sshriN ⟨5, 6, 0, 63⟩, .sli ⟨5, 0, 0, 9⟩, .slih ⟨5, 6, 0, 9⟩, .scmpi ⟨5, 6, 9, 9⟩,
    .saddiShort 5 6 9, .sliShort 5 9] : List Instr), Runs i tw := all_runs (by decide +kernel)

theorem test_runs_sctl : ∀ i ∈ ([.br ⟨0, 0, 0, false, 9⟩, .brz ⟨5, 0, 0, false, 9⟩, .brnz ⟨5, 0, 0, false, 9⟩, .brc ⟨5, 6, 5, false, 9⟩,
    .call ⟨94, 0, 0, false, 9⟩, .jmpr ⟨5, 0, 0, false, 0⟩, .callr ⟨5, 6, 0, false, 0⟩, .ret ⟨5, 0, 0, false, 0⟩, .brp ⟨0, 0, 7, true, 9⟩,
    .loop ⟨5, 0, 0, false, 9⟩, .brShort 9, .callShort 9, .brzShort 5 9, .brnzShort 5 9, .brpShort 7 true 9] : List Instr),
    Runs i tw := all_runs (by decide +kernel)

theorem test_runs_smem : ∀ i ∈ ([.sld ⟨5, 6, 0x07, 8⟩, .sst ⟨5, 6, 0x0B, 8⟩, .satom ⟨5, 6, 7, 0, 13⟩, .sld64Short 5 6 8,
    .sst64Short 5 6 8] : List Instr), Runs i tw := all_runs (by decide +kernel)

theorem test_runs_vint : ∀ i ∈ ([Instr.vadd, .vsub, .vmul, .vmulh, .vadds, .vsubs, .vabsd, .vmin, .vmax, .vand, .vor, .vxor,
    .vandn].map (fun c => c ⟨7, false, .s64, .rne, false, 0, 2, 4, 6, 0⟩)) ++
    ([Instr.vshl, .vshr, .vrotr, .vsel].map (fun c => c ⟨7, false, .s32, .rne, false, 0, 1, 2, 3, 0⟩)) ++
    ([Instr.vmad, .vaddmin, .vbfx, .vbfi].map (fun c => c ⟨7, false, .s32, .rne, false, 0, 1, 2, 3, 4⟩)) ++
    ([Instr.vnot, .vclz, .vffs, .vpopc, .vbrev, .vmov].map (fun c => c ⟨7, false, .s32, .rne, false, 0, 1, 2, 0, 0⟩)) ++
    [.vsrd ⟨7, false, .s32, .rne, false, 3, 1, 0, 0, 0⟩, .vcmp ⟨7, false, .s64, .rne, false, 5, 3, 4, 6, 0⟩], Runs i tw :=
  all_runs (by decide +kernel)

theorem test_runs_vint_short : ∀ i ∈ ([Instr.cMov, .cAddS32, .cSubS32, .cAnd, .cOr, .cXor, .cShlN32, .cShrN32, .cFaddF32, .cFsubF32,
    .cFmulF32, .cFminF32, .cFmaxF32, .cMinS32, .cMaxS32, .cNot].map (fun c => c ⟨false, 1, 2⟩)) ++
    ([Instr.vaddS32Short, .vsubS32Short, .vmulS32Short, .vminS32Short, .vmaxS32Short, .vminN32Short, .vmaxN32Short, .vandShort,
    .vorShort, .vxorShort, .vshlN32Short, .vshrN32Short, .vshrS32Short, .faddF32Short, .fsubF32Short, .fmulF32Short,
    .fminF32Short, .fmaxF32Short, .faddBf16x2Short, .fmulBf16x2Short, .vselShort, .vshflShort, .vaddminS32Short,
    .ffmaF32Short, .ffmaBf16x2Short, .vcmpLtS32Short, .fcmpLtF32Short].map (fun c => c ⟨7, 1, 2, 3⟩)) ++
    ([Instr.vintiVaddShort, .vintiVandShort, .vintiVshlShort, .vintiVshrN32Short, .vintiVshrS32Short, .vintiVminShort,
    .vintiVmaxShort, .vintiVcmpEqShort].map (fun c => c ⟨7, 1, 2, 9⟩)), Runs i tw := all_runs (by decide +kernel)

theorem test_runs_vinti : ∀ i ∈ ([Instr.vintiVadd, .vintiVand, .vintiVor, .vintiVxor, .vintiVshl, .vintiVshr, .vintiVmin,
    .vintiVmax, .vintiVcmp, .vintiVaddmin].map (fun c => c ⟨7, false, 1, 2, 1, 9⟩)) ++ [.vmovi ⟨7, false, 1, 0, 0, 9⟩], Runs i tw :=
  all_runs (by decide +kernel)

theorem test_runs_vflt : ∀ i ∈ ([Instr.fadd, .fsub, .fmul, .fscaleb, .fdiv].map
      (fun c => c ⟨7, false, .f64, .rsr, true, 0, 2, 4, 6, 0⟩)) ++
    ([Instr.ffma, .ffms].map (fun c => c ⟨7, false, .f32, .rup, false, 0, 1, 2, 3, 4⟩)) ++
    ([Instr.fmin, .fmax].map (fun c => c ⟨7, false, .f16x2, .rne, false, 0, 1, 2, 3, 0⟩)) ++
    ([Instr.fabs, .fneg, .fclass, .frnd].map (fun c => c ⟨7, false, .f32, .rne, false, 0, 1, 2, 0, 0⟩)) ++
    [.fcmp ⟨7, false, .f32, .rne, false, 7, 3, 2, 4, 0⟩, .faddmin ⟨7, false, .f32, .rne, true, 0, 1, 2, 3, 4⟩,
     .cvt ⟨7, false, .f32, .rtz, true, 0xB, 1, 2, 0, 0⟩, .pack ⟨7, false, .e4m3x4, .rsr, true, 2, 1, 2, 4, 0⟩,
     .unpack ⟨7, false, .f32, .rne, false, 9, 1, 2, 3, 5⟩, .mxscale ⟨7, false, .f32, .rne, false, 0x12, 1, 2, 0, 0⟩] ++
    ([Instr.frcp, .frsq, .fsqrt, .fexp2, .flog2, .fsin, .fcos, .ftanh].map (fun c => c ⟨7, false, .f32, .rne, false, 0, 1, 2, 0, 0⟩)),
    Runs i tw := all_runs (by decide +kernel)

theorem test_runs_vxl : ∀ i ∈ ([.vshfl ⟨7, false, .s64, .rne, false, 0, 2, 4, 5, 0⟩, .vshup ⟨7, false, .s32, .rne, false, 0x27, 1, 2, 3, 0⟩,
    .vshdn ⟨7, false, .s32, .rne, false, 31, 1, 2, 3, 0⟩, .vrotw ⟨7, false, .s32, .rne, false, 31, 1, 2, 0, 0⟩,
    .vbcast ⟨7, false, .s32, .rne, false, 0, 1, 2, 63, 0⟩, .vreduce ⟨7, false, .f32, .rtz, false, 0, 1, 2, 0, 0⟩,
    .vscan ⟨7, false, .s32, .rne, false, 5, 1, 2, 0, 0⟩, .qswap ⟨7, false, .s32, .rne, false, 2, 1, 2, 0, 0⟩,
    .qbcast ⟨7, false, .s32, .rne, false, 3, 1, 2, 0, 0⟩, .vballot ⟨7, false, .s32, .rne, false, 0, 95, 7, 0, 0⟩,
    .vvote ⟨7, false, .s32, .rne, false, 2, 6, 7, 0, 0⟩, .vmatch ⟨7, false, .s64, .rne, false, 0, 1, 2, 0, 0⟩,
    .pand ⟨7, false, .s32, .rne, false, 0, 1, 2, 3, 0⟩, .por ⟨7, false, .s32, .rne, false, 0, 1, 2, 3, 0⟩,
    .pxor ⟨7, false, .s32, .rne, false, 0, 1, 2, 3, 0⟩, .pnot ⟨7, false, .s32, .rne, false, 0, 1, 2, 0, 0⟩,
    .pset ⟨7, false, .s32, .rne, false, 31, 1, 9, 0, 0⟩, .pget ⟨7, false, .s32, .rne, false, 0, 1, 0, 0, 0⟩] : List Instr),
    Runs i tw := all_runs (by decide +kernel)

theorem test_runs_vmem : ∀ i ∈ ([.vld ⟨7, false, .w128, .acq, 4, 5, 0, 0, false, 0, 9⟩, .vst ⟨7, false, .w64, .rel, 4, 5, 0, 0, false, 0, 9⟩,
    .vgather ⟨7, false, .w32, .acq, 4, 5, 6, 3, false, 2, 9⟩, .vscatter ⟨7, false, .w8, .none, 4, 5, 6, 2, true, 2, 9⟩,
    .vldstep ⟨7, false, .w32, .none, 4, 6, 8, 2, false, 2, 9⟩, .vpref ⟨7, false, .w8, .none, 0, 5, 6, 2, false, 2, 9⟩,
    .vspill ⟨7, false, .w32, .none, 4, 0, 0, 0, false, 0, 1⟩, .vfill ⟨7, false, .w32, .none, 4, 0, 0, 0, false, 0, 1⟩,
    .vatom ⟨7, false, .w64, .acqrel, 4, 5, 6, 2, false, 0, 9⟩, .vred ⟨7, false, .w32, .rel, 4, 5, 6, 2, false, 0, 11⟩,
    .vld32Short ⟨7, 1, 2, 3⟩, .vst32Short ⟨7, 1, 2, 3⟩] : List Instr), Runs i tw := all_runs (by decide +kernel)

theorem test_runs_units : ∀ i ∈ ([.fence ⟨0, 0, 0, 0, 3⟩, .binit ⟨0, 5, 6, 0, 0⟩, .barrive ⟨5, 6, 7, 0, 0⟩, .bwait ⟨0, 5, 6, 0, 0⟩,
    .btest ⟨4, 5, 6, 0, 0⟩, .wsync ⟨0, 5, 0, 0, 0⟩, .cvinit ⟨0, 5, 0, 0, 7⟩, .mwait ⟨4, 5, 6, 0, 9⟩,
    .qpush ⟨7, false, .s32, .rne, false, 15, 0, 5, 0, 0⟩, .qpop ⟨7, false, .s32, .rne, false, 15, 0, 5, 0, 0⟩,
    .qpops ⟨7, false, .s32, .rne, false, 0, 4, 5, 0, 0⟩, .qstat ⟨7, false, .s32, .rne, false, 0, 4, 0, 0, 0⟩,
    .mma ⟨0, 1, 2, 3, 0, 4, .bf16⟩, .mmas ⟨7, 1, 2, 3, 4, 5, .e2m1⟩, .mmai ⟨0, 1, 2, 3, 0, 4, .n8⟩, .mmax ⟨0, 1, 2, 3, 4, 5, .e4m3⟩,
    .awin ⟨0, 0, 1, 2, 0, 0, .bf16⟩, .azero ⟨0, 0, 0, 0, 0, 4, .bf16⟩, .ald ⟨5, 0, 1, 2, 0, 4, .bf16⟩, .ast ⟨5, 0, 1, 2, 0, 4, .bf16⟩,
    .arstat ⟨5, 4, 0, 0, 0, 4, .bf16⟩, .gattach ⟨4, 5, 0, 0, 0, 0, 0⟩, .gstep ⟨0, 5, 0, 0, 0, 6, 1⟩, .gstat ⟨4, 5, 0, 0, 6, 0, 0⟩,
    .gdetach ⟨0, 5, 0, 0, 0, 0, 0⟩] : List Instr), Runs i tw := all_runs (by decide +kernel)

theorem test_runs_stoker : ∀ i ∈ ([.cpy ⟨1, 2, 3, 4, 5, 6, 2⟩, .cpyg ⟨1, 2, 3, 4, 5, 6, 2⟩, .cpyz ⟨1, 0, 3, 4, 5, 6, 0⟩,
    .sealRecord ⟨1, 0, 0, 4, 0, 0, 1⟩, .strdef ⟨1, 2, 0, 0, 7, 0, 0⟩, .strrun ⟨1, 0, 0, 0, 7, 0, 0⟩, .twany ⟨1, 2, 0, 0, 0, 0, 0⟩,
    .twall ⟨0, 2, 0, 0, 0, 0, 0⟩, .tfirst ⟨1, 2, 0, 0, 0, 0, 0⟩, .tclr ⟨0, 2, 0, 0, 0, 0, 0⟩, .exit, .sadd ⟨1, 2, 3, 0, 0⟩,
    .qpush ⟨7, false, .s32, .rne, false, 15, 0, 5, 0, 0⟩, .barrive ⟨5, 6, 7, 0, 0⟩, .gattach ⟨4, 5, 0, 0, 0, 0, 0⟩] : List Instr),
    Runs i tk := all_runs (by decide +kernel)

theorem test_runs_control : (∀ i ∈ ([.kscan ⟨4, 5, 0, 0, 2⟩, .jappend ⟨0, 4, 5, 6, 15⟩, .jread ⟨4, 5, 6, 0, 0⟩, .vdrd ⟨4, 5, 6, 7, 0⟩,
    .qrd ⟨4, 5, 6, 7, 2⟩, .irtrd ⟨4, 5, 6, 7, 4⟩, .vdcmdStart ⟨4, 5, 6, 7, 6⟩, .vdcmdRetire ⟨4, 5, 6, 7, 7⟩, .irqsend ⟨0, 5, 6, 0, 0⟩,
    .chold ⟨0, 5, 0, 0, 0⟩, .crelease ⟨0, 5, 0, 0, 0⟩, .halt, .wfi, .haltShort, .wfiShort, .swr 1 0x802, .swr 1 0x803,
    .srd 1 0x803] : List Instr), Runs i (tc 0)) ∧
    (∀ i ∈ ([.vdwr ⟨4, 5, 6, 7, 1⟩, .qwr ⟨4, 5, 6, 7, 3⟩, .irtwr ⟨4, 5, 6, 7, 5⟩] : List Instr), Runs i (tc 2)) ∧
    (∀ i ∈ ([.vdcmdKill ⟨4, 5, 6, 7, 8⟩] : List Instr), Runs i (tc 4)) :=
  ⟨all_runs (by decide +kernel), all_runs (by decide +kernel), all_runs (by decide +kernel)⟩

/-! Witnesses for the hypotheses of the scalar and system statements. -/

theorem test_live : tw.live tw.cur = true ∧ tk.live tk.cur = true ∧ (tc 0).live (tc 0).cur = true ∧ (tc 6).live (tc 6).cur = true := by
  decide +kernel

theorem test_branch_targets :
    ((tw.setSreg 5 0x1000).sreg 5).getLsbD 0 = false ∧ Runs (.callr ⟨5, 5, 0, false, 0⟩) (tw.setSreg 5 0x1000) ∧
    ((tw.setSreg 5 0x1001).sreg 5).getLsbD 0 = true ∧ Runs (.ret ⟨5, 0, 0, false, 0⟩) (tw.setSreg 5 0x1001) :=
  ⟨by decide +kernel, rq_runs (by decide +kernel), by decide +kernel, rq_runs (by decide +kernel)⟩

theorem test_brp_reads_clean_predicates :
    tw.cur = .warp 1 0 ∧ (∀ l < 64, bit tw.headMask l = true → (tw.warp 1 0).predPoison l [(3 : BitVec 3).toNat] = none) ∧
    Runs (.brp ⟨0, 0, 3, true, 9⟩) tw ∧ Runs (.brpShort 3 true 9) tw :=
  ⟨rfl, by decide +kernel, rq_runs (by decide +kernel), rq_runs (by decide +kernel)⟩

/-- The placed workgroup with a handler at 0x2000. -/
def th : State := { tw with grids := Table.put 1 { Grid.start with vd := 1, placed := 1, record := { placedRecord with
  words := placedRecord.words.set 7 0x2000 } } tw.grids }

/-- A record of a trap, and of a handler that it entered. -/
def tr : TrapRec := ⟨.sync, 0xD, 0x1008, 1, 0, 0, 0, none⟩
def hh (k : TrapKind) : Handler := ⟨k, 0, ⟨[⟨0, 0x1000, 3⟩], [], []⟩, 0x1008, 1⟩

theorem test_trap_is_held : th.live (.warp 1 0) = true ∧ (th.launchOf 1).thpc ≠ 0 ∧ (th.warp 1 0).handler = [] := by
  decide +kernel

theorem test_trap_is_unhandled : (tw.launchOf 1).thpc = 0 ∧ ((wWith fun w => { w with handler := [hh .sync] }).warp 1 0).handler ≠ [] := by
  decide +kernel

theorem test_tret_in_each_handler : ∀ k ∈ [TrapKind.sync, .async, .slice],
    let s := wWith fun w => { w with handler := [hh k], trapPc := 0x1008 }
    TretForm .tretShort ∧ s.cur = .warp 1 0 ∧ s.live s.cur = true ∧ rq s .tretShort = true ∧ (s.warp 1 0).handler ≠ [] := by
  intro k hk
  refine ⟨.short, rfl, ?_⟩
  revert k
  decide +kernel

theorem test_exit_withdraws : ∀ n < 8, ((tw.warp 1 0).conv n).declared &&& ~~~((tw.warp 1 0).conv n).signed &&& (tw.warp 1 0).head.mask = 0 := by
  decide +kernel

/-- An agent with one load outstanding, and one that waits for it. -/
def oneLoad (a : Agent) : Agent :=
  { a with ops := [⟨0, .loads, .load ⟨.load, 4, false, 5, true, false, 0, 1⟩ [] [⟨0, 0x2000, [], none, []⟩] [] [] []⟩] }

theorem test_wait_both_ways :
    WaitForm ⟨0, 0, 0, 0⟩ (.waitShort ⟨0, 0, 0, 0⟩) 4 ∧ Within (tw.agent tw.cur) ⟨0, 0, 0, 0⟩ ∧
    ¬ Within ((aWith oneLoad).agent (aWith oneLoad).cur) ⟨0, 0, 0, 0⟩ ∧ rq (aWith oneLoad) (.waitShort ⟨0, 0, 0, 0⟩) = true :=
  ⟨.short, by unfold Within; decide +kernel, by unfold Within; decide +kernel, by decide +kernel⟩

theorem test_wait_resumes :
    let s := aWith fun a => { a with wait := some ⟨.counters ⟨0, 0, 0, 0⟩, 0x1000, 0x1008⟩ }
    (s.agent (.warp 1 0)).wait = some ⟨.counters ⟨0, 0, 0, 0⟩, 0x1000, 0x1008⟩ ∧ s.live (.warp 1 0) = true ∧
    s.mayResume (.warp 1 0) = true ∧ Within (s.agent (.warp 1 0)) ⟨0, 0, 0, 0⟩ := by
  unfold Within; decide +kernel

theorem test_wfi_both_ways : (tc 0).ipend 0 = 0 ∧ ((tc 0).updCtl 0 fun x => { x with pendTimer := true }).ipend 0 ≠ 0 := by decide +kernel

/-- LAUNCH's load answers when both halves of the record are found outside the fabric. -/
theorem launchLoad_found {addr : Word} {s s1 s2 : State} {ls ns : List Loc}
    (hc : s.classify s.cur ⟨.load, 64, false, 0, false, false, s.pc, s.headMask⟩ false ⟨0, addr, [], none, []⟩ = (.ok ls, s1))
    (hd : s1.classify s.cur ⟨.load, 64, false, 0, false, false, s.pc, s.headMask⟩ false ⟨0, addr + 64, [], none, []⟩ = (.ok ns, s2))
    (hf : ¬ (([ls.headD ⟨.hbm, 0⟩, ns.headD ⟨.hbm, 0⟩].flatMap fun l => (List.range 64).map l.plus).any
      fun l => l.space == .fabric) = true) (k : List Byte → State → Res) :
    let places := [ls.headD ⟨.hbm, 0⟩, ns.headD ⟨.hbm, 0⟩].flatMap fun l => (List.range 64).map l.plus
    launchLoad addr s k = k (places.map fun l => (s2.loadByte s.cur l).1) (s2.meterPlaces (s2.vdOf s.cur) places) := by
  unfold launchLoad
  extract_lets places a m
  split
  next f s' h =>
  cases hc.symm.trans h
  split
  next f s' h =>
  cases hd.symm.trans h
  exact if_neg hf

/-- The placed workgroup with the bytes of a launch record at 0x2000: its own record, or zeros. -/
def tl (b : Bool) : State :=
  { tw.setSreg 2 0x2000 with mem := if b then putBytes tw.mem 0x2000 (placedRecord.words.flatMap bytesOf) else tw.mem }

theorem test_launch_loads : ∀ b : Bool, ∃ (u : State) (bs : List Byte),
    Runs (.launch 1 2) (tl b) ∧ groupOf (tl b).cur = some 1 ∧ ((tl b).sreg 2).toNat % 64 = 0 ∧ (tl b).released (tl b).cur = true ∧
    (∀ k, launchLoad ((tl b).sreg 2) (tl b) k = k bs u) ∧
    (LaunchRec.ofBytes bs).invalid (u.vd (u.group 1).vd).cores false = !b := by
  intro b
  refine ⟨_, _, rq_runs (by cases b <;> decide +kernel), rfl, by cases b <;> decide +kernel, by cases b <;> decide +kernel,
    launchLoad_found (ls := [⟨.hbm, 0x2000⟩]) (ns := [⟨.hbm, 0x2040⟩]) (Prod.ext (by cases b <;> decide +kernel) rfl)
      (Prod.ext (by cases b <;> decide +kernel) rfl) (by decide +kernel), by cases b <;> decide +kernel⟩

/-! Witnesses for the hypotheses of the lane statements. -/

theorem test_unpoisoned : ∀ i ∈ ([.vmad ⟨7, false, .s32, .rne, false, 0, 1, 2, 3, 4⟩, .cMov ⟨false, 1, 2⟩, .vaddminS32Short ⟨7, 1, 2, 3⟩,
    .vintiVaddmin ⟨7, false, 1, 2, 1, 9⟩, .vintiVcmpEqShort ⟨7, 1, 2, 9⟩, .vcmpLtS32Short ⟨7, 1, 2, 3⟩, .fcmpLtF32Short ⟨7, 1, 2, 3⟩,
    .ffma ⟨7, false, .f64, .rup, false, 0, 2, 4, 6, 8⟩, .ffmaF32Short ⟨7, 1, 2, 3⟩, .fclass ⟨7, false, .f32, .rne, false, 0, 1, 2, 0, 0⟩,
    .fexp2 ⟨7, false, .f32, .rne, false, 0, 1, 2, 0, 0⟩, .cvt ⟨7, false, .f32, .rtz, true, 0xB, 1, 2, 0, 0⟩,
    .pack ⟨7, false, .e4m3x4, .rsr, true, 2, 1, 2, 4, 0⟩, .unpack ⟨7, false, .f32, .rne, false, 9, 1, 2, 3, 5⟩,
    .unpack ⟨7, false, .s32, .rne, false, 7, 1, 2, 3, 0⟩] : List Instr),
    Unpoisoned (tw.warp 1 0) 7 false (sourceTag i (tw.warp 1 0)) := by
  unfold Unpoisoned; decide +kernel

theorem test_unpoisoned_select : Unpoisoned (tw.warp 1 0) 7 false (fun l => minProv ((tw.warp 1 0).predPoison l [3])
    (sourceTag (.vselShort ⟨3, 1, 2, 3⟩) (tw.warp 1 0) l)) := by
  unfold Unpoisoned; decide +kernel

theorem test_unpack_of_either_kind :
    rq tw (.unpack ⟨7, false, .s32, .rne, false, 7, 1, 2, 3, 0⟩) = true ∧
    Ty.isInt (elementTy (sourceTy ⟨7, false, .s32, .rne, false, 7, 1, 2, 3, 0⟩)) = true ∧
    Ty.isInt (elementTy (sourceTy ⟨7, false, .f32, .rne, false, 9, 1, 2, 3, 5⟩)) = false := by decide +kernel

theorem test_mxscale_is_clean : ∀ l < 64, bit (tw.warp 1 0).head.mask l = true → (tw.warp 1 0).predPoison l [(7 : BitVec 3).toNat] = none ∧
    (tw.warp 1 0).sourcePoison l [((2 : Reg), 1)] = none := by decide +kernel

theorem test_cross_lane_clean : (tw.warp 1 0).vpoison = [] ∧ (tw.warp 1 0).ppoison = [] ∧
    (∀ l < 64, (tw.warp 1 0).predPoison l [(7 : BitVec 3).toNat] = none) ∧
    WholeUnpoisoned (tw.warp 1 0) ⟨7, false, .f32, .rtz, false, 0, 1, 2, 0, 0⟩ [7]
      (laneSources 0x0C 5 ⟨7, false, .f32, .rtz, false, 0, 1, 2, 0, 0⟩) ∧
    WholeUnpoisoned (tw.warp 1 0) ⟨7, false, .s32, .rne, false, 2, 6, 7, 0, 0⟩ [7, 7] [] := by
  unfold WholeUnpoisoned; decide +kernel

/-- VADD reads a register whose thread 5 is poisoned. -/
theorem test_poisoned_lane :
    let s := wWith fun w => { w with vpoison := [(vkey 2 5, 0x123)] }
    let o : GV := ⟨7, false, .s32, .rne, false, 0, 1, 2, 3, 0⟩
    let w := s.warp 1 0
    let tag (l : Nat) : Option Prov := if (w.predPoison l [o.p.toNat]).isSome then w.predPoison l [o.p.toNat]
      else if bit (w.active o.p o.pneg) l then sourceTag (.vadd o) w l else none
    s.cur = .warp 1 0 ∧ rq s (.vadd o) = true ∧ (maskOf fun l => bit w.issueMask l && (tag l).isSome) = 0x20 := by decide +kernel

/-! Witnesses for the hypotheses of the memory statements. -/

/-- The lanes' places in turn, when all are found. -/
def findAll (a : AgentId) (m : MemOp) : State → List LaneAcc → Option (List (LaneAcc × List Loc) × State)
  | s, [] => some ([], s)
  | s, x :: xs =>
    match s.classify a m false x with
    | (.ok ls, v) => if ls.all (fun l => l.space != .fabric) then (findAll a m v xs).map fun r => ((x, ls) :: r.1, r.2) else none
    | _ => none

theorem foundAll_of {a m} : ∀ {xs s ys u}, findAll a m s xs = some (ys, u) → FoundAll a m s xs ys u := by
  intro xs
  induction xs with
  | nil => intro s ys u h; cases h; exact .none s
  | cons x xs ih =>
    intro s ys u h
    unfold findAll at h
    split at h
    · next ls v hc =>
      split at h
      · next hl =>
        rcases hr : findAll a m v xs with _ | ⟨r, w⟩
        · rw [hr] at h; cases h
        · rw [hr] at h
          cases h
          exact .lane hc (fun l hm => by simpa using List.all_eq_true.mp hl l hm) (ih hr)
      · cases h
    · cases h

/-- The hypotheses of an issue that speak of the state after the walks. -/
def issues (s : State) (c : OpClass) (m : MemOp) (xs : List LaneAcc) (ok : List (LaneAcc × List Loc) → State → Bool) : Bool :=
  !(s.vd (s.vdOf s.cur)).hbmHeld && !(s.vd (s.vdOf s.cur)).linkHeld && s.pairing.isEmpty && !s.memStalled s.cur c m xs && s.released s.cur &&
  match findAll s.cur m s xs with
  | some (ys, u) => decide (u.l1Choice = []) && u.live s.cur &&
      (match u.coreOf s.cur with | some k => (u.core k).wc.isEmpty && (u.core k).l1.isEmpty | none => true) &&
      (u.agent s.cur).ops.isEmpty && ok ys u
  | none => false

theorem issues_found {s c m xs ok} (h : issues s c m xs ok = true) : Flows s s.cur ∧ s.memStalled s.cur c m xs = false ∧ s.released s.cur = true ∧
    ∃ ys u, FoundAll s.cur m s xs ys u ∧ u.l1Choice = [] ∧ Combining u s.cur ∧ u.live s.cur = true ∧
      (∀ k, u.coreOf s.cur = some k → (u.core k).l1 = []) ∧ (u.agent s.cur).ops = [] ∧ ok ys u = true := by
  unfold issues at h
  split at h
  · next ys u hf =>
    simp only [Bool.and_eq_true, Bool.not_eq_true', decide_eq_true_eq, List.isEmpty_iff] at h
    obtain ⟨⟨⟨⟨⟨a1, a2⟩, a3⟩, h1⟩, h2⟩, ⟨⟨⟨⟨h3, h4⟩, h5⟩, h6⟩, h7⟩⟩ := h
    refine ⟨⟨a1, a2, .inl a3⟩, h1, h2, ys, u, foundAll_of hf, h3, ?_, h4, ?_, h6, h7⟩
    · intro k hk e he
      rw [hk] at h5
      simp only [Bool.and_eq_true, List.isEmpty_iff] at h5
      rw [h5.1] at he; cases he
    · intro k hk
      rw [hk] at h5
      simp only [Bool.and_eq_true, List.isEmpty_iff] at h5
      exact h5.2
  · simp at h

/-- Two threads with bases at 0x2000, their own index registers 0, in a warp with one entry. -/
def tm : State :=
  (([5, 6, 2].foldl (fun s r => s.setSreg r 0x2000) tw).updWarp 1 0 fun w => { w with frontier := [⟨0, 0x1000, 3⟩] })

theorem test_scalar_memory_issues :
    SldForm (.sld64Short 4 5 1) 4 ⟨4, 5, 3, (1 : BitVec 10).signExtend 32 <<< 3⟩ ∧ rq tm (.sld64Short 4 5 1) = true ∧
    issues tm .loads ⟨.load, 8, false, 4, false, false, tm.pc, tm.headMask⟩ [⟨0, 0x2008, [], none, []⟩]
      (fun ys _ => ys.all fun y => y.2.length == 1) = true ∧
    SstForm (.sst64Short 4 5 1) 4 ⟨4, 5, 3, (1 : BitVec 10).signExtend 32 <<< 3⟩ ∧ rq tm (.sst64Short 4 5 1) = true ∧
    issues tm .stores ⟨.store, 8, false, 0, false, false, tm.pc, tm.headMask⟩ [⟨0, 0x2008, leB 8 0, none, []⟩]
      (fun ys _ => ys.all fun y => y.2.length == 1) = true ∧
    (∀ sd ∈ [(0 : Reg), 4], rq tm (.satom ⟨sd, 5, 6, 0, 13⟩) = true ∧
      issues tm (if sd = 0 then .stores else .loads) ⟨.atomic (satomCode 13).1 (sd != 0), (satomCode 13).2, false, sd, false, false, tm.pc,
        tm.headMask⟩ [⟨0, 0x2000, leB (satomCode 13).2 0x2000, none, leB (satomCode 13).2 0⟩]
        (fun ys u => ys.all fun y => y.2.length == 1 && y.2.all fun l => l.space == .hbm && (u.trackedLines (writesAt l y.1.data none)).isEmpty) = true) :=
  ⟨.short _ _ _, by decide +kernel, by decide +kernel, .short _ _ _, by decide +kernel, by decide +kernel, by decide +kernel⟩

/-- A load, a gather, a store, a scatter, a step load and the atomics find both lanes, and a load with no active lane none. -/
theorem test_vector_memory_issues :
    let m (act : MemAct) (n : Nat) (d : Reg) (q : Bool) : MemOp := ⟨act, n, true, d, false, q, tm.pc, tm.headMask⟩
    let lanes (unit at_ : Bool) (o : GM) (x y : Option Nat) := tm.vmemLanes (tm.warp 1 0) unit at_ o x y
    let ok (ys : List (LaneAcc × List Loc)) (_ : State) : Bool := ys.length == 2 && ys.all fun y => y.2.length == 1
    let ld : GM := shortVM ⟨7, 4, 5, 2⟩
    let ga : GM := ⟨7, false, .w64, .acq, 4, 5, 8, 2, true, 3, 8⟩
    let va : GM := ⟨7, false, .w32, .none, 4, 5, 8, 2, false, 0, 9⟩
    rq tm (.vld32Short ⟨7, 4, 5, 2⟩) = true ∧ (lanes true false ld none none).1 = [] ∧
    issues tm .loads (m .load 4 4 false) (lanes true false ld none none).2 ok = true ∧
    rq tm (.vgather ga) = true ∧ (lanes false false ga none none).1 = [] ∧
    issues tm .loads (m .load 8 4 true) (lanes false false ga none none).2 ok = true ∧
    (lanes true false { ld with p := 3 } none none) = ([], []) ∧
    rq tm (.vst32Short ⟨7, 4, 5, 2⟩) = true ∧ (lanes true false ld (some 4) none).1 = [] ∧
    issues tm .stores (m .store 4 4 false) (lanes true false ld (some 4) none).2 ok = true ∧
    rq tm (.vldstep { va with sa := 2, off := 8 }) = true ∧ (lanes false false { va with sa := 2, off := 8 } none none).1 = [] ∧
    issues tm .loads (m (.step (tm.sreg 3)) 4 4 false) (lanes false false { va with sa := 2, off := 8 } none none).2 ok = true ∧
    rq tm (.vatom va) = true ∧ (lanes false true va (some 4) (some 5)).1 = [] ∧
    issues tm .loads (m (.atomic 9 true) 4 4 false) (lanes false true va (some 4) (some 5)).2 ok = true ∧
    rq tm (.vred { va with off := 11 }) = true ∧ (lanes false true { va with off := 11 } (some 4) none).1 = [] ∧
    issues tm .stores (m (.atomic 11 false) 4 4 false) (lanes false true { va with off := 11 } (some 4) none).2 ok = true := by
  decide +kernel

/-- One lane for a single atomic. -/
theorem test_one_lane_atomic :
    let s := tm.updWarp 1 0 fun w => { w with frontier := [⟨0, 0x1000, 2⟩] }
    let va : GM := ⟨7, false, .w32, .none, 4, 5, 8, 2, false, 0, 9⟩
    issues s .loads ⟨.atomic 9 true, 4, true, 4, false, false, s.pc, s.headMask⟩
      (s.vmemLanes (s.warp 1 0) false true va (some 4) (some 5)).2 (fun ys u => ys.length == 1 && ys.all fun y => y.2.length == 1 && y.1.prov.isNone &&
        y.2.all fun l => (u.trackedLines (writesAt l y.1.data none)).isEmpty) = true := by
  decide +kernel

theorem test_spill_and_fill_issue :
    let w := tm.warp 1 0
    let x (d : List Byte) : LaneAcc := ⟨0, w.spillSp, d, none, []⟩
    w.spillSp.toNat % 16 = 0 ∧ (tm.spillArea 1 0).1 ≤ w.spillSp.toNat ∧
    w.spillSp.toNat + 272 ≤ (tm.spillArea 1 0).1 + (tm.spillArea 1 0).2 ∧
    rq tm (.vspill ⟨7, false, .w32, .none, 4, 0, 0, 0, false, 0, 0⟩) = true ∧
    issues tm .stores ⟨.spill, 272, true, 4, false, false, tm.pc, tm.headMask⟩ [x (w.spillSlot 4)] (fun _ _ => true) = true ∧
    rq tm (.vfill ⟨7, false, .w32, .none, 4, 0, 0, 0, false, 0, 0⟩) = true ∧
    issues tm .loads ⟨.fill, 272, true, 4, false, false, tm.pc, tm.headMask⟩ [x []] (fun _ _ => true) = true := by
  decide +kernel

/-- The placed warp with one operation. -/
def oneOp (c : OpClass) (k : OpWork) : State := aWith fun a => { a with ops := [⟨9, c, k⟩] }
def plainOp (act : MemAct) : MemOp := ⟨act, 4, true, 4, false, false, 0x1000, 1⟩

theorem test_operations_complete :
    let l := oneOp .loads (.load (plainOp .load) [.scalar 4 7 none] [] [] [] [])
    let v := oneOp .loads (.load (plainOp .load) [.vector (vkey 4 0) 7 none, .vector (vkey 4 1) 8 none] [] [] [] [])
    let w : List ByteWrite := [⟨⟨.hbm, 0x2000⟩, 1, none⟩, ⟨⟨.hbm, 0x2001⟩, 2, none⟩]
    let t := oneOp .stores (.store (plainOp .store) w [] [])
    let k := oneOp .stores (.tracked (plainOp .store) [.scalar 4 7 none] [] [] [])
    (∀ s ∈ [l, v, t, k], s.live (.warp 1 0) = true) ∧
    l.op? (.warp 1 0) 9 = some ⟨9, .loads, .load (plainOp .load) [.scalar 4 7 none] [] [] [] []⟩ ∧
    v.op? (.warp 1 0) 9 = some ⟨9, .loads, .load (plainOp .load) [.vector (vkey 4 0) 7 none, .vector (vkey 4 1) 8 none] [] [] [] []⟩ ∧
    [vkey 4 0, vkey 4 1].Nodup ∧
    t.op? (.warp 1 0) 9 = some ⟨9, .stores, .store (plainOp .store) w [] []⟩ ∧
    (t.agent (.warp 1 0)).ops.takeWhile (fun q => q.id != 9) = [] ∧ (w.map fun x => x.loc.key).Nodup ∧ (w.all fun x => x.loc.space == .hbm) ∧
    k.op? (.warp 1 0) 9 = some ⟨9, .stores, .tracked (plainOp .store) [.scalar 4 7 none] [] [] []⟩ ∧
    k.remoteIds = [] ∧ (∀ e ∈ k.cores, e.2.wc = []) := by
  decide +kernel

/-- A partition of 8 cells with a ghost cell at each end, its first slab at 0x2000, untagged, and a workgroup attached to it. -/
def gr : GridRec := ⟨0x2000, 2, 1, 1, 1, [8, 1, 1], [1, 1, 0, 0, 0, 0], [0, 0, 0, 0, 0, 0], 0, [], 5, 1, []⟩
def withPart (s : State) : State :=
  { s.updGroup 1 fun x => { x with attached := [⟨0x3000, 0, 5, 1⟩] } with parts := [(0, Partition.start 1 gr 0 0)] }

theorem test_step_wait_ends :
    let x : LaneAcc := ⟨0, 0x2000, [], none, []⟩
    let m := plainOp (.step 1)
    let s := withPart (oneOp .loads (.load m [] [x] [] [] []))
    let r := s.updPart 0 fun p => { p with tags := [some 1] }
    let h : State := { s with grids := th.grids }
    s.op? (.warp 1 0) 9 = some ⟨9, .loads, .load m [] [x] [] [] []⟩ ∧ s.live (.warp 1 0) = true ∧
    (r.classify (.warp 1 0) m false x).1 = .ok [⟨.hbm, 0x2000⟩] ∧ (h.classify (.warp 1 0) m true x).1 = .cause .haloStale none ∧
    (h.launchOf 1).thpc ≠ 0 ∧ (h.warp 1 0).handler = [] ∧ h.live (.warp 1 0) = true ∧
    r.op? (.warp 1 0) 9 = s.op? (.warp 1 0) 9 ∧ h.op? (.warp 1 0) 9 = s.op? (.warp 1 0) 9 ∧ ∀ u ∈ [r, h], (u.core 0).wc = [] ∧ (u.core 0).l1 = [] := by
  decide +kernel

/-! Witnesses for the hypotheses of the synchronisation, queue and control-core statements. -/

/-- The scratchpad byte `k` of the placed workgroup, and a scratchpad word there. -/
def lo (k : Nat) : Loc := ⟨.scratch 1, k⟩
def withWord (s : State) (k : Nat) (v : Word) : State := { s with mem := putBytes s.mem (Loc.key (lo k)) (bytesOf v) }
def atScratch (k : Nat) : Word := BitVec.ofNat 64 (2 ^ 63 + k)

theorem test_fence_both_ways :
    let s := oneOp .stores (.store (plainOp .store) [] [] [])
    tw.released tw.cur = true ∧ s.released s.cur = false ∧ rq s (.fence ⟨0, 0, 0, 0, 2⟩) = true ∧
    tw.loadsBound tw.cur = true ∧ (aWith oneLoad).loadsBound (aWith oneLoad).cur = false := by decide +kernel

/-- A barrier object at 64 with two arrivals to come of three. -/
def tb : State := withWord (withWord ((tw.setSreg 5 (atScratch 64)).setSreg 6 2) 64 2) 72 3

theorem test_barrier_is_found : tb.barrierAt tb.cur (tb.sreg 5) = .ok (lo 64) := by decide +kernel

theorem test_barrier_hypotheses :
    rq tb (.binit ⟨0, 5, 6, 0, 0⟩) = true ∧ (tb.sreg 6).toNat ≠ 0 ∧ (tb.sreg 6).toNat < 2 ^ 40 ∧ tb.classFull tb.cur .stores = false ∧
    rq tb (.barrive ⟨4, 5, 0, 0, 0⟩) = true ∧ tb.poisonOf (lo 64) 16 = none ∧ tb.released tb.cur = true ∧
    (∀ w : Bool, tb.syncStalled tb.cur (tb.sreg 5) 16 w = false) ∧
    (wordOf (tb.readBytes (lo 64) 8)).toNat % 2 ^ 40 = 2 ∧ (wordOf (tb.readBytes (lo 72) 8)).toNat % 2 ^ 40 = 3 ∧
    (wordOf ((withWord tb 72 0).readBytes (lo 72) 8)).toNat % 2 ^ 40 = 0 ∧ (tb.agent tb.cur).ops = [] ∧
    tb.phase (lo 64) = false ∧ (withWord tb 64 (2 ^ 63)).phase (lo 64) = true ∧
    rq tb (.bwait ⟨0, 5, 6, 0, 0⟩) = true ∧ rq tb (.btest ⟨4, 5, 6, 0, 0⟩) = true := by decide +kernel

theorem test_bwait_completes :
    let s := tb.updAgent tb.cur fun a => { a with wait := some ⟨.barrier (lo 64) true true, 0x1000, 0x1008⟩ }
    (s.agent (.warp 1 0)).wait = some ⟨.barrier (lo 64) true true, 0x1000, 0x1008⟩ ∧ s.mayResume (.warp 1 0) = true := by decide +kernel

/-- WSYNC with a head inside its mask, equal to it, and outside it. -/
theorem test_wsync_masks :
    let s (v : Nat) := (tw.setSreg 5 (BitVec.ofNat 64 v)).updWarp 1 0 fun w => { w with frontier := [⟨0, 0x1000, 3⟩] }
    let m (v : Nat) := (s v).sreg 5 &&& ~~~(((s v).warp 1 0).exited ||| ((s v).warp 1 0).unstarted)
    (∀ v ∈ [3, 7, 1], rq (s v) (.wsync ⟨0, 5, 0, 0, 0⟩) = true ∧ ((s v).warp 1 0).groups = []) ∧
    ((s 3).warp 1 0).head.mask &&& ~~~(m 3) = 0 ∧ ((s 3).warp 1 0).head.mask = m 3 ∧
    ((s 7).warp 1 0).head.mask &&& ~~~(m 7) = 0 ∧ ((s 7).warp 1 0).head.mask ≠ m 7 ∧ ((s 1).warp 1 0).head.mask &&& ~~~(m 1) ≠ 0 := by
  decide +kernel

theorem test_cvinit_both_ways : ((tw.warp 1 0).conv 7).signed = 0 ∧
    (((wWith fun w => { w with convs := [(7, { (Warp.start.conv 7) with signed := 1 })] }).warp 1 0).conv 7).signed ≠ 0 := by
  decide +kernel

theorem test_mwait_hypotheses :
    let s := tw.setSreg 5 (atScratch 64)
    let m : MemOp := ⟨.load, 8, false, 0, false, false, s.pc, s.headMask⟩
    let w := s.updAgent s.cur fun a => { a with wait := some ⟨.word (atScratch 64) 3 7 4, 0x1000, 0x1008⟩ }
    ∀ u ∈ [s, w], rq s (.mwait ⟨4, 5, 6, 0, 9⟩) = true ∧
    (u.classify u.cur m false ⟨0, u.sreg 5, [], none, []⟩).1 = .ok [lo 64] ∧
    ((u.classify u.cur m false ⟨0, u.sreg 5, [], none, []⟩).2.agent u.cur).ops = [] ∧
    (u.classify u.cur m false ⟨0, u.sreg 5, [], none, []⟩).2.poisonOf (lo 64) 8 = none ∧ w.mayResume w.cur = true ∧
    u.syncStalled u.cur (atScratch 64) 8 false = false ∧ (u.vd (u.vdOf u.cur)).hbmHeld = false ∧
    (w.agent w.cur).wait = some ⟨.word (atScratch 64) 3 7 4, w.pc, 0x1008⟩ := by decide +kernel

/-- The placed workgroup with queue 0 empty, holding one entry, and full. -/
def tq (n : Nat) : State := (tw.setSreg 5 (atScratch 64)).updGroup 1 fun x => { x with
  queues := [(0, ⟨4096, 1, 4, BitVec.ofNat 16 n, BitVec.ofNat 16 n, 0, 0, [], []⟩)] }
def fq (n : Nat) : FeedQueue := ⟨4096, 1, 4, BitVec.ofNat 16 n, BitVec.ofNat 16 n, 0, 0, [], []⟩

theorem test_queue_is_checked : (∀ p : Bool, (tq 0).queueCheck 0 (atScratch 64) p = .ok (fq 0)) ∧
    (∀ p : Bool, (tq 1).queueCheck 0 (atScratch 64) p = .ok (fq 1)) ∧ ∀ p : Bool, (tq 2).queueCheck 0 (atScratch 64) p = .ok (fq 2) :=
  by decide +kernel

theorem test_queue_hypotheses : (∀ n ∈ [0, 1, 2], (tq n).live (tq n).cur = true ∧ groupOf (tq n).cur = some 1 ∧
      (tq n).feedQueue 1 0 = some (fq n) ∧ (∀ p : Bool, (tq n).moveStalled (tq n).cur (fq n) (atScratch 64) p = false) ∧ (tq n).sreg 5 = atScratch 64 ∧
      rq (tq n) (.qpush ⟨7, false, .s32, .rne, false, 0, 0, 5, 0, 0⟩) = true ∧ (tq n).released (tq n).cur = true ∧
      rq (tq n) (.qpop ⟨7, false, .s32, .rne, false, 0, 0, 5, 0, 0⟩) = true ∧
      rq (tq n) (.qpops ⟨7, false, .s32, .rne, false, 0, 4, 5, 0, 0⟩) = true ∧
      rq (tq n) (.qstat ⟨7, false, .s32, .rne, false, 0, 4, 0, 0, 0⟩) = true) ∧
    (fq 0).room ≠ 0 ∧ (fq 0).avail = 0 ∧ (fq 1).avail ≠ 0 ∧ (fq 2).room = 0 := by decide +kernel

theorem test_queue_waits_resume :
    let s (push : Bool) := (tq 1).updAgent (.warp 1 0) fun a =>
      { a with wait := some ⟨if push then .pushFull 0 (atScratch 64) else .popEmpty 0 (atScratch 64), 0x1000, 0x1008⟩ }
    ∀ push : Bool, ((s push).agent (.warp 1 0)).wait = some ⟨if push then .pushFull 0 (atScratch 64) else .popEmpty 0 (atScratch 64), 0x1000, 0x1008⟩ ∧
      (s push).mayResume (.warp 1 0) = true ∧
      (s push).feedQueue 1 0 = some (fq 1) ∧ (s push).moveStalled (.warp 1 0) (fq 1) (atScratch 64) (!push) = false ∧ (fq 1).room ≠ 0 ∧ (fq 1).avail ≠ 0 := by
  decide +kernel

theorem test_queue_move_completes :
    let s := (tq 1).updAgent (.warp 1 0) fun a => { a with ops := [⟨9, .copies, .queue ⟨false, 0, 0, atScratch 64⟩⟩] }
    s.op? (.warp 1 0) 9 = some ⟨9, .copies, .queue ⟨false, 0, 0, atScratch 64⟩⟩ ∧ s.live (.warp 1 0) = true ∧
    s.feedQueue 1 0 = some (fq 1) ∧ s.target (.warp 1 0) (atScratch 64) = .at_ (lo 64) 4352 ∧
    (s.agent (.warp 1 0)).ops.takeWhile (fun x => x.id != 9) = [] ∧ s.releasedBefore (.warp 1 0) (some 9) = true ∧
    s.engineBusy (s.lockCore (.warp 1 0) ⟨false, .scratch 1, 64, 16⟩) 9 (s.vdOf (.warp 1 0)) (s.rootOf (.warp 1 0)) ⟨false, .scratch 1, 64, 16⟩ true = false := by decide +kernel

/-- A control core with queue 5 kicked and in states 0 and 1, its latch in range or out of it. -/
def tkick (st : BitVec 3) (latch : W32) : State := { tc 0 with queues := [(5, { Queue.start with kick := true, state := st, latch := latch })] }

theorem test_scan_hypotheses : Table.rising (tkick 1 1).queues = true ∧ (∀ e ∈ (tkick 1 1).queues, e.1 < 1024) ∧
    Queue.kick ((tkick 1 1).queue 5) = true ∧ (∀ r < 1024, Queue.kick ((tkick 1 1).queue r) = true → (5 + 1024 - 0) % 1024 ≤ (r + 1024 - 0) % 1024) ∧
    ((tkick 0 1).queue 5).state.toNat ∉ [1, 2, 3] ∧ ((tkick 1 1).queue 5).state.toNat ∈ [1, 2, 3] ∧
    (1 : W32).toNat ≤ 2 ^ ((tkick 1 1).queue 5).qsize ∧ 2 ^ ((tkick 1 5).queue 5).qsize < (5 : W32).toNat := by decide +kernel

theorem test_journal_hypotheses :
    let s : State := (tc 0).setPair 0 { (tc 0).pair 0 with jnext := 3, jtrim := 1, journal := [(2, ⟨4, 5, 6, 7⟩)] }
    let p := s.pair 0
    (2 - p.jtrim).toNat < (p.jnext - p.jtrim).toNat ∧ Table.look p.journal ((2 : W32).toNat % 8192) = some ⟨4, 5, 6, 7⟩ ∧
    (p.jnext - p.jtrim).toNat ≤ ((3 : W32) - p.jtrim).toNat := by decide +kernel

theorem test_kill_states : ((tc 4).vd 3).kill = none ∧ (∀ k ∈ [[], [Engine.stations]],
    (((tc 4).updVd 3 fun v => { v with kill := some k }).vd 3).kill = some k) := by decide +kernel

theorem test_start_and_retire_refuse :
    let s (st : BitVec 3) : State := { tw with queues := [(5, { Queue.start with vd := 1, state := st })] }
    ((s 0).vd ((s 0).queue 5).vd.toNat).works = true ∧ ((s 0).queue 5).next.toNat = 0 ∧ ((s 0).queue 5).state.toNat ∉ [1, 2, 3] ∧
    ((s 2).queue 5).tail.toNat = 0 ∧ ((s 2).vd 0).state ≠ 2 ∧ ((s 2).queue 5).runs = [] := by decide +kernel

theorem test_release_hypotheses : (∀ n < 1024, (tc 0).irtEntry n = (tc 0).irtEntry 0 ∧ ((tc 0).queue n).staged = []) ∧
    ((tc 0).irtEntry 0).pending = 0 := by decide +kernel

/-! Witnesses for the hypotheses of the matrix statements. -/

/-- The placed workgroup with 64 KiB of scratchpad, a head of thread 0, operands at its start and at 8 KiB, a C group with the given
declared and signed threads. -/
def tx (declared signed : Mask) : State :=
  ((((tw.setSreg 1 (atScratch 0)).setSreg 2 (atScratch 8192)).setSreg 3 1).updWarp 1 0 fun w => { w with
    frontier := [⟨0, 0x1000, 1⟩]
    convs := [(0, { (Warp.start.conv 0) with declared := declared, signed := signed })] }).updGroup 1 fun x => { x with extent := 65536 }

/-- It signs, it completes, it is outside its set, and it completes with no C rows of a code. -/
theorem test_matrix_signs :
    let mma : Instr := .mma ⟨0, 4, 1, 2, 0, 0, .bf16⟩
    (∀ d ∈ [3, 1, 2], (tx (BitVec.ofNat 64 d) 0).live (.warp 1 0) = true ∧ rq (tx (BitVec.ofNat 64 d) 0) mma = true ∧
      ((tx (BitVec.ofNat 64 d) 0).warp 1 0).head.mask = 1 ∧ ((tx (BitVec.ofNat 64 d) 0).warp 1 0).conv 0 =
        { (Warp.start.conv 0) with declared := BitVec.ofNat 64 d } ∧ (tx (BitVec.ofNat 64 d) 0).classFull (.warp 1 0) .tiles = false) ∧
    ((Warp.start.conv 0).signed = 0) ∧ rq (tx 1 0) (.mmas ⟨0, 4, 1, 2, 0, 0, .bf16⟩) = true ∧ ((tx 1 0).sreg 0).toNat % 4 = 0 ∧ ncode ((tx 1 0).sreg 0) = 0 ∧
    rq (tx 1 0) (.mmas ⟨0, 4, 1, 2, 3, 0, .bf16⟩) = true ∧ ncode ((tx 1 0).sreg 3) ≠ 0 ∧
    rq (tx 1 0) (.mmai ⟨0, 4, 1, 2, 0, 0, .s8⟩) = true ∧ rq (tx 1 0) (.mmax ⟨0, 4, 1, 2, 3, 0, .e4m3⟩) = true := by decide +kernel

/-- C group 0 of thread 0's row, as an issue takes it. -/
def cx (row : Nat) : Conv := ⟨1, 1, 0, .bf16, BitVec.ofNat 11 row, [(0, 0, none)], 1, 2, 0, 7⟩

theorem test_matrix_issue_hypotheses :
    let s := tx 1 0
    let x := s.warp 1 0
    let y := x.agent.sreg 1
    s.live (.warp 1 0) = true ∧ x.alimit < x.abase + (65 : BitVec 11).toNat + 64 ∧ x.abase + (64 : BitVec 11).toNat + 64 ≤ x.alimit ∧
    (atScratch 1).toNat % 32 ≠ 0 ∧ misalignedOperand 0 .bf16 y (x.agent.sreg 2) 0 = none ∧
    s.outsideOperand (.warp 1 0) 0 .bf16 (cx 0).rows y (x.agent.sreg 2) 0 = none ∧
    (s.outsideOperand (.warp 1 0) 0 .bf16 (cx 0).rows (atScratch 65536) (x.agent.sreg 2) 0).isSome = true ∧
    s.lockRoom (.warp 1 0) ((s.operandSpans (.warp 1 0) 0 .bf16 (cx 0).rows y (x.agent.sreg 2) 0).map fun y =>
      lockOf s.uid (s.group 1).vd (s.rootOf (.warp 1 0)) y false) = true ∧ x.agent.spoison = [] := by decide +kernel

theorem test_windows_are_set :
    let s := tx 1 0
    let f := s.updAgent (.warp 1 0) fun a => { a with ops := [⟨9, .tiles, .tile⟩] }
    rq s (.awin ⟨0, 0, 0, 3, 0, 0, .bf16⟩) = true ∧ (s.warp 1 0).head.mask.getLsbD 0 = true ∧ (s.sreg 0).toNat < (s.group 1).warps.length ∧
    (0 : BitVec 11).toNat + (s.sreg 3).toNat ≤ (s.launchOf 1).accRows ∧ (s.agent (.warp 1 0)).count .tiles = 0 ∧
    (f.agent (.warp 1 0)).count .tiles ≠ 0 ∧ ¬ (2047 : BitVec 11).toNat + (s.sreg 3).toNat ≤ (s.launchOf 1).accRows := by decide +kernel

theorem test_accumulator_operations :
    let s := tx 1 0
    let x := s.warp 1 0
    let o : GMM := ⟨0, 0, 1, 0, 0, 64, .bf16⟩
    s.live s.cur = true ∧ (∀ i ∈ ([.azero ⟨0, 0, 0, 0, 0, 64, .bf16⟩, .arstat ⟨0, 4, 0, 0, 0, 64, .bf16⟩, .ald o, .ast o] : List Instr), rq s i = true) ∧
    x.abase + o.arow.toNat + 64 ≤ x.alimit ∧ ¬ x.abase + (65 : BitVec 11).toNat + 64 ≤ x.alimit ∧ s.classFull s.cur .tiles = false ∧
    (s.sreg 1).toNat % accBytes 0 = 0 ∧ (s.sreg 0).toNat % accBytes 0 = 0 ∧
    (∀ w : Bool, let r := s.rowCauses s.cur w (s.sreg 1) (s.sreg 0) (64 * accBytes 0) x.issueRows
      r.1 = [] ∧ r.2.live s.cur = true ∧ r.2.cur = s.cur ∧ r.2.classFull s.cur .tiles = false ∧
      (match s.rowsSpan s.cur (s.sreg 1) (s.sreg 0) (64 * accBytes 0) with
        | some sp => r.2.lockRoom s.cur [lockOf r.2.uid (r.2.group 1).vd (r.2.rootOf s.cur) sp w]
        | none => false) = true) := by decide +kernel

/-- An operation of the matrix unit on rows 0 to 63, and the unit with given operations. -/
def mo (id : Nat) (started : Bool) (k : MatKind) : MatOp := ⟨id, id + 1, 1, 0, 0, k, started, [], [], [], [], 0, 0x1000, 1⟩
def unit (ms : List MatOp) : State := (tx 1 0).updCore 0 fun c => { c with matrix := ms }
def mk (sb : Word) : MatKind := .mma 0 .bf16 [(0, 0, none)] (atScratch 0) sb 0

theorem test_matrix_operations_start :
    (∀ ms ∈ [[mo 8 false .zero], [mo 7 true .zero, mo 8 false (mk (atScratch 8192))], [mo 7 true (.load 0 0 0 0), mo 8 false .zero],
      [mo 8 false (mk (2 ^ 63 + 7 * 2 ^ 60))]], ((unit ms).core 0).matrix = ms ∧ (unit ms).conflicts (.warp 1 0) 8 = false) ∧
    MatKind.moves .zero = false ∧ MatKind.moves (.load 0 0 0 0) = true ∧ ((tx 1 0).group 1).core = 0 ∧
    fromQueue (atScratch 8192) = false ∧ fromQueue (2 ^ 63 + 7 * 2 ^ 60) = true ∧
    ((unit []).feedQueue 1 0).map FeedQueue.avail = some 0 ∧ (tq 1).feedQueue 1 0 = some (fq 1) := by decide +kernel

theorem test_matrix_operations_complete :
    (∀ k ∈ [mk (atScratch 8192), .zero, .stats 5 4 1], ((unit [mo 8 true k]).core 0).matrix = [mo 8 true k]) ∧
    ([((0 : Nat), ((0 : W32), (none : Option Prov)))].map (·.1)).Nodup ∧ 0 < ((unit []).group 1).warps.length ∧
    (∀ j < 64, (accAt (unit []) 0 (mo 8 true .zero) 0 j).2 = none) := by decide +kernel

/-- The last row of an ALD and of an AST, in the scratchpad. -/
theorem test_accumulator_rows_move :
    let ls := (List.range 256).map fun i => lo i
    let f (write : Bool) : State := unit [mo 8 true (if write then .store 0 (atScratch 0) 0 (~~~1) else .load 0 (atScratch 0) 0 (~~~1))]
    (∀ w : Bool, ((f w).placeRow (.warp 1 0) (if w then Need.write else Need.read) (memRow (atScratch 0) 0 0) (64 * accBytes 0)).1 = .ok ls ∧
      ((f w).placeRow (.warp 1 0) (if w then Need.write else Need.read) (memRow (atScratch 0) 0 0) (64 * accBytes 0)).2.cores = (f w).cores ∧
      ((f w).placeRow (.warp 1 0) (if w then Need.write else Need.read) (memRow (atScratch 0) 0 0) (64 * accBytes 0)).2.remote = []) ∧
    ~~~(~~~(1 : Mask)) = BitVec.ofNat 64 (2 ^ 0) ∧ (ls.map Loc.key).Nodup ∧ ls.length = 64 * accBytes 0 ∧
    (∀ l ∈ ls, l.space = .scratch 1) ∧ (f true).remote = [] ∧ (f true).engineData = [] ∧
    (∀ w : Bool, ((f w).placeRow (.warp 1 0) (if w then Need.write else Need.read) (memRow (atScratch 0) 0 0) (64 * accBytes 0)).2.damps 1 ls = false) := by decide +kernel

/-! Witnesses for the hypotheses of the statements about copies, seals, streams and partitions. -/

/-- What a record load of `n` bytes finds there, and what it leaves. -/
def foundRecord (addr : Word) (n : Nat) (s : State) : LaneFound × State :=
  s.classify s.cur ⟨.load, n, false, 0, false, false, s.pc, s.headMask⟩ false ⟨0, addr, [], none, []⟩
def readRecord (addr : Word) (n : Nat) (s : State) (ls : List Loc) : List Byte × State :=
  let r := (foundRecord addr n s).2.readPieces s.cur false (min n 64) ls []
  (r.1, r.2.2.meterPlaces (r.2.2.vdOf s.cur) (ls.flatMap fun l => (List.range (min n 64)).map l.plus))

/-- A record load answers when its place is found outside the fabric, behind no earlier store, and no damper holds it. -/
theorem recordLoad_found {addr : Word} {n : Nat} {s : State} {ls : List Loc} (hs : s.syncStalled s.cur addr n false = false)
    (h : (foundRecord addr n s).1 = .ok ls) (hd : (foundRecord addr n s).2.damps ((foundRecord addr n s).2.vdOf s.cur) ls = false)
    (hl : (ls.any fun l => l.space == .fabric) = false) (k : List Byte → State → Res) :
    recordLoad addr n s k = k (readRecord addr n s ls).1 (readRecord addr n s ls).2 := by
  unfold recordLoad
  extract_lets a m
  rw [if_neg (by rw [hs]; exact Bool.false_ne_true)]
  have e : s.classify a m false ⟨0, addr, [], none, []⟩ = (.ok ls, (foundRecord addr n s).2) := Prod.ext h rfl
  rw [e]
  simp only
  rw [if_neg (by rw [hd]; exact Bool.false_ne_true), if_neg (by rw [hl]; exact Bool.false_ne_true)]
  rfl

/-- The placed stoker thread with a record at scratchpad byte 128, and S[1] its address. -/
def trec (bs : List Byte) : State := { tk.setSreg 1 (atScratch 128) with mem := putBytes tk.mem (Loc.key (lo 128)) bs }

/-- A layout record of 4 elements of 4 bytes at 0x2000, a stream record of 4 elements of 16 bytes there for queue 0, and a grid
record of 8 cells. -/
def layoutBytes : List Byte := leB 8 0x2000 ++ [1, 2, 1, 1] ++ leB 4 0 ++ leB 4 4 ++ leB 4 1 ++ leB 4 1 ++ leB 4 1 ++ leB 32 0
def streamBytes : List Byte := leB 8 0x2000 ++ leB 8 16 ++ leB 4 4 ++ leB 2 16 ++ [0, 0] ++ leB 8 0

/-- That `recordLoad_found` applies at S[1] in a state, and what it reads there. -/
def loads (s : State) (n : Nat) (ls : List Loc) (bs : List Byte) : Bool :=
  !s.syncStalled s.cur (s.sreg 1) n false && (foundRecord (s.sreg 1) n s).1 == .ok ls &&
  !(foundRecord (s.sreg 1) n s).2.damps ((foundRecord (s.sreg 1) n s).2.vdOf s.cur) ls && !(ls.any fun l => l.space == .fabric) &&
  (readRecord (s.sreg 1) n s ls).1 == bs && (readRecord (s.sreg 1) n s ls).2.groups == s.groups &&
  (readRecord (s.sreg 1) n s ls).2.cur == s.cur

theorem test_record_loads : loads (trec layoutBytes) 64 [lo 128] layoutBytes = true ∧
    loads (trec streamBytes) 32 [lo 128] streamBytes = true ∧ loads (trec (leB 64 0)) 64 [lo 128] (leB 64 0) = true ∧
    loads (trec (leB 64 0)) 32 [lo 128] (leB 32 0) = true := by decide +kernel

theorem test_record_bytes : (parseLayout layoutBytes (atScratch 128)).isSome = true ∧ parseLayout (leB 64 0) (atScratch 128) = none ∧
    (parseStream streamBytes).isSome = true ∧ parseStream (leB 32 0) = none := by decide +kernel

/-- The layout that the record holds, sealed or not. -/
def lay : LayoutRec := ⟨atScratch 128, 0x2000, 2, 1, 1, [4, 1, 1, 1], [0, 0, 0]⟩
def tseal (b : Bool) : State := (trec layoutBytes).updGroup 1 fun x => { x with seals := if b then [lay] else [] }

/-- A copy of 64 bytes within the scratchpad, as it is issued, and in progress. -/
def cp : Copy := ⟨false, false, none, false, atScratch 0, atScratch 1024, 64, 5, 0, none, 0, [], 0, [], [], none, false, none⟩
def tcopy (c : Copy) : State := (tk.updAgent (.stoker 1) fun a => { a with ops := [⟨9, .copies, .copy c⟩] }).updGroup 1 fun x => { x with
  tagCounts := [(5, 1)] }

theorem test_copy_issue_hypotheses :
    let s := ([(1, atScratch 0), (2, atScratch 1024), (4, 64)] : List (Reg × Word)).foldl (fun s r => s.setSreg r.1 r.2) tk
    let o : GK := ⟨4, 1, 2, 0, 5, 0, 0⟩
    let x := s.copyOf 0 o
    s.live s.cur = true ∧ rq s (.cpy o) = true ∧ rq s (.cpyz ⟨4, 0, 2, 0, 5, 0, 0⟩) = true ∧ rq s (.cpyg ⟨4, 1, 2, 1, 5, 0, 0⟩) = true ∧
    x = cp ∧ s.copyCause s.cur 0 false (s.sreg 0) (s.sreg 4).toNat x = none ∧
    (s.copyCause s.cur 0 false (s.sreg 0) (2 ^ 63) { x with len := 2 ^ 63 }).isSome = true ∧
    s.classFull s.cur .copies = false ∧ s.lockRoom s.cur (s.copyLocks s.cur 0 x) = true ∧ s.released s.cur = true := by decide +kernel

theorem test_gathered_copy_operands :
    let s := tseal true
    s.cur = .stoker 1 ∧ s.sreg 1 ≠ 0 ∧ (s.group 1).sealAt (s.sreg 1) = some lay := by decide +kernel

theorem test_flat_copy : cp.layout = none ∧ cp.dst.toNat + cp.len ≤ 2 ^ 64 := by decide +kernel

theorem test_copy_sector_moves :
    let c := { cp with started := true }
    let s := tcopy c
    let js := c.sectorBytes none 0
    let d := s.sectorData 1 9 0 c js
    s.op? (.stoker 1) 9 = some ⟨9, .copies, .copy c⟩ ∧ s.live (.stoker 1) = true ∧ js ≠ [] ∧ (s.group 1).residence = .resident ∧
    d.1 = .bytes (List.replicate 32 (0, none)) ∧ d.2.1 = c ∧
    (d.2.2.placeBytes (.stoker 1) Need.write (js.map c.dstAddr)).1 = .ok ((List.range 32).map fun i => lo (1024 + i)) ∧
    (((List.range 32).map fun i => lo (1024 + i)).map Loc.key).Nodup ∧
    (d.2.2.placeBytes (.stoker 1) Need.write (js.map c.dstAddr)).2.groups = s.groups ∧ c.sectors.contains 0 = false ∧
    s.damps (s.vdOf (.stoker 1)) ((List.range 32).map fun i => lo (1024 + i)) = false := by decide +kernel

theorem test_copies_start_and_end :
    (∀ c ∈ [cp, { cp with started := true }, { cp with started := true, credited := 64 }, { cp with failed := some (0, .permission) }],
      (tcopy c).op? (.stoker 1) 9 = some ⟨9, .copies, .copy c⟩ ∧ (tcopy c).live (.stoker 1) = true ∧
      ((tcopy c).group 1).residence = .resident ∧ (tcopy c).conflicts (.stoker 1) 9 = false) ∧
    ((tcopy cp).updCore 0 fun k => { k with locks :=
      [⟨7, 1, (tcopy cp).rootOf (.stoker 1), false, .scratch 1, 0, 63, true⟩,
      ⟨9, 1, (tcopy cp).rootOf (.stoker 1), false, .scratch 1, 0, 63, true⟩] }).conflicts (.stoker 1) 9 = true := by
  decide +kernel

theorem test_tag_wait_completes :
    let s := (tk.setSreg 1 4).updAgent (.stoker 1) fun a => { a with wait := some ⟨.tags 4 5 true, 0x1000, 0x1008⟩ }
    let t := s.updGroup 1 fun x => { x with tagBits := 4 }
    (t.agent (.stoker 1)).wait = some ⟨.tags (t.sreg 1) 5 true, 0x1000, 0x1008⟩ ∧ t.live (.stoker 1) = true ∧
    t.mayResume (.stoker 1) = true ∧ (t.group 1).tagBits &&& t.sreg 1 = t.sreg 1 ∧ groupOf (.stoker 1) = some 1 := by decide +kernel

theorem test_seal_hypotheses :
    (∀ b : Bool, rq (tseal b) (.sealRecord ⟨4, 0, 0, 1, 0, 0, if b then 1 else 0⟩) = true ∧ ((tseal b).sreg 1).toNat % 64 = 0) ∧
    (∃ l ∈ ((tseal true).group 1).seals, l.addr = (tseal true).sreg 1) ∧ ((tseal false).group 1).seals = [] ∧
    ((tseal true).agent (.stoker 1)).ops = [] ∧ (∃ q ∈ ((tcopy { cp with layout := some lay }).agent (.stoker 1)).ops,
      q.work = .copy { cp with layout := some lay }) ∧ (atScratch 130).toNat % 64 ≠ 0 := by decide +kernel

/-- A stream record for queue 0, entered in slot 3, and a stream of it that runs. -/
def sr : StreamRec := ⟨atScratch 0, 16, 4, 16, 0, false, 0, false, 0⟩
def tstr (run : Bool) : State := tk.updGroup 1 fun x => { x with stoker := some ⟨{ Agent.start with
  ops := if run then [⟨9, .copies, .stream ⟨3, sr, none, 0, []⟩⟩] else [] }, 0x1000, [(3, sr)]⟩ }

theorem test_stream_hypotheses :
    rq (trec streamBytes) (.strdef ⟨4, 1, 0, 0, 3, 0, 0⟩) = true ∧ (trec streamBytes).live (.stoker 1) = true ∧
    ((trec streamBytes).sreg 1).toNat % 32 = 0 ∧ rq (tstr false) (.strrun ⟨4, 0, 0, 0, 3, 0, 0⟩) = true ∧
    Table.look ((tstr false).stoker 1).slots 3 = some sr ∧ sr.index = false ∧ Table.look ((tstr false).stoker 1).slots 4 = none ∧
    ((tstr false).feedQueue 1 0).map (fun q => 2 ^ q.sizeLog) = some sr.esize ∧ ((tstr false).stoker 1).agent.ops = [] ∧
    (tstr false).classFull (.stoker 1) .copies = false ∧
    (tstr false).lockRoom (.stoker 1) ((tstr false).streamLocks (.stoker 1) 0 ⟨3, sr, none, 0, []⟩) = true := by decide +kernel

theorem test_stream_pushes :
    let s := tstr true
    let x : Stream := ⟨3, sr, none, 0, []⟩
    (s.agent (.stoker 1)).streams.find? (fun y => y.2.slot == 3) = some (9, x) ∧ s.live (.stoker 1) = true ∧
    (s.feedQueue 1 0).map FeedQueue.room = some 2 ∧ s.conflicts (.stoker 1) 9 = false ∧ (s.group 1).residence = .resident ∧
    (s.streamRead 1 9 0 0 (sr.base + BitVec.ofNat 64 0 * sr.stride) sr.esize).1 = .bytes (List.replicate 16 (0, none)) ∧
    (s.streamRead 1 9 0 0 (sr.base + BitVec.ofNat 64 0 * sr.stride) sr.esize).2.groups = s.groups := by decide +kernel

/-- The bytes of a grid record: 8 cells of 4 bytes at 0x2000 with a ghost cell at each end, filled by itself, GRIDID 5, one arrival. -/
def gridBytes : List Byte := leB 8 0x2000 ++ [1, 2, 1, 1, 1, 0, 0, 0] ++ leB 4 8 ++ leB 4 1 ++ leB 4 1 ++ [1, 1, 0, 0, 0, 0] ++
  [4, 4, 0, 0, 0, 0] ++ leB 8 0 ++ leB 48 0 ++ leB 2 5 ++ leB 2 0 ++ leB 4 1 ++ leB 24 0
def grec : GridRec := ⟨0x2000, 2, 1, 1, 1, [8, 1, 1], [1, 1, 0, 0, 0, 0], [4, 4, 0, 0, 0, 0], 0, [0, 0, 0, 0, 0, 0], 5, 1, gridBytes⟩

/-- The placed stoker thread with the record at 128, and with a partition of it that it may be attached to. -/
def tgrid (there attached : Bool) (p : Partition) : State :=
  { (trec gridBytes).updGroup 1 fun x => { x with attached := if attached then [⟨atScratch 128, 0, 5, 0⟩] else [] } with
    parts := if there then [(0, p)] else [] }
def pt : Partition := { Partition.start 1 grec 0 0 with attached := 1 }

theorem test_attach_hypotheses :
    (∀ b : Bool, loads (tgrid b b pt) 128 [lo 128, lo 192] gridBytes = true) ∧
    rq (tgrid false false pt) (.gattach ⟨4, 1, 0, 0, 0, 0, 0⟩) = true ∧ ((tgrid false false pt).sreg 1).toNat % 64 = 0 ∧
    (tgrid false false pt).parseGrid 1 gridBytes = some grec ∧ (tgrid false false pt).parseGrid 1 (leB 128 0) = none ∧
    (tgrid false false pt).partOf 0 1 5 = none ∧ (tgrid true false pt).partOf 0 1 5 = some (0, pt) ∧
    ((tgrid true false pt).group 1).attached = [] ∧ Table.look (tgrid false false pt).parts 0 = none ∧
    pt.record.raw = gridBytes ∧ (tgrid true false pt).exchangeRoom pt 0 [0] pt.exchanges.length = true := by decide +kernel

/-- GSTEP in round 0: its attachment counts it now, in a later round, or not at all. -/
theorem test_round_hypotheses :
    let s := tgrid true true pt
    let later := s.updGroup 1 fun x => { x with attached := [⟨atScratch 128, 0, 5, 1⟩] }
    rq s (.gstep ⟨0, 1, 0, 0, 0, 0, 1⟩) = true ∧ s.attachAt 1 (s.sreg 1) = some (⟨atScratch 128, 0, 5, 0⟩, 0, pt) ∧
    later.attachAt 1 (s.sreg 1) = some (⟨atScratch 128, 0, 5, 1⟩, 0, pt) ∧ (tgrid true false pt).attachAt 1 (s.sreg 1) = none ∧
    s.exchangeWaits 0 pt = false ∧ s.creditAt 0 = none ∧ (s.creditAt 1).isSome = true ∧ roundOf pt = 0 ∧ s.released s.cur = true ∧
    Table.look s.parts 0 = some pt ∧ pt.record.arrive ≤ pt.arrivals + 1 ∧ pt.credits = [] ∧
    rq s (.gstat ⟨4, 1, 0, 0, 1, 0, 0⟩) = true ∧ rq s (.gdetach ⟨0, 1, 0, 0, 0, 0, 0⟩) = true := by decide +kernel

theorem test_round_resumes :
    let s := (tgrid true true pt).updAgent (.stoker 1) fun a => { a with wait := some ⟨.round (atScratch 128) 0 0, 0x1000, 0x1008⟩ }
    (s.agent (.stoker 1)).wait = some ⟨.round (atScratch 128) 0 0, 0x1000, 0x1008⟩ ∧ s.exchangeWaits 0 pt = false ∧
    s.mayResume (.stoker 1) = true ∧ s.released (.stoker 1) = true ∧
    s.attachAt 1 (atScratch 128) = some (⟨atScratch 128, 0, 5, 0⟩, 0, pt) := by decide +kernel

/-- A push of face 0 within the partition, before and after its cells are written. -/
def push (wrote : Bool) : Push := ⟨7, 0, 0, true, false, none, wrote, []⟩
def tpush (wrote : Bool) : State := tgrid true true { pt with pushes := [push wrote] }

def fp : Partition := { pt with pushes := [push false] }
def fr : Option Push × State := (tpush false).pushRead 0 fp (push false) (grec.ownFill 0).1 (grec.ownFill 0).2.length
def fw : FluePlaced × State := fr.2.fluePlace { pt with pushes := fr.1.toList } 0 Need.write (grec.ownFill 0).2

theorem test_flue_push_is_read : Table.look (tpush false).parts 0 = some fp ∧
    fp.pushes.find? (fun z => z.id == 7) = some (push false) ∧ (push false).parked = [] ∧
    (tpush false).pushPlan 0 fp (push false) = .go (grec.ownFill 0).1 0 (grec.ownFill 0).2 ∧
    fr.1 = some { push false with cells := some (List.replicate 4 (0, none)) } ∧
    Table.look fr.2.parts 0 = some { pt with pushes := fr.1.toList } := by decide +kernel

theorem test_flue_push_is_written : fw.1 = .ok ((List.range 4).map fun i => ⟨.hbm, 0x2000 + i⟩) ∧ fw.2.parts = fr.2.parts ∧
    (((List.range 4).map fun i => (⟨.hbm, 0x2000 + i⟩ : Loc)).map Loc.key).Nodup ∧
    (∀ i < 4, Table.look fw.2.tables ((0x2000 + i) / 64) = none) ∧
    fw.2.damps 1 ((List.range 4).map fun i => ⟨.hbm, 0x2000 + i⟩) = false := by decide +kernel

theorem test_slab_is_retagged : (tpush true).slabPushes 0 0 = [(0, push true)] ∧ 0 < pt.tags.length ∧
    Table.look (tpush true).parts 0 = some { pt with pushes := [push true] } := by decide +kernel

theorem test_credits_and_deletion :
    let c : Credit := ⟨1, atScratch 64, some 0⟩
    let s (p : Partition) := withWord (withWord (tgrid true true p) 64 2) 72 3
    (∀ p ∈ [{ pt with exchanges := [(0, 3)] }, { pt with exchanges := [(0, 3)], credits := [c] },
      { pt with exchanges := [(0, 3)], pushes := [push false] }, { pt with attached := 0 }], Table.look (s p).parts 0 = some p) ∧
    (push false).cells = none ∧ ((s pt).group 1).residence ≠ .ended ∧
    1 < (wordOf ((s pt).readBytes (lo 64) 8)).toNat % 2 ^ 40 ∧ (wordOf ((s pt).readBytes (lo 72) 8)).toNat % 2 ^ 40 ≠ 0 := by
  decide +kernel

/-! Witnesses for the hypotheses of the statements about virtual devices. -/

/-- The device in ACTIVE, its control and security cores running, with the words of a PF command, latched or not. -/
def tact : State := { tw with power := { tw.power with state := 1 } }
def tcmd (latched : Option Bool) (ws : List W32) : State :=
  { tact with pf := { tact.pf with cmdBuf := ws, busy := latched.map fun b => ⟨ws, b⟩ } }
def cw (op n : Nat) (rest : List W32) : List W32 := (BitVec.ofNat 32 (op + n * 2 ^ 16) :: rest) ++ List.replicate (7 - rest.length) 0

/-- `tact` with VD 3 changed. -/
def tvd (f : Vd → Vd) : State := tact.updVd 3 f

theorem begins_latched {ws : List W32} {s : State} (h1 : s.roleStopped 1 = false) (h2 : s.pf.busy = some ⟨ws, false⟩) :
    Begins s ws { s with pf := { s.pf with busy := some ⟨ws, true⟩ } } := ⟨h1, .inl ⟨h2, rfl⟩⟩

theorem begins_submitted {ws : List W32} {s : State} (h1 : s.roleStopped 1 = false) (h2 : s.pf.busy = none) (h3 : s.power.state = 1)
    (h4 : ws = s.pf.cmdBuf) : Begins s ws { s with pf := { s.pf with seq := s.pf.seq + 1, busy := some ⟨ws, true⟩ } } :=
  ⟨h1, .inr ⟨h2, h3, h4, rfl⟩⟩

theorem test_commands_begin : ∀ ws ∈ [cw 1 3 [], cw 9 3 []],
    (∃ u, Begins (tcmd (some false) ws) ws u) ∧ (∃ u, Begins (tcmd none ws) ws u) ∧ (tcmd (some true) ws).pf.busy = some ⟨ws, true⟩ := by
  intro ws h
  refine ⟨⟨_, begins_latched ?_ ?_⟩, ⟨_, begins_submitted ?_ ?_ ?_ ?_⟩, ?_⟩ <;> revert ws <;> decide +kernel

theorem test_command_words : CommandOp .unknownOpCommand 9 ∧ opOf (cw 9 3 []) = 9 ∧ (∀ op ∈ [1, 2, 3, 4, 5, 6], opOf (cw op 3 []) = op ∧ Clean (cw op 3 [])) ∧
    ¬ Clean (cw 0x102 3 []) ∧ tact.power.state = 1 ∧ tw.power.state ≠ 1 ∧ (tact.vd 3).state = 0 ∧ vdOf (cw 2 3 []) = 3 := by
  refine ⟨.unknown (by decide), ?_⟩
  unfold Clean
  decide +kernel

/-- CREATE of VD 3 with 64 queues, no memory of its own, and a span of 1 GiB; with a reserved bit set; of a VD that is LIVE. -/
theorem test_create_hypotheses :
    let ws := cw 1 3 [0, 0, 1, 0, 0, 0]
    let u := tcmd (some true) ws
    word ws 1 % 128 = 0 ∧ word ws 1 / 2 ^ 7 = 0 ∧ 1 ≤ word ws 3 ∧ word ws 3 < 2 ^ 20 ∧ word ws 6 ≤ 1 ∧ (u.vd (vdOf ws)).state = 0 ∧
    u.pf.partMode = false ∧ u.pf.secDead = false ∧ u.freeQueues 64 = some 1 ∧ (u.vd 1).state ≠ 0 := by
  decide +kernel

theorem test_create_frames (u : State) : word (cw 1 3 [0, 0, 1]) 2 * 512 ≤ u.unpromised 0 ∧
    tact.unpromised 0 < word (cw 1 3 [0, 0xFFFFFFFF, 1]) 2 * 512 :=
  ⟨Nat.zero_le _, Nat.lt_of_le_of_lt (Nat.sub_le _ _) (by decide +kernel)⟩

theorem test_create_completes :
    let s := tvd fun v => v.setState 1
    (s.vd 3).state = 1 ∧ s.secWaits = false ∧ s.roleStopped 1 = false ∧ s.pf.secDead = false ∧
    (s.buildStage2 3).map (fun u => (u.vd 3).state) = some 1 := by decide +kernel

theorem test_destroy_hypotheses :
    (∀ n < 7, ((tvd fun v => v.setState n).vd 3).state = n) ∧
    ((tvd fun v => { v.setState 5 with kill := some [] }).vd 3).kill = some [] ∧ (tvd fun v => v).secWaits = false ∧
    Table.rising (tvd fun v => v).frames = true := by decide +kernel

theorem test_setshare_hypotheses :
    let ws := cw 4 3 [1024, 100000, 0, 0, 320, 31]
    word ws 1 < 2 ^ 11 ∧ word ws 2 < 2 ^ 17 ∧ word ws 5 < 2 ^ 9 ∧ word ws 6 < 2 ^ 5 ∧ word ws 1 ≤ 1024 ∧ word ws 2 ≤ 100000 ∧
    word ws 5 ≤ 320 ∧ ((tvd fun v => v.setState 2).vd 3).entry.length = 8 ∧ ¬ word (cw 4 3 [1025]) 1 ≤ 1024 := by decide +kernel

theorem test_reset_hypotheses :
    let r : ResetRun := ⟨.command, false, 0, 0, 0, 0, false⟩
    let s (n : Nat) (k : Option (List Engine)) (c : Bool) := tvd fun v => { v.setState n with reset := some { r with cleared := c }, kill := k }
    ((s 3 none false).vd 3).reset = some r ∧ ((s 3 none false).vd 3).state = 3 ∧ (s 3 none false).roleStopped 2 = false ∧
    ((s 3 none false).vd 3).ashAt = 0 ∧ ((s 4 (some []) false).vd 3).kill = some [] ∧ ((s 4 (some []) false).vd 3).state = 4 ∧
    ((s 4 none true).vd 3).reset = some { r with cleared := true } ∧ ((s 4 none true).vd 3).destroyPend = false := by decide +kernel

theorem test_kill_hypotheses :
    let s := gWith fun x => { x with doomed := some (.permission, 0) }
    let t : State := { tw with grids := Table.put 1 { (tw.grid 1) with relaunch := [0] } tw.grids }
    (s.group 1).doomed = some (.permission, 0) ∧ (s.group 1).residence ≠ .ended ∧ 0 ∈ (t.grid 1).relaunch ∧ (t.grid 1).ended = false ∧
    ((tvd fun v => { v with kill := some [.cores] }).vd 3).kill = some [.cores] ∧ (tw.group 1).doomed = none ∧
    Table.look (t.grid 1).poisons 0 = none ∧ (t.grid 1).killed = false ∧
    (let u : State := { tw with
      grids := Table.put 1 { (tw.grid 1) with relaunch := [0], poisons := [(0, 0x123)] } tw.grids
      errors := [⟨0x23, 2, 0, none, none, false⟩] }
     Table.look (u.grid 1).poisons 0 = some 0x123 ∧ u.errorOpen 0x123 = true) := by decide +kernel

theorem test_scratch_and_ashpit_hypotheses :
    (((tvd fun v => v.setState 2).vd 3).responds = true) ∧ ((tvd fun v => { v with dsPend := some 3 }).vd 3).dsPend = some 3 ∧ ((tvd fun v => v).vd 3).dsPend = none ∧
    (tvd fun v => v).roleStopped 1 = false ∧ (0x10000 : Word).toNat / 2 ^ 16 % 2 ^ 36 ≠ 0 := by decide +kernel

theorem test_watchdog_hypotheses :
    let r : RecordRun := ⟨0, [], none, false, 0, 0, 0, 0, 0, 0⟩
    let s : State := { tw with queues := [(5, { Queue.start with vd := 1, state := 2, runs := [r], qcfg := 0x7FFFFFFF })] }
    (s.queue 5).headRun = some r ∧ (s.vd 1).works = true ∧ (s.queue 5).wdog (s.vd 1) ≠ 0 := by decide +kernel

theorem test_sharemap_hypotheses :
    let ws := cw 6 3 [5, 0x10000, 0, 1, 0, 0]
    let s := (tvd fun v => (v.setState 2).setWord 2 (2 ^ 32))
    let x : SharedSlot := ⟨0x10000, 1, false, [7], 0, false⟩
    let t : State := { s with pf := { s.pf with slots := [(5, x)], busy := some ⟨ws, true⟩ } }
    word ws 1 = 5 ∧ (word ws 2 + word ws 3 * 2 ^ 32) % 4096 = 0 ∧ word ws 4 = 1 ∧ (word ws 5 + word ws 6 * 2 ^ 32) % 2 ^ 21 = 0 ∧
    (s.vd 3).state = 2 ∧ 0 + word ws 4 * 4096 ≤ (s.vd 3).vspan * 2 ^ 30 ∧ (s.vd 3).shared = [] ∧ Table.look s.pf.slots 5 = none ∧
    (s.takeFrames (s.hardPart 3) 5 1).isSome = true ∧ Table.look t.pf.slots 5 = some x ∧ opOf ws = 6 ∧ t.secWaits = false ∧
    t.roleStopped 1 = false ∧ t.pf.secDead = false ∧ t.roleStopped 2 = false ∧ 0 < x.pages ∧ t.poisonOf ⟨.host, x.host.toNat + 4096 * 0⟩ 4096 = none ∧ x.filled = false ∧ ((tvd fun v => (v.setState 2).setWord 2 (2 ^ 32)).meetsShared 3 0 1) = false ∧
    (mapsPages t 3 0 x).isSome = true ∧ 2 ^ 18 * (s.vd 3).vspan ≥ 0 + 1 := by
  decide +kernel

/-! Witnesses for the hypotheses of the statements about queues, registers, the host and ports. -/

/-- Queue 0 of the placed VD with one record that runs, of the given words. -/
def trun (ws : List Word) (st : BitVec 3) : State :=
  { tact with queues := [(0, { (tw.queue 0) with state := st, runs := [⟨0, ws, some 1, false, 0, 0, 0, 0, 0, 0⟩] })] }
def run (ws : List Word) : RecordRun := ⟨0, ws, some 1, false, 0, 0, 0, 0, 0, 0⟩

theorem test_queue_registers :
    tw.queueOpen 0 = true ∧ tw.queueOpen 9 = false ∧ (tw.queue 9).state = 0 ∧ (tw.queue 9).qcfg.getLsbD 31 = false ∧
    (let s : State := { tw with queues := [(0, { Queue.start with vd := 1, qbase := 64, cbase := 64 })] }
     s.queueOpen 0 = true ∧ (s.queue 0).state = 0 ∧ (s.queue 0).qcfg.getLsbD 31 = false ∧ 4 ≤ (0x404 : W32).toNat % 2 ^ 5 ∧
     4 ≤ (0x404 : W32).toNat / 2 ^ 8 % 2 ^ 5 ∧ (s.queue 0).qbase.toNat / 2 ^ 6 % 2 ^ 46 ≠ 0) := by decide +kernel

theorem test_wait_record :
    let ws : List Word := [2, 0x2000, 5, 2 ^ 32, 0, 0, 0, 0]
    let s := trun ws 2
    let s' := s.setQueue 0 { s.queue 0 with sem := (s.queue 0).sem || decide ((s.queue 0).state = 3) }
    (s.queue 0).runs.find? RecordRun.waits = some (run ws) ∧ (s.queue 0).run (run ws).index.toNat = some (run ws) ∧
    (s'.readRecord 0 0 (rw (run ws) 1).toNat 8).1 = some (some (List.replicate 8 0)) ∧
    (s'.readRecord 0 0 (rw (run ws) 1).toNat 8).2.queues = s'.queues ∧ (rw (run ws) 3).toNat / 2 ^ 32 ≠ 0 := by decide +kernel

theorem test_records_complete :
    recordKind (run [5]).words = 5 ∧ recordKind (run [1]).words = 1 ∧ ((trun [1] 2).queue 0).run 0 = some (run [1]) ∧
    (trun [1] 2).grids.all (fun e => !e.2.ended) = true ∧ Table.rising (trun [1] 2).grids = true ∧
    (let s : State := { trun [1] 2 with grids := [(1, { (tw.grid 1) with ended := true, queue := 0, index := 0 })] }
     ∀ e ∈ s.grids, e.2.queue = 0 ∧ e.2.index = 0 ∧ e.2.ended = true) := by decide +kernel

theorem test_system_copy :
    let ws : List Word := [4, 0x2000, 0x3000, 16, 0, 0, 0, 0]
    let s := trun ws 2
    let f := s.reachRecord 0 0 0x2000 16 Need.read
    let t := f.2.reachRecord 0 0 0x3000 16 Need.write
    recordKind ws = 4 ∧ (s.queue 0).run 0 = some (run ws) ∧ f.1 = .ok ((List.range 16).map fun i => ⟨.hbm, 0x2000 + i⟩) ∧
    t.1 = .ok ((List.range 16).map fun i => ⟨.hbm, 0x3000 + i⟩) ∧ t.2.queues = s.queues ∧ t.2.remote = [] ∧
    (((List.range 16).map fun i => (⟨.hbm, 0x3000 + i⟩ : Loc)).map Loc.key).Nodup ∧ (∀ i < 16, Table.look t.2.tables ((0x3000 + i) / 64) = none) ∧
    t.2.damps ((s.queue 0).vd.toNat) (((List.range 16).map fun i => (⟨.hbm, 0x2000 + i⟩ : Loc)) ++ (List.range 16).map fun i => ⟨.hbm, 0x3000 + i⟩) = false := by
  decide +kernel

theorem test_interrupts_pend :
    let s (held : Word) : State := { tw with irt := [(7, ⟨held, 1, false⟩)] }
    ((s 0).irtEntry 7).pending ≠ 0 ∧ ((s 0).irtEntry 7).word.getLsbD 32 = false ∧ ((s (2 ^ 32)).irtEntry 7).word.getLsbD 32 = true ∧
    (tw.irtEntry 7).pending = 0 := by decide +kernel

theorem test_register_writes :
    (tw.vd 1).responds = true ∧ (tw.vd 9).responds = false ∧ tact.power.state = 1 ∧
    (let s : State := { tact with vds := [(1, (placedVd.setWord 0 (2 + 2 ^ 14)))] }
     (s.vd 1).responds = true ∧ 0 < (s.vd 1).qcount) ∧
    ({ tw with power := { tw.power with state := 3 } } : State).power.state = 3 ∧ (∀ e ∈ State.reset.vds, e.2.state = 0) ∧
    ¬ (∀ e ∈ tw.vds, e.2.state = 0) := by decide +kernel

theorem test_host_accesses : (0x2000 : Nat) + 4 ≤ 384 * 2 ^ 30 ∧ tact.power.state ≠ 3 ∧ tact.power.state ≠ 4 ∧
    (∀ i < 4, Table.look tact.tables ((0x2000 + i) / 64) = none) ∧ tact.readWaits 3 = false := by decide +kernel

/-- Port 2 of the PF with rings of 16 descriptors in host memory, and one frame to send and one buffer free. -/
def tport : State := { tact with ports := [(2, ⟨true, false, false, 0, 0, 0x1004, 0x2004, 0, 1, 0, 1, false, false, false, none, false⟩)] }

theorem test_ports :
    (tact.port 2).enabled = false ∧ (tport.port 2).enabled = true ∧ (tport.port 2).owned = false ∧
    (tport.port 2).txHead ≠ (tport.port 2).txTail ∧ (tport.port 2).rxHead ≠ (tport.port 2).rxTail ∧
    tport.remote = [] ∧ (tport.port 2).txWait = false ∧ (tport.port 2).rxWait = none ∧ (tport.port 2).rxDone = false ∧
    tact.portRefused 2 { tport.port 2 with enabled := false } = false ∧
    tact.portRefused 2 { tport.port 2 with enabled := false, txRing := 0 } = true := by decide +kernel

/-! Witnesses for the hypotheses of the statements about placement, halts, boot, control cores, faults and checkpoints. -/

/-- The placed VD with a backlog and its grid in order; the grid has no workgroup placed, or its workgroup is saved. -/
def tdec (saved : Bool) : State := { tact with
  vds := [(1, { (placedVd.setWord 6 512) with gridOrder := [1] })]
  grids := [(1, { (tw.grid 1) with placed := if saved then 1 else 0 })]
  groups := if saved then [(1, { placedGroup with residence := .saved false false })] else [] }

theorem test_decision_hypotheses :
    (∀ b : Bool, (tdec b).roleStopped 0 = false ∧ (tdec b).power.state = 1 ∧ ((tdec b).vd 1).works = true ∧ ((tdec b).vd 1).backlog = true ∧
      (tdec b).hardPart 1 = 0 ∧ (∀ e ∈ (tdec b).vds, e = (1, (tdec b).vd 1))) ∧
    (tdec false).units 1 = [.fresh 1 0 1] ∧ (tdec true).units 1 = [.images [1]] ∧
    (∀ b : Bool, (tdec b).fitsAnywhere 1 placedRecord 1 (1, 0) = true ∧ (tdec b).coresFit 1 placedRecord 1 (1, 0) [5] = true ∧
      (tdec b).coresFit 1 placedRecord 1 (1, 0) [] = false) ∧ (tdec false).unitRecord (.fresh 1 0 1) = (placedRecord, 1) ∧
    (tdec false).unitKey (.fresh 1 0 1) = (1, 0) ∧ (tdec true).unitKey (.images [1]) = (1, 0) ∧ (tdec true).locksFit [1] [5] = true ∧
    ((tdec true).group 1).carried = [] ∧ (∀ a ∈ (tdec true).agentsOf 1, ((tdec true).agent a).ops = []) ∧
    ((tdec true).group 1).asyncHeld = [] ∧ (∀ w ∈ ((tdec true).group 1).warps, w.held = [] ∧ w.handler = []) := by decide +kernel

theorem test_work_ends :
    let s := gWith fun x => { x with warps := [{ placedWarp with frontier := [] }], stoker := none }
    let n : State := { tw with grids := [(1, { (tw.grid 1) with endedGroups := 1 })] }
    s.groupOver 1 = true ∧ s.gangOver 1 = true ∧ tw.groupOver 1 = false ∧ (n.grid 1).ended = false ∧ (n.grid 1).endedGroups = (n.grid 1).placed ∧
    (n.grid 1).placed = (n.grid 1).record.count := by decide +kernel

/-- A mirrored workgroup, and one whose record forbids it. -/
theorem test_mirrored : let s (v : Word) : State := { tw with grids := [(1, { (tw.grid 1) with record :=
    { placedRecord with words := placedRecord.words.set 9 v } })] }
    (tw.group 1).residence = .resident ∧ [(s (2 ^ 35)).mirrored 1, (s (2 ^ 34)).mirrored 1] = [true, false] := by decide +kernel

/-- A workgroup halted for a trap, and for a slice end. -/
def thalt (h : Halt) : State := { th with groups := [(1, { placedGroup with halt := some h, warps := [{ placedWarp with held := [tr] }] })] }

theorem test_handler_entry_hypotheses :
    let s := thalt (.trap false)
    (s.group 1).residence = .resident ∧ (s.group 1).doomed = none ∧ (s.group 1).halt = some (.trap false) ∧ (s.warp 1 0).held = [tr] ∧
    (s.warp 1 0).unended = true ∧ (s.warp 1 0).agent.awaits tr = false ∧ (∀ w ∈ (s.group 1).warps, w.inTrapHandler = false ∧ unexited w ≠ 0) ∧
    ((thalt (.slice false [])).group 1).halt = some (.slice false []) ∧ (s.warp 1 0).inSliceHandler = false := by decide +kernel

theorem test_async_trap_hypotheses :
    let t : TrapRec := ⟨.async, 0x5, 0, 0, 0, 0, 0, none⟩
    let s : State := th.updGroup 1 fun x => { x with asyncHeld := [t] }
    (s.group 1).asyncHeld = [t] ∧ (s.launchOf 1).thpc ≠ 0 ∧ 0 < (s.group 1).warps.length ∧ (s.warp 1 0).unended = true ∧
    (s.group 1).halt = none ∧ (s.group 1).residence = .resident ∧ (s.group 1).doomed = none ∧
    ((s.updGroup 1 fun x => { x with halt := some (.trap false) }).group 1).halt = some (.trap false) := by decide +kernel

/-- A second VD with less VT and a grid that needs the placed VD's core. -/
def tslice : State := { tact with
  vds := [(1, (placedVd.setWord 4 5).setWord 0 (BitVec.ofNat 64 (2 + 320 * 2 ^ 21))),
    (2, { ((placedVd.setWord 6 512).setWord 0 (BitVec.ofNat 64 (2 + 320 * 2 ^ 21))) with gridOrder := [2] })]
  grids := [(1, tw.grid 1), (2, { (tw.grid 1) with vd := 2, placed := 0 })] }

theorem test_slice_end_hypotheses : vtBefore (tslice.vd 2).vt (tslice.vd 1).vt = true ∧ (tslice.vd 2).works = true ∧ (tslice.vd 2).backlog = true ∧
    tslice.hardPart 2 = tslice.hardPart 1 ∧ tslice.neededBy 1 0 2 = true ∧ (tslice.group 1).core = 0 ∧ (tslice.group 1).vd = 1 ∧
    (tslice.group 1).residence = .resident ∧ (tslice.group 1).doomed = none ∧ (∀ e ∈ tact.vds, e.1 = 1) := by decide +kernel

/-- A save that the VD's save area can take, and one that it cannot. -/
theorem test_save_hypotheses : ∀ c : Bool,
    let s := (thalt (.saving c false)).updVd 1 fun v => { v with saveArea := 2 ^ 30 }
    (s.group 1).halt = some (.saving c false) ∧ (s.core 0).wc = [] ∧ (∀ a ∈ s.agentsOf 1, (s.agent a).ops = []) ∧ (s.core 0).matrix = [] ∧
    (s.vd 1).saveForced.toNat < 0xFFFF ∧ (s.vd 1).saveCoop.toNat < 0xFFFF ∧ s.imagesFit 1 c false = true ∧
    (thalt (.saving c false)).imagesFit 1 c false = false ∧ s.gangOf 1 = [1] := by decide +kernel

/-- 16 R386: a segment of one repeated value codes in 4 bytes, one of zeros in none, and one that holds poison in full. -/
theorem test_coded_bytes : codedBytes 4 true false (fun _ => 0x3F800000) = 4 ∧ codedBytes 4 false false (fun _ => 0) = 0 ∧
    codedBytes 4 true true (fun _ => 0x3F800000) = 16 ∧ codedBytes 4 true false (fun i => BitVec.ofNat 32 i) = 16 := by decide +kernel

/-- Every agent of the placed workgroup waits for a barrier. -/
def tswap : State := { tact with
  pf := { tact.pf with fpSwap := true }
  vds := [(1, placedVd.setWord 6 512)]
  groups := [(1, { placedGroup with
    warps := [{ placedWarp with agent := { Agent.start with wait := some ⟨.barrier (lo 64) false false, 0x1000, 0x1008⟩ } }]
    stoker := none })] }

theorem test_swap_hypotheses : tswap.pf.fpSwap = true ∧ tswap.power.state = 1 ∧ (tswap.group 1).core = 0 ∧ (tswap.group 1).residence = .resident ∧
    (tswap.vd 1).backlog = true ∧ tswap.gangOf 1 = [1] ∧ tswap.swappableOne 1 = true ∧ (∀ e ∈ tswap.groups, e.1 = 1) := by decide +kernel

theorem test_life_cycle_hypotheses : Allowed 0 1 0 ∧ Allowed 1 2 0 ∧ Allowed 2 1 2 ∧ Allowed 2 3 3 ∧ (State.reset.ctlCore 6).loaded = true ∧
    ¬ Allowed 1 1 0 :=
  ⟨.out, .back, .again (by decide), .end_, by decide +kernel, nofun⟩

theorem test_boot_hypotheses : State.reset.power.state = 0 ∧ State.reset.power.phase.toNat < 8 ∧ tact.power.state ≠ 0 ∧
    (∀ n < 8, ({ State.reset.power with phase := BitVec.ofNat 8 n }).phase.toNat = n) := by decide +kernel

/-- An image that verifies, one that does not, and a signed life-cycle change: the signature scheme is a free function (log 77). -/
theorem test_verified_images (i : SignedImage) (h : Config.slhDsaVerify i.key (shake256 i.bytes 64) i.signature = true) :
    ({ State.reset with power := { State.reset.power with keyDigest := shake256 i.key 64 } } : State).verifies i = true := by
  simp only [State.verifies, h, beq_self_eq_true, Bool.and_self]

theorem test_unverified_image : ({ State.reset with power := { State.reset.power with keyDigest := [1] } } : State).verifies ⟨[], [], []⟩ = false ∧
    State.reset.power.meas.length = 16 := by decide +kernel

theorem test_signed_change (r : LifeCycleRequest)
    (h : Config.slhDsaVerify r.key (shake256 (BitVec.ofNat 8 r.target.toNat :: r.serial) 64) r.signature = true) :
    ({ State.reset with power := { State.reset.power with keyDigest := shake256 r.key 64, serial := r.serial } } : State).authentic r = true := by
  simp only [State.authentic, State.verifies, h, beq_self_eq_true, Bool.and_self]

theorem test_reload_hypotheses (im : List Byte) :
    let s : State := { State.reset with power := { State.reset.power with meas := [0, 0, extended 0 (digestOf im)] } }
    extended 0 (digestOf im) = listGet 0 s.power.meas 2 := rfl

/-- Every interface of a phase, trained fully; and two cores of a plan, of which one is withheld. -/
theorem test_training_hypotheses :
    let runs (n : Nat) : List TrainingRun := (phaseInterfaces n).map fun f => ⟨f, [], false, some [7]⟩
    ∀ n ∈ [3, 4], (runs n).map (·.iface) = phaseInterfaces n ∧ (∀ r ∈ runs n, State.reset.power.trains 40 r = true) ∧
      State.reset.power.trains 40 ⟨.stack 0, [], false, none⟩ = false ∧
      (∀ r ∈ runs n, State.reset.power.stored 40 r = none) := by decide +kernel

theorem test_banking_hypotheses :
    let s (n : Nat) : State := { State.reset with power := { State.reset.power with state := BitVec.ofNat 3 n } }
    (∀ n < 6, (s n).power.state.toNat = n) ∧ (s 1).vds = [] ∧ (s 1).pf.busy = none ∧ (s 1).cores = [] ∧ (s 2).entryWaits = false ∧
    (s 2).groups = [] ∧ (s 2).remote = [] ∧ (∀ c < 6, ((s 4).ctlCore c).loaded = true ∧ ((s 4).pair (c / 2)).lost = false) := by decide +kernel

theorem test_thermal_hypotheses : State.reset.power.thMin = none ∧
    ({ State.reset.power with thMin := some 20, thMax := some 70 }).thMax = some 70 := by decide +kernel

theorem test_control_core_hypotheses :
    let run := tc 0
    let moved : State := { tc 0 with pairs := [(0, { (tc 0).pair 0 with takeover := some 0 })], queues := [(5, { Queue.start with latch := 1 })] }
    let down := (tc 0).updCtl 1 fun x => { x with loaded := false, halted := true }
    (run.ctlCore 0).active = true ∧ (run.ctlCore 0).halted = false ∧ (run.pair 0).standby = true ∧ (moved.pair 0).takeover = some 0 ∧
    (∀ e ∈ moved.queues, e.2.latch ≠ e.2.tail) ∧ (run.pair 0).takeover = none ∧ (down.ctlCore 1).loaded = false ∧
    (down.ctlCore 1).active = false ∧ (down.pair 0).lost = false ∧ (down.pair 0).reloads ≠ 2 ∧ (down.ctlCore 6).loaded = true ∧
    (((tc 0).updCtl 6 fun x => { x with loaded := false }).ctlCore 6).loaded = false ∧ (tc 0).pf.secDead = false := by decide +kernel

/-- The placed VD with its fault queue on, and the given records. -/
def tfault (en : Bool) (fs : List FaultRec) : State := { tw with vds := [(1, { placedVd with
  fqEn := en, fqSize := 6, fqBase := 0x20000, faults := fs })] }
def fault (posted engine : Bool) (o : ParkOwner) : FaultRec := ⟨if posted then some 0 else none, engine, false, [0, 0, 0, 0], 7, false, o, 1⟩

theorem test_fault_register_hypotheses : ((tfault false []).vd 1).responds = true ∧ (tw.vd 9).responds = false ∧
    ((tfault false []).vd 1).fqEn = false ∧ ((tfault true []).vd 1).fqEn = true ∧ ((tfault true []).vd 1).fqBase.toNat / 4096 % 2 ^ 40 ≠ 0 := by
  decide +kernel

theorem test_fault_answer_hypotheses :
    let s := tfault true [fault true false (.fetch 1 0)]
    let c : State := { tcopy cp with vds := [(1, { placedVd with faults := [fault true false (.agent (.stoker 1) 9)] })] }
    (s.vd 1).answerable 0 = some (fault true false (.fetch 1 0)) ∧ (s.launchOf 1).thpc = 0 ∧
    (c.vd 1).answerable 0 = some (fault true false (.agent (.stoker 1) 9)) ∧ (c.group 1).residence = .resident ∧
    c.op? (.stoker 1) 9 = some ⟨9, .copies, .copy cp⟩ := by decide +kernel

theorem test_fault_post_hypotheses :
    let s (en engine : Bool) := tfault en [fault false engine (.fetch 1 0)]
    (∀ en engine : Bool, ((s en engine).vd 1).faults.find? (fun x => x.index.isNone) = some (fault false engine (.fetch 1 0)) ∧
      ((s en engine).vd 1).state ≠ 3 ∧ ((s en engine).vd 1).fqEn = en) ∧ 
    (((s true false).vd 1).fqProd - ((s true false).vd 1).fqCons).toNat ≠ 2 ^ ((s true false).vd 1).fqSize.toNat ∧
    (match ((s true false).stage2 1 (ringSlot ((s true false).vd 1)) Need.write).1 with | .ok l => l == ⟨.hbm, 0x20000⟩ | _ => false) = true ∧
    ((s true false).vd 1).hbmHeld = false ∧ (s true false).posting 1 = false ∧
    (∀ i < 32, Table.look ((s true false).stage2 1 (ringSlot ((s true false).vd 1)) Need.write).2.tables ((0x20000 + i) / 64) = none) ∧
    (({ (s true true) with vds := [(1, { ((s true true).vd 1) with fqBase := 2 ^ 51 })] } : State).ringWrite 1).1 = .fault := by
  decide +kernel

/-- The copy of `tcopy` with a part parked on a page that the paging engine has brought in. -/
theorem test_replay_hypotheses :
    let f := fault true true (.agent (.stoker 1) 9)
    let c : State := { tcopy cp with vds := [(1, { placedVd with faults := [f] })] }
    c.heldRequests = [] ∧ ((c.vd 1).faults.filter fun f => f.engine && !f.answered && f.page == 7 && c.resolved 1 f) = [f] := by decide +kernel

/-- A page that no table maps, wanted by a record of an engine. -/
def tpage : State := { tact with vds := [(1, { (placedVd.setWord 1 0x50000000) with
  faults := [{ fault true true (.fetch 1 0) with phys := true, words := [8, 0, 0, 0] }] })] }

theorem test_page_hypotheses :
    ((tpage.vd 1).guest = false ∧ (tpage.vd 1).works = true ∧ tpage.pageAbsent 1 7 = true ∧ tpage.pageWanted 1 7 = true ∧
    (tpage.vd 1).hbmHeld = false ∧ (tpage.vd 1).ahead = 0 ∧ tpage.framesOf (.vd 1) < (tpage.vd 1).hbmQuota * 512 ∧
    (tpage.findRun (tpage.hardPart 1) 1 1).isSome = true) ∧ tpage.bringIn 1 7 ≠ none :=
  ⟨by decide +kernel, State.bringIn_room _ _ _ (by decide +kernel) ⟨by decide +kernel, by decide +kernel, 0, by decide +kernel,
    by decide +kernel⟩⟩

theorem test_checkpoint_hypotheses :
    let w : W32 := 0
    let s (n : Nat) : State := { tw with vds := [(1, { placedVd with entry := (placedVd.setWord 0 (BitVec.ofNat 64 (n + 2 ^ 14))).entry })] }
    let c (restore : Bool) (k : Nat) : CkRun := ⟨restore, k, 0, 0x10000, 0, 2 ^ 20, [], [], [], [], 0⟩
    let r (restore : Bool) (k : Nat) := (s 2).updVd 1 fun v => { v with ckBusy := true, ckRun := some (c restore k) }
    ((s 2).vd 1).responds = true ∧ ((s 2).vd 1).ckBusy = false ∧ ((s 2).vd 1).works = true ∧ ((s 3).vd 1).responds = true ∧
    ((s 3).vd 1).works = false ∧ (run0 (s 2) 1 false w []).queue < ((s 2).vd 1).qcount ∧ ((r false 2).vd 1).ckBusy = true ∧
    (∀ b : Bool, ∀ k < 6, ((r b k).vd 1).ckRun = some (c b k) ∧ (r b k).roleStopped 1 = false ∧ (r b k).ckSending 1 = false ∧ (c b k).lines.length ≤ (c b k).sent) := by
  decide +kernel

/-! Witnesses for the hypotheses of the statements about the fabric, and about the machine as a whole. -/

/-- Endpoint entry of the placed VD: accelerator 2, VD 4 there, at slot 0. -/
def ep : Word := BitVec.ofNat 64 (2 ^ 63 + 1 * 2 ^ 32 + 4 * 2 ^ 16 + 2)
def tfab : State := { tact with vds := [(1, { placedVd with fepCount := 1 })], endpoints := [(0, ep)] }
def req (k : RemoteKind) (pa : Nat) : RemoteRequest := ⟨0, 2, 4, 1, pa, 7, k⟩

/-- Whether stage 2 answers a place, and which. -/
def at2 (s : State) (r : RemoteRequest) : Option Loc :=
  match (s.stage2 r.vd r.addr (requestNeed r.kind)).1 with
  | .ok l => some l
  | .error _ => none

theorem test_remote_request_hypotheses :
    tfab.peerServed 0 1 2 4 = true ∧ tfab.peerServed 0 1 3 4 = false ∧ (tfab.channel 0 2).established = false ∧
    at2 tfab (req (.read 4) 0x2000) = some ⟨.hbm, 0x2000⟩ ∧ at2 tfab (req (.write [some 1, none, some 2] none) 0x2000) = some ⟨.hbm, 0x2000⟩ ∧
    ((tfab.stage2 1 0x2000 Need.read).2.channel 0 2).established = false ∧ tfab.onlySealed (req (.read 4) 0x2000) = false ∧
    ({ tfab with endpoints := [(0, ep ||| 2 ^ 62)] } : State).onlySealed (req (.read 4) 0x2000) = true ∧
    (∀ i < 3, Table.look (tfab.stage2 1 0x2000 Need.write).2.tables ((0x2000 + i) / 64) = none) ∧
    (match (({ tfab with mem := [] } : State).stage2 1 0x2000 Need.read).1 with | .error (.absent _ _ _) => true | _ => false) = true ∧
    (tfab.vd 1).guest = false := by decide +kernel

/-- A message for the partition of `tgrid` from the grid 6 of accelerator 2, which its face 1 names. -/
def tarrive : State := { tfab with parts := [(0, { pt with record := { grec with rule := [4, 0, 0, 0, 0, 0], nbr := [0, 6 * 65536, 0, 0, 0, 0] } })] }
def dest (face : Nat) : FlueDest := ⟨4, 0, 6, 1, 0, 5, face⟩

theorem test_flue_messages : ((tarrive.flueTarget 0 2 (dest 1)).map fun x => (x.1, x.2 == (tarrive.parts.map (·.2)).headD pt)) = some (0, true) ∧
    (∀ p ∈ tarrive.parts.map (·.2), tarrive.namesSender p 1 2 (dest 1) = true ∧ tarrive.namesSender p 0 2 (dest 0) = false) := by
  decide +kernel

/-- An outstanding request of the placed warp. -/
def tout (use : RemoteUse) (work : OpWork) : State := { oneOp .loads work with remote := [⟨3, 1, 0, 2, 0, 4, 0x40, .read 4, use, false, true⟩] }
def lacc : LaneAcc := ⟨0, 0x5000, [], none, []⟩

theorem test_remote_response_hypotheses :
    let a := AgentId.warp 1 0
    let l := tout (.lane a 9 lacc) (.load (plainOp .load) [] [] [] [3] [])
    let w := tout (.write 0 [(a, 9)]) (.store (plainOp .store) [] [] [3])
    let c := tout (.engineRead (.checkpoint 1) 0 0) .finished
    tw.remote.find? (fun r => r.id == 3) = none ∧
    l.remote.find? (fun r => r.id == 3) = some ⟨3, 1, 0, 2, 0, 4, 0x40, .read 4, .lane a 9 lacc, false, true⟩ ∧
    l.op? a 9 = some ⟨9, .loads, .load (plainOp .load) [] [] [] [3] []⟩ ∧
    w.remote.find? (fun r => r.id == 3) = some ⟨3, 1, 0, 2, 0, 4, 0x40, .read 4, .write 0 [(a, 9)], false, true⟩ ∧
    w.op? a 9 = some ⟨9, .loads, .store (plainOp .store) [] [] [3]⟩ ∧ groupOf a = some 1 ∧ (w.group 1).residence = .resident ∧
    c.remote.find? (fun r => r.id == 3) = some ⟨3, 1, 0, 2, 0, 4, 0x40, .read 4, .engineRead (.checkpoint 1) 0 0, false, true⟩ := by decide +kernel

theorem test_remote_response_lanes : ∀ x ∈ (tout (.lane (.warp 1 0) 9 lacc) .finished).remote,
    ∀ ac c p, x.use ≠ .failed (.warp 1 0) 9 ac c p := by
  intro x hx ac c p h
  simp only [tout, List.mem_singleton] at hx
  subst hx
  cases h

theorem test_entry_hypotheses :
    let e : WcEntry := ⟨4, 1, 2, ep, [(.warp 1 0, 9)], [(8, 1, none), (9, 2, none)]⟩
    let s := tw.updCore 0 fun c => { c with wc := [e] }
    ((s.core 0).wc.filter fun x => x.id == 4) = [e] ∧
    ((s.core 0).wc.all fun e => e.id != 5) = true ∧ s.remote = [] := by decide +kernel

/-- A sealed channel of station 0 to accelerator 2 with some flits unacknowledged. -/
def sent0 : SentFlit := ⟨0, false, .data (.reply 0 .done), 5⟩
def tch (f : Channel → Channel) : State := tw.setChannel 0 2 (f { Channel.start with established := true })
def flit (seq : Nat) (gen ok : Bool) (b : FlitBody) : Flit := ⟨seq, gen, ok, b⟩

theorem test_channel_hypotheses :
    let c := (tch id).channel 0 2
    let d := (tch fun c => { c with delivered := true }).channel 0 2
    let u := (tch fun c => { c with unacked := [sent0], sendSeq := 1 }).channel 0 2
    (tw.channel 0 2).established = false ∧ c.established = true ∧ c.open_ (.marker (c.sendSeq + 1)) = true ∧ c.waiting = [] ∧ c.held = [] ∧ c.delivered = false ∧
    d.delivered = true ∧ d.held = [] ∧ u.unacked = [sent0] ∧ u.open_ (.marker (u.sendSeq + 1)) = true ∧ c.unacked = [] ∧ c.switchAt = none ∧
    ((tch fun c => { c with switchAt := some 3 }).channel 0 2).switchAt ≠ none ∧ c.recvSeq = 0 ∧ Table.look c.held 63 = none ∧
    c.genOk (flit 63 true true (.marker 9)) = false ∧ c.genOk (flit 0 false true (.marker 9)) = true ∧ Table.get 0 c.fails 63 < 15 ∧
    c.unreported < 15 ∧ c.recvSeq + 1 < 9 ∧ c.sealed + 1 < 2 ^ 32 ∧
    2 ^ 32 ≤ ((tch fun c => { c with sealed := 2 ^ 32 - 1 }).channel 0 2).sealed + 1 ∧ tw.pf.fabSeal = false ∧ (tw.station 0).state ≠ .up := by decide +kernel

theorem test_marker_is_no_ack : ∀ x m, FlitBody.marker 9 ≠ .ack x m := fun _ _ h => nomatch h

/-- Words at 0x1000, fetched by the placed warp at its next step. -/
def trun2 (bs : List Byte) : State := { State.reset.placed none bs with inputs := [.issue (.warp 1 0)] }
def tiss (bs : List Byte) : State := issuing (trun2 bs) (.warp 1 0) []

theorem test_step_hypotheses :
    let bs := leBytes 4 0x120C1F05
    let u := tiss bs
    let f := u.fetch (.warp 1 0) (u.pcOf (.warp 1 0))
    (trun2 bs).inputs = .issue (.warp 1 0) :: [] ∧ u.canIssue (.warp 1 0) = true ∧ f.1 = .bytes bs ∧
    (decodeBytes bs).toOption = some (.vaddS32Short ⟨7, 3, 3, 9⟩, []) ∧ (Instr.vaddS32Short ⟨7, 3, 3, 9⟩).form.isSome = true ∧
    ((Instr.vaddS32Short ⟨7, 3, 3, 9⟩).form.bind (f.2.fusedAt (.warp 1 0))) = none ∧
    (({ tw with groups := [] } : State).canIssue (.warp 1 0)) = false ∧ ({ State.reset with clk := 1 } : State).nextAgent = none ∧
    tw.inputs = [] ∧ tw.nextAgent = some (.warp 1 0) ∧ (0 : Word).toNat + 8 ≤ 0x40000 := by decide +kernel

/-- What fetching at an agent's PC comes to, where the PC is above the canonical range, and where a parcel of zeros stands. -/
theorem test_bad_fetches :
    let z := tiss []
    let t := (tiss []).updWarp 1 0 fun w => { w with frontier := [⟨0, 0x200000000000000, 1⟩] }
    (z.fetch (.warp 1 0) (z.pcOf (.warp 1 0))).1 = .bytes [0, 0] ∧ leBytes 2 (moveOfItself 0 0) = [0, 0] ∧
    (match decodeBytes [0, 0] with | .error _ => true | _ => false) = true ∧ t.canIssue (.warp 1 0) = true ∧
    2 ^ 57 ≤ (t.pcOf (.warp 1 0)).toNat ∧ (match (t.fetch (.warp 1 0) (t.pcOf (.warp 1 0))).1 with | .cause _ _ => true | _ => false) = true := by
  decide +kernel

/-- The four words of the fused idiom, written by the encoder. -/
def fo : FusedOp := ⟨7, false, .rne, 1, 2, 3, 4, 5, 8, 8, 8, 8⟩

theorem test_fused_hypotheses :
    tw.cur = .warp 1 0 ∧ (∀ f ∈ fo.forms, tw.decodeCause f = none) ∧ tw.live (.warp 1 0) = true ∧
    (tw.warp 1 0).frontier = [⟨0, 0x1000, BitVec.allOnes 64⟩] ∧ (tw.warp 1 0).vpoison = [] ∧ (tw.warp 1 0).ppoison = [] ∧
    (tw.warp 1 0).replay = [] ∧ tw.pairing = [] ∧ ((fo.forms.filterMap tk.decodeCause).head? = some .wrongAgent) := by decide +kernel

theorem test_checks_hypotheses :
    let f : GS → Option Form := fun o => (Instr.sadd o).form
    let p := tw.updWarp 1 0 fun w => { w with agent := { w.agent with spoison := Table.put 6 (BitVec.ofNat 12 5) w.agent.spoison } }
    (f ⟨5, 6, 7, 0, 0⟩).isSome = true ∧ ((f ⟨5, 6, 7, 0, 0⟩).bind p.scalarPoison) = some 5 ∧
    ((f ⟨5, 6, 7, 0, 0⟩).bind p.decodeCause) = none ∧ ((f ⟨96, 6, 7, 0, 0⟩).bind p.decodeCause) = some .illegal ∧
    ((Instr.kscan ⟨4, 5, 0, 0, 2⟩).form.bind tw.decodeCause) = some .wrongAgent ∧
    ((Instr.kscan ⟨4, 5, 0, 0, 2⟩).form.bind (tc 2).decodeCause) = some .priv ∧
    ((Instr.kscan ⟨4, 5, 0, 0, 2⟩).form.bind (tc 0).decodeCause) = none := by decide +kernel

theorem test_agent_classes : May (.warp 1 0) 0x10 0 ∧ ¬ May (.warp 1 0) 0x1C 0 ∧ May (.stoker 1) 0x12 7 ∧ ¬ May (.ctl 0) 3 8 ∧
    RoleMay 0 0 0 ∧ ¬ RoleMay 1 0 0 ∧ RoleMay 1 3 5 ∧ ¬ RoleMay 0 3 5 := by
  refine ⟨.warp (by decide) (by decide), ?_, .stokerSync (by decide), ?_, .scan, ?_, .writes (by decide), ?_⟩
  · rintro (⟨h, -⟩ | -)
    exact h.1 rfl
  · rintro (- | - | - | - | - | ⟨-, -, h⟩ | -)
    exact h rfl rfl
  · intro h; cases h; simp_all
  · intro h; cases h <;> simp_all

theorem test_encoding_hypotheses :
    (Instr.vaddS32Short ⟨7, 3, 3, 9⟩).wf = true ∧ encode (.vaddS32Short ⟨7, 3, 3, 9⟩) = some (4, 0x120C1F05) ∧
    (decodeBytes ([5, 0x1F, 0x0C, 0x12, 7, 7])).toOption = some (.vaddS32Short ⟨7, 3, 3, 9⟩, [7, 7]) := by decide +kernel

/-- Step's premises on bits: a word with one bit set, the highest and lowest that is. -/
theorem test_bit_hypotheses : (8 : Word).getLsbD 3 = true ∧ (∀ j < 64, 3 < j → (8 : Word).getLsbD j = false) ∧
    (∀ j < 3, (8 : Word).getLsbD j = false) := by decide

theorem test_counter_hypotheses :
    let v := (tfault true [fault false false (.fetch 1 0)]).vd 1
    v.responds = true ∧ tw.power.state ≠ 3 ∧ tw.power.state ≠ 4 ∧
    (v.faults.find? fun x => x.index.isNone).map (·.words.length) = some 4 := by decide +kernel

/-! Witnesses for paired issue, waiting reads, dampers, and power-gated banks. -/

/-- The placed workgroup under paired issue, its next execution differing in thread 3 in the way given. -/
def tpair (d : PairDiffer) : State := { tw with
  grids := [(1, { (tw.grid 1) with record := { placedRecord with words := placedRecord.words.set 9 (2 ^ 33) } })], pairing := [d] }

theorem test_paired_issue : ∀ d ∈ [(⟨[], []⟩ : PairDiffer), ⟨[3], []⟩, ⟨[3], [3]⟩],
    rq (tpair d) (.sadd ⟨5, 6, 7, 0, 0⟩) = true ∧ rq (tpair d) (.vadd ⟨7, false, .s32, .rne, false, 0, 1, 2, 3, 0⟩) = true ∧
    groupOf (tpair d).cur = some 1 ∧ ((tpair d).launchOf 1).paired = true ∧ (tpair d).pairing.headD ⟨[], []⟩ = d ∧
    bit ((tpair d).warp 1 0).head.mask 3 = true := by decide +kernel

theorem test_paired_lanes_are_clean : Unpoisoned ((tpair ⟨[3], [3]⟩).warp 1 0) 7 false
    (sourceTag (.vadd ⟨7, false, .s32, .rne, false, 0, 1, 2, 3, 0⟩) ((tpair ⟨[3], [3]⟩).warp 1 0)) := by
  unfold Unpoisoned; decide +kernel

/-- A requester's earlier write has ended, or waits for a home. -/
theorem test_reads_wait : let s : State := { tout (.write 0 [(.warp 1 0, 9)]) .finished with tracked := [(5, [3])] }
    s.readWaits 5 = true ∧ s.readWaits 6 = false ∧ s.power.state = 0 ∧ tact.readWaits 5 = false := by decide +kernel

/-- The placed workgroup holds segments of some banks of its core, and none of another. -/
theorem test_banks : (∃ k ∈ tw.usedSegments 0, k / 8 < 48) ∧ (47 : Nat) < 48 ∧ ∀ k ∈ tw.usedSegments 0, k / 8 ≠ 47 := by decide +kernel

/-- A damper holds memory requests, link requests, or nothing. -/
theorem test_dampers : let s (n m : Nat) := tw.updVd 1 fun v => { v.setWord 5 (BitVec.ofNat 64 (n + 2 ^ 32 * m)) with hbmWindow := 2 ^ 30, linkWindow := 2 ^ 30 }
    ((s 0 0).vd 1).hbmHeld = false ∧ ((s 0 0).vd 1).linkHeld = false ∧ ((s 1 0).vd 1).hbmHeld = true ∧ ((s 0 1).vd 1).linkHeld = true ∧ (tw.vd 1).hbmHeld = false := by decide +kernel

end Sys2Proof.Tests
end

/-! PROOFS. What the shared operations of the queue, host and port events leave: interrupts and the end of work records. -/

namespace Sys2Proof.Machine

open Sys2Proof.Claims

/-! Interrupts change the VDs, the messages sent and the interrupt table alone (02 R74). -/

theorem State.deliverMsix_frame (s : State) (vd : Nat) : ∃ v m, s.deliverMsix vd = { s with vds := v, sent := m } := by
  unfold State.deliverMsix
  refine foldl_keeps (fun t : State => ∃ v m, t = { s with vds := v, sent := m }) _ ?_ _ _ ⟨_, _, rfl⟩
  rintro _ n ⟨v, m, rfl⟩
  exact ⟨_, _, rfl⟩

theorem State.sendVector_frame (s : State) (owner vec n : Nat) : ∃ v m, s.sendVector owner vec n = { s with vds := v, sent := m } := by
  induction n generalizing s with
  | zero => exact ⟨_, _, rfl⟩
  | succ n ih =>
    obtain ⟨v, m, h⟩ := State.deliverMsix_frame
      (s.updVd owner fun v => { v with msixPending := v.msixPending ||| BitVec.ofNat 64 (2 ^ vec) }) owner
    obtain ⟨v', m', h'⟩ := ih (State.deliverMsix _ owner)
    exact ⟨v', m', h'.trans (by rw [h]; rfl)⟩

theorem State.flushIrt_frame (s : State) (n : Nat) : ∃ v m i, s.flushIrt n = { s with vds := v, sent := m, irt := i } := by
  have sent (e : Irt) (owner vec k : Nat) :
      ∃ v m i, (s.setIrt n e).sendVector owner vec k = { s with vds := v, sent := m, irt := i } := by
    obtain ⟨v, m, h⟩ := (s.setIrt n e).sendVector_frame owner vec k
    exact ⟨v, m, _, h⟩
  unfold State.flushIrt
  extract_lets e count owner vec
  split
  · exact ⟨_, _, _, rfl⟩
  · split
    · exact sent _ _ _ _
    · split
      · exact sent _ _ _ _
      · exact ⟨_, _, _, rfl⟩

theorem State.interrupt_frame (s : State) (entry source : Nat) :
    ∃ v m i, s.interrupt entry source = { s with vds := v, sent := m, irt := i } := by
  unfold State.interrupt
  extract_lets e
  split
  · exact ⟨_, _, _, rfl⟩
  · obtain ⟨v, m, i, h⟩ := (s.setIrt entry { e with pending := e.pending + 1 }).flushIrt_frame entry
    exact ⟨v, m, i, h⟩

theorem State.vdEvent_frame (s : State) (vd n : Nat) : ∃ v m i, s.vdEvent vd n = { s with vds := v, sent := m, irt := i } := by
  unfold State.vdEvent
  extract_lets v
  split
  · exact ⟨_, _, _, rfl⟩
  · obtain ⟨w, m, i, h⟩ := (s.setVd vd { v with vdevt := v.vdevt ||| BitVec.ofNat 4 (2 ^ n) }).interrupt_frame (1025 + 2 * vd) vd
    exact ⟨w, m, i, h⟩

@[simp] theorem State.queue_vdEvent (s : State) (vd n q : Nat) : (s.vdEvent vd n).queue q = s.queue q := by
  obtain ⟨v, m, i, h⟩ := s.vdEvent_frame vd n
  rw [h]; rfl

@[simp] theorem State.irtEntry_sendVector (s : State) (owner vec k n : Nat) : (s.sendVector owner vec k).irtEntry n = s.irtEntry n := by
  obtain ⟨v, m, h⟩ := s.sendVector_frame owner vec k
  rw [h]; rfl

@[simp] theorem State.irtEntry_setIrt (s : State) (n : Nat) (e : Irt) : (s.setIrt n e).irtEntry n = e := by
  simp [State.irtEntry, State.setIrt]

/-- An entry that is not held and whose time has passed sends what is pending through it. -/
theorem State.irtEntry_flushIrt_due (s : State) (n : Nat) (hd : (s.irtEntry n).due = true) (hh : (s.irtEntry n).word.getLsbD 32 = false)
    (hp : (s.irtEntry n).pending ≠ 0) : (s.flushIrt n).irtEntry n = { s.irtEntry n with pending := 0, due := false } := by
  unfold State.flushIrt
  simp only [hd, hh, Bool.or_true, Bool.false_or, if_true, beq_eq_false_iff_ne.mpr hp, Bool.false_eq_true, if_false]
  split <;> simp

/-! Work records (02 R68). -/

theorem State.forgetRecord_frame (s : State) (who : ParkOwner) : ∃ d r, s.forgetRecord who = { s with engineData := d, remote := r } := by
  unfold State.forgetRecord; split <;> exact ⟨_, _, rfl⟩

@[simp] theorem State.queue_forgetRecord (s : State) (who : ParkOwner) (q : Nat) : (s.forgetRecord who).queue q = s.queue q := by
  obtain ⟨d, r, h⟩ := s.forgetRecord_frame who
  rw [h]; rfl

/-- A queue error leaves the done bit and the records. -/
theorem State.queueError_keeps (s : State) (q err : Nat) :
    ((s.queueError q err).queue q).done = (s.queue q).done ∧ ((s.queueError q err).queue q).runs = (s.queue q).runs := by
  unfold State.queueError
  extract_lets x
  split
  · exact ⟨rfl, rfl⟩
  · simp [x]

/-- A record that is found by its index, where each of that index was changed, is the change of one. -/
theorem eq_of_find_changed {rs : List RecordRun} {i : Nat} {f : RecordRun → RecordRun} {r : RecordRun}
    (h : (rs.map fun r : RecordRun => if r.index.toNat == i then f r else r).find? (fun r => r.index.toNat == i) = some r) :
    ∃ r', r = f r' := by
  have hi := List.find?_some h
  obtain ⟨r', -, e⟩ := List.mem_map.mp (List.mem_of_find?_eq_some h)
  subst e
  split at hi
  · next h => exact ⟨r', if_pos h⟩
  · next h => exact absurd hi h

/-- A record that completes has its status, and its queue the done bit (19 R426). -/
theorem State.completed_completeRun (s : State) (q i status cause : Nat) (prov : Prov) (time : Word) (err : Nat) :
    Completed (s.completeRun q i status cause prov time err) q i status := by
  unfold State.completeRun
  extract_lets s1 s2
  have h2 : Completed s2 q i status := by
    refine ⟨by simp [s2], fun r hr => ?_⟩
    simp only [s2, s1, State.updRun, Queue.run, State.queue_updQueue, State.queue_forgetRecord] at hr
    obtain ⟨r', rfl⟩ := eq_of_find_changed hr
    exact ⟨rfl, rfl⟩
  split
  · exact h2
  · obtain ⟨hd, hr⟩ := s2.queueError_keeps q err
    exact ⟨hd.trans h2.1, fun r h => h2.2 r (by simpa only [Queue.run, hr] using h)⟩

@[simp] theorem State.forgetRecord_mem (s : State) (who : ParkOwner) : (s.forgetRecord who).mem = s.mem := by
  obtain ⟨d, r, h⟩ := s.forgetRecord_frame who
  rw [h]

@[simp] theorem State.queueError_mem (s : State) (q err : Nat) : (s.queueError q err).mem = s.mem := by
  unfold State.queueError
  extract_lets x
  split
  · rfl
  · obtain ⟨v, m, i, h⟩ := (s.setQueue q { x with state := 4, err := BitVec.ofNat 8 err }).vdEvent_frame x.vd.toNat 2
    rw [h]; rfl

@[simp] theorem State.completeRun_mem (s : State) (q i status cause : Nat) (prov : Prov) (time : Word) (err : Nat) :
    (s.completeRun q i status cause prov time err).mem = s.mem := by
  unfold State.completeRun
  extract_lets s1 s2
  have h2 : s2.mem = s.mem := s1.forgetRecord_mem _
  split
  · exact h2
  · exact (s2.queueError_mem q err).trans h2

end Sys2Proof.Machine

/-! PROOFS. Bytes in HBM and in host memory: what is read after a group of writes, and what the engines that read and write such
bytes leave. -/

namespace Sys2Proof.Machine

open Sys2Proof.Claims

/-! Lists. -/

theorem listGet_eq_getD {α : Type} (d : α) (l : List α) (n : Nat) : listGet d l n = l.getD n d := by
  induction l generalizing n with
  | nil => rfl
  | cons a l ih =>
    cases n with
    | zero => rfl
    | succ n => simpa [listGet] using ih n

/-- The numbered places are the places. -/
@[simp] theorem map_snd_numbered (k : Nat) (ls : List Loc) : (numbered k ls).map Prod.snd = ls := by
  refine List.ext_getElem (by simp [numbered]) fun i h h' => ?_
  simp [numbered, listGet_eq_getD, h']

theorem snd_mem_of_mem_numbered {k : Nat} {ls : List Loc} {p : Nat × Loc} (h : p ∈ numbered k ls) : p.2 ∈ ls := by
  rw [← map_snd_numbered k ls]
  exact List.mem_map_of_mem h

/-! Reading after writing (01 R4). -/

/-- A place in HBM or in host memory. -/
def Loc.inMemory (l : Loc) : Prop := l.space = .hbm ∨ l.space = .host

theorem Loc.inMemory.not_fabric {l : Loc} (h : l.inMemory) : l.space ≠ .fabric := by
  rcases h with h | h <;> simp [h]

theorem Loc.inMemory.not_window {l : Loc} (h : l.inMemory) (g w : Nat) : l.space ≠ .window g w := by
  rcases h with h | h <;> simp [h]

theorem State.readByte_eq_memGet (s : State) {l : Loc} (h : ∀ g w, l.space ≠ .window g w) : s.readByte l = memGet s.mem l.key := by
  unfold State.readByte
  split
  · next g w e => exact absurd e (h g w)
  · rfl

/-- Outside the register windows a byte is memory's. -/
theorem State.readByte_of_mem_eq {s t : State} (hm : t.mem = s.mem) {l : Loc} (h : ∀ g w, l.space ≠ .window g w) :
    t.readByte l = s.readByte l := by
  rw [t.readByte_eq_memGet h, s.readByte_eq_memGet h, hm]

theorem otherBytes_of_mem_eq {s t u : State} {ls : List Loc} (h : OtherBytes s t ls) (hm : u.mem = t.mem) : OtherBytes s u ls :=
  fun l hl hk => (State.readByte_of_mem_eq hm hl).trans (h l hl hk)

theorem State.writeByte_inMemory (s : State) {l : Loc} (h : l.inMemory) (b : Byte) :
    (s.writeByte l b).markDirty l = { s with mem := memSet s.mem l.key b } := by
  rcases h with h | h <;> simp [State.writeByte, State.markDirty, h]

/-- Memory after bytes are written one after another. -/
def memAfter (m : Memory) (ws : List ByteWrite) : Memory := ws.foldl (fun m w => memSet m w.loc.key w.byte) m

theorem State.performWrites_mem (s : State) {ws : List ByteWrite} (h : ∀ w ∈ ws, w.loc.inMemory) :
    (s.performWrites ws).mem = memAfter s.mem ws := by
  have bytes : ∀ (ws : List ByteWrite) (t : State), (∀ w ∈ ws, w.loc.inMemory) →
      (ws.foldl (fun s w => (s.writeByte w.loc w.byte).markDirty w.loc) t).mem = memAfter t.mem ws := by
    intro ws
    induction ws with
    | nil => intro t _; rfl
    | cons w ws ih =>
      intro t hw
      rw [List.foldl_cons, ih _ fun x hx => hw x (by simp [hx]), t.writeByte_inMemory (hw w (by simp))]
      rfl
  unfold State.performWrites
  refine foldl_keeps (fun t : State => t.mem = memAfter s.mem ws) _ ?_ _ _ (bytes ws s h)
  intro t l ht
  dsimp only
  split
  · exact ht
  · simpa using ht

theorem memGet_memAfter_ne (m : Memory) (ws : List ByteWrite) (k : Nat) (h : ∀ w ∈ ws, w.loc.key ≠ k) :
    memGet (memAfter m ws) k = memGet m k := by
  induction ws generalizing m with
  | nil => rfl
  | cons w ws ih =>
    have hw : k ≠ w.loc.key := Ne.symm (h w (by simp))
    exact (ih _ fun x hx => h x (by simp [hx])).trans (memGet_memSet_ne m w.byte hw)

theorem memGet_memAfter (m : Memory) {ws : List ByteWrite} (hn : (ws.map fun w => w.loc.key).Nodup) {w : ByteWrite} (hw : w ∈ ws) :
    memGet (memAfter m ws) w.loc.key = w.byte := by
  induction ws generalizing m with
  | nil => simp at hw
  | cons x ws ih =>
    obtain ⟨hx, hn⟩ := List.nodup_cons.mp hn
    rcases List.mem_cons.mp hw with rfl | hw
    · exact (memGet_memAfter_ne _ ws _ fun y hy e => hx (List.mem_map.mpr ⟨y, hy, e⟩)).trans (memGet_memSet_self m _ _)
    · exact ih _ hn hw

/-- A byte in memory that a group of writes to different places names reads as it was written. -/
theorem State.readByte_performWrites (s : State) {ws : List ByteWrite} (hm : ∀ w ∈ ws, w.loc.inMemory)
    (hn : (ws.map fun w => w.loc.key).Nodup) {w : ByteWrite} (hw : w ∈ ws) : (s.performWrites ws).readByte w.loc = w.byte := by
  rw [State.readByte_eq_memGet _ (hm w hw).not_window, s.performWrites_mem hm, memGet_memAfter _ hn hw]

/-- A group of writes leaves every other byte. -/
theorem State.otherBytes_performWrites (s : State) (ws : List ByteWrite) : OtherBytes s (s.performWrites ws) (ws.map (·.loc)) := by
  intro l hl hk
  rw [State.readByte_eq_memGet _ hl, State.readByte_eq_memGet _ hl]
  exact s.memGet_performWrites ws l.key fun w hw e => hk w.loc (List.mem_map_of_mem hw) e.symm

/-! Stores from outside the cores to places that no walker has read (12 R299, R300). -/

theorem State.trackedLines_of_untracked {s : State} {ws : List ByteWrite} (h : Untracked s (ws.map (·.loc))) : s.trackedLines ws = [] := by
  refine List.filter_eq_nil_iff.mpr fun n hn => ?_
  obtain ⟨w, hw, rfl⟩ := List.mem_map.mp (List.mem_eraseDups.mp hn)
  obtain ⟨hw, hs⟩ := List.mem_filter.mp hw
  simp [h w.loc (List.mem_map_of_mem hw) (by simpa using hs)]

theorem State.engineStore_of_untracked {s : State} {ws : List ByteWrite} (h : Untracked s (ws.map (·.loc))) :
    s.engineStore ws = s.performOutside ws := by
  rw [State.engineStore, State.trackedLines_of_untracked h]; rfl

/-- A control core has no L1: what it writes is written from outside the cores. -/
theorem State.engineStoreBy_ctl (s : State) (c : Nat) (ws : List ByteWrite) : s.engineStoreBy (.ctl c) ws = s.engineStore ws := rfl

theorem State.readByte_engineStore {s : State} {ws : List ByteWrite} (hu : Untracked s (ws.map (·.loc))) (hm : ∀ w ∈ ws, w.loc.inMemory)
    (hn : (ws.map fun w => w.loc.key).Nodup) {w : ByteWrite} (hw : w ∈ ws) : (s.engineStore ws).readByte w.loc = w.byte := by
  rw [State.engineStore_of_untracked hu]
  exact State.readByte_performWrites _ hm hn hw

theorem State.otherBytes_engineStore {s : State} {ws : List ByteWrite} (hu : Untracked s (ws.map (·.loc))) :
    OtherBytes s (s.engineStore ws) (ws.map (·.loc)) := by
  rw [State.engineStore_of_untracked hu]
  exact fun l hl hk => State.otherBytes_performWrites _ ws l hl hk

theorem State.engineStore_frame {s : State} {ws : List ByteWrite} (hu : Untracked s (ws.map (·.loc))) :
    ∃ m p g o, s.engineStore ws = { s with mem := m, poison := p, groups := g, owners := o } := by
  rw [State.engineStore_of_untracked hu]
  exact s.performOutside_frame ws

/-! Engine reads and writes of places that are not behind the fabric (13 R327). -/

theorem fabricRuns_of_local {ps : List (Nat × Loc)} (h : ∀ p ∈ ps, p.2.space ≠ .fabric) : fabricRuns ps = [] := by
  induction ps with
  | nil => rfl
  | cons p ps ih =>
    have hp : (p.2.space != .fabric) = true := by simpa using h p (by simp)
    simp only [fabricRuns, hp, if_true]
    exact ih fun x hx => h x (by simp [hx])

/-- The writes of an engine to places that are not behind the fabric. -/
def engineWrites (ls : List Loc) (bs : List (Byte × Option Prov)) : List ByteWrite :=
  (numbered 0 ls).map fun p => ⟨p.2, (listGet (0, none) bs p.1).1, (listGet (0, none) bs p.1).2⟩

@[simp] theorem map_loc_engineWrites (ls : List Loc) (bs : List (Byte × Option Prov)) : (engineWrites ls bs).map (·.loc) = ls := by
  rw [engineWrites, List.map_map]
  exact map_snd_numbered 0 ls

theorem loc_mem_of_mem_engineWrites {ls : List Loc} {bs : List (Byte × Option Prov)} {w : ByteWrite} (h : w ∈ engineWrites ls bs) :
    w.loc ∈ ls := by
  rw [← map_loc_engineWrites ls bs]
  exact List.mem_map_of_mem h

/-- The part of an engine's write that goes to no remote home, as the engines select it. -/
theorem filterMap_local {ls : List Loc} (bs : List (Byte × Option Prov)) (h : ∀ l ∈ ls, l.space ≠ .fabric) :
    ((numbered 0 ls).filterMap fun p => if p.2.space == .fabric then none else
      let b := listGet (0, none) bs p.1
      some (⟨p.2, b.1, b.2⟩ : ByteWrite)) = engineWrites ls bs := by
  rw [engineWrites, ← List.filterMap_eq_map]
  refine List.filterMap_congr fun p hp => ?_
  have hl := h p.2 (snd_mem_of_mem_numbered hp)
  simp [hl]

theorem State.engineRead_of_local (s : State) (vd : Nat) (who : ParkOwner) (part first : Nat) {ls : List Loc}
    (h : ∀ l ∈ ls, l.space ≠ .fabric) :
    s.engineRead vd who part first ls = (some (ls.map fun l => (s.readByte l, s.poisonAt l)), s) := by
  have bytes : ((numbered first ls).map fun p => s.engineByte who part p.1 p.2) =
      ls.map fun l => some (s.readByte l, s.poisonAt l) := by
    conv_rhs => rw [← map_snd_numbered first ls, List.map_map]
    refine List.map_congr_left fun p hp => ?_
    simp [State.engineByte, h p.2 (snd_mem_of_mem_numbered hp)]
  simp only [State.engineRead, bytes]
  rw [if_pos (by simp)]
  simp [List.filterMap_map]

theorem State.engineWrite_of_local (s : State) (a : AgentId) (vd : Nat) (who : ParkOwner) (part : Nat) {ls : List Loc}
    (bs : List (Byte × Option Prov)) (h : ∀ l ∈ ls, l.space ≠ .fabric) :
    s.engineWrite a vd who part ls bs = (false, s.engineStoreBy a (engineWrites ls bs)) := by
  simp only [State.engineWrite, filterMap_local bs h, fabricRuns_of_local fun p hp => h p.2 (snd_mem_of_mem_numbered hp)]
  rfl

/-! Host memory. -/

/-- The `n` places of host memory from an address on. -/
def hostSpan (addr n : Nat) : List Loc := (List.range n).map fun i => ⟨.host, addr + i⟩

theorem space_of_mem_hostSpan {addr n : Nat} {l : Loc} (h : l ∈ hostSpan addr n) : l.space = .host := by
  obtain ⟨i, -, rfl⟩ := List.mem_map.mp h
  rfl

/-- No line of host memory is a table's (12 R299). -/
theorem untracked_of_host {s : State} {ls : List Loc} (h : ∀ l ∈ ls, l.space = .host) : Untracked s ls := by
  intro l hl hs
  rw [h l hl] at hs
  cases hs

theorem nodup_key_hostSpan (addr n : Nat) : ((hostSpan addr n).map Loc.key).Nodup := by
  rw [hostSpan, List.map_map]
  refine List.nodup_range.map fun i j h => ?_
  simp only [Function.comp_apply, Loc.key] at h
  omega

end Sys2Proof.Machine

/-! PROOFS. The events of the work queues (02 R54-R74). -/

namespace Sys2Proof.Machine

open Sys2Proof.Claims

theorem does_of_exec_eq {i : Instr} {s t : State} {P : State → Prop} (h : exec i s = .next t) (p : P t) : Does i s P := ⟨t, h, p⟩

/-! Registers of a queue (02 R56-R62, R72). -/

/-- Loading interrupt entries leaves the queues. -/
@[simp] theorem State.loadIrts_queues (s : State) (vd : Nat) : (s.loadIrts vd).queues = s.queues := by
  unfold State.loadIrts
  extract_lets v s1 f s2 g
  have h1 : s1.queues = s.queues := by
    refine foldl_keeps (fun t : State => t.queues = s.queues) _ ?_ _ _ rfl
    exact fun _ _ h => h
  exact h1

@[simp] theorem State.queue_loadIrts (s : State) (vd q : Nat) : (s.loadIrts vd).queue q = s.queue q := by
  simp only [State.queue, State.loadIrts_queues]

/-- EN of a register with it at bit 31 is apart from every field below. -/
theorem getLsbD_or_en (v : W32) {i : Nat} (h : i < 31) : (v ||| 0x80000000#32).getLsbD i = v.getLsbD i := by
  have en : ∀ i < 31, (0x80000000#32).getLsbD i = false := by decide
  simp only [BitVec.getLsbD_or, en i h, Bool.or_false]

theorem fieldN_eq_toNat_extractLsb' {w : Nat} (x : BitVec w) (hi lo : Nat) : fieldN x hi lo = (x.extractLsb' lo (hi + 1 - lo)).toNat := by
  rw [BitVec.extractLsb'_toNat, Nat.shiftRight_eq_div_pow, fieldN]

theorem fieldN_congr {w : Nat} {x y : BitVec w} {hi lo : Nat} (h : ∀ i, lo ≤ i → i ≤ hi → x.getLsbD i = y.getLsbD i) :
    fieldN x hi lo = fieldN y hi lo := by
  rw [fieldN_eq_toNat_extractLsb', fieldN_eq_toNat_extractLsb']
  congr 1
  refine BitVec.eq_of_getLsbD_eq fun i hi' => ?_
  simp only [BitVec.getLsbD_extractLsb', h (lo + i) (by omega) (by omega)]

/-- The sizes of R56 that a write of EN leaves as they were given. -/
theorem fieldN_qcfg_of_enable (v : W32) {hi lo : Nat} (h : ∀ i, lo ≤ i → i ≤ hi → i < 31 ∧ qcfgMask.getLsbD i = true) :
    fieldN ((v ||| 0x80000000#32) &&& qcfgMask) hi lo = fieldN v hi lo := by
  refine fieldN_congr fun i hl hh => ?_
  obtain ⟨h31, hm⟩ := h i hl hh
  rw [BitVec.getLsbD_and, getLsbD_or_en v h31, hm, Bool.and_true]

/-- A write of EN = 1 to an IDLE queue with valid sizes and rings enables it (02 R58). -/
theorem State.queue_writeQcfg_enable (s : State) (q : Nat) (v : W32) (hs : (s.queue q).state = 0)
    (he : (s.queue q).enabled = false) (h1 : 4 ≤ fieldN v 4 0) (h2 : fieldN v 4 0 ≤ 16) (h3 : 4 ≤ fieldN v 12 8)
    (h4 : fieldN v 12 8 ≤ 16) (hq : fieldN (s.queue q).qbase 51 6 ≠ 0) (hc : fieldN (s.queue q).cbase 51 6 ≠ 0) :
    (s.writeQcfg q (v ||| 0x80000000#32)).queue q = { s.queue q with
      qcfg := (v ||| 0x80000000#32) &&& qcfgMask ||| 0x80000000#32, state := 1, err := 0, head := 0, tail := 0, next := 0, cprod := 0,
      kccons := 0, runs := [], staged := [], retiring := [] } := by
  have hqs : fieldN ((v ||| 0x80000000#32) &&& qcfgMask) 4 0 = fieldN v 4 0 :=
    fieldN_qcfg_of_enable v fun i _ h => ⟨by omega, by interval_cases i <;> rfl⟩
  have hcs : fieldN ((v ||| 0x80000000#32) &&& qcfgMask) 12 8 = fieldN v 12 8 :=
    fieldN_qcfg_of_enable v fun i _ h => ⟨by omega, by interval_cases i <;> rfl⟩
  simp [State.writeQcfg, he, hs, hqs, hcs, h1, h2, h3, h4, hq, hc]

theorem queueEnable_does (s : State) (q : Nat) (v : W32) (ho : s.queueOpen q = true) (hs : (s.queue q).state = 0)
    (he : (s.queue q).qcfg.getLsbD 31 = false) (h1 : 4 ≤ v.toNat % 2 ^ 5) (h2 : v.toNat % 2 ^ 5 ≤ 16) (h3 : 4 ≤ v.toNat / 2 ^ 8 % 2 ^ 5)
    (h4 : v.toNat / 2 ^ 8 % 2 ^ 5 ≤ 16) (hq : (s.queue q).qbase.toNat / 2 ^ 6 % 2 ^ 46 ≠ 0)
    (hc : (s.queue q).cbase.toNat / 2 ^ 6 % 2 ^ 46 ≠ 0) :
    Does (.queueEnable q v) s fun t => (t.queue q).state = 1 ∧ (t.queue q).qcfg.getLsbD 31 = true ∧ (t.queue q).head = 0 ∧
      (t.queue q).tail = 0 ∧ (t.queue q).cprod = 0 := by
  refine does_of_exec_eq (by rw [exec_queueEnable, execQueueEnable, if_pos ho]) ?_
  rw [s.queue_writeQcfg_enable q v hs he (by simpa [fieldN] using h1) (by simpa [fieldN] using h2) h3 h4 hq hc]
  simp

/-- A write of EN = 0 disables a queue, which is STOPPING unless it was IDLE (02 R59). -/
theorem State.queue_writeQcfg_disable (s : State) (q : Nat) (v : W32) :
    ((s.writeQcfg q (v &&& 0x7FFFFFFF#32)).queue q).qcfg.getLsbD 31 = false ∧
    ((s.writeQcfg q (v &&& 0x7FFFFFFF#32)).queue q).state = if (s.queue q).state = 0 then 0 else 5 := by
  by_cases h5 : (s.queue q).state = 5#3
  · simp [State.writeQcfg, h5]
  · simp [State.writeQcfg, h5]

theorem queueDisable_does (s : State) (q : Nat) (v : W32) (ho : s.queueOpen q = true) :
    Does (.queueDisable q v) s fun t => (t.queue q).qcfg.getLsbD 31 = false ∧
      (t.queue q).state = if (s.queue q).state = 0 then 0 else 5 :=
  does_of_exec_eq (by rw [exec_queueDisable, execQueueDisable, if_pos ho]) (s.queue_writeQcfg_disable q v)

theorem exec_kick_open (s : State) (q : Nat) (v : W32) (ho : s.queueOpen q = true) :
    exec (.kick q v) s = .next (s.setQueue q { s.queue q with latch := v, kick := true }) := by
  rw [exec_kick, execKick, State.kickQueue, if_pos ho]; rfl

theorem exec_kcconsWrite_open (s : State) (q : Nat) (v : W32) (ho : s.queueOpen q = true)
    (h : ((s.queue q).cprod - v).toNat ≤ 2 ^ ((s.queue q).qcfg.toNat / 2 ^ 8 % 2 ^ 5)) :
    exec (.kcconsWrite q v) s = .next (s.setQueue q { s.queue q with kccons := v }) := by
  have hc : decide (2 ^ (s.queue q).csize < ((s.queue q).cprod - v).toNat) = false := decide_eq_false (Nat.not_lt.mpr h)
  simp only [exec_kcconsWrite, execKcconsWrite, State.writeKccons, ho, hc, Bool.not_true, Bool.or_false, Bool.false_eq_true, if_false]

theorem exec_queueStopped_idle (s : State) (q : Nat) (hs : (s.queue q).state = 5) (hr : (s.queue q).runs = [])
    (hg : (s.queue q).staged = []) (ht : (s.queue q).retiring = []) :
    exec (.queueStopped q) s = .next (s.setQueue q { s.queue q with state := 0 }) := by
  rw [exec_queueStopped, execQueueStopped]
  simp [hs, hr, hg, ht]

/-! Records that complete by an event of their own (02 R68-R70, 19 R426). -/

theorem waitsemTimeout_does (s : State) (q : Nat) {r : RecordRun} (hr : (s.queue q).runs.find? RecordRun.waits = some r)
    (ht : (rw r 3).toNat / 2 ^ 32 ≠ 0) : Does (.waitsemTimeout q) s fun t => Completed t q r.index.toNat 3 := by
  have field : fieldN (rw r 3) 63 32 = (rw r 3).toNat / 2 ^ 32 := Nat.mod_eq_of_lt (by have := (rw r 3).isLt; omega)
  have ht' : (fieldN (listGet 0 r.words 3) 63 32 == 0) = false := beq_eq_false_iff_ne.mpr (field.trans_ne ht)
  refine ⟨_, ?_, s.completed_completeRun q r.index.toNat 3 0 0 0 0⟩
  simp only [exec_waitsemTimeout, execWaitsemTimeout, hr, ht', Bool.false_eq_true, if_false]

theorem fenceqComplete_does (s : State) (q : Nat) (i : W32) {r : RecordRun} (hr : (s.queue q).run i.toNat = some r)
    (hc : r.completed = false) (hk : recordKind r.words = 5) : Does (.fenceqComplete q i) s fun t => Completed t q i.toNat 0 := by
  refine ⟨_, ?_, s.completed_completeRun q i.toNat 0 0 0 0 0⟩
  rw [exec_fenceqComplete, execFenceqComplete]
  simp [hr, hc, hk]

/-- The end of a LAUNCH, with a status and then the re-evaluation of its VD's WAITSEMs (02 R69). -/
theorem State.finishLaunch_completes (s : State) (q i status cause : Nat) (prov : Prov) (time : Word) (err : Nat) :
    ∃ u : State, s.finishLaunch q i status cause prov time err = u.semEvents (fun _ y => y.vd == (s.queue q).vd) ∧ Completed u q i status :=
  ⟨_, rfl, State.completed_completeRun _ q i status cause prov time err⟩

theorem launchRecordComplete_does (s : State) (q : Nat) (i : W32) {r : RecordRun} {m : Nat} (hr : (s.queue q).run i.toNat = some r)
    (hc : r.completed = false) (hk : recordKind r.words = 1) (hm : r.grid = some m)
    (he : ∀ e ∈ s.grids, e.2.queue = q → e.2.index = i.toNat → e.2.ended = true) :
    Does (.launchRecordComplete q i) s fun t => ∃ (u : State) (e : Nat),
      t = u.semEvents (fun _ y => y.vd == (s.queue q).vd) ∧ Completed u q i.toNat e := by
  have hall : (s.treeOf q i.toNat).all (fun g => g.2.ended) = true := by
    refine List.all_eq_true.mpr fun e hm => ?_
    obtain ⟨hm, h⟩ := List.mem_filter.mp hm
    simp only [Bool.and_eq_true, beq_iff_eq] at h
    exact he e hm h.1 h.2
  unfold Does
  rw [exec_launchRecordComplete, execLaunchRecordComplete]
  simp only [hr, hc, hk, hm, hall, bne_self_eq_false, Option.isNone_some, Bool.not_true, Bool.or_false, Bool.false_eq_true, if_false]
  refine ⟨_, rfl, ?_⟩
  split
  · obtain ⟨u, h⟩ := s.finishLaunch_completes q i.toNat 0 0 0 _ 0
    exact ⟨u, 0, h⟩
  · obtain ⟨u, h⟩ := s.finishLaunch_completes q i.toNat _ _ _ _ 5
    exact ⟨u, _, h⟩

/-! A system copy that fills one run of bytes within a page with zeros (02 R68). -/

/-- A COPY of at most what one page of each side holds is one chunk. -/
theorem copyOrder_one_page {src dst len : Nat} (h0 : 0 < len) (hs : src % 4096 + len ≤ 4096) (hd : dst % 4096 + len ≤ 4096) :
    copyOrder src dst len true = [(0, len)] := by
  have chunk : copyChunk src dst 0 len = len := by simp only [copyChunk]; omega
  obtain ⟨n, hn⟩ : ∃ n, 2 * (len / 4096 + 2) = n + 2 := ⟨2 * (len / 4096) + 2, by omega⟩
  simp [copyOrder, hn, copyChunks, chunk]
  omega

theorem State.moveChunk_zero (s u : State) (q i k src dst len : Nat) {ts : List Loc}
    (hr : s.reachRecord q i dst len Need.write = (.ok ts, u)) (hd : u.damps (s.queue q).vd.toNat ts = false) (hm : ∀ l ∈ ts, l.inMemory) :
    s.moveChunk q i k src dst true (0, len) = (some true,
      ((u.forget (.record q i) (2 + k)).engineStore (engineWrites ts (List.replicate len (0, none)))).meterPlaces (s.queue q).vd.toNat ts) := by
  have hf : ∀ l ∈ ts, l.space ≠ .fabric := fun l h => (hm l h).not_fabric
  have runs := fabricRuns_of_local (ps := numbered 0 ts) fun p hp => hf p.2 (snd_mem_of_mem_numbered hp)
  simp only [State.moveChunk, if_true, Nat.add_zero, hr, List.nil_append, hd, Bool.false_eq_true, if_false, runs, filterMap_local _ hf]
  rfl

theorem State.forget_frame (s : State) (who : ParkOwner) (part : Nat) : ∃ d, s.forget who part = { s with engineData := d } := ⟨_, rfl⟩

theorem State.meterPlaces_frame (s : State) (vd : Nat) (ls : List Loc) : ∃ v, s.meterPlaces vd ls = { s with vds := v } := by
  unfold State.meterPlaces
  extract_lets n
  split <;> exact ⟨_, rfl⟩

/-- The chunk of zeros is moved: the bytes of its places read 0, every other byte as before, and nothing is sent. -/
theorem State.moveChunk_zero_effect {s u : State} {q i k dst len : Nat} (src : Nat) {ts : List Loc}
    (hr : s.reachRecord q i dst len Need.write = (.ok ts, u)) (hd : u.damps (s.queue q).vd.toNat ts = false)
    (hm : ∀ l ∈ ts, l.inMemory) (hn : (ts.map Loc.key).Nodup) (ht : Untracked u ts) (hrem : u.remote = []) :
    ∃ t : State, s.moveChunk q i k src dst true (0, len) = (some true, t) ∧ t.remote = [] ∧
      (∀ l ∈ ts, t.readByte l = 0) ∧ OtherBytes u t ts := by
  obtain ⟨d, hf⟩ := u.forget_frame (.record q i) (2 + k)
  have hloc := map_loc_engineWrites ts (List.replicate len ((0 : Byte), (none : Option Prov)))
  have hzero : ∀ w ∈ engineWrites ts (List.replicate len (0, none)), w.byte = 0 := by
    intro w hw
    obtain ⟨p, -, rfl⟩ := List.mem_map.mp hw
    simp [listGet_eq_getD]
  have move := s.moveChunk_zero u q i k src dst len hr hd hm
  rw [hf] at move
  generalize engineWrites ts (List.replicate len ((0 : Byte), (none : Option Prov))) = ws at *
  have hu : Untracked { u with engineData := d } (ws.map (·.loc)) := by rwa [hloc]
  have hws : ∀ w ∈ ws, w.loc.inMemory := fun w hw => hm w.loc (hloc ▸ List.mem_map_of_mem hw)
  have hkeys : (ws.map fun w => w.loc.key).Nodup := by rwa [← hloc, List.map_map] at hn
  obtain ⟨v, hv⟩ := State.meterPlaces_frame (State.engineStore { u with engineData := d } ws) (s.queue q).vd.toNat ts
  have hmem : (State.meterPlaces (State.engineStore { u with engineData := d } ws) (s.queue q).vd.toNat ts).mem =
      (State.engineStore { u with engineData := d } ws).mem := by rw [hv]
  refine ⟨_, move, ?_, fun l hl => ?_, ?_⟩
  · obtain ⟨m, p, g, o, he⟩ := State.engineStore_frame hu
    rw [hv, he]
    exact hrem
  · rw [← hloc] at hl
    obtain ⟨w, hw, rfl⟩ := List.mem_map.mp hl
    rw [State.readByte_of_mem_eq hmem (hws w hw).not_window, State.readByte_engineStore hu hws hkeys hw, hzero w hw]
  · exact otherBytes_of_mem_eq (hloc ▸ State.otherBytes_engineStore hu) hmem

/-- A copy of zeros within a page completes with its bytes 0 and every other byte as it was. -/
theorem systemCopyComplete_does (s u : State) (q : Nat) (i : W32) {r : RecordRun} {ts : List Loc} (hr : (s.queue q).run i.toNat = some r)
    (hc : r.completed = false) (hk : recordKind r.words = 4) (h0 : r.moved = 0) (hz : rw r 4 = 1) (hl : 0 < (rw r 3).toNat)
    (hs : (rw r 1).toNat % 4096 + (rw r 3).toNat ≤ 4096) (hd : (rw r 2).toNat % 4096 + (rw r 3).toNat ≤ 4096)
    (hreach : s.reachRecord q i.toNat (rw r 2).toNat (rw r 3).toNat Need.write = (.ok ts, u)) (hn : (ts.map Loc.key).Nodup)
    (hm : ∀ l ∈ ts, l.space = .hbm ∨ l.space = .host) (hrem : u.remote = []) (ht : Untracked u ts)
    (hdamp : u.damps (s.queue q).vd.toNat ts = false) :
    Does (.systemCopyComplete q i) s fun t => Completed t q i.toNat 0 ∧ (∀ l ∈ ts, t.readByte l = 0) ∧ OtherBytes u t ts := by
  obtain ⟨t, hmove, htr, hz0, hother⟩ :=
    State.moveChunk_zero_effect (k := 0) (rw r 1).toNat hreach hdamp hm hn ht hrem
  have hrun : exec (.systemCopyComplete q i) s = .next ((t.updRun q i.toNat fun r => { r with moved := 1 }).completeRun q i.toNat 0 0 0 0 0) := by
    have order := copyOrder_one_page hl hs hd
    simp only [rw] at hmove order hz
    simp only [exec_systemCopyComplete, execSystemCopyComplete, hr, hc, hk, h0, hz, Bool.false_or, bne_self_eq_false, Bool.false_eq_true, if_false]
    simp only [show ((1 : Word).toNat == 1) = true from rfl, order, List.drop_zero, State.moveChunks, hmove]
    rw [if_neg (by simp [State.updRun, htr])]
  have hmem : ((t.updRun q i.toNat fun r => { r with moved := 1 }).completeRun q i.toNat 0 0 0 0 0).mem = t.mem :=
    State.completeRun_mem _ q i.toNat 0 0 0 0 0
  refine ⟨_, hrun, State.completed_completeRun _ q i.toNat 0 0 0 0 0, fun l hl => ?_, otherBytes_of_mem_eq hother hmem⟩
  exact (State.readByte_of_mem_eq hmem (Loc.inMemory.not_window (hm l hl))).trans (hz0 l hl)

end Sys2Proof.Machine

/-! PROOFS. The events of interrupt coalescing, the device's registers and the host's accesses (00 R9-R12, 01 R20, 02 R69, R74, 03
R80, R81, 09 R233, 13 R327, 15 R358). -/

namespace Sys2Proof.Machine

open Sys2Proof.Claims

theorem exec_sempollTick_eq (s : State) (vd : Nat) :
    exec (.sempollTick vd) s = .next (((s.queues.filter fun e => e.2.vd.toNat == vd).map (·.1)).foldl State.semEvent s) := by
  rw [exec_sempollTick, execSempollTick, State.semEvents, List.foldl_map]

theorem irqCoalesceTimeout_does (s : State) (n : Nat) (hp : (s.irtEntry n).pending ≠ 0) (hh : (s.irtEntry n).word.getLsbD 32 = false) :
    Does (.irqCoalesceTimeout n) s fun t => (t.irtEntry n).pending = 0 ∧ (t.irtEntry n).due = false := by
  have hp' : ((s.irtEntry n).pending == 0) = false := beq_eq_false_iff_ne.mpr hp
  refine does_of_exec_eq (by simp only [exec_irqCoalesceTimeout, execIrqCoalesceTimeout, hp', Bool.false_eq_true, if_false]; rfl) ?_
  rw [State.irtEntry_flushIrt_due]
  · simp
  · simp
  · simpa using hh
  · simpa using hp

/-! Registers that are written while every VD is FREE, and FWCTLd. -/

theorem State.allFree_eq_true {s : State} (h : ∀ e ∈ s.vds, e.2.state = 0) : s.allFree = true :=
  List.all_eq_true.mpr fun e he => beq_iff_eq.mpr (h e he)

theorem partcfgWrite_does (s : State) (v : W32) (h : ∀ e ∈ s.vds, e.2.state = 0) :
    Does (.partcfgWrite v) s fun t => t.pf.partMode = v.getLsbD 0 := by
  refine does_of_exec_eq (by rw [exec_partcfgWrite, execPartcfgWrite]) ?_
  simp [State.writePartcfg, State.allFree_eq_true h]

theorem fabcfgWrite_does (s : State) (v : W32) (h : ∀ e ∈ s.vds, e.2.state = 0) :
    Does (.fabcfgWrite v) s fun t => t.pf.fabAcc = v.setWidth 10 ∧ t.pf.fabAge = v.extractLsb' 16 8 ∧ t.pf.fabSeal = v.getLsbD 12 ∧
      t.pf.fabWc = v.getLsbD 11 := by
  refine does_of_exec_eq (by rw [exec_fabcfgWrite, execFabcfgWrite]) ?_
  have acc : fieldN v 9 0 = (v.setWidth 10).toNat := by simp [fieldN]
  simp only [State.writeFabcfg, State.allFree_eq_true h, if_true, acc, fieldN_eq_toNat_extractLsb', BitVec.ofNat_toNat, BitVec.setWidth_eq,
    and_self]

theorem fwlogClear_does (s : State) (d : Nat) (v : W32) (hd : d < 2) :
    Does (.fwlogClear d v) s fun t => t.pf.fwCount = listSet s.pf.fwCount d 0 ∧ t.pf.fwIrq = listSet s.pf.fwIrq d (v.getLsbD 1) := by
  refine does_of_exec_eq (by rw [exec_fwlogClear, execFwlogClear]) ?_
  have hd' : ¬ 2 ≤ d := Nat.not_le.mpr hd
  simp [State.writeFwctl, hd']

theorem dscarveWrite_does (s : State) (d : Nat) (v : W32) (h : ∀ e ∈ s.vds, e.2.state = 0) (hd : d < 2) :
    Does (.dscarveWrite d v) s fun t => t.pf.dsMib = listSet s.pf.dsMib d (BitVec.ofNat 9 (min 256 (v.toNat % 2 ^ 9))) := by
  refine does_of_exec_eq (by rw [exec_dscarveWrite, execDscarveWrite]) ?_
  have hd' : ¬ 2 ≤ d := Nat.not_le.mpr hd
  simp [State.writeDscarve, State.allFree_eq_true h, hd', fieldN]

/-- A 32-bit write at offset 8 of the physical function is one of PWRCAP (01 R20). -/
theorem exec_registerWrite_pwrcap (s : State) (v : Word) : exec (.registerWrite (.pf 8 v 4)) s =
    .next { s with power := { s.power with capW := BitVec.ofNat 8 (min 180 (max 60 (v.toNat % 256))) } } := by
  have cap : fieldN (v.setWidth 32) 7 0 = v.toNat % 256 := by simp [fieldN]
  have route : exec (.registerWrite (.pf 8 v 4)) s = .next (s.writePwrcap (v.setWidth 32)) := rfl
  rw [route, State.writePwrcap, cap]

/-! The host's accesses to host memory (13 R327). -/

theorem State.hostPlaces_host (s : State) {addr n : Nat} (h : addr + n ≤ 2 ^ 52) : s.hostPlaces true addr n = some (hostSpan addr n) := by
  have h' : ¬ 2 ^ 52 < addr + n := Nat.not_lt.mpr h
  simp only [State.hostPlaces, if_true, h', decide_false, Bool.not_true, Bool.false_and, Bool.or_false, Bool.false_eq_true, if_false]
  rfl

theorem exec_hostRead_host (s : State) (q addr len : Nat) (hw : s.readWaits q = false) (h : addr + len ≤ 2 ^ 52) :
    exec (.hostRead (.memory q true addr len)) s =
      .next { s with sent := s.sent ++
        [.hostRead q ((List.range len).map fun i => (s.readByte ⟨.host, addr + i⟩, s.poisonAt ⟨.host, addr + i⟩))] } := by
  simp only [exec_hostRead, execHostRead, hw, Bool.false_eq_true, if_false, s.hostPlaces_host h, hostSpan, List.map_map]
  rfl

/-- The writes of a host write: its bytes in order, with the tag of a poisoned transfer. -/
def hostWrites (ls : List Loc) (bs : List Byte) (tag : Option Prov) : List ByteWrite :=
  (List.range ls.length).map fun i => ⟨listGet ⟨.host, 0⟩ ls i, listGet 0 bs i, tag⟩

@[simp] theorem map_loc_hostWrites (ls : List Loc) (bs : List Byte) (tag : Option Prov) : (hostWrites ls bs tag).map (·.loc) = ls := by
  refine List.ext_getElem (by simp [hostWrites]) fun i h h' => ?_
  simp [hostWrites, listGet_eq_getD, h']

/-- A write of the host is a store from outside the cores; a poisoned one opens an error record first (17 R391). -/
theorem exec_hostWrite_host (s : State) (w : HostWrite) (hh : w.host = true) (h : w.addr + w.bytes.length ≤ 2 ^ 52) :
    ∃ es tag, exec (.hostWrite w) s =
      .next (State.engineStore { s with errors := es } (hostWrites (hostSpan w.addr w.bytes.length) w.bytes tag)) := by
  have untracked (es : List ErrorRecord) (tag : Option Prov) : State.trackedLines { s with errors := es }
      (hostWrites (hostSpan w.addr w.bytes.length) w.bytes tag) = [] :=
    State.trackedLines_of_untracked (untracked_of_host fun l hl => space_of_mem_hostSpan (by rwa [map_loc_hostWrites] at hl))
  cases hp : w.poisoned with
  | true =>
    refine ⟨(s.newError 21 0x07 none).2.errors, some (s.newError 21 0x07 none).1, ?_⟩
    simp only [exec_hostWrite, execHostWrite, hh, s.hostPlaces_host h, hp, if_true]
    exact if_pos (by rw [List.isEmpty_iff]; exact untracked _ _)
  | false =>
    refine ⟨s.errors, none, ?_⟩
    simp only [exec_hostWrite, execHostWrite, hh, s.hostPlaces_host h, hp, Bool.false_eq_true, if_false]
    exact if_pos (by rw [List.isEmpty_iff]; exact untracked _ _)

theorem hostWrite_does (s : State) (w : HostWrite) (hh : w.host = true) (h : w.addr + w.bytes.length ≤ 2 ^ 52) :
    Does (.hostWrite w) s fun t => Holds t (hostSpan w.addr w.bytes.length) w.bytes ∧ OtherBytes s t (hostSpan w.addr w.bytes.length) := by
  obtain ⟨es, tag, he⟩ := exec_hostWrite_host s w hh h
  refine does_of_exec_eq he ?_
  have hloc := map_loc_hostWrites (hostSpan w.addr w.bytes.length) w.bytes tag
  have hspace : ∀ x ∈ hostWrites (hostSpan w.addr w.bytes.length) w.bytes tag, x.loc.space = .host := fun x hx =>
    space_of_mem_hostSpan (hloc ▸ List.mem_map_of_mem hx)
  have hu : Untracked { s with errors := es } ((hostWrites (hostSpan w.addr w.bytes.length) w.bytes tag).map (·.loc)) :=
    untracked_of_host fun l hl => space_of_mem_hostSpan (hloc ▸ hl)
  have hn : ((hostWrites (hostSpan w.addr w.bytes.length) w.bytes tag).map fun x => x.loc.key).Nodup := by
    have := nodup_key_hostSpan w.addr w.bytes.length
    rwa [← hloc, List.map_map] at this
  constructor
  · intro i l hi
    obtain ⟨hlt, rfl⟩ := List.getElem?_eq_some_iff.mp hi
    have hx : (⟨(hostSpan w.addr w.bytes.length)[i], listGet 0 w.bytes i, tag⟩ : ByteWrite) ∈
        hostWrites (hostSpan w.addr w.bytes.length) w.bytes tag :=
      List.mem_map.mpr ⟨i, List.mem_range.mpr hlt, by simp [listGet_eq_getD, hlt]⟩
    exact State.readByte_engineStore hu (fun x hx => .inr (hspace x hx)) hn hx
  · have := State.otherBytes_engineStore hu
    rw [hloc] at this
    exact fun l hl hk => this l hl hk

end Sys2Proof.Machine

/-! PROOFS. The Ethernet ports (15 R371-R373). -/

namespace Sys2Proof.Machine

open Sys2Proof.Claims

@[simp] theorem State.port_setPort (s : State) (n : Nat) (p : Port) : (s.setPort n p).port n = p := by
  simp [State.port, State.setPort]

/-! Registers of a port. -/

theorem portEnable_does (s : State) (n : Nat) (hn : n < 8) (v : W32) (he : (s.port n).enabled = false)
    (hr : s.portRefused n { s.port n with
      cfgErr := (s.port n).cfgErr && !v.getLsbD 30
      owned := v.getLsbD 20
      owner := v.extractLsb' 11 9
      lanes := v.setWidth 2 } = false) :
    Does (.portEnable n v) s fun t => (t.port n).enabled = true ∧ (t.port n).lanes = v.setWidth 2 ∧ (t.port n).owned = v.getLsbD 20 := by
  have hn' : ¬ 8 ≤ n := Nat.not_le.mpr hn
  have clr : (v ||| 0x80000000#32).getLsbD 30 = v.getLsbD 30 := getLsbD_or_en v (by omega)
  have own : (v ||| 0x80000000#32).getLsbD 20 = v.getLsbD 20 := getLsbD_or_en v (by omega)
  have owner : BitVec.ofNat 9 (fieldN (v ||| 0x80000000#32) 19 11) = v.extractLsb' 11 9 := by
    rw [fieldN_congr fun i _ h => getLsbD_or_en v (by omega), fieldN_eq_toNat_extractLsb', BitVec.ofNat_toNat, BitVec.setWidth_eq]
  have lanes : BitVec.ofNat 2 (fieldN (v ||| 0x80000000#32) 1 0) = v.setWidth 2 := by
    rw [fieldN_congr fun i _ h => getLsbD_or_en v (by omega), fieldN_eq_toNat_extractLsb', BitVec.ofNat_toNat, BitVec.setWidth_eq]
    exact (BitVec.setWidth_eq_extractLsb' (by omega)).symm
  have en : (v ||| 0x80000000#32).getLsbD 31 = true := by simp
  simp only [he] at hr
  refine does_of_exec_eq (by rw [exec_portEnable, execPortEnable]) ?_
  simp only [State.writePcfg, hn', if_false, he, Bool.false_eq_true, clr, own, owner, lanes, en, Bool.not_true, hr, State.port_setPort, and_self]

theorem portDisable_does (s : State) (n : Nat) (hn : n < 8) (v : W32) :
    Does (.portDisable n v) s fun t => (t.port n).enabled = false := by
  have hn' : ¬ 8 ≤ n := Nat.not_le.mpr hn
  refine does_of_exec_eq (by rw [exec_portDisable, execPortDisable]) ?_
  cases he : (s.port n).enabled with
  | true => simp [State.writePcfg, hn', he, Port.stop]
  | false => simp [State.writePcfg, hn', he]

theorem exec_ptxtailWrite_eq (s : State) (n : Nat) (hn : n < 8) (v : W32) :
    exec (.ptxtailWrite n v) s = .next (s.setPort n { s.port n with txTail := v }) := by
  rw [exec_ptxtailWrite, execPtxtailWrite, if_neg (Nat.not_le.mpr hn)]

theorem exec_prxtailWrite_eq (s : State) (n : Nat) (hn : n < 8) (v : W32) :
    exec (.prxtailWrite n v) s = .next (s.setPort n { s.port n with rxTail := v }) := by
  rw [exec_prxtailWrite, execPrxtailWrite, if_neg (Nat.not_le.mpr hn)]

/-! Frames of a port of the physical function: descriptors and buffers are in host memory. -/

theorem State.portPlace_unowned (s : State) {p : Port} (ho : p.owned = false) (addr n : Nat) (need : Need) :
    s.portPlace p addr n need = (.ok (hostSpan addr n), s) := by
  simp only [State.portPlace, ho, Bool.not_false, if_true]
  rfl

theorem State.portDescriptor_unowned (s : State) {p : Port} (ho : p.owned = false) (ring : Word) (i : W32) :
    s.portDescriptor p ring i = (.ok (hostSpan (ringBase ring + i.toNat % 2 ^ ringSize ring * 16) 16), s) :=
  s.portPlace_unowned ho _ _ _

theorem not_fabric_of_host {ls : List Loc} (h : ∀ l ∈ ls, l.space = .host) : ∀ l ∈ ls, l.space ≠ .fabric := fun l hl => by simp [h l hl]

theorem space_listGet_hostSpan (addr n i : Nat) : (listGet ⟨.host, 0⟩ (hostSpan addr n) i).space = .host := by
  rw [listGet_eq_getD, List.getD_eq_getElem?_getD]
  cases h : (hostSpan addr n)[i]? with
  | none => rfl
  | some l => exact space_of_mem_hostSpan (List.mem_of_getElem? h)

/-- What a port writes to host memory changes memory, poison, workgroups and ownership alone. -/
theorem State.portWrite_host (s : State) (n part : Nat) {ls : List Loc} (bs : List Byte) (ho : (s.port n).owned = false)
    (hl : ∀ l ∈ ls, l.space = .host) :
    ∃ m p g o, s.portWrite n part ls bs = (false, { s with mem := m, poison := p, groups := g, owners := o }) := by
  obtain ⟨m, p, g, o, h⟩ := State.engineStore_frame (s := s) (ws := engineWrites ls (bs.map fun b => (b, none)))
    (untracked_of_host fun l h => hl l (by rwa [map_loc_engineWrites] at h))
  refine ⟨m, p, g, o, ?_⟩
  simp only [State.portWrite, ho, s.engineWrite_of_local _ _ _ _ _ (not_fabric_of_host hl), s.engineStoreBy_ctl, h, Bool.false_eq_true, if_false]

/-- The end of a frame sent from host memory advances PTXHEAD. -/
theorem State.finishTx_host (s : State) (n addr len : Nat) (bad : Bool) (ho : (s.port n).owned = false) :
    ((s.finishTx n (hostSpan addr len) bad).port n).txHead = (s.port n).txHead + 1 ∧ (s.finishTx n (hostSpan addr len) bad).sent = s.sent := by
  obtain ⟨d, r, hf⟩ := s.forgetRecord_frame (.port n)
  have hflag : ∀ l ∈ [listGet ⟨.host, 0⟩ (hostSpan addr len) 10], l.space = .host := by
    simp only [List.mem_singleton, forall_eq, space_listGet_hostSpan]
  obtain ⟨m, p, g, o, hw⟩ := State.portWrite_host { s with engineData := d, remote := r } n 2 [doneFlags bad] ho hflag
  simp only [State.finishTx, hf, hw, Bool.false_eq_true, if_false, State.port_setPort]
  exact ⟨rfl, rfl⟩

theorem frameSent_does (s : State) (n : Nat) (hn : n < 8) (bad : Bool) (he : (s.port n).enabled = true) (ho : (s.port n).owned = false)
    (ht : (s.port n).txHead ≠ (s.port n).txTail) (hw : (s.port n).txWait = false) :
    Does (.frameSent n bad) s fun t => (t.port n).txHead = (s.port n).txHead + 1 ∧ ∃ bs, t.sent = s.sent ++ [.frame n bs] := by
  have hn' : decide (8 ≤ n) = false := decide_eq_false (Nat.not_le.mpr hn)
  have ht' : ((s.port n).txHead == (s.port n).txTail) = false := beq_eq_false_iff_ne.mpr ht
  have host (addr len : Nat) : ∀ l ∈ hostSpan addr len, l.space ≠ .fabric := not_fabric_of_host fun _ => space_of_mem_hostSpan
  unfold Does
  simp only [exec_frameSent, execFrameSent, State.portDamped, State.portHeld, hn', he, ho, ht', hw, Bool.true_or, Bool.not_true, Bool.false_and,
    Bool.or_self, Bool.false_eq_true, if_false, s.portDescriptor_unowned ho, s.portPlace_unowned ho, s.engineRead_of_local _ _ _ _ (host _ _)]
  refine ⟨_, rfl, ?_⟩
  obtain ⟨hhead, hsent⟩ := State.finishTx_host (s.send (.frame n _)) n _ 16 bad ho
  exact ⟨hhead, _, hsent⟩

/-- A port whose received bytes are visible advances PRXHEAD. -/
theorem State.finishRx_host (s : State) (n len : Nat) (bad : Bool) (ho : (s.port n).owned = false) :
    ((s.finishRx n len bad).port n).rxHead = (s.port n).rxHead + 1 := by
  have hdesc (addr k : Nat) : ∀ l ∈ [8, 9, 10].map fun i => listGet ⟨.host, 0⟩ (hostSpan addr k) i, l.space = .host := by
    simp only [List.forall_mem_map, space_listGet_hostSpan, implies_true]
  obtain ⟨m, p, g, o, hw⟩ := s.portWrite_host n 4 (leB 2 len ++ [doneFlags bad]) ho
    (hdesc (ringBase (s.port n).rxRing + (s.port n).rxHead.toNat % 2 ^ ringSize (s.port n).rxRing * 16) 16)
  simp only [State.finishRx, s.portDescriptor_unowned ho, hw, Bool.false_eq_true, if_false, State.port_setPort]
  rfl

theorem State.portGoesOn_received (s : State) (n len : Nat) (bad : Bool) (hw : (s.port n).txWait = false)
    (hx : (s.port n).rxWait = some (len, bad)) (hr : s.remote = []) : s.portGoesOn n = s.finishRx n len bad := by
  simp [State.portGoesOn, hw, hx, State.engineSending, hr]

theorem State.portWrite_host_remote (s : State) (n part : Nat) {ls : List Loc} (bs : List Byte) (ho : (s.port n).owned = false)
    (hl : ∀ l ∈ ls, l.space = .host) : (s.portWrite n part ls bs).2.remote = s.remote := by
  obtain ⟨m, p, g, o, h⟩ := s.portWrite_host n part bs ho hl
  rw [h]

/-- A port that has taken a frame, with nothing outstanding at remote homes, is done with it at once. -/
theorem State.rxHead_after_taking (t : State) (n len : Nat) (bad : Bool) {p : Port} (ho : p.owned = false) (hw : p.txWait = false)
    (hx : p.rxWait = some (len, bad)) (hr : t.remote = []) :
    ((((t.forget (.port n) 5).setPort n p).portGoesOn n).port n).rxHead = p.rxHead + 1 := by
  rw [State.portGoesOn_received (len := len) (bad := bad)]
  · rw [State.finishRx_host]
    · simp
    · simpa using ho
  · simpa using hw
  · simpa using hx
  · exact hr

theorem frameReceived_does (s : State) (n : Nat) (hn : n < 8) (bs : List Byte) (bad : Bool) (hx : (s.port n).rxWait = none)
    (hd : (s.port n).rxDone = false) (he : (s.port n).enabled = true) (ho : (s.port n).owned = false)
    (ht : (s.port n).rxHead ≠ (s.port n).rxTail) (hw : (s.port n).txWait = false) (hr : s.remote = []) :
    Does (.frameReceived n bs bad) s fun t => (t.port n).rxHead = (s.port n).rxHead + 1 := by
  have hn' : ¬ 8 ≤ n := Nat.not_le.mpr hn
  have ht' : ((s.port n).rxHead == (s.port n).rxTail) = false := beq_eq_false_iff_ne.mpr ht
  have host (addr len : Nat) : ∀ l ∈ hostSpan addr len, l.space = .host := fun _ => space_of_mem_hostSpan
  unfold Does
  simp only [exec_frameReceived, execFrameReceived, State.portHeld, hn', hx, hd, he, ho, ht', Option.isSome_none, Bool.true_or, Bool.not_true,
    Bool.false_and, Bool.or_self, Bool.false_eq_true, if_false, s.portDescriptor_unowned ho, s.portPlace_unowned ho,
    s.engineRead_of_local _ _ _ _ (not_fabric_of_host (host _ _))]
  refine ⟨_, rfl, ?_⟩
  exact State.rxHead_after_taking _ n _ _ rfl hw rfl ((s.portWrite_host_remote n 3 _ ho (host _ _)).trans hr)

end Sys2Proof.Machine

/-! PROOFS. The statement of the family of 00_scope.md: each clause is a lemma of the events above. -/

namespace Sys2Proof

open Machine Claims

/-- Settles O2: every event does what its rule says, by the lemma of that event. -/
theorem queueEventsComplete : Obligations.QueueEventsComplete := by
  unfold Obligations.QueueEventsComplete
  refine ⟨fun s q v => ⟨queueEnable_does s q v, queueDisable_does s q v, exec_kick_open s q v, exec_kcconsWrite_open s q v,
      exec_queueStopped_idle s q, fun r => waitsemTimeout_does s q, fun i r hr hc => ⟨fenceqComplete_does s q i hr hc, ?launch, ?copy⟩⟩,
    exec_sempollTick_eq, irqCoalesceTimeout_does, fun s v h => ⟨partcfgWrite_does s v h, fabcfgWrite_does s v h, ?dies⟩,
    exec_registerWrite_pwrcap, exec_hostRead_host, hostWrite_does, fun s n hn => ⟨fun v => portEnable_does s n hn v, ?tails, ?sent, ?received⟩⟩
  case launch => exact fun m hk hm he => launchRecordComplete_does s q i hr hc hk hm he
  case copy =>
    intro u ts hk h0 hz hl hs hd hreach _ hn hm _ hrem ht hdamp
    exact systemCopyComplete_does s u q i hr hc hk h0 hz hl hs hd hreach hn hm hrem ht hdamp
  case dies => exact fun d hd => ⟨fwlogClear_does s d v hd, dscarveWrite_does s d v h hd⟩
  case tails => exact fun v => ⟨portDisable_does s n hn v, exec_ptxtailWrite_eq s n hn v, exec_prxtailWrite_eq s n hn v⟩
  case sent => exact fun bad he ho ht hw => frameSent_does s n hn bad he ho ht hw
  case received => exact fun bs bad hx hd he ho ht hw hr => frameReceived_does s n hn bs bad hx hd he ho ht hw hr

end Sys2Proof

/-! PROOFS. The reset values (01 R16, R18, R20, R22; 02 R41; 03 R80; 12 R306) and the power cap (01 R20, R21). -/

namespace Sys2Proof

open Machine Claims

/-- Settles O55: each value is the one that the state at reset lists; no VD, queue or pair is listed there. -/
theorem resetValues : Obligations.ResetValues := by
  refine ⟨rfl, rfl, rfl, rfl, rfl, rfl, rfl, rfl, rfl, rfl, rfl, rfl, fun n => ?vd, fun q => ?queue, fun p => ?pair⟩
  case vd => rw [show State.reset.vd n = Vd.start from rfl]; exact ⟨rfl, rfl, rfl, rfl, rfl⟩
  case queue => rw [show State.reset.queue q = Queue.start from rfl]; rfl
  case pair => rw [show State.reset.pair p = Pair.start from rfl]; exact ⟨rfl, rfl⟩

/-- A value clamped to 60 to 180, as 01 R20 words it. -/
theorem min_max_eq_ite (n : Nat) : min 180 (max 60 n) = if n < 60 then 60 else if 180 < n then 180 else n := by
  split_ifs <;> omega

/-- Settles O57: the write stores the clamped byte, and a window compares its power with ten times the cap. -/
theorem powerCapIsClamped : Obligations.PowerCapIsClamped := by
  refine ⟨rfl, fun s v => ?write, fun s watts => rfl⟩
  case write =>
    rw [exec_registerWrite_pwrcap, min_max_eq_ite]
    split
    · rfl
    · split <;> rfl

end Sys2Proof

/-! PROOFS. The control cores: heartbeats, takeovers, the timer tick, reloads and restarts (19 R421, R430-R432). -/

namespace Sys2Proof.Machine

open Sys2Proof.Claims

/-! A control core and a pair after an update of something else. -/

@[simp] theorem State.pair_updCtl (s : State) (c : Nat) (f : CtlCore → CtlCore) (p : Nat) : (s.updCtl c f).pair p = s.pair p := rfl
@[simp] theorem State.pair_setCtl (s : State) (c : Nat) (x : CtlCore) (p : Nat) : (s.setCtl c x).pair p = s.pair p := rfl
@[simp] theorem State.pair_send (s : State) (m : Message) (p : Nat) : (s.send m).pair p = s.pair p := rfl
@[simp] theorem State.ctlCore_setPair (s : State) (p : Nat) (x : Pair) (c : Nat) : (s.setPair p x).ctlCore c = s.ctlCore c := rfl
@[simp] theorem State.ctlCore_updPair (s : State) (p : Nat) (f : Pair → Pair) (c : Nat) : (s.updPair p f).ctlCore c = s.ctlCore c := rfl
@[simp] theorem State.ctlCore_send (s : State) (m : Message) (c : Nat) : (s.send m).ctlCore c = s.ctlCore c := rfl

theorem State.ctlCore_updCtl_ne (s : State) {c d : Nat} (f : CtlCore → CtlCore) (h : d ≠ c) : (s.updCtl c f).ctlCore d = s.ctlCore d :=
  s.ctlCore_setCtl_ne _ h

/-- Each of some control cores is updated once, and no other one. -/
theorem State.ctlCore_foldl_updCtl (s : State) (f : CtlCore → CtlCore) {cs : List Nat} (hd : cs.Nodup) (c : Nat) :
    (cs.foldl (fun (s : State) c => s.updCtl c f) s).ctlCore c = if c ∈ cs then f (s.ctlCore c) else s.ctlCore c := by
  rw [foldl_lane (fun (s : State) c => s.updCtl c f) State.ctlCore _ _ cs hd s c, State.ctlCore_updCtl]
  · exact fun t c d h => t.ctlCore_updCtl_ne f h.symm
  · intro t u c h
    rw [State.ctlCore_updCtl, State.ctlCore_updCtl, h]

theorem State.foldl_updCtl_frame (s : State) (f : CtlCore → CtlCore) (cs : List Nat) :
    ∃ x, cs.foldl (fun (s : State) c => s.updCtl c f) s = { s with ctl := x } := by
  refine foldl_keeps (fun t : State => ∃ x, t = { s with ctl := x }) _ ?_ cs s ⟨_, rfl⟩
  rintro _ c ⟨x, rfl⟩
  exact ⟨_, rfl⟩

/-! Heartbeats (R430). -/

/-- A machine check of an active core halts it, and its pair has the codes and takes over, or halts without a standby. -/
theorem State.machineCheck_active (s : State) {c : Nat} (code : Nat) (hc : c ≠ 6) (ha : (s.ctlCore c).active = true) :
    ((s.machineCheck c code).ctlCore c).halted = true ∧ ((s.machineCheck c code).pair (c / 2)).mcause = BitVec.ofNat 3 code ∧
    ((s.machineCheck c code).pair (c / 2)).mcpeer = BitVec.ofNat 8 code ∧
    ((s.pair (c / 2)).standby = true → ((s.machineCheck c code).pair (c / 2)).takeover = some c) ∧
    ((s.pair (c / 2)).standby = false → ((s.machineCheck c code).pair (c / 2)).lost = true) := by
  by_cases hs : (s.pair (c / 2)).standby = true
  · simp [State.machineCheck, hc, ha, hs]
  · simp [State.machineCheck, hc, ha, hs]

theorem heartbeatExpire_running (s : State) {c : Nat} (hc : c < 6) (ha : (s.ctlCore c).active = true) (hh : (s.ctlCore c).halted = false) :
    exec (.heartbeatExpire c) s = .next (s.machineCheck c 4) := by
  simp [execHeartbeatExpire, hc, ha, hh, Nat.ne_of_lt hc]

theorem heartbeatExpire_idle (s : State) {c : Nat} (hc : c < 6) (h : (s.ctlCore c).active = false ∨ (s.ctlCore c).halted = true) :
    exec (.heartbeatExpire c) s = .next s := by
  rcases h with h | h <;> simp [execHeartbeatExpire, h, Nat.ne_of_lt hc]

/-! Takeovers (R431, R432). -/

/-- Holding the interrupt entries changes the interrupt table alone. -/
theorem State.foldl_holdEntry_frame (s : State) (ns : List Nat) : ∃ i, ns.foldl State.holdEntry s = { s with irt := i } := by
  refine foldl_keeps (fun t : State => ∃ i, t = { s with irt := i }) _ ?_ ns s ⟨_, rfl⟩
  rintro _ n ⟨i, rfl⟩
  exact ⟨_, rfl⟩

theorem State.holdAndKick_frame (s : State) : ∃ i, s.holdAndKick = { s with irt := i, queues := s.queues.map fun e =>
    if e.2.latch != e.2.tail then (e.1, { e.2 with kick := true }) else e } := by
  obtain ⟨i, h⟩ := s.foldl_holdEntry_frame (List.range 1024)
  exact ⟨i, by rw [State.holdAndKick, h]⟩

theorem State.mem_holdAndKick_queues (s : State) {e : Nat × Queue} (he : e ∈ s.queues) (hk : e.2.latch ≠ e.2.tail) :
    (e.1, { e.2 with kick := true }) ∈ s.holdAndKick.queues := by
  obtain ⟨i, h⟩ := s.holdAndKick_frame
  rw [h]
  exact List.mem_map.mpr ⟨e, he, by rw [if_pos (bne_iff_ne.mpr hk)]⟩

@[simp] theorem State.holdAndKick_mem (s : State) : s.holdAndKick.mem = s.mem := by
  obtain ⟨i, h⟩ := s.holdAndKick_frame
  rw [h]

@[simp] theorem State.holdAndKick_pf (s : State) : s.holdAndKick.pf = s.pf := by
  obtain ⟨i, h⟩ := s.holdAndKick_frame
  rw [h]

theorem takeoverHandover_none (s : State) (p : Nat) (h : (s.pair p).takeover = none) : exec (.takeoverHandover p) s = .next s := by
  simp [execTakeoverHandover, h]

/-- Without a standby the pair stays halted. -/
theorem takeoverHandover_lost (s : State) {p c : Nat} (h : (s.pair p).takeover = some c) (hs : (s.pair p).standby = false) :
    exec (.takeoverHandover p) s = .next ((s.setPair p { s.pair p with takeover := none, lost := true }).send (.pfMsix 2)) := by
  simp [execTakeoverHandover, h, hs]

/-- The other core of a pair. -/
def peerOf (c : Nat) : Nat := c + 1 - 2 * (c % 2)

theorem peerOf_ne (c : Nat) : peerOf c ≠ c := by unfold peerOf; omega

theorem peerOf_eq {p c : Nat} (h : c = 2 * p ∨ c = 2 * p + 1) : peerOf c = if c = 2 * p then 2 * p + 1 else 2 * p := by
  unfold peerOf
  split <;> omega

/-- The queues that the handover of the scheduler's pair holds and kicks (R431 steps 2, 3). -/
def State.handoverQueues (s : State) (p : Nat) : State := if p == 0 then s.holdAndKick else s

@[simp] theorem State.handoverQueues_mem (s : State) (p : Nat) : (s.handoverQueues p).mem = s.mem := by
  unfold State.handoverQueues
  split
  · exact s.holdAndKick_mem
  · rfl

@[simp] theorem State.handoverQueues_pf (s : State) (p : Nat) : (s.handoverQueues p).pf = s.pf := by
  unfold State.handoverQueues
  split
  · exact s.holdAndKick_pf
  · rfl

/-- The active core and its standby change their roles (R431 step 4). -/
def State.swapRoles (s : State) (c : Nat) : State :=
  (s.updCtl c fun x => { x with active := false }).updCtl (peerOf c) fun x => { x with active := true, peerUp := false, pendTake := true }

theorem State.active_swapRoles (s : State) (c : Nat) : ((s.swapRoles c).ctlCore c).active = false := by
  rw [State.swapRoles, State.ctlCore_updCtl_ne _ _ (peerOf_ne c).symm, State.ctlCore_updCtl]

theorem State.peer_swapRoles (s : State) (c : Nat) :
    ((s.swapRoles c).ctlCore (peerOf c)).active = true ∧ ((s.swapRoles c).ctlCore (peerOf c)).pendTake = true := by
  rw [State.swapRoles, State.ctlCore_updCtl]
  exact ⟨rfl, rfl⟩

/-- The state after core `c` of pair `p` has handed over to its standby. -/
def State.handedOver (s : State) (p c : Nat) : State :=
  let u := ((s.handoverQueues p).swapRoles c).setPair p { s.pair p with
    takeover := none, taken := true, standby := false, acore := decide (peerOf c % 2 = 1) }
  { u with pf := { u.pf with takeovers := if u.pf.takeovers == 255 then 255 else u.pf.takeovers + 1 } }

theorem takeoverHandover_standby (s : State) {p c : Nat} (h : (s.pair p).takeover = some c) (hs : (s.pair p).standby = true) :
    exec (.takeoverHandover p) s = .next (s.handedOver p c) := by
  simp only [exec_takeoverHandover, execTakeoverHandover, h, hs, Bool.not_true, Bool.false_eq_true, if_false]
  rfl

theorem State.pair_handedOver (s : State) (p c : Nat) : (s.handedOver p c).pair p = { s.pair p with
    takeover := none, taken := true, standby := false, acore := decide (peerOf c % 2 = 1) } :=
  State.pair_setPair _ p _

theorem State.ctlCore_handedOver (s : State) (p c d : Nat) :
    (s.handedOver p c).ctlCore d = ((s.handoverQueues p).swapRoles c).ctlCore d := by
  simp only [State.ctlCore, State.handedOver, State.setPair_ctl]

theorem State.active_handedOver (s : State) (p c : Nat) : ((s.handedOver p c).ctlCore c).active = false := by
  rw [s.ctlCore_handedOver]
  exact State.active_swapRoles _ c

theorem State.peer_handedOver (s : State) (p c : Nat) :
    ((s.handedOver p c).ctlCore (peerOf c)).active = true ∧ ((s.handedOver p c).ctlCore (peerOf c)).pendTake = true := by
  rw [s.ctlCore_handedOver]
  exact State.peer_swapRoles _ c

theorem State.handedOver_mem (s : State) (p c : Nat) : (s.handedOver p c).mem = s.mem := by
  simp [State.handedOver, State.swapRoles]

theorem State.handedOver_takeovers (s : State) (p c : Nat) :
    (s.handedOver p c).pf.takeovers = if s.pf.takeovers = 255 then 255 else s.pf.takeovers + 1 := by
  simp [State.handedOver, State.swapRoles]

theorem State.handedOver_queues (s : State) (p c : Nat) : (s.handedOver p c).queues = (s.handoverQueues p).queues := by
  simp only [State.handedOver, State.swapRoles, State.setPair_queues, State.updCtl_queues]

theorem State.mem_handedOver_queues (s : State) (c : Nat) {e : Nat × Queue} (he : e ∈ s.queues) (hk : e.2.latch ≠ e.2.tail) :
    (e.1, { e.2 with kick := true }) ∈ (s.handedOver 0 c).queues := by
  have hq : s.handoverQueues 0 = s.holdAndKick := if_pos rfl
  rw [s.handedOver_queues, hq]
  exact s.mem_holdAndKick_queues he hk

/-! The timer tick (R421). -/

theorem controlTimerTick_does (s : State) : ∃ t : State, exec .controlTimerTick s = .next t ∧
    (∀ c < 7, t.ctlCore c = { s.ctlCore c with pendTimer := true }) ∧ t = { s with ctl := t.ctl } := by
  refine ⟨_, rfl, fun c hc => ?_, ?_⟩
  · rw [State.ctlCore_foldl_updCtl s _ List.nodup_range, if_pos (List.mem_range.mpr hc)]
  · obtain ⟨x, h⟩ := s.foldl_updCtl_frame (fun x => { x with pendTimer := true }) (List.range 7)
    rw [h]

/-! Reloads and the restart of the security core (R431, R432). -/

/-- An image in an instruction SRAM changes memory, its poison and workgroups alone. -/
theorem State.loadImage_frame (s : State) (c : Nat) (im : List Byte) :
    ∃ m p g, s.loadImage c im = { s with mem := m, poison := p, groups := g } := by
  obtain ⟨m, p, g, h⟩ := State.performWrites_frame
    { s with mem := s.mem.filter fun e => e.1 / 2 ^ 64 != (Space.inst c).tag } (writesAt ⟨.inst c, 0⟩ (im.take (2 ^ 18)) none)
  exact ⟨m, p, g, h⟩

@[simp] theorem State.ctlCore_loadImage (s : State) (c : Nat) (im : List Byte) (d : Nat) : (s.loadImage c im).ctlCore d = s.ctlCore d := by
  obtain ⟨m, p, g, h⟩ := s.loadImage_frame c im
  rw [h]; rfl

@[simp] theorem State.pair_loadImage (s : State) (c : Nat) (im : List Byte) (p : Nat) : (s.loadImage c im).pair p = s.pair p := by
  obtain ⟨m, q, g, h⟩ := s.loadImage_frame c im
  rw [h]; rfl

section
variable {s : State} {c : Nat} {im : List Byte} (hc : c < 6) (hl : (s.ctlCore c).loaded = false) (ha : (s.ctlCore c).active = false)
  (hp : (s.pair (c / 2)).lost = false) (hr : (s.pair (c / 2)).reloads ≠ 2) (h6 : (s.ctlCore 6).loaded = true)
include hc hl ha hp hr h6

theorem coreReloadComplete_same (he : extended 0 (digestOf im) = listGet 0 s.power.meas (2 + c / 2)) :
    ∃ t : State, exec (.coreReloadComplete c im true) s = .next t ∧ (t.pair (c / 2)).standby = true ∧ (t.pair (c / 2)).reloads = 0 ∧
      (t.ctlCore c).loaded = true ∧ (t.ctlCore c).halted = false ∧ (t.ctlCore c).pc = 0 ∧ (t.ctlCore c).active = false := by
  have hrun : exec (.coreReloadComplete c im true) s = .next (((((s.loadImage c im).setCtl c { (s.ctlCore c).restart with peerUp := true }).updCtl
      (peerOf c) fun y => { y with peerUp := true })).setPair (c / 2) { s.pair (c / 2) with standby := true, reloads := 0 }) := by
    simp only [exec_coreReloadComplete, execCoreReloadComplete, State.secUp, hl, ha, hp, h6, he, decide_eq_false (Nat.not_le.mpr hc),
      beq_eq_false_iff_ne.mpr hr, Bool.or_self, Bool.not_true, bne_self_eq_false, Bool.false_eq_true, if_false]
    rfl
  refine ⟨_, hrun, by simp, by simp, ?_⟩
  rw [State.ctlCore_setPair, State.ctlCore_updCtl_ne _ _ (peerOf_ne c).symm, State.ctlCore_setCtl]
  exact ⟨rfl, rfl, rfl, ha⟩

theorem coreReloadComplete_fails {works : Bool} (he : ¬ extended 0 (digestOf im) = listGet 0 s.power.meas (2 + c / 2) ∨ works = false) :
    exec (.coreReloadComplete c im works) s =
      .next (s.setPair (c / 2) { s.pair (c / 2) with reloads := (s.pair (c / 2)).reloads + 1 }) := by
  have hf : (!works || extended 0 (digestOf im) != listGet 0 s.power.meas (2 + c / 2)) = true := by
    rcases he with he | he
    · rw [bne_iff_ne.mpr he, Bool.or_true]
    · rw [he, Bool.not_false, Bool.true_or]
  simp only [exec_coreReloadComplete, execCoreReloadComplete, State.secUp, hl, ha, hp, h6, hf, decide_eq_false (Nat.not_le.mpr hc),
    beq_eq_false_iff_ne.mpr hr, Bool.or_self, Bool.not_true, Bool.false_eq_true, if_false, if_true]

end

theorem securityCoreRestart_dead {s : State} {i : SignedImage} (h6 : (s.ctlCore 6).loaded = false) (hd : s.pf.secDead = false)
    (hv : s.verifies i = false) : exec (.securityCoreRestart i) s = .next { s with pf := { s.pf with secDead := true } } := by
  simp [execSecurityCoreRestart, State.secUp, h6, hd, hv]

theorem securityCoreRestart_up {s : State} {i : SignedImage} (h6 : (s.ctlCore 6).loaded = false) (hd : s.pf.secDead = false)
    (hv : s.verifies i = true) : ∃ t : State, exec (.securityCoreRestart i) s = .next t ∧ (t.ctlCore 6).loaded = true ∧
      (t.ctlCore 6).halted = false ∧ (t.ctlCore 6).pc = 0 ∧ t.power = s.power ∧ t.pf = s.pf := by
  have hrun : exec (.securityCoreRestart i) s = .next ((s.loadImage 6 i.bytes).updCtl 6 CtlCore.restart) := by
    simp [execSecurityCoreRestart, State.secUp, h6, hd, hv]
  obtain ⟨m, p, g, h⟩ := s.loadImage_frame 6 i.bytes
  refine ⟨_, hrun, ?_⟩
  rw [State.ctlCore_updCtl, h]
  exact ⟨rfl, rfl, rfl, rfl, rfl⟩

/-- 19 R421, R430-R432. -/
theorem controlCoresFailOver : ControlCoresFailOver := by
  refine ⟨fun s c hc => ⟨fun ha hh => ?running, heartbeatExpire_idle s hc⟩, fun s p c hp hc h => ?handover, takeoverHandover_none,
    controlTimerTick_does, fun s c im hc hl ha hp hr h6 => ⟨coreReloadComplete_same hc hl ha hp hr h6,
      fun works => coreReloadComplete_fails hc hl ha hp hr h6⟩,
    fun s i h6 hd => ⟨securityCoreRestart_dead h6 hd, securityCoreRestart_up h6 hd⟩⟩
  case running =>
    obtain ⟨hhalt, hcause, hpeer, htake, hlost⟩ := s.machineCheck_active 4 (Nat.ne_of_lt hc) ha
    exact ⟨_, heartbeatExpire_running s hc ha hh, hhalt, hcause, hpeer, s.machineCheck_mem c 4, htake, hlost⟩
  case handover =>
    by_cases hs : (s.pair p).standby = true
    · refine ⟨_, takeoverHandover_standby s h hs, ?_⟩
      rw [s.pair_handedOver, ← peerOf_eq hc]
      obtain ⟨hactive, htake⟩ := s.peer_handedOver p c
      refine ⟨rfl, s.handedOver_mem p c, fun hn => absurd (hs.symm.trans hn) (by decide), fun _ => ⟨rfl, rfl, s.active_handedOver p c,
        ⟨hactive, htake, rfl⟩, s.handedOver_takeovers p c, ?_⟩⟩
      rintro rfl e he hk
      exact ⟨_, s.mem_handedOver_queues c he hk, rfl⟩
    · refine ⟨_, takeoverHandover_lost s h (Bool.eq_false_iff.mpr hs), ?_⟩
      rw [State.pair_send, State.pair_setPair]
      exact ⟨rfl, rfl, fun _ => rfl, fun hn => absurd hn hs⟩

end Sys2Proof.Machine

/-! PROOFS. Measurements, the power cap and wear counters (01 R21, R26, R27, R32, R33). -/

namespace Sys2Proof.Machine

open Sys2Proof.Claims

/-! Measurements (R26, R27). -/

theorem measurementRequest_refused (s : State) (n : BitVec 4) (d : BitVec 512) (h : n.toNat < 8 ∨ (s.ctlCore 6).loaded = false) :
    exec (.measurementRequest n d) s = .next s := by
  have hc : (decide (8 ≤ n.toNat) && s.secUp) = false := by
    rcases h with h | h
    · rw [decide_eq_false (Nat.not_le.mpr h), Bool.false_and]
    · rw [State.secUp, h, Bool.and_false]
  rw [exec_measurementRequest, execMeasurementRequest, hc, if_neg Bool.false_ne_true]

theorem measurementRequest_taken (s : State) (n : BitVec 4) (d : BitVec 512) (hn : 8 ≤ n.toNat) (h : (s.ctlCore 6).loaded = true) :
    exec (.measurementRequest n d) s = .next (s.extend n.toNat d) := by
  rw [exec_measurementRequest, execMeasurementRequest, if_pos (by simp [State.secUp, hn, h])]

/-- The answer to each SPDM request (R27), and that none is given without the security core (19 R432). -/
theorem State.spdmReply_cases (s : State) (r : SpdmRequest) :
    (s.pf.secDead = true → s.spdmReply r = .unspecified) ∧
    (s.pf.secDead = false → (s.ctlCore 6).loaded = false → s.spdmReply r = .busy) ∧
    (s.pf.secDead = false → (s.ctlCore 6).loaded = true → (r = .other → s.spdmReply r = .unsupported) ∧
      (∀ n, r = .getMeasurements n → if 1 ≤ n ∧ n ≤ 16 then
        ∃ x, s.spdmReply r = .response (leB 64 (listGet 0 s.power.meas (n - 1)).toNat) (some x) else s.spdmReply r = .unsupported) ∧
      (r = .challenge → ∃ bs x, s.spdmReply r = .response bs (some x)) ∧
      (r = .getVersion ∨ r = .getCapabilities ∨ r = .negotiateAlgorithms ∨ r = .getDigests ∨ r = .getCertificate →
        ∃ bs, s.spdmReply r = .response bs none)) := by
  refine ⟨fun hd => by simp [State.spdmReply, hd], fun hd h => by simp [State.spdmReply, State.secUp, hd, h], fun hd h => ?_⟩
  refine ⟨?other, fun n hr => ?block, ?challenge, ?plain⟩
  case other => rintro rfl; simp [State.spdmReply, State.secUp, hd, h]
  case challenge => rintro rfl; simp [State.spdmReply, State.secUp, hd, h]
  case plain => rintro (rfl | rfl | rfl | rfl | rfl) <;> simp [State.spdmReply, State.secUp, hd, h]
  case block =>
    subst hr
    split
    · next hn => simp [State.spdmReply, State.secUp, hd, h, hn, bytes64]
    · next hn =>
      have hc : (decide (1 ≤ n) && decide (n ≤ 16)) = false := by simpa using hn
      simp [State.spdmReply, State.secUp, hd, h, hc]

/-- 01 R26, R27. -/
theorem measurementsAndAnswers : MeasurementsAndAnswers :=
  ⟨fun s n d => ⟨measurementRequest_refused s n d, measurementRequest_taken s n d⟩, fun s r => ⟨_, rfl, s.spdmReply_cases r⟩⟩

/-! The power cap and wear counters (R21, R32, R33). -/

theorem countUp_eq_counted (n : W32) : countUp n = counted n := by
  simp [countUp, counted]

/-- A thermal cycle is a rise of 40 degrees from the least temperature and then a fall of 40 from the greatest (R33). -/
theorem Power.sample_cases (p : Power) (d : Int) :
    (p.thMin = none → p.sample d = { p with thMin := some d }) ∧
    (∀ lo, p.thMin = some lo → p.thMax = none →
      p.sample d = if lo + 40 ≤ d then { p with thMax := some d } else { p with thMin := some (min lo d) }) ∧
    (∀ lo hi, p.thMin = some lo → p.thMax = some hi →
      p.sample d = if d ≤ hi - 40 then { p with thcyc := counted p.thcyc, thMin := some d, thMax := none }
        else { p with thMax := some (max hi d) }) := by
  refine ⟨fun h => by simp [Power.sample, h], fun lo h hm => by simp [Power.sample, h, hm], fun lo hi h hm => ?_⟩
  simp [Power.sample, h, hm, countUp_eq_counted]

/-- 01 R21, R32, R33. -/
theorem powerAndWear : PowerAndWear := by
  refine ⟨fun s w => rfl, fun s d => ⟨_, rfl, rfl, s.power.sample_cases d⟩, fun s => ⟨?_, ?_⟩⟩
  · rw [exec_powerOnHour, execPowerOnHour, countUp_eq_counted]
  · rw [exec_hbmRefreshRaise, execHbmRefreshRaise, countUp_eq_counted]

end Sys2Proof.Machine

namespace Sys2Proof

open Machine Claims

/-- Settles O46: measurements and their answers, the power cap and the wear counters, and the failures of control cores. -/
theorem upkeepAndControl : Obligations.UpkeepAndControl :=
  ⟨measurementsAndAnswers, powerAndWear, controlCoresFailOver⟩

end Sys2Proof

/-! PROOFS. Package reset, the life cycle and cold boot (01 R17, R22-R26, R31, R34). -/

namespace Sys2Proof.Machine

open Sys2Proof.Claims

/-! Memory that is wiped but for some spaces (01 R35). -/

theorem Table.get_filter_key {β : Type} (d : β) (t : Table β) (p : Nat → Bool) (k : Nat) :
    Table.get d (t.filter fun e => p e.1) k = if p k then Table.get d t k else d := by
  induction t with
  | nil => simp [Table.get]
  | cons e t ih =>
    obtain ⟨n, b⟩ := e
    by_cases hk : k = n
    · subst hk
      by_cases hp : p k = true
      · simp [Table.get, hp]
      · simpa [Table.get, hp] using ih
    · have hne : (k == n) = false := beq_eq_false_iff_ne.mpr hk
      by_cases hp : p n = true <;> simpa [Table.get, hp, hne] using ih

theorem memGet_filter (m : Memory) (p : Nat → Bool) (k : Nat) : memGet (m.filter fun e => p e.1) k = if p k then memGet m k else 0 :=
  Table.get_filter_key 0 m p k

/-- The space of a place from its key. -/
theorem Loc.key_div {l : Loc} (h : l.off < 2 ^ 64) : l.key / 2 ^ 64 = l.space.tag := by
  rw [Loc.key, Nat.mul_add_div (by decide), Nat.div_eq_of_lt h, Nat.add_zero]

/-- A byte of a space that a wipe of memory by its spaces keeps, or does not keep. -/
theorem State.readByte_of_mem_filter {s t : State} {p : Nat → Bool} (hm : t.mem = s.mem.filter fun e => p (e.1 / 2 ^ 64)) {l : Loc}
    (hw : ∀ g w, l.space ≠ .window g w) (ho : l.off < 2 ^ 64) : t.readByte l = if p l.space.tag then s.readByte l else 0 := by
  rw [t.readByte_eq_memGet hw, s.readByte_eq_memGet hw, hm, memGet_filter s.mem (fun k => p (k / 2 ^ 64)), Loc.key_div ho]

theorem onlyHostKept_of_mem_filter {s t : State} {p : Nat → Bool} (hm : t.mem = s.mem.filter fun e => p (e.1 / 2 ^ 64))
    (h1 : p (Space.tag .host) = true) (h0 : p (Space.tag .hbm) = false) : OnlyHostKept s t := by
  refine ⟨fun o ho => ?_, fun o ho => ?_⟩
  · rw [State.readByte_of_mem_filter hm (by simp) ho, if_pos h1]
  · rw [State.readByte_of_mem_filter hm (by simp) ho, h0, if_neg Bool.false_ne_true]

/-! Package reset and the life cycle (R17, R34). -/

theorem State.onlyHostKept_packageReset (s : State) : OnlyHostKept s s.packageReset :=
  onlyHostKept_of_mem_filter (p := fun n => n == Space.tag .host) rfl rfl rfl

theorem Power.permits_iff (p : Power) (target : BitVec 2) : p.permits target = true ↔ Allowed p.lcState target p.refurb.toNat := by
  have hlt : p.refurb < 3 ↔ p.refurb.toNat < 3 := Iff.rfl
  simp only [Power.permits, Bool.or_eq_true, Bool.and_eq_true, beq_iff_eq, decide_eq_true_eq, hlt]
  constructor
  · rintro (((h | ⟨ha, hb⟩) | ⟨ha, hb⟩) | ⟨⟨ha, hb⟩, hn⟩)
    · exact h ▸ .end_
    · exact ha ▸ hb ▸ .out
    · exact ha ▸ hb ▸ .back
    · exact ha ▸ hb ▸ .again hn
  · intro h
    generalize p.lcState = a at h ⊢
    cases h with
    | out => exact .inl (.inl (.inr ⟨rfl, rfl⟩))
    | back => exact .inl (.inr ⟨rfl, rfl⟩)
    | again hn => exact .inr ⟨⟨rfl, rfl⟩, hn⟩
    | end_ => exact .inl (.inl (.inl rfl))

theorem lifeCycleChange_refused (s : State) (r : LifeCycleRequest) (h : (s.ctlCore 6).loaded = false ∨ s.authentic r = false ∨
    ¬ Allowed s.power.lcState r.target s.power.refurb.toNat) : exec (.lifeCycleChange r) s = .next s := by
  have hc : (!s.secUp || !s.authentic r || !s.power.permits r.target) = true := by
    rcases h with h | h | h
    · simp [State.secUp, h]
    · simp [h]
    · simp [Bool.eq_false_iff.mpr (mt (s.power.permits_iff r.target).mp h)]
  rw [exec_lifeCycleChange, execLifeCycleChange, if_pos hc]

/-- The state that an allowed change leaves for the package reset. -/
def State.lifeCycleChanged (s : State) (target : BitVec 2) : State :=
  { s with power := { s.power with
      training := []
      lcState := target
      refurb := if s.power.lcState == 2 && target == 1 then s.power.refurb + 1 else s.power.refurb } }

theorem lifeCycleChange_allowed (s : State) (r : LifeCycleRequest) (h6 : (s.ctlCore 6).loaded = true) (ha : s.authentic r = true)
    (hp : Allowed s.power.lcState r.target s.power.refurb.toNat) :
    exec (.lifeCycleChange r) s = .next (s.lifeCycleChanged r.target).packageReset := by
  have hc : (!s.secUp || !s.authentic r || !s.power.permits r.target) = false := by
    simp [State.secUp, h6, ha, (s.power.permits_iff r.target).mpr hp]
  simp only [exec_lifeCycleChange, execLifeCycleChange, hc, Bool.false_eq_true, if_false]
  rfl

theorem State.lifeCycleChanged_refurb (s : State) (target : BitVec 2) : (s.lifeCycleChanged target).power.refurb =
    s.power.refurb + (if s.power.lcState = 2 ∧ target = 1 then 1 else 0) := by
  have hb : (s.power.lcState == 2 && target == 1) = decide (s.power.lcState = 2 ∧ target = 1) := by
    rw [Bool.eq_iff_iff]; simp
  simp only [State.lifeCycleChanged, hb, decide_eq_true_eq]
  split
  · rfl
  · exact (BitVec.add_zero _).symm

/-- 01 R17, R34. -/
theorem packageResets : PackageResets := by
  refine ⟨fun s => ⟨_, rfl, s.onlyHostKept_packageReset, rfl, rfl, rfl, rfl, rfl, rfl, rfl, rfl, rfl, rfl, rfl, rfl, rfl, rfl, rfl, rfl, rfl⟩,
    fun s r => ⟨lifeCycleChange_refused s r, fun h6 ha hp => ?_⟩⟩
  exact ⟨_, lifeCycleChange_allowed s r h6 ha hp, (s.lifeCycleChanged r.target).onlyHostKept_packageReset, rfl, rfl, rfl,
    s.lifeCycleChanged_refurb r.target⟩

/-! Phases (R22, R23). -/

theorem bootPhaseComplete_idle (s : State) (b : BootStep) (h : s.power.state ≠ 0 ∨ 8 ≤ s.power.phase.toNat) :
    exec (.bootPhaseComplete b) s = .next s := by
  have hc : (s.power.state != 0 || 8 ≤ s.power.phase.toNat) = true := by simpa using h
  simp only [exec_bootPhaseComplete, execBootPhaseComplete, hc, if_true]

section
variable {s : State} {n : Nat} {b : BootStep} (h0 : s.power.state = 0) (hn : s.power.phase.toNat = n) (h8 : n < 8)
include h0 hn h8

/-- A phase that fails shows its code. -/
theorem bootPhaseComplete_error {c : BitVec 8} (hd : s.phaseDone n b = some (.error c)) :
    exec (.bootPhaseComplete b) s = .next { s with power := { s.power with phase := c } } := by
  simp only [exec_bootPhaseComplete, execBootPhaseComplete, h0, hn, hd, bne_self_eq_false, Bool.false_or,
    decide_eq_false (Nat.not_le.mpr h8), Bool.false_eq_true, if_false]

/-- A phase that passes moves PHASE on. -/
theorem bootPhaseComplete_ok {t : State} (hd : s.phaseDone n b = some (.ok t)) :
    exec (.bootPhaseComplete b) s = .next { t with power := { t.power with phase := s.power.phase + 1 } } := by
  have hp : BitVec.ofNat 8 (n + 1) = s.power.phase + 1 := by
    rw [← hn, BitVec.ofNat_add, BitVec.ofNat_toNat, BitVec.setWidth_eq]
    rfl
  simp only [exec_bootPhaseComplete, execBootPhaseComplete, h0, hn, hd, hp, bne_self_eq_false, Bool.false_or,
    decide_eq_false (Nat.not_le.mpr h8), Bool.false_eq_true, if_false]

end

/-! Measurements of images (R25, R26). -/

theorem State.listGet_extend (s : State) {n : Nat} (d : BitVec 512) (h : n < s.power.meas.length) :
    listGet 0 (s.extend n d).power.meas n = extended (listGet 0 s.power.meas n) d := listGet_listSet_self _ _ _ _ h

theorem State.listGet_extend_ne (s : State) {n m : Nat} (d : BitVec 512) (h : m ≠ n) :
    listGet 0 (s.extend n d).power.meas m = listGet 0 s.power.meas m := listGet_listSet_ne _ _ _ h

@[simp] theorem State.length_meas_extend (s : State) (n : Nat) (d : BitVec 512) : (s.extend n d).power.meas.length = s.power.meas.length :=
  length_listSet _ _ _

theorem State.extend_frame (s : State) (n : Nat) (d : BitVec 512) : ∃ m, s.extend n d = { s with power := { s.power with meas := m } } :=
  ⟨_, rfl⟩

/-- Extending MEAS1 to MEASk with a digest each. -/
theorem State.listGet_foldl_extend (s : State) (d : Nat → BitVec 512) {k : Nat} (hk : k < s.power.meas.length) :
    ((List.range k).foldl (fun (s : State) i => s.extend (i + 1) (d i)) s).power.meas.length = s.power.meas.length ∧
    ∀ i, listGet 0 ((List.range k).foldl (fun (s : State) i => s.extend (i + 1) (d i)) s).power.meas (i + 1) =
      if i < k then extended (listGet 0 s.power.meas (i + 1)) (d i) else listGet 0 s.power.meas (i + 1) := by
  induction k with
  | zero => exact ⟨rfl, fun i => rfl⟩
  | succ k ih =>
    obtain ⟨hlen, hget⟩ := ih (by omega)
    rw [List.range_succ, List.foldl_append, List.foldl_cons, List.foldl_nil]
    refine ⟨(State.length_meas_extend _ _ _).trans hlen, fun i => ?_⟩
    by_cases hi : i = k
    · subst hi
      rw [State.listGet_extend _ _ (by omega), hget, if_neg (Nat.lt_irrefl i), if_pos (Nat.lt_succ_self i)]
    · have hiff : i < k + 1 ↔ i < k := by omega
      rw [State.listGet_extend_ne _ _ (by omega), hget]
      simp only [hiff]

theorem State.foldl_extend_frame (s : State) (d : Nat → BitVec 512) (ns : List Nat) :
    ∃ m, ns.foldl (fun (s : State) i => s.extend (i + 1) (d i)) s = { s with power := { s.power with meas := m } } := by
  refine foldl_keeps (fun t : State => ∃ m, t = { s with power := { s.power with meas := m } }) _ ?_ ns s ⟨_, rfl⟩
  rintro _ i ⟨m, rfl⟩
  exact ⟨_, rfl⟩

/-! Images in instruction SRAMs (R22, 19 R420). -/

/-- A group of writes to places outside the register windows. -/
theorem State.performWrites_mem_of_not_window (s : State) {ws : List ByteWrite} (h : ∀ w ∈ ws, ∀ g i, w.loc.space ≠ .window g i) :
    (s.performWrites ws).mem = memAfter s.mem ws := by
  have bytes : ∀ (ws : List ByteWrite) (t : State), (∀ w ∈ ws, ∀ g i, w.loc.space ≠ .window g i) →
      (ws.foldl (fun s w => (s.writeByte w.loc w.byte).markDirty w.loc) t).mem = memAfter t.mem ws := by
    intro ws
    induction ws with
    | nil => intro t _; rfl
    | cons w ws ih =>
      intro t hw
      have hb : ((t.writeByte w.loc w.byte).markDirty w.loc).mem = memSet t.mem w.loc.key w.byte := by
        rw [State.markDirty_mem, State.writeByte]
        split
        · next g i e => exact absurd e (hw w (by simp) g i)
        · rfl
      rw [List.foldl_cons, ih _ fun x hx => hw x (by simp [hx]), hb]
      rfl
  unfold State.performWrites
  refine foldl_keeps (fun t : State => t.mem = memAfter s.mem ws) _ ?_ _ _ (bytes ws s h)
  intro t l ht
  dsimp only
  split
  · exact ht
  · simpa using ht

theorem nodup_keys_writesAt (l : Loc) (bs : List Byte) (p : Option Prov) : ((writesAt l bs p).map fun w => w.loc.key).Nodup := by
  rw [writesAt, List.map_map]
  exact List.nodup_range.map fun a b h => by simpa [Loc.key, Loc.plus] using h

theorem State.loadImage_mem (s : State) (c : Nat) (im : List Byte) : (s.loadImage c im).mem =
    memAfter (s.mem.filter fun e => e.1 / 2 ^ 64 != (Space.inst c).tag) (writesAt ⟨.inst c, 0⟩ (im.take (2 ^ 18)) none) := by
  refine State.performWrites_mem_of_not_window _ fun w hw g i => ?_
  obtain ⟨j, -, rfl⟩ := List.mem_map.mp hw
  simp [Loc.plus]

theorem State.readByte_loadImage (s : State) (c : Nat) (im : List Byte) {o : Nat} (ho : o < 2 ^ 18) :
    (s.loadImage c im).readByte ⟨.inst c, o⟩ = listGet 0 im o := by
  have hget : listGet 0 (im.take (2 ^ 18)) o = listGet 0 im o := by
    rw [listGet_eq_getD, listGet_eq_getD, List.getD_eq_getElem?_getD, List.getD_eq_getElem?_getD, List.getElem?_take_of_lt ho]
  rw [State.readByte_eq_memGet _ (by simp), s.loadImage_mem]
  by_cases hl : o < (im.take (2 ^ 18)).length
  · have hw : (⟨⟨.inst c, o⟩, listGet 0 im o, none⟩ : ByteWrite) ∈ writesAt ⟨.inst c, 0⟩ (im.take (2 ^ 18)) none :=
      List.mem_map.mpr ⟨o, List.mem_range.mpr hl, by rw [hget]; simp [Loc.plus]⟩
    exact memGet_memAfter _ (nodup_keys_writesAt _ _ _) hw
  · rw [memGet_memAfter_ne, memGet_filter _ fun k => k / 2 ^ 64 != (Space.inst c).tag, Loc.key_div (by dsimp only; omega)]
    · rw [← hget, listGet_eq_getD, List.getD_eq_default _ _ (by omega)]
      simp
    · intro w hw
      obtain ⟨j, hj, rfl⟩ := List.mem_map.mp hw
      have := List.mem_range.mp hj
      simp only [Loc.key, Loc.plus]
      omega

theorem tag_inst_inj {c d : Nat} (h : (Space.inst c).tag = (Space.inst d).tag) : c = d := by
  simp only [Space.tag] at h
  omega

theorem State.readByte_loadImage_ne (s : State) {c d : Nat} (im : List Byte) (h : d ≠ c) {o : Nat} (ho : o < 2 ^ 64) :
    (s.loadImage c im).readByte ⟨.inst d, o⟩ = s.readByte ⟨.inst d, o⟩ := by
  have hdiv : (⟨.inst d, o⟩ : Loc).key / 2 ^ 64 = (Space.inst d).tag := Loc.key_div ho
  rw [State.readByte_eq_memGet _ (by simp), State.readByte_eq_memGet _ (by simp), s.loadImage_mem, memGet_memAfter_ne,
    memGet_filter _ fun k => k / 2 ^ 64 != (Space.inst c).tag, hdiv, if_pos (bne_iff_ne.mpr fun e => h (tag_inst_inj e))]
  intro w hw e
  obtain ⟨j, hj, rfl⟩ := List.mem_map.mp hw
  have hj' : j < 2 ^ 18 := Nat.lt_of_lt_of_le (List.mem_range.mp hj) (by simp)
  have hc : ((⟨.inst c, 0⟩ : Loc).plus j).key / 2 ^ 64 = (Space.inst c).tag := Loc.key_div (by simp only [Loc.plus]; omega)
  exact h (tag_inst_inj (hdiv.symm.trans ((congrArg (· / 2 ^ 64) e).symm.trans hc)))

end Sys2Proof.Machine

/-! PROOFS. The cold-boot phases (01 R22-R26, R31). -/

namespace Sys2Proof.Machine

open Sys2Proof.Claims

/-! The Swearos images (R22, R25). -/

theorem State.foldl_loadImage_frame (s : State) (im : Nat → List Byte) (cs : List Nat) :
    ∃ m p g, cs.foldl (fun (s : State) c => s.loadImage c (im c)) s = { s with mem := m, poison := p, groups := g } := by
  refine foldl_keeps (fun t : State => ∃ m p g, t = { s with mem := m, poison := p, groups := g }) _ ?_ cs s ⟨_, _, _, rfl⟩
  rintro _ c ⟨m, p, g, rfl⟩
  exact State.loadImage_frame _ c (im c)

theorem State.loadSwearos_power (s : State) (i a b c : SignedImage) : (s.loadSwearos i a b c).power = s.power := by
  obtain ⟨m, p, g, h⟩ := State.foldl_loadImage_frame ((s.loadImage 6 i.bytes).updCtl 6 CtlCore.restart)
    (fun k => listGet [] [a.bytes, b.bytes, c.bytes] (k / 2)) (List.range 6)
  obtain ⟨m', p', g', h'⟩ := s.loadImage_frame 6 i.bytes
  rw [State.loadSwearos, h, h']
  rfl

theorem State.loaded_loadSwearos (s : State) (i a b c : SignedImage) : ((s.loadSwearos i a b c).ctlCore 6).loaded = true := by
  obtain ⟨m, p, g, h⟩ := State.foldl_loadImage_frame ((s.loadImage 6 i.bytes).updCtl 6 CtlCore.restart)
    (fun k => listGet [] [a.bytes, b.bytes, c.bytes] (k / 2)) (List.range 6)
  have hctl : (s.loadSwearos i a b c).ctlCore 6 = ((s.loadImage 6 i.bytes).updCtl 6 CtlCore.restart).ctlCore 6 := by
    rw [State.loadSwearos, h]; rfl
  rw [hctl, State.ctlCore_updCtl]
  rfl

/-- Each of some control cores has the bytes of its own image, and no other one's change. -/
theorem State.readByte_foldl_loadImage (s : State) (im : Nat → List Byte) {cs : List Nat} (hd : cs.Nodup) {o : Nat} (ho : o < 2 ^ 18)
    (c : Nat) : (cs.foldl (fun (s : State) c => s.loadImage c (im c)) s).readByte ⟨.inst c, o⟩ =
      if c ∈ cs then listGet 0 (im c) o else s.readByte ⟨.inst c, o⟩ := by
  rw [foldl_lane (fun (s : State) c => s.loadImage c (im c)) (fun s c => s.readByte ⟨.inst c, o⟩) _ _ cs hd s c,
    State.readByte_loadImage _ _ _ ho]
  · exact fun t c d h => t.readByte_loadImage_ne _ h.symm (by omega)
  · exact fun t u c _ => (t.readByte_loadImage _ _ ho).trans (u.readByte_loadImage _ _ ho).symm

theorem State.readByte_loadSwearos (s : State) (i a b c : SignedImage) {o : Nat} (ho : o < 2 ^ 18) :
    (s.loadSwearos i a b c).readByte ⟨.inst 6, o⟩ = listGet 0 i.bytes o ∧
    ∀ m < 6, (s.loadSwearos i a b c).readByte ⟨.inst m, o⟩ = listGet 0 (listGet i [a, b, c] (m / 2)).bytes o := by
  have each := State.readByte_foldl_loadImage ((s.loadImage 6 i.bytes).updCtl 6 CtlCore.restart)
    (fun k => listGet [] [a.bytes, b.bytes, c.bytes] (k / 2)) (List.nodup_range (n := 6)) ho
  refine ⟨(each 6).trans ?_, fun m hm => (each m).trans ?_⟩
  · rw [if_neg (by decide)]
    exact s.readByte_loadImage 6 i.bytes ho
  · have himage : ∀ k < 3, listGet [] [a.bytes, b.bytes, c.bytes] k = (listGet i [a, b, c] k).bytes := by
      intro k hk
      interval_cases k <;> rfl
    rw [if_pos (List.mem_range.mpr hm), himage _ (by omega)]

/-! Training (R24). -/

theorem Power.train_of_stored {p : Power} {temp : Int} {r : TrainingRun} {v : List Byte} (h : p.stored temp r = some v) :
    p.train temp r = { p with inUse := p.inUse.filter (fun e => e.1 != r.iface) ++ [(r.iface, v)] } := by
  simp only [Power.train, h]

theorem Power.train_of_full {p : Power} {temp : Int} {r : TrainingRun} {v : List Byte} (h : p.stored temp r = none)
    (hf : r.full = some v) : p.train temp r = { p with
      retrained := true
      training := p.training.filter (fun e => e.1 != r.iface) ++ [(r.iface, ⟨r.found, temp, v, recordDigest r.found temp v⟩)]
      inUse := p.inUse.filter (fun e => e.1 != r.iface) ++ [(r.iface, v)] } := by
  simp only [Power.train, h, hf]

theorem Power.train_frame (p : Power) (temp : Int) (r : TrainingRun) :
    ∃ a b c, p.train temp r = { p with retrained := a, training := b, inUse := c } := by
  unfold Power.train
  dsimp only
  split <;> exact ⟨_, _, _, rfl⟩

/-- Training one interface leaves what is known of the others, and full training is not forgotten. -/
theorem Power.train_others (p : Power) (temp : Int) (r : TrainingRun) :
    (p.retrained = true → (p.train temp r).retrained = true) ∧
    (∀ e ∈ p.inUse, e.1 ≠ r.iface → e ∈ (p.train temp r).inUse) ∧
    (∀ e ∈ p.training, e.1 ≠ r.iface → e ∈ (p.train temp r).training) ∧
    ∀ q : TrainingRun, q.iface ≠ r.iface → (p.train temp r).stored temp q = p.stored temp q := by
  have kept {β : Type} (l : List (Interface × β)) (x : β) : ∀ e ∈ l, e.1 ≠ r.iface → e ∈ l.filter (fun e => e.1 != r.iface) ++ [(r.iface, x)] :=
    fun e he hne => List.mem_append_left _ (List.mem_filter.mpr ⟨he, bne_iff_ne.mpr hne⟩)
  have found (x : TrainingRecord) (q : TrainingRun) (hq : q.iface ≠ r.iface) :
      (p.training.filter (fun e => e.1 != r.iface) ++ [(r.iface, x)]).find? (fun e => e.1 == q.iface) =
        p.training.find? fun e => e.1 == q.iface := by
    rw [List.find?_append, List.find?_filter]
    have hlast : [(r.iface, x)].find? (fun e => e.1 == q.iface) = none := by simp [hq.symm]
    rw [hlast, Option.or_none]
    congr 1
    funext e
    by_cases he : e.1 = q.iface
    · simp [he, hq]
    · simp [he]
  cases hs : p.stored temp r with
  | some v =>
    rw [Power.train_of_stored hs]
    exact ⟨id, kept _ _, fun _ he _ => he, fun _ _ => rfl⟩
  | none =>
    cases hf : r.full with
    | none =>
      have hid : p.train temp r = p := by simp only [Power.train, hs, hf]
      rw [hid]
      exact ⟨id, fun _ he _ => he, fun _ he _ => he, fun _ _ => rfl⟩
    | some v =>
      rw [Power.train_of_full hs hf]
      refine ⟨fun _ => rfl, kept _ _, kept _ _, fun q hq => ?_⟩
      simp only [Power.stored, found _ q hq]

/-- What a training run that passes leaves of its interface (R24), where `p` is what was known before. -/
def Trained (temp : Int) (p q : Power) (r : TrainingRun) : Prop :=
  (∀ v, p.stored temp r = some v → (r.iface, v) ∈ q.inUse) ∧
  (p.stored temp r = none → q.retrained = true ∧ ∀ v, r.full = some v → (r.iface, v) ∈ q.inUse ∧
    ∃ x, (r.iface, x) ∈ q.training ∧ x.values = v ∧ TrainingRecord.valid x r.found temp = true)

theorem trained_train {temp : Int} {p : Power} {r : TrainingRun} (h : p.trains temp r = true) : Trained temp p (p.train temp r) r := by
  cases hs : p.stored temp r with
  | some v =>
    rw [Power.train_of_stored hs, Trained, hs]
    exact ⟨fun _ hv => by simp [Option.some.inj hv], fun hn => absurd hn (by simp)⟩
  | none =>
    obtain ⟨v, hv⟩ := Option.isSome_iff_exists.mp (show r.full.isSome = true by simpa [Power.trains, hs] using h)
    rw [Power.train_of_full hs hv, Trained, hs]
    refine ⟨fun _ hn => absurd hn (by simp), fun _ => ⟨rfl, fun w hw => ?_⟩⟩
    obtain rfl : v = w := Option.some.inj (hv.symm.trans hw)
    exact ⟨by simp, _, List.mem_append_right _ (List.mem_singleton.mpr rfl), rfl, by simp [TrainingRecord.valid]⟩

/-- A trained interface stays so while others are trained. -/
theorem Trained.keep {temp : Int} {p q : Power} {r x : TrainingRun} (h : Trained temp p q r) (hx : r.iface ≠ x.iface) :
    Trained temp p (q.train temp x) r := by
  obtain ⟨hre, huse, htr, -⟩ := q.train_others temp x
  obtain ⟨hs, hn⟩ := h
  refine ⟨fun v hv => huse _ (hs v hv) hx, fun h0 => ⟨hre (hn h0).1, fun v hv => ?_⟩⟩
  obtain ⟨hu, y, hy, hval⟩ := (hn h0).2 v hv
  exact ⟨huse _ hu hx, y, htr _ hy hx, hval⟩

theorem Trained.keep_all {temp : Int} {p : Power} {r : TrainingRun} (xs : List TrainingRun) (hx : ∀ x ∈ xs, r.iface ≠ x.iface) {q : Power}
    (h : Trained temp p q r) : Trained temp p (xs.foldl (Power.train temp) q) r := by
  induction xs generalizing q with
  | nil => exact h
  | cons x xs ih => exact ih (fun y hy => hx y (by simp [hy])) (h.keep (hx x (by simp)))

/-- When every interface of a phase trains, each is left trained. -/
theorem trained_foldl {temp : Int} (runs : List TrainingRun) (p : Power) (hd : (runs.map (·.iface)).Nodup)
    (h : ∀ r ∈ runs, p.trains temp r = true) : ∀ r ∈ runs, Trained temp p (runs.foldl (Power.train temp) p) r := by
  induction runs generalizing p with
  | nil => simp
  | cons x xs ih =>
    obtain ⟨hx, hd⟩ := List.nodup_cons.mp hd
    have hne : ∀ r ∈ xs, r.iface ≠ x.iface := fun r hr e => hx (List.mem_map.mpr ⟨r, hr, e⟩)
    obtain ⟨-, -, -, hst⟩ := p.train_others temp x
    intro r hr
    rcases List.mem_cons.mp hr with rfl | hr
    · exact (trained_train (h r (by simp))).keep_all xs fun y hy => (hne y hy).symm
    · have htr : ∀ r ∈ xs, (p.train temp x).trains temp r = true := fun r hr => by
        rw [Power.trains, hst r (hne r hr)]
        exact h r (by simp [hr])
      have := ih (p.train temp x) hd htr r hr
      rwa [Trained, hst r (hne r hr)] at this

theorem Power.foldl_train_frame (p : Power) (temp : Int) (runs : List TrainingRun) :
    ∃ a b c, runs.foldl (Power.train temp) p = { p with retrained := a, training := b, inUse := c } := by
  refine foldl_keeps (fun q : Power => ∃ a b c, q = { p with retrained := a, training := b, inUse := c }) _ ?_ runs p ⟨_, _, _, rfl⟩
  rintro _ r ⟨a, b, c, rfl⟩
  exact Power.train_frame _ temp r

theorem nodup_phaseInterfaces {n : Nat} (hn : n = 3 ∨ n = 4) : (phaseInterfaces n).Nodup := by
  rcases hn with rfl | rfl <;> decide

/-! Margins (R31). -/

theorem le_foldl_max_init (l : List (Nat × Nat)) (n : Nat) : n ≤ l.foldl (fun n e => max n e.2) n := by
  induction l generalizing n with
  | nil => exact Nat.le_refl n
  | cons a l ih => exact Nat.le_trans (Nat.le_max_left _ _) (ih _)

theorem le_foldl_max {e : Nat × Nat} {l : List (Nat × Nat)} (he : e ∈ l) (n : Nat) : e.2 ≤ l.foldl (fun n e => max n e.2) n := by
  induction l generalizing n with
  | nil => simp at he
  | cons a l ih =>
    rcases List.mem_cons.mp he with rfl | he
    · exact Nat.le_trans (Nat.le_max_right _ _) (le_foldl_max_init l _)
    · exact ih he _

theorem foldl_max_le {l : List (Nat × Nat)} {b n : Nat} (hn : n ≤ b) (h : ∀ e ∈ l, e.2 ≤ b) : l.foldl (fun n e => max n e.2) n ≤ b := by
  induction l generalizing n with
  | nil => exact hn
  | cons a l ih => exact ih (Nat.max_le.mpr ⟨hn, h a (by simp)⟩) fun e he => h e (by simp [he])

theorem mem_withheld_marginPlan (needs : List (Nat × Nat)) (c : Nat) :
    c ∈ (marginPlan needs).withheld ↔ c < 320 ∧ ∃ k, (c, k) ∈ needs ∧ 6 < k := by
  simp only [marginPlan, List.mem_eraseDups, List.mem_map, List.mem_filter, decide_eq_true_eq]
  constructor
  · rintro ⟨⟨d, k⟩, ⟨⟨hm, hd⟩, hk⟩, rfl⟩
    exact ⟨hd, k, hm, hk⟩
  · rintro ⟨hc, k, hm, hk⟩
    exact ⟨(c, k), ⟨⟨hm, hc⟩, hk⟩, rfl⟩

theorem le_offset_marginPlan {needs : List (Nat × Nat)} {c k : Nat} (hm : (c, k) ∈ needs) (hc : c < 320) (hk : k ≤ 6) :
    k ≤ listGet 0 (marginPlan needs).offsets (c / 160 * 20 + c % 160 / 8) := by
  have hlt : c / 160 * 20 + c % 160 / 8 < 40 := by omega
  rw [marginPlan, listGet_eq_getD, List.getD_eq_getElem _ _ (by simpa using hlt), List.getElem_map, List.getElem_range]
  refine le_foldl_max (e := (c, k)) (List.mem_filter.mpr ⟨List.mem_filter.mpr ⟨hm, decide_eq_true hc⟩, ?_⟩) 0
  simp [clusterKey, dieOf, clusterOf, hk]

theorem offset_marginPlan_le (needs : List (Nat × Nat)) : ∀ n ∈ (marginPlan needs).offsets, n ≤ 6 := by
  intro n hn
  obtain ⟨k, -, rfl⟩ := List.mem_map.mp hn
  refine foldl_max_le (Nat.zero_le 6) fun e he => ?_
  have h := (List.mem_filter.mp he).2
  simp only [Bool.and_eq_true, decide_eq_true_eq] at h
  exact h.1

/-- The margin plan that takes effect is the last of the ring. -/
theorem planned_of_plan {s t : State} {needs : List (Nat × Nat)} (hp : t.power.plans = (s.power.plan (marginPlan needs)).plans)
    (hw : t.power.withheld = (s.power.plan (marginPlan needs)).withheld) : Planned s t needs := by
  refine ⟨?len, fun c => ?withheld, marginPlan needs, ?last, hw.symm, fun c k => le_offset_marginPlan, offset_marginPlan_le needs⟩
  case len =>
    rw [hp]
    simp only [Power.plan, List.length_drop]
    omega
  case withheld =>
    rw [hw]
    exact mem_withheld_marginPlan needs c
  case last =>
    rw [hp]
    simp only [Power.plan]
    rw [List.getLast?_drop, if_neg (by simp), List.getLast?_concat]

/-! The phases one by one. -/

/-- BOOT_PHASE_COMPLETE with `b` passes the phase, and leaves a state with `f`. -/
def Passes (s : State) (b : BootStep) (f : State → Prop) : Prop :=
  ∃ t : State, exec (.bootPhaseComplete b) s = .next t ∧ t.power.phase = s.power.phase + 1 ∧
    (s.power.phase.toNat ≠ 7 → t.power.state = 0) ∧ f t

/-- BOOT_PHASE_COMPLETE with `b` fails the phase with a code. -/
def Fails (s : State) (b : BootStep) (c : BitVec 8) : Prop :=
  exec (.bootPhaseComplete b) s = .next { s with power := { s.power with phase := c } }

theorem State.phaseDone_firstStage {s : State} {i : SignedImage} (hv : s.verifies i = true) :
    s.phaseDone 1 (.firstStage i) = some (.ok ((s.extend 0 (digestOf i.bytes)).extend 5 s.power.fuseDigest)) := by
  simp only [State.phaseDone, hv, if_true]

/-- The four images' digests extend MEAS1 to MEAS4 (R26). -/
def State.measured (s : State) (i a b c : SignedImage) : State :=
  (List.range 4).foldl (fun (s : State) k => s.extend (k + 1) (digestOf (listGet i [i, a, b, c] k).bytes)) s

theorem State.phaseDone_swearos {s : State} {i a b c : SignedImage} (hv : ∀ x ∈ [i, a, b, c], s.verifies x = true) :
    s.phaseDone 2 (.swearos i a b c) = some (.ok ((s.measured i a b c).loadSwearos i a b c)) := by
  have hall : [i, a, b, c].all s.verifies = true := List.all_eq_true.mpr hv
  simp only [State.phaseDone, hall, if_true, State.measured]

theorem State.phaseDone_train (s : State) {n : Nat} (hn : n = 3 ∨ n = 4) {temp : Int} {runs : List TrainingRun} (hi : runs.map (·.iface) = phaseInterfaces n) :
    s.phaseDone n (.train temp runs) = if runs.all (s.power.trains temp) then
      some (.ok { s with power := { runs.foldl (Power.train temp) s.power with
        trained := n == 4 && !(runs.foldl (Power.train temp) s.power).retrained } })
      else some (.error 0xF3) := by
  have hne : (runs.map (·.iface) != phaseInterfaces n) = false := by rw [hi, bne_self_eq_false]
  rcases hn with rfl | rfl <;> simp only [State.phaseDone, hne, Bool.false_eq_true, if_false]

theorem State.state_startCluster (s : State) : s.startCluster.power.state = if s.power.lcState = 3 then 5 else 1 := by
  unfold State.startCluster
  by_cases hl : s.power.lcState = 3
  · rw [if_pos (beq_iff_eq.mpr hl), if_pos hl]
  · rw [if_neg (mt beq_iff_eq.mp hl), if_neg hl]

section
variable {s : State} (h0 : s.power.state = 0)
include h0

theorem passes_of_phaseDone {n : Nat} {b : BootStep} {t : State} {f : State → Prop} (hn : s.power.phase.toNat = n) (h8 : n < 8)
    (hd : s.phaseDone n b = some (.ok t)) (hs : n ≠ 7 → t.power.state = 0)
    (hf : f { t with power := { t.power with phase := s.power.phase + 1 } }) : Passes s b f :=
  ⟨_, bootPhaseComplete_ok h0 hn h8 hd, rfl, fun h => hs (hn ▸ h), hf⟩

theorem firstStage_fails (hn : s.power.phase.toNat = 1) {i : SignedImage} (hv : s.verifies i = false) : Fails s (.firstStage i) 0xF1 :=
  bootPhaseComplete_error h0 hn (by decide) (by simp [State.phaseDone, hv])

theorem firstStage_passes (hn : s.power.phase.toNat = 1) {i : SignedImage} (hv : s.verifies i = true) (hl : s.power.meas.length = 16) :
    Passes s (.firstStage i) fun t => t.mem = s.mem ∧ listGet 0 t.power.meas 0 = extended (listGet 0 s.power.meas 0) (digestOf i.bytes) ∧
      listGet 0 t.power.meas 5 = extended (listGet 0 s.power.meas 5) s.power.fuseDigest := by
  refine passes_of_phaseDone h0 hn (by decide) (State.phaseDone_firstStage hv) (fun _ => h0) ⟨rfl, ?_, ?_⟩
  · exact (State.listGet_extend_ne _ _ (by decide)).trans (s.listGet_extend _ (by omega))
  · refine (State.listGet_extend _ _ ?_).trans (congrArg (extended · _) (s.listGet_extend_ne _ (by decide)))
    rw [State.length_meas_extend]
    omega

theorem swearos_fails (hn : s.power.phase.toNat = 2) {i a b c : SignedImage} (hv : ∃ x ∈ [i, a, b, c], s.verifies x = false) :
    Fails s (.swearos i a b c) 0xF2 := by
  obtain ⟨x, hx, hf⟩ := hv
  have hall : [i, a, b, c].all s.verifies = false := List.all_eq_false.mpr ⟨x, hx, by simp [hf]⟩
  exact bootPhaseComplete_error h0 hn (by decide) (by rw [State.phaseDone, hall]; rfl)

theorem swearos_passes (hn : s.power.phase.toNat = 2) {i a b c : SignedImage} (hv : ∀ x ∈ [i, a, b, c], s.verifies x = true)
    (hl : s.power.meas.length = 16) : Passes s (.swearos i a b c) fun t =>
      (∀ k < 4, listGet 0 t.power.meas (k + 1) = extended (listGet 0 s.power.meas (k + 1)) (digestOf (listGet i [i, a, b, c] k).bytes)) ∧
      (t.ctlCore 6).loaded = true ∧ ∀ o < 2 ^ 18, (t.readByte ⟨.inst 6, o⟩ = listGet 0 i.bytes o) ∧
        ∀ m < 6, t.readByte ⟨.inst m, o⟩ = listGet 0 (listGet i [a, b, c] (m / 2)).bytes o := by
  have h4 : 4 < s.power.meas.length := by omega
  obtain ⟨m, hm⟩ := s.foldl_extend_frame (fun k => digestOf (listGet i [i, a, b, c] k).bytes) (List.range 4)
  obtain ⟨-, hmeas⟩ := s.listGet_foldl_extend (fun k => digestOf (listGet i [i, a, b, c] k).bytes) h4
  have hd := State.phaseDone_swearos hv
  have hp := (s.measured i a b c).loadSwearos_power i a b c
  have hl6 := (s.measured i a b c).loaded_loadSwearos i a b c
  have hb (o : Nat) (ho : o < 2 ^ 18) := (s.measured i a b c).readByte_loadSwearos i a b c ho
  generalize (s.measured i a b c).loadSwearos i a b c = u at hd hl6 hb hp
  rw [State.measured, hm] at hp
  rw [hm] at hmeas
  refine passes_of_phaseDone h0 hn (by decide) hd (fun _ => ?_) ⟨fun k hk => ?_, hl6, hb⟩
  · rw [hp]
    exact h0
  · rw [hp]
    exact (hmeas k).trans (if_pos hk)

theorem train_fails {n : Nat} (hn : s.power.phase.toNat = n) (h34 : n = 3 ∨ n = 4) {temp : Int} {runs : List TrainingRun}
    (hi : runs.map (·.iface) = phaseInterfaces n) (h : ∃ r ∈ runs, s.power.trains temp r = false) : Fails s (.train temp runs) 0xF3 := by
  obtain ⟨r, hr, hf⟩ := h
  have hall : runs.all (s.power.trains temp) = false := List.all_eq_false.mpr ⟨r, hr, by simp [hf]⟩
  exact bootPhaseComplete_error h0 hn (by omega) ((s.phaseDone_train h34 hi).trans (by rw [hall, if_neg Bool.false_ne_true]))

theorem train_passes {n : Nat} (hn : s.power.phase.toNat = n) (h34 : n = 3 ∨ n = 4) {temp : Int} {runs : List TrainingRun}
    (hi : runs.map (·.iface) = phaseInterfaces n) (h : ∀ r ∈ runs, s.power.trains temp r = true) :
    Passes s (.train temp runs) fun t => t.mem = s.mem ∧ (t.power.trained = true ↔ n = 4 ∧ t.power.retrained = false) ∧
      ∀ r ∈ runs, Trained temp s.power t.power r := by
  obtain ⟨a, b, c, hp⟩ := s.power.foldl_train_frame temp runs
  refine passes_of_phaseDone h0 hn (by omega) ((s.phaseDone_train h34 hi).trans (if_pos (List.all_eq_true.mpr h))) (fun _ => ?_)
    ⟨rfl, by simp, fun r hr => ?_⟩
  · rw [hp]
    exact h0
  · exact trained_foldl runs s.power (hi ▸ nodup_phaseInterfaces h34) h r hr

theorem wipe_passes (hn : s.power.phase.toNat = 6) : Passes s .advance fun t => OnlyHostKept s t ∧
    ∀ c < 7, ∀ o < 2 ^ 64, t.readByte ⟨.inst c, o⟩ = s.readByte ⟨.inst c, o⟩ := by
  let kept (n : Nat) : Bool := n == Space.tag .host || (List.range 7).any fun c => n == Space.tag (.inst c)
  refine passes_of_phaseDone h0 hn (by decide) rfl (fun _ => h0) ⟨onlyHostKept_of_mem_filter (p := kept) rfl rfl rfl, fun c hc o ho => ?_⟩
  have hk : kept (Space.tag (.inst c)) = true := by
    simp only [kept, Bool.or_eq_true, List.any_eq_true]
    exact .inr ⟨c, List.mem_range.mpr hc, beq_self_eq_true _⟩
  exact (State.readByte_of_mem_filter (p := kept) rfl (by simp) ho).trans (if_pos hk)

theorem start_passes (hn : s.power.phase.toNat = 7) : Passes s .advance fun t => t.power.state = if s.power.lcState = 3 then 5 else 1 := by
  refine passes_of_phaseDone h0 hn (by decide) rfl (fun h => absurd rfl h) ?_
  exact s.state_startCluster

end

theorem exec_pcieConfigRequest_eq (s : State) : exec .pcieConfigRequest s = .next { s with sent := s.sent ++ [.config
    (decide (s.power.state = 0 ∧ (s.power.phase.toNat ≤ 2 ∨ s.power.phase = 0xF1 ∨ s.power.phase = 0xF2)))] } := by
  have hc (c : BitVec 8) : (s.power.phase.toNat == c.toNat) = decide (s.power.phase = c) := by
    rw [Bool.eq_iff_iff, beq_iff_eq, decide_eq_true_eq]
    exact BitVec.toNat_inj
  have h : (s.power.state == 0 && (decide (s.power.phase.toNat ≤ 2) || s.power.phase.toNat == 0xF1 || s.power.phase.toNat == 0xF2)) =
      decide (s.power.state = 0 ∧ (s.power.phase.toNat ≤ 2 ∨ s.power.phase = 0xF1 ∨ s.power.phase = 0xF2)) := by
    rw [show (0xF1 : Nat) = (0xF1 : BitVec 8).toNat from rfl, show (0xF2 : Nat) = (0xF2 : BitVec 8).toNat from rfl, hc, hc]
    rw [Bool.eq_iff_iff]
    simp [or_assoc]
  rw [exec_pcieConfigRequest, execPcieConfigRequest, h]
  rfl

/-- 01 R22-R26, R31. -/
theorem bootGoesByPhases : BootGoesByPhases := by
  refine ⟨bootPhaseComplete_idle, fun s h0 h8 => ⟨?reset, ?first, ?images, ?training, ?margins, ?wipe, ?start⟩, exec_pcieConfigRequest_eq⟩
  case reset => exact fun hn => passes_of_phaseDone h0 hn (by decide) rfl (fun _ => h0) rfl
  case first => exact fun hn i => ⟨firstStage_fails h0 hn, firstStage_passes h0 hn⟩
  case images => exact fun hn i a b c => ⟨swearos_fails h0 hn, swearos_passes h0 hn⟩
  case training => exact fun hn temp runs hi => ⟨train_fails h0 rfl hn hi, train_passes h0 rfl hn hi⟩
  case margins => exact fun hn needs => passes_of_phaseDone h0 hn (by decide) rfl (fun _ => h0) ⟨rfl, planned_of_plan rfl rfl⟩
  case wipe => exact wipe_passes h0
  case start => exact start_passes h0

end Sys2Proof.Machine

/-! PROOFS. The banked state (01 R17, R28-R31; 16 R381, R382). -/

namespace Sys2Proof.Machine

open Sys2Proof.Claims

/-! Stopping every workgroup for entry (R28). -/

theorem foldl_eq_self {α β : Type} {f : β → α → β} {b : β} {l : List α} (h : ∀ a ∈ l, f b a = b) : l.foldl f b = b := by
  induction l with
  | nil => rfl
  | cons a l ih => rw [List.foldl_cons, h a (by simp), ih fun x hx => h x (by simp [hx])]

/-- What a key of a table reads that is not the default is listed. -/
theorem Table.mem_keys_of_get_ne {β : Type} {d : β} {t : Table β} {n : Nat} (h : Table.get d t n ≠ d) : n ∈ t.map (·.1) := by
  induction t with
  | nil => exact absurd rfl h
  | cons e t ih =>
    obtain ⟨k, v⟩ := e
    by_cases hk : n = k
    · simp [hk]
    · rw [Table.get, beq_eq_false_iff_ne.mpr hk, if_neg Bool.false_ne_true] at h
      exact List.mem_cons_of_mem _ (ih h)

theorem State.abandonCk_idle {s : State} {vd : Nat} (h : (s.vd vd).ckRun = none) : s.abandonCk vd = s := by
  simp only [State.abandonCk, State.endCk, h]

theorem State.sendEntries_empty {s : State} {c : Nat} (f : WcEntry → Bool) (h : (s.core c).wc = []) : s.sendEntries c f = s := by
  rw [State.sendEntries, h]; rfl

/-- Pre-empts a workgroup for entry, if it is resident and not doomed. -/
def State.stopGroup (s : State) (g : Nat) : State :=
  if (s.group g).residence != .resident || (s.group g).doomed.isSome then s else (s.charge g).preempt g

/-- With no checkpoint under way and no combined writes held, only the workgroups are stopped. -/
theorem State.stopForEntry_quiet {s : State} (hv : ∀ e ∈ s.vds, (s.vd e.1).ckRun = none) (hc : ∀ e ∈ s.cores, (s.core e.1).wc = []) :
    s.stopForEntry = (s.groups.map (·.1)).foldl State.stopGroup s := by
  have h1 : (s.vds.map (·.1)).foldl State.abandonCk s = s := foldl_eq_self fun n hn => by
    obtain ⟨e, he, rfl⟩ := List.mem_map.mp hn
    exact State.abandonCk_idle (hv e he)
  have h2 : (s.cores.map (·.1)).foldl (fun (s : State) c => s.sendEntries c fun _ => true) s = s := foldl_eq_self fun n hn => by
    obtain ⟨e, he, rfl⟩ := List.mem_map.mp hn
    exact State.sendEntries_empty _ (hc e he)
  rw [State.stopForEntry, h1, h2]
  rfl

/-! What pre-empting one workgroup leaves. -/

theorem State.haltBroadcast_frame (s : State) (g : Nat) : ∃ x, s.haltBroadcast g = { s with groups := x } := by
  unfold State.haltBroadcast
  split <;> exact ⟨_, rfl⟩

theorem State.startSlice_frame (s : State) (g : Nat) : ∃ x, s.startSlice g = { s with groups := x } := by
  unfold State.startSlice
  split
  · exact ⟨_, rfl⟩
  · obtain ⟨x, h⟩ := s.haltBroadcast_frame g
    rw [h]
    exact ⟨_, rfl⟩

theorem State.preempt_frame (s : State) (g : Nat) : ∃ x, s.preempt g = { s with groups := x } := by
  unfold State.preempt
  split
  · exact s.startSlice_frame g
  · split <;> exact ⟨_, rfl⟩
  · exact ⟨_, rfl⟩

theorem State.stopGroup_frame (s : State) (g : Nat) : ∃ v d x, s.stopGroup g = { s with vds := v, grids := d, groups := x } := by
  unfold State.stopGroup
  split
  · exact ⟨_, _, _, rfl⟩
  · obtain ⟨x, h⟩ := (s.charge g).preempt_frame g
    rw [h]
    exact ⟨_, _, _, rfl⟩

theorem State.foldl_stopGroup_frame (s : State) (gs : List Nat) :
    ∃ v d x, gs.foldl State.stopGroup s = { s with vds := v, grids := d, groups := x } := by
  refine foldl_keeps (fun t : State => ∃ v d x, t = { s with vds := v, grids := d, groups := x }) _ ?_ gs s ⟨_, _, _, rfl⟩
  rintro _ g ⟨v, d, x, rfl⟩
  exact State.stopGroup_frame _ g

/-- A workgroup that is stopped at its slice end, with its grid's launch record (16 R381, R389). -/
def Group.preempted (r : LaunchRec) (x : Group) : Group :=
  match x.halt with
  | none =>
    if r.shpc == 0 || x.warps.any (·.inSliceHandler) then { x with halt := some (.saving false false), sliceDue := false }
    else { x with
      halt := some (.slice false [])
      sliceDue := false
      warps := x.warps.map fun w => { w with agent := { w.agent with skid := 0 } }
      stoker := x.stoker.map fun k => { k with agent := { k.agent with skid := 0 } } }
  | some (.trap _) => if r.shpc == 0 then { x with halt := some (.saving false false) } else { x with sliceDue := true }
  | _ => x

theorem State.group_preempt (s : State) (g : Nat) : (s.preempt g).group g = (s.group g).preempted (s.launchOf g) := by
  unfold State.preempt Group.preempted
  cases hh : (s.group g).halt with
  | none =>
    simp only [State.startSlice]
    split
    · rw [State.group_updGroup]
    · rw [State.group_updGroup, State.haltBroadcast, hh, State.group_updGroup]
  | some k =>
    cases k with
    | trap b =>
      simp only
      split
      · rw [State.group_updGroup]
      · rw [State.group_updGroup, ← hh]
    | slice | saving | frozen => rfl

theorem State.group_updGroup_ne (s : State) {g k : Nat} (f : Group → Group) (h : k ≠ g) : (s.updGroup g f).group k = s.group k :=
  s.group_setGroup_ne _ h

theorem State.group_preempt_ne (s : State) {g k : Nat} (h : k ≠ g) : (s.preempt g).group k = s.group k := by
  have hb : (s.haltBroadcast g).group k = s.group k := by
    unfold State.haltBroadcast
    split
    · rfl
    · exact s.group_updGroup_ne _ h
  unfold State.preempt
  split
  · unfold State.startSlice
    split
    · exact s.group_updGroup_ne _ h
    · exact (State.group_updGroup_ne _ _ h).trans hb
  · split <;> exact s.group_updGroup_ne _ h
  · rfl

theorem State.group_charge (s : State) (g : Nat) : (s.charge g).group g = { s.group g with charged := s.clk.toNat } :=
  State.group_updGroup _ g _

theorem State.group_charge_ne (s : State) {g k : Nat} (h : k ≠ g) : (s.charge g).group k = s.group k :=
  State.group_updGroup_ne _ _ h

theorem State.record_charge (s : State) (g n : Nat) : ((s.charge g).grid n).record = (s.grid n).record := by
  have hr (c : Nat) : ((s.updGrid (s.group g).grid fun x => { x with coreTime := x.coreTime + c }).grid n).record = (s.grid n).record := by
    by_cases h : n = (s.group g).grid
    · rw [h, State.grid_updGrid]
    · rw [State.grid, State.updGrid, State.setGrid, Table.get_put_ne _ h]; rfl
  exact hr _

theorem State.launchOf_charge (s : State) (g k : Nat) : (s.charge g).launchOf k = s.launchOf k := by
  have hg : ((s.charge g).group k).grid = (s.group k).grid := by
    by_cases h : k = g
    · rw [h, State.group_charge]
    · rw [s.group_charge_ne h]
  rw [State.launchOf, s.record_charge, hg]; rfl

theorem Group.grid_preempted (r : LaunchRec) (x : Group) : (x.preempted r).grid = x.grid := by
  unfold Group.preempted
  split
  · split <;> rfl
  · split <;> rfl
  · rfl

theorem State.launchOf_preempt (s : State) (g k : Nat) : (s.preempt g).launchOf k = s.launchOf k := by
  have hg : ((s.preempt g).group k).grid = (s.group k).grid := by
    by_cases h : k = g
    · rw [h, State.group_preempt, Group.grid_preempted]
    · rw [s.group_preempt_ne h]
  obtain ⟨x, h⟩ := s.preempt_frame g
  have hr (n : Nat) : (s.preempt g).grid n = s.grid n := by rw [h]; rfl
  rw [State.launchOf, hg, hr]; rfl

/-! What pre-empting all of them leaves of one. -/

/-- `y` is the resident workgroup `x` stopped for entry, where `r` is its grid's launch record. -/
def Stopped (r : LaunchRec) (x y : Group) : Prop :=
  y.residence = x.residence ∧ y.doomed = x.doomed ∧
  (x.halt = none → y.halt = if r.shpc = 0 ∨ x.warps.any Warp.inSliceHandler = true then
    some (.saving false false) else some (.slice false [])) ∧
  ∀ b, x.halt = some (.trap b) → if r.shpc = 0 then y.halt = some (.saving false false)
    else y.halt = some (.trap b) ∧ y.sliceDue = true

theorem stopped_preempted (r : LaunchRec) (x : Group) (n : Nat) : Stopped r x (Group.preempted r { x with charged := n }) := by
  unfold Stopped Group.preempted
  cases hh : x.halt with
  | none =>
    by_cases hc : r.shpc = 0 ∨ x.warps.any Warp.inSliceHandler = true
    · have hb : (r.shpc == 0 || x.warps.any Warp.inSliceHandler) = true := by simpa using hc
      simp only [hb, if_true, if_pos hc, true_and, forall_const, reduceCtorEq, false_implies]
    · have hb : (r.shpc == 0 || x.warps.any Warp.inSliceHandler) = false := by simpa using hc
      simp only [hb, Bool.false_eq_true, if_false, if_neg hc, true_and, forall_const, reduceCtorEq, false_implies]
  | some k =>
    cases k with
    | trap b => by_cases hz : r.shpc = 0#64 <;> simp [hz]
    | slice | saving | frozen => simp

/-- A workgroup that is stopped stays so when it is pre-empted again. -/
theorem Stopped.again {r : LaunchRec} {x y : Group} (h : Stopped r x y) (n : Nat) :
    Stopped r x (Group.preempted r { y with charged := n }) := by
  obtain ⟨hr, hd, hn, ht⟩ := h
  obtain ⟨hr', hd', -, ht'⟩ := stopped_preempted r y n
  refine ⟨hr'.trans hr, hd'.trans hd, fun h => ?_, fun b h => ?_⟩
  · have hy := hn h
    rw [← hy]
    split at hy <;> simp [Group.preempted, hy]
  · have hy := ht b h
    split
    · next hz =>
      rw [if_pos hz] at hy
      simp [Group.preempted, hy]
    · next hz =>
      rw [if_neg hz] at hy
      have hs := ht' b hy.1
      rwa [if_neg hz] at hs

/-- Stopping a workgroup once more, or for the first time, or another one. -/
def StopsTo (r : LaunchRec) (x : Group) (g : Nat) (t : State) : Prop :=
  t.launchOf g = r ∧ ((∃ n, t.group g = { x with charged := n }) ∨ Stopped r x (t.group g))

theorem State.stopGroup_other {g k : Nat} {t : State} (hk : g ≠ k) :
    (t.stopGroup k).launchOf g = t.launchOf g ∧ (t.stopGroup k).group g = t.group g := by
  unfold State.stopGroup
  split
  · exact ⟨rfl, rfl⟩
  · exact ⟨(State.launchOf_preempt _ k g).trans (t.launchOf_charge k g), (State.group_preempt_ne _ hk).trans (t.group_charge_ne hk)⟩

theorem StopsTo.stopGroup_self {r : LaunchRec} {x : Group} {g : Nat} {t : State} (h : StopsTo r x g t) (hx : x.residence = .resident)
    (hd : x.doomed = none) : (t.stopGroup g).launchOf g = r ∧ Stopped r x ((t.stopGroup g).group g) := by
  obtain ⟨hl, hs⟩ := h
  have hlive : (t.group g).residence = .resident ∧ (t.group g).doomed = none := by
    rcases hs with ⟨n, e⟩ | ⟨hr, hn, -, -⟩
    · rw [e]; exact ⟨hx, hd⟩
    · exact ⟨hr.trans hx, hn.trans hd⟩
  have hgo : ((t.group g).residence != .resident || (t.group g).doomed.isSome) = false := by simp [hlive]
  rw [State.stopGroup, hgo, if_neg Bool.false_ne_true, State.launchOf_preempt, State.group_preempt, t.launchOf_charge, t.group_charge, hl]
  refine ⟨rfl, ?_⟩
  rcases hs with ⟨n, e⟩ | hs
  · rw [e]
    exact stopped_preempted r x _
  · exact hs.again _

theorem State.stopped_foldl_stopGroup (s : State) {g : Nat} {gs : List Nat} (hg : g ∈ gs) (hx : (s.group g).residence = .resident)
    (hd : (s.group g).doomed = none) : Stopped (s.launchOf g) (s.group g) ((gs.foldl State.stopGroup s).group g) := by
  have one (t : State) (k : Nat) (h : StopsTo (s.launchOf g) (s.group g) g t) : StopsTo (s.launchOf g) (s.group g) g (t.stopGroup k) := by
    by_cases hk : g = k
    · subst hk
      exact (h.stopGroup_self hx hd).imp_right .inr
    · obtain ⟨hl, e⟩ := State.stopGroup_other (t := t) hk
      exact ⟨hl.trans h.1, by rw [e]; exact h.2⟩
  have kept (t : State) (k : Nat) (h : t.launchOf g = s.launchOf g ∧ Stopped (s.launchOf g) (s.group g) (t.group g)) :
      (t.stopGroup k).launchOf g = s.launchOf g ∧ Stopped (s.launchOf g) (s.group g) ((t.stopGroup k).group g) := by
    by_cases hk : g = k
    · subst hk
      exact StopsTo.stopGroup_self ⟨h.1, .inr h.2⟩ hx hd
    · obtain ⟨hl, e⟩ := State.stopGroup_other (t := t) hk
      exact ⟨hl.trans h.1, by rw [e]; exact h.2⟩
  obtain ⟨as, bs, rfl⟩ := List.append_of_mem hg
  rw [List.foldl_append, List.foldl_cons]
  have before := foldl_keeps _ State.stopGroup one as s ⟨rfl, .inl ⟨_, rfl⟩⟩
  exact (foldl_keeps _ State.stopGroup kept bs _ (before.stopGroup_self hx hd)).2

/-! Entry (R28). -/

/-- Nothing that entry waits for, abandons or sends is left. -/
def Quiet (s : State) : Prop :=
  s.entryWaits = false ∧ (∀ e ∈ s.vds, (s.vd e.1).ckRun = none) ∧ ∀ e ∈ s.cores, (s.core e.1).wc = []

/-- An ACTIVE device that is quiet enters: its workgroups are stopped. -/
theorem enterBanked_active {s : State} (h : s.power.state = 1) (hq : Quiet s) : ∃ t : State,
    exec .enterBanked s = .next t ∧ t.power = { s.power with state := 2, exitRecorded := false } ∧ t.mem = s.mem ∧
    ∀ g, (s.group g).residence = .resident → (s.group g).doomed = none → Stopped (s.launchOf g) (s.group g) (t.group g) := by
  obtain ⟨hw, hv, hc⟩ := hq
  let u : State := { s with power := { s.power with state := 2, exitRecorded := false } }
  have hrun : s.enterBanked = (s.groups.map (·.1)).foldl State.stopGroup u := by
    have hu : u.entryWaits = false := hw
    rw [State.enterBanked, h, bne_self_eq_false, if_neg Bool.false_ne_true]
    exact (if_neg (hu ▸ Bool.false_ne_true)).trans (State.stopForEntry_quiet (s := u) hv hc)
  obtain ⟨v, d, x, hf⟩ := u.foldl_stopGroup_frame (s.groups.map (·.1))
  refine ⟨_, rfl, by rw [hrun, hf], by rw [hrun, hf], fun g hr hd => ?_⟩
  have hg : g ∈ s.groups.map (·.1) := Table.mem_keys_of_get_ne (d := Group.start) fun e => by
    have hres : (s.group g).residence = Group.start.residence := congrArg Group.residence e
    exact absurd (hr.symm.trans hres) (by decide)
  rw [hrun]
  exact u.stopped_foldl_stopGroup hg hr hd

theorem enterBanked_inactive {s : State} (h : s.power.state ≠ 1) : exec .enterBanked s = .next s := by
  rw [exec_enterBanked, execEnterBanked, State.enterBanked, if_pos (bne_iff_ne.mpr h)]

theorem leaveBanked_cases (s : State) :
    (s.power.state = 3 → exec .leaveBanked s = .next { s with power := { s.power with state := 4 } }) ∧
    (s.power.state = 2 → exec .leaveBanked s = .next { s with power := { s.power with exitRecorded := true } }) ∧
    (s.power.state ≠ 2 → s.power.state ≠ 3 → exec .leaveBanked s = .next s) := by
  refine ⟨fun h => ?_, fun h => ?_, fun h2 h3 => ?_⟩
  · simp [execLeaveBanked, State.leaveBanked, h]
  · simp [execLeaveBanked, State.leaveBanked, h]
  · rw [exec_leaveBanked, execLeaveBanked, State.leaveBanked, beq_eq_false_iff_ne.mpr h2, beq_eq_false_iff_ne.mpr h3]
    rfl

theorem bankedEntryComplete_waits {s : State} (h : s.entryWaits = true ∨ s.power.state ≠ 2) : exec .bankedEntryComplete s = .next s := by
  have hc : (s.power.state != 2 || s.entryWaits) = true := by
    rcases h with h | h
    · rw [h, Bool.or_true]
    · rw [bne_iff_ne.mpr h, Bool.true_or]
  rw [exec_bankedEntryComplete, execBankedEntryComplete, if_pos hc]

/-- The state once nothing is resident and no request is outstanding (R28 step 7). -/
def State.banked (s : State) : State :=
  let t := s.switchOff
  { t with power := { t.power with
      state := if t.power.exitRecorded then 4 else 3
      exitRecorded := false
      bankcnt := countUp t.power.bankcnt } }

theorem bankedEntryComplete_quiet {s : State} (h : s.power.state = 2) (hq : Quiet s)
    (hg : ∀ e ∈ s.groups, (s.group e.1).residence ≠ .resident) (hn : ∀ e ∈ s.groups, e.2.residence ≠ .resident) (hr : s.remote = []) :
    exec .bankedEntryComplete s = .next s.banked := by
  obtain ⟨hw, hv, hc⟩ := hq
  have hstop : s.stopForEntry = s := by
    rw [State.stopForEntry_quiet hv hc]
    refine foldl_eq_self fun g hm => ?_
    obtain ⟨e, he, rfl⟩ := List.mem_map.mp hm
    rw [State.stopGroup, bne_iff_ne.mpr (hg e he), Bool.true_or, if_pos rfl]
  have hrun : (s.groups.any fun e => e.2.residence == .resident) = false :=
    List.any_eq_false.mpr fun e he => by simpa using hn e he
  simp only [exec_bankedEntryComplete, execBankedEntryComplete, h, hw, hstop, hrun, hr, bne_self_eq_false, Bool.or_self,
    List.isEmpty_nil, Bool.not_true, Bool.false_eq_true, if_false]
  rfl

/-- Switching off halts the control cores, and leaves all but the power state, the cores, the stations and them. -/
theorem State.switchOff_frame (s : State) : ∃ c u, s.switchOff = { s with
    ctl := c
    power := { s.power with upAtEntry := u }
    cores := s.cores.map fun e => (e.1, { e.2 with l1 := [], gated := [] })
    stations := s.stations.map fun e => (e.1, { e.2 with state := .down, channels := [] }) } := by
  obtain ⟨x, h⟩ := s.foldl_updCtl_frame (fun x => { x with halted := true }) (List.range 6)
  rw [State.switchOff, h]
  exact ⟨x, _, rfl⟩

theorem State.halted_switchOff (s : State) {c : Nat} (hc : c < 6) : (s.switchOff.ctlCore c).halted = true := by
  have hctl : s.switchOff.ctlCore c = ((List.range 6).foldl (fun (s : State) c => s.updCtl c fun x => { x with halted := true }) s).ctlCore c :=
    rfl
  rw [hctl, State.ctlCore_foldl_updCtl s _ List.nodup_range, if_pos (List.mem_range.mpr hc)]

theorem State.banked_effect (s : State) : s.banked.power.state = (if s.power.exitRecorded then 4 else 3) ∧
    s.banked.power.exitRecorded = false ∧ s.banked.power.bankcnt = counted s.power.bankcnt ∧ s.banked.mem = s.mem ∧
    s.banked.groups = s.groups ∧ s.banked.keys = s.keys ∧ s.banked.power.inUse = s.power.inUse ∧
    (∀ c < 6, (s.banked.ctlCore c).halted = true) ∧ (∀ e ∈ s.banked.stations, e.2.state = .down ∧ e.2.channels = []) ∧
    ∀ e ∈ s.banked.cores, e.2.l1 = [] := by
  have hhalt : ∀ c < 6, (s.banked.ctlCore c).halted = true := fun c hc => s.halted_switchOff hc
  obtain ⟨x, u, h⟩ := s.switchOff_frame
  refine ⟨by rw [State.banked, h], rfl, by rw [State.banked, h]; exact countUp_eq_counted _, by rw [State.banked, h],
    by rw [State.banked, h], by rw [State.banked, h], by rw [State.banked, h], hhalt, ?_, ?_⟩
  · rw [State.banked, h]
    intro e he
    obtain ⟨a, -, rfl⟩ := List.mem_map.mp he
    exact ⟨rfl, rfl⟩
  · rw [State.banked, h]
    intro e he
    obtain ⟨a, -, rfl⟩ := List.mem_map.mp he
    rfl

/-! Leaving (R30). -/

theorem State.retrain_frame (s : State) : ∃ x, s.retrain = { s with stations := x } := by
  refine foldl_keeps (fun t : State => ∃ x, t = { s with stations := x }) _ ?_ _ s ⟨_, rfl⟩
  rintro _ n ⟨x, rfl⟩
  exact ⟨_, rfl⟩

theorem State.station_setStation (s : State) (n : Nat) (x : Station) : (s.setStation n x).station n = x := by
  simp [State.station, State.setStation]

theorem State.station_setStation_ne (s : State) {n m : Nat} (x : Station) (h : m ≠ n) : (s.setStation n x).station m = s.station m :=
  Table.get_put_ne _ h _ _

/-- The stations that were up at entry and whose values are held are up again. -/
theorem State.station_retrain (s : State) {n : Nat} (hn : n ∈ s.power.upAtEntry) (hv : ∃ v, (Interface.station n, v) ∈ s.power.inUse) :
    (s.retrain.station n).state = .up := by
  have one (t : State) : ((t.setStation n { t.station n with state := .up }).station n).state = .up := by
    rw [State.station_setStation]
  have kept (t : State) (m : Nat) (h : (t.station n).state = .up) :
      ((t.setStation m { t.station m with state := .up }).station n).state = .up := by
    by_cases hm : n = m
    · subst hm
      exact one t
    · rwa [State.station_setStation_ne _ _ hm]
  have hmem : n ∈ s.power.upAtEntry.filter fun n => s.power.inUse.any fun e => e.1 == .station n := by
    obtain ⟨v, hv⟩ := hv
    exact List.mem_filter.mpr ⟨hn, List.any_eq_true.mpr ⟨_, hv, beq_self_eq_true _⟩⟩
  obtain ⟨as, bs, h⟩ := List.append_of_mem hmem
  rw [State.retrain, h, List.foldl_append, List.foldl_cons]
  exact foldl_keeps (fun t : State => (t.station n).state = .up) _ kept bs _ (one _)

/-- Starts a control core again, unless it has no image or its pair has halted. -/
def State.startAgain (s : State) (c : Nat) : State :=
  if (s.ctlCore c).loaded && !(s.pair (c / 2)).lost then s.updCtl c CtlCore.restart else s

theorem State.foldl_startAgain_frame (s : State) (cs : List Nat) : ∃ x, cs.foldl State.startAgain s = { s with ctl := x } := by
  refine foldl_keeps (fun t : State => ∃ x, t = { s with ctl := x }) _ ?_ cs s ⟨_, rfl⟩
  rintro _ c ⟨x, rfl⟩
  unfold State.startAgain
  split <;> exact ⟨_, rfl⟩

theorem State.foldl_startAgain (s : State) {cs : List Nat} {c : Nat} (hc : c ∈ cs) (hl : (s.ctlCore c).loaded = true)
    (hp : (s.pair (c / 2)).lost = false) :
    ((cs.foldl State.startAgain s).ctlCore c).pc = 0 ∧ ((cs.foldl State.startAgain s).ctlCore c).halted = false := by
  have self (t : State) (h1 : (t.ctlCore c).loaded = true) (h2 : (t.pair (c / 2)).lost = false) :
      (t.startAgain c).ctlCore c = (t.ctlCore c).restart ∧ (t.startAgain c).pairs = t.pairs := by
    rw [State.startAgain, h1, h2, if_pos (by decide), State.ctlCore_updCtl]
    exact ⟨rfl, rfl⟩
  have other (t : State) (d : Nat) (h : c ≠ d) : (t.startAgain d).ctlCore c = t.ctlCore c ∧ (t.startAgain d).pairs = t.pairs := by
    unfold State.startAgain
    split
    · exact ⟨t.ctlCore_updCtl_ne _ h, rfl⟩
    · exact ⟨rfl, rfl⟩
  have ready (t : State) (d : Nat) (h : (t.ctlCore c).loaded = true ∧ (t.pair (c / 2)).lost = false) :
      ((t.startAgain d).ctlCore c).loaded = true ∧ ((t.startAgain d).pair (c / 2)).lost = false := by
    by_cases hd : c = d
    · subst hd
      obtain ⟨hx, he⟩ := self t h.1 h.2
      exact ⟨by rw [hx]; rfl, by rw [State.pair, he]; exact h.2⟩
    · obtain ⟨hx, he⟩ := other t d hd
      exact ⟨by rw [hx]; exact h.1, by rw [State.pair, he]; exact h.2⟩
  have kept (t : State) (d : Nat) (h : ((t.ctlCore c).loaded = true ∧ (t.pair (c / 2)).lost = false) ∧ (t.ctlCore c).pc = 0 ∧
      (t.ctlCore c).halted = false) : (((t.startAgain d).ctlCore c).loaded = true ∧ ((t.startAgain d).pair (c / 2)).lost = false) ∧
      ((t.startAgain d).ctlCore c).pc = 0 ∧ ((t.startAgain d).ctlCore c).halted = false := by
    refine ⟨ready t d h.1, ?_⟩
    by_cases hd : c = d
    · subst hd
      rw [(self t h.1.1 h.1.2).1]
      exact ⟨rfl, rfl⟩
    · rw [(other t d hd).1]
      exact h.2
  obtain ⟨as, bs, rfl⟩ := List.append_of_mem hc
  rw [List.foldl_append, List.foldl_cons]
  have before := foldl_keeps _ State.startAgain ready as s ⟨hl, hp⟩
  refine (foldl_keeps _ State.startAgain kept bs _ ⟨ready _ c before, ?_⟩).2
  rw [(self _ before.1 before.2).1]
  exact ⟨rfl, rfl⟩

theorem bankedExitComplete_waits {s : State} (needs : List (Nat × Nat)) (h : s.power.state ≠ 4) :
    exec (.bankedExitComplete needs) s = .next s := by
  rw [exec_bankedExitComplete, execBankedExitComplete, if_pos (bne_iff_ne.mpr h)]

/-- LEAVING ends ACTIVE, with the links of before, a new plan and the control cores started again. -/
theorem bankedExitComplete_leaving {s : State} (needs : List (Nat × Nat)) (h : s.power.state = 4) :
    ∃ t : State, exec (.bankedExitComplete needs) s = .next t ∧ t.power.state = 1 ∧ Planned s t needs ∧ t.mem = s.mem ∧ t.pairs = s.pairs ∧
      (∀ n ∈ s.power.upAtEntry, (∃ v, (Interface.station n, v) ∈ s.power.inUse) → (t.station n).state = .up) ∧
      ∀ c < 6, (s.ctlCore c).loaded = true → (s.pair (c / 2)).lost = false → (t.ctlCore c).pc = 0 ∧ (t.ctlCore c).halted = false := by
  obtain ⟨x, hx⟩ := s.retrain_frame
  obtain ⟨y, hy⟩ := s.retrain.foldl_startAgain_frame (List.range 6)
  have hrun : exec (.bankedExitComplete needs) s = .next { (List.range 6).foldl State.startAgain s.retrain with
      power := { ((List.range 6).foldl State.startAgain s.retrain).power.plan (marginPlan needs) with state := 1 } } := by
    rw [exec_bankedExitComplete, execBankedExitComplete, h, bne_self_eq_false, if_neg Bool.false_ne_true]
    rfl
  have hup {n : Nat} := s.station_retrain (n := n)
  have hstart {c : Nat} (hc : c ∈ List.range 6) := s.retrain.foldl_startAgain hc
  generalize (List.range 6).foldl State.startAgain s.retrain = u at hy hrun hstart
  generalize s.retrain = r at hx hy hup hstart
  subst hy hx
  exact ⟨_, hrun, rfl, planned_of_plan rfl rfl, rfl, rfl, fun n => hup, fun c hc => hstart (List.mem_range.mpr hc)⟩

/-- 01 R17, R28-R31. -/
theorem bankingKeepsMemory : BankingKeepsMemory := by
  refine ⟨fun s => enterBanked_inactive, fun s h hq => ?enter, leaveBanked_cases, fun s => bankedEntryComplete_waits,
    fun s h hq hg hn hr => ⟨_, bankedEntryComplete_quiet h hq hg hn hr, s.banked_effect⟩,
    fun s needs => ⟨bankedExitComplete_waits needs, bankedExitComplete_leaving needs⟩⟩
  case enter =>
    obtain ⟨t, hrun, hp, hm, hstop⟩ := enterBanked_active h hq
    refine ⟨t, hrun, hp, hm, fun g hr hd => ?_⟩
    obtain ⟨-, -, hnone, htrap⟩ := hstop g hr hd
    exact ⟨hnone, htrap⟩

end Sys2Proof.Machine

/-! PROOFS. The statements of package reset, the boot phases, the banked state and every event of boot and upkeep. -/

namespace Sys2Proof

open Machine Claims

/-- Settles O45: package reset, the boot phases one by one, and entering and leaving the banked state. -/
theorem resetBootAndBanking : Obligations.ResetBootAndBanking :=
  ⟨packageResets, bootGoesByPhases, bankingKeepsMemory⟩

/-- Settles O4: every event's effect follows from what the three families above say of it. -/
theorem bootEventsComplete : Obligations.BootEventsComplete := by
  obtain ⟨hreset, hlife⟩ := packageResets
  obtain ⟨-, hphase, hpcie⟩ := bootGoesByPhases
  obtain ⟨hmeas, hspdm⟩ := measurementsAndAnswers
  obtain ⟨hcap, hthermal, hwear⟩ := powerAndWear
  obtain ⟨hbeat, htakeover, -, htick, hreload, hrestart⟩ := controlCoresFailOver
  refine fun s => ⟨?reset, fun r h6 ha hl ht => ?life, fun h0 hp => ?first, fun h0 hp => ?last, hpcie s,
    fun n d hn h6 => (hmeas s n d).2 hn h6, fun n h1 h16 hd h6 => ?block, fun h hw hv hc => ?enter, (leaveBanked_cases s).1,
    fun h hw hv hc hg hr => ?bank, fun needs h => ?leave, hcap s, fun d h => ?thermal, (hwear s).1, (hwear s).2,
    fun c hc ha hh => ?beat, fun p hp h hs => ?takeover, ?tick, fun c im hc hl ha hp hr h6 he => ?reload, fun i h6 hd hv => ?restart⟩
  case reset =>
    obtain ⟨t, hrun, hmem, hvds, hgroups, -, -, hstate, hphase, -, hpf, -, -, -, -, htrain, -⟩ := hreset s
    exact ⟨t, hrun, hstate, hphase, hvds, hgroups, hpf, htrain, fun o ho => ⟨hmem.2 o ho, hmem.1 o ho⟩⟩
  case life =>
    obtain ⟨t, hrun, -, hstate, htrain, hlc, -⟩ := (hlife s r).2 h6 ha (by rw [hl, ht]; exact .out)
    exact ⟨t, hrun, hlc.trans ht, htrain, hstate⟩
  case first =>
    obtain ⟨t, hrun, hph, -⟩ := (hphase s h0 (by simp [hp])).1 (by simp [hp])
    exact ⟨t, hrun, hph.trans (by rw [hp]; rfl)⟩
  case last =>
    obtain ⟨-, -, -, -, -, -, hstart⟩ := hphase s h0 (by simp [hp])
    obtain ⟨t, hrun, -, -, hstate⟩ := hstart (by simp [hp])
    exact ⟨t, hrun, hstate⟩
  case block =>
    obtain ⟨a, hrun, -, -, hup⟩ := hspdm s (.getMeasurements n)
    obtain ⟨-, hblock, -⟩ := hup hd h6
    have hb := hblock n rfl
    rw [if_pos ⟨h1, h16⟩] at hb
    obtain ⟨x, rfl⟩ := hb
    exact ⟨x, hrun⟩
  case enter =>
    obtain ⟨t, hrun, hp, hm, -⟩ := enterBanked_active h ⟨hw, hv, hc⟩
    exact ⟨t, hrun, by rw [hp], hm⟩
  case bank =>
    obtain ⟨hstate, -, hcnt, hm, -⟩ := s.banked_effect
    exact ⟨_, bankedEntryComplete_quiet h ⟨hw, hv, hc⟩ (by simp [hg]) (by simp [hg]) hr, hstate, hm, hcnt⟩
  case leave =>
    obtain ⟨t, hrun, hstate, -, hm, -⟩ := bankedExitComplete_leaving needs h
    exact ⟨t, hrun, hstate, hm⟩
  case thermal =>
    obtain ⟨t, hrun, ht, hnone, -⟩ := hthermal s d
    rw [hrun, ht, hnone h]
  case beat =>
    obtain ⟨t, hrun, hhalt, hcause, hpeer, -⟩ := (hbeat s c hc).1 ha hh
    exact ⟨t, hrun, hhalt, hcause, hpeer⟩
  case takeover =>
    obtain ⟨t, hrun, -, -, -, hdone⟩ := htakeover s p (2 * p) hp (.inl rfl) h
    obtain ⟨htaken, -, hold, hpeer, -⟩ := hdone hs
    rw [if_pos rfl] at hpeer
    obtain ⟨hnew, -, hcore⟩ := hpeer
    exact ⟨t, hrun, htaken, hcore.trans (decide_eq_true (by omega)), hnew, hold⟩
  case tick =>
    obtain ⟨t, hrun, hall, -⟩ := htick s
    exact ⟨t, hrun, hall⟩
  case reload =>
    obtain ⟨t, hrun, hstandby, -, hloaded, -, hpc, -⟩ := (hreload s c im hc hl ha hp hr h6).1 he
    exact ⟨t, hrun, hstandby, hloaded, hpc⟩
  case restart =>
    obtain ⟨t, hrun, hloaded, hhalt, hpc, -⟩ := (hrestart s i h6 hd).2 hv
    exact ⟨t, hrun, hloaded, hpc, hhalt⟩

end Sys2Proof

/-! PROOFS. What it means that the machine goes on and keeps its memory in canonical form. `Keeps s t` is a relation between the state a
step starts in and one on the way, so that one lemma for each function of the model, `Keeps.f`, says that the function keeps it, and the
lemmas chain as the functions do: `h.setSreg.advance`. Memory changes in `State.writeByte` and where bytes are taken out of it; everywhere
else it is `Keeps.upd`. -/

namespace Sys2Proof.Machine

/-- The memory of `t` is in canonical form when that of `s` is. -/
def Keeps (s t : State) : Prop := Memory.wf s.mem = true → Memory.wf t.mem = true

/-- From `s` the machine goes on, with its memory in canonical form when that of `s` is. -/
inductive Goes (s : State) : Res → Prop where
  | next {t : State} (h : Keeps s t) : Goes s (.next t)

section
variable {s t : State}

theorem Keeps.refl (s : State) : Keeps s s := id

theorem Goes.exists_next {r : Res} (g : Goes s r) : ∃ u, r = .next u ∧ Keeps s u := by
  obtain ⟨h⟩ := g
  exact ⟨_, rfl, h⟩

theorem Goes.keeps {r : Res} {u : State} (g : Goes s r) (e : r = .next u) : Keeps s u := by
  obtain ⟨v, rfl, h⟩ := g.exists_next
  cases e
  exact h

theorem Goes.ne_fault {r : Res} {f : Fault} (g : Goes s r) : r ≠ .fault f := by
  rintro rfl
  cases g

theorem Goes.ne_refused {r : Res} {f : Refusal} (g : Goes s r) : r ≠ .refused f := by
  rintro rfl
  cases g

/-- A state with the same memory. -/
theorem Keeps.upd {u : State} (h : Keeps s t) (e : u.mem = t.mem) : Keeps s u := fun hs => e ▸ h hs

/-- Bytes taken out of memory. -/
theorem Keeps.filter (h : Keeps s t) {u : State} {p : Host.Cell → Bool} (e : u.mem = t.mem.filter p) : Keeps s u := fun hs =>
  e ▸ Memory.wf_filter _ _ (h hs)

theorem Keeps.ite {u : State} {c : Prop} [Decidable c] (ht : Keeps s t) (hu : Keeps s u) : Keeps s (if c then t else u) := by
  split
  · exact ht
  · exact hu

/-- A fold keeps what each of its steps keeps. -/
theorem Keeps.foldl {α : Type} {f : State → α → State} {l : List α} (h : Keeps s t) (hf : ∀ u a, Keeps s u → Keeps s (f u a)) :
    Keeps s (l.foldl f t) :=
  foldl_keeps (Keeps s) f hf l t h

theorem Keeps.foldl_snd {α β : Type} {f : β × State → α → β × State} {l : List α} {x : β × State} (h : Keeps s x.2)
    (hf : ∀ y a, Keeps s y.2 → Keeps s (f y a).2) : Keeps s (l.foldl f x).2 :=
  foldl_keeps (fun y : β × State => Keeps s y.2) f hf l x h

theorem Keeps.getD {o : Option State} (h : Keeps s t) (ho : ∀ u, o = some u → Keeps s u) : Keeps s (o.getD t) := by
  cases o with
  | none => exact h
  | some u => exact ho u rfl

/-- The state of an answer that is a pair, or a triple. -/
theorem Keeps.snd {α : Type} {x : α × State} {a : α} {u : State} (h : Keeps s x.2) (e : x = (a, u)) : Keeps s u := by
  rw [e] at h
  exact h

theorem Keeps.thd {α β : Type} {x : α × β × State} {a : α} {b : β} {u : State} (h : Keeps s x.2.2) (e : x = (a, b, u)) :
    Keeps s u := by
  rw [e] at h
  exact h

/-- The state at the end of a fold that carries a result beside the state, or two. -/
theorem Keeps.ofFoldl {α β : Type} {f : β × State → α → β × State} {l : List α} {x : β × State} {b : β} {u : State}
    (e : l.foldl f x = (b, u)) (h : Keeps s x.2) (hf : ∀ y a, Keeps s y.2 → Keeps s (f y a).2) : Keeps s u :=
  (h.foldl_snd hf).snd e

theorem Keeps.ofFoldl₂ {α β γ : Type} {f : β × γ × State → α → β × γ × State} {l : List α} {x : β × γ × State} {b : β} {c : γ}
    {u : State} (e : l.foldl f x = (b, c, u)) (h : Keeps s x.2.2) (hf : ∀ y a, Keeps s y.2.2 → Keeps s (f y a).2.2) : Keeps s u :=
  Keeps.thd (foldl_keeps (fun y : β × γ × State => Keeps s y.2.2) f hf l x h) e

/-- A pair with the state first. -/
theorem Keeps.fst {α : Type} {x : State × α} {a : α} {u : State} (h : Keeps s x.1) (e : x = (u, a)) : Keeps s u := by
  rw [e] at h
  exact h

theorem Keeps.foldl_fst {α β : Type} {f : State × β → α → State × β} {l : List α} {x : State × β} (h : Keeps s x.1)
    (hf : ∀ y a, Keeps s y.1 → Keeps s (f y a).1) : Keeps s (l.foldl f x).1 :=
  foldl_keeps (fun y : State × β => Keeps s y.1) f hf l x h

/-- The state of a pair that is one of two. -/
theorem Keeps.ofIte {α : Type} {c : Prop} [Decidable c] {x y : α × State} {a : α} {u : State} (e : (if c then x else y) = (a, u))
    (hx : Keeps s x.2) (hy : Keeps s y.2) : Keeps s u := by
  split at e
  · exact hx.snd e
  · exact hy.snd e

/-- A fold that stops once a step of it fails: what holds at first, and is kept by each step that goes on, holds at the end. -/
theorem foldl_bind_keeps {α β : Type} (P : β → Prop) {g : β → α → Option β} {l : List α} {x z : β} (h : P x)
    (hg : ∀ y a w, P y → g y a = some w → P w) (e : l.foldl (fun o a => o.bind fun y => g y a) (some x) = some z) : P z := by
  refine foldl_keeps (fun o : Option β => ∀ w, o = some w → P w) _ (fun o a ho w hw => ?_) l (some x) (fun w hw => ?_) z e
  · obtain ⟨y, hy, hyw⟩ := Option.bind_eq_some_iff.mp hw
    exact hg y a w (ho y hy) hyw
  · cases hw
    exact h

end

end Sys2Proof.Machine

/-! PROOFS. Canonical memory is kept by the shared operations: registers, translation, accesses and traps. -/

namespace Sys2Proof.Machine

section
variable {s t : State}

/-! Agents and their registers, bytes, poison, events and traps. -/

theorem Keeps.setVd (h : Keeps s t) {n v} : Keeps s (t.setVd n v) := h.upd rfl

theorem Keeps.updVd (h : Keeps s t) {n f} : Keeps s (t.updVd n f) := h.setVd

theorem Keeps.setQueue (h : Keeps s t) {q v} : Keeps s (t.setQueue q v) := h.upd rfl

theorem Keeps.updQueue (h : Keeps s t) {q f} : Keeps s (t.updQueue q f) := h.setQueue

theorem Keeps.setGroup (h : Keeps s t) {g v} : Keeps s (t.setGroup g v) := h.upd rfl

theorem Keeps.updGroup (h : Keeps s t) {g f} : Keeps s (t.updGroup g f) := h.setGroup

theorem Keeps.setWarp (h : Keeps s t) {g w v} : Keeps s (t.setWarp g w v) := h.updGroup

theorem Keeps.updWarp (h : Keeps s t) {g w f} : Keeps s (t.updWarp g w f) := h.setWarp

theorem Keeps.setStoker (h : Keeps s t) {g v} : Keeps s (t.setStoker g v) := h.updGroup

theorem Keeps.setGrid (h : Keeps s t) {n v} : Keeps s (t.setGrid n v) := h.upd rfl

theorem Keeps.updGrid (h : Keeps s t) {n f} : Keeps s (t.updGrid n f) := h.setGrid

theorem Keeps.setCore (h : Keeps s t) {c v} : Keeps s (t.setCore c v) := h.upd rfl

theorem Keeps.updCore (h : Keeps s t) {c f} : Keeps s (t.updCore c f) := h.setCore

theorem Keeps.setCtl (h : Keeps s t) {c v} : Keeps s (t.setCtl c v) := h.upd rfl

theorem Keeps.updCtl (h : Keeps s t) {c f} : Keeps s (t.updCtl c f) := h.setCtl

theorem Keeps.setPair (h : Keeps s t) {p v} : Keeps s (t.setPair p v) := h.upd rfl

theorem Keeps.updPair (h : Keeps s t) {p f} : Keeps s (t.updPair p f) := h.setPair

theorem Keeps.setAgent (h : Keeps s t) {a v} : Keeps s (t.setAgent a v) := by
  unfold State.setAgent
  split
  · exact h.updWarp
  · exact h.setStoker
  · exact h.updCtl

theorem Keeps.updAgent (h : Keeps s t) {a f} : Keeps s (t.updAgent a f) := h.setAgent

theorem Keeps.setSreg (h : Keeps s t) {r v} : Keeps s (t.setSreg r v) := h.updAgent

theorem Keeps.setPcOf (h : Keeps s t) {a pc} : Keeps s (t.setPcOf a pc) := by
  unfold State.setPcOf
  split
  · exact h.updWarp
  · exact h.setStoker
  · exact h.updCtl

theorem Keeps.setPc (h : Keeps s t) {pc} : Keeps s (t.setPc pc) := h.setPcOf

theorem Keeps.advance (h : Keeps s t) {len} : Keeps s (t.advance len) := h.setPc

theorem Keeps.writeNext (h : Keeps s t) {len sd v} : Keeps s (t.writeNext len sd v) := h.setSreg.advance

theorem Keeps.writeByte (h : Keeps s t) {l b} : Keeps s (t.writeByte l b) := fun hs => State.wf_writeByte _ _ _ (h hs)

theorem Keeps.setPoison (h : Keeps s t) {l p} : Keeps s (t.setPoison l p) := by
  unfold State.setPoison
  split
  · split
    exact h.updWarp
  · exact h.upd rfl

theorem Keeps.markDirty (h : Keeps s t) {l} : Keeps s (t.markDirty l) := by
  unfold State.markDirty
  split
  · exact .ite h h.updGroup
  · exact h

theorem Keeps.performWrites (h : Keeps s t) {ws} : Keeps s (t.performWrites ws) :=
  (h.foldl fun _ _ h1 => h1.writeByte.markDirty).foldl fun _ _ h2 => Keeps.ite h2 h2.setPoison

theorem Keeps.store (h : Keeps s t) {l bs} : Keeps s (t.store l bs) := h.performWrites

theorem Keeps.fresh (h : Keeps s t) : Keeps s t.fresh.2 := h.upd rfl

theorem Keeps.addOp (h : Keeps s t) {a c w} : Keeps s (t.addOp a c w).2 := by
  unfold State.addOp
  split
  · next e => exact (h.fresh.snd e).updAgent

theorem Keeps.setWork (h : Keeps s t) {a n w} : Keeps s (t.setWork a n w) := h.updAgent

theorem Keeps.send (h : Keeps s t) {m} : Keeps s (t.send m) := h.upd rfl

theorem Keeps.logEvent (h : Keeps s t) {code vd} : Keeps s (t.logEvent code vd) := h.send

theorem Keeps.drawFree (h : Keeps s t) : Keeps s t.drawFree.2 := h.upd rfl

theorem Keeps.newError (h : Keeps s t) {unit cause peer} : Keeps s (t.newError unit cause peer).2 := by
  unfold State.newError
  extract_lets
  exact h.upd rfl

theorem Keeps.pairTurn (h : Keeps s t) {g} : Keeps s (t.pairTurn g).2 := by
  unfold State.pairTurn
  split
  · exact h.upd rfl
  · exact h

theorem Keeps.countPair (h : Keeps s t) {vd d} : Keeps s (t.countPair vd d) := .ite h h.updVd

theorem Keeps.pairTag (h : Keeps s t) {unit d} : Keeps s (t.pairTag unit d).2 := by
  unfold State.pairTag
  split
  · exact h
  · split
    · next e => exact h.newError.snd e

theorem Keeps.securityCheck (h : Keeps s t) {code} : Keeps s (t.securityCheck code) := (h.upd (by rfl)).updCtl.send

theorem Keeps.machineCheck (h : Keeps s t) {c code} : Keeps s (t.machineCheck c code) := by
  unfold State.machineCheck
  extract_lets _ _ t1 t2
  have h2 : Keeps s t2 := h.updPair.updCtl
  split
  · exact h.securityCheck
  · split
    · exact .ite h2.updPair h2.updPair.send
    · exact h2.updPair.updCtl

theorem Keeps.haltBroadcast (h : Keeps s t) {g} : Keeps s (t.haltBroadcast g) := by
  unfold State.haltBroadcast
  split
  · exact h
  · exact h.updGroup

theorem Keeps.holdTrap (h : Keeps s t) {a op c prov t'} : Keeps s (t.holdTrap a op c prov t') := by
  unfold State.holdTrap
  split
  · exact .ite h.updGroup (Keeps.ite h h.haltBroadcast).updWarp
  · exact h.updGroup
  · exact h.machineCheck

theorem Keeps.trapWith (h : Keeps s t) {c second prov lanes lanes2 addr replay} :
    Keeps s (t.trapWith c second prov lanes lanes2 addr replay) :=
  h.holdTrap

theorem Keeps.trapAt (h : Keeps s t) {c addr} : Keeps s (t.trapAt c addr) := h.trapWith

theorem Keeps.trap (h : Keeps s t) {c} : Keeps s (t.trap c) := h.trapAt

/-! Nested translation (12 R292-R303). -/

theorem Keeps.lookaside (h : Keeps s t) : Keeps s t.lookaside.2 := h.upd rfl

theorem Keeps.keepCached (h : Keeps s t) {site c} : Keeps s (t.keepCached site c) := h.upd rfl

theorem Keeps.keepWalk (h : Keeps s t) {site e'} : Keeps s (t.keepWalk site e') := h.upd rfl

theorem Keeps.recordLines (h : Keeps s t) {site ls} : Keeps s (t.recordLines site ls) := h.upd rfl

theorem Keeps.invalidate (h : Keeps s t) {ls} : Keeps s (t.invalidate ls) := h.upd rfl

theorem Keeps.forgetVd (h : Keeps s t) {vd} : Keeps s (t.forgetVd vd) := h.upd rfl

theorem Keeps.markLeaf (h : Keeps s t) {l e' write} : Keeps s (t.markLeaf l e' write) := .ite h h.writeByte

theorem Keeps.stage2Walk (h : Keeps s t) {site use vd pa n marksD} : Keeps s (t.stage2Walk site use vd pa n marksD).2.2 := by
  unfold State.stage2Walk
  extract_lets _ _ t1 t2
  have h1 : Keeps s t1 := h.recordLines
  have h2 : Keeps s t2 := .ite (h1.foldl fun _ _ h3 => h3.keepWalk) h1
  split
  · exact h
  · split
    · exact h2.logEvent
    · exact h2
    · extract_lets _ t3
      have h3 : Keeps s t3 := h2.markLeaf
      exact h3

theorem Keeps.stage2 (h : Keeps s t) {vd pa n} : Keeps s (t.stage2 vd pa n).2 := by
  unfold State.stage2
  split
  · next e =>
      have h1 := h.lookaside.snd e
      split
      · exact h1
      · split
        · next e1 => exact h1.stage2Walk.thd e1
        · next e1 =>
            have h2 := h1.stage2Walk.thd e1
            extract_lets
            exact .ite h2.keepCached h2

theorem Keeps.tableWord (h : Keeps s t) {site use vd pa} : Keeps s (t.tableWord site use vd pa).2.2 := by
  unfold State.tableWord
  split
  · exact h
  · split
    · next e => exact h.stage2Walk.thd e
    · next e => exact h.stage2Walk.thd e
    · next e =>
        have h1 := h.stage2Walk.thd e
        extract_lets
        split
        · exact h1.recordLines
        · exact h1.logEvent

theorem Keeps.walkStage1 (h : Keeps s t) {site use vd va lvl table} : Keeps s (Machine.walkStage1 site use vd va lvl table t).2.2 := by
  induction lvl generalizing t table with
  | zero => exact h
  | succ lvl ih =>
    unfold Machine.walkStage1
    extract_lets
    split
    · next e => exact h.tableWord.thd e
    · next e =>
        have hu := h.tableWord.thd e
        split
        · exact hu
        · split
          · exact hu
          · split
            · exact hu
            · exact ih (.ite hu.keepWalk hu)

theorem Keeps.translate (h : Keeps s t) {site vd root va n} : Keeps s (t.translate site vd root va n).2 := by
  unfold State.translate
  split
  · next e =>
      have h1 := h.lookaside.snd e
      split
      · exact h1
      · split
        · next e1 => exact h1.walkStage1.thd e1
        · next e1 =>
            extract_lets _ _ t1
            have h2 : Keeps s t1 := (h1.walkStage1.thd e1).markLeaf
            split
            · exact h2
            · split
              · next e2 => exact h2.stage2Walk.thd e2
              · next e2 => exact h2.stage2Walk.thd e2
              · next e2 =>
                  have h3 := h2.stage2Walk.thd e2
                  split
                  · exact h3
                  · extract_lets
                    exact .ite h3.keepCached h3

/-! Ownership, ordering points and tracked stores (13 R319-R327). -/

theorem Keeps.acquireCore (h : Keeps s t) {c} : Keeps s (t.acquireCore c) := h.updCore

theorem Keeps.acquire (h : Keeps s t) {a} : Keeps s (t.acquire a) := by
  unfold State.acquire
  split
  · exact h.acquireCore
  · exact h

theorem Keeps.ownWords (h : Keeps s t) {a ws} : Keeps s (t.ownWords a ws) := by
  unfold State.ownWords
  split
  · exact h.upd rfl
  · exact h.upd rfl

theorem Keeps.performBy (h : Keeps s t) {a ws} : Keeps s (t.performBy a ws) := h.ownWords.performWrites

theorem Keeps.performOutside (h : Keeps s t) {ws} : Keeps s (t.performOutside ws) := (h.upd (by rfl)).performWrites

theorem Keeps.revoke (h : Keeps s t) {at_ n} : Keeps s (t.revoke at_ n) := h.upd rfl

theorem Keeps.orderOp (h : Keeps s t) {a o} : Keeps s (t.orderOp a o) := by
  unfold State.orderOp
  split
  · exact .ite (.ite h.setWork h) h.performBy.setWork
  · exact h

theorem Keeps.flushOverlap (h : Keeps s t) {a ks} : Keeps s (t.flushOverlap a ks) := h.foldl fun _ _ h1 => h1.orderOp

theorem Keeps.flushBefore (h : Keeps s t) {a id ks host} : Keeps s (t.flushBefore a id ks host) :=
  h.foldl fun _ _ h1 => h1.orderOp

theorem Keeps.orderStore (h : Keeps s t) {a id} : Keeps s (t.orderStore a id) := by
  unfold State.orderStore
  split
  · exact h.flushBefore.orderOp
  · exact h

theorem Keeps.flushAgents (h : Keeps s t) : Keeps s t.flushAgents :=
  h.foldl fun _ _ h1 => h1.foldl fun _ _ h2 => h2.orderOp

theorem Keeps.retranslate (h : Keeps s t) {ls} : Keeps s (t.retranslate ls) := .ite h h.invalidate.flushAgents

theorem Keeps.engineStore (h : Keeps s t) {ws} : Keeps s (t.engineStore ws) := h.performOutside.retranslate

theorem Keeps.engineStoreBy (h : Keeps s t) {a ws} : Keeps s (t.engineStoreBy a ws) := h.performBy.retranslate

/-! Interrupts (02 R73, R74). -/

theorem Keeps.setIrt (h : Keeps s t) {n e'} : Keeps s (t.setIrt n e') := h.upd rfl

theorem Keeps.deliverMsix (h : Keeps s t) {vd} : Keeps s (t.deliverMsix vd) := h.foldl fun _ _ h1 => h1.updVd.send

theorem Keeps.sendVector (h : Keeps s t) {owner vec n} : Keeps s (t.sendVector owner vec n) := by
  induction n generalizing t with
  | zero => exact h
  | succ n ih => exact ih h.updVd.deliverMsix

theorem Keeps.flushIrt (h : Keeps s t) {n} : Keeps s (t.flushIrt n) :=
  .ite h (.ite h.setIrt.sendVector (.ite h.setIrt.sendVector h))

theorem Keeps.interrupt (h : Keeps s t) {entry source} : Keeps s (t.interrupt entry source) :=
  .ite h.logEvent h.setIrt.flushIrt

/-! Where an access finds its bytes (09 R230-R244). -/

theorem Keeps.logCrossingAt (h : Keeps s t) {d vd} : Keeps s (t.logCrossingAt d vd) :=
  .ite (h.upd (by rfl)).send (h.upd rfl)

theorem Keeps.logCrossing (h : Keeps s t) {a} : Keeps s (t.logCrossing a) := h.logCrossingAt

theorem Keeps.place (h : Keeps s t) {a t' n need} : Keeps s (t.place a t' n need).2 := by
  unfold State.place
  split
  · exact h
  · split
    · split
      · exact h.logCrossing
      · exact h
    · exact h
  · split
    · exact h
    · split
      · next e =>
          have h1 := h.translate.snd e
          split
          · exact h1.logCrossing
          · exact h1
      · next e => exact h.translate.snd e
      · next e => exact h.translate.snd e
      · next e => exact h.translate.snd e

theorem Keeps.dropCopies (h : Keeps s t) {a l n} : Keeps s (t.dropCopies a l n) := by
  unfold State.dropCopies
  split
  · exact h.updCore
  · exact h

theorem Keeps.keepCopies (h : Keeps s t) {a l n} : Keeps s (t.keepCopies a l n) := by
  unfold State.keepCopies
  split
  · exact h.updCore
  · exact h

theorem Keeps.l1Turn (h : Keeps s t) {a l} : Keeps s (t.l1Turn a l).2 := by
  unfold State.l1Turn
  split
  · exact h.upd rfl
  · exact h

theorem Keeps.loadTurn (h : Keeps s t) {a l n tagged} : Keeps s (t.loadTurn a l n tagged).2 := by
  unfold State.loadTurn
  split
  · next e =>
      have h1 := h.l1Turn.snd e
      exact .ite h1 h1.dropCopies

/-! The checks before an effect (07 R197). -/

/-- A check that an instruction passes through on the way to what it does. -/
theorem Keeps.checked (h : Keeps s t) {f k} (hk : ∀ u, Keeps s u → Goes s (k u)) : Goes s (Machine.checked f t k) := by
  unfold Machine.checked
  split
  · exact .next h.trap
  · split
    · exact .next h.trapWith
    · exact hk t h

end

end Sys2Proof.Machine

/-! PROOFS. Canonical memory is kept by lane and branch instructions, remote accesses, memory, synchronisation and feed queues. -/

namespace Sys2Proof.Machine

section
variable {s t : State}

/-! Lane instructions (08 R203, R222). -/

theorem Keeps.finishLanes (h : Keeps s t) {len bad prov} : Keeps s (t.finishLanes len bad prov) :=
  .ite h.advance h.trapWith

theorem Keeps.pairLanes (h : Keeps s t) {g m} : Keeps s (t.pairLanes g m).2 := by
  unfold State.pairLanes
  split
  · next e =>
      extract_lets
      split
      · next e1 => exact (h.pairTurn.snd e).countPair.pairTag.snd e1

theorem Keeps.laneOp (h : Keeps s t) {len p pneg poison f} : Goes s (laneOp len p pneg poison f t) := by
  unfold Machine.laneOp
  split
  · extract_lets
    split
    · next e =>
        extract_lets
        exact .next (h.pairLanes.snd e).setWarp.finishLanes
  · exact .next h.trap

theorem Keeps.laneV (h : Keeps s t) {f o k} : Goes s (laneV f o t k) := h.checked fun _ h1 => h1.laneOp

/-! Control flow (07 R184-R186). -/

theorem Keeps.branchIf (h : Keeps s t) {len off c} : Keeps s (t.branchIf len off c) := h.setPc

theorem Keeps.uniformOp (h : Keeps s t) {len fn o} : Goes s (uniformOp len fn o t) :=
  h.checked fun _ h1 => .next h1.branchIf

theorem Keeps.callOp (h : Keeps s t) {len o} : Goes s (callOp len o t) := h.checked fun _ h1 => .next h1.setSreg.setPc

theorem Keeps.jumpTo (h : Keeps s t) {v k} (hk : ∀ u, Keeps s u → Keeps s (k u)) : Keeps s (t.jumpTo v k) :=
  .ite h.trapAt (hk t h).setPc

theorem Keeps.jumpOp (h : Keeps s t) {len fn o} : Goes s (jumpOp len fn o t) :=
  h.checked fun _ h1 => .next (h1.jumpTo fun _ h2 => h2)

theorem Keeps.callrOp (h : Keeps s t) {len o} : Goes s (callrOp len o t) :=
  h.checked fun _ h1 => .next (h1.jumpTo fun _ h2 => h2.setSreg)

theorem Keeps.brpOp (h : Keeps s t) {len o} : Goes s (brpOp len o t) := by
  unfold Machine.brpOp
  refine h.checked fun _ h1 => ?_
  split
  · extract_lets
    split
    · exact .next h1.trapWith
    · exact .next h1.setWarp
  · exact .next h1.trap

theorem Keeps.loopOp (h : Keeps s t) {len o} : Goes s (loopOp len o t) := by
  unfold Machine.loopOp
  refine h.checked fun _ h1 => ?_
  extract_lets
  exact .next h1.setSreg.branchIf

/-! Floating-point lane instructions (08 R209-R213). -/

theorem Keeps.vfltOp (h : Keeps s t) {len fn o} : Goes s (vfltOp len fn o t) := h.laneV

theorem Keeps.fcmpOp (h : Keeps s t) {len o} : Goes s (fcmpOp len o t) := h.laneV

theorem Keeps.fclassOp (h : Keeps s t) {len o} : Goes s (fclassOp len o t) := h.laneV

/-! Conversion (08 R218-R221). -/

theorem Keeps.cvtOp (h : Keeps s t) {len o} : Goes s (cvtOp len o t) := h.laneV

theorem Keeps.packOp (h : Keeps s t) {len o} : Goes s (packOp len o t) := h.laneV

theorem Keeps.unpackOp (h : Keeps s t) {len o} : Goes s (unpackOp len o t) := h.laneV

theorem Keeps.mxscaleOp (h : Keeps s t) {len o} : Goes s (mxscaleOp len o t) := by
  unfold Machine.mxscaleOp
  extract_lets
  exact h.checked fun _ h1 => h1.laneOp

/-! Remote requests and the write-combining buffer (15 R357-R366). -/

theorem Keeps.setStation (h : Keeps s t) {n v} : Keeps s (t.setStation n v) := h.upd rfl

theorem Keeps.updStation (h : Keeps s t) {n f} : Keeps s (t.updStation n f) := h.setStation

theorem Keeps.setChannel (h : Keeps s t) {n peer c} : Keeps s (t.setChannel n peer c) := h.updStation

theorem Keeps.meterLink (h : Keeps s t) {vd n} : Keeps s (t.meterLink vd n) := h.updVd

theorem Keeps.meterHbm (h : Keeps s t) {vd n} : Keeps s (t.meterHbm vd n) := h.updVd

theorem Keeps.flushChannel (h : Keeps s t) {n peer} : Keeps s (t.flushChannel n peer) := by
  unfold State.flushChannel
  split
  exact h.setChannel.foldl fun _ _ h1 => h1.send

theorem Keeps.transmit (h : Keeps s t) {n peer c} : Keeps s (t.transmit n peer c) :=
  .ite h.setChannel.flushChannel h.send

theorem Keeps.sendOut (h : Keeps s t) {r} : Keeps s (t.sendOut r) := .ite h (.ite (h.upd (by rfl)).transmit h)

theorem Keeps.sendUnder (h : Keeps s t) {e' vd off kind use} : Keeps s (t.sendUnder e' vd off kind use).2 := by
  unfold State.sendUnder
  split
  · next e =>
      extract_lets _ _ _ t1
      have h1 : Keeps s t1 := (h.fresh.snd e).upd rfl
      exact .ite h1 h1.sendOut.meterLink

theorem Keeps.sendRemote (h : Keeps s t) {vd off kind use} : Keeps s (t.sendRemote vd off kind use).2 := h.sendUnder

theorem Keeps.sendEntry (h : Keeps s t) {core e'} : Keeps s (t.sendEntry core e') := by
  unfold State.sendEntry
  extract_lets t1
  have h1 : Keeps s t1 := h.updCore
  split
  · next e => exact (h1.sendUnder.snd e).foldl fun _ _ h2 => h2.updAgent

theorem Keeps.sendEntries (h : Keeps s t) {core f} : Keeps s (t.sendEntries core f) :=
  h.foldl fun _ _ h1 => h1.sendEntry

theorem Keeps.sendVd (h : Keeps s t) {core vd} : Keeps s (t.sendVd core vd) := h.sendEntries

theorem Keeps.drainFor (h : Keeps s t) {a} : Keeps s (t.drainFor a) := by
  unfold State.drainFor
  split
  · exact h.sendEntries
  · exact h

theorem Keeps.combineStore (h : Keeps s t) {a op vd off bs} : Keeps s (t.combineStore a op vd off bs).2 := by
  unfold State.combineStore
  extract_lets _ _ _ _ t1 found t2
  have h1 : Keeps s t1 := h.sendEntries
  have h2 : Keeps s t2 := by
    unfold t2
    split
    · exact .ite h1.sendEntry h1
    · exact h1
  clear_value t2 found
  cases found with
  | none => exact h2.fresh.updCore
  | some e => exact h2.updCore

theorem Keeps.flushFull (h : Keeps s t) {core} : Keeps s (t.flushFull core) := h.sendEntries

theorem Keeps.sendAllEntries (h : Keeps s t) : Keeps s t.sendAllEntries := h.foldl fun _ _ h1 => h1.sendEntries

theorem Keeps.receivedTag (h : Keeps s t) {station p} : Keeps s (t.receivedTag station p).2 := by
  unfold State.receivedTag
  split
  · exact h
  · split
    · exact h
    · split
      · next e => exact h.newError.snd e

theorem Keeps.receivedBytes (h : Keeps s t) {station bs} : Keeps s (t.receivedBytes station bs).2 := by
  unfold State.receivedBytes
  split
  · exact h
  · split
    · next e => exact h.receivedTag.snd e

theorem Keeps.serveAt (h : Keeps s t) {station l kind} : Keeps s (t.serveAt station l kind).2 := by
  unfold State.serveAt
  split
  · exact h
  · split
    · next e => exact (h.receivedTag.snd e).engineStore
  · extract_lets
    split
    · exact h
    · split
      · exact h
      · exact h.engineStore

theorem Keeps.serve (h : Keeps s t) {r} : Keeps s (t.serve r).2 := by
  unfold State.serve
  split
  · exact h
  · split
    · next e =>
        have h1 := h.stage2.snd e
        split
        · exact h1
        · extract_lets t1
          have h2 : Keeps s t1 := .ite h1.meterHbm h1
          split
          · next e1 => exact h2.serveAt.snd e1
    · next e => split <;> exact h.stage2.snd e
    · next e => exact h.stage2.snd e

/-! Fault records (12 R312). -/

theorem Keeps.ringWrite (h : Keeps s t) {vd} : Keeps s (t.ringWrite vd).2 := by
  unfold State.ringWrite
  extract_lets
  split
  · exact h
  · split
    · next e => exact h.stage2.snd e
    · next e => exact h.stage2.snd e
    · next e => exact h.stage2.snd e

theorem Keeps.recordPosted (h : Keeps s t) {vd f} : Keeps s (t.recordPosted vd f) := h.updVd.interrupt

theorem Keeps.postRecord (h : Keeps s t) {vd f} : Keeps s (t.postRecord vd f) := by
  unfold State.postRecord
  split
  · exact h
  · split
    · next e =>
        have h1 := h.ringWrite.snd e
        exact .ite h1 (.ite h1.sendRemote (Keeps.ite h1.engineStore.meterHbm h1.engineStore).recordPosted)
    · next e => exact h.ringWrite.snd e

theorem Keeps.ringError (h : Keeps s t) {vd} : Keeps s (t.ringError vd) := h.updVd.logEvent.interrupt

theorem Keeps.markAborted (h : Keeps s t) {vd} : Keeps s (t.markAborted vd) := h.updVd

theorem Keeps.abortNow (h : Keeps s t) {vd} : Keeps s (t.abortNow vd) := (Keeps.ite h.ringError h).markAborted

theorem Keeps.parkUnder (h : Keeps s t) {vd f b owner parts} : Keeps s (t.parkUnder vd f b owner parts) := by
  unfold State.parkUnder
  extract_lets _ _ _ t1 _ _ t2
  have h1 : Keeps s t1 := .ite h.ringError h
  have h2 : Keeps s t2 := h1.setVd
  split
  · exact h1
  · split
    · exact .ite h1.setVd h1
    · exact .ite h2 h2.postRecord

/-! The lanes of a memory instruction (09 R236-R252). -/

theorem Keeps.placePieces (h : Keeps s t) {a base need size n i acc} : Keeps s (t.placePieces a base need size n i acc).2.2 := by
  induction n generalizing t i acc with
  | zero => exact h
  | succ n ih =>
    unfold State.placePieces
    split
    · next e => exact ih (h.place.snd e)
    · next e => exact h.place.snd e

theorem Keeps.classify (h : Keeps s t) {a m expired x} : Keeps s (t.classify a m expired x).2 := by
  unfold State.classify
  extract_lets
  split
  · exact h
  · split
    next e =>
      have h1 := h.placePieces.thd e
      split
      next u e1 =>
        have h2 : Keeps s u := by
          split at e1
          · split at e1
            · cases e1
              exact h1
            · split at e1
              next e2 =>
                cases e1
                exact h1.placePieces.thd e2
          · cases e1
            exact h1
        -- every answer from here on leaves that state
        extract_lets
        repeat' split
        all_goals exact h2

theorem Keeps.applyRegs (h : Keeps s t) {a rs} : Keeps s (t.applyRegs a rs) := by
  unfold State.applyRegs
  refine Keeps.foldl h fun _ _ h1 => ?_
  split
  · exact h1.updAgent
  · split
    · exact h1.updWarp
    · exact h1

theorem Keeps.sendOverlap (h : Keeps s t) {a l n} : Keeps s (t.sendOverlap a l n) := by
  unfold State.sendOverlap
  split
  · exact h.sendEntries
  · exact h

theorem Keeps.askRemote (h : Keeps s t) {a id p x l n} : Keeps s (t.askRemote a id p x l n).2 := by
  unfold State.askRemote
  split
  · next e => exact h.sendOverlap.sendRemote.snd e

theorem Keeps.readPieces (h : Keeps s t) {a tagged size ls got} : Keeps s (t.readPieces a tagged size ls got).2.2 := by
  induction ls generalizing t got with
  | nil => exact h
  | cons l ls ih =>
    unfold State.readPieces
    split
    · exact h
    · split
      next e =>
        have hu := h.loadTurn.snd e
        exact ih (.ite hu.keepCopies hu)

theorem Keeps.meterLane (h : Keeps s t) {a ls size} : Keeps s (t.meterLane a ls size) :=
  .ite h (h.foldl fun _ _ h1 => (Keeps.ite h1.meterHbm h1))

theorem Keeps.performLane (h : Keeps s t) {a id m p x ls} : Keeps s (t.performLane a id m p x ls).2 := by
  unfold State.performLane
  extract_lets _ _ t1
  have h1 : Keeps s t1 := h.flushOverlap.meterLane
  split
  case h_1 | h_2 =>
    refine Keeps.foldl_snd h fun _ _ hy => ?_
    extract_lets
    split
    split
    · exact hy.combineStore
    · exact hy.meterLane
  · split
    · exact h.sendOverlap.sendRemote
    · exact h1.performBy
  · split
    · next e => exact (h.readPieces.thd e).askRemote
    · next e => exact (h.readPieces.thd e).meterLane

theorem Keeps.trapMem (h : Keeps s t) {a id m bad replay} : Keeps s (t.trapMem a id m bad replay) := h.holdTrap

theorem Keeps.withdraw (h : Keeps s t) {vd o} : Keeps s (t.withdraw vd o) := h.updVd

theorem Keeps.parkLanes (h : Keeps s t) {a id m xs} : Keeps s (t.parkLanes a id m xs) :=
  h.foldl fun _ _ h1 => h1.parkUnder

theorem Keeps.resolve (h : Keeps s t) {a id m p found} : Keeps s (t.resolve a id m p found).2 := by
  unfold State.resolve
  extract_lets
  split
  next u e =>
    have h1 : Keeps s u := by
      split at e
      · cases e
        exact h.abortNow
      · cases e
        exact h
    split
    next v e1 =>
      have h2 : Keeps s v := by
        refine Keeps.ofFoldl₂ e1 h1 fun y x hy => ?_
        split
        split
        · split
          · exact hy
          · exact hy.performLane
        · exact hy
      extract_lets _ t1 _ t2 _ t3 _ _ _ _ t4 t5
      have h3 : Keeps s t1 := by
        unfold t1
        split
        · exact h2.flushFull
        · exact h2
      have h4 : Keeps s t2 := .ite h3.flushBefore h3
      have h5 : Keeps s t3 := .ite h4.performBy h4
      have h6 : Keeps s t4 := .ite h5.parkLanes.acquire h5.parkLanes
      have h7 : Keeps s t5 := h5.applyRegs.retranslate.withdraw
      split
      · exact h6.setWork
      · exact h7.setWork.trapMem

theorem Keeps.pairAccesses (h : Keeps s t) {a m xs} : Keeps s (t.pairAccesses a m xs).2 := by
  unfold State.pairAccesses
  split
  · exact h
  · split
    · next e =>
        extract_lets
        split
        · next e1 => split <;> exact (h.pairTurn.snd e).countPair.pairTag.snd e1

theorem Keeps.memIssue (h : Keeps s t) {len m releases pre xs} : Keeps s (Machine.memIssue len m releases pre xs t) := by
  unfold Machine.memIssue
  extract_lets
  split
  · exact h
  · split
    · exact h.drainFor
    · split
      next e =>
        have h1 := h.pairAccesses.snd e
        split
        next u e1 =>
          have h2 : Keeps s u := .ofFoldl e1 h1 fun _ _ hy => hy.classify
          split
          · exact h
          · split
            · exact (Keeps.ite h2.acquire h2).advance
            · split
              next e2 =>
                split
                next e3 =>
                  have h3 := (h2.addOp.snd e2).resolve.snd e3
                  exact .ite h3.updAgent h3.updAgent.advance

theorem Keeps.completeLoad (h : Keeps s t) {a id} : Keeps s (t.completeLoad a id) := by
  unfold State.completeLoad
  split
  · exact .ite (Keeps.ite h.applyRegs.acquire h.applyRegs).setWork h.applyRegs.setWork
  · exact h

theorem Keeps.completeTracked (h : Keeps s t) {a id} : Keeps s (t.completeTracked a id) := by
  unfold State.completeTracked
  extract_lets t1
  have h1 : Keeps s t1 := by
    unfold t1
    split
    · exact h.sendAllEntries
    · exact h
  split
  · extract_lets t2 _
    have h2 : Keeps s t2 := h1.retranslate.applyRegs
    split
    · exact h1
    · exact .ite (Keeps.ite h2.acquire h2).setWork h2.setWork
  · exact h1

theorem Keeps.replayLanes (h : Keeps s t) {a id expired pick} : Keeps s (t.replayLanes a id expired pick) := by
  unfold State.replayLanes
  split
  · exact h
  · split
    · exact h
    · extract_lets
      split
      · exact h
      · split
        next u e =>
          have h1 : Keeps s u := .ofFoldl e h fun _ _ hy => hy.classify
          exact h1.resolve.updAgent

theorem Keeps.abortLanes (h : Keeps s t) {a id lanes} : Keeps s (t.abortLanes a id lanes) := by
  unfold State.abortLanes
  split
  · exact h
  · split
    · exact h
    · exact .ite h h.resolve.updAgent

/-! Memory instructions and the events that complete them (07 R188, R189; 09 R236-R252). -/

theorem Keeps.sldOp (h : Keeps s t) {len o} : Goes s (sldOp len o t) := by
  unfold Machine.sldOp
  refine h.checked fun _ h1 => ?_
  extract_lets
  exact .next h1.memIssue

theorem Keeps.sstOp (h : Keeps s t) {len o} : Goes s (sstOp len o t) := by
  unfold Machine.sstOp
  refine h.checked fun _ h1 => ?_
  extract_lets
  exact .next h1.memIssue

theorem Keeps.satomOp (h : Keeps s t) {len o} : Goes s (satomOp len o t) := by
  unfold Machine.satomOp
  refine h.checked fun _ h1 => ?_
  split
  · extract_lets
    exact .next h1.memIssue

theorem Keeps.vmemOp (h : Keeps s t) {len fn o} : Goes s (vmemOp len fn o t) := by
  unfold Machine.vmemOp
  refine h.checked fun _ h1 => ?_
  split
  · extract_lets
    split
    exact .next h1.memIssue
  · exact .next h1.trap

theorem Keeps.prefetch (h : Keeps s t) {a line} : Keeps s (t.prefetch a line) := by
  unfold State.prefetch
  split
  · next e =>
      have h1 := h.l1Turn.snd e
      exact .ite h1.meterHbm.keepCopies h1

theorem Keeps.vprefOp (h : Keeps s t) {len o} : Goes s (Machine.vprefOp len o t) := by
  unfold Machine.vprefOp
  refine h.checked fun s0 h1 => ?_
  split
  · extract_lets
    split
    split
    next e =>
      have h2 := h1.pairAccesses.snd e
      split
      next u e1 =>
        have h3 : Keeps s u := by
          split at e1
          · cases e1
            exact h2
          · refine Keeps.ofFoldl e1 h2 fun y x hy => ?_
            split
            next e2 =>
              have h4 := hy.classify.snd e2
              split <;> exact h4
        split
        · exact .next h1
        · exact .next (h3.foldl fun _ _ hu => hu.prefetch).advance
  · exact .next h1.trap

theorem Keeps.spillOp (h : Keeps s t) {len fn o} : Goes s (spillOp len fn o t) := by
  unfold Machine.spillOp
  refine h.checked fun _ h1 => ?_
  split
  · extract_lets
    split
    · split
      · exact .next h1.trapAt
      · split
        · exact .next h1.trapAt
        · exact .next h1.memIssue
  · exact .next h1.trap

theorem Keeps.vatomOp (h : Keeps s t) {len fn o} : Goes s (vatomOp len fn o t) := by
  unfold Machine.vatomOp
  refine h.checked fun _ h1 => ?_
  split
  · extract_lets
    split
    exact .next h1.memIssue
  · exact .next h1.trap

/-! Fences, barriers, WSYNC, CVINIT and MWAIT (13 R330-R336). -/

theorem Keeps.as (h : Keeps s t) {a} : Keeps s (t.as a) := h.upd rfl

theorem Keeps.waitFor (h : Keeps s t) {len k} : Keeps s (t.waitFor len k) := h.updAgent

theorem Keeps.unwait (h : Keeps s t) : Keeps s t.unwait := h.updAgent

theorem Keeps.resumeAt (h : Keeps s t) {w} : Keeps s (t.resumeAt w) := h.unwait.setPc

theorem Keeps.arrive (h : Keeps s t) {l n} {u} (e : t.arrive l n = some u) : Keeps s u := by
  unfold State.arrive at e
  extract_lets _ _ _ _ _ t1 at e
  have h1 : Keeps s t1 := h.store
  split at e
  · cases e
  · split at e
    · cases e
      exact h1.upd rfl
    · cases e
      exact h.store

theorem Keeps.barrierOp (h : Keeps s t) {len fn o reads k} (hk : ∀ x u, Keeps s u → Goes s (k x u)) :
    Goes s (Machine.barrierOp len fn o reads t k) := by
  unfold Machine.barrierOp
  refine h.checked fun u hu => ?_
  extract_lets
  split
  · exact .next hu.trapAt
  · split
    · exact .next hu.trapWith
    · exact hk _ u hu

theorem Keeps.fenceOp (h : Keeps s t) {len o} : Goes s (fenceOp len o t) := by
  unfold Machine.fenceOp
  refine h.checked fun _ h1 => ?_
  split
  · exact .next h1.drainFor
  · split
    · exact .next h1
    · exact .next (Keeps.ite h1.acquire h1).advance

theorem Keeps.binitOp (h : Keeps s t) {len o} : Goes s (binitOp len o t) := by
  unfold Machine.binitOp
  refine h.barrierOp fun _ _ h1 => ?_
  extract_lets
  split
  · exact .next h1.trapAt
  · split
    · exact .next h1
    · split
      · next e => exact .next (h1.addOp.snd e).advance

theorem Keeps.barriveOp (h : Keeps s t) {len o} : Goes s (barriveOp len o t) := by
  unfold Machine.barriveOp
  refine h.barrierOp fun _ _ h1 => ?_
  split
  · exact .next h1.drainFor
  · extract_lets
    split
    · next e => exact .next (h1.arrive e).writeNext
    · exact .next h1.trapAt

theorem Keeps.bwaitOp (h : Keeps s t) {len o} : Goes s (bwaitOp len o t) := by
  unfold Machine.bwaitOp
  refine h.barrierOp fun _ _ h1 => ?_
  split
  · exact .next h1
  · extract_lets t1
    have h2 : Keeps s t1 := h1.flushOverlap
    split
    · exact .next h2.acquire.advance
    · exact .next h2.waitFor

theorem Keeps.btestOp (h : Keeps s t) {len o} : Goes s (btestOp len o t) := by
  unfold Machine.btestOp
  refine h.barrierOp fun _ _ h1 => ?_
  split
  · exact .next h1
  · extract_lets t1
    have h2 : Keeps s t1 := h1.flushOverlap
    split
    · exact .next h2.acquire.writeNext
    · exact .next h2.writeNext

theorem Keeps.syncMaskTrap (h : Keeps s t) {g wn u' grp} : Keeps s (t.syncMaskTrap g wn u' grp) := by
  unfold State.syncMaskTrap
  extract_lets t1
  have h1 : Keeps s t1 := h.trapWith
  split
  · exact h1.updWarp
  · exact h1

theorem Keeps.wsyncOp (h : Keeps s t) {len o} : Goes s (wsyncOp len o t) := by
  unfold Machine.wsyncOp
  refine h.checked fun _ h1 => ?_
  split
  · extract_lets
    split
    · exact .next h1.syncMaskTrap
    · split
      · split
        · exact .next h1.syncMaskTrap
        · exact .next h1.setWarp
      · exact .next h1.setWarp
  · exact .next h1.trap

theorem Keeps.cvinitOp (h : Keeps s t) {len o} : Goes s (cvinitOp len o t) := by
  unfold Machine.cvinitOp
  refine h.checked fun _ h1 => ?_
  split
  · extract_lets
    split
    · exact .next h1.trap
    · exact .next h1.setWarp.advance
  · exact .next h1.trap

theorem Keeps.waitPage (h : Keeps s t) {m f addr} : Keeps s (t.waitPage m f addr) :=
  .ite h (.ite h.abortNow.unwait.trapAt h.parkUnder)

theorem Keeps.mwaitTry (h : Keeps s t) {w addr cond cmp sd} : Keeps s (t.mwaitTry w addr cond cmp sd) := by
  unfold State.mwaitTry
  extract_lets _ _ v1
  split
  · unfold v1
    exact h.updAgent
  · split
    · next e => exact (h.classify.snd e).unwait.trapWith
    · next e =>
        refine Keeps.waitPage ?_
        unfold v1
        exact (h.classify.snd e).updAgent
    · next e =>
        unfold v1
        exact (h.classify.snd e).updAgent
    · next e =>
        have h1 := h.classify.snd e
        extract_lets _ t1
        have h2 : Keeps s t1 := h1.flushOverlap.meterLane
        split
        · unfold v1
          exact h1.updAgent
        · split
          · exact h1.unwait.trapAt
          · split
            · unfold v1
              exact h1.updAgent
            · unfold v1
              exact h1.sendOverlap.sendRemote.updAgent
          · split
            · exact h2.unwait.trapWith
            · split
              · exact h2.setSreg.acquire.resumeAt
              · unfold v1
                exact h2.updAgent

theorem Keeps.mwaitOp (h : Keeps s t) {len o} : Goes s (mwaitOp len o t) := by
  unfold Machine.mwaitOp
  refine h.checked fun _ h1 => ?_
  extract_lets
  exact .next h1.mwaitTry

theorem Keeps.execBwaitComplete (h : Keeps s t) {a} : Goes s (execBwaitComplete a t) := by
  unfold Machine.execBwaitComplete
  split
  · split
    · split
      · exact .next h.as.acquire.resumeAt
      · exact .next h
    · exact .next h
  · exact .next h

theorem Keeps.savedReread (h : Keeps s t) {a w addr} : Keeps s (t.savedReread a w addr) := by
  unfold State.savedReread
  split
  · exact .ite h h.sendRemote
  · exact h

theorem Keeps.execMwaitReread (h : Keeps s t) {a} : Goes s (execMwaitReread a t) := by
  unfold Machine.execMwaitReread
  split
  · split
    · split
      · exact .next h.savedReread
      · split
        · exact .next h.as.mwaitTry
        · exact .next h
    · exact .next h
  · exact .next h

/-! Feed queues (13 R337-R340). -/

theorem Keeps.updFeed (h : Keeps s t) {g k f} : Keeps s (t.updFeed g k f) := h.updGroup

theorem Keeps.pushNow (h : Keeps s t) {k addr} {u} (e : t.pushNow k addr = some u) : Keeps s u := by
  unfold State.pushNow at e
  extract_lets _ _ t1 at e
  have h1 : Keeps s t1 := h.updFeed
  split at e
  · cases e
  · split at e
    · cases e
    · cases e
      exact h1.addOp

theorem Keeps.popNow (h : Keeps s t) {k addr} {u} (e : t.popNow k addr = some u) : Keeps s u := by
  unfold State.popNow at e
  extract_lets _ _ t1 at e
  have h1 : Keeps s t1 := h.updFeed
  split at e
  · cases e
  · split at e
    · cases e
    · cases e
      exact h1.addOp

theorem Keeps.qpushOp (h : Keeps s t) {len o} : Goes s (qpushOp len o t) := by
  unfold Machine.qpushOp
  refine h.checked fun _ h1 => ?_
  extract_lets
  split
  · exact .next h1.trapAt
  · split
    · exact .next h1.waitFor
    · split
      · next e => exact .next (h1.pushNow e).advance
      · exact .next h1

theorem Keeps.qpopOp (h : Keeps s t) {len o} : Goes s (qpopOp len o t) := by
  unfold Machine.qpopOp
  refine h.checked fun _ h1 => ?_
  extract_lets
  split
  · exact .next h1.trapAt
  · split
    · exact .next h1.waitFor
    · split
      · next e => exact .next (h1.popNow e).advance
      · exact .next h1

theorem Keeps.qpopsOp (h : Keeps s t) {len o} : Goes s (qpopsOp len o t) := by
  unfold Machine.qpopsOp
  refine h.checked fun _ h1 => ?_
  extract_lets
  split
  · exact .next h1.trapAt
  · split
    · exact .next h1.writeNext
    · split
      · next e => exact .next (h1.popNow e).writeNext
      · exact .next h1

theorem Keeps.qstatOp (h : Keeps s t) {len o} : Goes s (qstatOp len o t) := by
  unfold Machine.qstatOp
  refine h.checked fun _ h1 => ?_
  extract_lets
  exact .next h1.writeNext

theorem Keeps.execQpopResume (h : Keeps s t) {a} : Goes s (execQpopResume a t) := by
  unfold Machine.execQpopResume
  split
  · split
    · split
      · split
        · next e => exact .next (h.as.popNow e).resumeAt
        · exact .next h
      · exact .next h
    · exact .next h
  · exact .next h

theorem Keeps.execQpushResume (h : Keeps s t) {a} : Goes s (execQpushResume a t) := by
  unfold Machine.execQpushResume
  split
  · split
    · split
      · exact .next h
      · split
        · next e => exact .next (h.as.pushNow e).resumeAt
        · exact .next h
    · exact .next h
  · exact .next h

theorem Keeps.execQueueOpComplete (h : Keeps s t) {a op} : Goes s (execQueueOpComplete a op t) := by
  unfold Machine.execQueueOpComplete
  split
  · split
    · extract_lets _ _ _ _ t1 _ t2 t3 t4
      have h1 : Keeps s t1 := h.flushBefore
      have h2 : Keeps s t2 := h1.performBy
      have h3 : Keeps s t3 := h2.updFeed
      have h4 : Keeps s t4 := .ite h3 h3.acquire
      split
      · exact .next h.drainFor
      · split
        · exact .next h
        · exact .next h4.setWork
    · exact .next h
  · exact .next h

end

end Sys2Proof.Machine

/-! PROOFS. Canonical memory is kept by copies, grids, the matrix unit and the SYS class. -/

namespace Sys2Proof.Machine

section
variable {s t : State}

/-! What engine operations share (10 R265-R270). -/

theorem Keeps.placeNext (h : Keeps s t) {a need last x} : Keeps s (t.placeNext a need last x).2 := by
  unfold State.placeNext
  split
  · split
    · exact h
    · exact h.place
  · exact h.place

theorem Keeps.placeBytes (h : Keeps s t) {a need xs} : Keeps s (t.placeBytes a need xs).2 := by
  unfold State.placeBytes
  split
  next e =>
    have hu : Keeps s _ := Keeps.ofFoldl₂ e h fun _ _ hy => hy.placeNext
    extract_lets
    split
    · exact hu
    · split
      · exact hu
      · exact hu

theorem Keeps.engineRead (h : Keeps s t) {vd who part first ls} : Keeps s (t.engineRead vd who part first ls).2 := by
  unfold State.engineRead
  extract_lets
  split
  · exact h
  · split
    · exact h
    · exact h.foldl fun _ _ h1 => h1.sendRemote

theorem Keeps.forget (h : Keeps s t) {who part} : Keeps s (t.forget who part) := h.upd rfl

theorem Keeps.meterPlaces (h : Keeps s t) {vd ls} : Keeps s (t.meterPlaces vd ls) := .ite h h.meterHbm

theorem Keeps.engineWrite (h : Keeps s t) {a vd who part ls bs} : Keeps s (t.engineWrite a vd who part ls bs).2 := by
  unfold State.engineWrite
  extract_lets _ _ t1
  have h1 : Keeps s t1 := h.engineStoreBy
  exact h1.foldl fun _ _ h2 => h2.sendRemote

theorem Keeps.register (h : Keeps s t) {a ks} : Keeps s (t.register a ks) :=
  h.foldl fun _ _ h1 => Keeps.ite h1.updCore h1.updCore.updCore

theorem Keeps.unlock (h : Keeps s t) {op} : Keeps s (t.unlock op) := h.upd rfl

theorem Keeps.asyncTrap (h : Keeps s t) {g s92} : Keeps s (t.asyncTrap g s92) := h.updGroup

theorem Keeps.parkEngine (h : Keeps s t) {vd f b owner part} {u} (e : t.parkEngine vd f b owner part = some u) : Keeps s u := by
  unfold State.parkEngine at e
  split at e
  · cases e
  · split at e
    · cases e
      exact h
    · cases e
      exact h.parkUnder

theorem Keeps.recordLoad (h : Keeps s t) {addr n k} (hk : ∀ x u, Keeps s u → Goes s (k x u)) :
    Goes s (Machine.recordLoad addr n t k) := by
  unfold Machine.recordLoad
  extract_lets
  split
  · exact .next h
  · split
    · next e => exact .next (h.classify.snd e).trapWith
    · next e => exact .next (h.classify.snd e).waitPage
    · next e => exact .next (h.classify.snd e)
    · next e =>
        have h1 := h.classify.snd e
        extract_lets
        split
        · exact .next h
        · split
          · split
            · next e1 =>
                have h2 := h1.engineRead.snd e1
                split
                · exact .next h2.forget.trapWith
                · exact hk _ _ h2.forget
            · next e1 => exact .next (h1.engineRead.snd e1)
          · split
            next e1 => exact hk _ _ (h1.readPieces.thd e1).meterPlaces

/-! Copies, seals, streams and tag waits (10 R254-R270). -/

theorem Keeps.sealOp (h : Keeps s t) {len o} : Goes s (sealOp len o t) := by
  unfold Machine.sealOp
  refine h.checked fun _ h1 => ?_
  extract_lets
  split
  · exact .next h1.trapAt
  · split
    · split
      · exact .next h1.writeNext
      · split
        · exact .next h1.writeNext
        · exact .next h1.updGroup.writeNext
    · split
      · exact .next h1.writeNext
      · refine h1.recordLoad fun _ _ h2 => ?_
        split
        · exact .next h2.writeNext
        · split
          · exact .next h2.writeNext
          · exact .next h2.updGroup.writeNext

theorem Keeps.startCopy (h : Keeps s t) {g op} : Keeps s (t.startCopy g op) := by
  unfold State.startCopy
  extract_lets
  split
  · split
    · exact h
    · split
      · exact h.setWork
      · split
        · exact h
        · exact .ite h h.updFeed.setWork
  · exact h

theorem Keeps.copyOp (h : Keeps s t) {len fn o} : Goes s (copyOp len fn o t) := by
  unfold Machine.copyOp
  refine h.checked fun _ h1 => ?_
  extract_lets
  split
  · exact .next h1.trap
  · split
    · exact .next h1
    · split
      · exact .next h1.drainFor
      · split
        · next e =>
            extract_lets t1 t2
            have h2 : Keeps s t1 := (h1.addOp.snd e).register
            have h3 : Keeps s t2 := h2.updGroup
            exact .next h3.startCopy.advance

theorem Keeps.copySource (h : Keeps s t) {g op part c js} : Keeps s (t.copySource g op part c js).2 := by
  unfold State.copySource
  extract_lets
  split
  · split
    · next e => exact h.placeBytes.snd e
    · next e => exact h.placeBytes.snd e
    · next e =>
        have h1 := h.placeBytes.snd e
        split
        · exact h1
        · split
          · next e1 => exact h1.engineRead.snd e1
          · next e1 =>
              have h2 := h1.engineRead.snd e1
              extract_lets
              split
              · exact h2
              · split <;> exact h2
  · split <;> exact h

theorem Keeps.failCopy (h : Keeps s t) {g op c off k} : Keeps s (t.failCopy g op c off k) := h.withdraw.setWork

theorem Keeps.parkCopy (h : Keeps s t) {g op n c off write f} : Keeps s (t.parkCopy g op n c off write f) := by
  unfold State.parkCopy
  extract_lets
  split
  · next e => exact (h.parkEngine e).setWork
  · exact h.abortNow.failCopy

theorem Keeps.creditSector (h : Keeps s t) {g op n c js} : Keeps s (t.creditSector g op n c js) := by
  unfold State.creditSector
  extract_lets _ _ _ t1
  have h1 : Keeps s t1 := h.forget
  split
  · exact h1.setWork
  · split
    · next e => exact (h1.arrive e).setWork
    · exact h1.failCopy

theorem Keeps.sourcePlaces (h : Keeps s t) {g op part c js} : Keeps s (t.sourcePlaces g op part c js).2 := by
  unfold State.sourcePlaces
  extract_lets
  split
  · exact h
  · split
    · next e => exact h.copySource.snd e
    · next e => exact h.copySource.snd e
    · next e => exact h.copySource.snd e
    · next e =>
        split
        · next e1 => split <;> exact (h.copySource.snd e).placeBytes.snd e1

theorem Keeps.sourceBytes (h : Keeps s t) {g op part c js ls} : Keeps s (t.sourceBytes g op part c js ls).2 := by
  unfold State.sourceBytes
  extract_lets
  split
  · exact h
  · split
    · next e => exact h.engineRead.snd e
    · next e => exact (h.engineRead.snd e).meterPlaces

theorem Keeps.readSector (h : Keeps s t) {g op n c js} : Keeps s (t.readSector g op n c js).2 := by
  unfold State.readSector
  split
  · exact h
  · split
    · next e => exact h.sourcePlaces.snd e
    · next e => exact h.sourcePlaces.snd e
    · next e => exact h.sourcePlaces.snd e
    · next e =>
        have h1 := h.sourcePlaces.snd e
        split
        · exact h
        · split
          · next e1 => exact h1.sourceBytes.snd e1
          · next e1 => exact h1.sourceBytes.snd e1

theorem Keeps.readSectors (h : Keeps s t) {g op c q ns got} : Keeps s (t.readSectors g op c q ns got).2 := by
  induction ns generalizing t got with
  | nil => exact h
  | cons n ns ih =>
    unfold State.readSectors
    extract_lets
    split
    · next e => exact ih (h.readSector.snd e)
    · next e => exact h.readSector.snd e

theorem Keeps.sectorData (h : Keeps s t) {g op n c js} : Keeps s (t.sectorData g op n c js).2.2 := by
  unfold State.sectorData
  split
  · exact h
  · split
    · extract_lets
      split
      · next e =>
          extract_lets
          exact h.readSectors.snd e
      · next e => exact h.readSectors.snd e
    · split
      · next e => exact h.readSector.snd e

theorem Keeps.moveSector (h : Keeps s t) {g op n} : Keeps s (t.moveSector g op n) := by
  unfold State.moveSector
  extract_lets
  split
  · extract_lets q
    split
    · exact .ite h h.creditSector
    · split
      · exact h
      · split
        · next e => exact h.sectorData.thd e
        · next e => exact (h.sectorData.thd e).failCopy
        · next e => exact (h.sectorData.thd e).parkCopy
        · next e =>
            have h1 := h.sectorData.thd e
            split
            next u e1 =>
              have h2 : Keeps s u := by
                clear_value q
                cases q with
                | none => exact h1.placeBytes.snd e1
                | some q =>
                  cases e1
                  exact h1
              split
              · exact h2.failCopy
              · exact h2.parkCopy
              · split
                · exact h
                · split
                  next e2 =>
                    have h3 := h2.meterPlaces.engineWrite.snd e2
                    exact .ite h3.setWork h3.creditSector
  · exact h

theorem Keeps.endCopy (h : Keeps s t) {g op} : Keeps s (t.endCopy g op) := by
  unfold State.endCopy
  extract_lets
  split
  · split
    · exact h
    · extract_lets t1 t2 t3 _ t4 t5
      have h1 : Keeps s t1 := by
        unfold t1
        split
        · exact .ite h.updFeed h
        · exact h
      have h2 : Keeps s t2 := h1.unlock
      have h3 : Keeps s t3 := h2.upd rfl
      have h4 : Keeps s t4 := h3.updGroup
      have h5 : Keeps s t5 := h4.setWork
      split
      · exact h5.asyncTrap
      · exact h5
  · exact h

theorem Keeps.tagWaitOp (h : Keeps s t) {len fn o} : Goes s (tagWaitOp len fn o t) := by
  unfold Machine.tagWaitOp
  refine h.checked fun _ h1 => ?_
  extract_lets
  split
  · exact .next h1.acquire.writeNext
  · exact .next h1.waitFor

theorem Keeps.tfirstOp (h : Keeps s t) {len o} : Goes s (tfirstOp len o t) := by
  unfold Machine.tfirstOp
  refine h.checked fun _ h1 => ?_
  extract_lets
  exact .next h1.writeNext

theorem Keeps.tclrOp (h : Keeps s t) {len o} : Goes s (tclrOp len o t) := by
  unfold Machine.tclrOp
  refine h.checked fun _ h1 => ?_
  extract_lets
  exact .next h1.updGroup.advance

theorem Keeps.strdefOp (h : Keeps s t) {len o} : Goes s (strdefOp len o t) := by
  unfold Machine.strdefOp
  refine h.checked fun _ h1 => ?_
  extract_lets
  split
  · exact .next h1.trapAt
  · refine h1.recordLoad fun _ _ h2 => ?_
    split
    · exact .next h2.writeNext
    · split
      · exact .next h2.writeNext
      · exact .next h2.setStoker.writeNext

theorem Keeps.strrunOp (h : Keeps s t) {len o} : Goes s (strrunOp len o t) := by
  unfold Machine.strrunOp
  refine h.checked fun _ h1 => ?_
  extract_lets
  split
  · exact .next h1.writeNext
  · extract_lets v1
    split
    · exact .next h1.writeNext
    · split
      · exact .next h1.writeNext
      · split
        · split
          · exact .next h1.writeNext
          · unfold v1
            split
            · split
              · exact .next h1.writeNext
              · split
                · exact .next h1
                · split
                  · next e => exact .next (h1.addOp.snd e).register.writeNext
            · split
              · exact .next h1.writeNext
              · split
                · exact .next h1
                · split
                  · next e => exact .next (h1.addOp.snd e).register.writeNext
        · split
          · exact .next h1.writeNext
          · unfold v1
            split
            · split
              · exact .next h1.writeNext
              · split
                · exact .next h1
                · split
                  · next e => exact .next (h1.addOp.snd e).register.writeNext
            · split
              · exact .next h1.writeNext
              · split
                · exact .next h1
                · split
                  · next e => exact .next (h1.addOp.snd e).register.writeNext

theorem Keeps.endStream (h : Keeps s t) {g op x error} : Keeps s (t.endStream g op x error) :=
  .ite h.withdraw.unlock.setWork.asyncTrap h.withdraw.unlock.setWork

theorem Keeps.parkStream (h : Keeps s t) {g op x f} : Keeps s (t.parkStream g op x f) := by
  unfold State.parkStream
  extract_lets
  split
  · next e => exact (h.parkEngine e).setWork
  · exact h.abortNow.endStream

theorem Keeps.streamRead (h : Keeps s t) {g op part first base n} : Keeps s (t.streamRead g op part first base n).2 := by
  unfold State.streamRead
  extract_lets
  split
  · next e => exact h.placeBytes.snd e
  · next e => exact h.placeBytes.snd e
  · next e =>
      have h1 := h.placeBytes.snd e
      split
      · exact h1
      · split
        · exact h
        · split
          · next e1 => exact h1.engineRead.snd e1
          · next e1 => exact (h1.engineRead.snd e1).meterPlaces

theorem Keeps.pushElement (h : Keeps s t) {g op x} : Keeps s (t.pushElement g op x) := by
  unfold State.pushElement
  extract_lets _ _ row
  have hrow : Keeps s row.2 := by
    unfold row
    split
    · exact h.streamRead
    · exact h
  clear_value row
  split
  · exact h
  · split
    · exact h
    · split
      · exact Keeps.endStream hrow
      · exact Keeps.parkStream hrow
      · exact hrow
      · extract_lets
        split
        · exact Keeps.endStream hrow
        · split
          · next e => exact (Keeps.streamRead hrow |>.snd e).endStream
          · next e => exact (Keeps.streamRead hrow |>.snd e).parkStream
          · next e => exact (Keeps.streamRead hrow).snd e
          · next e =>
              have h1 := (Keeps.streamRead hrow).snd e
              extract_lets _ t1 t2
              have h2 : Keeps s t1 := h1.performWrites.forget
              have h3 : Keeps s t2 := h2.updFeed
              exact .ite h3.endStream h3.setWork

theorem Keeps.execTagWaitComplete (h : Keeps s t) {a} : Goes s (execTagWaitComplete a t) := by
  unfold Machine.execTagWaitComplete
  split
  · split
    · extract_lets
      split
      · exact .next h.as.acquire.setSreg.resumeAt
      · exact .next h
    · exact .next h
  · exact .next h

theorem Keeps.execStreamPush (h : Keeps s t) {g slot} : Goes s (execStreamPush g slot t) := by
  unfold Machine.execStreamPush
  split
  · exact .next h.pushElement
  · exact .next h

/-! Grid records and the flue engine (14 R342-R354). -/

theorem Keeps.updPart (h : Keeps s t) {k f} : Keeps s (t.updPart k f) := h.upd rfl

theorem Keeps.partError (h : Keeps s t) {k code vd} : Keeps s (t.partError k code vd) := h.updPart.logEvent

theorem Keeps.flueCredit (h : Keeps s t) {c} : Keeps s (t.flueCredit c) := by
  unfold State.flueCredit
  split
  · exact h
  · split
    · next e => exact h.arrive e
    · exact h.asyncTrap

theorem Keeps.syncFlue (h : Keeps s t) {k} : Keeps s (t.syncFlue k) := by
  unfold State.syncFlue
  split
  · exact h
  · exact h.foldl fun _ _ h1 => h1.unlock.foldl fun _ _ h2 => h2.updCore

theorem Keeps.syncFlues (h : Keeps s t) {g} : Keeps s (t.syncFlues g) := h.foldl fun _ _ h1 => h1.syncFlue

theorem Keeps.learn (h : Keeps s t) {k f c} : Keeps s (t.learn k f c) := h.updPart

theorem Keeps.takePush (h : Keeps s t) {station acc dest step cells} : Keeps s (t.takePush station acc dest step cells) := by
  unfold State.takePush
  split
  · exact h
  · split
    · exact h
    · split
      · next e =>
          split
          · next e1 => exact ((h.fresh.snd e).receivedBytes.snd e1).updPart

theorem Keeps.sendNote (h : Keeps s t) {e' dest c} : Keeps s (t.sendNote e' dest c) := by
  unfold State.sendNote
  split
  · split
    · exact h.learn
    · exact h
  · exact .ite h.transmit h

theorem Keeps.takeNote (h : Keeps s t) {station acc dest c} : Keeps s (t.takeNote station acc dest c) := by
  unfold State.takeNote
  split
  · exact h
  · extract_lets _ t1
    have h1 : Keeps s t1 := .ite h.learn h
    split
    · exact h1
    · split
      · split
        · exact h1.learn
        · exact h1
      · exact .ite h1.transmit h1

theorem Keeps.tellNeighbours (h : Keeps s t) {k p steps ask} : Keeps s (t.tellNeighbours k p steps ask) := by
  unfold State.tellNeighbours
  refine Keeps.foldl h fun _ _ h1 => ?_
  extract_lets
  split
  · split
    · exact .ite h1.takeNote h1.sendNote
    · exact h1
  · exact h1

theorem Keeps.exchange (h : Keeps s t) {k step} : Keeps s (t.exchange k step) := by
  unfold State.exchange
  split
  · exact h
  · split
    · next e =>
        extract_lets t1
        have h1 : Keeps s t1 := (h.fresh.snd e).updPart.syncFlue
        refine Keeps.foldl h1 fun _ _ h2 => ?_
        extract_lets
        split
        · exact h2.partError
        · split
          · next e1 => exact (h2.fresh.snd e1).updPart

theorem Keeps.arriveRound (h : Keeps s t) {g addr barrier r} : Keeps s (t.arriveRound g addr barrier r) := by
  unfold State.arriveRound
  split
  · exact h
  · extract_lets _ t1 _ t2 t3
    have h1 : Keeps s t1 := .ite h.updGroup h.updGroup.updPart
    have h3 : Keeps s t3 := .ite h1.updPart.tellNeighbours h1.updPart
    split
    · exact h1.updPart
    · exact .ite h3.updPart.exchange (h3.updPart.foldl fun _ _ hu => hu.flueCredit)

theorem Keeps.gattachOp (h : Keeps s t) {len o} : Goes s (gattachOp len o t) := by
  unfold Machine.gattachOp
  refine h.checked fun _ h1 => ?_
  extract_lets _ _ _ _ v1
  split
  · exact .next h1.trapAt
  · refine h1.recordLoad fun _ _ h2 => ?_
    split
    · exact .next h2.writeNext
    · split
      · exact .next h2.writeNext
      · split
        · exact .next h2.writeNext
        · split
          · split
            · exact .next h2.writeNext
            · split
              · exact .next h2
              · refine .next ?_
                refine Keeps.writeNext ?_
                unfold v1
                exact h2.updPart.updGroup.syncFlue
          · split
            · exact .next h2.writeNext
            · extract_lets _ _ t1
              have h3 : Keeps s t1 := by
                unfold t1
                unfold v1
                exact (h2.upd (by rfl)).updPart.updGroup.syncFlue
              exact .next h3.tellNeighbours.writeNext

theorem Keeps.gstepOp (h : Keeps s t) {len o} : Goes s (gstepOp len o t) := by
  unfold Machine.gstepOp
  refine h.checked fun _ h1 => ?_
  extract_lets
  split
  · exact .next h1.trap
  · split
    · exact .next h1.trapWith
    · split
      · exact .next h1.trap
      · split
        · exact .next h1.waitFor
        · split
          · exact .next h1.drainFor
          · split
            · exact .next h1
            · exact .next h1.arriveRound.advance

theorem Keeps.gstatOp (h : Keeps s t) {len o} : Goes s (gstatOp len o t) := by
  unfold Machine.gstatOp
  refine h.checked fun _ h1 => ?_
  extract_lets
  split
  · exact .next h1.trap
  · extract_lets
    exact .next h1.writeNext

theorem Keeps.detach (h : Keeps s t) {g t'} : Keeps s (t.detach g t') := by
  unfold State.detach
  extract_lets v1 t1 t2
  have h1 : Keeps s t1 := by
    unfold t1
    unfold v1
    split
    · exact h.updPart
    · exact h
  have h2 : Keeps s t2 := h1.updGroup
  unfold v1
  split
  · exact h2.syncFlue
  · exact h2

theorem Keeps.gdetachOp (h : Keeps s t) {len o} : Goes s (gdetachOp len o t) := by
  unfold Machine.gdetachOp
  refine h.checked fun _ h1 => ?_
  extract_lets
  split
  · exact .next h1.trap
  · exact .next h1.detach.advance

theorem Keeps.flueByte (h : Keeps s t) {p die need last x} : Keeps s (t.flueByte p die need last x).2 := by
  unfold State.flueByte
  extract_lets v1
  split
  · split <;> exact h
  · split
    · exact h
    · split
      · split
        · unfold v1
          split <;> exact h
        · split
          · next e =>
              unfold v1
              split <;> exact h.translate.snd e
          · next e => exact h.translate.snd e
          · next e => exact h.translate.snd e
          · next e => exact h.translate.snd e
      · split
        · next e =>
            unfold v1
            split <;> exact h.translate.snd e
        · next e => exact h.translate.snd e
        · next e => exact h.translate.snd e
        · next e => exact h.translate.snd e

theorem Keeps.fluePlace (h : Keeps s t) {p die need xs} : Keeps s (t.fluePlace p die need xs).2 := by
  unfold State.fluePlace
  split
  next e =>
    have hu : Keeps s _ := Keeps.ofFoldl₂ e h fun _ _ hy => hy.flueByte
    extract_lets
    split
    · exact hu
    · split
      · exact hu
      · split
        · exact hu
        · split <;> exact hu

theorem Keeps.setPush (h : Keeps s t) {k id v} : Keeps s (t.setPush k id v) := h.updPart

theorem Keeps.failPush (h : Keeps s t) {k id code vd} : Keeps s (t.failPush k id code vd) :=
  (Keeps.ite h.logCrossingAt h).partError.setPush

theorem Keeps.parkPush (h : Keeps s t) {k p x write f} : Keeps s (t.parkPush k p x write f) := by
  unfold State.parkPush
  extract_lets
  split
  · next e => exact (h.parkEngine e).setPush
  · exact h.abortNow.failPush

theorem Keeps.pushRead (h : Keeps s t) {k p x src n} : Keeps s (t.pushRead k p x src n).2 := by
  unfold State.pushRead
  split
  · exact h
  · split
    · extract_lets
      exact h.setPush
    · split
      · next e => exact (h.fluePlace.snd e).failPush
      · next e => exact (h.fluePlace.snd e).failPush
      · next e => exact (h.fluePlace.snd e).parkPush
      · next e =>
          have h1 := h.fluePlace.snd e
          split
          · exact h
          · split
            · next e1 => exact h1.engineRead.snd e1
            · next e1 =>
                extract_lets
                exact (h1.engineRead.snd e1).meterPlaces.setPush

theorem Keeps.sendPush (h : Keeps s t) {k p x e'} : Keeps s (t.sendPush k p x e') :=
  .ite h.takePush.setPush (.ite h h.transmit.meterLink.setPush)

theorem Keeps.movePush (h : Keeps s t) {k id} : Keeps s (t.movePush k id) := by
  unfold State.movePush
  split
  · exact h
  · split
    · exact h
    · split
      · exact h
      · split
        · exact h
        · exact h.failPush
        · split
          · next e => exact h.pushRead.snd e
          · next e => exact (h.pushRead.snd e).sendPush
        · split
          · next e => exact h.pushRead.snd e
          · next e =>
              have h1 := h.pushRead.snd e
              split
              · exact h1.setPush
              · split
                · next e1 => exact (h1.fluePlace.snd e1).failPush
                · next e1 => exact (h1.fluePlace.snd e1).failPush
                · next e1 => exact (h1.fluePlace.snd e1).parkPush
                · next e1 =>
                    split
                    · exact h1
                    · split
                      · next e2 => exact ((h1.fluePlace.snd e1).meterPlaces.engineWrite.snd e2).setPush

theorem Keeps.retag (h : Keeps s t) {k f} : Keeps s (t.retag k f) := by
  unfold State.retag
  split
  · exact h.updPart.setPush.forget
  · exact h

theorem Keeps.execGstepResume (h : Keeps s t) {a} : Goes s (execGstepResume a t) := by
  unfold Machine.execGstepResume
  split
  · split
    · split
      · split
        · exact .next h
        · split
          · exact .next h.drainFor
          · exact .next h.as.arriveRound.resumeAt
      · split
        · exact .next h.as.unwait
        · exact .next h
    · exact .next h
  · exact .next h

theorem Keeps.execFluePush (h : Keeps s t) {die part push} : Goes s (execFluePush die part push t) := by
  unfold Machine.execFluePush
  split
  · exact .next h
  · split
    · exact .next h.movePush
    · split
      · exact .next h.takePush
      · exact .next h

theorem Keeps.execSlabRetag (h : Keeps s t) {die part face} : Goes s (execSlabRetag die part face t) := by
  unfold Machine.execSlabRetag
  split
  · exact .next h.retag
  · exact .next h

theorem Keeps.execGstepCredit (h : Keeps s t) {die part} : Goes s (execGstepCredit die part t) := by
  unfold Machine.execGstepCredit
  split
  · exact .next h
  · split
    · exact .next h
    · split
      · exact .next h
      · extract_lets _ t1
        have h1 : Keeps s t1 := h.unlock.updPart
        exact .next (h1.foldl fun _ _ h2 => h2.flueCredit)

theorem Keeps.dropPart (h : Keeps s t) {k} : Keeps s (t.dropPart k) := by
  unfold State.dropPart
  split
  · exact h
  · exact ((h.foldl fun _ _ h1 => h1.unlock).upd (by rfl)).tellNeighbours

theorem Keeps.execFlueStateDelete (h : Keeps s t) {die part} : Goes s (execFlueStateDelete die part t) := by
  unfold Machine.execFlueStateDelete
  split
  · split
    · exact .next h.dropPart
    · exact .next h
  · exact .next h

/-! Cross-lane operations (08 R222-R225). -/

theorem Keeps.vxlMove (h : Keeps s t) {len fn o} : Goes s (vxlMove len fn o t) := by
  unfold Machine.vxlMove
  extract_lets
  exact h.checked fun _ h1 => h1.laneOp

theorem Keeps.wholeWarp (h : Keeps s t) {f o dst k} : Goes s (wholeWarp f o dst t k) := by
  unfold Machine.wholeWarp
  refine h.checked fun _ h1 => ?_
  split
  · extract_lets _ _ _ v1
    split
    · split
      · next e =>
          unfold v1
          split
          · exact .next h1.trapWith
          · extract_lets
            exact .next (h1.pairLanes.snd e).setWarp.advance
  · exact .next h1.trap

theorem Keeps.vreduceOp (h : Keeps s t) {len o} : Goes s (vreduceOp len o t) := h.wholeWarp

theorem Keeps.vscanOp (h : Keeps s t) {len o} : Goes s (vscanOp len o t) := h.wholeWarp

theorem Keeps.vballotOp (h : Keeps s t) {len o} : Goes s (vballotOp len o t) := h.wholeWarp

theorem Keeps.vvoteOp (h : Keeps s t) {len o} : Goes s (vvoteOp len o t) := h.wholeWarp

theorem Keeps.vmatchOp (h : Keeps s t) {len o} : Goes s (vmatchOp len o t) := h.wholeWarp

/-! The matrix unit (11 R273-R291). -/

theorem Keeps.writeRow (h : Keeps s t) {core g row xs} : Keeps s (t.writeRow core g row xs) := h.updCore.updGroup

theorem Keeps.accept (h : Keeps s t) {core m} : Keeps s (t.accept core m) := h.updCore

theorem Keeps.issueMatrix (h : Keeps s t) {g wn n c pc head u} (e : t.issueMatrix g wn n c pc head = .done u) : Keeps s u := by
  unfold State.issueMatrix at e
  extract_lets at e
  split at e
  split at e
  · cases e
  · split at e
    · cases e
    · split at e
      · cases e
      · split at e
        · cases e
        · split at e
          next e1 =>
            extract_lets at e
            split at e
            · cases e
            · cases e
              exact (h.fresh.snd e1).register.updWarp.accept

theorem Keeps.mmaOp (h : Keeps s t) {len fn o} : Goes s (Machine.mmaOp len fn o t) := by
  unfold Machine.mmaOp
  refine h.checked fun s0 h1 => ?_
  extract_lets
  split
  · extract_lets
    split
    · exact .next h1.trap
    · split
      · exact .next h1.trap
      · split
        · exact .next h1
        · split
          next u e =>
            have h2 : Keeps s u := by
              split at e
              · exact h1.addOp.snd e
              · cases e
                exact h1
            extract_lets
            split
            · split
              · exact .next h1.trapAt
              · exact .next h1
              · next e1 => exact .next (h2.issueMatrix e1).advance
            · exact .next h2.updWarp.advance
  · exact .next h1.trap

theorem Keeps.awinOp (h : Keeps s t) {len o} : Goes s (awinOp len o t) := by
  unfold Machine.awinOp
  refine h.checked fun _ h1 => ?_
  split
  · extract_lets
    split
    · exact .next h1.trap
    · split
      · exact .next h1
      · exact .next h1.updWarp.advance
  · exact .next h1.trap

theorem Keeps.acceptAcc (h : Keeps s t) {g wn crow kind spans u} (e : t.acceptAcc g wn crow kind spans = .done u) : Keeps s u := by
  unfold State.acceptAcc at e
  extract_lets at e
  split at e
  · cases e
  · split at e
    next e1 =>
      extract_lets at e
      split at e
      · cases e
      · cases e
        exact (h.addOp.snd e1).register.accept

theorem Keeps.finish (h : Keeps s t) {i len} (hi : ∀ u, i = .done u → Keeps s u) : Goes s (Issued.finish i len t) := by
  unfold Issued.finish
  split
  · exact .next h.trapAt
  · exact .next h
  · exact .next (hi _ rfl).advance

theorem Keeps.accOp (h : Keeps s t) {len fn o} : Goes s (accOp len fn o t) := by
  unfold Machine.accOp
  refine h.checked fun _ h1 => ?_
  split
  · extract_lets
    split
    · exact .next h1.trap
    · exact h1.finish fun _ e => h1.acceptAcc e
  · exact .next h1.trap

theorem Keeps.placeRow (h : Keeps s t) {a need addr n} : Keeps s (t.placeRow a need addr n).2 := by
  unfold State.placeRow
  extract_lets
  split
  next e =>
    have hu : Keeps s _ := Keeps.ofFoldl e h fun _ _ hy => hy.place
    split
    · exact hu
    · split
      · exact hu
      · extract_lets
        split <;> exact hu

theorem Keeps.rowCause (h : Keeps s t) {a write addr n} : Keeps s (t.rowCause a write addr n).2 := by
  unfold State.rowCause
  split
  · next e => exact h.placeRow.snd e
  · next e => exact h.placeRow.snd e

theorem Keeps.rowCauses (h : Keeps s t) {a write addr stride n rows} : Keeps s (t.rowCauses a write addr stride n rows).2 := by
  unfold State.rowCauses
  refine Keeps.foldl_snd h fun _ _ h1 => ?_
  split
  · next e => exact h1.rowCause.snd e

theorem Keeps.trapRows (h : Keeps s t) {c rows second addr} : Keeps s (t.trapRows c rows second addr) := h.holdTrap

theorem Keeps.accMoveOp (h : Keeps s t) {len fn o} : Goes s (accMoveOp len fn o t) := by
  unfold Machine.accMoveOp
  refine h.checked fun _ h1 => ?_
  split
  · extract_lets
    split
    · split
      · exact .next h1.trapRows
      · split
        · exact .next h1.trapRows
        · split
          · next e1 =>
              have h2 := h1.rowCauses.snd e1
              split
              · extract_lets
                exact .next h2.trapRows
              · split
                · exact .next h2.trapRows
                · extract_lets
                  split
                  · exact .next h1
                  · exact h2.finish fun _ e => h2.acceptAcc e
  · exact .next h1.trap

theorem Keeps.setMatOp (h : Keeps s t) {core m} : Keeps s (t.setMatOp core m) := h.updCore

theorem Keeps.gather (h : Keeps s t) {core m fn t' rows sa sb sc} {u} (e : t.gather core m fn t' rows sa sb sc = some u) : Keeps s u := by
  unfold State.gather at e
  extract_lets _ _ _ _ _ _ v1 at e
  split at e
  · split at e
    · cases e
    · split at e
      · cases e
      · extract_lets at e
        cases e
        unfold v1
        exact h.updFeed.acquireCore.unlock.setMatOp
  · cases e
    unfold v1
    exact h.unlock.setMatOp

theorem Keeps.startMatrix (h : Keeps s t) {core} : Keeps s (t.startMatrix core) := by
  unfold State.startMatrix
  extract_lets
  split
  · exact h
  · extract_lets
    split
    · exact h
    · split
      · exact h.getD fun _ e => h.gather e
      · exact h.setMatOp

theorem Keeps.countClk (h : Keeps s t) {m} : Keeps s (t.countClk m) := h.updVd

theorem Keeps.pairMatrix (h : Keeps s t) {core m d} : Keeps s (t.pairMatrix core m d).2 := by
  unfold State.pairMatrix
  split
  · exact h
  · exact h.countClk.countPair.pairTag

theorem Keeps.closeMatrix (h : Keeps s t) {core m f} : Keeps s (t.closeMatrix core m f) :=
  h.countClk.unlock.updCore.updWarp.setWork

theorem Keeps.multiply (h : Keeps s t) {core m fn ty rows sc d} : Keeps s (t.multiply core m fn ty rows sc d).1 := by
  unfold State.multiply
  extract_lets
  split
  next e =>
    exact Keeps.foldl_fst (h.pairMatrix.snd e) fun _ _ hy => hy.writeRow

theorem Keeps.statRows (h : Keeps s t) {core m fmt dst head d} : Keeps s (t.statRows core m fmt dst head d) := by
  unfold State.statRows
  extract_lets
  split
  next e =>
    have h1 := h.pairMatrix.snd e
    extract_lets
    split
    next u f e1 =>
      extract_lets
      have h2 : Keeps s u := by
        refine Keeps.fst (Keeps.foldl_fst ?_ fun y _ hy => ?_) e1
        · exact h1
        · split
          exact hy.updWarp
      split
      · exact h2.closeMatrix
      · exact h2.closeMatrix.holdTrap

theorem Keeps.abortRows (h : Keeps s t) {core m aborted done addr stride} : Keeps s (t.abortRows core m aborted done addr stride) :=
  h.withdraw.closeMatrix.holdTrap

theorem Keeps.moveRow (h : Keeps s t) {core m write fmt addr stride d x i} :
    Keeps s (t.moveRow core m write fmt addr stride d x i).2 := by
  unfold State.moveRow
  extract_lets
  split
  · next e => exact h.placeRow.snd e
  · next e => exact h.placeRow.snd e
  · next e =>
      have h1 := h.placeRow.snd e
      split
      · exact h
      · split
        · extract_lets
          split
          · next e1 =>
              extract_lets
              split
              · next e2 => exact (h1.pairMatrix.snd e1).meterPlaces.engineWrite.snd e2
        · split
          · next e1 => exact h1.engineRead.snd e1
          · next e1 =>
              extract_lets
              exact (h1.engineRead.snd e1).meterPlaces.forget.writeRow

theorem Keeps.parkRows (h : Keeps s t) {core m write xs} : Keeps s (t.parkRows core m write xs) :=
  h.foldl fun _ _ h1 => h1.parkUnder

theorem Keeps.moveRows (h : Keeps s t) {core m write fmt addr stride done d} :
    Keeps s (t.moveRows core m write fmt addr stride done d) := by
  unfold State.moveRows
  extract_lets
  split
  next u e =>
    have h1 : Keeps s u := .ofFoldl e h fun _ _ hy => hy.moveRow
    extract_lets _ _ t2 _ t3
    have h2 : Keeps s t2 := .ite h1 h1.abortNow
    have h3 : Keeps s t3 := h2.parkRows
    exact .ite h2.abortRows (.ite h3.closeMatrix h3.setMatOp)

theorem Keeps.completeMatrix (h : Keeps s t) {core id d} : Keeps s (t.completeMatrix core id d) := by
  unfold State.completeMatrix
  split
  · exact h
  · split
    · exact h
    · split
      · split
        next e =>
          exact (h.multiply.fst e).closeMatrix
      · exact (h.foldl fun _ _ hu => hu.writeRow).closeMatrix
      · exact h.moveRows
      · exact h.moveRows
      · exact h.statRows

/-! Launch records (03 R75-R79). -/

theorem Keeps.noteBacklog (h : Keeps s t) {vd} : Keeps s (t.noteBacklog vd) := by
  unfold State.noteBacklog
  extract_lets _ _ v1
  split
  · exact h
  · split
    · exact h.setVd
    · unfold v1
      split <;> exact h.setVd

theorem Keeps.queueLaunch (h : Keeps s t) {g r} : Keeps s (t.queueLaunch g r).2 := by
  unfold State.queueLaunch
  extract_lets
  split
  · exact h
  · split
    · exact h
    · split
      · next e =>
          extract_lets t1
          have h1 : Keeps s t1 := (h.fresh.snd e).setGrid.updVd
          exact h1.noteBacklog

/-! Special registers (04 R105, R124). -/

theorem Keeps.setSpecial (h : Keeps s t) {a n v} : Keeps s (t.setSpecial a n v) := by
  unfold State.setSpecial
  split
  · exact h.updWarp
  · exact h
  · split
    · exact h.updPair
    · exact h.updCtl
    · exact h

/-! SYS instructions (07 R190-R196). -/

theorem Keeps.nopOp (h : Keeps s t) {len fn b} : Goes s (nopOp len fn b t) := h.checked fun _ h1 => .next h1.advance

theorem Keeps.startSlice (h : Keeps s t) {g} : Keeps s (t.startSlice g) := .ite h.updGroup h.haltBroadcast.updGroup

theorem Keeps.afterHandler (h : Keeps s t) {g wn kind} : Keeps s (t.afterHandler g wn kind) := by
  unfold State.afterHandler
  extract_lets _ t1
  have h1 : Keeps s t1 := h.updGroup
  split
  · exact .ite h (.ite h1.startSlice h1)
  · exact .ite h h.updGroup
  · exact .ite h.haltBroadcast h
  · exact h

theorem Keeps.tretOp (h : Keeps s t) {len b} : Goes s (tretOp len b t) := by
  unfold Machine.tretOp
  refine h.checked fun _ h1 => ?_
  split
  · extract_lets
    split
    · exact .next h1.trap
    · exact .next h1.setWarp.afterHandler
  · exact .next h1.trap

theorem Keeps.trapOp (h : Keeps s t) {len b} : Goes s (trapOp len b t) := by
  unfold Machine.trapOp
  refine h.checked fun _ h1 => ?_
  extract_lets
  exact .next h1.holdTrap

theorem Keeps.exitConvs (h : Keeps s t) {g wn m ns u} (e : t.exitConvs g wn m ns = .done u) : Keeps s u := by
  induction ns generalizing t with
  | nil =>
    cases e
    exact h
  | cons n ns ih =>
    unfold State.exitConvs at e
    extract_lets at e
    split at e
    · split at e
      · next e1 => exact ih (h.issueMatrix e1) e
      · next hd => exact absurd e (hd _)
    · exact ih (.ite h h.updWarp) e

theorem Keeps.exitOp (h : Keeps s t) {len b} : Goes s (Machine.exitOp len b t) := by
  unfold Machine.exitOp
  refine h.checked fun s0 h1 => ?_
  split
  · split
    · exact .next h1.trapAt
    · exact .next h1
    · next e =>
        have h2 := h1.exitConvs e
        extract_lets
        split
        · exact .next h2.setWarp.afterHandler
        · exact .next h2.setWarp
  · exact .next h1.updAgent.advance
  · exact .next h1.trap

theorem Keeps.prioOp (h : Keeps s t) {len b} : Goes s (prioOp len b t) := by
  unfold Machine.prioOp
  refine h.checked fun _ h1 => ?_
  split
  · exact .next h1.updWarp
  · exact .next h1.trap

theorem Keeps.waitOp (h : Keeps s t) {len b} : Goes s (waitOp len b t) := by
  unfold Machine.waitOp
  refine h.checked fun _ h1 => ?_
  extract_lets
  split
  · exact .next h1.advance
  · exact .next h1.waitFor

theorem Keeps.execWaitResume (h : Keeps s t) {a} : Goes s (execWaitResume a t) := by
  unfold Machine.execWaitResume
  split
  · split
    · split
      · exact .next h.as.resumeAt
      · exact .next h
    · exact .next h
  · exact .next h

theorem Keeps.launchLoad (h : Keeps s t) {addr k} (hk : ∀ x u, Keeps s u → Goes s (k x u)) :
    Goes s (Machine.launchLoad addr t k) := by
  unfold Machine.launchLoad
  extract_lets
  split
  next e =>
    split
    next e1 =>
      have h1 := (h.classify.snd e).classify.snd e1
      split
      · split
        exact .next h1.trapWith
      · exact .next h1.trapWith
      · exact .next h1.trapWith
      · exact .next h1.waitPage
      · exact .next h1.waitPage
      · exact .next h1
      · exact .next h1
      · extract_lets
        split
        · split
          · next e2 =>
              have h2 := h1.engineRead.snd e2
              split
              · exact .next h2.forget.trapWith
              · exact hk _ _ h2.forget
          · next e2 => exact .next (h1.engineRead.snd e2)
        · exact hk _ _ h1.meterPlaces

theorem Keeps.launchOp (h : Keeps s t) {len b} : Goes s (launchOp len b t) := by
  unfold Machine.launchOp
  refine h.checked fun _ h1 => ?_
  split
  · exact .next h1.trap
  · extract_lets
    split
    · exact .next h1.trapAt
    · split
      · exact .next h1.drainFor
      · refine h1.launchLoad fun _ _ h2 => ?_
        split
        · next e => exact .next (h2.queueLaunch.snd e).writeNext

theorem Keeps.haltOp (h : Keeps s t) {len b} : Goes s (haltOp len b t) := by
  unfold Machine.haltOp
  refine h.checked fun _ h1 => ?_
  split
  · exact .next h1.machineCheck
  · exact .next h1.trap

theorem Keeps.wfiOp (h : Keeps s t) {len b} : Goes s (wfiOp len b t) := by
  unfold Machine.wfiOp
  refine h.checked fun _ h1 => ?_
  split
  · split
    · exact .next h1
    · exact .next h1.advance
  · exact .next h1.trap

end

end Sys2Proof.Machine

/-! PROOFS. Canonical memory is kept by work queues, checkpoints, the control cores' tables, scheduling and paging. -/

namespace Sys2Proof.Machine

section
variable {s t : State}

/-! Work queues and their records (02 R54-R74). -/

theorem Keeps.vdEvent (h : Keeps s t) {vd n} : Keeps s (t.vdEvent vd n) := .ite h h.setVd.interrupt

theorem Keeps.queueError (h : Keeps s t) {q err} : Keeps s (t.queueError q err) := .ite h h.setQueue.vdEvent

theorem Keeps.loadIrts (h : Keeps s t) {vd} : Keeps s (t.loadIrts vd) := by
  unfold State.loadIrts
  extract_lets _ t1 _ t2
  have h1 : Keeps s t1 := by
    unfold t1
    refine Keeps.foldl h fun _ _ h2 => ?_
    extract_lets
    split
    exact h2.setIrt
  have h2 : Keeps s t2 := h1.setIrt
  exact h2.setIrt

theorem Keeps.writeQcfg (h : Keeps s t) {n value} : Keeps s (t.writeQcfg n value) := h.setQueue.loadIrts

theorem Keeps.execQueueStopped (h : Keeps s t) {q} : Goes s (execQueueStopped q t) := by
  unfold Machine.execQueueStopped
  extract_lets
  split
  · exact .next h.setQueue
  · exact .next h

theorem Keeps.kickQueue (h : Keeps s t) {q value} : Keeps s (t.kickQueue q value) := .ite h.updQueue h

theorem Keeps.writeKccons (h : Keeps s t) {q value} : Keeps s (t.writeKccons q value) := .ite h h.setQueue

theorem Keeps.placeVirt (h : Keeps s t) {vd root va n need} : Keeps s (t.placeVirt vd root va n need).2 := by
  unfold State.placeVirt
  split
  · exact h
  · split
    · next e => exact h.translate.snd e
    · next e => exact h.translate.snd e
    · next e => exact h.translate.snd e
    · next e => exact h.translate.snd e

theorem Keeps.parkRecord (h : Keeps s t) {q i write f} : Keeps s (t.parkRecord q i write f).2 := by
  unfold State.parkRecord
  extract_lets
  split
  · exact h.abortNow
  · split
    · exact h
    · exact h.parkUnder

theorem Keeps.reachRecord (h : Keeps s t) {q i va n need} : Keeps s (t.reachRecord q i va n need).2 := by
  unfold State.reachRecord
  extract_lets
  refine Keeps.foldl_snd h fun _ _ h1 => ?_
  split
  · exact h1
  · split
    · next e => exact h1.placeVirt.snd e
    · next e => exact h1.placeVirt.snd e
    · next e =>
        have h2 := h1.placeVirt.snd e
        split
        · next e1 => exact h2.parkRecord.snd e1
        · next e1 => exact h2.parkRecord.snd e1

theorem Keeps.readRecord (h : Keeps s t) {q i va n} : Keeps s (t.readRecord q i va n).2 := by
  unfold State.readRecord
  split
  · next e => exact h.reachRecord.snd e
  · next e => exact h.reachRecord.snd e
  · next e =>
      have h1 := h.reachRecord.snd e
      extract_lets
      split
      · exact h1
      · split
        · next e1 => exact (h1.engineRead.snd e1).forget.meterPlaces
        · next e1 => exact h1.engineRead.snd e1

theorem Keeps.updRun (h : Keeps s t) {q i f} : Keeps s (t.updRun q i f) := h.updQueue

theorem Keeps.forgetRecord (h : Keeps s t) {who} : Keeps s (t.forgetRecord who) := .ite (h.upd rfl) h

theorem Keeps.completeRun (h : Keeps s t) {q i status cause prov time err} : Keeps s (t.completeRun q i status cause prov time err) :=
  .ite h.updRun.forgetRecord.updQueue h.updRun.forgetRecord.updQueue.queueError

theorem Keeps.evalWait (h : Keeps s t) {q i} : Keeps s (t.evalWait q i) := by
  unfold State.evalWait
  split
  · exact h
  · split
    · exact h
    · extract_lets
      split
      · next e => exact (h.readRecord.snd e).updRun
      · next e => exact (h.readRecord.snd e).completeRun
      · next e =>
          have h1 := h.readRecord.snd e
          exact .ite h1.completeRun h1.updRun.updQueue

theorem Keeps.semEvent (h : Keeps s t) {q} : Keeps s (t.semEvent q) := by
  unfold State.semEvent
  extract_lets
  split
  · exact h
  · exact h.setQueue.evalWait

theorem Keeps.semEvents (h : Keeps s t) {f} : Keeps s (t.semEvents f) := h.foldl fun _ _ h1 => h1.semEvent

theorem Keeps.execWaitsemTimeout (h : Keeps s t) {q} : Goes s (execWaitsemTimeout q t) := by
  unfold Machine.execWaitsemTimeout
  split
  · split
    · exact .next h
    · exact .next h.completeRun
  · exact .next h

theorem Keeps.dropTree (h : Keeps s t) {q i} : Keeps s (t.dropTree q i) := (h.upd (by rfl)).updVd.noteBacklog

theorem Keeps.finishLaunch (h : Keeps s t) {q i status cause prov time err} : Keeps s (t.finishLaunch q i status cause prov time err) :=
  h.dropTree.completeRun.semEvents

theorem Keeps.openGrid (h : Keeps s t) {q i} : Keeps s (t.openGrid q i) := by
  unfold State.openGrid
  extract_lets
  split
  · next e => exact (h.fresh.snd e).setGrid.updVd.updRun

theorem Keeps.signalAt (h : Keeps s t) {q i op v ls} : Keeps s (t.signalAt q i op v ls) :=
  .ite h.completeRun (.ite h (.ite h.sendRemote.updRun h.engineStore.meterPlaces.completeRun))

theorem Keeps.runRecord (h : Keeps s t) {q i} : Keeps s (t.runRecord q i) := by
  unfold State.runRecord
  split
  · exact h
  · extract_lets
    split
    · exact h
    · split
      · split
        · exact h
        · split
          · exact h
          · split
            · next e => exact h.readRecord.snd e
            · next e => exact (h.readRecord.snd e).finishLaunch
            · next e =>
                have h1 := h.readRecord.snd e
                exact .ite h1.finishLaunch h1.updGrid.noteBacklog
      · exact .ite h.evalWait h
      · split
        · exact .ite h h.completeRun
        · split
          · next e => exact (h.reachRecord.snd e).completeRun
          · next e => exact h.reachRecord.snd e
          · next e => exact (h.reachRecord.snd e).signalAt
      · exact h.completeRun
      · exact h

theorem Keeps.ringRead (h : Keeps s t) {q i} : Keeps s (t.ringRead q i).2 := by
  unfold State.ringRead
  extract_lets
  split
  · next e =>
      have h1 := h.stage2.snd e
      split
      · exact h1
      · split
        · split
          · exact h1
          · split
            · next e1 => exact (h1.engineRead.snd e1).forget
            · next e1 => exact h1.engineRead.snd e1
        · exact .ite h1.meterHbm h1
  · next e =>
      have h1 := h.stage2.snd e
      split
      · next e1 => exact h1.parkRecord.snd e1
      · next e1 => exact h1.parkRecord.snd e1
  · next e => exact h.stage2.snd e

theorem Keeps.startRecord (h : Keeps s t) {q i} : Keeps s (t.startRecord q i).2 := by
  unfold State.startRecord
  extract_lets
  split
  · exact h
  · split
    · exact h
    · split
      · next e => exact h.ringRead.snd e
      · next e => exact (h.ringRead.snd e).queueError
      · next e =>
          have h1 := h.ringRead.snd e
          split
          · exact h1
          · extract_lets _ _ t1
            have h2 : Keeps s t1 := h1.updQueue
            exact .ite (Keeps.ite h2.openGrid h2).runRecord (.ite h2.finishLaunch h2.completeRun)

theorem Keeps.moveChunk (h : Keeps s t) {q i k src dst zero c} : Keeps s (t.moveChunk q i k src dst zero c).2 := by
  unfold State.moveChunk
  extract_lets
  split
  next u e =>
    have h1 : Keeps s u := .ofIte e h h.reachRecord
    split
    next e1 =>
      have h2 := h1.reachRecord.snd e1
      split
      · exact h2
      · exact h2
      · exact h2
      · exact h2
      · extract_lets
        split
        · exact h2
        · split
          · next e2 => exact .ofIte e2 h2 h2.engineRead
          · next v e2 =>
              have h3 : Keeps s v := .ofIte e2 h2 h2.engineRead
              extract_lets _ t1
              have h4 : Keeps s t1 := h3.forget.engineStore.meterPlaces
              exact h4.foldl fun _ _ hu => hu.sendRemote

theorem Keeps.moveChunks (h : Keeps s t) {q i src dst zero cs k} : Keeps s (t.moveChunks q i src dst zero cs k) := by
  induction cs generalizing t k with
  | nil => exact .ite h h.completeRun
  | cons c cs ih =>
    unfold State.moveChunks
    split
    · next e => exact ih (h.moveChunk.snd e).updRun
    · next e => exact (h.moveChunk.snd e).completeRun
    · next e => exact h.moveChunk.snd e

theorem Keeps.execSystemCopyComplete (h : Keeps s t) {q index} : Goes s (execSystemCopyComplete q index t) := by
  unfold Machine.execSystemCopyComplete
  extract_lets
  split
  · split
    · exact .next h
    · extract_lets
      exact .next h.moveChunks
  · exact .next h

theorem Keeps.execFenceqComplete (h : Keeps s t) {q index} : Goes s (execFenceqComplete q index t) := by
  unfold Machine.execFenceqComplete
  split
  · split
    · exact .next h
    · exact .next h.completeRun
  · exact .next h

theorem Keeps.execLaunchRecordComplete (h : Keeps s t) {q index} : Goes s (execLaunchRecordComplete q index t) := by
  unfold Machine.execLaunchRecordComplete
  extract_lets
  split
  · split
    · exact .next h
    · extract_lets
      refine .next ?_
      split <;> exact h.finishLaunch
  · exact .next h

theorem Keeps.passHead (h : Keeps s t) {q r} : Keeps s (t.passHead q r) := by
  unfold State.passHead
  extract_lets _ _ _ t1
  have h1 : Keeps s t1 := .ite h.updQueue.interrupt h.updQueue
  exact .ite h1.semEvents h1

theorem Keeps.retireLost (h : Keeps s t) {q r} : Keeps s (t.retireLost q r) := h.queueError.passHead

theorem Keeps.showRun (h : Keeps s t) {q r} : Keeps s (t.showRun q r) := by
  unfold State.showRun
  extract_lets _ _ v1
  split
  · exact h.setQueue
  · split
    · exact h.passHead
    · split
      · next e =>
          have h1 := h.stage2.snd e
          split
          · exact h1.retireLost
          · split
            · unfold v1
              exact h1.updQueue
            · split
              · unfold v1
                exact h1.sendRemote.updQueue
              · exact (Keeps.ite h1.engineStore.meterHbm h1.engineStore).updQueue.passHead
      · next e =>
          have h1 := h.stage2.snd e
          split
          · next e1 => exact (h1.parkRecord.snd e1).retireLost
          · next e1 =>
              unfold v1
              exact (h1.parkRecord.snd e1).updQueue
      · next e => exact (h.stage2.snd e).retireLost

theorem Keeps.showRest (h : Keeps s t) {q first} (hf : ∀ u r, Keeps s u → Keeps s (first u r)) : Keeps s (t.showRest q first) := by
  unfold State.showRest
  split
  · exact h
  · extract_lets t1
    have h1 : Keeps s t1 := (hf _ _ h.updQueue).foldl fun _ _ hu => hu.showRun
    exact .ite h1.updQueue h1

theorem Keeps.showAgain (h : Keeps s t) {q} : Keeps s (t.showAgain q) := .ite h (h.showRest fun _ _ hu => hu.showRun)

theorem Keeps.showLost (h : Keeps s t) {q} : Keeps s (t.showLost q) := h.showRest fun _ _ hu => hu.retireLost

theorem Keeps.showDone (h : Keeps s t) {q} : Keeps s (t.showDone q) := h.showRest fun _ _ hu => hu.updQueue.passHead

theorem Keeps.retireRecord (h : Keeps s t) {q i word} : Keeps s (t.retireRecord q i word).2 := by
  unfold State.retireRecord
  extract_lets
  split
  · exact h
  · split
    · exact h
    · split
      · exact h
      · extract_lets
        split
        · exact h
        · split
          · split
            · exact h
            · exact h.setQueue
          · exact h.setQueue.showRun

theorem Keeps.holdEntry (h : Keeps s t) {n} : Keeps s (t.holdEntry n) := h.setIrt

theorem Keeps.releaseEntry (h : Keeps s t) {n} : Keeps s (t.releaseEntry n) := by
  unfold State.releaseEntry
  extract_lets _ t1 _ t2
  have h1 : Keeps s t1 := h.setIrt
  have h2 : Keeps s t2 := .ite h1 ((Keeps.ite h1 h1.updQueue).foldl fun _ _ hu => hu.showRun)
  exact h2.flushIrt

theorem Keeps.execIrqCoalesceTimeout (h : Keeps s t) {entry} : Goes s (execIrqCoalesceTimeout entry t) := by
  unfold Machine.execIrqCoalesceTimeout
  extract_lets
  split
  · exact .next h
  · exact .next h.setIrt.flushIrt

theorem Keeps.killTree (h : Keeps s t) {q i c} : Keeps s (t.killTree q i c) := h.upd rfl

theorem Keeps.watchdogEnd (h : Keeps s t) {q r} : Keeps s (t.watchdogEnd q r) := by
  unfold State.watchdogEnd
  extract_lets
  split
  · exact .ite h.finishLaunch h.killTree.noteBacklog
  · exact h.completeRun
  · exact h.completeRun
  · exact h

theorem Keeps.rerunVd (h : Keeps s t) {vd} : Keeps s (t.rerunVd vd) :=
  h.foldl fun _ _ h1 => (h1.foldl fun _ _ h2 => h2.runRecord).showAgain

/-! Checkpoint and restore (18 R410-R419). -/

theorem Keeps.updCk (h : Keeps s t) {vd f} : Keeps s (t.updCk vd f) := h.updVd

theorem Keeps.setCbw (h : Keeps s t) {vd leaf on} : Keeps s (t.setCbw vd leaf on) := by
  unfold State.setCbw
  extract_lets _ v1
  unfold v1
  split
  · exact h
  · exact h.engineStore

theorem Keeps.endCk (h : Keeps s t) {vd err} : Keeps s (t.endCk vd err) := by
  unfold State.endCk
  split
  · exact h
  · exact ((h.foldl fun _ _ h1 => h1.setCbw).upd (by rfl)).updVd

theorem Keeps.abandonCk (h : Keeps s t) {vd} : Keeps s (t.abandonCk vd) := h.endCk

theorem Keeps.parkCk (h : Keeps s t) {vd write f} : Keeps s (t.parkCk vd write f) :=
  .ite h.abortNow.endCk (.ite h h.parkUnder)

theorem Keeps.walkLeaf (h : Keeps s t) {vd va lvl table} : Keeps s (Machine.walkLeaf vd va lvl table t).2 := by
  induction lvl generalizing t table with
  | zero => exact h
  | succ lvl ih =>
    unfold Machine.walkLeaf
    extract_lets
    split
    · next e => exact h.tableWord.thd e
    · next e =>
        have h1 := h.tableWord.thd e
        split
        · exact h1
        · split
          · exact h1
          · split
            · exact h1
            · exact ih h1

theorem Keeps.ckPlace (h : Keeps s t) {vd root need l} : Keeps s (t.ckPlace vd root need l).2 := by
  induction l generalizing t with
  | nil => exact h
  | cons va rest ih =>
    change Keeps s (if (t.vd vd).ckRun.isNone then (none, t) else _).2
    split
    · exact h
    · split
      · next e =>
          split
          next e1 => exact (ih (h.placeVirt.snd e)).snd e1
      · next e => exact (h.placeVirt.snd e).endCk
      · next e => exact ih (h.placeVirt.snd e).parkCk

theorem Keeps.ckRead (h : Keeps s t) {vd c} : Keeps s (t.ckRead vd c) := by
  unfold State.ckRead
  extract_lets
  refine Keeps.foldl h fun _ _ h1 => ?_
  split
  · exact h1
  · split
    · exact h1
    · split
      · next e => exact (h1.placeVirt.snd e).endCk
      · next e => exact (h1.placeVirt.snd e).parkCk
      · next e =>
          have h2 := h1.placeVirt.snd e
          split
          · exact h2
          · split
            · next e1 => exact h2.engineRead.snd e1
            · next e1 => exact (h2.engineRead.snd e1).forget.meterPlaces.updCk

theorem Keeps.ckClear (h : Keeps s t) {vd c} : Keeps s (t.ckClear vd c) := h.foldl fun _ _ h1 => h1.setCbw.updCk

theorem Keeps.ckSend (h : Keeps s t) {vd} : Keeps s (t.ckSend vd) := by
  unfold State.ckSend
  split
  · exact h
  · exact h.foldl fun _ _ h1 => Keeps.ite h1 h1.sendRemote.updCk

theorem Keeps.ckStripe (h : Keeps s t) {vd c} : Keeps s (t.ckStripe vd c) := h.updCk.ckSend

theorem Keeps.ckCopy (h : Keeps s t) {vd} : Keeps s (t.ckCopy vd) := by
  unfold State.ckCopy
  split
  · exact h
  · extract_lets t1
    have h1 : Keeps s t1 := h.ckRead
    split
    · exact h1
    · exact .ite h1 (.ite h1.ckClear.ckSend.ckStripe h1.ckClear.ckSend)

theorem Keeps.ckTake (h : Keeps s t) {vd d parts} : Keeps s (t.ckTake vd d parts).2 := by
  unfold State.ckTake
  refine Keeps.foldl_snd h fun _ _ h1 => ?_
  extract_lets
  split
  · exact h1
  · split
    · next e => exact h1.receivedBytes.snd e

theorem Keeps.ckRestore (h : Keeps s t) {vd c} : Keeps s (t.ckRestore vd c) := by
  unfold State.ckRestore
  extract_lets
  split
  · next e => exact h.ckPlace.snd e
  · next e =>
      have h1 := h.ckPlace.snd e
      split
      next u e1 =>
        have h2 : Keeps s u := by
          refine Keeps.ofFoldl e1 h1 fun y i hy => ?_
          extract_lets
          split
          · exact hy
          · exact hy.meterPlaces.engineWrite
        exact h2.updCk

theorem Keeps.ckWalk (h : Keeps s t) {vd root l} : Keeps s (t.ckWalk vd root l).2 := by
  induction l generalizing t with
  | nil => exact h
  | cons x rest ih =>
    change Keeps s (if (t.vd vd).ckRun.isNone then (none, t) else _).2
    split
    · exact h
    · split
      · next e =>
          have h1 := Keeps.ofIte e h h.walkLeaf
          split
          · exact h1.endCk
          · split
            next e1 => exact (ih h1).snd e1
      · next e =>
          have h1 := Keeps.ofIte e h h.walkLeaf
          exact ih h1.parkCk
      · next e => exact (Keeps.ofIte e h h.walkLeaf).endCk

theorem Keeps.ckDescriptor (h : Keeps s t) {vd c} : Keeps s (t.ckDescriptor vd c).2 := by
  unfold State.ckDescriptor
  extract_lets at_ get
  have hget : ∀ {u part va n}, Keeps s u → Keeps s (get u part va n).2 := by
    intro u part va n hu
    unfold get
    split
    next v e =>
      have h1 : Keeps s v := by
        refine Keeps.ofFoldl e hu fun y p hy => ?_
        split
        · next e1 => exact hy.placeVirt.snd e1
        · next e1 => exact (hy.placeVirt.snd e1).endCk
        · next e1 => exact (hy.placeVirt.snd e1).parkCk
      split
      · exact h1
      · split
        · exact h1
        · split
          · next e1 => exact (h1.engineRead.snd e1).meterPlaces
          · next e1 => exact h1.engineRead.snd e1
  clear_value get
  split
  · next e =>
      have h1 := (hget h).snd e
      exact h1
  · next e =>
      have h1 := (hget h).snd e
      split
      · next e1 =>
          have h2 := (hget h1).snd e1
          exact h2
      · next e1 =>
          have h2 := (hget h1).snd e1
          exact h2.forget.forget

theorem Keeps.ckProtect (h : Keeps s t) {vd c} : Keeps s (t.ckProtect vd c) := by
  unfold State.ckProtect
  extract_lets
  split
  · next e => exact h.ckWalk.snd e
  · next e =>
      have h1 := h.ckWalk.snd e
      exact .ite h1.endCk (h1.foldl fun _ _ h2 => h2.setCbw).updCk.ckSend.ckCopy

theorem Keeps.ckAdvance (h : Keeps s t) {vd} : Keeps s (t.ckAdvance vd) := by
  unfold State.ckAdvance
  split
  · exact h
  · split
    · split
      · next e => exact h.ckDescriptor.snd e
      · next e =>
          have h1 := h.ckDescriptor.snd e
          split
          · exact h1.endCk
          · split
            · exact h1.endCk
            · extract_lets
              split
              · split
                · next e1 =>
                    have h2 := h1.ckTake.snd e1
                    extract_lets
                    split
                    · exact h2.endCk
                    · exact h2.updCk.ckRestore
              · exact h1.updCk.ckProtect
    · exact .ite (.ite h.ckRestore h) (.ite h.ckProtect h.ckCopy)

theorem Keeps.writeCkctl (h : Keeps s t) {vd value parts} : Keeps s (t.writeCkctl vd value parts) := by
  unfold State.writeCkctl
  extract_lets _ _ t1 _ _ _ t2
  have h1 : Keeps s t1 := h.setVd
  have h2 : Keeps s t2 := h1.setVd
  exact .ite h1 (.ite h2.abandonCk (.ite h2.endCk h2.ckAdvance))

theorem Keeps.execCheckpoint (h : Keeps s t) {vd value} : Goes s (execCheckpoint vd value t) := by
  unfold Machine.execCheckpoint
  split
  · exact .next h.writeCkctl
  · exact .next h

theorem Keeps.execCheckpointArmed (h : Keeps s t) {vd} : Goes s (execCheckpointArmed vd t) := by
  unfold Machine.execCheckpointArmed
  split
  · split
    · exact .next h
    · split
      · exact .next h.ckAdvance
      · split
        · exact .next h
        · exact .next h.updVd.updCk.ckCopy
  · exact .next h

theorem Keeps.execCheckpointCommit (h : Keeps s t) {vd answered} : Goes s (execCheckpointCommit vd answered t) := by
  unfold Machine.execCheckpointCommit
  split
  · exact .next h
  · split
    · exact .next h
    · split
      · exact .next h.endCk
      · split
        · exact .next (.ite h.ckCopy h)
        · extract_lets t1
          have h1 : Keeps s t1 := h.ckSend
          split
          · exact .next h1
          · split
            · exact .next h1.endCk
            · exact .next h1.updCk.ckSend

theorem Keeps.execRestore (h : Keeps s t) {vd value parts} : Goes s (execRestore vd value parts t) := by
  unfold Machine.execRestore
  split
  · exact .next h.writeCkctl
  · exact .next h

theorem Keeps.execRestoreComplete (h : Keeps s t) {vd} : Goes s (execRestoreComplete vd t) := by
  unfold Machine.execRestoreComplete
  split
  · split
    · exact .next h
    · split
      · exact .next h.ckAdvance
      · split
        · exact .next h
        · exact .next h.updVd.endCk
  · exact .next h

/-! CTLC (19 R422-R429). -/

theorem Keeps.takeKick (h : Keeps s t) {q} : Keeps s (t.takeKick q).2 := by
  unfold State.takeKick
  extract_lets
  split
  · exact h
  · split
    · exact h.setQueue
    · exact h.queueError

theorem Keeps.kscanOp (h : Keeps s t) {len o} : Goes s (kscanOp len o t) := by
  unfold Machine.kscanOp
  refine h.checked fun _ h1 => ?_
  extract_lets
  split
  · split
    · exact .next h1.writeNext
    · extract_lets
      split
      · next e => exact .next (h1.updQueue.takeKick.snd e).writeNext
  · split
    · exact .next h1.writeNext
    · exact .next h1.updQueue.writeNext
  · split
    · exact .next h1.writeNext
    · exact .next h1.updQueue.writeNext

theorem Keeps.jappendOp (h : Keeps s t) {len o} : Goes s (jappendOp len o t) := by
  unfold Machine.jappendOp
  refine h.checked fun _ h1 => ?_
  extract_lets
  split
  · exact .next h1
  · split
    · exact .next h1.writeNext
    · exact .next h1.setPair.writeNext

theorem Keeps.jreadOp (h : Keeps s t) {len o} : Goes s (jreadOp len o t) := by
  unfold Machine.jreadOp
  refine h.checked fun _ h1 => ?_
  extract_lets
  split
  · split
    · exact .next h1.machineCheck
    · exact .next h1.writeNext
  · exact .next h1.writeNext

theorem Keeps.vdcmd (h : Keeps s t) {len o size k} (hk : ∀ x u, Keeps s u → Goes s (k x u)) :
    Goes s (Machine.vdcmd len o size t k) := by
  unfold Machine.vdcmd
  refine h.checked fun u hu => ?_
  extract_lets
  split
  · exact .next hu.writeNext
  · exact hk _ u hu

theorem Keeps.writeStatus (h : Keeps s t) {len sd} : Keeps s (t.writeStatus len sd) := by
  unfold State.writeStatus
  split
  · next e => exact (h.drawFree.snd e).writeNext

theorem Keeps.vdrdOp (h : Keeps s t) {len o} : Goes s (vdrdOp len o t) := h.vdcmd fun _ _ h1 => .next h1.writeNext

theorem Keeps.vdwrOp (h : Keeps s t) {len o} : Goes s (vdwrOp len o t) :=
  h.vdcmd fun _ _ h1 => .next h1.updVd.writeStatus

theorem Keeps.qrdOp (h : Keeps s t) {len o} : Goes s (qrdOp len o t) := h.vdcmd fun _ _ h1 => .next h1.writeNext

theorem Keeps.qwrOp (h : Keeps s t) {len o} : Goes s (qwrOp len o t) := by
  unfold Machine.qwrOp
  refine h.vdcmd fun _ _ h1 => ?_
  extract_lets _ t1
  have h2 : Keeps s t1 := .ite h1.updQueue h1
  exact .next h2.writeStatus

theorem Keeps.irtrdOp (h : Keeps s t) {len o} : Goes s (irtrdOp len o t) := h.vdcmd fun _ _ h1 => .next h1.writeNext

theorem Keeps.irtwrOp (h : Keeps s t) {len o} : Goes s (irtwrOp len o t) := by
  unfold Machine.irtwrOp
  refine h.vdcmd fun _ _ h1 => ?_
  extract_lets
  exact .next h1.setIrt.writeStatus

theorem Keeps.startOp (h : Keeps s t) {len o} : Goes s (startOp len o t) := by
  unfold Machine.startOp
  refine h.vdcmd fun _ _ h1 => ?_
  split
  · next e => exact .next (h1.startRecord.snd e).writeNext

theorem Keeps.retireOp (h : Keeps s t) {len o} : Goes s (retireOp len o t) := by
  unfold Machine.retireOp
  refine h.vdcmd fun _ _ h1 => ?_
  split
  · next e => exact .next (h1.retireRecord.snd e).writeNext

theorem Keeps.killVd (h : Keeps s t) {vd} : Keeps s (t.killVd vd) := h.abandonCk.upd rfl

theorem Keeps.killOp (h : Keeps s t) {len o} : Goes s (killOp len o t) := by
  unfold Machine.killOp
  refine h.vdcmd fun _ _ h1 => ?_
  extract_lets
  split
  · exact .next h1.killVd
  · exact .next (Keeps.ite h1 h1.setVd).writeNext
  · exact .next h1

theorem Keeps.irqsendOp (h : Keeps s t) {len o} : Goes s (irqsendOp len o t) :=
  h.checked fun _ h1 => .next h1.interrupt.advance

theorem Keeps.choldOp (h : Keeps s t) {len o} : Goes s (choldOp len o t) :=
  h.checked fun _ h1 => .next (h1.foldl fun _ _ h2 => h2.holdEntry).advance

theorem Keeps.creleaseOp (h : Keeps s t) {len o} : Goes s (creleaseOp len o t) :=
  h.checked fun _ h1 => .next (h1.foldl fun _ _ h2 => h2.releaseEntry).advance

/-! Placement and the scheduler. -/

theorem Keeps.charge (h : Keeps s t) {g} : Keeps s (t.charge g) := h.updVd.updGrid.updGroup

theorem Keeps.takeCore (h : Keeps s t) {vd core} : Keeps s (t.takeCore vd core) := h.updVd

theorem Keeps.leaveCore (h : Keeps s t) {vd core} : Keeps s (t.leaveCore vd core) := .ite h h.updVd

theorem Keeps.evalMirrors (h : Keeps s t) {core} : Keeps s (t.evalMirrors core) :=
  h.foldl fun _ _ h1 => Keeps.ite h1 h1.updGroup

theorem Keeps.execMirrorCopyFinished (h : Keeps s t) {g w} : Goes s (execMirrorCopyFinished g w t) := by
  unfold Machine.execMirrorCopyFinished
  split
  · exact .next h.updWarp
  · exact .next h

theorem Keeps.drawWindow (h : Keeps s t) {used n} : Keeps s (t.drawWindow used n).2 := by
  unfold State.drawWindow
  extract_lets
  split
  · exact h
  · split
    · next e =>
        extract_lets
        exact h.drawFree.snd e

theorem Keeps.seat (h : Keeps s t) {core r ws} : Keeps s (t.seat core r ws).2 := by
  unfold State.seat
  extract_lets
  split
  next u e => 
    have h1 : Keeps s u := by
      refine Keeps.ofFoldl e h fun y i hy => ?_
      split
      next e1 => exact hy.drawWindow.snd e1
    exact h1

theorem Keeps.wakeBanks (h : Keeps s t) {core segments} : Keeps s (t.wakeBanks core segments) := h.updCore

theorem Keeps.placeGroup (h : Keeps s t) {n wgid core} : Keeps s (t.placeGroup n wgid core) := by
  unfold State.placeGroup
  extract_lets
  split
  · next e =>
      split
      · next e1 =>
            split
            exact ((h.seat.snd e).fresh.snd e1).setGroup.updCore.acquireCore.wakeBanks.takeCore.evalMirrors

theorem Keeps.replayAgent (h : Keeps s t) {a} : Keeps s (t.replayAgent a) := by
  unfold State.replayAgent
  extract_lets
  refine Keeps.foldl h fun _ _ h1 => ?_
  split
  · exact h1.setWork
  · exact h1.setWork
  · exact h1.replayLanes

theorem Keeps.seatKept (h : Keeps s t) {g core} : Keeps s (t.seatKept g core) :=
  h.updGroup.wakeBanks.takeCore.evalMirrors

theorem Keeps.resumeGroup (h : Keeps s t) {g core} : Keeps s (t.resumeGroup g core) := by
  unfold State.resumeGroup
  extract_lets
  split
  next e =>
    have h1 := h.seat.snd e
    extract_lets _ _ _ _ _ _ t1 _ _ t2 t3 t4
    have h2 : Keeps s t1 := h1.setGroup.fresh.foldl fun _ _ hu => hu.register
    have h3 : Keeps s t2 := h2.updGroup.updCore.updVd.acquireCore.wakeBanks.takeCore.syncFlues
    have h4 : Keeps s t3 := h3.foldl fun _ _ hu => hu.replayAgent
    have h5 : Keeps s t4 := .ite h4.haltBroadcast h4
    exact h5.evalMirrors

theorem Keeps.placeUnit (h : Keeps s t) {vd u' cores} : Keeps s (t.placeUnit vd u' cores) := by
  unfold State.placeUnit
  extract_lets v1 _ t1 t2
  have h1 : Keeps s t1 := h.updVd
  have h2 : Keeps s t2 := by
    unfold t2
    split
    · refine Keeps.updGrid ?_
      unfold v1
      exact h1.foldl fun _ _ h3 => h3.placeGroup
    · refine Keeps.updGrid ?_
      unfold v1
      exact h1.foldl fun _ _ h3 => h3.placeGroup
    · unfold v1
      exact h1.foldl fun _ _ h3 => Keeps.ite h3.seatKept h3.resumeGroup
  exact h2.noteBacklog

theorem Keeps.pickUnit (h : Keeps s t) {vd us} : Keeps s (t.pickUnit vd us).2 := by
  induction us generalizing t with
  | nil => exact h
  | cons u us ih =>
    unfold State.pickUnit
    split
    extract_lets
    split
    · exact h
    · exact ih (.ite h.setVd h)

theorem Keeps.decision (h : Keeps s t) {cores l} : Keeps s (t.decision cores l) := by
  induction l generalizing t with
  | nil => exact h
  | cons x rest ih =>
    unfold State.decision
    split
    · next e => exact ih (h.pickUnit.snd e)
    · next e =>
        have h1 := h.pickUnit.snd e
        split
        exact .ite h1.placeUnit h1

theorem Keeps.execDispatchDecision (h : Keeps s t) {part cores} : Goes s (execDispatchDecision part cores t) := by
  unfold Machine.execDispatchDecision
  extract_lets
  split
  · exact .next h
  · exact .next h.decision

theorem Keeps.dropScratch (h : Keeps s t) {g} : Keeps s (t.dropScratch g) := h.filter rfl

theorem Keeps.releaseGroup (h : Keeps s t) {g} : Keeps s (t.releaseGroup g) := by
  unfold State.releaseGroup
  extract_lets _ _ t1 t2 _ t3
  have h1 : Keeps s t1 := h.charge
  have h2 : Keeps s t2 := (h1.foldl fun _ _ h3 => h3.detach).dropScratch
  have h3 : Keeps s t3 := h2.setGroup
  split
  · exact h3.updCore.leaveCore.evalMirrors
  · exact h3.leaveCore.evalMirrors
  · exact h3

theorem Keeps.keepGroup (h : Keeps s t) {g} : Keeps s (t.keepGroup g) :=
  (h.charge.foldl fun _ _ h1 => h1.detach).setGroup.updCore.evalMirrors

theorem Keeps.execWorkgroupEnd (h : Keeps s t) {g} : Goes s (execWorkgroupEnd g t) := by
  unfold Machine.execWorkgroupEnd
  split
  · extract_lets _ t1 t2
    have h1 : Keeps s t1 := h.sendVd
    have h2 : Keeps s t2 := .ite (h1.foldl fun _ _ h3 => h3.releaseGroup) h1.keepGroup
    exact .next h2.updGrid.noteBacklog
  · exact .next h

theorem Keeps.execGridEnd (h : Keeps s t) {grid} : Goes s (execGridEnd grid t) := by
  unfold Machine.execGridEnd
  extract_lets
  split
  · exact .next h.updGrid.noteBacklog
  · exact .next h

theorem Keeps.execDamperWindowEnd (h : Keeps s t) {vd} : Goes s (execDamperWindowEnd vd t) := by
  unfold Machine.execDamperWindowEnd
  extract_lets
  exact .next h.updVd.rerunVd

theorem Keeps.execBankPowerGate (h : Keeps s t) {core bank} : Goes s (execBankPowerGate core bank t) := by
  unfold Machine.execBankPowerGate
  split
  · exact .next h
  · exact .next h.updCore

/-! Halts, handlers, slice ends and saves (16 R374-R389). -/

theorem Keeps.dropWaits (h : Keeps s t) {a} : Keeps s (t.dropWaits a) := h.upd rfl

theorem Keeps.settleHalt (h : Keeps s t) {g h'} : Keeps s (t.settleHalt g h') :=
  (h.foldl fun _ _ h1 => h1.dropWaits).updGroup

theorem Keeps.enterTrap (h : Keeps s t) {g wn} : Keeps s (t.enterTrap g wn) := by
  unfold State.enterTrap
  extract_lets _ t1
  have h1 : Keeps s t1 := h.fresh
  split
  · exact h
  · exact .ite h1.updGroup.setWarp h1.updGroup.setWarp.afterHandler

theorem Keeps.enterSlice (h : Keeps s t) {g} : Keeps s (t.enterSlice g) :=
  .ite h.fresh.updGroup h.fresh.updGroup.updGroup

theorem Keeps.execHandlerEntry (h : Keeps s t) {g} : Goes s (Machine.execHandlerEntry g t) := by
  unfold Machine.execHandlerEntry
  extract_lets x enter
  have henter : ∀ {u}, Keeps s u → Keeps s (enter u) := by
    intro u hu
    unfold enter
    extract_lets
    split
    · exact .ite hu hu.afterHandler
    · split
      · exact .ite hu hu.enterTrap
      · exact hu
  split
  · exact .next h
  · split
    · exact .next (henter h.settleHalt)
    · split
      · exact .next h
      · exact .next (henter h)
    · exact .next h.settleHalt.enterSlice
    · exact .next h

theorem Keeps.execAsyncTrap (h : Keeps s t) {g} : Goes s (execAsyncTrap g t) := by
  unfold Machine.execAsyncTrap
  extract_lets _ v1
  split
  · exact .next h
  · extract_lets t1
    have h1 : Keeps s t1 := h.updGroup.updWarp
    split
    · exact .next h
    · unfold v1
      split
      · exact .next h.updGroup
      · split
        · exact .next h.updGroup
        · split
          · exact .next (.ite h h.haltBroadcast)
          · exact .next (.ite h h1)
          · exact .next (.ite h h1)
          · exact .next h

theorem Keeps.preempt (h : Keeps s t) {g} : Keeps s (t.preempt g) := by
  unfold State.preempt
  split
  · exact h.startSlice
  · exact .ite h.updGroup h.updGroup
  · exact h

theorem Keeps.execSliceEnd (h : Keeps s t) {vd core} : Goes s (execSliceEnd vd core t) := by
  unfold Machine.execSliceEnd
  extract_lets
  split
  · exact .next (h.foldl fun _ _ h1 => h1.charge.preempt)
  · exact .next (h.foldl fun _ _ h1 => h1.charge.updGroup)

theorem Keeps.execSliceBudgetExpire (h : Keeps s t) {g} : Goes s (execSliceBudgetExpire g t) := by
  unfold Machine.execSliceBudgetExpire
  extract_lets
  split
  · exact .next h.updGroup
  · split
    · exact .next h.updGroup
    · exact .next h
  · exact .next h

theorem Keeps.cancelLoads (h : Keeps s t) {a} : Keeps s (t.cancelLoads a) := h.updAgent.upd rfl

theorem Keeps.saveKept (h : Keeps s t) {g} : Keeps s (t.saveKept g) :=
  .ite h (h.foldl fun _ _ h1 => h1.updGroup.leaveCore.evalMirrors)

theorem Keeps.saveGroup (h : Keeps s t) {g cooperative swap} : Keeps s (t.saveGroup g cooperative swap) := by
  unfold State.saveGroup
  extract_lets t1 _ _ t2 _ t3 _ t4 t5 _ t6
  have h1 : Keeps s t2 := h.charge.foldl fun _ _ h2 => h2.dropWaits
  have h2 : Keeps s t3 := h1.foldl fun _ _ h3 => h3.unlock
  clear_value t3
  have h3 : Keeps s t4 := .ite (h2.filter rfl) h2
  have h4 : Keeps s t5 := h3.setGroup.updCore
  have h5 : Keeps s t6 := h4.updVd
  clear_value t6
  exact h5.leaveCore.evalMirrors.syncFlues.saveKept.noteBacklog

theorem Keeps.keepRunning (h : Keeps s t) {g swap} : Keeps s (t.keepRunning g swap) :=
  h.foldl fun _ _ h1 => h1.charge.updGroup

theorem Keeps.trySave (h : Keeps s t) {g cooperative swap} : Keeps s (t.trySave g cooperative swap) := by
  unfold State.trySave
  extract_lets _ t1 _ t2
  have h2 : Keeps s t2 := .ite (h.sendVd.foldl fun _ _ hu => hu.cancelLoads) h.sendVd
  exact .ite h.keepRunning (.ite h2.saveGroup h2)

theorem Keeps.execContextSave (h : Keeps s t) {g} : Goes s (execContextSave g t) := by
  unfold Machine.execContextSave
  extract_lets
  split
  · split
    · exact .next h.trySave
    · exact .next h
  · exact .next h

theorem Keeps.execForwardProgressSwap (h : Keeps s t) {core} : Goes s (execForwardProgressSwap core t) := by
  unfold Machine.execForwardProgressSwap
  split
  · exact .next h
  · extract_lets _ _ v1
    unfold v1
    split
    · exact .next h
    · exact .next (h.foldl fun _ _ h1 => h1.updGroup)

/-! Frames, stage-2 tables and the paging engine (12 R305-R317). -/

theorem Keeps.takeRun (h : Keeps s t) {part n align o page} {x u} (e : t.takeRun part n align o page = some (x, u)) : Keeps s u := by
  unfold State.takeRun at e
  split at e
  · cases e
    exact h.upd rfl
  · cases e

theorem Keeps.wipeFrames (h : Keeps s t) {f n} : Keeps s (t.wipeFrames f n) := h.filter rfl

theorem Keeps.freeRun (h : Keeps s t) {f} : Keeps s (t.freeRun f) := by
  unfold State.freeRun
  split
  · exact h.revoke.wipeFrames.upd rfl
  · exact h

theorem Keeps.writeEntry (h : Keeps s t) {slot w} : Keeps s (t.writeEntry slot w) := h.engineStore

theorem Keeps.putLeaf (h : Keeps s t) {vd target leaf pa lvl table u} (e : t.putLeaf vd target leaf pa lvl table = some u) :
    Keeps s u := by
  induction lvl generalizing t table with
  | zero => cases e
  | succ lvl ih =>
    unfold State.putLeaf at e
    extract_lets at e
    split at e
    · cases e
      exact h.writeEntry
    · split at e
      · exact ih h e
      · split at e
        · cases e
        · next e1 =>
            have h1 := h.takeRun e1
            extract_lets at e
            refine ih (Keeps.writeEntry (.ite (h1.foldl fun _ _ hu => hu.writeEntry) h1)) e

theorem Keeps.mapAt (h : Keeps s t) {vd lvl pa leaf} {u} (e : t.mapAt vd lvl pa leaf = some u) : Keeps s u := by
  unfold State.mapAt at e
  exact h.putLeaf e

theorem Keeps.evict (h : Keeps s t) {vd f page} : Keeps s (t.evict vd f page) := by
  unfold State.evict
  split
  · exact h.freeRun
  · exact (Keeps.ite h.writeEntry.revoke.performOutside.meterHbm h.writeEntry.revoke).freeRun

theorem Keeps.sweep (h : Keeps s t) {vd l} : Keeps s (t.sweep vd l).2 := by
  induction l generalizing t with
  | nil => exact h
  | cons x rest ih =>
    unfold State.sweep
    split
    · exact h
    · split
      · exact ih h.writeEntry
      · exact h

theorem Keeps.evictOne (h : Keeps s t) {vd} {u} (e : t.evictOne vd = some u) : Keeps s u := by
  unfold State.evictOne at e
  extract_lets at e
  split at e
  · next e1 =>
      cases e
      exact (h.sweep.snd e1).evict.updVd
  · cases e

theorem Keeps.bringIn (h : Keeps s t) {vd page u} (e : t.bringIn vd page = some u) : Keeps s u := by
  unfold State.bringIn at e
  extract_lets at e
  split at e
  · cases e
  · next v e1 =>
      have h1 : Keeps s v := by
        split at e1
        · exact h.evictOne e1
        · cases e1
          exact h
      split at e
      · cases e
      · next e2 =>
          have h2 := h1.takeRun e2
          exact h2.performOutside.meterHbm.mapAt e

theorem Keeps.execPageMigrationComplete (h : Keeps s t) {vd page} : Goes s (execPageMigrationComplete vd page t) := by
  unfold Machine.execPageMigrationComplete
  extract_lets
  split
  · exact .next h
  · split
    · exact .next h
    · next e => exact .next ((h.bringIn e).foldl fun _ _ h1 => (Keeps.ite (h1.getD fun _ e1 => h1.bringIn e1) h1))

theorem Keeps.dropRecord (h : Keeps s t) {vd f} : Keeps s (t.dropRecord vd f) := h.updVd

theorem Keeps.answer (h : Keeps s t) {r y} : Keeps s (t.answer r y) := by
  unfold State.answer
  split
  · exact h
  · extract_lets t1
    have h1 : Keeps s t1 := h.transmit
    split
    · exact h1.meterLink
    · exact h1

theorem Keeps.serveHeld (h : Keeps s t) {vd page} : Keeps s (t.serveHeld vd page) := by
  unfold State.serveHeld
  extract_lets _ t1
  have h1 : Keeps s t1 := h.upd rfl
  refine Keeps.foldl h1 fun _ _ h2 => ?_
  split
  · exact h2
  · split
    · next e => exact (h2.serve.snd e).answer
    · next e => exact (h2.serve.snd e).upd rfl

theorem Keeps.recordAgain (h : Keeps s t) {q i} : Keeps s (t.recordAgain q i) :=
  .ite h.runRecord (.ite h.showAgain h.updQueue)

theorem Keeps.recordLost (h : Keeps s t) {q i} : Keeps s (t.recordLost q i) := by
  unfold State.recordLost
  split
  · exact .ite h.finishLaunch h.completeRun
  · exact .ite h.showLost h.queueError

theorem Keeps.retryParts (h : Keeps s t) {vd f} : Keeps s (t.retryParts vd f) := by
  unfold State.retryParts
  extract_lets t1
  have h1 : Keeps s t1 := h.dropRecord
  split
  · split
    · exact h1
    · split
      · exact h1.setWork
      · exact h1.setWork
      · exact h1.replayLanes
  · split
    · exact h1.setMatOp
    · exact h1.updGroup
    · exact h1
  · split
    · exact h1.setPush
    · exact h1
  · exact h1.recordAgain
  · exact h1
  · exact h1.serveHeld
  · exact h1.ckAdvance
  · exact h1

theorem Keeps.abortParts (h : Keeps s t) {vd f} : Keeps s (t.abortParts vd f) := by
  unfold State.abortParts
  extract_lets t1
  have h1 : Keeps s t1 := h.dropRecord
  split
  · split
    · exact h1.as.unwait.trapAt.upd rfl
    · split
      · exact h1.failCopy
      · exact h1.endStream
      · exact h1.abortLanes
  · split
    · split
      · exact h1.abortRows
      · exact h1.abortRows
      · exact h1
    · split
      · exact h1.updGroup.abortRows
      · exact h1.updGroup.abortRows
      · exact h1
    · exact h1
  · exact h1.partError.setPush
  · exact h1.recordLost
  · exact h1.as.unwait.trap.upd rfl
  · exact h1
  · exact h1.endCk
  · exact h1

theorem Keeps.execParkedReplay (h : Keeps s t) {vd page} : Goes s (execParkedReplay vd page t) := by
  unfold Machine.execParkedReplay
  extract_lets
  exact .next (h.foldl fun _ _ h1 => h1.retryParts).serveHeld

theorem Keeps.answerFault (h : Keeps s t) {vd index abort} : Keeps s (t.answerFault vd index abort) := by
  unfold State.answerFault
  extract_lets _ t1
  have h1 : Keeps s t1 := h.setVd
  split
  · exact h
  · split
    · exact .ite h1.abortParts h1.retryParts
    · exact h1

theorem Keeps.storeAbort (h : Keeps s t) {vd abort} : Keeps s (t.storeAbort vd abort) := .ite h.updVd h

theorem Keeps.writeFqcfg (h : Keeps s t) {vd value} : Keeps s (t.writeFqcfg vd value) :=
  .ite h (.ite h.setVd (.ite h (.ite h.setVd h.setVd)))

theorem Keeps.writeFqcons (h : Keeps s t) {vd value} : Keeps s (t.writeFqcons vd value) := .ite h h.setVd

theorem Keeps.execFaultPostResume (h : Keeps s t) {vd} : Goes s (execFaultPostResume vd t) := by
  unfold Machine.execFaultPostResume
  extract_lets _ t1
  have h1 : Keeps s t1 := .ite h.ringError h
  split
  · exact .next h
  · split
    · exact .next h
    · split
      · split
        · exact .next h1.updVd
        · exact .next h1.abortParts.markAborted
      · exact .next h1.postRecord

/-! Gang kills and relaunch (17 R396, R397). -/

theorem Keeps.dropWork (h : Keeps s t) {gs} : Keeps s (t.dropWork gs) := h.upd rfl

theorem Keeps.dropGroups (h : Keeps s t) {gs} : Keeps s (t.dropGroups gs) :=
  h.dropWork.foldl fun _ _ h1 => h1.releaseGroup

theorem Keeps.failTree (h : Keeps s t) {n c gang} : Keeps s (t.failTree n c gang) := h.upd rfl

theorem Keeps.execGangKill (h : Keeps s t) {g} : Goes s (execGangKill g t) := by
  unfold Machine.execGangKill
  extract_lets _ _ _ _ _ t1
  have h1 : Keeps s t1 := h.dropGroups
  split
  · exact .next h
  · split
    · exact .next h
    · extract_lets _ t2
      have h2 : Keeps s t2 := .ite h1.setGrid h1.failTree.updGrid
      exact .next h2.noteBacklog

theorem Keeps.execGangRelaunch (h : Keeps s t) {grid gang} : Goes s (execGangRelaunch grid gang t) := by
  unfold Machine.execGangRelaunch
  extract_lets
  split
  · exact .next h
  · split
    · split
      · exact .next h
      · split
        · exact .next h.setGrid
        · exact .next h.setGrid.noteBacklog
    · split
      · exact .next h
      · split
        · exact .next h.setGrid
        · exact .next h.setGrid.noteBacklog

theorem Keeps.drainEngine (h : Keeps s t) {vd a} : Keeps s (t.drainEngine vd a) := by
  unfold State.drainEngine
  split
  · exact h.dropGroups
  · exact h.foldl fun _ _ h1 => h1.updGroup.foldl fun _ _ h2 => h2.unlock
  · exact h.upd rfl
  · exact h.updVd
  · exact h.upd rfl
  · exact h.upd rfl
  · exact h.foldl fun _ _ h1 => h1.dropPart
  · exact h.upd rfl
  · exact h.forgetVd

theorem Keeps.execEngineDrained (h : Keeps s t) {vd e'} : Goes s (execEngineDrained vd e' t) := by
  unfold Machine.execEngineDrained
  split
  · exact .next h
  · split
    · exact .next h.drainEngine.updVd
    · exact .next h

theorem Keeps.discardWork (h : Keeps s t) {vd} : Keeps s (t.discardWork vd) :=
  ((h.dropGroups.foldl fun _ _ h1 => h1.dropPart).upd (by rfl)).updVd.noteBacklog

end

end Sys2Proof.Machine

/-! PROOFS. Canonical memory is kept by the life of a VD, control cores, ports, the fabric and the package. -/

namespace Sys2Proof.Machine

section
variable {s t : State}

/-! Commands, and the life of a VD. -/

theorem Keeps.complete (h : Keeps s t) {status} : Keeps s (t.complete status) := (h.upd (by rfl)).send

theorem Keeps.acceptGo (h : Keeps s t) : Keeps s t.acceptGo := .ite (h.upd (by rfl)).complete (h.upd rfl)

theorem Keeps.writeGo (h : Keeps s t) : Keeps s t.writeGo := .ite (h.upd rfl) h.acceptGo

theorem Keeps.begin_ (h : Keeps s t) {k} (hk : ∀ x u, Keeps s u → Keeps s (k x u)) : Keeps s (t.begin_ k) := by
  unfold State.begin_
  split
  · exact .ite h (hk _ _ (h.upd rfl))
  · exact h

theorem Keeps.command (h : Keeps s t) {p k} (hk : ∀ x u, Keeps s u → Keeps s (k x u)) : Goes s (t.command p k) := by
  unfold State.command
  split
  · split
    · exact .next h.writeGo
    · split
      · exact .next (h.begin_ hk)
      · exact .next h
  · split
    · exact .next (h.acceptGo.begin_ hk)
    · exact .next h

theorem Keeps.execCreate (h : Keeps s t) : Goes s (execCreate t) := by
  unfold Machine.execCreate
  refine h.command fun _ _ h1 => ?_
  extract_lets
  split
  · exact h1.complete
  · split
    · exact h1.complete
    · split
      · exact h1.complete
      · split
        · exact h1.complete
        · exact .ite h1.complete (h1.setVd.foldl fun _ _ h2 => h2.setQueue)

theorem Keeps.mapHost (h : Keeps s t) {vd pa last fuel u} (e : t.mapHost vd pa last fuel = some u) : Keeps s u := by
  induction fuel generalizing t pa with
  | zero =>
    cases e
    exact h
  | succ fuel ih =>
    unfold State.mapHost at e
    split at e
    · cases e
      exact h
    · extract_lets at e
      split at e
      · next e1 => exact ih (h.mapAt e1) e
      · cases e

theorem Keeps.buildStage2 (h : Keeps s t) {vd u} (e : t.buildStage2 vd = some u) : Keeps s u := by
  unfold State.buildStage2 at e
  split at e
  · cases e
  · next e1 =>
      have h1 := h.takeRun e1
      extract_lets t1 v blocks at e
      have h2 : Keeps s t1 := h1.updVd
      clear_value t1
      split at e
      · cases e
        exact h2
      · obtain ⟨w, hw, ew⟩ := Option.bind_eq_some_iff.mp e
        refine Keeps.mapHost ?_ ew
        refine foldl_bind_keeps (Keeps s) h2 (fun y i z hy ez => ?_) hw
        obtain ⟨r, hr, er⟩ := Option.bind_eq_some_iff.mp ez
        exact (hy.takeRun (x := r.1) (u := r.2) hr).mapAt er

theorem Keeps.setIrts (h : Keeps s t) {vd valid} : Keeps s (t.setIrts vd valid) := by
  unfold State.setIrts
  extract_lets _ _ t1
  have h1 : Keeps s t1 := h.foldl fun _ _ hu => hu.setIrt
  exact .ite h1.loadIrts h1

theorem Keeps.makeKeys (h : Keeps s t) {n} : Keeps s (t.makeKeys n) := h.upd rfl

theorem Keeps.retireKeys (h : Keeps s t) {n} : Keeps s (t.retireKeys n) := .ite h (h.upd rfl)

theorem Keeps.execCreateComplete (h : Keeps s t) {vd found} : Goes s (Machine.execCreateComplete vd found t) := by
  unfold Machine.execCreateComplete
  split
  · exact .next h
  · split
    · next e =>
        split at e
        · exact .next (h.buildStage2 e).makeKeys.updVd.setIrts.complete
        · cases e
    · exact .next h.setVd.complete

theorem Keeps.startReset (h : Keeps s t) {vd reason byOther queue prov} : Keeps s (t.startReset vd reason byOther queue prov) :=
  .ite h (h.abandonCk.upd rfl)

theorem Keeps.startDestroy (h : Keeps s t) {vd} : Keeps s (t.startDestroy vd) :=
  ((h.foldl fun _ _ h1 => h1.updQueue).setIrts.upd (by rfl)).killVd.updVd

theorem Keeps.releaseSlot (h : Keeps s t) {n} : Keeps s (t.releaseSlot n) := by
  unfold State.releaseSlot
  split
  · exact h
  · exact .ite (h.upd rfl) ((h.retireKeys.foldl fun _ _ h1 => h1.freeRun).upd rfl)

theorem Keeps.execDestroyDrained (h : Keeps s t) {vd} : Goes s (execDestroyDrained vd t) := by
  unfold Machine.execDestroyDrained
  extract_lets _ t1 t2 t3
  have h1 : Keeps s t1 := h.discardWork
  have h2 : Keeps s t2 := h1.foldl fun _ _ h3 => h3.releaseSlot
  have h3 : Keeps s t3 := h2.forgetVd.retireKeys.updVd
  split
  · exact .next h
  · exact .next (.ite h3.complete h3)

theorem Keeps.wipeDie (h : Keeps s t) {vd from_} : Keeps s (t.wipeDie vd from_) := h.foldl fun _ _ h1 => h1.filter rfl

theorem Keeps.execWipeComplete (h : Keeps s t) {vd} : Goes s (execWipeComplete vd t) := by
  unfold Machine.execWipeComplete
  extract_lets _ t1 t2
  have h1 : Keeps s t1 := h.foldl fun _ _ h2 => h2.freeRun
  have h2 : Keeps s t2 := h1.foldl fun _ _ h3 => h3.updQueue
  split
  · exact .next h
  · exact .next h2.wipeDie.setVd

theorem Keeps.freeFrame (h : Keeps s t) {f} : Keeps s (t.freeFrame f) := by
  unfold State.freeFrame
  split
  · exact h
  · exact h.revoke.wipeFrames.upd rfl

theorem Keeps.unmapPage (h : Keeps s t) {vd page} : Keeps s (t.unmapPage vd page) := by
  unfold State.unmapPage
  split
  · exact h
  · exact .ite h (.ite h.freeFrame h.evict)

theorem Keeps.mapShared (h : Keeps s t) {vd slot first x} : Keeps s (t.mapShared vd slot first x) := by
  unfold State.mapShared
  extract_lets mapped
  have hm : ∀ u, mapped = some u → Keeps s u := fun u e =>
    foldl_bind_keeps (Keeps s) h (fun y i z hy ez => hy.unmapPage.mapAt ez) e
  clear_value mapped
  split
  · exact h.complete
  · split
    · exact h.complete
    · exact (Keeps.upd (hm _ rfl) (by rfl)).complete

theorem Keeps.takeFrames (h : Keeps s t) {part slot n x u} (e : t.takeFrames part slot n = some (x, u)) : Keeps s u := by
  unfold State.takeFrames at e
  split at e
  · next e1 =>
      cases e
      exact h.takeRun e1
  · refine foldl_bind_keeps (fun y : List Nat × State => Keeps s y.2) (x := ([], t)) h (fun y i z hy ez => ?_) e
    obtain ⟨r, hr, er⟩ := Option.map_eq_some_iff.mp ez
    cases er
    exact hy.takeRun hr

theorem Keeps.execSharemap (h : Keeps s t) : Goes s (execSharemap t) := by
  unfold Machine.execSharemap
  refine h.command fun _ _ h1 => ?_
  extract_lets
  split
  · exact h1.complete
  · split
    · exact h1.complete
    · split
      · exact h1.complete
      · split
        · exact .ite h1.complete h1.mapShared
        · split
          · exact h1.complete
          · split
            · exact h1.complete
            · next e => exact (h1.takeFrames e).upd rfl

theorem Keeps.execSharemapComplete (h : Keeps s t) {slot} : Goes s (execSharemapComplete slot t) := by
  unfold Machine.execSharemapComplete
  split
  · split
    · exact .next h
    · split
      · extract_lets t1
        have h1 : Keeps s t1 := h.foldl fun _ _ h2 => h2.freeRun
        exact .next (h1.upd (by rfl)).complete
      · extract_lets _ t2 _ t3
        have h1 : Keeps s t2 := h.makeKeys.foldl fun _ _ h2 => h2.performOutside
        have h2 : Keeps s t3 := h1.upd rfl
        exact .next h2.mapShared
  · exact .next h

theorem Keeps.execSharedFrameRepair (h : Keeps s t) {slot page readable persistent} :
    Goes s (execSharedFrameRepair slot page readable persistent t) := by
  unfold Machine.execSharedFrameRepair
  split
  · exact .next h
  · split
    · exact .next h
    · extract_lets _ _ _ v1
      have hclose : ∀ {u}, Keeps s u → Keeps s (v1 u) := fun h => h.upd rfl
      split
      · exact .next (hclose h.performOutside)
      · split
        · exact .next h
        · next e =>
            extract_lets _ t1 t2 _ t3
            have h1 : Keeps s t1 := (h.takeRun e).performOutside
            have h2 : Keeps s t2 := h1.freeFrame
            have h3 : Keeps s t3 := h2.upd rfl
            refine .next (hclose ?_)
            refine Keeps.foldl h3 fun _ _ h4 => ?_
            refine Keeps.foldl h4 fun _ _ h5 => ?_
            split
            · exact h5.writeEntry
            · exact h5

theorem Keeps.writeAshbase (h : Keeps s t) {vd value} : Keeps s (t.writeAshbase vd value) := by
  unfold State.writeAshbase
  extract_lets t1 _ _ _ t2
  have h1 : Keeps s t1 := h.updVd
  have h2 : Keeps s t2 := h1.foldl fun _ _ hu => .ite (hu.getD fun _ e => hu.bringIn e) hu
  exact .ite h1 (.ite h2 h2.updVd)

theorem Keeps.execAshbaseWrite (h : Keeps s t) {vd value} : Goes s (execAshbaseWrite vd value t) := by
  unfold Machine.execAshbaseWrite
  split
  · exact .next h.writeAshbase
  · exact .next h

theorem Keeps.writeDump (h : Keeps s t) {vd bs} : Keeps s (t.writeDump vd bs).2 := by
  unfold State.writeDump
  extract_lets
  refine Keeps.foldl_snd h fun _ _ h1 => ?_
  split
  · exact h1
  · split
    · next e =>
        have h2 := h1.stage2.snd e
        split
        · exact h2
        · extract_lets _ t1
          have h3 : Keeps s t1 := h2.engineStore
          exact .ite h3.meterHbm h3
    · next e => exact h1.stage2.snd e

theorem Keeps.execAshpitDumpDone (h : Keeps s t) {vd} : Goes s (execAshpitDumpDone vd t) := by
  unfold Machine.execAshpitDumpDone
  extract_lets _ t1
  have h1 : Keeps s t1 := h.upd rfl
  split
  · exact .next h
  · split
    · exact .next h
    · extract_lets t2
      have h2 : Keeps s t2 := by
        unfold t2
        split
        · exact h1.updVd
        · split
          · split
            · next e => exact (h1.writeDump.snd e).updVd
      exact .next h2.updVd.killVd

theorem Keeps.wipeOwn (h : Keeps s t) {vd} : Keeps s (t.wipeOwn vd) := h.filter rfl

theorem Keeps.execResetDrained (h : Keeps s t) {vd} : Goes s (execResetDrained vd t) := by
  unfold Machine.execResetDrained
  extract_lets _ t1 t2
  have h1 : Keeps s t1 := h.discardWork.forgetVd.wipeDie
  have h2 : Keeps s t2 := .ite h1.wipeOwn h1
  split
  · exact .next h
  · split
    · exact .next h
    · exact .next h2.updVd

theorem Keeps.execResetRearm (h : Keeps s t) {vd} : Goes s (execResetRearm vd t) := by
  unfold Machine.execResetRearm
  extract_lets _ t1 t2
  have h1 : Keeps s t1 := h.foldl fun _ _ h2 => h2.updQueue
  have h2 : Keeps s t2 := h1.updVd
  split
  · exact .next h
  · split
    · exact .next h
    · extract_lets t3 t4 t5
      have h3 : Keeps s t3 := .ite h2.vdEvent h2
      have h4 : Keeps s t4 := h3.vdEvent
      have h5 : Keeps s t5 := .ite h4.complete h4
      exact .next (.ite h5.updVd.startDestroy h5)

theorem Keeps.execQueueWatchdog (h : Keeps s t) {q} : Goes s (execQueueWatchdog q t) := by
  unfold Machine.execQueueWatchdog
  extract_lets _ _ _ t1
  have h1 : Keeps s t1 := h.setQueue.vdEvent.logEvent
  split
  · exact .next h
  · split
    · exact .next h
    · exact .next (.ite h1 (.ite h1.watchdogEnd (.ite h1.startReset h1)))

theorem Keeps.writeDscfg (h : Keeps s t) {vd value} : Keeps s (t.writeDscfg vd value) :=
  .ite h (.ite h.updVd.updVd h.updVd.updVd)

theorem Keeps.execDieScratchGrant (h : Keeps s t) {vd} : Goes s (execDieScratchGrant vd t) := by
  unfold Machine.execDieScratchGrant
  extract_lets
  split
  · exact .next h
  · split
    · exact .next h
    · exact .next h.wipeDie.setVd

theorem Keeps.execLoadComplete (h : Keeps s t) {a op} : Goes s (execLoadComplete a op t) := by
  unfold Machine.execLoadComplete
  split
  · split
    · next e =>
        have h1 := h.newError.snd e
        split
        · exact .next h1.startReset
        · exact .next h1
  · exact .next h.completeLoad

/-! Heartbeats, takeovers and restarts (19 R421, R430-R432). -/

theorem Keeps.execHeartbeatExpire (h : Keeps s t) {core} : Goes s (execHeartbeatExpire core t) := by
  unfold Machine.execHeartbeatExpire
  extract_lets
  split
  · exact .next (.ite h h.machineCheck)
  · exact .next (.ite h.machineCheck h)

theorem Keeps.holdAndKick (h : Keeps s t) : Keeps s t.holdAndKick := by
  unfold State.holdAndKick
  extract_lets t1
  have h1 : Keeps s t1 := h.foldl fun _ _ h2 => h2.holdEntry
  clear_value t1
  exact h1.upd rfl

theorem Keeps.execTakeoverHandover (h : Keeps s t) {pair} : Goes s (execTakeoverHandover pair t) := by
  unfold Machine.execTakeoverHandover
  extract_lets _ t1
  have h1 : Keeps s t1 := .ite h.holdAndKick h
  split
  · exact .next h
  · split
    · exact .next h.setPair.send
    · extract_lets _ t2 t3
      have h2 : Keeps s t2 := h1.updCtl.updCtl
      have h3 : Keeps s t3 := h2.setPair
      exact .next (h3.upd rfl)

theorem Keeps.loadImage (h : Keeps s t) {core image} : Keeps s (t.loadImage core image) := (h.filter rfl).store

theorem Keeps.execCoreReloadComplete (h : Keeps s t) {core image works} : Goes s (execCoreReloadComplete core image works t) := by
  unfold Machine.execCoreReloadComplete
  extract_lets _ _ _ _ _ t1
  have h1 : Keeps s t1 := h.loadImage.setCtl.updCtl
  split
  · exact .next h
  · split
    · exact .next h.setPair
    · exact .next h1.setPair

theorem Keeps.execSecurityCoreRestart (h : Keeps s t) {image} : Goes s (execSecurityCoreRestart image t) := by
  unfold Machine.execSecurityCoreRestart
  split
  · exact .next h
  · split
    · exact .next h.loadImage.updCtl
    · exact .next (h.upd rfl)

/-! Ethernet ports (15 R371-R373). -/

theorem Keeps.setPort (h : Keeps s t) {n p} : Keeps s (t.setPort n p) := h.upd rfl

theorem Keeps.writePcfg (h : Keeps s t) {n value} : Keeps s (t.writePcfg n value) :=
  .ite h (.ite h.setPort (.ite h.setPort (.ite h.setPort h.setPort)))

theorem Keeps.execPtxtailWrite (h : Keeps s t) {n value} : Goes s (execPtxtailWrite n value t) := by
  unfold Machine.execPtxtailWrite
  split
  · exact .next h
  · exact .next h.setPort

theorem Keeps.execPrxtailWrite (h : Keeps s t) {n value} : Goes s (execPrxtailWrite n value t) := by
  unfold Machine.execPrxtailWrite
  split
  · exact .next h
  · exact .next h.setPort

theorem Keeps.portPlace (h : Keeps s t) {p addr n need} : Keeps s (t.portPlace p addr n need).2 := by
  unfold State.portPlace
  split
  · exact h
  · extract_lets
    refine Keeps.foldl_snd h fun _ _ h1 => ?_
    split
    · split
      · next e => exact h1.stage2.snd e
      · next e => exact h1.stage2.snd e
      · next e => exact h1.stage2.snd e
    · exact h1

theorem Keeps.portWaits (h : Keeps s t) {n p f} : Keeps s (t.portWaits n p f).2 := by
  unfold State.portWaits
  extract_lets
  split
  · exact h
  · split
    · exact h
    · exact h.setVd

theorem Keeps.portWrite (h : Keeps s t) {n part ls bs} : Keeps s (t.portWrite n part ls bs).2 := by
  unfold State.portWrite
  extract_lets
  split
  · next e =>
      have h1 := h.engineWrite.snd e
      exact .ite h1.meterPlaces h1

theorem Keeps.portDescriptor (h : Keeps s t) {p ring i} : Keeps s (t.portDescriptor p ring i).2 := h.portPlace

theorem Keeps.finishTx (h : Keeps s t) {n ds bad} : Keeps s (t.finishTx n ds bad) := by
  unfold State.finishTx
  split
  · next e =>
      have h1 := h.forgetRecord.portWrite.snd e
      exact .ite h1.setPort h1.setPort

theorem Keeps.finishRx (h : Keeps s t) {n len bad} : Keeps s (t.finishRx n len bad) := by
  unfold State.finishRx
  extract_lets
  split
  · next e =>
      have h1 := h.portDescriptor.snd e
      split
      · next e1 =>
          have h2 := h1.portWrite.snd e1
          exact .ite h2.setPort h2.setPort
  · next e => exact h.portDescriptor.snd e

theorem Keeps.portGoesOn (h : Keeps s t) {n} : Keeps s (t.portGoesOn n) := by
  unfold State.portGoesOn
  extract_lets _ t1
  have h1 : Keeps s t1 := .ite h.setPort h
  split
  · exact .ite h1 h1.finishRx
  · exact .ite h1.setPort h1

theorem Keeps.portFails (h : Keeps s t) {n part write} : Keeps s (t.portFails n part write) := by
  unfold State.portFails
  extract_lets
  split
  · exact .ite h.setPort.portGoesOn h
  · split
    · split
      · next e => exact (h.portDescriptor.snd e).finishTx
      · next e => exact h.portDescriptor.snd e
    · exact h

theorem Keeps.execFrameSent (h : Keeps s t) {n bad} : Goes s (execFrameSent n bad t) := by
  unfold Machine.execFrameSent
  extract_lets
  split
  · exact .next h
  · split
    · exact .next h.portGoesOn
    · split
      · next e => exact .next (h.portDescriptor.snd e)
      · next e => exact .next (h.portDescriptor.snd e).portWaits
      · next e =>
          have h1 := h.portDescriptor.snd e
          split
          · next e1 => exact .next (h1.engineRead.snd e1)
          · next e1 =>
              have h2 := h1.engineRead.snd e1
              extract_lets
              split
              · next e2 => exact .next (h2.portPlace.snd e2).finishTx
              · next e2 =>
                  have h3 := h2.portPlace.snd e2
                  split
                  · next e3 => exact .next (h3.portWaits.snd e3)
                  · next e3 => exact .next (h3.portWaits.snd e3).finishTx
              · next e2 =>
                  have h3 := h2.portPlace.snd e2
                  split
                  · exact .next h3
                  · split
                    · next e3 => exact .next (h3.engineRead.snd e3)
                    · next e3 =>
                        extract_lets t1 t2
                        have h4 : Keeps s t1 := (h3.engineRead.snd e3).send
                        have h5 : Keeps s t2 := .ite h4.meterPlaces.meterLink h4
                        exact .next h5.finishTx

theorem Keeps.execFrameReceived (h : Keeps s t) {n bytes bad} : Goes s (execFrameReceived n bytes bad t) := by
  unfold Machine.execFrameReceived
  extract_lets _ v1
  split
  · exact .next h
  · split
    · exact .next h.portGoesOn
    · split
      · exact .next h
      · split
        · next e => exact .next (h.portDescriptor.snd e)
        · next e => exact .next (h.portDescriptor.snd e).portWaits
        · next e =>
            have h1 := h.portDescriptor.snd e
            split
            · next e1 => exact .next (h1.engineRead.snd e1)
            · next e1 =>
                have h2 := h1.engineRead.snd e1
                extract_lets
                split
                · next e2 =>
                    refine .next ?_
                    refine Keeps.portGoesOn ?_
                    unfold v1
                    exact (h2.portPlace.snd e2).forget.setPort
                · next e2 =>
                    have h3 := h2.portPlace.snd e2
                    split
                    · next e3 => exact .next (h3.portWaits.snd e3)
                    · next e3 =>
                        refine .next ?_
                        refine Keeps.portGoesOn ?_
                        unfold v1
                        exact (h3.portWaits.snd e3).forget.setPort
                · next e2 =>
                    have h3 := h2.portPlace.snd e2
                    split
                    · exact .next h3
                    · split
                      · next e3 =>
                          refine .next ?_
                          refine Keeps.portGoesOn ?_
                          unfold v1
                          exact (h3.portWrite.snd e3).forget.setPort

/-! Remote requests and responses, stations and channels (15 R357-R370). -/

theorem Keeps.dropRemote (h : Keeps s t) {id} : Keeps s (t.dropRemote id) := h.upd rfl

theorem Keeps.settleRemote (h : Keeps s t) {a op id rs} : Keeps s (t.settleRemote a op id rs) := by
  unfold State.settleRemote
  split
  · exact h.setWork
  · exact h.setWork.updAgent
  · exact h.setWork
  · exact h

theorem Keeps.takeFailed (h : Keeps s t) {a op} : Keeps s (t.takeFailed a op) := by
  unfold State.takeFailed
  split
  · exact h
  · split
    · exact h
    · exact .ite h (h.upd (by rfl)).resolve.updAgent

theorem Keeps.laneGoesOn (h : Keeps s t) {a op id m acc bs} : Keeps s (t.laneGoesOn a op id m acc bs) := by
  unfold State.laneGoesOn
  extract_lets t1
  have h1 : Keeps s t1 := h.settleRemote
  split
  · exact h1
  · split
    · next e => exact (h1.classify.snd e).resolve.updAgent

theorem Keeps.laneAnswer (h : Keeps s t) {r a op acc y} : Keeps s (t.laneAnswer r a op acc y) := by
  unfold State.laneAnswer
  extract_lets v1 t1
  have h1 : Keeps s t1 := h.dropRemote
  split
  · exact h.dropRemote
  · split
    · exact h.dropRemote
    · unfold v1
      exact (h.upd (by rfl)).takeFailed
    · split
      · next e =>
          unfold v1
          exact ((h.receivedTag.snd e).upd (by rfl)).takeFailed
    · exact .ite h1.laneGoesOn h1.settleRemote.takeFailed
    · exact h.dropRemote.settleRemote.takeFailed

theorem Keeps.mayWake (h : Keeps s t) {a} : Keeps s (t.mayWake a) := by
  unfold State.mayWake
  split
  · exact h.updGroup
  · exact h

theorem Keeps.waitAnswer (h : Keeps s t) {station a y} : Keeps s (t.waitAnswer station a y) := by
  unfold State.waitAnswer
  split
  · split
    · split
      · split
        · exact .ite h.mayWake h
        · exact h
        · exact h.mayWake
      · split
        · exact h
        · extract_lets
          split
          · next e =>
              extract_lets t1 t2
              have h1 : Keeps s t1 := (h.receivedTag.snd e).as
              have h2 : Keeps s t2 := by
                unfold t2
                split
                · exact h1.unwait.trapAt
                · split
                  · exact h1.unwait.trapWith
                  · exact .ite h1.setSreg.acquire.resumeAt h1
                · exact h1
              exact h2.upd rfl
    · exact h
  · exact h

theorem Keeps.engineFails (h : Keeps s t) {who part write} : Keeps s (t.engineFails who part write) := by
  unfold State.engineFails
  split
  · split
    · exact h.as.trap.upd rfl
    · extract_lets
      split
      · exact h.failCopy
      · exact h.endStream
      · exact h
  · split
    · split
      · exact h.abortRows
      · exact h.abortRows
      · exact h
    · exact h
  · split
    · exact h.failPush
    · exact h
  · exact h.recordLost
  · exact h.endCk
  · exact h.portFails
  · exact h

theorem Keeps.engineGoesOn (h : Keeps s t) {who} : Keeps s (t.engineGoesOn who) := by
  unfold State.engineGoesOn
  split
  · exact h.recordAgain
  · exact h.ckAdvance
  · exact h.portGoesOn
  · exact h

theorem Keeps.engineAnswer (h : Keeps s t) {station who part pos bs p} : Keeps s (t.engineAnswer station who part pos bs p) := by
  unfold State.engineAnswer
  split
  · next e => exact ((h.receivedTag.snd e).upd (by rfl)).engineGoesOn

theorem Keeps.writeFails (h : Keeps s t) {r} : Keeps s (t.writeFails r) := by
  unfold State.writeFails
  extract_lets t1
  have h1 : Keeps s t1 := h.dropRemote
  split
  · exact (h1.foldl fun _ _ h2 => h2.settleRemote).foldl fun _ _ h3 => Keeps.ite h3.asyncTrap h3.logEvent.failTree
  · exact h1.engineFails
  · exact h1

theorem Keeps.answered (h : Keeps s t) {r y} : Keeps s (t.answered r y) := by
  unfold State.answered
  split
  · exact h.laneAnswer
  · exact h.dropRemote.waitAnswer
  · exact h.writeFails
  · exact h.writeFails
  · exact h.dropRemote.foldl fun _ _ h1 => h1.settleRemote
  · exact h.dropRemote.engineGoesOn
  · exact h.dropRemote.engineAnswer
  · exact h.dropRemote.engineFails
  · exact h.dropRemote.ringError
  · split
    · exact h.dropRemote.recordPosted
    · exact h.dropRemote
  · exact h.dropRemote.showLost
  · exact h.dropRemote.showDone
  · exact h

theorem Keeps.execRemoteResponse (h : Keeps s t) {id y} : Goes s (execRemoteResponse id y t) := by
  unfold Machine.execRemoteResponse
  split
  · exact .next h
  · split
    · exact .next (.ite h.answered h)
    · split
      · exact .next h
      · extract_lets
        split
        · next e => exact .next (h.serve.snd e).answered
        · next e =>
            have h1 := h.serve.snd e
            exact .next (.ite h1 (h1.upd rfl))

theorem Keeps.execRemoteLoadTimeout (h : Keeps s t) {id} : Goes s (execRemoteLoadTimeout id t) := by
  unfold Machine.execRemoteLoadTimeout
  split
  · exact .next h
  · exact .next (.ite h h.answered)

theorem Keeps.execRemoteWriteFailure (h : Keeps s t) {id} : Goes s (execRemoteWriteFailure id t) := by
  unfold Machine.execRemoteWriteFailure
  split
  · exact .next h
  · exact .next (.ite h.answered h)

theorem Keeps.receive (h : Keeps s t) {r} : Keeps s (t.receive r) := by
  unfold State.receive
  split
  · next e => exact (h.serve.snd e).answer
  · next e => exact (h.serve.snd e).upd rfl

theorem Keeps.resend (h : Keeps s t) {r} : Keeps s (t.resend r) := (h.upd (by rfl)).sendOut

theorem Keeps.resendAll (h : Keeps s t) : Keeps s t.resendAll := h.foldl fun _ _ h1 => h1.resend

theorem Keeps.execStationStateChange (h : Keeps s t) {n state} : Goes s (execStationStateChange n state t) := by
  unfold Machine.execStationStateChange
  split
  · exact .next h
  · exact .next h.updStation.resendAll

theorem Keeps.execChannelSeal (h : Keeps s t) {station peer} : Goes s (execChannelSeal station peer t) := by
  unfold Machine.execChannelSeal
  split
  · exact .next h
  · exact .next h.setChannel.resendAll

theorem Keeps.resendFlits (h : Keeps s t) {n peer p} : Keeps s (t.resendFlits n peer p) :=
  h.setChannel.updStation.foldl fun _ _ h1 => h1.send

theorem Keeps.applyAck (h : Keeps s t) {n peer base m} : Keeps s (t.applyAck n peer base m) :=
  h.setChannel.resendFlits.flushChannel

theorem Keeps.sendAck (h : Keeps s t) {n peer} : Keeps s (t.sendAck n peer) := by
  unfold State.sendAck
  extract_lets _ t1
  have h1 : Keeps s t1 := h.setChannel
  split
  exact .ite h h1.send

theorem Keeps.failChannel (h : Keeps s t) {n peer} : Keeps s (t.failChannel n peer) :=
  h.setChannel.foldl fun _ _ h1 => h1.answered

theorem Keeps.flitFails (h : Keeps s t) {n peer seq} : Keeps s (t.flitFails n peer seq) :=
  .ite h.updStation.failChannel h.updStation.setChannel

theorem Keeps.deliver (h : Keeps s t) {station peer c} : Keeps s (t.deliver station peer c) := by
  unfold State.deliver
  split
  · exact h.receive
  · split
    · exact h.answered
    · exact h
  · exact h.takeNote
  · exact h.takePush

theorem Keeps.deliverHeld (h : Keeps s t) {n peer fuel} : Keeps s (t.deliverHeld n peer fuel) := by
  induction fuel generalizing t with
  | zero => exact h
  | succ fuel ih =>
    unfold State.deliverHeld
    extract_lets
    split
    · exact h
    · extract_lets _ _ t1 t2
      have h1 : Keeps s t1 := h.setChannel
      have h2 : Keeps s t2 := by
        unfold t2
        split
        · exact h1.deliver
        · exact h1
      exact ih h2

theorem Keeps.execSealedFlitReceive (h : Keeps s t) {station peer f} : Goes s (execSealedFlitReceive station peer f t) := by
  unfold Machine.execSealedFlitReceive
  extract_lets
  split
  · exact .next h
  · split
    · split
      · exact .next h.applyAck
      · exact .next h.flitFails
    · split
      · exact .next h
      · split
        · exact .next h.flitFails
        · extract_lets t1 t2
          have h1 : Keeps s t1 := h.setChannel
          have h2 : Keeps s t2 := h1.deliverHeld
          exact .next (.ite h2.sendAck h2)

theorem Keeps.execSealedAckTimer (h : Keeps s t) {station peer} : Goes s (execSealedAckTimer station peer t) := by
  unfold Machine.execSealedAckTimer
  extract_lets
  split
  · exact .next h.sendAck
  · exact .next h

theorem Keeps.execFlitResendTimeout (h : Keeps s t) {station peer} : Goes s (execFlitResendTimeout station peer t) := by
  unfold Machine.execFlitResendTimeout
  split
  · exact .next h
  · extract_lets
    exact .next h.resendFlits

theorem Keeps.execKeyRollover (h : Keeps s t) {station peer} : Goes s (execKeyRollover station peer t) := by
  unfold Machine.execKeyRollover
  extract_lets
  split
  · exact .next h
  · exact .next h.setChannel.flushChannel

/-! Special functions (08 R214-R217). -/

theorem Keeps.sfuOp (h : Keeps s t) {len fn o} : Goes s (sfuOp len fn o t) := h.laneV

theorem Keeps.fsqrtOp (h : Keeps s t) {len o} : Goes s (fsqrtOp len o t) := h.laneV

/-! The fused softmax (06 R170, R171). -/

theorem Keeps.fusedTrap (h : Keeps s t) {s'} : Keeps s (t.fusedTrap s') := by
  unfold State.fusedTrap
  split
  · split
    · exact h.updGroup
    · exact h.haltBroadcast.updWarp
    · exact h
  · exact h

theorem Keeps.headAlone (h : Keeps s t) : Keeps s t.headAlone := by
  unfold State.headAlone
  split
  · exact h.updWarp
  · exact h

theorem Keeps.headJoins (h : Keeps s t) {s0} : Keeps s (t.headJoins s0) := by
  unfold State.headJoins
  split
  · exact h.updWarp
  · exact h

theorem Keeps.runFused {s0 : State} (h1 : Keeps s s0) (h : Keeps s t) {fs : List ((State → Res) × Nat)}
    (hf : ∀ x ∈ fs, ∀ u, Keeps s u → Goes s (x.1 u)) : Goes s (s0.runFused fs t) := by
  induction fs generalizing t with
  | nil => exact .next h.headJoins
  | cons x rest ih =>
    obtain ⟨u, e, hu⟩ := (hf x (List.mem_cons_self ..) t h).exists_next
    unfold State.runFused
    rw [e]
    dsimp only
    split
    · exact ih hu fun y hy => hf y (List.mem_cons_of_mem _ hy)
    · exact .next h1.fusedTrap

theorem Keeps.execFusedSoftmax (h : Keeps s t) {o} : Goes s (execFusedSoftmax o t) := by
  unfold Machine.execFusedSoftmax
  split
  · exact .next h.trap
  · refine h.runFused h.headAlone fun x hx u hu => ?_
    simp only [List.mem_cons, List.not_mem_nil, or_false] at hx
    rcases hx with rfl | rfl | rfl | rfl
    · exact hu.vreduceOp
    · exact hu.vfltOp
    · exact hu.sfuOp
    · exact hu.vreduceOp

/-! Package reset, boot and the banked state (01 R16-R36). -/

theorem Keeps.packageReset (h : Keeps s t) : Keeps s t.packageReset := h.filter rfl

theorem Keeps.execLifeCycleChange (h : Keeps s t) {r} : Goes s (execLifeCycleChange r t) := by
  unfold Machine.execLifeCycleChange
  extract_lets
  split
  · exact .next h
  · exact .next (h.upd (by rfl)).packageReset

theorem Keeps.extend (h : Keeps s t) {n digest} : Keeps s (t.extend n digest) := h.upd rfl

theorem Keeps.bootWipe (h : Keeps s t) : Keeps s t.bootWipe := h.filter rfl

theorem Keeps.loadSwearos (h : Keeps s t) {security scheduler lifecycle fault} :
    Keeps s (t.loadSwearos security scheduler lifecycle fault) :=
  h.loadImage.updCtl.foldl fun _ _ h1 => h1.loadImage

theorem Keeps.startCluster (h : Keeps s t) : Keeps s t.startCluster :=
  .ite (h.upd rfl) ((h.foldl fun _ _ h1 => h1.updCtl).upd rfl)

theorem Keeps.phaseDone (h : Keeps s t) {n b u} (e : t.phaseDone n b = some (.ok u)) : Keeps s u := by
  unfold State.phaseDone at e
  split at e
  · cases e
    exact h
  · split at e
    · cases e
      exact h.extend.extend
    · cases e
  · extract_lets at e
    split at e
    · cases e
      exact (h.foldl fun _ _ hu => hu.extend).loadSwearos
    · cases e
  case h_4 | h_5 =>
    split at e
    · cases e
    · split at e
      · cases e
        exact h.upd rfl
      · cases e
  · cases e
    exact h.upd rfl
  · cases e
    exact h.bootWipe
  · cases e
    exact h.startCluster
  · cases e

theorem Keeps.execBootPhaseComplete (h : Keeps s t) {b} : Goes s (Machine.execBootPhaseComplete b t) := by
  unfold Machine.execBootPhaseComplete
  extract_lets
  split
  · exact .next h
  · split
    · exact .next h
    · exact .next (h.upd rfl)
    · next e => exact .next (Keeps.upd (h.phaseDone e) rfl)

theorem Keeps.execPcieConfigRequest (h : Keeps s t) : Goes s (execPcieConfigRequest t) := by
  unfold Machine.execPcieConfigRequest
  extract_lets
  exact .next h.send

theorem Keeps.stopForEntry (h : Keeps s t) : Keeps s t.stopForEntry :=
  ((h.foldl fun _ _ h1 => h1.abandonCk).foldl fun _ _ h2 => h2.sendEntries).foldl fun _ _ h3 => Keeps.ite h3 h3.charge.preempt

theorem Keeps.enterBanked (h : Keeps s t) : Keeps s t.enterBanked :=
  .ite h (.ite (h.upd rfl) (h.upd (by rfl)).stopForEntry)

theorem Keeps.leaveBanked (h : Keeps s t) : Keeps s t.leaveBanked := .ite (h.upd rfl) (.ite (h.upd rfl) h)

theorem Keeps.switchOff (h : Keeps s t) : Keeps s t.switchOff := (h.foldl fun _ _ h1 => h1.updCtl).upd rfl

theorem Keeps.execBankedEntryComplete (h : Keeps s t) : Goes s (execBankedEntryComplete t) := by
  unfold Machine.execBankedEntryComplete
  split
  · exact .next h
  · extract_lets t1 _ t2
    have h1 : Keeps s t1 := h.stopForEntry
    have h2 : Keeps s t2 := h1.switchOff
    split
    · exact .next h1
    · exact .next (h2.upd rfl)

theorem Keeps.retrain (h : Keeps s t) : Keeps s t.retrain := h.foldl fun _ _ h1 => h1.setStation

theorem Keeps.execBankedExitComplete (h : Keeps s t) {needs} : Goes s (execBankedExitComplete needs t) := by
  unfold Machine.execBankedExitComplete
  split
  · exact .next h
  · extract_lets t1
    have h1 : Keeps s t1 := h.retrain.foldl fun _ _ h2 => Keeps.ite h2.updCtl h2
    exact .next (h1.upd rfl)

end

end Sys2Proof.Machine

/-! PROOFS. Canonical memory is kept by the registers, the remaining instructions, fetching and storage errors. -/

namespace Sys2Proof.Machine

section
variable {s t : State}

/-! Register writes (00 R8-R12). -/

theorem Keeps.writePartcfg (h : Keeps s t) {value} : Keeps s (t.writePartcfg value) := .ite (h.upd rfl) (h.upd rfl)

theorem Keeps.writeFwctl (h : Keeps s t) {d value} : Keeps s (t.writeFwctl d value) :=
  .ite h (.ite (h.upd rfl) (h.upd rfl))

theorem Keeps.writeDscarve (h : Keeps s t) {d value} : Keeps s (t.writeDscarve d value) :=
  .ite h (.ite (h.upd rfl) (h.upd rfl))

theorem Keeps.writeFabcfg (h : Keeps s t) {value} : Keeps s (t.writeFabcfg value) := h.upd rfl

theorem Keeps.writePwrctl (h : Keeps s t) {value} : Keeps s (t.writePwrctl value) := by
  unfold State.writePwrctl
  extract_lets _ t1
  have h1 : Keeps s t1 := h.upd rfl
  split
  · exact h1.enterBanked
  · exact h1.leaveBanked
  · exact h1

theorem Keeps.writePwrcap (h : Keeps s t) {value} : Keeps s (t.writePwrcap value) := h.upd rfl

theorem Keeps.writeCcstat (h : Keeps s t) {value} : Keeps s (t.writeCcstat value) :=
  h.foldl fun _ _ h1 => Keeps.ite h1.updPair h1

theorem Keeps.writeFepalloc (h : Keeps s t) {vd value} : Keeps s (t.writeFepalloc vd value) := h.updVd

theorem Keeps.writePf64 (h : Keeps s t) {off value mask} : Keeps s (t.writePf64 off value mask) := by
  unfold State.writePf64
  split
  · exact h.upd rfl
  · split
    exact .ite h (.ite h.setPort h.setPort)

theorem Keeps.writePf32 (h : Keeps s t) {off value} : Keeps s (t.writePf32 off value) := by
  unfold State.writePf32
  split
  · exact h.upd rfl
  · split
    · split
      exact .ite h.writePcfg (.ite h.setPort (.ite h.setPort h))
    · split
      · exact h.writeFepalloc
      · split
        · exact h.writePwrctl
        · exact h.writePwrcap
        · exact h.logEvent
        · exact .ite h.writeGo h
        · exact h.upd rfl
        · exact h.writeFwctl
        · exact h.writeFwctl
        · exact h.writePartcfg
        · exact h.upd rfl
        · exact h.writeDscarve
        · exact h.writeDscarve
        · exact h.writeCcstat
        · exact h.writeFabcfg
        · exact h

theorem Keeps.writeQueue64 (h : Keeps s t) {q o value mask} : Keeps s (t.writeQueue64 q o value mask) :=
  .ite h (.ite h.setQueue (.ite h.setQueue h.setQueue))

theorem Keeps.writeVf64 (h : Keeps s t) {vd off value mask} : Keeps s (t.writeVf64 vd off value mask) := by
  unfold State.writeVf64
  extract_lets
  split
  · split
    exact .ite h.writeQueue64 h
  · split
    · exact h.setVd.deliverMsix
    · split
      · exact .ite h h.setVd
      · exact .ite h.answerFault h.storeAbort
      · exact h.writeAshbase
      · exact h.setVd

theorem Keeps.writeVdctl (h : Keeps s t) {vd value} : Keeps s (t.writeVdctl vd value) :=
  .ite h.updVd.loadIrts.startReset h.updVd.loadIrts

theorem Keeps.writeKickPage (h : Keeps s t) {q o value} : Keeps s (t.writeKickPage q o value) := by
  unfold State.writeKickPage
  split
  · exact h.kickQueue
  · exact h.writeKccons
  · exact h.updQueue
  · exact h

theorem Keeps.writeVf32 (h : Keeps s t) {vd off value} : Keeps s (t.writeVf32 vd off value) := by
  unfold State.writeVf32
  extract_lets
  split
  · split
    exact .ite h (.ite h.writeQcfg (.ite h.updQueue.loadIrts h))
  · split
    · split
      exact .ite h.writeKickPage h
    · split
      · exact h.writeVdctl
      · exact h.setVd
      · exact h.writeDscfg
      · exact h.writeFqcfg
      · exact h.writeFqcons
      · exact h.setVd
      · exact h.setVd
      · exact h.setVd
      · exact h.writeCkctl
      · exact h.setVd
      · exact h.setVd
      · exact h

theorem Keeps.routeWrite (h : Keeps s t) {wide w64 w32 off value bytes} (h1 : ∀ o v m u, Keeps s u → Keeps s (w64 o v m u))
    (h2 : ∀ o v u, Keeps s u → Keeps s (w32 o v u)) : Keeps s (Machine.routeWrite wide w64 w32 off value bytes t) := by
  unfold Machine.routeWrite
  extract_lets
  have hw := fun o v m => h1 o v m t h
  have hn := fun o v => h2 o v t h
  split
  · exact .ite (hw _ _ _) (h2 _ _ _ (hn _ _))
  · split
    · exact .ite (.ite (hw _ _ _) (hw _ _ _)) (hn _ _)
    · exact h

theorem Keeps.execRegisterWrite (h : Keeps s t) {w} : Goes s (execRegisterWrite w t) := by
  unfold Machine.execRegisterWrite
  split
  · exact .next (h.routeWrite (fun _ _ _ _ hu => hu.writePf64) fun _ _ _ hu => hu.writePf32)
  · exact .next (.ite (h.routeWrite (fun _ _ _ _ hu => hu.writeVf64) fun _ _ _ hu => hu.writeVf32) h)

/-! Host reads and writes. -/

theorem Keeps.execHostWrite (h : Keeps s t) {w} : Goes s (Machine.execHostWrite w t) := by
  unfold Machine.execHostWrite
  split
  · exact .next h
  · split
    next u e =>
      have h1 : Keeps s u := by
        split at e
        · cases e
          exact h.newError
        · cases e
          exact h
      extract_lets
      split
      · exact .next h1.engineStore
      · exact .next (Keeps.upd h1.sendAllEntries.engineStore rfl)

theorem Keeps.execHostRead (h : Keeps s t) {r} : Goes s (execHostRead r t) := by
  unfold Machine.execHostRead
  extract_lets
  split
  · split
    · exact .next h
    · split <;> exact .next h.send
  · split
    · exact .next h
    · exact .next h.send
  · split
    · exact .next h
    · exact .next h.send

/-! Scalar arithmetic (07 R181-R183). -/

theorem Keeps.writeScalar (h : Keeps s t) {len sd v} : Keeps s (t.writeScalar len sd v) := by
  unfold State.writeScalar
  split
  · exact h.writeNext
  · split
    · next e =>
        extract_lets
        split
        · next e1 => exact ((h.pairTurn.snd e).countPair.pairTag.snd e1).updAgent.advance

theorem Keeps.saluOp (h : Keeps s t) {len fn o} : Goes s (saluOp len fn o t) :=
  h.checked fun _ h1 => .next h1.writeScalar

theorem Keeps.saluiOp (h : Keeps s t) {len fn o} : Goes s (saluiOp len fn o t) :=
  h.checked fun _ h1 => .next h1.writeScalar

/-! Integer lane instructions (08 R206-R208). -/

theorem Keeps.vintOp (h : Keeps s t) {len fn o} : Goes s (vintOp len fn o t) := h.laneV

theorem Keeps.vselOp (h : Keeps s t) {len o} : Goes s (vselOp len o t) := by
  unfold Machine.vselOp
  extract_lets
  exact h.checked fun _ h1 => h1.laneOp

theorem Keeps.vcmpOp (h : Keeps s t) {len o} : Goes s (vcmpOp len o t) := h.laneV

theorem Keeps.vsrdOp (h : Keeps s t) {len o} : Goes s (vsrdOp len o t) := h.laneV

theorem Keeps.vintiOp (h : Keeps s t) {len fn o} : Goes s (vintiOp len fn o t) := h.checked fun _ h1 => h1.laneOp

theorem Keeps.vintiCmpOp (h : Keeps s t) {len o} : Goes s (vintiCmpOp len o t) := h.checked fun _ h1 => h1.laneOp

theorem Keeps.vmoviOp (h : Keeps s t) {len o} : Goes s (vmoviOp len o t) := h.checked fun _ h1 => h1.laneOp

/-! Predicates (08 R227). -/

theorem Keeps.ppOp (h : Keeps s t) {len fn o} : Goes s (ppOp len fn o t) := h.checked fun _ h1 => h1.laneOp

theorem Keeps.psetOp (h : Keeps s t) {len o} : Goes s (psetOp len o t) := h.laneV

theorem Keeps.pgetOp (h : Keeps s t) {len o} : Goes s (pgetOp len o t) := h.checked fun _ h1 => h1.laneOp

/-! Fetching (06 R149). -/

theorem Keeps.fetchParcel (h : Keeps s t) {a pc} : Keeps s (t.fetchParcel a pc).2 := by
  unfold State.fetchParcel
  split
  · split <;> exact h
  · split
    · next e => split <;> exact h.place.snd e
    · next e => exact h.place.snd e
    · next e => exact h.place.snd e

theorem Keeps.fetchParcels (h : Keeps s t) {a pc n} : Keeps s (t.fetchParcels a pc n).2 := by
  induction n with
  | zero => exact h
  | succ n ih =>
    unfold State.fetchParcels
    split
    next e =>
      split
      next e1 => exact (ih.snd e).fetchParcel.snd e1

theorem Keeps.fetch (h : Keeps s t) {a pc} : Keeps s (t.fetch a pc).2 := by
  unfold State.fetch
  extract_lets
  split
  · exact h
  · split
    · next e =>
        extract_lets
        split
        · next e1 => exact (h.fetchParcel.snd e).fetchParcels.snd e1
    · next e => exact h.fetchParcel.snd e

theorem Keeps.fetchWait (h : Keeps s t) {f} : Keeps s (t.fetchWait f) := .ite h (.ite h.abortNow.trap h.parkUnder)

theorem Keeps.countSkid (h : Keeps s t) {a} : Keeps s (t.countSkid a) := by
  unfold State.countSkid
  split
  · exact h
  · split
    · exact h.updAgent
    · exact h.updAgent
    · exact h.updAgent
    · exact h

theorem Keeps.noteIssue (h : Keeps s t) {a done skid} : Keeps s (t.noteIssue a done skid) :=
  .ite (.ite h.countSkid h) (Keeps.ite h.countSkid h).updAgent

/-! Storage errors (17 R390-R396). -/

theorem Keeps.upsetTag (h : Keeps s t) {unit} : Keeps s (t.upsetTag unit).2 := h.newError

theorem Keeps.upsetAs (h : Keeps s t) {l unit} : Keeps s (t.upsetAs l unit).2 := by
  unfold State.upsetAs
  split
  · next e =>
      have h1 := h.upsetTag.snd e
      extract_lets t1
      have h2 : Keeps s t1 := by
        unfold t1
        split
        · exact h1.upd rfl
        · exact h1
      exact h2.setPoison

theorem Keeps.upsetAt (h : Keeps s t) {l unit} : Keeps s (t.upsetAt l unit) := h.upsetAs

theorem Keeps.strike (h : Keeps s t) {u'} : Keeps s (t.strike u') := by
  unfold State.strike
  split
  · extract_lets
    split
    · exact h
    · split
      · exact h.updVd.logEvent
      · split
        · next e => exact (h.upsetTag.snd e).updWarp
  · split
    · exact h
    · split
      · next e => exact (h.upsetTag.snd e).updAgent
  · split
    · exact h
    · split
      · next e => exact (h.upsetTag.snd e).updWarp
  · split
    · next e => exact (h.upsetTag.snd e).updCore
  · exact .ite h h.upsetAt
  · exact .ite h.logEvent h.upsetAt
  · extract_lets
    split
    · next e => exact (h.upsetAs.snd e).startReset
  · exact h.upsetAt
  · exact .ite h h.upsetAt
  · exact .ite h.machineCheck h
  · exact h.upsetAt
  · exact h.newError.startReset
  · exact .ite h h.updGroup
  · exact h.updPair

end

end Sys2Proof.Machine

/-! PROOFS. Canonical memory is kept by every instruction and event, and by a step. -/

namespace Sys2Proof.Machine

section
variable {s t : State}

theorem Keeps.execDestroy (h : Keeps s t) : Goes s (execDestroy t) :=
  h.command fun _ _ hu => .ite hu.complete (.ite hu.complete (.ite hu.startDestroy (.ite hu.updVd.complete hu.complete)))

theorem Keeps.execReset (h : Keeps s t) : Goes s (execReset t) :=
  h.command fun _ _ hu => .ite hu.complete (.ite hu.complete (.ite hu.startReset (.ite hu hu.complete)))

theorem Keeps.execSetshare (h : Keeps s t) : Goes s (execSetshare t) :=
  h.command fun _ _ hu => .ite hu.complete (.ite hu.complete (.ite hu.complete hu.setVd.complete))

theorem Keeps.execQuery (h : Keeps s t) : Goes s (execQuery t) :=
  h.command fun _ _ hu => .ite hu.complete (.ite hu.complete (hu.upd (by rfl)).complete)

theorem Keeps.execUnknownOpCommand (h : Keeps s t) : Goes s (execUnknownOpCommand t) := h.command fun _ _ hu => hu.complete

theorem Keeps.execSrd (h : Keeps s t) {sd num} : Goes s (execSrd sd num t) := h.checked fun _ hu => .next hu.writeNext

theorem Keeps.execSwr (h : Keeps s t) {sa num} : Goes s (execSwr sa num t) := h.checked fun _ hu => .next hu.setSpecial.advance

/-- Every instruction and every event goes on, with a memory in canonical form. -/
theorem Keeps.exec (h : Keeps s t) : (i : Instr) → Goes s (Machine.exec i t)
  | .packageReset => .next h.packageReset
  | .bootPhaseComplete _ => h.execBootPhaseComplete
  | .pcieConfigRequest => h.execPcieConfigRequest
  | .enterBanked => .next h.enterBanked
  | .leaveBanked => .next h.leaveBanked
  | .bankedEntryComplete => h.execBankedEntryComplete
  | .bankedExitComplete _ => h.execBankedExitComplete
  | .powerWindowEnd _ | .thermalSample _ | .powerOnHour | .hbmRefreshRaise => .next (h.upd rfl)
  | .spdmRequest _ => .next h.send
  | .measurementRequest _ _ => .next (.ite h.extend h)
  | .lifeCycleChange _ => h.execLifeCycleChange
  | .create => h.execCreate
  | .createComplete _ _ => h.execCreateComplete
  | .destroy => h.execDestroy
  | .destroyDrained _ => h.execDestroyDrained
  | .wipeComplete _ => h.execWipeComplete
  | .reset => h.execReset
  | .setshare => h.execSetshare
  | .query => h.execQuery
  | .sharemap => h.execSharemap
  | .sharemapComplete _ => h.execSharemapComplete
  | .resetreq _ => .next h.startReset
  | .ashpitDumpDone _ => h.execAshpitDumpDone
  | .resetDrained _ => h.execResetDrained
  | .resetRearm _ => h.execResetRearm
  | .queueEnable _ _ | .queueDisable _ _ => .next (.ite h.writeQcfg h)
  | .queueStopped _ => h.execQueueStopped
  | .kick _ _ => .next h.kickQueue
  | .kcconsWrite _ _ => .next h.writeKccons
  | .faultQueueEnable _ _ => .next h.writeFqcfg
  | .fqconsWrite _ _ => .next h.writeFqcons
  | .faultRetry _ _ | .faultAbort _ _ => .next h.answerFault
  | .fqrespAbortStore _ _ => .next h.storeAbort
  | .dieScratchRequest _ _ => .next h.writeDscfg
  | .dieScratchGrant _ => h.execDieScratchGrant
  | .ashbaseWrite _ _ => h.execAshbaseWrite
  | .checkpoint _ _ => h.execCheckpoint
  | .checkpointArmed _ => h.execCheckpointArmed
  | .checkpointCommit _ _ => h.execCheckpointCommit
  | .restore _ _ _ => h.execRestore
  | .restoreComplete _ => h.execRestoreComplete
  | .partcfgWrite _ => .next h.writePartcfg
  | .fwlogClear _ _ => .next h.writeFwctl
  | .dscarveWrite _ _ => .next h.writeDscarve
  | .fabcfgWrite _ => .next h.writeFabcfg
  | .portEnable _ _ | .portDisable _ _ => .next h.writePcfg
  | .ptxtailWrite _ _ => h.execPtxtailWrite
  | .prxtailWrite _ _ => h.execPrxtailWrite
  | .frameSent _ _ => h.execFrameSent
  | .frameReceived _ _ _ => h.execFrameReceived
  | .registerWrite _ => h.execRegisterWrite
  | .hostWrite _ => h.execHostWrite
  | .hostRead _ => h.execHostRead
  | .dispatchDecision _ _ => h.execDispatchDecision
  | .sliceEnd _ _ => h.execSliceEnd
  | .damperWindowEnd _ => h.execDamperWindowEnd
  | .bankPowerGate _ _ => h.execBankPowerGate
  | .forwardProgressSwap _ => h.execForwardProgressSwap
  | .queueWatchdog _ => h.execQueueWatchdog
  | .sempollTick _ => .next h.semEvents
  | .waitsemTimeout _ => h.execWaitsemTimeout
  | .launchRecordComplete _ _ => h.execLaunchRecordComplete
  | .systemCopyComplete _ _ => h.execSystemCopyComplete
  | .fenceqComplete _ _ => h.execFenceqComplete
  | .workgroupEnd _ => h.execWorkgroupEnd
  | .gridEnd _ => h.execGridEnd
  | .loadComplete _ _ => h.execLoadComplete
  | .storeOrderingPoint _ _ => .next h.orderStore
  | .trackedStoreComplete _ _ => .next h.completeTracked
  | .waitResume _ => h.execWaitResume
  | .bwaitComplete _ => h.execBwaitComplete
  | .mwaitReread _ => h.execMwaitReread
  | .qpopResume _ => h.execQpopResume
  | .qpushResume _ => h.execQpushResume
  | .queueOpComplete _ _ => h.execQueueOpComplete
  | .tagWaitComplete _ => h.execTagWaitComplete
  | .gstepResume _ => h.execGstepResume
  | .vldstepWake _ _ | .haloWaitExpire _ _ => .next h.replayLanes
  | .copySectorComplete _ _ _ => .next h.moveSector
  | .copyComplete _ _ => .next h.endCopy
  | .copyDeferredStart _ _ => .next h.startCopy
  | .streamPush _ _ => h.execStreamPush
  | .matrixOpStart _ => .next h.startMatrix
  | .tileOpComplete _ _ => .next h.completeMatrix
  | .faultPostResume _ => h.execFaultPostResume
  | .pageMigrationComplete _ _ => h.execPageMigrationComplete
  | .parkedReplay _ _ => h.execParkedReplay
  | .handlerEntry _ => h.execHandlerEntry
  | .asyncTrap _ => h.execAsyncTrap
  | .sliceBudgetExpire _ => h.execSliceBudgetExpire
  | .contextSave _ => h.execContextSave
  | .gangKill _ => h.execGangKill
  | .gangRelaunch _ _ => h.execGangRelaunch
  | .engineDrained _ _ => h.execEngineDrained
  | .sharedFrameRepair _ _ _ _ => h.execSharedFrameRepair
  | .irqCoalesceTimeout _ => h.execIrqCoalesceTimeout
  | .remoteRequest _ => .next (.ite h (.ite h.answer h.receive))
  | .remoteResponse _ _ => h.execRemoteResponse
  | .remoteLoadTimeout _ => h.execRemoteLoadTimeout
  | .remoteWriteFailure _ => h.execRemoteWriteFailure
  | .wcAgeFlush _ _ => .next h.sendEntries
  | .stationStateChange _ _ => h.execStationStateChange
  | .channelSeal _ _ => h.execChannelSeal
  | .sealedFlitReceive _ _ _ => h.execSealedFlitReceive
  | .sealedAckTimer _ _ => h.execSealedAckTimer
  | .flitResendTimeout _ _ => h.execFlitResendTimeout
  | .keyRollover _ _ => h.execKeyRollover
  | .fluePush _ _ _ => h.execFluePush
  | .slabRetag _ _ _ => h.execSlabRetag
  | .flueCounterUpdate _ _ _ _ => .next h.takeNote
  | .gstepCredit _ _ => h.execGstepCredit
  | .flueStateDelete _ _ => h.execFlueStateDelete
  | .heartbeatExpire _ => h.execHeartbeatExpire
  | .takeoverHandover _ => h.execTakeoverHandover
  | .controlTimerTick => .next (h.foldl fun _ _ hu => hu.updCtl)
  | .coreReloadComplete _ _ _ => h.execCoreReloadComplete
  | .securityCoreRestart _ => h.execSecurityCoreRestart
  | .fusedSoftmax _ => h.execFusedSoftmax
  | .nop | .yield | .nopShort | .yieldShort => h.nopOp
  | .exit | .exitShort => h.exitOp
  | .trap _ | .trapShort _ => h.trapOp
  | .tret | .tretShort => h.tretOp
  | .prio _ | .prioShort _ => h.prioOp
  | .wait _ | .waitShort _ => h.waitOp
  | .launch _ _ => h.launchOp
  | .halt | .haltShort => h.haltOp
  | .wfi | .wfiShort => h.wfiOp
  | .srd _ _ => h.execSrd
  | .swr _ _ => h.execSwr
  | .sadd _ | .ssub _ | .smul _ | .smulhS _ | .smulhN _ | .sdivS _ | .sdivN _ | .sremS _ | .sremN _ | .sand _ | .sor _ | .sxor _
  | .sandn _ | .sshl _ | .sshrS _ | .sshrN _ | .srotr _ | .sminS _ | .sminN _ | .smaxS _ | .smaxN _ | .sclz _ | .sffs _ | .spopc _
  | .sbrev _ | .ssel _ | .scmp _ | .sext _ | .smov _ | .sbfx _ | .sbfi _ | .smad _ | .saddShort _ | .ssubShort _ | .smulShort _
  | .smulhSShort _ | .smulhNShort _ | .sdivSShort _ | .sdivNShort _ | .sremSShort _ | .sremNShort _ | .sandShort _ | .sorShort _
  | .sxorShort _ | .sandnShort _ | .sshlShort _ | .sshrSShort _ | .sshrNShort _ | .srotrShort _ | .sminSShort _ | .sminNShort _
  | .smaxSShort _ | .smaxNShort _ | .sclzShort _ | .sffsShort _ | .spopcShort _ | .sbrevShort _ | .sselShort _ | .scmpShort _
  | .sextShort _ | .smovShort _ | .sbfxShort _ | .sbfiShort _ | .smadShort _ => h.saluOp
  | .saddi _ | .sandi _ | .sori _ | .sxori _ | .sshli _ | .sshriS _ | .sshriN _ | .sli _ | .slih _ | .scmpi _ | .saddiShort _ _ _
  | .sliShort _ _ => h.saluiOp
  | .br _ | .brz _ | .brnz _ | .brc _ | .brShort _ | .brzShort _ _ | .brnzShort _ _ => h.uniformOp
  | .call _ | .callShort _ => h.callOp
  | .jmpr _ | .ret _ => h.jumpOp
  | .callr _ => h.callrOp
  | .brp _ | .brpShort _ _ _ => h.brpOp
  | .loop _ => h.loopOp
  | .sld _ | .sld64Short _ _ _ => h.sldOp
  | .sst _ | .sst64Short _ _ _ => h.sstOp
  | .satom _ => h.satomOp
  | .vadd _ | .vsub _ | .vmul _ | .vmulh _ | .vmad _ | .vadds _ | .vsubs _ | .vabsd _ | .vmin _ | .vmax _ | .vand _ | .vor _ | .vxor _
  | .vandn _ | .vnot _ | .vshl _ | .vshr _ | .vrotr _ | .vclz _ | .vffs _ | .vpopc _ | .vbrev _ | .vaddmin _ | .vbfx _ | .vbfi _
  | .vmov _ | .cMov _ | .cAddS32 _ | .cSubS32 _ | .cAnd _ | .cOr _ | .cXor _ | .cShlN32 _ | .cShrN32 _ | .cMinS32 _ | .cMaxS32 _
  | .cNot _ | .vaddS32Short _ | .vsubS32Short _ | .vmulS32Short _ | .vminS32Short _ | .vmaxS32Short _ | .vminN32Short _
  | .vmaxN32Short _ | .vandShort _ | .vorShort _ | .vxorShort _ | .vshlN32Short _ | .vshrN32Short _ | .vshrS32Short _
  | .vaddminS32Short _ => h.vintOp
  | .vsel _ | .vselShort _ => h.vselOp
  | .vcmp _ | .vcmpLtS32Short _ => h.vcmpOp
  | .vsrd _ => h.vsrdOp
  | .vintiVadd _ | .vintiVand _ | .vintiVor _ | .vintiVxor _ | .vintiVshl _ | .vintiVshr _ | .vintiVmin _ | .vintiVmax _
  | .vintiVaddmin _ | .vintiVaddShort _ | .vintiVandShort _ | .vintiVshlShort _ | .vintiVshrN32Short _ | .vintiVshrS32Short _
  | .vintiVminShort _ | .vintiVmaxShort _ => h.vintiOp
  | .vintiVcmp _ | .vintiVcmpEqShort _ => h.vintiCmpOp
  | .vmovi _ => h.vmoviOp
  | .fadd _ | .fsub _ | .fmul _ | .ffma _ | .ffms _ | .fmin _ | .fmax _ | .fabs _ | .fneg _ | .fscaleb _ | .frnd _ | .fdiv _
  | .faddmin _ | .cFaddF32 _ | .cFsubF32 _ | .cFmulF32 _ | .cFminF32 _ | .cFmaxF32 _ | .faddF32Short _ | .fsubF32Short _
  | .fmulF32Short _ | .fminF32Short _ | .fmaxF32Short _ | .faddBf16x2Short _ | .fmulBf16x2Short _ | .ffmaF32Short _
  | .ffmaBf16x2Short _ => h.vfltOp
  | .fcmp _ | .fcmpLtF32Short _ => h.fcmpOp
  | .fclass _ => h.fclassOp
  | .cvt _ => h.cvtOp
  | .pack _ => h.packOp
  | .unpack _ => h.unpackOp
  | .mxscale _ => h.mxscaleOp
  | .vshfl _ | .vshup _ | .vshdn _ | .vrotw _ | .vbcast _ | .qswap _ | .qbcast _ | .vshflShort _ => h.vxlMove
  | .vreduce _ => h.vreduceOp
  | .vscan _ => h.vscanOp
  | .vballot _ => h.vballotOp
  | .vvote _ => h.vvoteOp
  | .vmatch _ => h.vmatchOp
  | .pand _ | .por _ | .pxor _ | .pnot _ => h.ppOp
  | .pset _ => h.psetOp
  | .pget _ => h.pgetOp
  | .frcp _ | .frsq _ | .fexp2 _ | .flog2 _ | .fsin _ | .fcos _ | .ftanh _ => h.sfuOp
  | .fsqrt _ => h.fsqrtOp
  | .vld _ | .vst _ | .vgather _ | .vscatter _ | .vldstep _ | .vld32Short _ | .vst32Short _ => h.vmemOp
  | .vpref _ => h.vprefOp
  | .vspill _ | .vfill _ => h.spillOp
  | .vatom _ | .vred _ => h.vatomOp
  | .fence _ => h.fenceOp
  | .binit _ => h.binitOp
  | .barrive _ => h.barriveOp
  | .bwait _ => h.bwaitOp
  | .btest _ => h.btestOp
  | .wsync _ => h.wsyncOp
  | .cvinit _ => h.cvinitOp
  | .mwait _ => h.mwaitOp
  | .qpush _ => h.qpushOp
  | .qpop _ => h.qpopOp
  | .qpops _ => h.qpopsOp
  | .qstat _ => h.qstatOp
  | .mma _ | .mmas _ | .mmai _ | .mmax _ => h.mmaOp
  | .awin _ => h.awinOp
  | .azero _ | .arstat _ => h.accOp
  | .ald _ | .ast _ => h.accMoveOp
  | .cpy _ | .cpyg _ | .cpyz _ => h.copyOp
  | .sealRecord _ => h.sealOp
  | .strdef _ => h.strdefOp
  | .strrun _ => h.strrunOp
  | .twany _ | .twall _ => h.tagWaitOp
  | .tfirst _ => h.tfirstOp
  | .tclr _ => h.tclrOp
  | .gattach _ => h.gattachOp
  | .gstep _ => h.gstepOp
  | .gstat _ => h.gstatOp
  | .gdetach _ => h.gdetachOp
  | .kscan _ => h.kscanOp
  | .jappend _ => h.jappendOp
  | .jread _ => h.jreadOp
  | .vdrd _ => h.vdrdOp
  | .vdwr _ => h.vdwrOp
  | .qrd _ => h.qrdOp
  | .qwr _ => h.qwrOp
  | .irtrd _ => h.irtrdOp
  | .irtwr _ => h.irtwrOp
  | .vdcmdStart _ => h.startOp
  | .vdcmdRetire _ => h.retireOp
  | .vdcmdKill _ => h.killOp
  | .irqsend _ => h.irqsendOp
  | .chold _ => h.choldOp
  | .crelease _ => h.creleaseOp
  | .unknownOpCommand => h.execUnknownOpCommand
  | .mirrorCopyFinished _ _ => h.execMirrorCopyFinished

theorem Keeps.stepAgent (h : Keeps s t) {a} : Goes s (Machine.stepAgent a t) := by
  have h0 : Keeps s { t with cur := a } := h.upd rfl
  unfold Machine.stepAgent
  extract_lets
  split
  · exact .next h0
  · split
    · next e => exact .next (h0.fetch.snd e).trapWith
    · next e => exact .next (h0.fetch.snd e).fetchWait
    · next u e =>
        have h1 := h0.fetch.snd e
        split
        · exact .next h1.trap
        · extract_lets
          split
          · next e1 => exact .next ((h1.exec _).keeps e1).noteIssue
          · next e1 => exact absurd e1 (h1.exec _).ne_fault
          · next e1 => exact absurd e1 (h1.exec _).ne_refused

theorem Keeps.step (h : Keeps s t) : Goes s (Machine.step t) := by
  unfold Machine.step
  extract_lets t1
  have h1 : Keeps s t1 := h.upd rfl
  split
  · exact (h1.upd (by rfl)).stepAgent
  · exact .next (h1.upd (by rfl)).strike
  · split
    · exact (h1.upd (by rfl)).exec _
    · exact .next (h1.upd rfl)
  · split
    · exact h1.stepAgent
    · exact .next h1

end

end Sys2Proof.Machine

/-! PROOFS. O54. -/

namespace Sys2Proof
open Machine Claims

/-- Settles O54: `Keeps.step` from the state itself. -/
theorem memoryStaysCanonical : Obligations.MemoryStaysCanonical := by
  unfold Obligations.MemoryStaysCanonical
  constructor
  · intro s t hs e
    exact (Keeps.refl s).step.keeps e hs
  · intro s
    obtain ⟨t, e, -⟩ := (Keeps.refl s).step.exists_next
    exact ⟨t, e⟩

end Sys2Proof

/-! PROOFS. The registers of queues, of the physical function and of fault queues (00 R9-R12; 02 R37, R56-R63; 03 R80, R81; 09 R233;
12 R306, R307, R309; 15 R358). -/

namespace Sys2Proof.Machine

open Sys2Proof.Claims

/-! Registers of a queue (02 R37, R56-R63, R72). -/

theorem exec_of_queueClosed {s : State} {q : Nat} (v : W32) (hc : s.queueOpen q = false) :
    ∀ i ∈ [Instr.queueEnable q v, .queueDisable q v, .kick q v, .kcconsWrite q v], exec i s = .next s := by
  simp [execQueueEnable, execQueueDisable, execKick, State.kickQueue, execKcconsWrite, State.writeKccons, hc]

theorem State.loadIrts_frame (s : State) (vd : Nat) : ∃ i, s.loadIrts vd = { s with irt := i } := by
  obtain ⟨i, h⟩ : ∃ i, (List.range (s.vd vd).qcount).foldl (fun (t : State) i =>
      let n := (s.vd vd).qfirst + i
      let q := t.queue n
      let e := t.irtEntry n
      let (c, u) := if (s.vd vd).expert then (fieldN q.qcoal 7 0, fieldN q.qcoal 15 8) else (0, 0)
      t.setIrt n { e with word := loadIrt e.word (fieldN q.qcfg 19 14) c u }) s = { s with irt := i } := by
    refine foldl_keeps (fun t : State => ∃ i, t = { s with irt := i }) _ ?_ _ _ ⟨_, rfl⟩
    rintro _ n ⟨i, rfl⟩
    exact ⟨_, rfl⟩
  unfold State.loadIrts
  extract_lets v s1 f s2 g
  have h1 : s1 = { s with irt := i } := h
  exact ⟨_, by rw [show s2 = s1.setIrt _ _ from rfl, h1]; rfl⟩

/-- A write of QCFG changes queues and interrupt entries alone. -/
theorem State.writeQcfg_frame (s : State) (q : Nat) (v : W32) :
    s.writeQcfg q v = { s with queues := (s.writeQcfg q v).queues, irt := (s.writeQcfg q v).irt } := by
  obtain ⟨x, vd, h⟩ : ∃ x vd, s.writeQcfg q v = (s.setQueue q x).loadIrts vd := ⟨_, _, rfl⟩
  obtain ⟨i, hi⟩ := (s.setQueue q x).loadIrts_frame vd
  rw [h, hi]
  rfl

/-- A write of EN = 1 with bad sizes or no rings sets CFGERR (02 R58). -/
theorem State.queue_writeQcfg_refused (s : State) (q : Nat) (v : W32) (hs : (s.queue q).state = 0) (he : (s.queue q).enabled = false)
    (hbad : ¬ (4 ≤ fieldN v 4 0 ∧ fieldN v 4 0 ≤ 16 ∧ 4 ≤ fieldN v 12 8 ∧ fieldN v 12 8 ≤ 16 ∧ fieldN (s.queue q).qbase 51 6 ≠ 0 ∧
      fieldN (s.queue q).cbase 51 6 ≠ 0)) :
    ((s.writeQcfg q (v ||| 0x80000000#32)).queue q).state = 0 ∧
    ((s.writeQcfg q (v ||| 0x80000000#32)).queue q).qcfg.getLsbD 31 = false ∧
    ((s.writeQcfg q (v ||| 0x80000000#32)).queue q).cfgErr = true := by
  have hqs : fieldN ((v ||| 0x80000000#32) &&& qcfgMask) 4 0 = fieldN v 4 0 :=
    fieldN_qcfg_of_enable v fun i _ h => ⟨by omega, by interval_cases i <;> rfl⟩
  have hcs : fieldN ((v ||| 0x80000000#32) &&& qcfgMask) 12 8 = fieldN v 12 8 :=
    fieldN_qcfg_of_enable v fun i _ h => ⟨by omega, by interval_cases i <;> rfl⟩
  have hgood : (decide (4 ≤ fieldN v 4 0) && decide (fieldN v 4 0 ≤ 16) && decide (4 ≤ fieldN v 12 8) && decide (fieldN v 12 8 ≤ 16) &&
      fieldN (s.queue q).qbase 51 6 != 0 && fieldN (s.queue q).cbase 51 6 != 0) = false := by
    rw [Bool.eq_false_iff]
    simpa [and_assoc] using hbad
  simp [State.writeQcfg, he, hs, hqs, hcs, hgood]

theorem State.runs_writeQcfg_disable (s : State) (q : Nat) (v : W32) :
    ((s.writeQcfg q (v &&& 0x7FFFFFFF#32)).queue q).runs = (s.queue q).runs := by
  by_cases h5 : (s.queue q).state = 5#3
  · simp [State.writeQcfg, h5]
  · simp [State.writeQcfg, h5]

theorem exec_kcconsWrite_beyond (s : State) (q : Nat) (v : W32)
    (h : 2 ^ ((s.queue q).qcfg.toNat / 2 ^ 8 % 2 ^ 5) < ((s.queue q).cprod - v).toNat) : exec (.kcconsWrite q v) s = .next s := by
  have hc : decide (2 ^ (s.queue q).csize < ((s.queue q).cprod - v).toNat) = true := decide_eq_true h
  simp only [exec_kcconsWrite, execKcconsWrite, State.writeKccons, hc, Bool.or_true, if_true]

theorem exec_queueStopped_busy (s : State) (q : Nat)
    (h : ¬ ((s.queue q).state = 5 ∧ (s.queue q).runs = [] ∧ (s.queue q).staged = [] ∧ (s.queue q).retiring = [])) :
    exec (.queueStopped q) s = .next s := by
  rw [exec_queueStopped, execQueueStopped]
  refine if_neg fun hc => h ?_
  simpa [and_assoc] using hc

/-- 02 R37, R56-R63, R72. -/
theorem queueRegisters : QueueRegisters := by
  intro s q v
  refine ⟨exec_of_queueClosed v, fun ho => ⟨fun hs he => ?enable, ?disable, exec_kick_open s q v ho, ?cons⟩, ?stopped⟩
  case enable =>
    refine ⟨_, by rw [exec_queueEnable, execQueueEnable, if_pos ho], s.writeQcfg_frame q _, fun ⟨h1, h2, h3, h4, hq, hc⟩ => ?_, fun hbad => ?_⟩
    · rw [s.queue_writeQcfg_enable q v hs he (by simpa [fieldN] using h1) (by simpa [fieldN] using h2) h3 h4 hq hc]
      simp
    · exact s.queue_writeQcfg_refused q v hs he (by simpa [fieldN] using hbad)
  case disable =>
    obtain ⟨hen, hst⟩ := s.queue_writeQcfg_disable q v
    exact ⟨_, by rw [exec_queueDisable, execQueueDisable, if_pos ho], s.writeQcfg_frame q _, hen, hst, s.runs_writeQcfg_disable q v⟩
  case cons =>
    split
    · next h => exact exec_kcconsWrite_beyond s q v h
    · next h => exact exec_kcconsWrite_open s q v ho (Nat.not_lt.mp h)
  case stopped =>
    split
    · next h =>
        obtain ⟨hs, hr, hg, ht⟩ := h
        exact exec_queueStopped_idle s q hs hr hg ht
    · next h => exact exec_queueStopped_busy s q h

/-! Registers of the partitions, the firewall, the die scratch and the fabric (03 R80, R81; 09 R233; 15 R358). -/

theorem State.allFree_iff (s : State) : s.allFree = true ↔ ∀ e ∈ s.vds, e.2.state = 0 := by
  simp only [State.allFree, List.all_eq_true, beq_iff_eq]

theorem partcfgWrite_changes (s : State) (v : W32) : ∃ t : State, exec (.partcfgWrite v) s = .next t ∧
    t = { s with pf := { s.pf with partMode := t.pf.partMode, partRefused := t.pf.partRefused } } ∧
    (((∀ e ∈ s.vds, e.2.state = 0) ∨ v.getLsbD 0 = s.pf.partMode) →
      t.pf.partMode = v.getLsbD 0 ∧ t.pf.partRefused = (s.pf.partRefused && !v.getLsbD 1)) ∧
    (¬ (∀ e ∈ s.vds, e.2.state = 0) → v.getLsbD 0 ≠ s.pf.partMode → t.pf.partMode = s.pf.partMode ∧ t.pf.partRefused = true) := by
  rw [← s.allFree_iff]
  refine ⟨_, by rw [exec_partcfgWrite, execPartcfgWrite], ?_⟩
  unfold State.writePartcfg
  extract_lets mode cleared
  have hc : (mode == s.pf.partMode || s.allFree) = true ↔ v.getLsbD 0 = s.pf.partMode ∨ s.allFree = true := by
    rw [Bool.or_eq_true, beq_iff_eq]
  split
  · next h => exact ⟨rfl, fun _ => ⟨rfl, rfl⟩, fun hf hm => absurd (hc.mp h) (not_or.mpr ⟨hm, hf⟩)⟩
  · next h => exact ⟨rfl, fun hf => absurd (hc.mpr hf.symm) h, fun _ _ => ⟨rfl, rfl⟩⟩

theorem fwlogClear_changes (s : State) (d : Nat) (hd : d < 2) (v : W32) : ∃ t : State, exec (.fwlogClear d v) s = .next t ∧
    t.pf.fwCount = listSet s.pf.fwCount d 0 ∧ t.pf.fwLast = listSet s.pf.fwLast d 0 ∧
    t.pf.fwIrq = listSet s.pf.fwIrq d (v.getLsbD 1) ∧ t = { s with pf := t.pf } := by
  have hd' : ¬ 2 ≤ d := Nat.not_le.mpr hd
  have clr : (v ||| (4 : W32)).getLsbD 2 = true := by simp
  have irq : (v ||| (4 : W32)).getLsbD 1 = v.getLsbD 1 := by simp
  refine ⟨_, by rw [exec_fwlogClear, execFwlogClear], ?_⟩
  simp only [State.writeFwctl, hd', if_false, clr, irq, if_true, and_self]

theorem exec_dscarveWrite_eq (s : State) (d : Nat) (hd : d < 2) (v : W32) : exec (.dscarveWrite d v) s =
    .next { s with pf := if BitVec.ofNat 9 (min 256 (v.toNat % 2 ^ 9)) = listGet 0 s.pf.dsMib d ∨ s.allFree = true then { s.pf with
          dsMib := listSet s.pf.dsMib d (BitVec.ofNat 9 (min 256 (v.toNat % 2 ^ 9)))
          dsRefused := listSet s.pf.dsRefused d (listGet false s.pf.dsRefused d && !v.getLsbD 9) }
        else { s.pf with dsRefused := listSet s.pf.dsRefused d true } } := by
  have hd' : ¬ 2 ≤ d := Nat.not_le.mpr hd
  have mib : fieldN v 8 0 = v.toNat % 2 ^ 9 := by simp [fieldN]
  simp only [exec_dscarveWrite, execDscarveWrite, State.writeDscarve, hd', if_false, mib, Bool.or_eq_true, beq_iff_eq]
  split <;> rfl

theorem fabcfgWrite_changes (s : State) (v : W32) : ∃ t : State, exec (.fabcfgWrite v) s = .next t ∧ t = { s with pf := t.pf } ∧
    t.pf.fabAge = v.extractLsb' 16 8 ∧ t.pf.fabSeal = v.getLsbD 12 ∧ t.pf.fabWc = v.getLsbD 11 ∧
    ((∀ e ∈ s.vds, e.2.state = 0) → t.pf.fabAcc = v.setWidth 10) ∧ (¬ (∀ e ∈ s.vds, e.2.state = 0) → t.pf.fabAcc = s.pf.fabAcc) := by
  rw [← s.allFree_iff]
  have age : BitVec.ofNat 8 (fieldN v 23 16) = v.extractLsb' 16 8 := by
    rw [fieldN_eq_toNat_extractLsb', BitVec.ofNat_toNat, BitVec.setWidth_eq]
  have acc : BitVec.ofNat 10 (fieldN v 9 0) = v.setWidth 10 := by
    rw [show fieldN v 9 0 = (v.setWidth 10).toNat by simp [fieldN], BitVec.ofNat_toNat, BitVec.setWidth_eq]
  exact ⟨_, by rw [exec_fabcfgWrite, execFabcfgWrite], rfl, age, rfl, rfl, fun h => (if_pos h).trans acc, fun h => if_neg h⟩

/-- 03 R80, R81, 09 R233, 15 R358. -/
theorem partitionRegisters : PartitionRegisters := fun s v =>
  ⟨partcfgWrite_changes s v, fun d hd => fwlogClear_changes s d hd v, fun d hd => exec_dscarveWrite_eq s d hd v, fabcfgWrite_changes s v⟩

/-! The routing of register writes (00 R9-R12). -/

section
variable {wide : Nat → Bool} {w64 : Nat → Word → Word → State → State} {w32 : Nat → W32 → State → State}

/-- A write that is misaligned, or of another width than 32 or 64 bits, changes nothing. -/
theorem routeWrite_misaligned {off n : Nat} (v : Word) (s : State) (h : off % 4 ≠ 0 ∨ (n ≠ 4 ∧ n ≠ 8) ∨ (n = 8 ∧ off % 8 ≠ 0)) :
    routeWrite wide w64 w32 off v n s = s := by
  have h8 : ¬ (n = 8 ∧ off % 8 = 0) := by omega
  have h4 : ¬ (n = 4 ∧ off % 4 = 0) := by omega
  simp only [routeWrite, Bool.and_eq_true, beq_iff_eq, h8, h4, if_false]

theorem routeWrite_narrow {off : Nat} (v : Word) (s : State) (ha : off % 4 = 0) (hw : wide (off / 8 * 8) = false) :
    routeWrite wide w64 w32 off v 4 s = w32 off (v.setWidth 32) s := by
  simp [routeWrite, ha, hw]

/-- A 64-bit write to two 32-bit registers changes the lower first (log 27). -/
theorem routeWrite_pair {off : Nat} (v : Word) (s : State) (ha : off % 8 = 0) (hw : wide off = false) :
    routeWrite wide w64 w32 off v 8 s = w32 (off + 4) ((v >>> 32).setWidth 32) (w32 off (v.setWidth 32) s) := by
  simp [routeWrite, ha, hw]

theorem routeWrite_wide {off : Nat} (v : Word) (s : State) (ha : off % 8 = 0) (hw : wide off = true) :
    routeWrite wide w64 w32 off v 8 s = w64 off v (BitVec.allOnes 64) s := by
  simp [routeWrite, ha, hw]

end

/-- No register of the command buffer is of 64 bits. -/
theorem pfWide_cmdBuf {off : Nat} (h : off < 0x1040) : pfWide off = false := by
  have h1 : decide (0x3000 ≤ off) = false := decide_eq_false (by omega)
  have h2 : decide (0x400000 ≤ off) = false := decide_eq_false (by omega)
  simp only [pfWide, inPorts, inEndpoints, h1, h2, Bool.false_and, Bool.or_self]

theorem State.writePf32_cmdBuf (s : State) {i : Nat} (hi : i < 16) (v : W32) :
    s.writePf32 (0x1000 + 4 * i) v = { s with pf := { s.pf with cmdBuf := listSet s.pf.cmdBuf i v } } := by
  have hin : (decide (0x1000 ≤ 0x1000 + 4 * i) && decide (0x1000 + 4 * i < 0x1040)) = true := by
    simp only [Bool.and_eq_true, decide_eq_true_eq]
    omega
  have hidx : (0x1000 + 4 * i) % 0x1000 / 4 = i := by omega
  unfold State.writePf32
  rw [if_pos hin, hidx]

theorem exec_registerWrite_cmdWord (s : State) (v : Word) {i : Nat} (hi : i < 16) : exec (.registerWrite (.pf (0x1000 + 4 * i) v 4)) s =
    .next { s with pf := { s.pf with cmdBuf := listSet s.pf.cmdBuf i (v.setWidth 32) } } := by
  rw [exec_registerWrite]
  refine congrArg _ ((routeWrite_narrow v s (by omega) (pfWide_cmdBuf (by omega))).trans ?_)
  exact s.writePf32_cmdBuf hi _

theorem exec_registerWrite_cmdPair (s : State) (v : Word) {i : Nat} (hi : i < 8) : exec (.registerWrite (.pf (0x1000 + 8 * i) v 8)) s =
    .next { s with pf := { s.pf with
      cmdBuf := listSet (listSet s.pf.cmdBuf (2 * i) (v.setWidth 32)) (2 * i + 1) ((v >>> 32).setWidth 32) } } := by
  have lo : 0x1000 + 8 * i = 0x1000 + 4 * (2 * i) := by omega
  have hi' : 0x1000 + 8 * i + 4 = 0x1000 + 4 * (2 * i + 1) := by omega
  rw [exec_registerWrite]
  refine congrArg _ ((routeWrite_pair v s (by omega) (pfWide_cmdBuf (by omega))).trans ?_)
  rw [hi', lo, State.writePf32_cmdBuf _ (by omega), State.writePf32_cmdBuf _ (by omega)]

theorem exec_registerWrite_misaligned (s : State) (v : Word) {off n : Nat}
    (h : off % 4 ≠ 0 ∨ (n ≠ 4 ∧ n ≠ 8) ∨ (n = 8 ∧ off % 8 ≠ 0)) :
    exec (.registerWrite (.pf off v n)) s = .next s ∧ ∀ vd, exec (.registerWrite (.vf vd off v n)) s = .next s := by
  simp only [exec_registerWrite, execRegisterWrite, routeWrite_misaligned v s h, ite_self, implies_true, and_self]

theorem exec_registerWrite_vfIdle (s : State) (v : Word) {vd off : Nat} (n : Nat) (h : s.vfTakes vd off = false) :
    exec (.registerWrite (.vf vd off v n)) s = .next s := by
  simp only [exec_registerWrite, execRegisterWrite, h, Bool.false_eq_true, if_false]

theorem State.vfTakes_silent {s : State} {vd : Nat} (off : Nat) (h : (s.vd vd).responds = false) : s.vfTakes vd off = false := by
  simp [State.vfTakes, h]

/-- While the device is banked or leaving a VF takes only what lies in its kick pages (01 R29). -/
theorem State.vfTakes_banked {s : State} (vd : Nat) {off : Nat} (hp : s.power.state = 3 ∨ s.power.state = 4) (ho : off < 0x10000) :
    s.vfTakes vd off = false := by
  have hk : inKicks off = false := by simp only [inKicks, decide_eq_false (Nat.not_le.mpr ho), Bool.false_and]
  rcases hp with hp | hp <;> simp [State.vfTakes, hp, hk]

theorem State.vfTakes_active {s : State} {vd : Nat} (off : Nat) (hr : (s.vd vd).responds = true) (hp : s.power.state = 1) :
    s.vfTakes vd off = true := by
  simp [State.vfTakes, hr, hp]

/-- QBASE of local queue l: its block and its offset there (02 R39, R54). -/
theorem qbase_block {l : Nat} (h : l < 64) : inBlocks (0x100 + 0x20 * l) = true ∧ blockOf (0x100 + 0x20 * l) = (l, 0) := by
  have hi : 0x100 + 0x20 * l < 0x900 := by omega
  have hb : (0x100 + 0x20 * l) / 0x20 - 8 = l := by omega
  have ho : (0x100 + 0x20 * l) % 0x20 = 0 := by omega
  simp only [inBlocks, blockOf, hi, hb, ho, decide_true, Bool.and_true, Nat.le_add_right, and_self]

theorem mergeBits_allOnes (old v : Word) : mergeBits old v (BitVec.allOnes 64) = v := by
  rw [mergeBits, BitVec.and_allOnes, BitVec.not_allOnes, BitVec.and_zero, BitVec.zero_or]

theorem exec_registerWrite_qbase (s : State) (v : Word) {vd l : Nat} (hr : (s.vd vd).responds = true) (hl : l < (s.vd vd).qcount)
    (h64 : l < 64) (hp : s.power.state = 1) :
    let q := (s.vd vd).qfirst + l
    exec (.registerWrite (.vf vd (0x100 + 0x20 * l) v 8)) s =
      .next (if (s.queue q).qcfg.getLsbD 31 = true ∨ (s.queue q).state = 5 then s
        else s.setQueue q { s.queue q with qbase := v &&& 0x000FFFFFFFFFFFC0 }) := by
  intro q
  obtain ⟨hin, hblock⟩ := qbase_block h64
  have hwide : vfWide (0x100 + 0x20 * l) = true := by simp [vfWide, hin, hblock]
  have route := routeWrite_wide (w64 := fun o v m s => s.writeVf64 vd o v m) (w32 := fun o v s => s.writeVf32 vd o v) v s
    (by omega) hwide
  simp only [exec_registerWrite, execRegisterWrite, s.vfTakes_active _ hr hp, if_true, route]
  simp only [State.writeVf64, hin, hblock, hl, if_true, State.writeQueue64, mergeBits_allOnes, beq_self_eq_true, Bool.or_eq_true, beq_iff_eq]
  rfl

/-- 00 R9-R12, 01 R20, R29. -/
theorem registerWrites : RegisterWrites := by
  refine ⟨exec_registerWrite_pwrcap, fun s v i hi => exec_registerWrite_cmdWord s v hi, fun s v i hi => exec_registerWrite_cmdPair s v hi,
    fun s v off n h => exec_registerWrite_misaligned s v h, fun s v vd off n h => ?silent, fun s v vd off n hp ho => ?banked,
    fun s v vd l hr hl h64 hp => exec_registerWrite_qbase s v hr hl h64 hp⟩
  case silent => exact exec_registerWrite_vfIdle s v n (State.vfTakes_silent off h)
  case banked => exact exec_registerWrite_vfIdle s v n (State.vfTakes_banked vd hp ho)

/-! Registers of a fault queue (12 R306, R307, R309). -/

theorem fieldN_enable_low {v : W32} : fieldN (v ||| 0x80000000#32) 4 0 = v.toNat % 32 := by
  rw [fieldN_congr fun i _ h => getLsbD_or_en v (by omega)]
  simp [fieldN]

theorem exec_faultQueueRegisters_silent {s : State} {n : Nat} (w : W32) (h : (s.vd n).responds = false) :
    exec (.faultQueueEnable n w) s = .next s ∧ exec (.fqconsWrite n w) s = .next s ∧
      ∀ b, exec (.fqrespAbortStore n b) s = .next s := by
  simp [execFaultQueueEnable, State.writeFqcfg, execFqconsWrite, State.writeFqcons, execFqrespAbortStore, State.storeAbort, h]

section
variable {s : State} {n : Nat} (w : W32) (hr : (s.vd n).responds = true)
include hr

theorem exec_faultQueueEnable_enabled (he : (s.vd n).fqEn = true) : exec (.faultQueueEnable n w) s = .next s := by
  simp [execFaultQueueEnable, State.writeFqcfg, hr, he]

/-- A write of EN = 1 to a fault queue that is not enabled, as its size and base allow. -/
theorem exec_faultQueueEnable_disabled (he : (s.vd n).fqEn = false) : exec (.faultQueueEnable n w) s = .next
    (if 6 ≤ w.toNat % 32 ∧ w.toNat % 32 ≤ 16 ∧ (s.vd n).fqBase.toNat / 4096 % 2 ^ 40 ≠ 0 then
      s.setVd n { s.vd n with fqEn := true, fqSize := BitVec.ofNat 5 (w.toNat % 32), fqProd := 0, fqCons := 0 }
    else s.setVd n { s.vd n with fqSize := BitVec.ofNat 5 (w.toNat % 32), fqCfgErr := true }) := by
  have en : (w ||| 0x80000000#32).getLsbD 31 = true := by simp
  have size : (BitVec.ofNat 5 (w.toNat % 32)).toNat = w.toNat % 32 := by simp
  have hbad : (decide (w.toNat % 32 < 6) || decide (16 < w.toNat % 32) || fieldN (s.vd n).fqBase 51 12 == 0) =
      !decide (6 ≤ w.toNat % 32 ∧ w.toNat % 32 ≤ 16 ∧ (s.vd n).fqBase.toNat / 4096 % 2 ^ 40 ≠ 0) := by
    rw [Bool.eq_iff_iff]
    simp only [fieldN, Bool.or_eq_true, decide_eq_true_eq, beq_iff_eq, Bool.not_eq_true', decide_eq_false_iff_not]
    omega
  simp only [exec_faultQueueEnable, execFaultQueueEnable, State.writeFqcfg, hr, he, en, fieldN_enable_low, size, hbad, Bool.not_true,
    Bool.false_eq_true, if_false, Bool.not_eq_true', decide_eq_false_iff_not, ite_not]

theorem exec_fqconsWrite_eq : exec (.fqconsWrite n w) s =
    .next (if ((s.vd n).fqProd - w).toNat ≤ 2 ^ (s.vd n).fqSize.toNat then s.setVd n { s.vd n with fqCons := w } else s) := by
  simp only [exec_fqconsWrite, execFqconsWrite, State.writeFqcons, hr, Bool.not_true, Bool.false_or, decide_eq_true_eq, ← Nat.not_le, ite_not]

end

/-- 12 R306, R307, R309. -/
theorem faultQueueRegisters : FaultQueueRegisters := by
  intro s n w
  refine ⟨exec_faultQueueRegisters_silent w, fun hr => ⟨exec_faultQueueEnable_enabled w hr, fun he => ⟨fun hf => ?_, fun hf => ?_⟩,
    exec_fqconsWrite_eq w hr, fun b => ?_⟩⟩
  · rw [exec_faultQueueEnable_disabled w hr he, if_pos hf]
  · rw [exec_faultQueueEnable_disabled w hr he, if_neg hf]
  · rw [exec_fqrespAbortStore, execFqrespAbortStore, State.storeAbort, if_pos hr]
    rfl

end Sys2Proof.Machine

namespace Sys2Proof

open Machine Claims

/-- Settles O40: the registers of queues, of the physical function, of a virtual function and of fault queues, each by its lemma. -/
theorem deviceRegisters : Obligations.DeviceRegisters := ⟨queueRegisters, partitionRegisters, registerWrites, faultQueueRegisters⟩

end Sys2Proof

/-! PROOFS. Fields of the VD table's words, what a table shows after it is mapped or filtered, and folds over a VD's queues. -/

namespace Sys2Proof.Machine

/-! Fields of a word. -/

theorem fieldN_eq_mod_div {w : Nat} (x : BitVec w) {hi lo : Nat} (h : lo ≤ hi) : fieldN x hi lo = x.toNat % 2 ^ (hi + 1) / 2 ^ lo := by
  rw [fieldN, show hi + 1 = lo + (hi + 1 - lo) by omega, pow_add, Nat.mod_mul_right_div_self]
  congr 2
  omega

/-- A word whose field is replaced: what lies above it, the field, and what lies below it. -/
theorem toNat_putField (x : Word) {hi lo : Nat} (v : Nat) (h : lo ≤ hi) (h64 : hi < 64) : (putField x hi lo v).toNat =
    2 ^ lo * (2 ^ (hi + 1 - lo) * (x.toNat / 2 ^ (hi + 1)) + v % 2 ^ (hi + 1 - lo)) + x.toNat % 2 ^ lo := by
  have hm : 0 < 2 ^ (hi + 1 - lo) := Nat.two_pow_pos _
  have hsplit : 2 ^ (hi + 1) = 2 ^ lo * 2 ^ (hi + 1 - lo) := by rw [← pow_add]; congr 1; omega
  have hword : (2 : Nat) ^ 64 = 2 ^ lo * 2 ^ (hi + 1 - lo) * 2 ^ (63 - hi) := by rw [← hsplit, ← pow_add]; congr 1; omega
  have hx := x.isLt
  rw [putField, fieldN, BitVec.toNat_ofNat, hsplit]
  generalize 2 ^ (hi + 1 - lo) = m at *
  generalize 2 ^ (63 - hi) = k at *
  have hp : 0 < 2 ^ lo := Nat.two_pow_pos lo
  generalize 2 ^ lo = p at *
  generalize x.toNat = n at *
  rw [hword] at hx ⊢
  have hn : n = p * (m * (n / (p * m)) + n / p % m) + n % p := by
    rw [← Nat.div_div_eq_div_mul, Nat.div_add_mod, Nat.div_add_mod]
  have hk : n / (p * m) < k := Nat.div_lt_of_lt_mul hx
  have hc : n % p < p := Nat.mod_lt _ hp
  have hv : v % m < m := Nat.mod_lt _ hm
  generalize n / (p * m) = a at *
  generalize n / p % m = b at *
  generalize n % p = c at *
  generalize v % m = u at *
  have hsub : n - b * p + u * p = p * (m * a + u) + c := by
    subst hn
    rw [Nat.mul_add p (m * a) b, Nat.mul_comm b p, Nat.mul_add p (m * a) u, Nat.mul_comm u p]
    omega
  rw [hsub]
  refine Nat.mod_eq_of_lt ?_
  calc p * (m * a + u) + c < p * (m * a + u + 1) := by rw [Nat.mul_succ]; omega
    _ ≤ p * (m * (a + 1)) := Nat.mul_le_mul_left p (by rw [Nat.mul_succ]; omega)
    _ ≤ p * (m * k) := Nat.mul_le_mul_left p (Nat.mul_le_mul_left m hk)
    _ = p * m * k := (Nat.mul_assoc p m k).symm

theorem fieldN_putField_self (x : Word) {hi lo : Nat} (v : Nat) (h : lo ≤ hi) (h64 : hi < 64) :
    fieldN (putField x hi lo v) hi lo = v % 2 ^ (hi + 1 - lo) := by
  have hc : x.toNat % 2 ^ lo < 2 ^ lo := Nat.mod_lt _ (Nat.two_pow_pos _)
  rw [fieldN, toNat_putField x v h h64, Nat.mul_add_div (Nat.two_pow_pos _), Nat.div_eq_of_lt hc, Nat.add_zero, Nat.mul_add_mod,
    Nat.mod_mod]

/-- A field below the one that is replaced. -/
theorem fieldN_putField_below (x : Word) {hi lo hi' lo' : Nat} (v : Nat) (h : lo ≤ hi) (h64 : hi < 64) (h' : lo' ≤ hi') (hb : hi' < lo) :
    fieldN (putField x hi lo v) hi' lo' = fieldN x hi' lo' := by
  rw [fieldN_eq_mod_div _ h', fieldN_eq_mod_div _ h', toNat_putField x v h h64]
  have hd : 2 ^ (hi' + 1) ∣ 2 ^ lo := Nat.pow_dvd_pow 2 hb
  rw [Nat.add_mod, Nat.mod_eq_zero_of_dvd (hd.mul_right _), Nat.zero_add, Nat.mod_mod, Nat.mod_mod_of_dvd _ hd]

/-- A field above the one that is replaced. -/
theorem fieldN_putField_above (x : Word) {hi lo hi' lo' : Nat} (v : Nat) (h : lo ≤ hi) (h64 : hi < 64) (hb : hi < lo') :
    fieldN (putField x hi lo v) hi' lo' = fieldN x hi' lo' := by
  have hsplit : 2 ^ (hi + 1) = 2 ^ lo * 2 ^ (hi + 1 - lo) := by rw [← pow_add]; congr 1; omega
  have hc : x.toNat % 2 ^ lo < 2 ^ lo := Nat.mod_lt _ (Nat.two_pow_pos _)
  have hv : v % 2 ^ (hi + 1 - lo) < 2 ^ (hi + 1 - lo) := Nat.mod_lt _ (Nat.two_pow_pos _)
  have hup : (putField x hi lo v).toNat / 2 ^ (hi + 1) = x.toNat / 2 ^ (hi + 1) := by
    rw [toNat_putField x v h h64, hsplit, ← Nat.div_div_eq_div_mul, Nat.mul_add_div (Nat.two_pow_pos _), Nat.div_eq_of_lt hc, Nat.add_zero,
      Nat.mul_add_div (Nat.two_pow_pos _), Nat.div_eq_of_lt hv, Nat.add_zero]
  have hlo : 2 ^ lo' = 2 ^ (hi + 1) * 2 ^ (lo' - (hi + 1)) := by rw [← pow_add]; congr 1; omega
  rw [fieldN, fieldN, hlo, ← Nat.div_div_eq_div_mul, ← Nat.div_div_eq_div_mul, hup]

theorem fieldN_ofNat {x : Nat} (hi lo : Nat) (h : x < 2 ^ 64) : fieldN (BitVec.ofNat 64 x) hi lo = x / 2 ^ lo % 2 ^ (hi + 1 - lo) := by
  rw [fieldN, BitVec.toNat_ofNat, Nat.mod_eq_of_lt h]

/-! Words of a VD's entry (02 R40). -/

theorem Vd.word_setWord_self (v : Vd) {i : Nat} (w : Word) (h : i < v.entry.length) : (v.setWord i w).word i = w :=
  listGet_listSet_self _ _ _ _ h

theorem Vd.word_setWord_ne (v : Vd) {i j : Nat} (w : Word) (h : j ≠ i) : (v.setWord i w).word j = v.word j :=
  listGet_listSet_ne _ _ _ h

/-- A VD that is not FREE has an entry. -/
theorem Vd.entry_of_state {v : Vd} (h : v.state ≠ 0) : 0 < v.entry.length := by
  refine List.length_pos_iff.mpr fun e => h ?_
  simp [Vd.state, Vd.word, e, listGet, fieldN]

theorem Vd.state_setState (v : Vd) {n : Nat} (h : v.state ≠ 0) (hn : n < 8) : (v.setState n).state = n := by
  rw [Vd.state, Vd.setState, Vd.word_setWord_self v _ (Vd.entry_of_state h), fieldN_putField_self _ _ (by omega) (by omega)]
  exact Nat.mod_eq_of_lt hn

/-! Tables. -/

/-- What a table shows is its default or one of its values. -/
theorem Table.get_of_forall {β : Type} {P : β → Prop} {d : β} {t : Table β} (hd : P d) (ht : ∀ e ∈ t, P e.2) (n : Nat) :
    P (Table.get d t n) := by
  induction t with
  | nil => exact hd
  | cons e t ih =>
    obtain ⟨k, u⟩ := e
    rw [Table.get]
    split
    · exact ht (k, u) (by simp)
    · exact ih fun e he => ht e (by simp [he])

/-- A table whose values are changed, at a key that does not show the default. -/
theorem Table.get_map_of_ne {β : Type} {d : β} {t : Table β} {n : Nat} (h : Table.get d t n ≠ d) {f : Nat × β → Nat × β}
    (hk : ∀ e, (f e).1 = e.1) : Table.get d (t.map f) n = (f (n, Table.get d t n)).2 := by
  induction t with
  | nil => exact absurd rfl h
  | cons e t ih =>
    obtain ⟨k, u⟩ := e
    have hf : f (k, u) = (k, (f (k, u)).2) := Prod.ext (hk (k, u)) rfl
    rw [List.map_cons, hf]
    simp only [Table.get] at h ⊢
    by_cases hn : (n == k) = true
    · rw [if_pos hn, if_pos hn, beq_iff_eq.mp hn]
    · rw [if_neg hn] at h
      rw [if_neg hn, if_neg hn, ih h]

/-- A table whose values are changed by what leaves the default. -/
theorem Table.get_map {β : Type} {d : β} {f : β → β} (hf : f d = d) (t : Table β) (n : Nat) :
    Table.get d (t.map fun e => (e.1, f e.2)) n = f (Table.get d t n) := by
  induction t with
  | nil => exact hf.symm
  | cons e t ih =>
    simp only [List.map_cons, Table.get, ih]
    split <;> rfl

/-! Folds over a VD's queues. -/

theorem State.foldl_updQueue_frame (s : State) (q : Nat → Nat) (f : Nat → Queue → Queue) (l : List Nat) :
    ∃ x, l.foldl (fun (s : State) i => s.updQueue (q i) (f i)) s = { s with queues := x } := by
  refine foldl_keeps (fun t : State => ∃ x, t = { s with queues := x }) _ ?_ l s ⟨_, rfl⟩
  rintro _ i ⟨x, rfl⟩
  exact ⟨_, rfl⟩

theorem State.queue_updQueue_ne (s : State) {q k : Nat} (f : Queue → Queue) (h : k ≠ q) : (s.updQueue q f).queue k = s.queue k :=
  s.queue_setQueue_ne _ h

/-- Each queue of a range is changed once. -/
theorem State.queue_foldl_updQueue (s : State) (first : Nat) (f : Nat → Queue → Queue) {n i : Nat} (hi : i < n) :
    ((List.range n).foldl (fun (s : State) i => s.updQueue (first + i) (f i)) s).queue (first + i) = f i (s.queue (first + i)) := by
  have h := foldl_lane (fun (s : State) i => s.updQueue (first + i) (f i)) (fun s i => s.queue (first + i))
    (fun x l m hm => x.queue_updQueue_ne _ (by omega)) (fun x y l hxy => by simp only [State.queue_updQueue, hxy])
    (List.range n) List.nodup_range s i
  simpa only [List.mem_range, hi, if_true, State.queue_updQueue] using h

end Sys2Proof.Machine

/-! PROOFS. What goes on beside the life of a VD: stores, table entries, messages and the release of workgroups leave the command under
way, the queues, the states of the VDs and the tallies of the grids; most leave where each workgroup stands too. -/

namespace Sys2Proof.Machine

/-- Of a VD, what its life turns on: its first entry word and its ashpit. -/
def Vd.life (v : Vd) : Word × Word × Bool := (v.word 0, v.ashBase, v.ashNo)

/-- Of a grid, what a gang kill counts. -/
def Grid.tally (x : Grid) : Table Nat × List Nat × Nat × Bool := (x.kills, x.relaunch, x.endedGroups, x.killed)

/-- Of a workgroup, whose it is, where it stands, how it is halted, and how many warps it has. -/
structure Standing where
  vd : Nat
  grid : Nat
  wgid : Nat
  residence : Residence
  halt : Option Halt
  warps : Nat

def Group.standing (x : Group) : Standing := ⟨x.vd, x.grid, x.wgid, x.residence, x.halt, x.warps.length⟩

/-- The command under way, the cycle count, the queues, the VDs' states and the grids' tallies stay. -/
structure SameRun (s t : State) : Prop where
  busy : t.pf.busy = s.pf.busy
  clk : t.clk = s.clk
  queues : t.queues = s.queues
  life : ∀ n, (t.vd n).life = (s.vd n).life
  tally : ∀ n, (t.grid n).tally = (s.grid n).tally

/-- Workgroups stay where they stand, too. -/
structure Steady (s t : State) : Prop extends SameRun s t where
  group : ∀ g, (t.group g).standing = (s.group g).standing

theorem SameRun.refl (s : State) : SameRun s s := ⟨rfl, rfl, rfl, fun _ => rfl, fun _ => rfl⟩

theorem Steady.refl (s : State) : Steady s s := ⟨.refl s, fun _ => rfl⟩

section
variable {s t u : State}

theorem SameRun.trans (h : SameRun s t) (k : SameRun t u) : SameRun s u :=
  ⟨k.busy.trans h.busy, k.clk.trans h.clk, k.queues.trans h.queues, fun n => (k.life n).trans (h.life n), fun n => (k.tally n).trans (h.tally n)⟩

theorem Steady.trans (h : Steady s t) (k : Steady t u) : Steady s u :=
  ⟨h.toSameRun.trans k.toSameRun, fun g => (k.group g).trans (h.group g)⟩

/-- Another part of the state changes. -/
theorem Steady.of_eq (hb : t.pf.busy = s.pf.busy) (hc : t.clk = s.clk) (hq : t.queues = s.queues) (hv : t.vds = s.vds)
    (hd : t.grids = s.grids) (hg : t.groups = s.groups) : Steady s t :=
  ⟨⟨hb, hc, hq, fun n => by rw [State.vd, State.vd, hv], fun n => by rw [State.grid, State.grid, hd]⟩,
    fun g => by rw [State.group, State.group, hg]⟩

theorem Steady.foldl {α : Type} {f : State → α → State} (hf : ∀ s a, Steady s (f s a)) (l : List α) (s : State) : Steady s (l.foldl f s) :=
  foldl_keeps (Steady s) f (fun t a h => h.trans (hf t a)) l s (.refl s)

theorem Vd.state_of_life {v w : Vd} (h : v.life = w.life) : v.state = w.state :=
  congrArg (fun x : Word × Word × Bool => fieldN x.1 2 0) h

theorem SameRun.state (h : SameRun s t) (n : Nat) : (t.vd n).state = (s.vd n).state := Vd.state_of_life (h.life n)

theorem SameRun.ashNo (h : SameRun s t) (n : Nat) : (t.vd n).ashNo = (s.vd n).ashNo := congrArg (fun x => x.2.2) (h.life n)

theorem SameRun.ashBase (h : SameRun s t) (n : Nat) : (t.vd n).ashBase = (s.vd n).ashBase := congrArg (fun x => x.2.1) (h.life n)

theorem SameRun.queue (h : SameRun s t) (q : Nat) : t.queue q = s.queue q := by rw [State.queue, State.queue, h.queues]

theorem SameRun.carrying (h : SameRun s t) (op n : Nat) : t.carrying op n = s.carrying op n := by
  rw [State.carrying, State.carrying, h.busy]

end

/-! Updates of one entity. -/

theorem State.vd_updVd_ne (s : State) {n m : Nat} (f : Vd → Vd) (h : m ≠ n) : (s.updVd n f).vd m = s.vd m := s.vd_setVd_ne _ h

theorem State.steady_updVd (s : State) {n : Nat} {f : Vd → Vd} (hf : (f (s.vd n)).life = (s.vd n).life) : Steady s (s.updVd n f) := by
  refine ⟨⟨rfl, rfl, rfl, fun m => ?_, fun _ => rfl⟩, fun _ => rfl⟩
  by_cases hm : m = n
  · rw [hm, State.vd_updVd, hf]
  · rw [s.vd_updVd_ne f hm]

theorem State.steady_setVd (s : State) {n : Nat} {v : Vd} (hv : v.life = (s.vd n).life) : Steady s (s.setVd n v) :=
  s.steady_updVd (f := fun _ => v) hv

theorem State.grid_updGrid_ne (s : State) {n m : Nat} (f : Grid → Grid) (h : m ≠ n) : (s.updGrid n f).grid m = s.grid m :=
  Table.get_put_ne _ h _ _

theorem State.steady_updGrid (s : State) {n : Nat} {f : Grid → Grid} (hf : (f (s.grid n)).tally = (s.grid n).tally) :
    Steady s (s.updGrid n f) := by
  refine ⟨⟨rfl, rfl, rfl, fun _ => rfl, fun m => ?_⟩, fun _ => rfl⟩
  by_cases hm : m = n
  · rw [hm, State.grid_updGrid, hf]
  · rw [s.grid_updGrid_ne f hm]

theorem State.steady_updGroup (s : State) {g : Nat} {f : Group → Group} (hf : (f (s.group g)).standing = (s.group g).standing) :
    Steady s (s.updGroup g f) := by
  refine ⟨⟨rfl, rfl, rfl, fun _ => rfl, fun _ => rfl⟩, fun k => ?_⟩
  by_cases hk : k = g
  · rw [hk, State.group_updGroup, hf]
  · rw [s.group_updGroup_ne f hk]

theorem State.steady_updCore (s : State) (c : Nat) (f : Core → Core) : Steady s (s.updCore c f) := .of_eq rfl rfl rfl rfl rfl rfl

theorem State.steady_updWarp (s : State) (g w : Nat) (f : Warp → Warp) : Steady s (s.updWarp g w f) :=
  s.steady_updGroup (f := fun x => { x with warps := listSet x.warps w (f (s.warp g w)) }) (by
    simp only [Group.standing, length_listSet])

theorem State.steady_setStoker (s : State) (g : Nat) (v : Stoker) : Steady s (s.setStoker g v) := s.steady_updGroup rfl

theorem State.steady_setAgent (s : State) (a : AgentId) (v : Agent) : Steady s (s.setAgent a v) := by
  cases a with
  | warp g w => exact s.steady_updWarp g w fun x => { x with agent := v }
  | stoker g => exact s.steady_setStoker g { s.stoker g with agent := v }
  | ctl c => exact .of_eq rfl rfl rfl rfl rfl rfl

theorem State.steady_setWork (s : State) (a : AgentId) (n : Nat) (w : OpWork) : Steady s (s.setWork a n w) := s.steady_setAgent a _

theorem State.steady_send (s : State) (m : Message) : Steady s (s.send m) := .of_eq rfl rfl rfl rfl rfl rfl

/-! Writes to memory (12 R299-R304; 13 R320). -/

theorem State.steady_writeByte (s : State) (l : Loc) (b : Byte) : Steady s (s.writeByte l b) := by
  unfold State.writeByte
  split
  · exact s.steady_updWarp _ _ _
  · exact .of_eq rfl rfl rfl rfl rfl rfl

theorem State.steady_markDirty (s : State) (l : Loc) : Steady s (s.markDirty l) := by
  unfold State.markDirty
  split
  · extract_lets n
    split
    · exact .refl s
    · exact s.steady_updGroup rfl
  · exact .refl s

theorem State.steady_setPoison (s : State) (l : Loc) (p : Option Prov) : Steady s (s.setPoison l p) := by
  unfold State.setPoison
  split
  · exact s.steady_updWarp _ _ _
  · exact .of_eq rfl rfl rfl rfl rfl rfl

theorem State.steady_performWrites (s : State) (ws : List ByteWrite) : Steady s (s.performWrites ws) := by
  unfold State.performWrites
  extract_lets s1 grans
  have h1 : Steady s s1 := .foldl (fun t w => (t.steady_writeByte w.loc w.byte).trans (State.steady_markDirty _ _)) ws s
  refine h1.trans (.foldl (fun t l => ?_) grans s1)
  extract_lets written after
  split
  · exact .refl t
  · exact t.steady_setPoison l after

theorem State.steady_performOutside (s : State) (ws : List ByteWrite) : Steady s (s.performOutside ws) := by
  refine Steady.trans ?_ (State.steady_performWrites { s with owners := _ } ws)
  exact .of_eq rfl rfl rfl rfl rfl rfl

theorem State.steady_performBy (s : State) (a : AgentId) (ws : List ByteWrite) : Steady s (s.performBy a ws) := by
  refine Steady.trans ?_ (State.steady_performWrites _ ws)
  unfold State.ownWords
  split <;> exact .of_eq rfl rfl rfl rfl rfl rfl

theorem State.steady_orderOp (s : State) (a : AgentId) (o : Op) : Steady s (s.orderOp a o) := by
  unfold State.orderOp
  split
  · next m ws pk rm _ =>
    split
    · split
      · exact s.steady_setWork a o.id .finished
      · exact .refl s
    · exact (s.steady_performBy a ws).trans (State.steady_setWork _ _ _ _)
  · exact .refl s

theorem State.steady_flushAgents (s : State) : Steady s s.flushAgents :=
  .foldl (fun t a => .foldl (fun t o => t.steady_orderOp a o) _ t) _ s

theorem State.steady_retranslate (s : State) (ls : List Nat) : Steady s (s.retranslate ls) := by
  unfold State.retranslate
  split
  · exact .refl s
  · have h1 : Steady s (s.invalidate ls) := .of_eq rfl rfl rfl rfl rfl rfl
    exact h1.trans (State.steady_flushAgents _)

theorem State.steady_engineStore (s : State) (ws : List ByteWrite) : Steady s (s.engineStore ws) :=
  (s.steady_performOutside ws).trans (State.steady_retranslate _ _)

theorem State.steady_writeEntry (s : State) (slot : Nat) (w : Word) : Steady s (s.writeEntry slot w) := s.steady_engineStore _

/-! The end of a checkpoint (18 R419). -/

theorem State.steady_setCbw (s : State) (vd leaf : Nat) (on : Bool) : Steady s (s.setCbw vd leaf on) := by
  unfold State.setCbw
  dsimp only
  split
  · exact .refl s
  · exact s.steady_engineStore _

theorem State.steady_abandonCk (s : State) (vd : Nat) : Steady s (s.abandonCk vd) := by
  unfold State.abandonCk State.endCk
  split
  · exact .refl s
  · next c _ =>
    extract_lets s1 s2
    have h1 : Steady s s1 := .foldl (fun t l => t.steady_setCbw vd l false) _ s
    have h2 : Steady s1 s2 := .of_eq rfl rfl rfl rfl rfl rfl
    exact (h1.trans h2).trans (s2.steady_updVd rfl)

/-! The parts of a workgroup's release (04 R114, 14 R345, 16 R396). -/

theorem Vd.life_setWord (v : Vd) {i : Nat} (w : Word) (h : i ≠ 0) : (v.setWord i w).life = v.life := by
  have h0 : (v.setWord i w).word 0 = v.word 0 := v.word_setWord_ne w h.symm
  rw [Vd.life, h0]
  rfl

theorem State.steady_charge (s : State) (g : Nat) : Steady s (s.charge g) := by
  unfold State.charge
  extract_lets x c s1 s2
  have h1 : Steady s s1 := s.steady_updVd (Vd.life_setWord _ _ (by decide))
  have h2 : Steady s1 s2 := s1.steady_updGrid rfl
  exact (h1.trans h2).trans (s2.steady_updGroup rfl)

theorem State.steady_unlock (s : State) (op : Nat) : Steady s (s.unlock op) := .of_eq rfl rfl rfl rfl rfl rfl

theorem State.steady_syncFlue (s : State) (k : Nat) : Steady s (s.syncFlue k) := by
  unfold State.syncFlue
  split
  · exact .refl s
  · exact .foldl (fun t (e : Nat × Nat) => (t.steady_unlock e.2).trans (.foldl (fun u c => u.steady_updCore c _) _ _)) _ s

theorem State.steady_detach (s : State) (g : Nat) (a : Attach) : Steady s (s.detach g a) := by
  unfold State.detach
  cases s.partOf a.die (s.group g).vd a.grid with
  | none => exact s.steady_updGroup rfl
  | some p =>
    have h1 : Steady s (s.updPart p.1 fun x => { x with attached := x.attached - 1 }) := .of_eq rfl rfl rfl rfl rfl rfl
    exact (h1.trans (State.steady_updGroup _ rfl)).trans (State.steady_syncFlue _ p.1)

theorem State.steady_leaveCore (s : State) (vd core : Nat) : Steady s (s.leaveCore vd core) := by
  unfold State.leaveCore
  split
  · exact .refl s
  · exact s.steady_updVd (Vd.life_setWord _ _ (by decide))

theorem State.steady_evalMirrors (s : State) (core : Nat) : Steady s (s.evalMirrors core) := by
  refine .foldl (fun t e => ?_) _ s
  split
  · exact .refl t
  · exact t.steady_updGroup (by simp only [Group.standing, List.length_map])

theorem State.steady_noteBacklog (s : State) (vd : Nat) : Steady s (s.noteBacklog vd) := by
  unfold State.noteBacklog
  extract_lets now v others
  have hset (b : Bool) (w : Word) : ((v.setVt w).setBacklog b).life = v.life :=
    (Vd.life_setWord _ _ (by decide)).trans (Vd.life_setWord _ _ (by decide))
  split
  · exact .refl s
  · split
    · exact s.steady_setVd (Vd.life_setWord _ _ (by decide))
    · clear_value others
      split
      · exact s.steady_setVd (Vd.life_setWord _ _ (by decide))
      · exact s.steady_setVd (hset _ _)

theorem State.vd_dropWork (s : State) (gs : List Nat) (n : Nat) :
    (s.dropWork gs).vd n = { s.vd n with faults := (s.vd n).faults.filter fun f => !s.ownedBy gs f.owner } :=
  Table.get_map (f := fun v : Vd => { v with faults := v.faults.filter fun f => !s.ownedBy gs f.owner }) rfl s.vds n

theorem State.steady_dropWork (s : State) (gs : List Nat) : Steady s (s.dropWork gs) :=
  ⟨⟨rfl, rfl, rfl, fun n => by rw [s.vd_dropWork]; rfl, fun _ => rfl⟩, fun _ => rfl⟩

/-! Flue engines tell their neighbours (14 R350). -/

theorem State.steady_transmit (s : State) (n peer : Nat) (c : FlitContent) : Steady s (s.transmit n peer c) := by
  unfold State.transmit
  extract_lets x
  split
  · refine Steady.trans (t := s.setChannel n peer { x with waiting := x.waiting ++ [.data c] }) (.of_eq rfl rfl rfl rfl rfl rfl) ?_
    unfold State.flushChannel
    split
    · next fs y _ =>
      refine Steady.trans ?_ (.foldl (fun t f => t.steady_send (.flit n peer f)) fs _)
      exact .of_eq rfl rfl rfl rfl rfl rfl
  · exact s.steady_send _

theorem State.steady_learn (s : State) (k f : Nat) (c : FlueNote) : Steady s (s.learn k f c) := .of_eq rfl rfl rfl rfl rfl rfl

theorem State.steady_takeNote (s : State) (station acc : Nat) (dest : FlueDest) (c : FlueNote) : Steady s (s.takeNote station acc dest c) := by
  unfold State.takeNote
  split
  · exact .refl s
  · next k p _ =>
    extract_lets names s1 back n
    have h1 : Steady s s1 := by
      simp only [s1]
      split
      · exact s.steady_learn k _ _
      · exact .refl s
    split
    · exact h1
    · split
      · split
        · exact h1.trans (s1.steady_learn _ _ _)
        · exact h1
      · split
        · exact h1.trans (s1.steady_transmit _ _ _)
        · exact h1

theorem State.steady_sendNote (s : State) (e : Word) (dest : FlueDest) (c : FlueNote) : Steady s (s.sendNote e dest c) := by
  unfold State.sendNote
  split
  · split
    · exact s.steady_learn _ _ _
    · exact .refl s
  · extract_lets n
    split
    · exact s.steady_transmit _ _ _
    · exact .refl s

theorem State.steady_tellNeighbours (s : State) (k : Nat) (p : Partition) (steps : Option Nat) (ask : Bool) :
    Steady s (s.tellNeighbours k p steps ask) := by
  refine .foldl (fun t f => ?_) _ s
  extract_lets n
  split
  · split
    · next e _ =>
      extract_lets dest
      split
      · exact t.steady_takeNote _ _ _ _
      · exact t.steady_sendNote _ _ _
    · exact .refl t
  · exact .refl t

theorem State.steady_dropPart (s : State) (k : Nat) : Steady s (s.dropPart k) := by
  unfold State.dropPart
  split
  · exact .refl s
  · next p _ =>
    extract_lets s1 s2
    have h1 : Steady s s1 := .foldl (fun t (e : Nat × Nat) => t.steady_unlock e.2) _ s
    have h2 : Steady s1 s2 := .of_eq rfl rfl rfl rfl rfl rfl
    exact (h1.trans h2).trans (s2.steady_tellNeighbours _ _ _ _)

/-! Frames and table pages (12 R314-R316; 17 R394). -/

theorem State.steady_freeRun (s : State) (f : Nat) : Steady s (s.freeRun f) := by
  unfold State.freeRun
  split
  · exact .of_eq rfl rfl rfl rfl rfl rfl
  · exact .refl s

theorem State.steady_releaseSlot (s : State) (n : Nat) : Steady s (s.releaseSlot n) := by
  unfold State.releaseSlot
  split
  · exact .refl s
  · split
    · exact .of_eq rfl rfl rfl rfl rfl rfl
    · extract_lets s1
      have h0 : Steady s (s.retireKeys (512 + n)) := by
        unfold State.retireKeys
        split
        · exact .refl s
        · exact .of_eq rfl rfl rfl rfl rfl rfl
      have h1 : Steady s s1 := h0.trans (.foldl (fun t (e : Nat × FrameRun) => t.steady_freeRun e.1) _ _)
      exact h1.trans (.of_eq rfl rfl rfl rfl rfl rfl)

theorem State.steady_meterHbm (s : State) (vd n : Nat) : Steady s (s.meterHbm vd n) := s.steady_updVd rfl

theorem State.steady_revoke (s : State) (a n : Nat) : Steady s (s.revoke a n) := .of_eq rfl rfl rfl rfl rfl rfl

theorem State.steady_evict (s : State) (vd f page : Nat) : Steady s (s.evict vd f page) := by
  unfold State.evict
  split
  · exact s.steady_freeRun f
  · next h _ =>
    extract_lets s1 s2
    have h1 : Steady s s1 := (s.steady_writeEntry h.at_ _).trans (State.steady_revoke _ (4096 * f) 4096)
    have h2 : Steady s s2 := by
      simp only [s2]
      split
      · exact (h1.trans (s1.steady_performOutside (s1.pageWrites _ _))).trans (State.steady_meterHbm _ vd 4096)
      · exact h1
    exact h2.trans (s2.steady_freeRun f)

theorem State.steady_sweep (vd : Nat) (turn : List (Nat × Nat)) (s : State) : Steady s (s.sweep vd turn).2 := by
  induction turn generalizing s with
  | nil => exact .refl s
  | cons x rest ih =>
    obtain ⟨f, page⟩ := x
    unfold State.sweep
    split
    · exact .refl s
    · split
      · exact (s.steady_writeEntry _ _).trans (ih _)
      · exact .refl s

theorem State.steady_evictOne {s t : State} {vd : Nat} (h : s.evictOne vd = some t) : Steady s t := by
  unfold State.evictOne at h
  extract_lets v own sorted turn at h
  have hs := s.steady_sweep vd (turn ++ turn)
  split at h
  · next f page u e =>
    rw [e] at hs
    cases h
    exact (hs.trans (u.steady_evict vd f page)).trans (State.steady_updVd _ rfl)
  · cases h

theorem State.steady_takeRun {s t : State} {part n align f page : Nat} {o : FrameOwner} (h : s.takeRun part n align o page = some (f, t)) :
    Steady s t := by
  unfold State.takeRun at h
  split at h
  · cases h
    exact .of_eq rfl rfl rfl rfl rfl rfl
  · cases h

theorem State.steady_putLeaf {s t : State} {vd target : Nat} {leaf : Word} {pa lvl table : Nat}
    (h : s.putLeaf vd target leaf pa lvl table = some t) : Steady s t := by
  induction lvl generalizing s table with
  | zero => cases h
  | succ lvl ih =>
    unfold State.putLeaf at h
    extract_lets slot e at h
    split at h
    · cases h
      exact s.steady_writeEntry _ _
    · split at h
      · exact ih h
      · split at h
        · cases h
        · next f u hu =>
          extract_lets base u1 at h
          have h1 : Steady u u1 := by
            simp only [u1]
            split
            · exact .foldl (fun t i => t.steady_writeEntry _ _) _ u
            · exact .refl u
          exact (((State.steady_takeRun hu).trans h1).trans (u1.steady_writeEntry _ _)).trans (ih h)

theorem State.steady_bringIn {s t : State} {vd page : Nat} (h : s.bringIn vd page = some t) : Steady s t := by
  unfold State.bringIn at h
  extract_lets v full at h
  split at h
  · cases h
  · next u hu =>
    have h1 : Steady s u := by
      split at hu
      · exact State.steady_evictOne hu
      · cases hu
        exact .refl s
    split at h
    · cases h
    · next f w hw =>
      extract_lets w1 at h
      have h2 : Steady w w1 := (w.steady_performOutside _).trans (State.steady_meterHbm _ _ _)
      exact ((h1.trans (State.steady_takeRun hw)).trans h2).trans (State.steady_putLeaf h)

/-! Workgroups are released (17 R396, R402). -/

/-- Where a workgroup stands once it is released. -/
def Standing.released (x : Standing) : Standing := { x with residence := .ended, halt := none, warps := 0 }

/-- A workgroup that is released has ended and has no warps; the others stay where they stand. -/
theorem State.releaseGroup_effect (s : State) (g : Nat) : SameRun s (s.releaseGroup g) ∧
    ∀ k, ((s.releaseGroup g).group k).standing = if k = g then (s.group g).standing.released else (s.group k).standing := by
  unfold State.releaseGroup
  extract_lets x r s1 s2 blank s3
  have h2 : Steady s s2 := by
    have h1 : Steady s s1 := s.steady_charge g
    have hd : Steady s1 (x.attached.foldl (fun s a => s.detach g a) s1) := .foldl (fun t a => t.steady_detach g a) _ s1
    exact (h1.trans hd).trans (.of_eq rfl rfl rfl rfl rfl rfl)
  have h3 : SameRun s s3 := h2.toSameRun.trans ⟨rfl, rfl, rfl, fun _ => rfl, fun _ => rfl⟩
  have hg (k : Nat) : (s3.group k).standing = if k = g then x.standing.released else (s.group k).standing := by
    by_cases hk : k = g
    · rw [hk, if_pos rfl]
      exact congrArg Group.standing (s2.group_setGroup g _)
    · rw [if_neg hk, ← h2.group k]
      exact congrArg Group.standing (s2.group_setGroup_ne _ hk)
  have finish {t : State} (h : Steady s3 t) : SameRun s t ∧
      ∀ k, (t.group k).standing = if k = g then x.standing.released else (s.group k).standing :=
    ⟨h3.trans h.toSameRun, fun k => (h.group k).trans (hg k)⟩
  split
  · exact finish (((s3.steady_updCore _ _).trans (State.steady_leaveCore _ _ _)).trans (State.steady_evalMirrors _ _))
  · exact finish ((s3.steady_leaveCore _ _).trans (State.steady_evalMirrors _ _))
  · exact finish (.refl s3)

theorem State.dropGroups_effect (s : State) (gs : List Nat) : SameRun s (s.dropGroups gs) ∧
    ∀ k, ((s.dropGroups gs).group k).standing = if k ∈ gs then (s.group k).standing.released else (s.group k).standing := by
  have fold : ∀ (gs : List Nat) (s : State), SameRun s (gs.foldl (fun s g => s.releaseGroup g) s) ∧
      ∀ k, ((gs.foldl (fun s g => s.releaseGroup g) s).group k).standing =
        if k ∈ gs then (s.group k).standing.released else (s.group k).standing := by
    intro gs
    induction gs with
    | nil => exact fun s => ⟨.refl s, fun k => by simp⟩
    | cons g gs ih =>
      intro s
      obtain ⟨hrun, hgroup⟩ := s.releaseGroup_effect g
      obtain ⟨hruns, hgroups⟩ := ih (s.releaseGroup g)
      refine ⟨hrun.trans hruns, fun k => (hgroups k).trans ?_⟩
      by_cases hk : k = g
      · simp [hgroup, hk, Standing.released]
      · simp [hgroup, hk]
  obtain ⟨hrun, hgroup⟩ := fold gs (s.dropWork gs)
  have hw := s.steady_dropWork gs
  exact ⟨hw.toSameRun.trans hrun, fun k => by rw [State.dropGroups, hgroup, hw.group]⟩

theorem State.noteBacklog_frame (s : State) (vd : Nat) : ∃ e, s.noteBacklog vd = s.setVd vd { s.vd vd with entry := e } ∨ s.noteBacklog vd = s := by
  unfold State.noteBacklog
  extract_lets now v others
  split
  · exact ⟨[], .inr rfl⟩
  · split
    · exact ⟨_, .inl rfl⟩
    · clear_value others
      split
      · exact ⟨_, .inl rfl⟩
      · exact ⟨_, .inl rfl⟩

theorem State.groups_noteBacklog (s : State) (vd : Nat) : (s.noteBacklog vd).groups = s.groups := by
  obtain ⟨e, h | h⟩ := s.noteBacklog_frame vd <;> rw [h]; rfl

theorem State.grids_noteBacklog (s : State) (vd : Nat) : (s.noteBacklog vd).grids = s.grids := by
  obtain ⟨e, h | h⟩ := s.noteBacklog_frame vd <;> rw [h]; rfl

theorem State.faults_noteBacklog (s : State) (vd : Nat) : ((s.noteBacklog vd).vd vd).faults = (s.vd vd).faults := by
  obtain ⟨e, h | h⟩ := s.noteBacklog_frame vd
  · rw [h, State.vd_setVd]
  · rw [h]

/-- With the work of a VD discarded, every workgroup of it has ended and no fault record of it stands (17 R407). -/
theorem State.discardWork_effect (s : State) (n : Nat) : (s.discardWork n).pf.busy = s.pf.busy ∧
    (∀ m, ((s.discardWork n).vd m).life = (s.vd m).life) ∧ ((s.discardWork n).vd n).faults = [] ∧
    ∀ g, ((s.discardWork n).group g).vd = n → ((s.discardWork n).group g).residence = .ended := by
  unfold State.discardWork
  extract_lets s1 s2 s3 s4
  have h2 : SameRun s s2 := by
    have hp : Steady s1 s2 := .foldl (fun t (e : Nat × Partition) => t.steady_dropPart e.1) _ s1
    exact (s.dropGroups_effect _).1.trans hp.toSameRun
  have h4 : Steady s3 s4 := s3.steady_updVd rfl
  have h5 : Steady s3 (s4.noteBacklog n) := h4.trans (s4.steady_noteBacklog n)
  refine ⟨h5.busy.trans h2.busy, fun m => (h5.life m).trans (h2.life m), ?_, fun g => ?_⟩
  · rw [s4.faults_noteBacklog n, s3.vd_updVd]
  · have hg : (s4.noteBacklog n).group g = Table.get Group.start (s2.groups.filter fun e => e.2.vd != n) g := by
      rw [State.group, s4.groups_noteBacklog]
      rfl
    rw [hg]
    refine Table.get_of_forall (P := fun x : Group => x.vd = n → x.residence = .ended) (fun _ => rfl) (fun e he hv => ?_) g
    exact absurd hv (bne_iff_ne.mp (List.mem_filter.mp he).2)

end Sys2Proof.Machine

/-! PROOFS. The PF commands: how they are taken, and what CREATE, DESTROY, SETSHARE and QUERY do (02 R41-R48; 03 R83, R84). -/

namespace Sys2Proof.Machine

open Sys2Proof.Claims

/-! How a command is taken (02 R43-R46). -/

section
variable {s u : State} {ws : List W32} {p : Nat → Bool} (k : List W32 → State → State)

/-- A command that the lifecycle pair carries out has its effect. -/
theorem State.command_begins (hb : Begins s ws u) (hp : p (opOf ws) = true) : s.command p k = .next (k ws u) := by
  have hop : p (cmdOp ws) = true := hp
  obtain ⟨hr, ⟨hbusy, rfl⟩ | ⟨hbusy, hact, rfl, rfl⟩⟩ := hb
  · simp only [State.command, hbusy, hop, State.begin_, hr, Bool.false_eq_true, if_false, if_true]
  · have hna : (s.power.state != 1) = false := by rw [hact]; rfl
    have hr' : State.roleStopped { s with pf := { s.pf with seq := s.pf.seq + 1, busy := some ⟨s.pf.cmdBuf, false⟩ } } 1 = false := hr
    simp only [State.command, hbusy, hop, State.acceptGo, hna, State.begin_, hr', Bool.false_eq_true, if_false, if_true]

/-- A GO while a command is carried out is an overrun (02 R43). -/
theorem State.command_overrun (hb : s.pf.busy = some ⟨ws, true⟩) :
    s.command p k = .next { s with pf := { s.pf with overrun := true } } := by
  simp only [State.command, hb, if_true, State.writeGo, Option.isSome_some]

/-- A GO outside ACTIVE completes NOTACTIVE (02 R45). -/
theorem State.command_inactive (hb : s.pf.busy = none) (hp : p (opOf s.pf.cmdBuf) = true) (hs : s.power.state ≠ 1) :
    s.command p k = .next { s with
      pf := { s.pf with seq := s.pf.seq + 1, busy := none, status := 5 }
      sent := s.sent ++ [.pfMsix 0] } := by
  have hop : p (cmdOp s.pf.cmdBuf) = true := hp
  simp only [State.command, hb, hop, if_true, State.acceptGo, bne_iff_ne, ne_eq, hs, not_false_eq_true]
  rfl

end

theorem cmdClean_iff (ws : List W32) : cmdClean ws = true ↔ Clean ws := by
  simp only [cmdClean, Clean, Bool.and_eq_true, beq_iff_eq]
  rfl

/-- What all the commands have in common: each is one of an OP, completes INVALID when word 0 is not clean or no rule names the OP, and
DESTROY, RESET and QUERY complete NOVD for a VD that is FREE. -/
theorem commandOp_cases {i : Instr} {n : Nat} (h : CommandOp i n) : ∃ (p : Nat → Bool) (k : List W32 → State → State),
    (∀ s, exec i s = s.command p k) ∧ p n = true ∧ (∀ ws u, (n = 0 ∨ 6 < n) ∨ ¬ Clean ws → k ws u = u.complete 4) ∧
    ∀ ws u, Clean ws → (2 ≤ n ∧ n ≤ 3 ∨ n = 5) → (u.vd (vdOf ws)).state = 0 → k ws u = u.complete 2 := by
  have unclean {ws : List W32} (h : ¬ Clean ws) : cmdClean ws = false := Bool.eq_false_iff.mpr (mt (cmdClean_iff ws).mp h)
  have free {ws : List W32} {u : State} (h : (u.vd (vdOf ws)).state = 0) : (u.vd (cmdVd ws)).state = 0 := h
  cases h with
  | create =>
    refine ⟨(· == 1), _, fun s => rfl, rfl, fun ws u h => ?_, fun ws u _ h => by omega⟩
    simp [unclean (h.resolve_left (by omega))]
  | destroy =>
    refine ⟨(· == 2), _, fun s => rfl, rfl, fun ws u h => ?_, fun ws u hc _ hs => ?_⟩
    · simp [unclean (h.resolve_left (by omega))]
    · simp [(cmdClean_iff ws).mpr hc, free hs]
  | reset =>
    refine ⟨(· == 3), _, fun s => rfl, rfl, fun ws u h => ?_, fun ws u hc _ hs => ?_⟩
    · simp [unclean (h.resolve_left (by omega))]
    · simp [(cmdClean_iff ws).mpr hc, free hs]
  | setshare =>
    refine ⟨(· == 4), _, fun s => rfl, rfl, fun ws u h => ?_, fun ws u _ h => by omega⟩
    simp [unclean (h.resolve_left (by omega))]
  | query =>
    refine ⟨(· == 5), _, fun s => rfl, rfl, fun ws u h => ?_, fun ws u hc _ hs => ?_⟩
    · simp [unclean (h.resolve_left (by omega))]
    · simp [(cmdClean_iff ws).mpr hc, free hs]
  | sharemap =>
    refine ⟨(· == 6), _, fun s => rfl, rfl, fun ws u h => ?_, fun ws u _ h => by omega⟩
    simp [unclean (h.resolve_left (by omega))]
  | unknown hn =>
    exact ⟨fun op => op == 0 || decide (6 < op), _, fun s => rfl, by simpa using hn, fun ws u _ => rfl, fun ws u _ h => by omega⟩

/-- 02 R43-R46. -/
theorem commandsAreTaken : CommandsAreTaken := by
  refine ⟨fun s n => rfl, fun i n h s u ws => ?_⟩
  obtain ⟨p, k, hrun, hp, hinvalid, hfree⟩ := commandOp_cases h
  refine ⟨fun hb => ?_, fun hb hop hs => ?_, fun hop hb hi => ?_, fun hop hb hc hn hs => ?_⟩
  · rw [hrun, State.command_overrun k hb]
  · rw [hrun, State.command_inactive k hb (hop ▸ hp) hs]
  · rw [hrun, State.command_begins k hb (hop ▸ hp), hinvalid ws u hi]
  · rw [hrun, State.command_begins k hb (hop ▸ hp), hfree ws u hc hn hs]

/-! CREATE (02 R41, R46, R47; 03 R83). -/

/-- The lowest free range of queues ends by queue 1023. -/
theorem State.freeQueues_bound {s : State} {n f : Nat} (h : s.freeQueues n = some f) : f + n ≤ 1024 := by
  have := List.mem_range.mp (List.mem_of_find?_eq_some h)
  omega

/-- A VD as CREATE gives it its entry. -/
structure Created (v : Vd) (part f count cores quota span : Nat) : Prop where
  state : v.state = 1
  part : v.part = decide (part = 1)
  qfirst : v.qfirst = f
  qcount : v.qcount = count
  quota : v.hbmQuota = quota
  span : v.vspan = span
  weight : v.weight = 100
  slice : v.slice = 2000
  cores : v.cores = cores

theorem created_createdEntry {v : Vd} {part f count cores quota span : Nat} (he : v.entry = createdEntry part f count cores quota span)
    (hp : part < 2) (hf : f < 2 ^ 10) (hn : count < 2 ^ 7) (hc : cores < 2 ^ 9) (hq : quota < 2 ^ 32) (hs : span < 2 ^ 20) :
    Created v part f count cores quota span := by
  have w0 : v.word 0 = BitVec.ofNat 64 (1 + part * 2 ^ 3 + f * 2 ^ 4 + 2 ^ 14 * count + 2 ^ 21 * cores) := by rw [Vd.word, he]; rfl
  have w2 : v.word 2 = BitVec.ofNat 64 (quota + 2 ^ 32 * span) := by rw [Vd.word, he]; rfl
  have w3 : v.word 3 = BitVec.ofNat 64 (100 + 2000 * 2 ^ 11) := by rw [Vd.word, he]; rfl
  have hpart : (BitVec.ofNat 64 (1 + part * 2 ^ 3 + f * 2 ^ 4 + 2 ^ 14 * count + 2 ^ 21 * cores)).getLsbD 3 = decide (part = 1) := by
    rw [BitVec.getLsbD_ofNat, decide_eq_true (by omega : 3 < 64), Bool.true_and, Nat.testBit_eq_decide_div_mod_eq]
    exact decide_eq_decide.mpr (by omega)
  constructor
  · rw [Vd.state, w0, fieldN_ofNat _ _ (by omega)]; omega
  · rw [Vd.part, w0, hpart]
  · rw [Vd.qfirst, w0, fieldN_ofNat _ _ (by omega)]; omega
  · rw [Vd.qcount, w0, fieldN_ofNat _ _ (by omega)]; omega
  · rw [Vd.hbmQuota, w2, fieldN_ofNat _ _ (by omega)]; omega
  · rw [Vd.vspan, w2, fieldN_ofNat _ _ (by omega)]; omega
  · rw [Vd.weight, w3, fieldN_ofNat _ _ (by omega)]; norm_num
  · rw [Vd.slice, w3, fieldN_ofNat _ _ (by omega)]; norm_num
  · rw [Vd.cores, w0, fieldN_ofNat _ _ (by omega)]; omega

theorem word_lt (ws : List W32) (i : Nat) : word ws i < 2 ^ 32 := (listGet 0 ws i).isLt

/-- How many queues a CREATE asks for, and in which partition. -/
def queuesAsked (ws : List W32) : Nat := if word ws 1 % 128 = 0 then 64 else word ws 1 % 128
def partAsked (ws : List W32) : Nat := word ws 1 / 2 ^ 8 % 2

/-- The operands of a CREATE are within their limits (03 R83). -/
structure CreateValid (ws : List W32) : Prop where
  clean : Clean ws
  bit7 : word ws 1 / 2 ^ 7 % 2 = 0
  high : word ws 1 / 2 ^ 9 = 0
  count : queuesAsked ws ≤ 64
  span : 1 ≤ word ws 3
  spanTop : word ws 3 < 2 ^ 20
  mode : word ws 6 ≤ 1

/-- The VD that a CREATE makes, with its first queue. -/
def createdVd (u : State) (ws : List W32) (f : Nat) : Vd := { Vd.start with
  entry := createdEntry (partAsked ws) f (queuesAsked ws) (if u.pf.partMode then 160 else 320) (word ws 2) (word ws 3)
  backing := BitVec.ofNat 64 (word ws 4 + 2 ^ 32 * word ws 5)
  guest := word ws 6 == 1
  fepFirst := (u.vd (vdOf ws)).fepFirst
  fepCount := (u.vd (vdOf ws)).fepCount }

/-- The state with that VD and its queues. -/
def createdState (u : State) (ws : List W32) (f : Nat) : State :=
  (List.range (queuesAsked ws)).foldl (fun (s : State) i => s.updQueue (f + i) fun _ => { Queue.start with
    vd := BitVec.ofNat 9 (vdOf ws)
    local_ := BitVec.ofNat 6 i }) (u.setVd (vdOf ws) (createdVd u ws f))

section
variable {s u : State} {ws : List W32} (hb : Begins s ws u) (hop : opOf ws = 1) (hv : CreateValid ws)
include hb hop hv

/-- A valid CREATE, as the VD, the partition, the queues and the frames allow. -/
theorem exec_create_eq : exec .create s = .next
    (if (u.vd (vdOf ws)).state ≠ 0 then u.complete 1
    else if (partAsked ws = 1 ∧ u.pf.partMode = false) ∨ u.pf.secDead = true then u.complete 3
    else (u.freeQueues (queuesAsked ws)).elim (u.complete 3) fun f =>
      if u.unpromised (partAsked ws) < word ws 2 * 512 then u.complete 3 else createdState u ws f) := by
  obtain ⟨hc, h7, h9, hn, h1, h20, h6⟩ := hv
  have hcount : (if cmdWord ws 1 % 128 == 0 then 64 else cmdWord ws 1 % 128) = queuesAsked ws := by
    simp only [beq_iff_eq]
    rfl
  have hok : (!cmdClean ws || cmdWord ws 1 / 2 ^ 7 % 2 != 0 || cmdWord ws 1 / 2 ^ 9 != 0 || decide (64 < queuesAsked ws) ||
      cmdWord ws 3 == 0 || decide (2 ^ 20 ≤ cmdWord ws 3) || decide (1 < cmdWord ws 6)) = false := by
    have h7' : cmdWord ws 1 / 2 ^ 7 % 2 = 0 := h7
    have h9' : cmdWord ws 1 / 2 ^ 9 = 0 := h9
    have h1' : cmdWord ws 3 ≠ 0 := Nat.one_le_iff_ne_zero.mp h1
    simp only [(cmdClean_iff ws).mpr hc, h7', h9', beq_eq_false_iff_ne.mpr h1', decide_eq_false (Nat.not_lt.mpr hn),
      decide_eq_false (Nat.not_le.mpr (show cmdWord ws 3 < 2 ^ 20 from h20)), decide_eq_false (Nat.not_lt.mpr (show cmdWord ws 6 ≤ 1 from h6))]
    rfl
  rw [exec_create, execCreate, State.command_begins _ hb (by rw [hop]; rfl)]
  simp only [hcount, hok, Bool.false_eq_true, if_false]
  refine congrArg _ ?_
  have hstate : ((u.vd (cmdVd ws)).state != 0) = decide ((u.vd (vdOf ws)).state ≠ 0) := by
    simp only [bne, beq_eq_decide, decide_not]
    rfl
  have hpart : (cmdWord ws 1 / 2 ^ 8 % 2 == 1 && !u.pf.partMode || u.pf.secDead) =
      decide ((partAsked ws = 1 ∧ u.pf.partMode = false) ∨ u.pf.secDead = true) := by
    cases u.pf.partMode <;> cases u.pf.secDead <;> simp [partAsked, beq_eq_decide, cmdWord, word]
  simp only [hstate, hpart, decide_eq_true_eq]
  cases u.freeQueues (queuesAsked ws) <;> rfl

end

/-- What a CREATE that is accepted leaves: the new VD and its queues, and everything else as it was. -/
theorem createdState_effect (u : State) {ws : List W32} {f : Nat} (hv : CreateValid ws) (hf : u.freeQueues (queuesAsked ws) = some f) :
    (createdState u ws f).pf = u.pf ∧ (createdState u ws f).mem = u.mem ∧
    (∀ m, m ≠ vdOf ws → (createdState u ws f).vd m = u.vd m) ∧ (createdState u ws f).vd (vdOf ws) = createdVd u ws f ∧
    Created (createdVd u ws f) (partAsked ws) f (queuesAsked ws) (if u.pf.partMode then 160 else 320) (word ws 2) (word ws 3) ∧
    ∀ i < queuesAsked ws, (createdState u ws f).queue (f + i) =
      { Queue.start with vd := BitVec.ofNat 9 (vdOf ws), local_ := BitVec.ofNat 6 i } := by
  obtain ⟨x, hx⟩ := (u.setVd (vdOf ws) (createdVd u ws f)).foldl_updQueue_frame (fun i => f + i)
    (fun i _ => { Queue.start with vd := BitVec.ofNat 9 (vdOf ws), local_ := BitVec.ofNat 6 i }) (List.range (queuesAsked ws))
  have heq : createdState u ws f = { u.setVd (vdOf ws) (createdVd u ws f) with queues := x } := hx
  have hbound := State.freeQueues_bound hf
  have hpos : 0 < queuesAsked ws := by
    rw [queuesAsked]
    split <;> omega
  have hcount := hv.count
  refine ⟨by rw [heq]; rfl, by rw [heq]; rfl, fun m hm => ?_, ?_, ?_, fun i hi => ?_⟩
  · rw [heq]
    exact u.vd_setVd_ne _ hm
  · rw [heq]
    exact u.vd_setVd _ _
  · exact created_createdEntry rfl (Nat.mod_lt _ (by omega)) (by omega) (by omega) (by split <;> omega) (word_lt ws 2) hv.spanTop
  · exact State.queue_foldl_updQueue _ f
      (fun i _ => { Queue.start with vd := BitVec.ofNat 9 (vdOf ws), local_ := BitVec.ofNat 6 i }) hi

/-! CREATE_COMPLETE (02 R41). -/

theorem State.setIrts_frame (s : State) (vd : Nat) (valid : Bool) : ∃ i, s.setIrts vd valid = { s with irt := i } := by
  unfold State.setIrts
  extract_lets v es s1
  obtain ⟨i, h1⟩ : ∃ i, s1 = { s with irt := i } := by
    refine foldl_keeps (fun t : State => ∃ i, t = { s with irt := i }) _ ?_ _ _ ⟨_, rfl⟩
    rintro _ n ⟨i, rfl⟩
    exact ⟨_, rfl⟩
  split
  · obtain ⟨j, h2⟩ := s1.loadIrts_frame vd
    rw [h2, h1]
    exact ⟨_, rfl⟩
  · exact ⟨i, h1⟩

/-- A VD whose creation failed. -/
def Vd.uncreated (v : Vd) : Vd := { Vd.start with fepFirst := v.fepFirst, fepCount := v.fepCount }

/-- CREATE_COMPLETE of a VD that is CREATING, as its stage 2 is built. -/
theorem exec_createComplete_eq {s : State} {n : Nat} (found : Bool) (hs : (s.vd n).state = 1) (hw : s.secWaits = false)
    (hr : s.roleStopped 1 = false) : exec (.createComplete n found) s = .next
      ((if found && !s.pf.secDead then s.buildStage2 n else none).elim
        ((s.setVd n (s.vd n).uncreated).complete 3)
        fun u => (((u.makeKeys n).updVd n fun v => { v.setState 2 with saveArea := Config.saveArea }).setIrts n true).complete 0) := by
  simp only [exec_createComplete, execCreateComplete, hs, hw, hr, bne_self_eq_false, Bool.or_self, Bool.false_eq_true, if_false]
  cases (if found && !s.pf.secDead then s.buildStage2 n else none) <;> rfl

/-- A VD with the entry that a VD has at first is FREE. -/
theorem Vd.state_of_start {v : Vd} (h : v.entry = Vd.start.entry) : v.state = 0 := by
  rw [Vd.state, Vd.word, h]
  rfl

theorem createComplete_fails {s : State} {n : Nat} {found : Bool} (hs : (s.vd n).state = 1) (hw : s.secWaits = false)
    (hr : s.roleStopped 1 = false) (hf : found = false ∨ s.pf.secDead = true ∨ s.buildStage2 n = none) :
    ∃ t : State, exec (.createComplete n found) s = .next t ∧ (t.vd n).state = 0 ∧ t.pf.busy = none ∧ t.pf.status = 3 := by
  have hnone : (if found && !s.pf.secDead then s.buildStage2 n else none) = none := by
    rcases hf with h | h | h <;> simp [h]
  refine ⟨_, exec_createComplete_eq found hs hw hr, ?_⟩
  rw [hnone, Option.elim_none]
  have hvd : ((s.setVd n (s.vd n).uncreated).vd n).entry = Vd.start.entry := by
    rw [s.vd_setVd]
    rfl
  exact ⟨Vd.state_of_start hvd, rfl, rfl⟩

theorem createComplete_succeeds {s u : State} {n : Nat} (hs : (s.vd n).state = 1) (hw : s.secWaits = false)
    (hr : s.roleStopped 1 = false) (hd : s.pf.secDead = false) (hu : s.buildStage2 n = some u) (hus : (u.vd n).state = 1) :
    ∃ t : State, exec (.createComplete n true) s = .next t ∧ (t.vd n).state = 2 ∧ t.pf.busy = none ∧ t.pf.status = 0 ∧
      t.mem = u.mem ∧ (Table.look t.keys n).isSome = true := by
  have hsome : (if true && !s.pf.secDead then s.buildStage2 n else none) = some u := by simp [hd, hu]
  refine ⟨_, exec_createComplete_eq true hs hw hr, ?_⟩
  rw [hsome, Option.elim_some]
  obtain ⟨i, hi⟩ := ((u.makeKeys n).updVd n fun v => { v.setState 2 with saveArea := Config.saveArea }).setIrts_frame n true
  rw [hi]
  refine ⟨?_, rfl, rfl, rfl, ?_⟩
  · have hvd := (u.makeKeys n).vd_updVd n fun v => { v.setState 2 with saveArea := Config.saveArea }
    exact (congrArg Vd.state hvd).trans (Vd.state_setState (u.vd n) (hus.trans_ne Nat.one_ne_zero) (by omega))
  · exact (congrArg Option.isSome (Table.look_put_self n _ _)).trans rfl

/-- 02 R41, R46, R47; 03 R83. -/
theorem vdsAreCreated : VdsAreCreated := by
  refine ⟨fun s u ws hop hb hc h7 h9 hn h1 h20 h6 => ?_, fun s n found hs hw hr => ⟨createComplete_fails hs hw hr, ?_⟩⟩
  · have hv : CreateValid ws := ⟨hc, h7, h9, hn, h1, h20, h6⟩
    have hrun := exec_create_eq hb hop hv
    refine ⟨fun hs => by rw [hrun, if_pos hs], fun hs => ⟨fun hno => ?_, fun f hp hd hf => ?_⟩⟩
    · rw [hrun, if_neg (not_not.mpr hs)]
      rcases hno with ⟨hm, hp⟩ | hd | hq
      · rw [if_pos (.inl ⟨hp, hm⟩)]
      · rw [if_pos (.inr hd)]
      · rw [show u.freeQueues (queuesAsked ws) = none from hq, Option.elim_none, ite_self]
    · have hf' : u.freeQueues (queuesAsked ws) = some f := hf
      have hno : ¬ ((partAsked ws = 1 ∧ u.pf.partMode = false) ∨ u.pf.secDead = true) := by
        rintro (⟨h, hm⟩ | h)
        · exact absurd (hp h) (by simp [hm])
        · exact absurd h (by simp [hd])
      rw [if_neg (not_not.mpr hs), if_neg hno, hf', Option.elim_some] at hrun
      refine ⟨fun hlt => hrun.trans (by rw [if_pos (show u.unpromised (partAsked ws) < _ from hlt)]), fun hle => ?_⟩
      rw [if_neg (Nat.not_lt.mpr (show _ ≤ u.unpromised (partAsked ws) from hle))] at hrun
      obtain ⟨hpf, hmem, hothers, hvd, hcr, hqueues⟩ := createdState_effect u hv hf'
      refine ⟨_, hrun, hpf, hmem, hothers, ?_, hqueues⟩
      rw [hvd]
      exact ⟨hcr.state, hcr.part, hcr.qfirst, hcr.qcount, hcr.quota, hcr.span, hcr.weight, hcr.slice, hcr.cores, rfl, rfl⟩
  · rintro rfl hd u hu hus
    exact createComplete_succeeds hs hw hr hd hu hus

/-! DESTROY (02 R41, R48). -/

theorem State.killVd_effect (s : State) (n : Nat) : SameRun s (s.killVd n) ∧ ((s.killVd n).vd n).kill = some allEngines := by
  unfold State.killVd
  extract_lets s1
  have h1 : SameRun s s1 := ((s.steady_abandonCk n).trans (State.steady_updVd _ rfl)).toSameRun
  refine ⟨h1.trans ⟨rfl, rfl, rfl, fun _ => rfl, fun _ => rfl⟩, ?_⟩
  exact congrArg Vd.kill ((s.abandonCk n).vd_updVd n fun v => { v with kill := some allEngines })

/-- A queue of a VD that is destroyed. -/
def Queue.off (q : Queue) : Queue := { q with
  qcfg := q.qcfg &&& 0x7FFFFFFF#32
  state := 0
  kick := false
  done := false
  sem := false
  runs := []
  staged := []
  retiring := [] }

theorem Queue.disabled_off (q : Queue) : q.off.qcfg.getLsbD 31 = false := by
  rw [Queue.off, BitVec.getLsbD_and]
  exact Bool.and_false _

/-- A VD that is destroyed is DESTROYING, killed, with its queues off. -/
theorem State.startDestroy_effect {s : State} {n : Nat} (h : (s.vd n).state ≠ 0) :
    ((s.startDestroy n).vd n).state = 5 ∧ ((s.startDestroy n).vd n).kill = some allEngines ∧ ((s.startDestroy n).vd n).reset = none ∧
    (s.startDestroy n).pf.busy = s.pf.busy ∧
    ∀ i < (s.vd n).qcount, (s.startDestroy n).queue ((s.vd n).qfirst + i) = (s.queue ((s.vd n).qfirst + i)).off := by
  unfold State.startDestroy
  extract_lets v off s1 s2 s3
  obtain ⟨x, h1⟩ : ∃ x, s1 = { s with queues := x } := s.foldl_updQueue_frame _ _ _
  obtain ⟨j, h2⟩ : ∃ j, s2 = { s1 with irt := j } := s1.setIrts_frame n false
  obtain ⟨hk, hkill⟩ := s3.killVd_effect n
  have hstate : ((s3.killVd n).vd n).state ≠ 0 := by
    rw [hk.state]
    simp only [s3, h2, h1]
    exact h
  have hvd := (s3.killVd n).vd_updVd n fun v => { v.setState 5 with reset := none }
  refine ⟨?_, ?_, congrArg Vd.reset hvd, ?_, fun i hi => ?_⟩
  · exact (congrArg Vd.state hvd).trans (Vd.state_setState _ hstate (by omega))
  · exact (congrArg Vd.kill hvd).trans hkill
  · refine hk.busy.trans ?_
    simp only [s3, h2, h1]
  · have hq : s3.queues = s1.queues := by simp only [s3, h2]
    have hqs : ((s3.killVd n).updVd n fun v => { v.setState 5 with reset := none }).queues = s1.queues := hk.queues.trans hq
    rw [State.queue, hqs]
    exact s.queue_foldl_updQueue v.qfirst (fun _ => off) hi

section
variable {s u : State} {ws : List W32} (hb : Begins s ws u) (hop : opOf ws = 2) (hc : Clean ws)
include hb hop hc

/-- DESTROY, as the state of its VD has it. -/
theorem exec_destroy_eq (h0 : (u.vd (vdOf ws)).state ≠ 0) : exec .destroy s = .next
    (if (u.vd (vdOf ws)).state = 2 ∨ (u.vd (vdOf ws)).state = 3 then u.startDestroy (vdOf ws)
    else if (u.vd (vdOf ws)).state = 4 then (u.updVd (vdOf ws) fun v => v.setWord 0 (setBit (v.word 0) 30 true)).complete 0
    else u.complete 1) := by
  rw [exec_destroy, execDestroy, State.command_begins _ hb (by rw [hop]; rfl)]
  have hn : cmdVd ws = vdOf ws := rfl
  simp only [(cmdClean_iff ws).mpr hc, hn, Bool.not_true, Bool.false_eq_true, if_false, beq_iff_eq, h0, Bool.or_eq_true]

end

/-- DESTROY_DRAINED (02 R41, R48). -/
theorem destroyDrained_effect {s : State} {n : Nat} (hs : (s.vd n).state = 5) (hk : (s.vd n).kill = some []) (hw : s.secWaits = false)
    (hr : s.roleStopped 1 = false) : ∃ t : State, exec (.destroyDrained n) s = .next t ∧ (t.vd n).state = 6 ∧ (t.vd n).shared = [] ∧
      (∀ g, (t.group g).vd = n → (t.group g).residence = .ended) ∧ (s.carrying 2 n = true → t.pf.busy = none ∧ t.pf.status = 0) := by
  simp only [exec_destroyDrained, execDestroyDrained, hs, hk, hw, hr, bne_self_eq_false, Bool.or_self, Bool.false_eq_true, if_false]
  obtain ⟨hbusy, hlife, -, hended⟩ := s.discardWork_effect n
  set u := s.discardWork n
  set w := (s.vd n).shared.foldl (fun s x => s.releaseSlot x.2) u
  have huw : Steady u w := .foldl (fun t (x : Nat × Nat) => t.steady_releaseSlot x.2) _ u
  have hwx : Steady w ((w.forgetVd n).retireKeys n) := by
    unfold State.retireKeys
    split <;> exact .of_eq rfl rfl rfl rfl rfl rfl
  set x := (w.forgetVd n).retireKeys n
  have hux := huw.trans hwx
  set y := x.updVd n fun v => { v.setState 6 with shared := [] }
  have hvd : y.vd n = { (x.vd n).setState 6 with shared := [] } := x.vd_updVd n _
  have hst : (x.vd n).state ≠ 0 := by
    rw [Vd.state_of_life ((hux.life n).trans (hlife n)), hs]
    omega
  have hstate : (y.vd n).state = 6 := by
    rw [hvd]
    exact Vd.state_setState _ hst (by omega)
  have hgroup (g : Nat) : (y.group g).vd = n → (y.group g).residence = .ended := fun hv => by
    have hg : (y.group g).standing = (u.group g).standing := hux.group g
    exact (congrArg Standing.residence hg).trans (hended g ((congrArg Standing.vd hg).symm.trans hv))
  have hcarry : y.carrying 2 n = s.carrying 2 n := by
    have hyb : y.pf.busy = s.pf.busy := hux.busy.trans hbusy
    rw [State.carrying, hyb]
    rfl
  rw [hcarry]
  refine ⟨_, rfl, ?_⟩
  cases s.carrying 2 n
  · exact ⟨hstate, congrArg Vd.shared hvd, hgroup, by simp⟩
  · exact ⟨hstate, congrArg Vd.shared hvd, hgroup, fun _ => ⟨rfl, rfl⟩⟩

/-! What the wipes leave in memory (01 R35; 09 R235). -/

/-- A byte that a wipe of a die-scratch share reaches. -/
def InShare (n first : Nat) (l : Loc) : Prop := (∃ d < 2, l.space.tag = (Space.die n d).tag) ∧ first ≤ l.off

theorem State.mem_wipeDie (s : State) (n first : Nat) : (s.wipeDie n first).mem =
    (s.mem.filter fun e => !(e.1 / 2 ^ 64 == (Space.die n 0).tag && decide (first ≤ e.1 % 2 ^ 64))).filter fun e =>
      !(e.1 / 2 ^ 64 == (Space.die n 1).tag && decide (first ≤ e.1 % 2 ^ 64)) := rfl

theorem Loc.key_mod {l : Loc} (h : l.off < 2 ^ 64) : l.key % 2 ^ 64 = l.off := by
  rw [Loc.key, Nat.mul_add_mod, Nat.mod_eq_of_lt h]

theorem State.readByte_wipeDie (s : State) (n first : Nat) {l : Loc} (hw : ∀ g w, l.space ≠ .window g w) (ho : l.off < 2 ^ 64) :
    (InShare n first l → (s.wipeDie n first).readByte l = 0) ∧
    (¬ InShare n first l → (s.wipeDie n first).readByte l = s.readByte l) := by
  rw [State.readByte_eq_memGet _ hw, s.readByte_eq_memGet hw, s.mem_wipeDie]
  rw [memGet_filter _ fun k => !(k / 2 ^ 64 == (Space.die n 1).tag && decide (first ≤ k % 2 ^ 64)),
    memGet_filter _ fun k => !(k / 2 ^ 64 == (Space.die n 0).tag && decide (first ≤ k % 2 ^ 64)), Loc.key_div ho, Loc.key_mod ho]
  by_cases hf : first ≤ l.off
  · simp only [InShare, hf, decide_true, Bool.and_true, and_true, Bool.not_eq_true', beq_eq_false_iff_ne]
    constructor
    · rintro ⟨d, hd, ht⟩
      interval_cases d <;> simp [ht]
    · intro h
      rw [if_pos fun e => h ⟨1, by omega, e⟩, if_pos fun e => h ⟨0, by omega, e⟩]
  · simp [InShare, hf]

/-! WIPE_COMPLETE (02 R41; 01 R35). -/

theorem Table.mem_of_look {β : Type} {t : Table β} {n : Nat} {v : β} (h : Table.look t n = some v) : (n, v) ∈ t := by
  induction t with
  | nil => cases h
  | cons e t ih =>
    obtain ⟨k, u⟩ := e
    rw [Table.look, List.map_cons, Table.get] at h
    split at h
    · next hk =>
      cases h
      rw [beq_iff_eq.mp hk]
      exact List.mem_cons_self
    · exact List.mem_cons_of_mem _ (ih h)

/-- A run of frames is free, and its memory reads 0. -/
structure Freed (t : State) (f len : Nat) : Prop where
  look : Table.look t.frames f = none
  wiped : ∀ k, 4096 * f ≤ k → k < 4096 * (f + len) → memGet t.mem k = 0

/-- A wipe leaves 0 what is 0. -/
theorem memGet_filter_zero {m : Memory} {k : Nat} (h : memGet m k = 0) (p : Nat → Bool) : memGet (m.filter fun e => p e.1) k = 0 := by
  rw [memGet_filter, h, ite_self]

theorem State.freeRun_self {s : State} {f : Nat} {r : FrameRun} (h : Table.look s.frames f = some r) : Freed (s.freeRun f) f r.len := by
  simp only [State.freeRun, h]
  refine ⟨Table.look_drop_self _ _, fun k h1 h2 => ?_⟩
  refine (memGet_filter s.mem (fun k => !(decide (4096 * f ≤ k) && decide (k < 4096 * (f + r.len)))) k).trans ?_
  simp [h1, h2]

theorem Freed.freeRun {s : State} {f len : Nat} (h : Freed s f len) (g : Nat) : Freed (s.freeRun g) f len := by
  cases hg : Table.look s.frames g with
  | none =>
    simp only [State.freeRun, hg]
    exact h
  | some r =>
    simp only [State.freeRun, hg]
    refine ⟨?_, fun k h1 h2 => memGet_filter_zero (h.wiped k h1 h2) fun k => !(decide (4096 * g ≤ k) && decide (k < 4096 * (g + r.len)))⟩
    by_cases hfg : f = g
    · exact hfg ▸ Table.look_drop_self _ _
    · exact (Table.look_drop_ne hfg _).trans h.look

theorem State.look_freeRun_ne (s : State) {f g : Nat} (h : f ≠ g) : Table.look (s.freeRun g).frames f = Table.look s.frames f := by
  unfold State.freeRun
  cases Table.look s.frames g with
  | none => rfl
  | some r => exact Table.look_drop_ne h _

/-- Every run that is freed among others is free, and reads 0. -/
theorem State.foldl_freeRun_freed {l : Table FrameRun} {s : State} {f : Nat} {r : FrameRun} (h : Table.look s.frames f = some r)
    (hl : (f, r) ∈ l) : Freed (l.foldl (fun s e => s.freeRun e.1) s) f r.len := by
  induction l generalizing s with
  | nil => cases hl
  | cons e l ih =>
    by_cases he : f = e.1
    · refine foldl_keeps (fun t => Freed t f r.len) _ (fun t e ht => ht.freeRun e.1) l _ ?_
      exact he.symm ▸ State.freeRun_self (f := e.1) (he ▸ h)
    · refine ih ((s.look_freeRun_ne he).trans h) ((List.mem_cons.mp hl).resolve_left fun heq => he ?_)
      rw [← heq]

/-- A FREE VD, with the counters of the one that it was. -/
def Vd.retired (v : Vd) : Vd := { Vd.start with
  coreTime := v.coreTime
  mmatrix := v.mmatrix
  mhbm := v.mhbm
  mlink := v.mlink
  menergy := v.menergy
  fepFirst := v.fepFirst
  fepCount := v.fepCount }

theorem wipeComplete_effect {s : State} {n : Nat} (hs : (s.vd n).state = 6) : ∃ t : State, exec (.wipeComplete n) s = .next t ∧
    (t.vd n).state = 0 ∧ t.vd n = (s.vd n).retired ∧ Wiped t (fun l => ∃ d, d < 2 ∧ l.space = .die n d ∧ l.off < 2 ^ 64) ∧
    ∀ f r, Table.look s.frames f = some r → (r.owner = .vd n ∨ r.owner = .outside n) →
      Table.look t.frames f = none ∧ Wiped t (fun l => l.space = .hbm ∧ 4096 * f ≤ l.off ∧ l.off < 4096 * (f + r.len)) := by
  simp only [exec_wipeComplete, execWipeComplete, hs, bne_self_eq_false, Bool.false_eq_true, if_false]
  set l := s.frames.filter fun e => e.2.owner == .vd n || e.2.owner == .outside n
  set u := l.foldl (fun s e => s.freeRun e.1) s
  obtain ⟨x, hx⟩ := u.foldl_updQueue_frame (fun i => (s.vd n).qfirst + i)
    (fun _ q => { q with head := 0, tail := 0, next := 0, cprod := 0 }) (List.range (s.vd n).qcount)
  rw [hx]
  set w : State := { u with queues := x }
  have hvd : ((w.wipeDie n 0).setVd n (s.vd n).retired).vd n = (s.vd n).retired := State.vd_setVd _ n _
  have hentry : (((w.wipeDie n 0).setVd n (s.vd n).retired).vd n).entry = Vd.start.entry := by
    rw [hvd]
    rfl
  refine ⟨(w.wipeDie n 0).setVd n (s.vd n).retired, rfl, Vd.state_of_start hentry, hvd, ?_, fun f r hf ho => ?_⟩
  · rintro l ⟨d, hd, hsp, ho⟩
    exact (w.readByte_wipeDie n 0 (by simp [hsp]) ho).1 ⟨⟨d, hd, by rw [hsp]⟩, Nat.zero_le _⟩
  · have hmem : (f, r) ∈ l := List.mem_filter.mpr ⟨Table.mem_of_look hf, by simpa using ho⟩
    have hfreed : Freed u f r.len := State.foldl_freeRun_freed hf hmem
    refine ⟨hfreed.look, ?_⟩
    rintro l ⟨hsp, h1, h2⟩
    have hkey : l.key = l.off := by rw [Loc.key, hsp, Space.tag, Nat.mul_zero, Nat.zero_add]
    have hzero := memGet_filter_zero (hfreed.wiped l.off h1 h2)
    rw [State.readByte_eq_memGet _ (by simp [hsp]), hkey, State.setVd_mem, State.mem_wipeDie]
    exact memGet_filter_zero (hzero fun k => !(k / 2 ^ 64 == (Space.die n 0).tag && decide (0 ≤ k % 2 ^ 64)))
      fun k => !(k / 2 ^ 64 == (Space.die n 1).tag && decide (0 ≤ k % 2 ^ 64))

/-- 02 R41, R48; 01 R35; 17 R402. -/
theorem vdsAreDestroyed : VdsAreDestroyed := by
  refine ⟨fun s u ws hop hb hc => ⟨fun hs => ?_, fun hs => ?_, fun hs => ?_⟩, fun s n hs hk hw hr => destroyDrained_effect hs hk hw hr,
    fun s n hs _ => ?_⟩
  · have h0 : (u.vd (vdOf ws)).state ≠ 0 := by omega
    obtain ⟨hstate, hkill, hreset, hbusy, hq⟩ := State.startDestroy_effect h0
    refine ⟨_, (exec_destroy_eq hb hop hc h0).trans (by rw [if_pos hs]), hstate, hkill, hreset, hbusy, fun i hi => ?_⟩
    rw [hq i hi]
    exact ⟨rfl, Queue.disabled_off _, rfl⟩
  · rw [exec_destroy_eq hb hop hc (by omega), if_neg (by omega), if_pos hs]
  · rw [exec_destroy_eq hb hop hc (by omega), if_neg (by omega), if_neg (by omega)]
  · obtain ⟨t, hrun, hstate, hvd, hdie, hframes⟩ := wipeComplete_effect hs
    exact ⟨t, hrun, hstate, by rw [hvd]; rfl, by rw [hvd]; rfl, by rw [hvd]; rfl, hdie, fun _ => hframes⟩

/-! SETSHARE and QUERY (02 R46; 03 R84). -/

/-- Whether SETSHARE selects a share. -/
def sel (ws : List W32) (i : Nat) : Bool := (word ws 6).testBit i

/-- The operands of a SETSHARE keep their reserved bits 0 and their limits (03 R84). -/
def ShareValid (u : State) (ws : List W32) : Prop :=
  (word ws 1 < 2 ^ 11 ∧ word ws 2 < 2 ^ 17 ∧ word ws 5 < 2 ^ 9 ∧ word ws 6 < 2 ^ 5) ∧
  (sel ws 0 = true → 1 ≤ word ws 1 ∧ word ws 1 ≤ 1024) ∧ (sel ws 1 = true → 50 ≤ word ws 2 ∧ word ws 2 ≤ 100000) ∧
  (sel ws 4 = true → 1 ≤ word ws 5 ∧ word ws 5 ≤ if u.pf.partMode then 160 else 320)

/-- The words of a VD's entry as SETSHARE leaves them. -/
def timeShares (w : Word) (ws : List W32) : Word :=
  let w3 := if sel ws 0 then putField w 10 0 (word ws 1) else w
  if sel ws 1 then putField w3 27 11 (word ws 2) else w3
def damperShares (w : Word) (ws : List W32) : Word :=
  let w5 := if sel ws 2 then putField w 31 0 (word ws 3) else w
  if sel ws 3 then putField w5 63 32 (word ws 4) else w5
def coreShare (w : Word) (ws : List W32) : Word := if sel ws 4 then putField w 29 21 (word ws 5) else w

/-- The VD with its shares set. -/
def withShares (v : Vd) (ws : List W32) : Vd :=
  { ((v.setWord 3 (timeShares (v.word 3) ws)).setWord 5 (damperShares (v.word 5) ws)).setWord 0 (coreShare (v.word 0) ws) with
    shareStop := if sel ws 4 then decide (word ws 5 < v.coreIds.length) else v.shareStop }

/-- A field that a share may be written to. -/
theorem fieldN_share (b : Bool) (x : Word) {hi lo v : Nat} (h : lo ≤ hi) (h64 : hi < 64) (hv : v < 2 ^ (hi + 1 - lo)) :
    fieldN (if b then putField x hi lo v else x) hi lo = if b then v else fieldN x hi lo := by
  cases b
  · rfl
  · exact (fieldN_putField_self x v h h64).trans (Nat.mod_eq_of_lt hv)

/-- A field beside it. -/
theorem fieldN_share_ne (b : Bool) (x : Word) {hi lo hi' lo' : Nat} (v : Nat) (h : lo ≤ hi) (h64 : hi < 64)
    (hd : lo' ≤ hi' ∧ hi' < lo ∨ hi < lo') : fieldN (if b then putField x hi lo v else x) hi' lo' = fieldN x hi' lo' := by
  cases b
  · rfl
  · rcases hd with ⟨h', hb⟩ | hb
    · exact fieldN_putField_below x v h h64 h' hb
    · exact fieldN_putField_above x v h h64 hb

/-- The words of the entry of a VD with its shares set. -/
theorem word_withShares {v : Vd} (h : v.entry.length = 8) (ws : List W32) : (withShares v ws).word 0 = coreShare (v.word 0) ws ∧
    (withShares v ws).word 3 = timeShares (v.word 3) ws ∧ (withShares v ws).word 5 = damperShares (v.word 5) ws ∧
    (withShares v ws).word 4 = v.word 4 := by
  simp only [withShares, Vd.setWord, Vd.word]
  refine ⟨?_, ?_, ?_, ?_⟩
  · exact listGet_listSet_self _ _ _ _ (by simp [h])
  · rw [listGet_listSet_ne _ _ _ (by decide), listGet_listSet_ne _ _ _ (by decide), listGet_listSet_self _ _ _ _ (by omega)]
  · rw [listGet_listSet_ne _ _ _ (by decide), listGet_listSet_self _ _ _ _ (by simp [h])]
  · rw [listGet_listSet_ne _ _ _ (by decide), listGet_listSet_ne _ _ _ (by decide), listGet_listSet_ne _ _ _ (by decide)]

/-- The shares that are selected change, and no other field of the entry does. -/
theorem withShares_effect {v : Vd} {u : State} {ws : List W32} (h : v.entry.length = 8) (hv : ShareValid u ws) :
    let w := withShares v ws
    w.weight = (if sel ws 0 then word ws 1 else v.weight) ∧ w.slice = (if sel ws 1 then word ws 2 else v.slice) ∧
    w.hbmDamp = (if sel ws 2 then word ws 3 else v.hbmDamp) ∧ w.linkDamp = (if sel ws 3 then word ws 4 else v.linkDamp) ∧
    w.cores = (if sel ws 4 then word ws 5 else v.cores) ∧ w.state = v.state ∧ w.qfirst = v.qfirst ∧ w.qcount = v.qcount ∧
    w.vt = v.vt := by
  obtain ⟨⟨h1, h2, h5, -⟩, -⟩ := hv
  obtain ⟨e0, e3, e5, e4⟩ := word_withShares h ws
  intro w
  have hcore {hi lo : Nat} (hl : lo ≤ hi) (hb : hi < 21) : fieldN (w.word 0) hi lo = fieldN (v.word 0) hi lo := by
    rw [e0]
    exact fieldN_share_ne _ _ _ (by omega) (by omega) (.inl ⟨hl, hb⟩)
  refine ⟨?_, ?_, ?_, ?_, ?_, hcore (by omega) (by omega), hcore (by omega) (by omega), hcore (by omega) (by omega), e4⟩
  · rw [Vd.weight, e3, timeShares, fieldN_share_ne _ _ _ (by omega) (by omega) (by omega), fieldN_share _ _ (by omega) (by omega) h1]
    rfl
  · rw [Vd.slice, e3, timeShares, fieldN_share _ _ (by omega) (by omega) h2, fieldN_share_ne _ _ _ (by omega) (by omega) (by omega)]
    rfl
  · rw [Vd.hbmDamp, e5, damperShares, fieldN_share_ne _ _ _ (by omega) (by omega) (by omega),
      fieldN_share _ _ (by omega) (by omega) (word_lt ws 3)]
    rfl
  · rw [Vd.linkDamp, e5, damperShares, fieldN_share _ _ (by omega) (by omega) (word_lt ws 4),
      fieldN_share_ne _ _ _ (by omega) (by omega) (by omega)]
    rfl
  · rw [Vd.cores, e0, coreShare, fieldN_share _ _ (by omega) (by omega) h5]
    rfl

/-- The state with a VD's state, queues and resident blocks in the command buffer. -/
def queried (u : State) (n : Nat) : State :=
  let w1 : W32 := BitVec.ofNat 32 ((u.vd n).state + (u.vd n).qfirst * 2 ^ 8 + 2 ^ 18 * (u.vd n).qcount)
  let w2 : W32 := BitVec.ofNat 32 ((u.framesOf (.vd n) + 511) / 512)
  { u with pf := { u.pf with cmdBuf := listSet (listSet u.pf.cmdBuf 1 w1) 2 w2 } }

section
variable {s u : State} {ws : List W32} (hb : Begins s ws u) (hc : Clean ws)
include hb hc

theorem exec_query_eq (hop : opOf ws = 5) (h0 : (u.vd (vdOf ws)).state ≠ 0) :
    exec .query s = .next ((queried u (vdOf ws)).complete 0) := by
  rw [exec_query, execQuery, State.command_begins _ hb (by rw [hop]; rfl)]
  have hn : cmdVd ws = vdOf ws := rfl
  simp only [(cmdClean_iff ws).mpr hc, hn, Bool.not_true, Bool.false_eq_true, if_false, beq_iff_eq, h0]
  rfl

/-- SETSHARE, as its operands and the state of its VD have it. -/
theorem exec_setshare_eq [Decidable (ShareValid u ws)] (hop : opOf ws = 4) : exec .setshare s = .next
    (if ¬ ShareValid u ws then u.complete 4
    else if (u.vd (vdOf ws)).state = 0 then u.complete 2
    else if (u.vd (vdOf ws)).state = 5 ∨ (u.vd (vdOf ws)).state = 6 then u.complete 1
    else (u.setVd (vdOf ws) (withShares (u.vd (vdOf ws)) ws)).complete 0) := by
  rw [exec_setshare, execSetshare, State.command_begins _ hb (by rw [hop]; rfl)]
  have hvalid : (!(cmdClean ws && cmdWord ws 1 / 2 ^ 11 == 0 && cmdWord ws 2 / 2 ^ 17 == 0 && cmdWord ws 5 / 2 ^ 9 == 0 &&
      cmdWord ws 6 / 2 ^ 5 == 0) ||
      !((!(cmdWord ws 6).testBit 0 || (decide (1 ≤ cmdWord ws 1) && decide (cmdWord ws 1 ≤ 1024))) &&
      (!(cmdWord ws 6).testBit 1 || (decide (50 ≤ cmdWord ws 2) && decide (cmdWord ws 2 ≤ 100000))) &&
      (!(cmdWord ws 6).testBit 4 || (decide (1 ≤ cmdWord ws 5) && decide (cmdWord ws 5 ≤ if u.pf.partMode then 160 else 320))))) = true ↔
      ¬ ShareValid u ws := by
    simp only [ShareValid, sel, (cmdClean_iff ws).mpr hc, ← Bool.not_and, Bool.not_eq_true', ← Bool.not_eq_true, Bool.and_eq_true,
      beq_iff_eq, Bool.or_eq_true, decide_eq_true_eq, Nat.div_eq_zero_iff_lt (Nat.two_pow_pos _), ← imp_iff_not_or, true_and, and_assoc]
    rfl
  have hn : cmdVd ws = vdOf ws := rfl
  refine congrArg _ (if_congr hvalid rfl ?_)
  simp only [hn, beq_iff_eq, Bool.or_eq_true]
  rfl

end

/-- 02 R46; 03 R84. -/
theorem sharesAndQueries : SharesAndQueries := by
  classical
  refine fun s u ws hb hc => ⟨fun hop h0 => exec_query_eq hb hc hop h0, fun hop => ?_⟩
  have hrun := exec_setshare_eq hb hc hop
  refine ⟨fun h => ?_, fun hclean hwithin hs => ?_, fun hclean hwithin hs he => ?_⟩
  · rw [hrun, if_pos (show ¬ ShareValid u ws from h)]
  · have hv : ShareValid u ws := ⟨hclean, hwithin⟩
    rw [hrun, if_neg (not_not.mpr hv), if_neg (by omega), if_pos hs]
  · have hv : ShareValid u ws := ⟨hclean, hwithin⟩
    rw [if_neg (not_not.mpr hv), if_neg (by omega), if_neg (by omega)] at hrun
    obtain ⟨h1, h2, h3, h4, h5, h6, h7, h8, h9⟩ := withShares_effect he hv
    refine ⟨_, hrun, ?_⟩
    rw [State.vd_setVd]
    exact ⟨h1, h2, h3, h4, h5, rfl, h6, h7, h8, h9, rfl⟩

end Sys2Proof.Machine

namespace Sys2Proof

open Machine Claims

/-- Settles O37: the commands are taken as a GO finds the pair, and then each of CREATE, DESTROY, SETSHARE and QUERY by its cases. -/
theorem deviceCommands : Obligations.DeviceCommands :=
  ⟨commandsAreTaken, vdsAreCreated, vdsAreDestroyed, sharesAndQueries⟩

end Sys2Proof

/-! PROOFS. The scoped reset, gang kills and relaunches, and the engines that drain (02 R41, R59; 17 R396, R397, R402, R405, R407). -/

namespace Sys2Proof.Machine

open Sys2Proof.Claims

/-! What happens to the workgroups of a VD. -/

/-- The workgroups of a VD are changed, at one that stands. -/
theorem group_map_vd {t : Table Group} {g n : Nat} {f : Group → Group} (hv : (Table.get Group.start t g).vd = n)
    (hr : (Table.get Group.start t g).residence = .resident) :
    Table.get Group.start (t.map fun e => if e.2.vd == n then (e.1, f e.2) else e) g = f (Table.get Group.start t g) := by
  have hne : Table.get Group.start t g ≠ Group.start := fun h => by
    rw [h] at hr
    cases hr
  rw [Table.get_map_of_ne hne (fun e => by split <;> rfl), if_pos (beq_iff_eq.mpr hv)]

/-- KILL halts the workgroups of the VD. -/
theorem State.halt_killVd {s : State} {g n : Nat} (hv : (s.group g).vd = n) (hr : (s.group g).residence = .resident) :
    ((s.killVd n).group g).halt = some (.frozen true) := by
  have h1 : Steady s ((s.abandonCk n).updVd n fun v => { v with kill := some allEngines }) :=
    (s.steady_abandonCk n).trans (State.steady_updVd _ rfl)
  have hg := h1.group g
  exact congrArg Group.halt (group_map_vd (f := fun x => { x with halt := some (.frozen true) })
    ((congrArg Standing.vd hg).trans hv) ((congrArg Standing.residence hg).trans hr))

/-! A scoped reset starts (02 R41; 17 R407). -/

/-- A LIVE VD is frozen for a reset. -/
theorem State.startReset_effect {s : State} {n : Nat} (h : (s.vd n).state = 2) (reason : ResetReason) (byOther : Bool) (q : Nat) (p : Prov) :
    let t := s.startReset n reason byOther q p
    (t.vd n).state = 3 ∧ (∃ r : ResetRun, (t.vd n).reset = some r ∧ r.reason = reason ∧ r.clk = s.clk) ∧ t.pf.busy = s.pf.busy ∧
    ∀ g, (s.group g).vd = n → (s.group g).residence = .resident → (s.group g).halt = none → (t.group g).halt = some (.frozen false) := by
  simp only [State.startReset, h, bne_self_eq_false, Bool.false_eq_true, if_false]
  have h1 := s.steady_abandonCk n
  set u := s.abandonCk n
  set run : ResetRun := ⟨reason, byOther, q, p, u.clk, u.mcore n, false⟩
  have hvd : (u.updVd n fun v => { v.setState 3 with reset := some run }).vd n = { (u.vd n).setState 3 with reset := some run } :=
    u.vd_updVd n _
  have h0 : (u.vd n).state ≠ 0 := by rw [h1.state, h]; omega
  refine ⟨?_, ⟨run, congrArg Vd.reset hvd, rfl, h1.clk⟩, h1.busy, fun g hv hr hh => ?_⟩
  · exact (congrArg Vd.state hvd).trans (Vd.state_setState _ h0 (by omega))
  · have hg := h1.group g
    have hhalt : (u.group g).halt = none := (congrArg Standing.halt hg).trans hh
    refine (congrArg Group.halt (group_map_vd (f := Group.freeze) ((congrArg Standing.vd hg).trans hv)
      ((congrArg Standing.residence hg).trans hr))).trans ?_
    rw [Group.freeze]
    split
    · rfl
    · next he => exact absurd (hhalt.symm.trans he) (by simp)
    · next he => exact absurd (hhalt.symm.trans he) (by simp)
    · next he => exact absurd (hhalt.symm.trans he) (by simp)

/-- RESET, as the state of its VD has it. -/
theorem exec_reset_eq {s u : State} {ws : List W32} (hb : Begins s ws u) (hop : opOf ws = 3) (hc : Clean ws)
    (h0 : (u.vd (vdOf ws)).state ≠ 0) : exec .reset s = .next
    (if (u.vd (vdOf ws)).state = 2 then u.startReset (vdOf ws) .command true 0 0
    else if (u.vd (vdOf ws)).state = 3 ∨ (u.vd (vdOf ws)).state = 4 then u
    else u.complete 1) := by
  rw [exec_reset, execReset, State.command_begins _ hb (by rw [hop]; rfl)]
  have hn : cmdVd ws = vdOf ws := rfl
  simp only [(cmdClean_iff ws).mpr hc, hn, Bool.not_true, Bool.false_eq_true, if_false, beq_iff_eq, h0, Bool.or_eq_true]

/-! The dump is done (17 R407 steps 1 to 3, R409). -/

theorem Group.settleFreeze_standing (x : Group) : x.settleFreeze.vd = x.vd ∧ x.settleFreeze.residence = x.residence := by
  unfold Group.settleFreeze
  split <;> exact ⟨rfl, rfl⟩

/-- The workgroups of a VD settle their freeze. -/
def State.settled (s : State) (n : Nat) : State :=
  { s with groups := s.groups.map fun e => if e.2.vd == n then (e.1, e.2.settleFreeze) else e }

section
variable {s : State} {n : Nat} {r : ResetRun} (hreset : (s.vd n).reset = some r) (hs : (s.vd n).state = 3)
  (hr : s.roleStopped 2 = false) (ha : (s.vd n).ashAt = 0)
include hreset hs hr ha

/-- Without an ashpit nothing is dumped (R409). -/
theorem exec_ashpitDumpDone_eq : exec (.ashpitDumpDone n) s = .next
    ((((s.settled n).updVd n fun v => { v with ashNo := true }).updVd n fun v => v.setState 4).killVd n) := by
  rw [exec_ashpitDumpDone, execAshpitDumpDone, hreset]
  have hgo : ¬ ((s.vd n).state != 3 || s.roleStopped 2) = true := by simp [hs, hr]
  refine (if_neg hgo).trans (congrArg (fun u : State => (.next : State → Res) ((u.updVd n fun v => v.setState 4).killVd n)) ?_)
  exact if_pos (beq_iff_eq.mpr ha)

theorem ashpitDumpDone_effect : ∃ t : State, exec (.ashpitDumpDone n) s = .next t ∧ (t.vd n).state = 4 ∧
    (t.vd n).ashNo = true ∧ (t.vd n).kill = some allEngines ∧
    ∀ g, (s.group g).vd = n → (s.group g).residence = .resident → (t.group g).halt = some (.frozen true) := by
  refine ⟨_, exec_ashpitDumpDone_eq hreset hs hr ha, ?_⟩
  set w := ((s.settled n).updVd n fun v => { v with ashNo := true }).updVd n fun v => v.setState 4 with hw
  have hvd : w.vd n = ({ s.vd n with ashNo := true } : Vd).setState 4 := by
    rw [hw, State.vd_updVd, State.vd_updVd]
    rfl
  have h0 : ({ s.vd n with ashNo := true } : Vd).state ≠ 0 := by
    have h3 : ({ s.vd n with ashNo := true } : Vd).state = (s.vd n).state := rfl
    omega
  obtain ⟨hk, hkill⟩ := w.killVd_effect n
  refine ⟨?_, ?_, hkill, fun g hv hres => ?_⟩
  · rw [hk.state, hvd]
    exact Vd.state_setState _ h0 (by omega)
  · rw [hk.ashNo, hvd]
    rfl
  · have hg : w.group g = (s.group g).settleFreeze := group_map_vd (f := Group.settleFreeze) hv hres
    obtain ⟨h1, h2⟩ := (s.group g).settleFreeze_standing
    exact State.halt_killVd (by rw [hg, h1, hv]) (by rw [hg, h2, hres])

end

/-! The engines have drained (17 R407 steps 4 and 5). -/

/-- The bytes of a share of the die scratchpads. -/
def shareBytes (n : Nat) (l : Loc) : Prop := ∃ d, d < 2 ∧ l.space = .die n d ∧ l.off < 2 ^ 64

theorem State.wiped_wipeDie (s : State) (n : Nat) : Wiped (s.wipeDie n 0) (shareBytes n) := by
  rintro l ⟨d, hd, hsp, ho⟩
  exact (s.readByte_wipeDie n 0 (by simp [hsp]) ho).1 ⟨⟨d, hd, by rw [hsp]⟩, Nat.zero_le _⟩

theorem State.wiped_wipeOwn {s : State} {n : Nat} (h : Wiped s (shareBytes n)) : Wiped (s.wipeOwn n) (shareBytes n) := by
  intro l hl
  obtain ⟨d, -, hsp, -⟩ := id hl
  have h0 := h l hl
  unfold State.wipeOwn
  extract_lets v ash mine
  rw [State.readByte_eq_memGet _ (by simp [hsp])] at h0 ⊢
  exact memGet_filter_zero h0 fun k => !mine k

theorem resetDrained_effect {s : State} {n : Nat} {r : ResetRun} (hreset : (s.vd n).reset = some r) (hs : (s.vd n).state = 4)
    (hk : (s.vd n).kill = some []) (hr : r.cleared = false) : ∃ t : State, exec (.resetDrained n) s = .next t ∧
      (t.vd n).reset = some { r with cleared := true } ∧ (t.vd n).faults = [] ∧
      (∀ g, (t.group g).vd = n → (t.group g).residence = .ended) ∧ Wiped t (shareBytes n) := by
  simp only [exec_resetDrained, execResetDrained, hreset, hs, hk, hr, bne_self_eq_false, Bool.or_self, Bool.false_eq_true, if_false]
  obtain ⟨-, -, hfaults, hended⟩ := s.discardWork_effect n
  generalize s.discardWork n = u at *
  refine ⟨_, rfl, ?_⟩
  set w := if ((s.vd n).expert && (s.vd n).wipe) = true then ((u.forgetVd n).wipeDie n 0).wipeOwn n else (u.forgetVd n).wipeDie n 0 with hw
  have hwv : w.vd n = u.vd n := by rw [hw]; split <;> rfl
  have hwg (g : Nat) : w.group g = u.group g := by rw [hw]; split <;> rfl
  have hwiped : Wiped w (shareBytes n) := by
    rw [hw]
    split
    · exact State.wiped_wipeOwn (State.wiped_wipeDie _ n)
    · exact State.wiped_wipeDie _ n
  have hvd := w.vd_updVd n fun v => { v with reset := some { r with cleared := true } }
  refine ⟨congrArg Vd.reset hvd, (congrArg Vd.faults hvd).trans ((congrArg Vd.faults hwv).trans hfaults), fun g => ?_, hwiped⟩
  have hg := hended g
  rw [← hwg g] at hg
  exact hg

/-! The VD is LIVE again (17 R407 step 6; 02 R41, R59). -/

/-- Interrupts leave a VD as it is, but for its pending messages. -/
def OnlyPending (s t : State) : Prop := ∀ n, ∃ m, t.vd n = { s.vd n with msixPending := m }

theorem OnlyPending.refl (s : State) : OnlyPending s s := fun _ => ⟨_, rfl⟩

theorem OnlyPending.trans {s t u : State} (h : OnlyPending s t) (k : OnlyPending t u) : OnlyPending s u := fun n => by
  obtain ⟨m, hm⟩ := h n
  obtain ⟨l, hl⟩ := k n
  exact ⟨l, by rw [hl, hm]⟩

theorem State.onlyPending_updVd (s : State) (n : Nat) (f : BitVec 64 → BitVec 64) :
    OnlyPending s (s.updVd n fun v => { v with msixPending := f v.msixPending }) := fun m => by
  by_cases hm : m = n
  · exact ⟨_, by rw [hm, State.vd_updVd]⟩
  · exact ⟨_, by rw [s.vd_updVd_ne _ hm]⟩

theorem State.onlyPending_deliverMsix (s : State) (n : Nat) : OnlyPending s (s.deliverMsix n) := by
  unfold State.deliverMsix
  refine foldl_keeps (OnlyPending s) _ (fun t k h => h.trans ?_) _ _ (.refl s)
  exact t.onlyPending_updVd n fun p => setBit p k false

theorem State.onlyPending_sendVector (s : State) (owner vec n : Nat) : OnlyPending s (s.sendVector owner vec n) := by
  induction n generalizing s with
  | zero => exact .refl s
  | succ n ih => exact ((s.onlyPending_updVd owner fun p => p ||| BitVec.ofNat 64 (2 ^ vec)).trans (State.onlyPending_deliverMsix _ owner)).trans (ih _)

theorem State.onlyPending_interrupt (s : State) (entry source : Nat) : OnlyPending s (s.interrupt entry source) := by
  unfold State.interrupt
  extract_lets e
  split
  · exact .refl s
  · unfold State.flushIrt
    extract_lets e2 count owner vec
    split
    · exact .refl s
    · split
      · exact State.onlyPending_sendVector _ owner vec _
      · split
        · exact State.onlyPending_sendVector _ owner vec _
        · exact .refl s

/-- A VD that is told of an event: its VDEVT bit is set, and all else stays but for its pending messages (02 R53). -/
theorem State.vdEvent_effect (s : State) (n k : Nat) (hk : k < 4) : ∃ x m, (s.vdEvent n k).vd n = { s.vd n with vdevt := x, msixPending := m } ∧
    x.getLsbD k = true := by
  unfold State.vdEvent
  extract_lets v
  split
  · next h => exact ⟨_, _, rfl, h⟩
  · obtain ⟨m, hm⟩ := State.onlyPending_interrupt (s.setVd n { v with vdevt := v.vdevt ||| BitVec.ofNat 4 (2 ^ k) }) (1025 + 2 * n) n n
    refine ⟨_, m, by rw [hm, State.vd_setVd], ?_⟩
    rw [BitVec.getLsbD_or]
    interval_cases k <;> simp

/-- A VD as a reset leaves it. -/
def Vd.rearmed (v : Vd) : Vd := { v.setState 2 with
  reset := none
  kill := none
  resetCnt := if v.resetCnt == 255 then 255 else v.resetCnt + 1 }

/-- The state with a VD and its queues rearmed. -/
def State.rearmed (s : State) (n : Nat) : State :=
  ((List.range (s.vd n).qcount).foldl (fun (t : State) i => t.updQueue ((s.vd n).qfirst + i) Queue.rearm) s).updVd n Vd.rearmed

/-- The state with the VD told of the reset's end. -/
def State.rearmTold (s : State) (n : Nat) (byOther : Bool) : State :=
  (if byOther then (s.rearmed n).vdEvent n 1 else s.rearmed n).vdEvent n 0

section
variable {s : State} {n : Nat} {r : ResetRun}

theorem exec_resetRearm_eq (hreset : (s.vd n).reset = some r) (hs : (s.vd n).state = 4) (hr : r.cleared = true)
    (hd : (s.vd n).destroyPend = false) : exec (.resetRearm n) s = .next
    (if (s.rearmTold n r.byOther).carrying 3 n then (s.rearmTold n r.byOther).complete 0 else s.rearmTold n r.byOther) := by
  rw [exec_resetRearm, execResetRearm, hreset]
  have hgo : ¬ ((s.vd n).state != 4 || !r.cleared) = true := by simp [hs, hr]
  have hno : ¬ (s.vd n).destroyPend = true := by simp [hd]
  exact (if_neg hgo).trans (congrArg (.next : State → Res) (if_neg hno))

theorem State.rearmed_effect : ((s.rearmed n).vd n) = (s.vd n).rearmed ∧ (s.rearmed n).pf = s.pf ∧
    ∀ i < (s.vd n).qcount, (s.rearmed n).queue ((s.vd n).qfirst + i) = (s.queue ((s.vd n).qfirst + i)).rearm := by
  obtain ⟨x, hx⟩ := s.foldl_updQueue_frame (fun i => (s.vd n).qfirst + i) (fun _ => Queue.rearm) (List.range (s.vd n).qcount)
  have hq (i : Nat) (hi : i < (s.vd n).qcount) := s.queue_foldl_updQueue (s.vd n).qfirst (fun _ => Queue.rearm) hi
  unfold State.rearmed
  refine ⟨?_, ?_, hq⟩
  · rw [State.vd_updVd, hx]
    rfl
  · rw [hx]
    rfl

/-- The VD is told of the end of its reset, and nothing else of it changes but what its vectors still have to send. -/
theorem State.rearmTold_effect (b : Bool) : (∃ x m, (s.rearmTold n b).vd n = { (s.vd n).rearmed with vdevt := x, msixPending := m } ∧
    x.getLsbD 0 = true) ∧ (s.rearmTold n b).pf = s.pf ∧
    ∀ i < (s.vd n).qcount, (s.rearmTold n b).queue ((s.vd n).qfirst + i) = (s.queue ((s.vd n).qfirst + i)).rearm := by
  obtain ⟨hvd, hpf, hqueues⟩ := s.rearmed_effect (n := n)
  have hpfe (u : State) (k : Nat) : (u.vdEvent n k).pf = u.pf := by
    obtain ⟨v, m, i, h⟩ := u.vdEvent_frame n k
    rw [h]
  unfold State.rearmTold
  refine ⟨?_, ?_, fun i hi => ?_⟩
  · obtain ⟨x, m, h0, hx⟩ := (if b then (s.rearmed n).vdEvent n 1 else s.rearmed n).vdEvent_effect n 0 (by omega)
    refine ⟨x, m, ?_, hx⟩
    rw [h0]
    cases b
    · rw [if_neg (by decide), hvd]
    · obtain ⟨y, l, h1, -⟩ := (s.rearmed n).vdEvent_effect n 1 (by omega)
      rw [if_pos rfl, h1, hvd]
  · cases b
    · exact (hpfe _ 0).trans hpf
    · exact (hpfe _ 0).trans ((hpfe _ 1).trans hpf)
  · cases b
    · exact (State.queue_vdEvent _ _ _ _).trans (hqueues i hi)
    · exact (State.queue_vdEvent _ _ _ _).trans ((State.queue_vdEvent _ _ _ _).trans (hqueues i hi))

theorem Queue.rearm_effect (q : Queue) : q.rearm.runs = [] ∧ (if q.qcfg.getLsbD 31 then q.rearm.state = 1 ∧ q.rearm.head = q.latch ∧
    q.rearm.tail = q.latch ∧ q.rearm.next = q.latch else q.rearm.state = 0) := by
  unfold Queue.rearm Queue.enabled
  dsimp only
  cases q.qcfg.getLsbD 31
  · exact ⟨rfl, rfl⟩
  · exact ⟨rfl, rfl, rfl, rfl, rfl⟩

theorem resetRearm_effect (hreset : (s.vd n).reset = some r) (hs : (s.vd n).state = 4) (hr : r.cleared = true)
    (hd : (s.vd n).destroyPend = false) : ∃ t : State, exec (.resetRearm n) s = .next t ∧ (t.vd n).state = 2 ∧ (t.vd n).reset = none ∧
      (t.vd n).kill = none ∧ (t.vd n).resetCnt = (if (s.vd n).resetCnt = 255 then 255 else (s.vd n).resetCnt + 1) ∧
      (t.vd n).vdevt.getLsbD 0 = true ∧ (s.carrying 3 n = true → t.pf.busy = none ∧ t.pf.status = 0) ∧
      ∀ i < (s.vd n).qcount, t.queue ((s.vd n).qfirst + i) = (s.queue ((s.vd n).qfirst + i)).rearm := by
  refine ⟨_, exec_resetRearm_eq hreset hs hr hd, ?_⟩
  obtain ⟨⟨x, m, hvd, hx⟩, hpf, hqueues⟩ := s.rearmTold_effect (n := n) r.byOther
  generalize s.rearmTold n r.byOther = u at *
  have hstate : (s.vd n).rearmed.state = 2 := Vd.state_setState (s.vd n) (by omega) (by omega)
  have hcarry : u.carrying 3 n = s.carrying 3 n := by
    unfold State.carrying
    rw [hpf]
  rw [hcarry]
  set t := if s.carrying 3 n then u.complete 0 else u with ht
  have hv : t.vds = u.vds := by rw [ht]; split <;> rfl
  have hq : t.queues = u.queues := by rw [ht]; split <;> rfl
  have htv : t.vd n = { (s.vd n).rearmed with vdevt := x, msixPending := m } := (congrArg (fun t => Table.get Vd.start t n) hv).trans hvd
  rw [htv]
  refine ⟨hstate, rfl, rfl, by simp only [Vd.rearmed, beq_iff_eq], hx, fun hc => ?_, fun i hi => ?_⟩
  · rw [ht, if_pos hc]
    exact ⟨rfl, rfl⟩
  · rw [State.queue, hq]
    exact hqueues i hi

end

/-- 02 R41; 17 R405, R407, R409. -/
theorem scopedReset : ScopedReset := by
  refine ⟨fun s n hs => ?_, fun s n hs => ?_, fun s u ws hop hb hc => ⟨fun hs => ?_, fun hs => ?_, fun hs => ?_⟩,
    fun s n r hreset hs hr ha => ashpitDumpDone_effect hreset hs hr ha, fun s n r hreset hs hk hr => ?_, fun s n r hreset hs hr hd => ?_⟩
  · obtain ⟨hstate, ⟨r, hr, hreason, hclk⟩, -, hgroups⟩ := State.startReset_effect hs .request false 0 0
    exact ⟨_, r, rfl, hstate, hr, hreason, hclk, hgroups⟩
  · rw [exec_resetreq, execResetreq, State.startReset, if_pos (bne_iff_ne.mpr hs)]
  · obtain ⟨hstate, ⟨r, hr, hreason, -⟩, hbusy, -⟩ := State.startReset_effect hs .command true 0 0
    exact ⟨_, r, (exec_reset_eq hb hop hc (by omega)).trans (by rw [if_pos hs]), hstate, hr, hreason, hbusy⟩
  · rw [exec_reset_eq hb hop hc (by omega), if_neg (by omega), if_pos hs]
  · rw [exec_reset_eq hb hop hc (by omega), if_neg (by omega), if_neg (by omega)]
  · obtain ⟨t, hrun, hnew, hfaults, hended, hwiped⟩ := resetDrained_effect hreset hs hk hr
    exact ⟨t, hrun, hnew, hfaults, hended, fun _ => hwiped⟩
  · obtain ⟨t, hrun, h1, h2, h3, h4, h5, h6, hqueues⟩ := resetRearm_effect hreset hs hr hd
    refine ⟨t, hrun, h1, h2, h3, h4, h5, h6, fun i hi => ?_⟩
    intro q p
    have hp : p = q.rearm := hqueues i hi
    rw [hp]
    exact q.rearm_effect

/-! Gangs are killed (17 R396). -/

/-- What a change of every grid keeps of a grid. -/
theorem Table.get_map_proj {β γ : Type} {p : β → γ} {f : Nat × β → Nat × β} (hk : ∀ e, (f e).1 = e.1) (hp : ∀ e, p (f e).2 = p e.2)
    (d : β) (t : Table β) (n : Nat) : p (Table.get d (t.map f) n) = p (Table.get d t n) := by
  induction t with
  | nil => rfl
  | cons e t ih =>
    obtain ⟨k, u⟩ := e
    rw [List.map_cons, show f (k, u) = (k, (f (k, u)).2) from Prod.ext (hk _) rfl, Table.get, Table.get]
    by_cases h : (n == k) = true
    · rw [if_pos h, if_pos h, hp]
    · rw [if_neg h, if_neg h, ih]

theorem State.tally_failTree (s : State) (n : Nat) (c : Cause × Prov) (gang : Bool) (m : Nat) :
    ((s.failTree n c gang).grid m).tally = (s.grid m).tally :=
  Table.get_map_proj (fun e => by split <;> rfl) (fun e => by split <;> rfl) Grid.start s.grids m

/-- A workgroup that is released has ended. -/
theorem ended_of_released {x : Group} {y : Standing} (h : x.standing = y.released) : x.residence = .ended ∧ x.warps = [] :=
  ⟨congrArg Standing.residence h, List.length_eq_zero_iff.mp (congrArg Standing.warps h)⟩

/-- How many members of a workgroup's gang have ended already. -/
def State.keptIn (s : State) (g : Nat) : Nat :=
  ((s.gangOf g).filter fun m => match (s.group m).residence with | .kept _ => true | _ => false).length

/-- The grid of a gang that is to run again. -/
def Grid.again (n : Grid) (c : Cause × Prov) (gang kept : Nat) : Grid := { n with
  kills := Table.put gang (Table.get 0 n.kills gang + 1) n.kills
  relaunch := n.relaunch ++ [gang]
  endedGroups := n.endedGroups - kept
  poisons := if c.1 == Cause.poison then Table.put gang c.2 n.poisons else Table.drop gang n.poisons }

/-- The grid of a gang that counts as ended. -/
def Grid.lost (kills gang members : Nat) (n : Grid) : Grid := { n with
  kills := Table.put gang kills n.kills
  endedGroups := n.endedGroups + members }

section
variable {s : State} {g : Nat} {c : Cause × Prov} (hd : (s.group g).doomed = some c) (hr : (s.group g).residence ≠ .ended)
include hd hr

/-- GANG_KILL drops the gang, and tells its grid. -/
theorem exec_gangKill_eq {w : State} (hw : w = s.dropGroups (s.gangOf g)) {n : Grid} (hn : n = w.grid (s.group g).grid) {gang : Nat}
    (hg : gang = (s.group g).wgid / (s.launchOf g).gang) : exec (.gangKill g) s = .next
    ((if (s.launchOf g).relaunch = true ∧ Table.get 0 n.kills gang + 1 ≤ 2 ∧ n.killed = false then
        w.setGrid (s.group g).grid (n.again c gang (s.keptIn g))
      else (w.failTree (s.group g).grid c true).updGrid (s.group g).grid
        (Grid.lost (Table.get 0 n.kills gang + 1) gang ((s.gangOf g).length - s.keptIn g))).noteBacklog (s.group g).vd) := by
  subst hw hn hg
  rw [exec_gangKill, execGangKill, hd]
  refine (if_neg (mt beq_iff_eq.mp hr)).trans (congrArg (fun u : State => (.next : State → Res) (u.noteBacklog (s.group g).vd)) ?_)
  refine if_congr ?_ rfl rfl
  simp only [Bool.and_eq_true, decide_eq_true_eq, Bool.not_eq_true', and_assoc]

/-- Every member of the gang ends, and its grid counts the kill. -/
theorem gangKill_effect :
    let x := s.group g
    let n := s.grid x.grid
    let gang := x.wgid / (s.launchOf g).gang
    let kills := Table.get 0 n.kills gang + 1
    ∃ t : State, exec (.gangKill g) s = .next t ∧ (∀ m ∈ s.gangOf g, (t.group m).residence = .ended ∧ (t.group m).warps = []) ∧
      Table.get 0 (t.grid x.grid).kills gang = kills ∧
      if (s.launchOf g).relaunch = true ∧ kills ≤ 2 ∧ n.killed = false then
        (t.grid x.grid).relaunch = n.relaunch ++ [gang] ∧ (t.grid x.grid).endedGroups = n.endedGroups - s.keptIn g
      else (t.grid x.grid).relaunch = n.relaunch ∧
        (t.grid x.grid).endedGroups = n.endedGroups + ((s.gangOf g).length - s.keptIn g) := by
  intro x n gang kills
  refine ⟨_, exec_gangKill_eq hd hr rfl rfl rfl, ?_⟩
  obtain ⟨hrun, hgroups⟩ := s.dropGroups_effect (s.gangOf g)
  generalize s.dropGroups (s.gangOf g) = w at *
  obtain ⟨hkills, hrelaunch, hended, hkilled⟩ : (w.grid x.grid).kills = n.kills ∧ (w.grid x.grid).relaunch = n.relaunch ∧
      (w.grid x.grid).endedGroups = n.endedGroups ∧ (w.grid x.grid).killed = n.killed := by
    simpa [Grid.tally] using hrun.tally x.grid
  obtain ⟨-, hfrelaunch, hfended, -⟩ : ((w.failTree x.grid c true).grid x.grid).kills = n.kills ∧
      ((w.failTree x.grid c true).grid x.grid).relaunch = n.relaunch ∧
      ((w.failTree x.grid c true).grid x.grid).endedGroups = n.endedGroups ∧
      ((w.failTree x.grid c true).grid x.grid).killed = n.killed := by
    simpa [Grid.tally] using (w.tally_failTree x.grid c true x.grid).trans (hrun.tally x.grid)
  have hall {t : State} (ht : t.groups = w.groups) (m : Nat) (hm : m ∈ s.gangOf g) :
      (t.group m).residence = .ended ∧ (t.group m).warps = [] := by
    have h := hgroups m
    rw [if_pos hm] at h
    rw [State.group, ht]
    exact ended_of_released h
  have hgrid (u : State) (vd : Nat) : (u.noteBacklog vd).grid x.grid = u.grid x.grid := by
    rw [State.grid, State.grids_noteBacklog]
    rfl
  rw [hkills, hkilled, hgrid]
  split
  · refine ⟨hall (by rw [State.groups_noteBacklog]; rfl), ?_⟩
    rw [State.grid_setGrid, Grid.again, hkills, hrelaunch, hended]
    exact ⟨Table.get_put_self 0 gang kills n.kills, rfl, rfl⟩
  · refine ⟨hall (by rw [State.groups_noteBacklog]; rfl), ?_⟩
    rw [State.grid_updGrid, Grid.lost, hfrelaunch, hfended]
    exact ⟨Table.get_put_self 0 gang kills _, rfl, rfl⟩

end

/-! A drained gang runs again (17 R397). -/

/-- A grid whose gang does not run again, and one whose gang does. -/
def Grid.dropped (x : Grid) (gang : Nat) : Grid := { x with
  relaunch := x.relaunch.filter (· != gang)
  endedGroups := x.endedGroups + x.record.gang }
def Grid.readied (x : Grid) (gang : Nat) : Grid := { x with
  relaunch := x.relaunch.filter (· != gang)
  ready := x.ready ++ [gang] }

/-- The poison that killed a gang has its record still open. -/
def State.heldGang (s : State) (n gang : Nat) : Prop :=
  (s.grid n).killed = false ∧ ∃ p, Table.look (s.grid n).poisons gang = some p ∧ s.errorOpen p = true

section
variable {s : State} {n gang : Nat} (hm : gang ∈ (s.grid n).relaunch) (he : (s.grid n).ended = false)
include hm he

theorem exec_gangRelaunch_eq [Decidable (s.heldGang n gang)] : exec (.gangRelaunch n gang) s = .next
    (if s.heldGang n gang then s
    else if (s.grid n).killed then s.setGrid n ((s.grid n).dropped gang)
    else (s.setGrid n ((s.grid n).readied gang)).noteBacklog (s.grid n).vd) := by
  have hgo : ¬ (!(s.grid n).relaunch.contains gang || (s.grid n).ended) = true := by simp [hm, he]
  rw [exec_gangRelaunch, execGangRelaunch]
  refine (if_neg hgo).trans ((if_congr (Q := s.heldGang n gang) ?_ rfl (apply_ite _ _ _ _).symm).trans (apply_ite _ _ _ _).symm)
  unfold State.heldGang
  cases Table.look (s.grid n).poisons gang <;> simp

theorem gangRelaunch_effect (h : ¬ s.heldGang n gang) : ∃ t : State, exec (.gangRelaunch n gang) s = .next t ∧
    gang ∉ (t.grid n).relaunch ∧ t.groups = s.groups ∧
    if (s.grid n).killed then
      (t.grid n).endedGroups = (s.grid n).endedGroups + (s.grid n).record.gang ∧ (t.grid n).ready = (s.grid n).ready
    else (t.grid n).ready = (s.grid n).ready ++ [gang] := by
  classical
  refine ⟨_, (exec_gangRelaunch_eq hm he).trans (by rw [if_neg h]), ?_⟩
  have hout : gang ∉ (s.grid n).relaunch.filter (· != gang) := fun hin => by simpa using (List.mem_filter.mp hin).2
  split
  · rw [State.grid_setGrid]
    exact ⟨hout, rfl, rfl, rfl⟩
  · have hg : ((s.setGrid n ((s.grid n).readied gang)).noteBacklog (s.grid n).vd).grid n = (s.grid n).readied gang := by
      rw [State.grid, State.grids_noteBacklog]
      exact s.grid_setGrid n _
    rw [hg, State.groups_noteBacklog]
    exact ⟨hout, rfl, rfl⟩

end

/-! Engines drain (17 R402). -/

theorem Table.mem_of_get_ne {β : Type} {d : β} {t : Table β} {n : Nat} (h : Table.get d t n ≠ d) : (n, Table.get d t n) ∈ t := by
  induction t with
  | nil => exact absurd rfl h
  | cons e t ih =>
    obtain ⟨k, u⟩ := e
    rw [Table.get] at h ⊢
    by_cases hn : (n == k) = true
    · rw [if_pos hn, beq_iff_eq.mp hn]
      exact List.mem_cons_self
    · rw [if_neg hn] at h ⊢
      exact List.mem_cons_of_mem _ (ih h)

/-- A workgroup that stands is in the table. -/
theorem mem_groups_of_resident {s : State} {g : Nat} (h : (s.group g).residence = .resident) : (g, s.group g) ∈ s.groups := by
  have hne : Table.get Group.start s.groups g ≠ Group.start := fun e => by
    have : (s.group g).residence = .ended := congrArg Group.residence e
    rw [this] at h
    cases h
  exact Table.mem_of_get_ne hne

theorem mem_residentOf {s : State} {g n : Nat} (hv : (s.group g).vd = n) (h : (s.group g).residence = .resident) : g ∈ s.residentOf n := by
  refine List.mem_filter.mpr ⟨List.mem_map.mpr ⟨(g, s.group g), List.mem_filter.mpr ⟨mem_groups_of_resident h, ?_⟩, rfl⟩, ?_⟩
  · simp [hv, h]
  · simp [h]

/-- With the cores drained no workgroup of the VD is on one. -/
theorem residence_of_drained_cores {s : State} {n g : Nat} (hv : ((s.drainEngine n .cores).group g).vd = n) :
    ((s.drainEngine n .cores).group g).residence ≠ .resident := fun hr => by
  have hg := (s.dropGroups_effect (s.residentOf n)).2 g
  change ((s.drainEngine n .cores).group g).standing = _ at hg
  split at hg
  · exact absurd ((congrArg Standing.residence hg).symm.trans hr) (by simp [Standing.released])
  · next hnot =>
    exact hnot (mem_residentOf ((congrArg Standing.vd hg).symm.trans hv) ((congrArg Standing.residence hg).symm.trans hr))

/-- With the queue engine drained no queue of the VD runs a record. -/
theorem runs_of_drained_queue {s : State} {n q : Nat} (hv : ((s.drainEngine n .queue).queue q).vd.toNat = n) :
    ((s.drainEngine n .queue).queue q).runs = [] := by
  revert hv
  refine Table.get_of_forall (P := fun x : Queue => x.vd.toNat = n → x.runs = []) (fun _ => rfl) (fun e he => ?_) q
  obtain ⟨x, -, rfl⟩ := List.mem_map.mp he
  split
  · exact fun _ => rfl
  · next h => exact fun hv => absurd (beq_iff_eq.mpr hv) h

theorem State.remote_of_drained_stations (s : State) (n : Nat) : ∀ r ∈ (s.drainEngine n .stations).remote, r.vd ≠ n :=
  fun _ hr => bne_iff_ne.mp (List.mem_filter.mp hr).2

/-- ENGINE_DRAINED of an engine that has work of the VD (17 R402). -/
theorem engineDrained_effect {s : State} {n : Nat} {e : Engine} {l : List Engine} (hk : (s.vd n).kill = some l) (he : e ∈ l) :
    ∃ t : State, exec (.engineDrained n e) s = .next t ∧ (t.vd n).kill = some (l.filter (· != e)) ∧
      (e = .cores → ∀ g, (t.group g).vd = n → (t.group g).residence ≠ .resident) ∧
      (e = .queue → ∀ q, (t.queue q).vd.toNat = n → (t.queue q).runs = []) ∧ (e = .paging → (t.vd n).faults = []) ∧
      (e = .stations → ∀ r ∈ t.remote, r.vd ≠ n) := by
  have hin : l.contains e = true := List.contains_iff_mem.mpr he
  have hvd := (s.drainEngine n e).vd_updVd n fun v => { v with kill := some (l.filter (· != e)) }
  refine ⟨(s.drainEngine n e).updVd n fun v => { v with kill := some (l.filter (· != e)) }, ?_, congrArg Vd.kill hvd, ?_, ?_, ?_, ?_⟩
  · simp only [exec_engineDrained, execEngineDrained, hk, hin, if_true]
  · rintro rfl g hv
    exact residence_of_drained_cores hv
  · rintro rfl q hv
    exact runs_of_drained_queue hv
  · rintro rfl
    refine (congrArg Vd.faults hvd).trans ?_
    exact congrArg Vd.faults (s.vd_updVd n fun v => { v with faults := [] })
  · rintro rfl
    exact s.remote_of_drained_stations n

/-- 17 R396, R397, R402. -/
theorem gangsAreKilled : GangsAreKilled := by
  classical
  refine ⟨fun s g c hd hr => gangKill_effect hd hr, fun s g hd => by rw [exec_gangKill, execGangKill, hd],
    fun s n gang hm he => ⟨fun h => (exec_gangRelaunch_eq hm he).trans (by rw [if_pos (show s.heldGang n gang from h)]),
      fun h => gangRelaunch_effect hm he h⟩,
    fun s n e l hk => ⟨fun he => ?_, fun he => engineDrained_effect hk he⟩⟩
  have hin : l.contains e = false := by simpa using he
  simp only [exec_engineDrained, execEngineDrained, hk, hin, Bool.false_eq_true, if_false]

end Sys2Proof.Machine

namespace Sys2Proof

open Machine Claims

/-- Settles O38: a scoped reset by its steps, then the kill and the relaunch of gangs and what each engine drops. -/
theorem resetsAndKills : Obligations.ResetsAndKills := ⟨scopedReset, gangsAreKilled⟩

end Sys2Proof

/-! PROOFS. The other events of a VD's life: shared content, die scratch, the ashpit's base and a queue's watchdog (02 R49, R70; 09 R234,
R235; 17 R401, R404, R406). -/

namespace Sys2Proof.Machine

open Sys2Proof.Claims

/-! Shared content (02 R49; 17 R401). -/

/-- A slot that a SHAREMAP gives its frames. -/
def unfilledSlot (ws : List W32) (part : Bool) (fs : List Nat) : SharedSlot :=
  ⟨BitVec.ofNat 64 (word ws 2 + 2 ^ 32 * word ws 3), word ws 4, part, fs, 0, false⟩

section
variable {s u : State} {ws : List W32}

/-- SHAREMAP of an empty slot takes its frames, and the slot waits to be filled. -/
theorem exec_sharemap_eq (hb : Begins s ws u) (hop : opOf ws = 6) (hc : Clean ws) (hv : (u.vd (vdOf ws)).state = 2) (h1 : word ws 1 < 64)
    (h2 : word ws 2 % 4096 = 0) (h4 : 1 ≤ word ws 4) (h4' : word ws 4 ≤ 2 ^ 20) (h5 : word ws 5 % 2 ^ 21 = 0)
    (hslot : Table.look u.pf.slots (word ws 1) = none) (hd : u.pf.secDead = false) {fs : List Nat} {x : State}
    (hx : u.takeFrames (u.hardPart (vdOf ws)) (word ws 1) (word ws 4) = some (fs, x)) :
    exec .sharemap s = .next { x with pf := { x.pf with 
      slots := Table.put (word ws 1) (unfilledSlot ws (decide (u.hardPart (vdOf ws) = 1)) fs) x.pf.slots } } := by
  rw [exec_sharemap, execSharemap, State.command_begins _ hb (by rw [hop]; rfl)]
  have hn : cmdVd ws = vdOf ws := rfl
  have hw : cmdWord ws = word ws := rfl
  have hhost : (word ws 2 + 2 ^ 32 * word ws 3) % 4096 = 0 := by omega
  have hbase : (word ws 5 + 2 ^ 32 * word ws 6) % 2 ^ 21 = 0 := by omega
  have hpages : word ws 4 ≠ 0 := by omega
  have hok : (!cmdClean ws || decide (64 ≤ word ws 1) || (word ws 2 + 2 ^ 32 * word ws 3) % 4096 != 0 || word ws 4 == 0 ||
      decide (2 ^ 20 < word ws 4) || (word ws 5 + 2 ^ 32 * word ws 6) % 2 ^ 21 != 0) = false := by
    rw [(cmdClean_iff ws).mpr hc, decide_eq_false (Nat.not_le.mpr h1), hhost, beq_eq_false_iff_ne.mpr hpages,
      decide_eq_false (Nat.not_lt.mpr h4'), hbase]
    rfl
  simp only [hn, hw, hok, hv, hslot, hd, hx, Bool.false_eq_true, if_false, beq_iff_eq, bne_self_eq_false]
  rfl

/-- A slot is filled with its content under its own keys. -/
def State.fillSlot (s : State) (slot : Nat) (x : SharedSlot) : State :=
  let t := (List.range x.pages).foldl (fun s i => s.performOutside (s.pageWrites ⟨.host, x.host.toNat + 4096 * i⟩
    ⟨.hbm, 4096 * listGet 0 x.frames i⟩)) (s.makeKeys (512 + slot))
  { t with pf := { t.pf with slots := Table.put slot { x with filled := true } t.pf.slots } }

theorem State.keys_foldl_performOutside (ws : State → Nat → List ByteWrite) (l : List Nat) (s : State) :
    (l.foldl (fun s i => s.performOutside (ws s i)) s).keys = s.keys := by
  refine foldl_keeps (fun t : State => t.keys = s.keys) _ (fun t i ht => ?_) l s rfl
  obtain ⟨m, p, g, o, h⟩ := t.performOutside_frame (ws t i)
  exact (congrArg State.keys h).trans ht

theorem State.keys_fillSlot (s : State) (slot : Nat) (x : SharedSlot) : (Table.look (s.fillSlot slot x).keys (512 + slot)).isSome = true := by
  have h : (s.fillSlot slot x).keys = (s.makeKeys (512 + slot)).keys := State.keys_foldl_performOutside (fun s i => s.pageWrites _ _) _ _
  rw [h]
  exact congrArg Option.isSome (Table.look_put_self (512 + slot) _ s.keys)

/-- SHAREMAP_COMPLETE fills the slot under its own keys, and maps it. -/
theorem exec_sharemapComplete_eq {slot : Nat} {x : SharedSlot} (hx : Table.look s.pf.slots slot = some x) (hb : s.pf.busy = some ⟨ws, true⟩)
    (hop : opOf ws = 6) (hslot : word ws 1 = slot) (hf : x.filled = false) (hw : s.secWaits = false) (hr : s.roleStopped 1 = false)
    (hd : s.pf.secDead = false) : exec (.sharemapComplete slot) s = .next ((s.fillSlot slot x).mapShared (vdOf ws) slot
      ((word ws 5 + 2 ^ 32 * word ws 6) / 4096) { x with filled := true }) := by
  have hop' : cmdOp ws = 6 := hop
  have hslot' : cmdWord ws 1 = slot := hslot
  have hgo : ¬ (!true || cmdOp ws != 6 || cmdWord ws 1 != slot || x.filled || s.secWaits || s.roleStopped 1) = true := by
    simp [hop', hslot', hf, hw, hr]
  rw [exec_sharemapComplete, execSharemapComplete, hx, hb]
  exact (if_neg hgo).trans (if_neg (by simp [hd]))

end

/-- The records of a frame's errors are closed. -/
def State.closeErrors (s : State) (f : Nat) : State :=
  { s with errors := s.errors.map fun e => if e.shared == some f then { e with closed := true } else e }

theorem State.closeErrors_mem (s : State) (f : Nat) : (s.closeErrors f).mem = s.mem := rfl

/-- A byte in memory that a write from outside the cores names reads as it was written. -/
theorem State.readByte_performOutside (s : State) {ws : List ByteWrite} (hm : ∀ w ∈ ws, w.loc.inMemory)
    (hn : (ws.map fun w => w.loc.key).Nodup) {w : ByteWrite} (hw : w ∈ ws) : (s.performOutside ws).readByte w.loc = w.byte := by
  rw [State.performOutside]
  exact State.readByte_performWrites _ hm hn hw

theorem listGet_readBytes (s : State) (l : Loc) {n i : Nat} (h : i < n) : listGet 0 (s.readBytes l n) i = s.readByte (l.plus i) := by
  rw [listGet_eq_getD, State.readBytes, List.getD_eq_getElem?_getD]
  simp [h]

section
variable {s : State} {slot page : Nat} {x : SharedSlot} (hx : Table.look s.pf.slots slot = some x) (hp : page < x.pages)
  (hr : s.roleStopped 2 = false) (hc : s.poisonOf ⟨.host, x.host.toNat + 4096 * page⟩ 4096 = none)
include hx hp hr hc

/-- A frame is written again from its backing copy (17 R401). -/
theorem exec_sharedFrameRepair_eq : exec (.sharedFrameRepair slot page true false) s = .next ((s.performOutside
    (writesAt ⟨.hbm, 4096 * listGet 0 x.frames page⟩ (s.readBytes ⟨.host, x.host.toNat + 4096 * page⟩ 4096) none)).closeErrors
      (listGet 0 x.frames page)) := by
  have hgo : ¬ (decide (x.pages ≤ page) || s.roleStopped 2) = true := by simp [hp, hr]
  have hcopy : ((true && (s.poisonOf ⟨.host, x.host.toNat + 4096 * page⟩ 4096).isNone) && !false) = true := by simp [hc]
  rw [exec_sharedFrameRepair, execSharedFrameRepair, hx]
  exact (if_neg hgo).trans (if_pos hcopy)

/-- The frame then holds the bytes of the copy. -/
theorem sharedFrameRepair_effect : Does (.sharedFrameRepair slot page true false) s fun t => ∀ i < 4096,
    t.readByte ⟨.hbm, 4096 * listGet 0 x.frames page + i⟩ = s.readByte ⟨.host, x.host.toNat + 4096 * page + i⟩ := by
  refine ⟨_, exec_sharedFrameRepair_eq hx hp hr hc, fun i hi => ?_⟩
  set f := listGet 0 x.frames page
  set copy := s.readBytes ⟨.host, x.host.toNat + 4096 * page⟩ 4096 with hcopy
  have hlen : copy.length = 4096 := by simp [hcopy, State.readBytes]
  have hw : (⟨⟨.hbm, 4096 * f + i⟩, listGet 0 copy i, none⟩ : ByteWrite) ∈ writesAt ⟨.hbm, 4096 * f⟩ copy none :=
    List.mem_map.mpr ⟨i, List.mem_range.mpr (hlen ▸ hi), rfl⟩
  have hm : ∀ w ∈ writesAt ⟨.hbm, 4096 * f⟩ copy none, w.loc.inMemory := fun w h => by
    obtain ⟨j, -, rfl⟩ := List.mem_map.mp h
    exact .inl rfl
  rw [State.readByte_of_mem_eq (State.closeErrors_mem _ f) (by simp)]
  have hread := s.readByte_performOutside hm (nodup_keys_writesAt _ _ _) hw
  have hbyte : listGet 0 copy i = s.readByte ⟨.host, x.host.toNat + 4096 * page + i⟩ := listGet_readBytes s _ hi
  rw [hread, hbyte]

end

/-! Die scratch (09 R234, R235). -/

theorem ofNat_fieldN_low (w : W32) : BitVec.ofNat 9 (fieldN w 8 0) = w.setWidth 9 := by
  refine BitVec.eq_of_toNat_eq ?_
  rw [BitVec.toNat_ofNat, BitVec.toNat_setWidth, fieldN, pow_zero, Nat.div_one, Nat.mod_mod]

theorem dieScratchRequest_effect {s : State} {n : Nat} (w : W32) (h : (s.vd n).responds = true) :
    Does (.dieScratchRequest n w) s fun t => (t.vd n).dsReq = w.setWidth 9 := by
  refine ⟨_, rfl, ?_⟩
  simp only [State.writeDscfg, h, Bool.not_true, Bool.false_eq_true, if_false]
  split <;> rw [State.vd_updVd, State.vd_updVd] <;> exact ofNat_fieldN_low w

/-- A VD with its share as it is granted. -/
def Vd.granted (v : Vd) (r : BitVec 9) : Vd := { v with dsGrant := r, dsPend := none }

theorem dieScratchGrant_effect {s : State} {n : Nat} {r : BitVec 9} (hp : (s.vd n).dsPend = some r) (hr : s.roleStopped 1 = false) :
    Does (.dieScratchGrant n) s fun t => (t.vd n).dsGrant = r ∧ (t.vd n).dsPend = none := by
  refine ⟨(s.wipeDie n (2 ^ 20 * min (s.vd n).dsGrant.toNat r.toNat)).setVd n ((s.vd n).granted r), ?_, ?_⟩
  · rw [exec_dieScratchGrant, execDieScratchGrant, hp]
    exact if_neg (by simp [hr])
  · have hvd := State.vd_setVd (s.wipeDie n (2 ^ 20 * min (s.vd n).dsGrant.toNat r.toNat)) n ((s.vd n).granted r)
    exact ⟨congrArg Vd.dsGrant hvd, congrArg Vd.dsPend hvd⟩

/-! The ashpit's base (17 R404). -/

theorem ashbaseWrite_effect {s : State} {n : Nat} (w : Word) (h : (s.vd n).responds = true) :
    Does (.ashbaseWrite n w) s fun t => (t.vd n).ashBase = w &&& 0x000FFFFFFFFF0007 := by
  refine ⟨s.writeAshbase n w, by simp only [exec_ashbaseWrite, execAshbaseWrite, h, if_true], ?_⟩
  unfold State.writeAshbase
  extract_lets s1 v pages fail s2 ok
  have h1 : (s1.vd n).ashBase = w &&& 0x000FFFFFFFFF0007 := congrArg Vd.ashBase (s.vd_updVd n _)
  have h2 : Steady s1 s2 := by
    refine .foldl (fun t p => ?_) pages s1
    split
    · cases hb : t.bringIn n p with
      | none => exact .refl t
      | some u => exact State.steady_bringIn hb
    · exact .refl t
  have h3 : (s2.vd n).ashBase = w &&& 0x000FFFFFFFFF0007 := (h2.ashBase n).trans h1
  split
  · exact h1
  · split
    · exact h3
    · exact (congrArg Vd.ashBase (s2.vd_updVd n _)).trans h3

/-! The queue watchdog (02 R70; 17 R406). -/

/-- Without its expert fields a VD is told of a record that has outlived its limit, and nothing else is done. -/
theorem queueWatchdog_effect {s : State} {q : Nat} {r : RecordRun} (hr : (s.queue q).headRun = some r)
    (hv : (s.vd (s.queue q).vd.toNat).works = true) (hw : (s.queue q).wdog (s.vd (s.queue q).vd.toNat) ≠ 0)
    (he : (s.vd (s.queue q).vd.toNat).expert = false) : Does (.queueWatchdog q) s fun t =>
      (t.queue q).hung = true ∧ (t.vd (s.queue q).vd.toNat).vdevt.getLsbD 3 = true := by
  have hgo : (!(s.vd (s.queue q).vd.toNat).works || (s.queue q).wdog (s.vd (s.queue q).vd.toNat) == 0) = false := by
    rw [hv, beq_eq_false_iff_ne.mpr hw]
    rfl
  refine ⟨((s.setQueue q { s.queue q with hung := true }).vdEvent (s.queue q).vd.toNat 3).logEvent 0x13 (s.queue q).vd.toNat, ?_, ?_, ?_⟩
  · rw [exec_queueWatchdog, execQueueWatchdog, hr]
    simp only [hgo, he, Bool.false_eq_true, if_false]
    exact congrArg _ (ite_self _)
  · refine (congrArg Queue.hung (State.queue_vdEvent _ _ 3 q)).trans ?_
    exact congrArg Queue.hung (s.queue_setQueue q _)
  · obtain ⟨x, m, hvd, hx⟩ := (s.setQueue q { s.queue q with hung := true }).vdEvent_effect (s.queue q).vd.toNat 3 (by omega)
    exact (congrArg (fun v : Vd => v.vdevt.getLsbD 3) hvd).trans hx

/-! A command's events, from what the commands do (02 R43-R48). -/

section
variable {s u : State} {ws : List W32} (hb : Begins s ws u) (hc : Clean ws)
include hb hc

/-- CREATE of a FREE VD that finds its queues and frames in partition 0. -/
theorem create_completes (hop : opOf ws = 1) (hv : (u.vd (vdOf ws)).state = 0) (h1 : word ws 1 < 64) (h3 : 1 ≤ word ws 3)
    (h3' : word ws 3 < 2 ^ 20) (h6 : word ws 6 ≤ 1) (hd : u.pf.secDead = false) {f : Nat}
    (hf : u.freeQueues (if word ws 1 = 0 then 64 else word ws 1) = some f) (hq : word ws 2 * 512 ≤ u.unpromised 0) :
    Does .create s fun t => (t.vd (vdOf ws)).state = 1 ∧ (t.vd (vdOf ws)).qfirst = f ∧ (t.vd (vdOf ws)).hbmQuota = word ws 2 ∧
      (t.vd (vdOf ws)).vspan = word ws 3 ∧ (t.vd (vdOf ws)).weight = 100 ∧ (t.vd (vdOf ws)).slice = 2000 := by
  have hmod : word ws 1 % 128 = word ws 1 := by omega
  have hpart : word ws 1 / 2 ^ 8 % 2 = 0 := by omega
  have hcount : (if word ws 1 % 128 = 0 then 64 else word ws 1 % 128) ≤ 64 := by split <;> omega
  obtain ⟨-, hfree⟩ := vdsAreCreated.1 s u ws hop hb hc (by omega) (by omega) hcount h3 h3' h6
  obtain ⟨-, hfits⟩ := (hfree hv).2 f (fun e => by omega) hd (by rw [hmod]; exact hf)
  obtain ⟨t, hrun, -, -, -, ⟨hs, -, hqf, -, hquota, hspan, hweight, hslice, -⟩, -⟩ := hfits (by rw [hpart]; exact hq)
  exact ⟨t, hrun, hs, hqf, hquota, hspan, hweight, hslice⟩

theorem setshare_completes (hop : opOf ws = 4) (hv : (u.vd (vdOf ws)).state = 2) (he : (u.vd (vdOf ws)).entry.length = 8)
    (h1 : 1 ≤ word ws 1) (h1' : word ws 1 ≤ 1024) (h2 : 50 ≤ word ws 2) (h2' : word ws 2 ≤ 100000) (h5 : 1 ≤ word ws 5)
    (h5' : word ws 5 ≤ 160) (h6 : word ws 6 < 32) : Does .setshare s fun t => t.pf.busy = none ∧ t.pf.status = 0 ∧
      (t.vd (vdOf ws)).weight = (if (word ws 6).testBit 0 then word ws 1 else (u.vd (vdOf ws)).weight) ∧
      (t.vd (vdOf ws)).cores = (if (word ws 6).testBit 4 then word ws 5 else (u.vd (vdOf ws)).cores) := by
  have hcores : word ws 5 ≤ if u.pf.partMode then 160 else 320 := by split <;> omega
  obtain ⟨-, -, hset⟩ := (sharesAndQueries s u ws hb hc).2 hop
  obtain ⟨t, hrun, hweight, -, -, -, hshare, -⟩ := hset
    ⟨by omega, by omega, by omega, by omega⟩ ⟨fun _ => ⟨h1, h1'⟩, fun _ => ⟨h2, h2'⟩, fun _ => ⟨h5, hcores⟩⟩ (by omega) he
  exact ⟨t.complete 0, hrun, rfl, rfl, hweight, hshare⟩

end

/-- What a step leaves may be said in less. -/
theorem does_imp {i : Instr} {s : State} {P Q : State → Prop} (h : Does i s P) (hpq : ∀ t, P t → Q t) : Does i s Q := by
  obtain ⟨t, hrun, hp⟩ := h
  exact ⟨t, hrun, hpq t hp⟩

theorem unknownOp_completes {s u : State} {ws : List W32} (hb : Begins s ws u) (hop : 6 < opOf ws) :
    exec .unknownOpCommand s = .next (u.complete 4) := by
  obtain ⟨-, -, hinvalid, -⟩ := commandsAreTaken.2 _ _ (.unknown (.inr hop)) s u ws
  exact hinvalid rfl hb (.inl (.inr hop))

/-- RESET of a LIVE VD. -/
theorem reset_completes {s u : State} {ws : List W32} (hb : Begins s ws u) (hc : Clean ws) (hop : opOf ws = 3)
    (hv : (u.vd (vdOf ws)).state = 2) : Does .reset s fun t => (t.vd (vdOf ws)).state = 3 ∧
      ∃ r, (t.vd (vdOf ws)).reset = some r ∧ r.reason = .command := by
  obtain ⟨-, -, hreset, -⟩ := scopedReset
  obtain ⟨t, r, hrun, hstate, hr, hreason, -⟩ := (hreset s u ws hop hb hc).1 hv
  exact ⟨t, hrun, hstate, r, hr, hreason⟩

/-- RESETREQ of a LIVE VD. -/
theorem resetreq_completes {s : State} {n : Nat} (hv : (s.vd n).state = 2) : Does (.resetreq n) s fun t => (t.vd n).state = 3 ∧
    ∃ r, (t.vd n).reset = some r ∧ r.reason = .request := by
  obtain ⟨t, r, hrun, hstate, hr, hreason, -⟩ := scopedReset.1 s n hv
  exact ⟨t, hrun, hstate, r, hr, hreason⟩

/-- A gang whose poison is dealt with is ready again. -/
theorem gangRelaunch_completes {s : State} {n gang : Nat} (hm : gang ∈ (s.grid n).relaunch) (he : (s.grid n).ended = false)
    (hk : (s.grid n).killed = false) (hp : Table.look (s.grid n).poisons gang = none) : Does (.gangRelaunch n gang) s fun t =>
      gang ∉ (t.grid n).relaunch ∧ (t.grid n).ready = (s.grid n).ready ++ [gang] := by
  have hfree : ¬ s.heldGang n gang := by simp [State.heldGang, hp]
  obtain ⟨t, hrun, hout, -, hready⟩ := gangRelaunch_effect hm he hfree
  rw [if_neg (by simp [hk])] at hready
  exact ⟨t, hrun, hout, hready⟩

end Sys2Proof.Machine

namespace Sys2Proof

open Machine Claims

/-- Settles O1: the commands, the events of a VD's life, the gangs, the watchdog and the shared slots, each by what its step leaves. -/
theorem deviceEventsComplete : Obligations.DeviceEventsComplete := by
  refine ⟨fun s u ws hb hc => ⟨fun hop hv h1 h3 h3' h6 hd f hf hq => create_completes hb hc hop hv h1 h3 h3' h6 hd hf hq,
      fun hop hv => does_imp ((vdsAreDestroyed.1 s u ws hop hb hc).1 (.inl hv)) fun t ⟨hstate, hkill, _⟩ => ⟨hstate, hkill⟩,
      fun hop hv => reset_completes hb hc hop hv,
      fun hop hv he h1 h1' h2 h2' h5 h5' h6 => setshare_completes hb hc hop hv he h1 h1' h2 h2' h5 h5' h6,
      fun hop hv => ⟨_, exec_query_eq hb hc hop hv, rfl, rfl, rfl⟩,
      fun hop hv h1 h2 h4 h4' h5 hslot hd fs x hx => ⟨_, exec_sharemap_eq hb hop hc hv h1 h2 h4 h4' h5 hslot hd hx, rfl, rfl⟩,
      fun hop => unknownOp_completes hb hop⟩,
    fun s n => ⟨fun u hv hw hr hd hu hus => does_imp (createComplete_succeeds hv hw hr hd hu hus) fun t ⟨hstate, _, hstatus, _⟩ => ⟨hstate, hstatus⟩,
      fun hv hk hw hr => does_imp (destroyDrained_effect hv hk hw hr) fun t h => h.1,
      fun hv _ => does_imp (wipeComplete_effect hv) fun t h => h.1,
      fun hv => resetreq_completes hv,
      fun r hreset => ⟨fun hv hr ha => does_imp (ashpitDumpDone_effect hreset hv hr ha) fun t ⟨hstate, _, hkill, _⟩ => ⟨hstate, hkill⟩,
        fun hv hk hr => does_imp (resetDrained_effect hreset hv hk hr) fun t ⟨hnew, hfaults, _⟩ => ⟨hnew, hfaults⟩,
        fun hv hr hd => does_imp (resetRearm_effect hreset hv hr hd) fun t ⟨hstate, hnone, _, hcount, _⟩ => ⟨hstate, hnone, hcount⟩⟩,
      fun e l hk he => does_imp (engineDrained_effect hk he) fun t h => h.1,
      fun w h => dieScratchRequest_effect w h, fun r hp hr _ => dieScratchGrant_effect hp hr, fun w h => ashbaseWrite_effect w h⟩,
    fun s g hd hr => ?_,
    fun s n gang hm he hk hp => gangRelaunch_completes hm he hk hp,
    fun s q r hr hv hw he => queueWatchdog_effect hr hv hw he,
    fun s slot x hx => ⟨fun ws hb hop hslot hf hw hr hd =>
        ⟨_, exec_sharemapComplete_eq hx hb hop hslot hf hw hr hd, s.fillSlot slot x, s.keys_fillSlot slot x, rfl⟩,
      fun page hp hr => fun hc => sharedFrameRepair_effect hx hp hr hc⟩⟩
  obtain ⟨c, hc⟩ := Option.ne_none_iff_exists'.mp hd
  exact does_imp (gangKill_effect hc hr) fun t h => h.1

end Sys2Proof

/-! PROOFS. What goes on beside a workgroup: messages, locks, cores, mirrors and the agents' operations leave the grids, memory and what a
workgroup is but for its agents and its place on a core. -/

namespace Sys2Proof.Machine

/-! Lists and tables. -/

theorem listGet_mem {α : Type} (d : α) {l : List α} {n : Nat} (h : n < l.length) : listGet d l n ∈ l := by
  rw [listGet_eq_getD, List.getD_eq_getElem _ _ h]
  exact List.getElem_mem h

theorem listGet_map {α β : Type} (d : α) (e : β) (f : α → β) {l : List α} {n : Nat} (h : n < l.length) :
    listGet e (l.map f) n = f (listGet d l n) := by
  rw [listGet_eq_getD, listGet_eq_getD, List.getD_eq_getElem _ _ (by simpa using h), List.getD_eq_getElem _ _ h, List.getElem_map]

/-- Lists with equal images have equal images element by element. -/
theorem map_listGet_eq {α β : Type} (d : α) {f : α → β} {l m : List α} (h : l.map f = m.map f) (n : Nat) :
    f (listGet d l n) = f (listGet d m n) := by
  rw [listGet_eq_getD, listGet_eq_getD, ← List.getD_map (f := f), ← List.getD_map (f := f), h]

theorem listSet_listGet {α : Type} (d : α) (l : List α) (n : Nat) : listSet l n (listGet d l n) = l := by
  induction l generalizing n with
  | nil => rfl
  | cons a l ih =>
    cases n with
    | zero => rfl
    | succ n => exact congrArg (a :: ·) (ih n)

theorem map_listSet {α β : Type} (f : α → β) (l : List α) (n : Nat) (v : α) : (listSet l n v).map f = listSet (l.map f) n (f v) := by
  induction l generalizing n with
  | nil => rfl
  | cons a l ih =>
    cases n with
    | zero => rfl
    | succ n => exact congrArg (f a :: ·) (ih n)

/-- An element is replaced by one of the same image. -/
theorem map_listSet_eq {α β : Type} (d : α) {f : α → β} {l : List α} {n : Nat} {v : α} (h : f v = f (listGet d l n)) :
    (listSet l n v).map f = l.map f := by
  rw [map_listSet, h]
  induction l generalizing n with
  | nil => rfl
  | cons a l ih =>
    cases n with
    | zero => rfl
    | succ n => exact congrArg (f a :: ·) (ih h)

theorem Table.mem_put_self {β : Type} (n : Nat) (v : β) (t : Table β) : (n, v) ∈ Table.put n v t := by
  induction t with
  | nil => exact List.mem_singleton.mpr rfl
  | cons e t ih =>
    rw [Table.put]
    split
    · exact List.mem_cons_self
    · split
      · exact List.mem_cons_self
      · exact List.mem_cons_of_mem _ ih

/-- Putting an entry drops at most the one that the table showed. -/
theorem Table.mem_put_of_mem {β : Type} (d : β) {n : Nat} (v : β) {t : Table β} {e : Nat × β} (h : e ∈ t) :
    e ∈ Table.put n v t ∨ e = (n, Table.get d t n) := by
  induction t with
  | nil => cases h
  | cons f t ih =>
    obtain ⟨k, u⟩ := f
    rw [Table.put, Table.get]
    split
    · exact .inl (List.mem_cons_of_mem _ h)
    · split
      · next hk =>
        rcases List.mem_cons.mp h with rfl | h
        · exact .inr (by rw [beq_iff_eq.mp hk])
        · exact .inl (List.mem_cons_of_mem _ h)
      · rcases List.mem_cons.mp h with rfl | h
        · exact .inl List.mem_cons_self
        · exact (ih h).imp_left (List.mem_cons_of_mem _)

/-! What a workgroup is. -/

/-- A warp but for its agent and its place on a core: its pipe, window, rows and mirror. -/
def Warp.body (w : Warp) : Warp := { w with agent := Agent.start, pipe := 0, vbase := 0, abase := 0, alimit := 0, mirror := false }

/-- A workgroup but for its agents and the places of its warps. -/
def Group.body (x : Group) : Group := { x with warps := x.warps.map Warp.body, stoker := none }

section
variable {x y : Group} (h : x.body = y.body)
include h

theorem Group.vd_of_body : x.vd = y.vd := (congrArg Group.vd h :)
theorem Group.grid_of_body : x.grid = y.grid := (congrArg Group.grid h :)
theorem Group.wgid_of_body : x.wgid = y.wgid := (congrArg Group.wgid h :)
theorem Group.core_of_body : x.core = y.core := (congrArg Group.core h :)
theorem Group.residence_of_body : x.residence = y.residence := (congrArg Group.residence h :)
theorem Group.halt_of_body : x.halt = y.halt := (congrArg Group.halt h :)
theorem Group.warps_of_body : x.warps.map Warp.body = y.warps.map Warp.body := (congrArg Group.warps h :)

theorem Group.warps_length_of_body : x.warps.length = y.warps.length := by
  simpa using congrArg List.length (Group.warps_of_body h)

end

/-- The grids, memory, the cycle count and the workgroups are as before. -/
structure Apart (s t : State) : Prop where
  mem : t.mem = s.mem
  clk : t.clk = s.clk
  grids : t.grids = s.grids
  groups : t.groups = s.groups

/-- The grids, memory and the cycle count are as before, and so is what each workgroup is; which ones are listed that have not ended stays,
too. -/
structure Aside (s t : State) : Prop where
  mem : t.mem = s.mem
  clk : t.clk = s.clk
  grids : t.grids = s.grids
  group : ∀ g, (t.group g).body = (s.group g).body
  listed : ∀ g b, b.residence ≠ .ended → ((∃ x, (g, x) ∈ t.groups ∧ x.body = b) ↔ ∃ x, (g, x) ∈ s.groups ∧ x.body = b)

section
variable {s t u : State}

theorem Apart.refl (s : State) : Apart s s := ⟨rfl, rfl, rfl, rfl⟩

theorem Apart.trans (h : Apart s t) (k : Apart t u) : Apart s u :=
  ⟨k.mem.trans h.mem, k.clk.trans h.clk, k.grids.trans h.grids, k.groups.trans h.groups⟩

theorem Apart.foldl {α : Type} {f : State → α → State} (hf : ∀ s a, Apart s (f s a)) (l : List α) (s : State) : Apart s (l.foldl f s) :=
  foldl_keeps (Apart s) f (fun _ a h => h.trans (hf _ a)) l s (.refl s)

theorem Apart.ite {c : Prop} [Decidable c] (h : Apart s t) (k : Apart s u) : Apart s (if c then t else u) := by
  split
  · exact h
  · exact k

theorem Apart.group (h : Apart s t) (g : Nat) : t.group g = s.group g := by rw [State.group, State.group, h.groups]

theorem Apart.aside (h : Apart s t) : Aside s t :=
  ⟨h.mem, h.clk, h.grids, fun g => by rw [h.group], fun g b _ => by rw [h.groups]⟩

theorem Aside.refl (s : State) : Aside s s := (Apart.refl s).aside

theorem Aside.trans (h : Aside s t) (k : Aside t u) : Aside s u :=
  ⟨k.mem.trans h.mem, k.clk.trans h.clk, k.grids.trans h.grids, fun g => (k.group g).trans (h.group g),
    fun g b hb => (k.listed g b hb).trans (h.listed g b hb)⟩

theorem Aside.foldl {α : Type} {f : State → α → State} (hf : ∀ s a, Aside s (f s a)) (l : List α) (s : State) : Aside s (l.foldl f s) :=
  foldl_keeps (Aside s) f (fun _ a h => h.trans (hf _ a)) l s (.refl s)

theorem Aside.grid (h : Aside s t) (n : Nat) : t.grid n = s.grid n := by rw [State.grid, State.grid, h.grids]

theorem State.launchOf_congr {g : Nat} (hd : t.grids = s.grids) (hg : (t.group g).grid = (s.group g).grid) : t.launchOf g = s.launchOf g := by
  rw [State.launchOf, State.launchOf, hg, State.grid, State.grid, hd]

theorem Aside.launchOf (h : Aside s t) (g : Nat) : t.launchOf g = s.launchOf g :=
  State.launchOf_congr h.grids (Group.grid_of_body (h.group g))

/-- The members of a gang: the listed workgroups of its grid and number that have not ended. -/
theorem State.mem_gangOf {g m : Nat} : m ∈ s.gangOf g ↔ ∃ b : Group, (b.grid = (s.group g).grid ∧
    b.wgid / (s.launchOf g).gang = (s.group g).wgid / (s.launchOf g).gang ∧ b.residence ≠ .ended) ∧
    ∃ x, (m, x) ∈ s.groups ∧ x.body = b := by
  simp only [State.gangOf, List.mem_map, List.mem_filter, Bool.and_eq_true, beq_iff_eq, bne_iff_ne, and_assoc]
  constructor
  · rintro ⟨⟨_, x⟩, hx, hd, hw, hr, rfl⟩
    exact ⟨x.body, hd, hw, hr, x, hx, rfl⟩
  · rintro ⟨_, hd, hw, hr, x, hx, rfl⟩
    exact ⟨(m, x), hx, hd, hw, hr, rfl⟩

theorem Aside.mem_gangOf (h : Aside s t) {g m : Nat} : m ∈ t.gangOf g ↔ m ∈ s.gangOf g := by
  rw [State.mem_gangOf, State.mem_gangOf, h.launchOf, Group.grid_of_body (h.group g), Group.wgid_of_body (h.group g)]
  refine exists_congr fun b => and_congr_right fun hb => h.listed m b hb.2.2

theorem State.gangOver_iff {g : Nat} : s.gangOver g = true ↔ ∀ m ∈ s.gangOf g, m = g ∨ ∃ b, (s.group m).residence = .kept b := by
  simp only [State.gangOver, List.all_eq_true, Bool.or_eq_true, beq_iff_eq]
  refine forall₂_congr fun m _ => or_congr_right ?_
  cases (s.group m).residence <;> simp

theorem Aside.gangOver (h : Aside s t) (g : Nat) : t.gangOver g = s.gangOver g := by
  rw [Bool.eq_iff_iff, State.gangOver_iff, State.gangOver_iff]
  refine forall_congr' fun m => ?_
  rw [h.mem_gangOf, Group.residence_of_body (h.group m)]

end

/-! Updates of one entity. -/

section
variable (s : State)

theorem State.apart_setVd (n : Nat) (v : Vd) : Apart s (s.setVd n v) := ⟨rfl, rfl, rfl, rfl⟩

theorem State.apart_updVd (n : Nat) (f : Vd → Vd) : Apart s (s.updVd n f) := s.apart_setVd _ _

theorem State.apart_updCore (c : Nat) (f : Core → Core) : Apart s (s.updCore c f) := ⟨rfl, rfl, rfl, rfl⟩

theorem State.apart_send (m : Message) : Apart s (s.send m) := ⟨rfl, rfl, rfl, rfl⟩

theorem State.aside_setGroup {g : Nat} {x : Group} (hx : x.body = (s.group g).body) : Aside s (s.setGroup g x) := by
  refine ⟨rfl, rfl, rfl, fun k => ?_, fun k b hb => ⟨?_, ?_⟩⟩
  · by_cases hk : k = g
    · rw [hk, State.group_setGroup, hx]
    · rw [s.group_setGroup_ne x hk]
  · rintro ⟨y, hy, rfl⟩
    rcases Table.mem_put hy with e | hy
    · obtain ⟨rfl, rfl⟩ := Prod.mk.inj e
      have hne : Table.get Group.start s.groups k ≠ Group.start := fun e => hb ((Group.residence_of_body hx).trans (congrArg Group.residence e))
      exact ⟨_, Table.mem_of_get_ne hne, hx.symm⟩
    · exact ⟨y, hy, rfl⟩
  · rintro ⟨y, hy, rfl⟩
    rcases Table.mem_put_of_mem Group.start x hy with hy | e
    · exact ⟨y, hy, rfl⟩
    · obtain ⟨rfl, rfl⟩ := Prod.mk.inj e
      exact ⟨x, Table.mem_put_self _ _ _, hx⟩

theorem State.aside_updGroup {g : Nat} {f : Group → Group} (hf : (f (s.group g)).body = (s.group g).body) : Aside s (s.updGroup g f) :=
  s.aside_setGroup hf

theorem State.aside_setAgent (a : AgentId) (v : Agent) : Aside s (s.setAgent a v) := by
  cases a with
  | warp g w =>
    refine s.aside_updGroup (f := fun x => { x with warps := listSet x.warps w { s.warp g w with agent := v } }) ?_
    have hw : (listSet (s.group g).warps w { s.warp g w with agent := v }).map Warp.body = (s.group g).warps.map Warp.body :=
      map_listSet_eq Warp.start rfl
    simp only [Group.body, hw]
  | stoker g => exact s.aside_updGroup (f := fun x => { x with stoker := some { s.stoker g with agent := v } }) rfl
  | ctl c => exact Apart.aside ⟨rfl, rfl, rfl, rfl⟩

/-! Remote requests and the write-combining buffer (15 R357-R365). -/

theorem State.apart_transmit (n peer : Nat) (c : FlitContent) : Apart s (s.transmit n peer c) := by
  unfold State.transmit
  extract_lets x
  split
  · refine Apart.trans (t := s.setChannel n peer { x with waiting := x.waiting ++ [.data c] }) ⟨rfl, rfl, rfl, rfl⟩ ?_
    unfold State.flushChannel
    split
    · next fs y _ =>
      refine Apart.trans ?_ (.foldl (fun t f => t.apart_send (.flit n peer f)) fs _)
      exact ⟨rfl, rfl, rfl, rfl⟩
  · exact s.apart_send _

theorem State.apart_sendOut (r : RemoteOut) : Apart s (s.sendOut r) := by
  unfold State.sendOut
  split
  · exact .refl s
  · split
    · refine Apart.trans ?_ (State.apart_transmit _ _ _ _)
      exact ⟨rfl, rfl, rfl, rfl⟩
    · exact .refl s

theorem State.apart_sendUnder (e : Word) (vd off : Nat) (kind : RemoteKind) (use : RemoteUse) :
    Apart s (s.sendUnder e vd off kind use).2 := by
  unfold State.sendUnder
  split
  next id u hu =>
  extract_lets _ _ r u1
  have h1 : Apart s u1 := by
    cases hu
    exact ⟨rfl, rfl, rfl, rfl⟩
  exact h1.trans (.ite (.refl u1) ((u1.apart_sendOut r).trans (State.apart_updVd _ _ _)))

theorem State.aside_sendEntry (core : Nat) (e : WcEntry) : Aside s (s.sendEntry core e) := by
  unfold State.sendEntry
  extract_lets s1 bytes
  have h1 := s.apart_updCore core fun c => { c with wc := c.wc.filter fun x => x.id != e.id }
  have h2 := s1.apart_sendUnder e.endpoint e.vd (e.line * 64) (.write bytes (lowestProv (e.bytes.map (·.2.2)))) (.write core e.writers)
  split
  next id u hu =>
  rw [hu] at h2
  exact (h1.trans h2).aside.trans (.foldl (fun t (w : AgentId × Nat) => t.aside_setAgent w.1 _) _ u)

theorem State.aside_sendVd (core vd : Nat) : Aside s (s.sendVd core vd) := .foldl (fun t e => t.aside_sendEntry core e) _ s

/-! Cores, locks and partitions (04 R114, R118, R124; 10 R270; 14 R349). -/

theorem State.apart_unlock (op : Nat) : Apart s (s.unlock op) := ⟨rfl, rfl, rfl, rfl⟩

theorem State.apart_register (a : AgentId) (ks : List RangeLock) : Apart s (s.register a ks) := by
  unfold State.register
  extract_lets own
  refine .foldl (fun t k => ?_) ks s
  extract_lets bank t1
  have h1 : Apart t t1 := t.apart_updCore _ _
  split
  · exact h1
  · exact h1.trans (t1.apart_updCore _ _)

theorem State.apart_syncFlue (k : Nat) : Apart s (s.syncFlue k) := by
  unfold State.syncFlue
  split
  · exact .refl s
  · exact .foldl (fun t (e : Nat × Nat) => (t.apart_unlock e.2).trans (.foldl (fun u c => u.apart_updCore c _) _ _)) _ s

theorem State.apart_syncFlues (g : Nat) : Apart s (s.syncFlues g) :=
  .foldl (fun t (p : Nat × Partition) => t.apart_syncFlue p.1) _ s

theorem State.apart_acquireCore (c : Nat) : Apart s (s.acquireCore c) := s.apart_updCore c _

theorem State.apart_wakeBanks (c : Nat) (segments : List Nat) : Apart s (s.wakeBanks c segments) := s.apart_updCore c _

theorem State.apart_takeCore (vd core : Nat) : Apart s (s.takeCore vd core) := s.apart_updVd vd _

theorem State.apart_leaveCore (vd core : Nat) : Apart s (s.leaveCore vd core) := by
  unfold State.leaveCore
  split
  · exact .refl s
  · exact s.apart_updVd vd _

theorem State.apart_noteBacklog (vd : Nat) : Apart s (s.noteBacklog vd) := by
  obtain ⟨e, h | h⟩ := s.noteBacklog_frame vd <;> rw [h]
  · exact s.apart_setVd vd _
  · exact .refl s

theorem State.apart_dropWaits (a : AgentId) : Apart s (s.dropWaits a) := ⟨rfl, rfl, rfl, rfl⟩

theorem State.aside_evalMirrors (core : Nat) : Aside s (s.evalMirrors core) := by
  refine .foldl (fun t e => ?_) _ s
  split
  · exact .refl t
  · refine t.aside_updGroup ?_
    simp only [Group.body, List.map_map]
    rfl

end

end Sys2Proof.Machine

/-! PROOFS. Decisions place work (03 R79, R86, R92, R93; 16 R388). -/

namespace Sys2Proof.Machine

open Sys2Proof.Claims

/-! The order of the VDs in a decision (03 R86). -/

/-- VD `x` has a VT before that of `y`. -/
def VtFirst (x y : Nat × Word) : Prop := vtBefore x.2 y.2 = true ∧ vtBefore y.2 x.2 = false

theorem vtBefore_self (v : Word) : vtBefore v v = false := by simp [vtBefore]

theorem mem_insertByVt {x y : Nat × Word} {l : List (Nat × Word)} : y ∈ insertByVt x l ↔ y = x ∨ y ∈ l := by
  induction l with
  | nil => simp [insertByVt]
  | cons z l ih =>
    rw [insertByVt]
    split
    · exact List.mem_cons
    · rw [List.mem_cons, ih, List.mem_cons, or_left_comm]

theorem insertByVt_of_before {x y : Nat × Word} (l : List (Nat × Word)) (h : vtBefore x.2 y.2 = true) :
    insertByVt x (y :: l) = x :: y :: l := if_pos h

theorem insertByVt_of_not_before {x y : Nat × Word} (l : List (Nat × Word)) (h : vtBefore x.2 y.2 = false) :
    insertByVt x (y :: l) = y :: insertByVt x l := if_neg (by rw [h]; exact Bool.false_ne_true)

/-- A VD whose VT is before those of all others comes to the head of the order. -/
theorem head_foldl_insertByVt {x : Nat × Word} {l : List (Nat × Word)} (hl : ∀ y ∈ l, y = x ∨ VtFirst x y) (acc : List (Nat × Word))
    (h : (∃ r, acc = x :: r) ∨ x ∈ l ∧ ∀ y ∈ acc, VtFirst x y) : ∃ r, l.foldl (fun acc y => insertByVt y acc) acc = x :: r := by
  induction l generalizing acc with
  | nil => simpa using h
  | cons y l ih =>
    refine ih (fun z hz => hl z (List.mem_cons_of_mem y hz)) _ ?_
    have hy := hl y List.mem_cons_self
    rcases h with ⟨r, rfl⟩ | ⟨hx, hacc⟩
    · have hnot : vtBefore y.2 x.2 = false := by
        rcases hy with rfl | hy
        · exact vtBefore_self _
        · exact hy.2
      exact .inl ⟨_, insertByVt_of_not_before r hnot⟩
    · rcases hy with rfl | hy
      · refine .inl ?_
        cases acc with
        | nil => exact ⟨[], rfl⟩
        | cons z r => exact ⟨_, insertByVt_of_before r (hacc z List.mem_cons_self).1⟩
      · refine .inr ⟨?_, fun z hz => ?_⟩
        · rcases List.mem_cons.mp hx with rfl | hx
          · exact absurd hy.1 (by simp [vtBefore_self])
          · exact hx
        · rcases mem_insertByVt.mp hz with rfl | hz
          · exact hy
          · exact hacc z hz

/-- A unit that fits somewhere is picked before the others. -/
theorem State.pickUnit_fits {s : State} {vd : Nat} {u : PlaceUnit} (us : List PlaceUnit)
    (h : s.fitsAnywhere vd (s.unitRecord u).1 (s.unitRecord u).2 (s.unitKey u) = true) : s.pickUnit vd (u :: us) = (some u, s) := by
  rw [State.pickUnit]
  exact if_pos h

/-- What a unit needs of the cores chosen: they are eligible, with room for the range locks of saved workgroups. -/
def State.unitFits (s : State) (vd : Nat) (u : PlaceUnit) (cores : List Nat) : Bool :=
  s.coresFit vd (s.unitRecord u).1 (s.unitRecord u).2 (s.unitKey u) cores &&
    (match u with | .images gs => s.locksFit gs cores | _ => true)

/-- The decision is for the VD that comes first, and its first unit that fits somewhere. -/
theorem exec_dispatchDecision_eq {s : State} {part vd : Nat} {u : PlaceUnit} {us : List PlaceUnit} (cores : List Nat)
    (hr : s.roleStopped 0 = false) (hp : s.power.state = 1) (hf : First s part vd) (hu : s.units vd = u :: us)
    (hfit : s.fitsAnywhere vd (s.unitRecord u).1 (s.unitRecord u).2 (s.unitKey u) = true) :
    exec (.dispatchDecision part cores) s = .next (if s.unitFits vd u cores then s.placeUnit vd u cores else s) := by
  obtain ⟨hready, hfirst⟩ := hf
  have hmem (e : Nat × Vd) : e ∈ s.vds.filter (fun e => e.2.works && e.2.backlog && s.hardPart e.1 == part) ↔ Ready s part e := by
    simp only [Ready, List.mem_filter, Bool.and_eq_true, beq_iff_eq, and_assoc]
  have hgo : ¬ (s.roleStopped 0 || s.power.state != 1) = true := by rw [hr, hp]; decide
  obtain ⟨rest, horder⟩ := head_foldl_insertByVt (x := (vd, (s.vd vd).vt))
    (l := (s.vds.filter fun e => e.2.works && e.2.backlog && s.hardPart e.1 == part).map fun e => (e.1, e.2.vt)) (fun y hy => by
      obtain ⟨e, he, rfl⟩ := List.mem_map.mp hy
      exact (hfirst e ((hmem e).mp he)).imp_left fun h => by rw [h]) []
    (.inr ⟨List.mem_map.mpr ⟨_, (hmem _).mpr hready, rfl⟩, fun y hy => absurd hy List.not_mem_nil⟩)
  have hpick : s.pickUnit vd (s.units vd) = (some u, s) := by rw [hu, State.pickUnit_fits us hfit]
  rw [exec_dispatchDecision, execDispatchDecision, if_neg hgo, horder, State.decision, hpick]
  rfl

theorem exec_dispatchDecision_idle {s : State} (part : Nat) (cores : List Nat) (h : s.roleStopped 0 = true ∨ s.power.state ≠ 1) :
    exec (.dispatchDecision part cores) s = .next s := by
  have hstop : (s.roleStopped 0 || s.power.state != 1) = true := by
    rcases h with h | h
    · rw [h, Bool.true_or]
    · rw [bne_iff_ne.mpr h, Bool.or_true]
  rw [exec_dispatchDecision, execDispatchDecision, if_pos hstop]

/-! Seats (03 R93; 04 R114, R115, R124). -/

theorem State.drawWindow_frame (s : State) (used : List Nat) (n : Nat) : ∃ f, (s.drawWindow used n).2 = { s with free := f } := by
  unfold State.drawWindow
  extract_lets starts
  split
  · exact ⟨_, rfl⟩
  · exact ⟨_, rfl⟩

/-- Steps that each seat one warp more, with some pipe and window, and draw free values. -/
theorem seats_foldl {β : Type} {p : Warp → β} (hp : ∀ w a b, p { w with pipe := a, vbase := b } = p w) {ws : List Warp}
    {f : Seat × State → Nat → Seat × State} (hf : ∀ x i, ∃ a b k d, f x i =
      (⟨x.1.warps ++ [{ listGet Warp.start ws i with pipe := a, vbase := b }], k⟩, { x.2 with free := d }))
    {s t : State} {k : List Nat} {x : Seat} {n : Nat} (hn : n ≤ ws.length) (h : (List.range n).foldl f (⟨[], k⟩, s) = (x, t)) :
    (∃ d, t = { s with free := d }) ∧ x.warps.map p = (ws.take n).map p := by
  induction n generalizing x t with
  | zero =>
    cases h
    exact ⟨⟨_, rfl⟩, rfl⟩
  | succ n ih =>
    obtain ⟨⟨d, hd⟩, hw⟩ := ih (Nat.le_of_succ_le hn) rfl
    obtain ⟨a, b, k', d', hstep⟩ := hf ((List.range n).foldl f (⟨[], k⟩, s)) n
    rw [List.range_succ, List.foldl_append, List.foldl_cons, List.foldl_nil, hstep, hd] at h
    cases h
    refine ⟨⟨d', rfl⟩, ?_⟩
    rw [List.take_succ_eq_append_getElem hn, List.map_append, List.map_append, hw, List.map_singleton, List.map_singleton, hp,
      listGet_eq_getD, List.getD_eq_getElem _ _ hn]

/-- Seating warps draws free values, and changes of the warps their pipes and windows alone. -/
theorem State.seat_effect {β : Type} (s : State) (core : Nat) (r : LaunchRec) (ws : List Warp) {p : Warp → β}
    (hp : ∀ w a b, p { w with pipe := a, vbase := b } = p w) :
    (∃ d, (s.seat core r ws).2 = { s with free := d }) ∧ (s.seat core r ws).1.warps.map p = ws.map p := by
  unfold State.seat
  extract_lets pipes used n first
  split
  next x t ht =>
  have h := seats_foldl hp (ws := ws) (fun acc i => ?_) le_rfl ht
  · rwa [List.take_length] at h
  · obtain ⟨d, hd⟩ := acc.2.drawWindow_frame (used ++ acc.1.segments) n
    exact ⟨_, _, _, d, by rw [← hd]⟩

/-! New workgroups (03 R79, R93, R94). -/

/-- A workgroup as it is placed anew (03 R79): where it is, whose it is, and its warps at ENTRY. -/
def PlacedNew (s : State) (n wgid core : Nat) (x : Group) : Prop :=
  x.vd = (s.grid n).vd ∧ x.grid = n ∧ x.wgid = wgid ∧ x.core = core ∧ x.residence = .resident ∧ x.halt = none ∧
  x.sliceStart = s.clk.toNat ∧ ∃ first, x.warps.map Warp.body =
    (List.range (s.grid n).record.warps).map fun i => (freshWarp (s.grid n).record wgid i first).body

theorem PlacedNew.of_body {s : State} {n wgid core : Nat} {x y : Group} (h : PlacedNew s n wgid core x) (e : y.body = x.body) :
    PlacedNew s n wgid core y := by
  obtain ⟨hv, hd, hw, hc, hr, hh, hs, first, hws⟩ := h
  exact ⟨(Group.vd_of_body e).trans hv, (Group.grid_of_body e).trans hd, (Group.wgid_of_body e).trans hw, (Group.core_of_body e).trans hc,
    (Group.residence_of_body e).trans hr, (Group.halt_of_body e).trans hh, (congrArg Group.sliceStart e :).trans hs, first,
    (Group.warps_of_body e).trans hws⟩

theorem PlacedNew.length {s : State} {n wgid core : Nat} {x : Group} (h : PlacedNew s n wgid core x) :
    x.warps.length = (s.grid n).record.warps := by
  obtain ⟨-, -, -, -, -, -, -, first, hws⟩ := h
  simpa using congrArg List.length hws

/-- The warps of a new workgroup start at ENTRY with the threads of the launch. -/
theorem PlacedNew.warp {s : State} {n wgid core : Nat} {x : Group} (h : PlacedNew s n wgid core x) {w : Nat}
    (hw : w < (s.grid n).record.warps) : (listGet Warp.start x.warps w).frontier =
      frontierOf [⟨0, (s.grid n).record.word 0, maskOf fun l => decide (64 * w + l < (s.grid n).record.threads)⟩] ∧
    (listGet Warp.start x.warps w).vregs = [] := by
  have hlen := h.length
  obtain ⟨-, -, -, -, -, -, -, first, hws⟩ := h
  have hb := congrArg (fun l => listGet Warp.start l w) hws
  rw [listGet_map Warp.start Warp.start Warp.body (hlen ▸ hw), listGet_map 0 Warp.start _ (by simpa using hw), listGet_eq_getD 0,
    List.getD_eq_getElem _ _ (by simpa using hw), List.getElem_range] at hb
  exact ⟨(congrArg Warp.frontier hb :), (congrArg Warp.vregs hb :)⟩

/-- Placing a new workgroup leaves memory and the grids; the workgroup has the next unused identity. -/
theorem State.placeGroup_effect (s : State) (n wgid core : Nat) : (s.placeGroup n wgid core).mem = s.mem ∧
    (s.placeGroup n wgid core).grids = s.grids ∧ PlacedNew s n wgid core ((s.placeGroup n wgid core).group s.uid) := by
  unfold State.placeGroup
  extract_lets gr r first spc stoker
  split
  next seat u hu =>
  obtain ⟨⟨d, hd⟩, hws⟩ := s.seat_effect core r ((List.range r.warps).map fun i => freshWarp r wgid i first) (p := Warp.body) fun _ _ _ => rfl
  rw [hu] at hd hws
  cases hd
  split
  next g v hv =>
  cases hv
  split
  next queues extent _ =>
  extract_lets now t
  have ha := ((((t.apart_updCore core fun c => c.clearRows first r.accRows).trans (State.apart_acquireCore _ core)).trans
    (State.apart_wakeBanks _ core seat.segments)).trans (State.apart_takeCore _ gr.vd core)).aside.trans (State.aside_evalMirrors _ core)
  refine ⟨ha.mem, ha.grids, PlacedNew.of_body ?_ (ha.group s.uid)⟩
  simp only [t, State.group_setGroup]
  exact ⟨rfl, rfl, rfl, rfl, rfl, rfl, rfl, first, by rw [hws, List.map_map]; rfl⟩

/-- The reservation of a gang is over once the gang is placed (03 R94). -/
def State.unreserve (s : State) (vd : Nat) (key : Nat × Nat) : State :=
  s.updVd vd fun v => { v with reserved := v.reserved.filter fun r => (r.grid, r.gang) != key }

theorem State.placeUnit_fresh (s : State) (vd n first c : Nat) : s.placeUnit vd (.fresh n first 1) [c] =
    (((s.unreserve vd (n, first / 1)).placeGroup n first c).updGrid n fun g => { g with placed := g.placed + 1 }).noteBacklog vd := by
  simp only [State.placeUnit, State.unreserve, State.unitKey, List.range_one, List.foldl_cons, List.foldl_nil, listGet, Nat.add_zero]

/-- A new workgroup is placed, and counted by its grid. -/
theorem State.placeUnit_fresh_effect (s : State) (vd n first c : Nat) : let t := s.placeUnit vd (.fresh n first 1) [c]
    (t.grid n).placed = (s.grid n).placed + 1 ∧ t.mem = s.mem ∧ PlacedNew s n first c (t.group s.uid) := by
  rw [State.placeUnit_fresh]
  extract_lets t
  obtain ⟨hmem, hgrids, hnew⟩ := (s.unreserve vd (n, first / 1)).placeGroup_effect n first c
  have ha : Apart _ t := State.apart_noteBacklog _ vd
  refine ⟨?_, ha.mem.trans hmem, ?_⟩
  · rw [ha.aside.grid, State.grid_updGrid, State.grid, hgrids]
    rfl
  · rw [ha.group]
    exact hnew

/-! Resumption (16 R388). -/

/-- No agent of a workgroup has a counted operation outstanding. -/
theorem State.idle_iff {s : State} {g : Nat} : (∀ a ∈ s.agentsOf g, (s.agent a).ops = []) ↔
    (∀ w ∈ (s.group g).warps, w.agent.ops = []) ∧ ∀ k ∈ (s.group g).stoker, k.agent.ops = [] := by
  have hwarps : (∀ i < (s.group g).warps.length, (s.warp g i).agent.ops = []) ↔ ∀ w ∈ (s.group g).warps, w.agent.ops = [] := by
    constructor
    · intro h w hw
      obtain ⟨i, hi, rfl⟩ := List.getElem_of_mem hw
      have := h i hi
      rwa [State.warp, listGet_eq_getD, List.getD_eq_getElem _ _ hi] at this
    · exact fun h i hi => h _ (listGet_mem _ hi)
  simp only [State.agentsOf, List.mem_append, List.mem_map, List.mem_range, or_imp, forall_and]
  refine and_congr ?_ ?_
  · rw [← hwarps]
    exact ⟨fun h i hi => h _ ⟨i, hi, rfl⟩, by rintro h _ ⟨i, hi, rfl⟩; exact h i hi⟩
  · cases hk : (s.group g).stoker with
    | none => simp
    | some k => simp [State.agent, State.stoker, hk]

theorem State.replayAgent_idle {s : State} {a : AgentId} (h : (s.agent a).ops = []) : s.replayAgent a = s := by
  rw [State.replayAgent]
  simp only [h, List.foldl_nil]

/-- A warp that holds no trap, runs no handler and has no counted operation outstanding. -/
def Warp.quiet (w : Warp) : Prop := w.held = [] ∧ w.handler = [] ∧ w.agent.ops = []

theorem forall_mem_of_map_eq {α β : Type} {p : α → β} {l m : List α} (h : l.map p = m.map p) {q : β → Prop} (hm : ∀ a ∈ m, q (p a)) :
    ∀ a ∈ l, q (p a) := List.forall_mem_map.mp (h ▸ List.forall_mem_map.mpr hm)

/-- A saved workgroup as it runs again on a core (16 R388). -/
def ResumedOn (core : Nat) (x y : Group) : Prop :=
  y.residence = .resident ∧ y.core = core ∧ y.halt = none ∧ y.vd = x.vd ∧ y.warps.map Warp.body = x.warps.map Warp.body

theorem ResumedOn.of_body {core : Nat} {x y z : Group} (h : ResumedOn core x y) (e : z.body = y.body) : ResumedOn core x z := by
  obtain ⟨hr, hc, hh, hv, hw⟩ := h
  exact ⟨(Group.residence_of_body e).trans hr, (Group.core_of_body e).trans hc, (Group.halt_of_body e).trans hh,
    (Group.vd_of_body e).trans hv, (Group.warps_of_body e).trans hw⟩

/-- A saved workgroup whose agents have nothing outstanding and that holds no trap is resumed on a core: memory stays, and the workgroup is
what it was. -/
theorem State.resumeGroup_effect {s : State} {g : Nat} (core : Nat) (hops : ∀ a ∈ s.agentsOf g, (s.agent a).ops = [])
    (hasync : (s.group g).asyncHeld = []) (hw : ∀ w ∈ (s.group g).warps, w.held = [] ∧ w.handler = []) :
    (s.resumeGroup g core).mem = s.mem ∧ ResumedOn core (s.group g) ((s.resumeGroup g core).group g) := by
  unfold State.resumeGroup
  extract_lets x r first carried ids
  split
  next seat u hu =>
  extract_lets ws now handling halt s1 s2 s3 s4 s5 s6 s7 s8
  have hseat {β : Type} {p : Warp → β} (hp : ∀ w a b, p { w with pipe := a, vbase := b } = p w) : seat.warps.map p = x.warps.map p := by
    have h := (s.seat_effect core r x.warps hp).2
    rwa [hu] at h
  obtain ⟨d, hd⟩ := (s.seat_effect core r x.warps (p := Warp.body) fun _ _ _ => rfl).1
  rw [hu] at hd
  cases hd
  obtain ⟨hops, hstoker⟩ := State.idle_iff.mp hops
  have hbody : ws.map Warp.body = x.warps.map Warp.body := by
    rw [← hseat (p := Warp.body) fun _ _ _ => rfl, List.map_map]
    rfl
  have hquiet : ∀ w ∈ ws, w.quiet := by
    have h := forall_mem_of_map_eq (hseat (p := Warp.quiet) fun _ _ _ => rfl) (q := id) fun w h => ⟨(hw w h).1, (hw w h).2, hops w h⟩
    exact List.forall_mem_map.mpr fun w hm => h w hm
  have hhandling : handling = false := List.any_eq_false.mpr fun w hm => by simp [Warp.inTrapHandler, (hquiet w hm).2.1]
  have hhalt : halt = none := if_neg (by rw [hhandling]; exact Bool.false_ne_true)
  have hdue : (Group.asyncDue { x with warps := ws } || ws.any Warp.due) = false := by
    have hany : ws.any Warp.due = false := List.any_eq_false.mpr fun w hm => by simp [Warp.due, (hquiet w hm).1]
    simp only [Group.asyncDue, x, hasync, hany, List.isEmpty_nil, Bool.not_true, Bool.false_and, Bool.or_self]
  have h3 : Apart s1 s3 := Apart.trans (t := s2) ⟨rfl, rfl, rfl, rfl⟩ 
    (.foldl (fun t (e : AgentId × List RangeLock) => t.apart_register e.1 e.2) _ s2)
  have h6 : Apart (s3.updGroup g fun x => { x with carried := [] }) s6 := by
    refine Apart.trans (t := s5) ((State.apart_updCore _ core _).trans (s4.apart_updVd x.vd _)) ?_
    exact (((s5.apart_acquireCore core).trans (State.apart_wakeBanks _ core _)).trans (State.apart_takeCore _ x.vd core)).trans
      (State.apart_syncFlues _ g)
  have hg6 : s6.group g = { s1.group g with carried := [] } := by
    rw [h6.group, State.group_updGroup, h3.group]
  have hresumed : ResumedOn core x (s6.group g) := by
    rw [hg6, State.group_setGroup]
    exact ⟨rfl, rfl, hhalt, rfl, hbody⟩
  have hidle : s7 = s6 := foldl_eq_self fun a ha => State.replayAgent_idle (State.idle_iff.mpr (by
    rw [hg6, State.group_setGroup]
    refine ⟨fun w hm => (hquiet w hm).2.2, fun k hk => ?_⟩
    obtain ⟨k', hk', rfl⟩ := Option.map_eq_some_iff.mp hk
    exact hstoker k' hk') a ha)
  have h8 : s8 = s6 := by
    simp only [s8, hdue, Bool.false_eq_true, if_false]
    exact hidle
  have ha := s8.aside_evalMirrors core
  rw [h8] at ha ⊢
  exact ⟨ha.mem.trans (h6.mem.trans h3.mem), hresumed.of_body (ha.group g)⟩
theorem State.placeUnit_image (s : State) (vd g c : Nat) (h : (s.group g).residence ≠ .kept false) : s.placeUnit vd (.images [g]) [c] =
    ((s.unreserve vd (s.unitKey (.images [g]))).resumeGroup g c).noteBacklog vd := by
  have hres : ((s.unreserve vd (s.unitKey (.images [g]))).group g).residence ≠ .kept false := h
  simp only [State.placeUnit, List.length_singleton, List.range_one, List.foldl_cons, List.foldl_nil, listGet]
  exact congrArg (fun t : State => t.noteBacklog vd) (if_neg (mt beq_iff_eq.mp hres))

/-- An image is resumed on the core chosen. -/
theorem State.placeUnit_image_effect {s : State} {g : Nat} (vd c : Nat) (h : ∃ x y, (s.group g).residence = .saved x y)
    (hops : ∀ a ∈ s.agentsOf g, (s.agent a).ops = []) (hasync : (s.group g).asyncHeld = [])
    (hw : ∀ w ∈ (s.group g).warps, w.held = [] ∧ w.handler = []) : let t := s.placeUnit vd (.images [g]) [c]
    t.mem = s.mem ∧ ResumedOn c (s.group g) (t.group g) := by
  obtain ⟨x, y, hres⟩ := h
  rw [s.placeUnit_image vd g c (by rw [hres]; exact nofun)]
  extract_lets t
  have ha : Apart _ t := State.apart_noteBacklog _ vd
  obtain ⟨hmem, hgroup⟩ := State.resumeGroup_effect (s := s.unreserve vd (s.unitKey (.images [g]))) (g := g) c hops hasync hw
  exact ⟨ha.mem.trans hmem, by rw [ha.group]; exact hgroup⟩

/-- 03 R79, R86, R92, R93; 16 R388. -/
theorem decisionsPlaceWork : DecisionsPlaceWork := by
  intro s part cores
  refine ⟨exec_dispatchDecision_idle part cores, fun vd u us hr hp hf hu => ?_⟩
  intro r k hfit
  have hrun (cores : List Nat) := exec_dispatchDecision_eq cores hr hp hf hu hfit
  refine ⟨fun hno => ?_, ?_, ?_⟩
  · have hnot : s.unitFits vd u cores = false := by
      unfold State.unitFits
      rw [hno, Bool.false_and]
    rw [hrun, hnot, if_neg Bool.false_ne_true]
  · rintro n first c rfl rfl hcores
    have hyes : s.unitFits vd (.fresh n first 1) [c] = true := (Bool.and_true _).trans hcores
    obtain ⟨hplaced, hmem, hnew⟩ := s.placeUnit_fresh_effect vd n first c
    refine ⟨_, (hrun [c]).trans (by rw [hyes, if_pos rfl]), hplaced, hmem, ?_, fun w hw => hnew.warp hw⟩
    have hlen := hnew.length
    obtain ⟨hv, hd, hwgid, hc, hres, hhalt, hslice, -⟩ := hnew
    exact ⟨hv, hd, hwgid, hc, hres, hhalt, hlen, hslice⟩
  · rintro g c rfl rfl hcores - hlocks hres hops hasync hw
    have hyes : s.unitFits vd (.images [g]) [c] = true := Bool.and_eq_true_iff.mpr ⟨hcores, hlocks⟩
    obtain ⟨hmem, hresident, hc, hhalt, hv, hwarps⟩ := State.placeUnit_image_effect vd c hres hops hasync hw
    refine ⟨_, (hrun [c]).trans (by rw [hyes, if_pos rfl]), hmem, hresident, hc, hhalt, hv, fun w _ => ?_⟩
    have hbody := map_listGet_eq Warp.start hwarps w
    exact ⟨(congrArg Warp.vregs hbody :), (congrArg Warp.frontier hbody :), (congrArg Warp.preds hbody :)⟩

end Sys2Proof.Machine

/-! PROOFS. Workgroups and grids end, windows, banks and mirrors (03 R89, R95, R96, R99; 04 R119; 07 R191; 09 R231). -/

namespace Sys2Proof.Machine

open Sys2Proof.Claims

/-! Ends (03 R96, R99; 07 R191; 09 R231). -/

theorem State.mem_charge (s : State) (g : Nat) : (s.charge g).mem = s.mem := rfl

theorem State.mem_detach (s : State) (g : Nat) (a : Attach) : (s.detach g a).mem = s.mem := by
  unfold State.detach
  cases s.partOf a.die (s.group g).vd a.grid with
  | none => rfl
  | some p => exact (State.apart_syncFlue _ p.1).mem

theorem State.mem_foldl_detach (s : State) (g : Nat) (as : List Attach) : (as.foldl (fun s a => s.detach g a) s).mem = s.mem :=
  foldl_keeps (fun t : State => t.mem = s.mem) _ (fun t a h => (t.mem_detach g a).trans h) as s rfl

/-- A workgroup that is released takes its scratchpad with it, and no other byte. -/
theorem State.mem_releaseGroup (s : State) (g : Nat) :
    (s.releaseGroup g).mem = s.mem.filter fun e => e.1 / 2 ^ 64 != (Space.scratch g).tag := by
  unfold State.releaseGroup
  extract_lets x r s1 s2 blank s3
  have h3 : s3.mem = s.mem.filter fun e => e.1 / 2 ^ 64 != (Space.scratch g).tag :=
    congrArg (List.filter _) (s1.mem_foldl_detach g x.attached)
  split
  · exact (((s3.apart_updCore _ _).trans (State.apart_leaveCore _ _ _)).aside.trans (State.aside_evalMirrors _ _)).mem.trans h3
  · exact ((s3.apart_leaveCore _ _).aside.trans (State.aside_evalMirrors _ _)).mem.trans h3
  · exact h3

/-- The workgroups of a list are released: they have ended and their scratchpads read zero; the tallies of the grids and every byte outside
these scratchpads stay. -/
theorem State.foldl_releaseGroup_effect (gs : List Nat) (s : State) : let t := gs.foldl (fun s m => s.releaseGroup m) s
    SameRun s t ∧ (∀ m, (m ∈ gs ∨ (s.group m).residence = .ended) → (t.group m).residence = .ended) ∧
    ∀ l : Loc, (∀ g w, l.space ≠ .window g w) → l.off < 2 ^ 64 →
      t.readByte l = if ∃ m ∈ gs, l.space.tag = (Space.scratch m).tag then 0 else s.readByte l := by
  induction gs generalizing s with
  | nil => exact ⟨.refl s, by simp, by simp⟩
  | cons g gs ih =>
    intro t
    obtain ⟨hrun, hgroup⟩ := s.releaseGroup_effect g
    obtain ⟨hruns, hended, hbyte⟩ := ih (s.releaseGroup g)
    refine ⟨hrun.trans hruns, fun m hm => hended m ?_, fun l hl ho => ?_⟩
    · have hres (h : m = g ∨ (s.group m).residence = .ended) : ((s.releaseGroup g).group m).residence = .ended := by
        refine (congrArg Standing.residence (hgroup m)).trans ?_
        split
        · rfl
        · next hg => exact h.resolve_left hg
      rw [List.mem_cons] at hm
      exact (or_right_comm.mp hm).elim (fun h => .inr (hres h)) .inl
    · refine (hbyte l hl ho).trans ?_
      rw [State.readByte_of_mem_filter (p := fun n => n != (Space.scratch g).tag) (s.mem_releaseGroup g) hl ho]
      by_cases hg : l.space.tag = (Space.scratch g).tag <;> simp [hg]

/-- An ended workgroup keeps its scratchpad, its extent and its queues; memory stays. -/
theorem State.keepGroup_effect (s : State) (g : Nat) : SameRun s (s.keepGroup g) ∧ (s.keepGroup g).mem = s.mem ∧
    let x := (s.keepGroup g).group g
    x.residence = .kept true ∧ x.extent = (s.group g).extent ∧ x.queues = (s.group g).queues ∧ x.warps = [] := by
  unfold State.keepGroup
  extract_lets x r s1 s2 y s3 z
  have h2 : Steady s s2 := (s.steady_charge g).trans (.foldl (fun t a => t.steady_detach g a) _ s1)
  have h3 : SameRun s s3 := h2.toSameRun.trans ⟨rfl, rfl, rfl, fun _ => rfl, fun _ => rfl⟩
  have hlast := (s3.steady_updCore x.core fun c => c.clearRows x.accFirst r.accRows).trans (State.steady_evalMirrors _ x.core)
  have ha := (s3.apart_updCore x.core fun c => c.clearRows x.accFirst r.accRows).aside.trans (State.aside_evalMirrors _ x.core)
  have hz : z.body = (s3.group g).body := ha.group g
  rw [State.group_setGroup] at hz
  exact ⟨h3.trans hlast.toSameRun, ha.mem.trans (s1.mem_foldl_detach g x.attached), Group.residence_of_body hz,
    (congrArg Group.extent hz :), (congrArg Group.queues hz :), List.map_eq_nil_iff.mp (Group.warps_of_body hz)⟩

/-- What an end leaves once the write-combining entries are sent (03 R99): the grid counts it. -/
def State.groupEnds (s : State) (g : Nat) : State := if s.gangOver g then (s.gangOf g).foldl (fun s m => s.releaseGroup m) s else s.keepGroup g

theorem exec_workgroupEnd_over {s : State} {g : Nat} (h : s.groupOver g = true) : exec (.workgroupEnd g) s = .next
    ((((s.sendVd (s.group g).core (s.group g).vd).groupEnds g).updGrid (s.group g).grid fun n =>
      { n with endedGroups := n.endedGroups + 1 }).noteBacklog (s.group g).vd) := by
  rw [exec_workgroupEnd, execWorkgroupEnd, if_pos h]
  rfl

theorem exec_workgroupEnd_not_over {s : State} {g : Nat} (h : s.groupOver g = false) : exec (.workgroupEnd g) s = .next s := by
  rw [exec_workgroupEnd, execWorkgroupEnd, h, if_neg Bool.false_ne_true]

theorem State.sameRun_groupEnds (s : State) (g : Nat) : SameRun s (s.groupEnds g) := by
  unfold State.groupEnds
  split
  · exact (State.foldl_releaseGroup_effect _ s).1
  · exact (s.keepGroup_effect g).1

theorem State.readByte_congr {s t : State} (h : t.mem = s.mem) {l : Loc} (hl : ∀ g w, l.space ≠ .window g w) : t.readByte l = s.readByte l := by
  rw [t.readByte_eq_memGet hl, s.readByte_eq_memGet hl, h]

/-- No scratchpad lies in HBM. -/
theorem State.hbm_groupEnds (s : State) (g : Nat) {o : Nat} (ho : o < 2 ^ 64) : (s.groupEnds g).readByte ⟨.hbm, o⟩ = s.readByte ⟨.hbm, o⟩ := by
  unfold State.groupEnds
  split
  · refine ((State.foldl_releaseGroup_effect (s.gangOf g) s).2.2 ⟨.hbm, o⟩ (by simp) ho).trans (if_neg ?_)
    rintro ⟨m, -, h⟩
    simp [Space.tag] at h
    omega
  · exact State.readByte_congr (s.keepGroup_effect g).2.1 (by simp)

/-- The end of a workgroup is counted; with the last of a gang all its members leave, and one before it keeps its scratchpad and queues. -/
theorem workgroupEnd_effect {s : State} {g : Nat} (h : s.groupOver g = true) : ∃ t : State, exec (.workgroupEnd g) s = .next t ∧
    (t.grid (s.group g).grid).endedGroups = (s.grid (s.group g).grid).endedGroups + 1 ∧
    (s.gangOver g = true → ∀ m ∈ s.gangOf g, (t.group m).residence = .ended ∧ ∀ o < 2 ^ 64, t.readByte ⟨.scratch m, o⟩ = 0) ∧
    (s.gangOver g = false → (t.group g).residence = .kept true ∧ (t.group g).extent = (s.group g).extent ∧
      (t.group g).queues = (s.group g).queues ∧ (t.group g).warps = [] ∧ t.mem = s.mem) ∧
    ∀ o < 2 ^ 64, t.readByte ⟨.hbm, o⟩ = s.readByte ⟨.hbm, o⟩ := by
  refine ⟨_, exec_workgroupEnd_over h, ?_⟩
  have hsent := s.aside_sendVd (s.group g).core (s.group g).vd
  generalize s.sendVd (s.group g).core (s.group g).vd = u at *
  have hlast := State.apart_noteBacklog ((u.groupEnds g).updGrid (s.group g).grid fun n => { n with endedGroups := n.endedGroups + 1 })
    (s.group g).vd
  generalize State.noteBacklog _ _ = t at *
  have hgroup (m : Nat) : t.group m = (u.groupEnds g).group m := hlast.group m
  have hmem : t.mem = (u.groupEnds g).mem := hlast.mem
  refine ⟨?_, fun hover m hm => ?_, fun hover => ?_, fun o ho => ?_⟩
  · have hcount : ((u.groupEnds g).grid (s.group g).grid).endedGroups = (u.grid (s.group g).grid).endedGroups :=
      congrArg (fun x => x.2.2.1) ((u.sameRun_groupEnds g).tally _)
    rw [hlast.aside.grid, State.grid_updGrid, ← hsent.grid, ← hcount]
  · have hend : u.groupEnds g = (u.gangOf g).foldl (fun s m => s.releaseGroup m) u := if_pos ((hsent.gangOver g).trans hover)
    obtain ⟨-, hended, hbyte⟩ := State.foldl_releaseGroup_effect (u.gangOf g) u
    have hmu : m ∈ u.gangOf g := hsent.mem_gangOf.mpr hm
    refine ⟨by rw [hgroup, hend]; exact hended m (.inl hmu), fun o ho => ?_⟩
    rw [State.readByte_congr hmem (by simp), hend, hbyte ⟨.scratch m, o⟩ (by simp) ho, if_pos ⟨m, hmu, rfl⟩]
  · have hend : u.groupEnds g = u.keepGroup g := if_neg (by rw [hsent.gangOver, hover]; exact Bool.false_ne_true)
    obtain ⟨-, hkeep, hres, hextent, hqueues, hwarps⟩ := u.keepGroup_effect g
    have hbody := hsent.group g
    rw [hgroup, hmem, hend]
    exact ⟨hres, hextent.trans (congrArg Group.extent hbody :), hqueues.trans (congrArg Group.queues hbody :), hwarps,
      hkeep.trans hsent.mem⟩
  · rw [State.readByte_congr hmem (by simp), u.hbm_groupEnds g ho, State.readByte_congr hsent.mem (by simp)]

theorem State.groupOver_iff (s : State) (g : Nat) : s.groupOver g = true ↔ ((s.group g).residence = .resident ∧ (s.group g).doomed = none ∧
    (s.group g).asyncHeld = [] ∧ (∀ w ∈ (s.group g).warps, w.frontier = [] ∧ w.groups = [] ∧ w.agent.ops = [] ∧ w.held = []) ∧
    ∀ k ∈ (s.group g).stoker, k.agent.ended = true ∧ k.agent.ops = []) := by
  have hwarp (w : Warp) : (!w.unended && w.agent.ops.isEmpty && w.held.isEmpty) = true ↔
      w.frontier = [] ∧ w.groups = [] ∧ w.agent.ops = [] ∧ w.held = [] := by
    simp [Warp.unended, and_assoc]
  unfold State.groupOver
  cases hk : (s.group g).stoker <;> simp [hk, hwarp, and_assoc]

/-- A grid that has not ended, whose record is read and whose workgroups have all been placed, or given up, and ended. -/
def Grid.finished (g : Grid) : Prop :=
  g.ended = false ∧ g.record.words ≠ [] ∧ g.endedGroups = g.placed ∧ (g.killed = true ∨ g.placed = g.record.count)

theorem Grid.finished_iff (g : Grid) : (!g.ended && !g.record.words.isEmpty && g.endedGroups == g.placed &&
    (g.killed || g.placed == g.record.count)) = true ↔ g.finished := by
  simp [Grid.finished, and_assoc]

theorem exec_gridEnd_finished {s : State} {n : Nat} (h : (s.grid n).finished) :
    exec (.gridEnd n) s = .next ((s.setGrid n { s.grid n with ended := true }).noteBacklog (s.grid n).vd) := by
  rw [exec_gridEnd, execGridEnd]
  exact if_pos ((s.grid n).finished_iff.mpr h)

theorem exec_gridEnd_unfinished {s : State} {n : Nat} (h : ¬ (s.grid n).finished) : exec (.gridEnd n) s = .next s := by
  rw [exec_gridEnd, execGridEnd]
  exact if_neg (mt (s.grid n).finished_iff.mp h)

/-- 03 R96, R99. -/
theorem workEnds : WorkEnds := by
  refine ⟨fun s g => ⟨exec_workgroupEnd_not_over, fun h => ?_⟩, State.groupOver_iff,
    fun s n => ⟨exec_gridEnd_finished, exec_gridEnd_unfinished⟩⟩
  obtain ⟨t, hrun, hcount, hlast, hkept, hhbm⟩ := workgroupEnd_effect h
  refine ⟨t, hrun, hcount, hlast, fun hover => ?_, fun _ => ⟨fun hover => ?_, fun o ho => hhbm o (by omega)⟩⟩
  · obtain ⟨hres, hextent, hqueues, hwarps, -⟩ := hkept hover
    exact ⟨hres, hextent, hqueues, hwarps⟩
  · obtain ⟨-, -, -, -, hmem⟩ := hkept hover
    exact hmem

/-! Windows, banks and mirrors (03 R89, R95; 04 R119). -/

theorem exec_damperWindowEnd_eq (s : State) (n : Nat) : let v := s.vd n
    exec (.damperWindowEnd n) s = .next (State.rerunVd (s.setVd n { v with
      hbmWindow := if v.hbmDamp = 0 then 0 else min (v.hbmWindow - 4096 * v.hbmDamp) (4096 * v.hbmDamp)
      linkWindow := if v.linkDamp = 0 then 0 else min (v.linkWindow - 4096 * v.linkDamp) (4096 * v.linkDamp) }) n) := by
  simp only [exec_damperWindowEnd, execDamperWindowEnd, State.updVd, beq_iff_eq]

/-- A bank with an allocation, or a number that no bank has, stays as it is. -/
theorem exec_bankPowerGate_used {s : State} {c b : Nat} (h : 48 ≤ b ∨ ∃ k ∈ s.usedSegments c, k / 8 = b) :
    exec (.bankPowerGate c b) s = .next s := by
  rw [exec_bankPowerGate, execBankPowerGate]
  exact if_pos (by simpa using h)

theorem bankPowerGate_effect {s : State} {c b : Nat} (h : ¬ (48 ≤ b ∨ ∃ k ∈ s.usedSegments c, k / 8 = b)) : ∃ t : State,
    exec (.bankPowerGate c b) s = .next t ∧ (t.core c).l1 = [] ∧ b ∈ (t.core c).gated ∧ (∀ d, d ≠ c → t.core d = s.core d) ∧
    t = { s with cores := t.cores } := by
  rw [exec_bankPowerGate, execBankPowerGate]
  refine ⟨_, if_neg (by simpa using h), ?_, ?_, fun d hd => Table.get_put_ne _ hd _ _, rfl⟩
  · rw [State.core_updCore]
  · rw [State.core_updCore]
    dsimp only
    split
    · next hb => exact List.contains_iff_mem.mp hb
    · exact List.mem_cons_self

theorem exec_mirrorCopyFinished_eq (s : State) (g w : Nat) : exec (.mirrorCopyFinished g w) s = .next
    (if (s.group g).residence = .resident ∧ s.mirrored g = true then s.setWarp g w { s.warp g w with mirror := true } else s) := by
  rw [exec_mirrorCopyFinished, execMirrorCopyFinished]
  refine (if_congr (Q := (s.group g).residence = .resident ∧ s.mirrored g = true) ?_ rfl rfl).trans (apply_ite _ _ _ _).symm
  rw [Bool.and_eq_true, beq_iff_eq]

/-- 03 R89, R95; 04 R119. -/
theorem windowsBanksAndMirrors : WindowsBanksAndMirrors := by
  refine ⟨exec_damperWindowEnd_eq, fun s c b => ⟨exec_bankPowerGate_used, bankPowerGate_effect⟩, fun s g w => ⟨fun hr hm => ?_, fun h => ?_⟩⟩
  · rw [exec_mirrorCopyFinished_eq, if_pos ⟨hr, hm⟩]
  · rw [exec_mirrorCopyFinished_eq, if_neg h]

end Sys2Proof.Machine

namespace Sys2Proof

open Machine Claims

/-- Settles O43: decisions, ends, and windows, banks and mirrors, each family by what its events leave. -/
theorem placementAndEnds : Obligations.PlacementAndEnds := ⟨decisionsPlaceWork, workEnds, windowsBanksAndMirrors⟩

end Sys2Proof

/-! PROOFS. Handlers are entered, slices end, contexts are saved and the swap makes room (03 R88; 04 R125-R127; 16 R374-R386). -/

namespace Sys2Proof.Machine

open Sys2Proof.Claims

/-! Handler entry (16 R376-R379). -/

/-- A workgroup when its halt has settled. -/
def Group.settled (x : Group) (h : Halt) : Group := { x with
  halt := some h
  warps := x.warps.map Warp.settleHalt
  stoker := x.stoker.map fun (k : Stoker) => { k with agent := { k.agent with wait := none } } }

theorem State.apart_foldl_dropWaits (s : State) (as : List AgentId) : Apart s (as.foldl State.dropWaits s) :=
  .foldl (fun t a => t.apart_dropWaits a) as s

theorem State.group_settleHalt (s : State) (g : Nat) (h : Halt) : (s.settleHalt g h).group g = (s.group g).settled h := by
  rw [State.settleHalt, State.group_updGroup, (s.apart_foldl_dropWaits _).group]
  rfl

theorem State.launchOf_settleHalt (s : State) (g : Nat) (h : Halt) : (s.settleHalt g h).launchOf g = s.launchOf g :=
  State.launchOf_congr (s.apart_foldl_dropWaits (s.agentsOf g)).grids (by rw [State.group_settleHalt]; rfl)

theorem State.warp_settleHalt (s : State) {g i : Nat} (h : Halt) (hi : i < (s.group g).warps.length) :
    (s.settleHalt g h).warp g i = (s.warp g i).settleHalt := by
  rw [State.warp, State.group_settleHalt]
  exact listGet_map Warp.start Warp.start Warp.settleHalt hi

/-- The warps of a workgroup once its slice handlers are entered (16 R382). -/
theorem State.warps_enterSlice (s : State) (g : Nat) : ((s.enterSlice g).group g).warps = (s.group g).warps.map fun w =>
    if w.unended then w.enterHandler (s.uid + 1) (s.launchOf g).shpc (sliceRecord w (s.launchOf g).budget) else w := by
  unfold State.enterSlice
  extract_lets r s1 enter s2
  have h2 : (s2.group g).warps = (s.group g).warps.map enter := by rw [State.group_updGroup]; rfl
  split
  · exact h2
  · rw [State.group_updGroup]
    exact h2

theorem exec_handlerEntry_slice {s : State} {g : Nat} {r : List Nat} (hr : (s.group g).residence = .resident)
    (hd : (s.group g).doomed = none) (hh : (s.group g).halt = some (.slice false r)) :
    exec (.handlerEntry g) s = .next ((s.settleHalt g (.slice true r)).enterSlice g) := by
  simp only [exec_handlerEntry, execHandlerEntry, hr, hd, hh, bne_self_eq_false, Option.isSome_none, Bool.or_self, Bool.false_eq_true, if_false]

/-- At a slice end every warp that has not ended shows the record of the slice end, at the PC of its head. -/
theorem handlerEntry_slice_effect {s : State} {g : Nat} {r : List Nat} (hr : (s.group g).residence = .resident)
    (hd : (s.group g).doomed = none) (hh : (s.group g).halt = some (.slice false r)) : Does (.handlerEntry g) s fun t =>
      ∀ w < (s.group g).warps.length, (s.warp g w).unended = true →
        (t.warp g w).trapPc = (s.warp g w).head.pc ∧ (t.warp g w).trapCause = causeWord .sliceEnd none 0 none := by
  refine ⟨_, exec_handlerEntry_slice hr hd hh, fun w hw hu => ?_⟩
  have hlen : w < ((s.settleHalt g (.slice true r)).group g).warps.length := by
    rw [State.group_settleHalt, Group.settled, List.length_map]
    exact hw
  have hu' : (s.warp g w).settleHalt.unended = true := hu
  rw [State.warp, State.warps_enterSlice, listGet_map Warp.start Warp.start _ hlen, ← State.warp, s.warp_settleHalt _ hw, if_pos hu']
  exact ⟨rfl, rfl⟩

theorem mem_frontierOf_singleton {e x : Entry} (h : e ∈ frontierOf [x]) : e = x := by
  rw [frontierOf, List.foldl_cons, List.foldl_nil] at h
  split at h
  · cases h
  · exact List.mem_singleton.mp h

/-- A warp that holds a trap and has not ended enters its handler for the first one. -/
theorem State.warp_enterTrap {s : State} {g i : Nat} {t : TrapRec} {ts : List TrapRec} (hi : i < (s.group g).warps.length)
    (hheld : (s.warp g i).held = t :: ts) (hu : (s.warp g i).unended = true) : (s.enterTrap g i).warp g i =
      Warp.enterHandler { s.warp g i with held := ts, skidReg := 0 } (s.uid + 1) (s.launchOf g).thpc ((s.warp g i).entryRecord t) := by
  unfold State.enterTrap
  extract_lets w
  split
  · next h => exact absurd (h.symm.trans hheld) (by simp)
  · next h =>
    obtain ⟨rfl, rfl⟩ := List.cons.inj (h.symm.trans hheld)
    extract_lets s1 s2
    have hlaunch : s1.launchOf g = s.launchOf g := State.launchOf_congr rfl (by rw [State.group_updGroup]; rfl)
    rw [if_pos hu, State.warp_setWarp _ _ _ _ (by rw [State.group_updGroup]; exact hi), ← hlaunch]
    rfl

theorem exec_handlerEntry_trap {s : State} {g i : Nat} {t : TrapRec} {ts : List TrapRec} (hr : (s.group g).residence = .resident)
    (hd : (s.group g).doomed = none) (hh : (s.group g).halt = some (.trap false)) (hi : i < (s.group g).warps.length)
    (hbefore : ∀ j < i, (s.warp g j).held = []) (hheld : (s.warp g i).held = t :: ts) (hs : (s.warp g i).inSliceHandler = false)
    (ha : (s.warp g i).agent.awaits t = false) : exec (.handlerEntry g) s = .next ((s.settleHalt g (.trap true)).enterTrap g i) := by
  have hwarp {j : Nat} (hj : j < (s.group g).warps.length) := s.warp_settleHalt (.trap true) hj
  have hheld' : ((s.settleHalt g (.trap true)).warp g i).held = t :: ts := by rw [hwarp hi]; exact hheld
  have hfind : (List.range ((s.settleHalt g (.trap true)).group g).warps.length).find?
      (fun j => ((s.settleHalt g (.trap true)).warp g j).due) = some i := by
    rw [State.group_settleHalt, Group.settled, List.length_map, List.find?_range_eq_some]
    refine ⟨?_, List.mem_range.mpr hi, fun j hj => ?_⟩
    · rw [Warp.due, hheld', hwarp hi]
      exact congrArg (!·) hs
    · have hnone : ((s.settleHalt g (.trap true)).warp g j).held = [] := by
        rw [hwarp (Nat.lt_trans hj hi)]
        exact hbefore j hj
      rw [Warp.due, hnone]
      rfl
  have hawaits : ((s.settleHalt g (.trap true)).agent (.warp g i)).awaits t = false := by
    rw [State.agent, hwarp hi]
    exact ha
  simp only [exec_handlerEntry, execHandlerEntry, hr, hd, hh, bne_self_eq_false, Option.isSome_none, Bool.or_self, Bool.false_eq_true,
    if_false, hfind, hheld', hawaits]

/-- The first warp that holds a trap enters its handler: its threads stand at THPC. -/
theorem handlerEntry_trap_effect {s : State} {g i : Nat} {t : TrapRec} {ts : List TrapRec} (hr : (s.group g).residence = .resident)
    (hd : (s.group g).doomed = none) (hh : (s.group g).halt = some (.trap false)) (hi : i < (s.group g).warps.length)
    (hbefore : ∀ j < i, (s.warp g j).held = []) (hheld : (s.warp g i).held = t :: ts) (hs : (s.warp g i).inSliceHandler = false)
    (hu : (s.warp g i).unended = true) (ha : (s.warp g i).agent.awaits t = false) : Does (.handlerEntry g) s fun u =>
      (u.warp g i).held = ts ∧ (u.warp g i).handler.length = (s.warp g i).handler.length + 1 ∧
      ∀ e ∈ (u.warp g i).frontier, e.pc = (s.launchOf g).thpc := by
  refine ⟨_, exec_handlerEntry_trap hr hd hh hi hbefore hheld hs ha, ?_⟩
  have hwarp := s.warp_settleHalt (.trap true) hi
  have hlen : i < ((s.settleHalt g (.trap true)).group g).warps.length := by
    rw [State.group_settleHalt, Group.settled, List.length_map]
    exact hi
  beta_reduce
  rw [State.warp_enterTrap hlen (by rw [hwarp]; exact hheld) (by rw [hwarp]; exact hu), State.launchOf_settleHalt, hwarp]
  exact ⟨rfl, rfl, fun e he => congrArg Entry.pc (mem_frontierOf_singleton he)⟩

/-! Asynchronous traps (16 R375, R377). -/

/-- An asynchronous trap halts a workgroup that runs and has a warp and a handler to take it. -/
theorem exec_asyncTrap_halts {s : State} {g : Nat} {r : TrapRec} {ts : List TrapRec} (hheld : (s.group g).asyncHeld = r :: ts)
    (hr : (s.group g).residence = .resident) (hd : (s.group g).doomed = none) (hpc : (s.launchOf g).thpc ≠ 0)
    (hrun : ∀ w ∈ (s.group g).warps, w.handler = []) (hu : ∃ w ∈ (s.group g).warps, w.unended = true) (hh : (s.group g).halt = none) :
    exec (.asyncTrap g) s = .next (s.haltBroadcast g) := by
  obtain ⟨w, hw, hwu⟩ := hu
  obtain ⟨n, hn, rfl⟩ := List.getElem_of_mem hw
  have hwarp : (s.warp g n).unended = true := by rwa [State.warp, listGet_eq_getD, List.getD_eq_getElem _ _ hn]
  obtain ⟨i, hi⟩ := Option.isSome_iff_exists.mp (List.find?_isSome (p := fun i => (s.warp g i).unended).mpr
    ⟨n, List.mem_range.mpr hn, hwarp⟩)
  have hidle : ((s.group g).warps.any fun w => !w.handler.isEmpty) = false := List.any_eq_false.mpr fun w hw => by simp [hrun w hw]
  simp only [exec_asyncTrap, execAsyncTrap, hheld, hr, hd, hi, hh, hidle, beq_eq_false_iff_ne.mpr hpc, bne_self_eq_false,
    Option.isSome_none, Bool.or_self, Bool.false_eq_true, if_false]

end Sys2Proof.Machine

/-! PROOFS. Slices end at their budget, contexts are saved, and the swap makes room (03 R88; 04 R125-R127; 16 R380-R386). -/

namespace Sys2Proof.Machine

open Sys2Proof.Claims

/-! A forced slice end (16 R382). -/

theorem exec_sliceBudgetExpire_slice {s : State} {g : Nat} {b : Bool} {r : List Nat} (h : (s.group g).halt = some (.slice b r)) :
    exec (.sliceBudgetExpire g) s = .next (s.setGroup g { s.group g with
      halt := some (.saving false false)
      sliceDue := false
      warps := (s.group g).warps.map fun w => if b then { w with skidReg := 0 } else w.settleHalt }) := by
  simp only [exec_sliceBudgetExpire, execSliceBudgetExpire, h]
  rfl

/-! A save (16 R384, R386). -/

/-- The cores and the workgroups of two states are the same. -/
def SameSeats (s t : State) : Prop := t.cores = s.cores ∧ ∀ k, t.group k = s.group k

/-- Writing back an agent that a workgroup has, as it is, leaves every workgroup. -/
theorem State.group_setAgent_agent {s : State} {g : Nat} {a : AgentId} (ha : a ∈ s.agentsOf g) (k : Nat) :
    (s.setAgent a (s.agent a)).group k = s.group k := by
  have hput {x : Group} (hx : x = s.group g) : (s.setGroup g x).group k = s.group k := by
    rcases eq_or_ne k g with rfl | hk
    · rw [State.group_setGroup, hx]
    · exact s.group_setGroup_ne x hk
  rcases List.mem_append.mp ha with h | h
  · obtain ⟨i, -, rfl⟩ := List.mem_map.mp h
    refine hput (x := { s.group g with warps := listSet (s.group g).warps i (s.warp g i) }) ?_
    rw [State.warp, listSet_listGet]
  · split at h
    · next hs =>
      obtain rfl := List.mem_singleton.mp h
      obtain ⟨y, hy⟩ := Option.isSome_iff_exists.mp hs
      refine hput (x := { s.group g with stoker := some (s.stoker g) }) ?_
      rw [State.stoker, hy, Option.getD_some, ← hy]
    · cases h

/-- Cancelling the loads of an agent that has no operation outstanding leaves the cores and the workgroups. -/
theorem State.sameSeats_cancelLoads {s : State} {g : Nat} {a : AgentId} (ha : a ∈ s.agentsOf g) (hops : (s.agent a).ops = []) :
    SameSeats s (s.cancelLoads a) := by
  unfold State.cancelLoads
  extract_lets lanes t
  have ht : t = s.setAgent a (s.agent a) := by
    rw [show t = s.updAgent a _ from rfl, State.updAgent, hops, List.map_nil, ← hops]
  have hseats : SameSeats s t := by
    rw [ht]
    refine ⟨?_, State.group_setAgent_agent ha⟩
    cases a <;> rfl
  exact hseats

theorem State.agentsOf_congr {s t : State} {g : Nat} (h : t.group g = s.group g) : t.agentsOf g = s.agentsOf g := by
  rw [State.agentsOf, State.agentsOf, h]

/-- That a workgroup has no operation outstanding is a matter of its record alone. -/
theorem State.idle_congr {s t : State} {g : Nat} (h : t.group g = s.group g) (hops : ∀ a ∈ s.agentsOf g, (s.agent a).ops = []) :
    ∀ a ∈ t.agentsOf g, (t.agent a).ops = [] := by
  rw [State.idle_iff, h]
  exact State.idle_iff.mp hops

theorem State.sameSeats_foldl_cancelLoads {s : State} {g : Nat} (hops : ∀ a ∈ s.agentsOf g, (s.agent a).ops = []) :
    SameSeats s ((s.agentsOf g).foldl State.cancelLoads s) := by
  refine List.foldlRecOn (motive := SameSeats s) _ _ ⟨rfl, fun _ => rfl⟩ fun t ⟨hcores, hgroups⟩ a ha => ?_
  have ha' : a ∈ t.agentsOf g := by rwa [State.agentsOf_congr (hgroups g)]
  obtain ⟨hc, hg⟩ := State.sameSeats_cancelLoads ha' (State.idle_congr (hgroups g) hops a ha')
  exact ⟨hc.trans hcores, fun k => (hg k).trans (hgroups k)⟩

theorem State.matrixAtRest_of_none {s : State} {g : Nat} (h : ∀ m ∈ (s.core (s.group g).core).matrix, m.g ≠ g) : s.matrixAtRest g = true := by
  have hnone : ((s.core (s.group g).core).matrix.filter fun (m : MatOp) => m.g == g) = [] :=
    List.filter_eq_nil_iff.mpr fun m hm => by simpa using h m hm
  unfold State.matrixAtRest
  simp only [hnone, List.all_nil, Bool.true_or, Bool.and_self]

/-- The pages of the other workgroups of the gang are given back; the workgroup that was saved keeps its residence and its halt. -/
theorem State.body_saveKept {s : State} {g : Nat} (h : (s.group g).residence ≠ .kept true) :
    ((s.saveKept g).group g).body = (s.group g).body := by
  unfold State.saveKept
  extract_lets gs
  split
  · rfl
  · refine List.foldlRecOn (motive := fun t : State => (t.group g).body = (s.group g).body) _ _ rfl fun t ht m hm => ?_
    have hne : g ≠ m := by
      rintro rfl
      exact h (by simpa using (List.mem_filter.mp hm).2)
    rw [((State.apart_leaveCore _ _ _).aside.trans (State.aside_evalMirrors _ _)).group, State.group_updGroup_ne _ _ hne]
    exact ht

theorem State.saveGroup_effect (s : State) (g : Nat) (coop swap : Bool) :
    ((s.saveGroup g coop swap).group g).residence = .saved coop swap ∧ ((s.saveGroup g coop swap).group g).halt = none := by
  unfold State.saveGroup
  extract_lets s1 x image s2 ids s3 tag s4 s5 up s6
  have hset : s5.group g = image := State.group_setGroup _ g image
  have h6 : Aside s5 ((((s6.leaveCore x.vd x.core).evalMirrors x.core).syncFlues g)) :=
    (s5.apart_updVd x.vd _).aside.trans <| (s6.apart_leaveCore x.vd x.core).aside.trans <| (State.aside_evalMirrors _ x.core).trans
      (State.apart_syncFlues _ g).aside
  have hb := (h6.group g).trans (congrArg Group.body hset)
  have hk := (State.body_saveKept (g := g) (by rw [Group.residence_of_body hb]; simp [image, State.imageOf])).trans hb
  rw [(State.apart_noteBacklog _ x.vd).group]
  exact ⟨Group.residence_of_body hk, Group.halt_of_body hk⟩

/-- A workgroup at rest whose image fits is saved. -/
theorem contextSave_effect {s : State} {g : Nat} {coop swap : Bool} (hr : (s.group g).residence = .resident) (hd : (s.group g).doomed = none)
    (hh : (s.group g).halt = some (.saving coop swap)) (hwc : (s.core (s.group g).core).wc = []) (hops : ∀ a ∈ s.agentsOf g, (s.agent a).ops = [])
    (hmat : ∀ m ∈ (s.core (s.group g).core).matrix, m.g ≠ g) (hfit : s.imagesFit g coop swap = true) :
    Does (.contextSave g) s fun t => (t.group g).residence = .saved coop swap ∧ (t.group g).halt = none := by
  have hexec : exec (.contextSave g) s = .next (s.trySave g coop swap) := by
    simp only [exec_contextSave, execContextSave, hh, hr, hd, beq_self_eq_true, Option.isNone_none, Bool.and_self, if_true]
  refine ⟨_, hexec, ?_⟩
  unfold State.trySave
  rw [hfit, Bool.not_true, if_neg Bool.false_ne_true]
  extract_lets x s1 agents t rest
  have hsent : s1 = s := State.sendEntries_empty _ hwc
  obtain ⟨hcores, hgroups⟩ : SameSeats s t := by
    unfold t agents
    rw [hsent]
    split
    · exact State.sameSeats_foldl_cancelLoads hops
    · exact ⟨rfl, fun _ => rfl⟩
  have hrest : rest = true := List.all_eq_true.mpr fun a ha => by
    rw [State.idle_congr (hgroups g) hops a (by rwa [State.agentsOf_congr (hgroups g), ← hsent])]
    rfl
  have hmatrix : t.matrixAtRest g = true := State.matrixAtRest_of_none (by rwa [hgroups g, State.core, hcores])
  rw [hrest, hmatrix, Bool.and_self, if_pos rfl]
  exact t.saveGroup_effect g coop swap

/-! The forward-progress swap (04 R127). -/

/-- Choosing over a list with elements, all with a property, gives one that has it. -/
theorem foldl_choice {α : Type} {P : α → Prop} {f : Option α → α → Option α} (hf : ∀ b y, P y → (∀ z ∈ b, P z) → ∃ z, P z ∧ f b y = some z)
    {l : List α} (hl : ∀ y ∈ l, P y) (hne : l ≠ []) : ∃ z, P z ∧ l.foldl f none = some z := by
  cases l with
  | nil => exact absurd rfl hne
  | cons y ys =>
    rw [List.foldl_cons]
    refine List.foldlRecOn (motive := fun b => ∃ z, P z ∧ b = some z) _ _ (hf none y (hl y List.mem_cons_self) (by simp)) ?_
    rintro b ⟨z, hz, rfl⟩ x hx
    exact hf _ x (hl x (List.mem_cons_of_mem _ hx)) (by simpa using hz)

/-- The only workgroup on a core, alone in its gang and all of it blocked, makes room. -/
theorem exec_forwardProgressSwap_only {s : State} {g : Nat} (hsw : s.pf.fpSwap = true) (hp : s.power.state = 1)
    (hg : (g, s.group g) ∈ s.groups) (hr : (s.group g).residence = .resident) (hb : (s.vd (s.group g).vd).backlog = true)
    (hable : s.swappableOne g = true) (hgang : s.gangOf g = [g]) (honly : ∀ e ∈ s.groups, e.2.core = (s.group g).core → e.1 = g) :
    exec (.forwardProgressSwap (s.group g).core) s = .next (s.setGroup g { s.group g with halt := some (.saving false true) }) := by
  have hrun : (s.gangOf g).filter (fun m => (s.group m).residence == .resident) = [g] := by simp [hgang, hr]
  rw [exec_forwardProgressSwap]
  unfold execForwardProgressSwap
  rw [hsw, hp, if_neg (by decide)]
  extract_lets running able best
  have hmem : (g, s.group g) ∈ able := by
    refine List.mem_filter.mpr ⟨List.mem_filter.mpr ⟨hg, ?_⟩, ?_⟩
    · simp [hr]
    · rw [show running g = [g] from hrun, List.all_cons, List.all_nil, hb, hable]
      rfl
  have hkey : ∀ y ∈ able, y.1 = g := fun y hy => by
    obtain ⟨hy, hc⟩ := List.mem_filter.mp (List.mem_filter.mp hy).1
    exact honly y hy (by simpa using (Bool.and_eq_true_iff.mp hc).1)
  obtain ⟨z, hz, hbest⟩ : ∃ z : Nat × Group, z.1 = g ∧ best = some z := by
    refine foldl_choice (P := fun y => y.1 = g) (fun b y hy hz => ?_) hkey (List.ne_nil_of_mem hmem)
    cases b with
    | none => exact ⟨y, hy, rfl⟩
    | some x =>
      dsimp only
      split
      · exact ⟨y, hy, rfl⟩
      · exact ⟨x, hz x rfl, rfl⟩
  rw [hbest]
  dsimp only
  rw [hz, show running g = [g] from hrun]
  rfl

/-! The end of a slice that nobody else waits for (03 R88; 16 R380). -/

/-- A workgroup is charged and its slice starts over. -/
def State.restartSlice (s : State) (g : Nat) : State := (s.charge g).updGroup g fun x => { x with sliceStart := s.clk.toNat }

theorem State.group_restartSlice (s : State) (g k : Nat) : ((s.restartSlice g).group k).halt = (s.group k).halt ∧
    ((s.restartSlice g).group k).sliceStart = if k = g then s.clk.toNat else (s.group k).sliceStart := by
  rcases eq_or_ne k g with rfl | h
  · rw [State.restartSlice, State.group_updGroup, State.group_charge, if_pos rfl]
    exact ⟨rfl, rfl⟩
  · rw [State.restartSlice, State.group_updGroup_ne _ _ h, State.group_charge_ne _ h, if_neg h]
    exact ⟨rfl, rfl⟩

theorem State.foldl_restartSlice (l : List Nat) (s : State) (k : Nat) : ((l.foldl State.restartSlice s).group k).halt = (s.group k).halt ∧
    ((l.foldl State.restartSlice s).group k).sliceStart = if k ∈ l then s.clk.toNat else (s.group k).sliceStart := by
  induction l generalizing s with
  | nil => exact ⟨rfl, rfl⟩
  | cons g l ih =>
    obtain ⟨hhalt, hstart⟩ := ih (s.restartSlice g)
    obtain ⟨hh, hs⟩ := s.group_restartSlice g k
    refine ⟨hhalt.trans hh, hstart.trans ?_⟩
    rw [hs, show (s.restartSlice g).clk = s.clk from rfl]
    by_cases hk : k = g <;> simp [hk]

theorem sliceEnd_effect {s : State} {vd core : Nat} (h : ∀ e ∈ s.vds, e.1 ≠ vd → e.2.backlog = false) : Does (.sliceEnd vd core) s fun t =>
    ∀ g, (g, s.group g) ∈ s.groups → (s.group g).core = core → (s.group g).vd = vd → (s.group g).residence = .resident →
      (s.group g).doomed = none → (t.group g).sliceStart = s.clk.toNat ∧ (t.group g).halt = (s.group g).halt := by
  have hexec : exec (.sliceEnd vd core) s = .next ((((s.residents core).filter fun e => e.2.vd == vd && e.2.doomed.isNone).map
      Prod.fst).foldl State.restartSlice s) := by
    rw [exec_sliceEnd, List.foldl_map]
    unfold execSliceEnd
    extract_lets mine vt needed
    have hneeded : needed = false := List.any_eq_false.mpr fun e he => by
      rcases eq_or_ne e.1 vd with hv | hv
      · simp [hv]
      · simp [h e he hv]
    rw [hneeded]
    rfl
  refine ⟨_, hexec, fun g hg hc hv hr hd => ?_⟩
  obtain ⟨hhalt, hstart⟩ := State.foldl_restartSlice
    (((s.residents core).filter fun e => e.2.vd == vd && e.2.doomed.isNone).map Prod.fst) s g
  have hmem : g ∈ ((s.residents core).filter fun e => e.2.vd == vd && e.2.doomed.isNone).map Prod.fst :=
    List.mem_map.mpr ⟨(g, s.group g), List.mem_filter.mpr ⟨List.mem_filter.mpr ⟨hg, by simp [hc, hr]⟩, by simp [hv, hd]⟩, rfl⟩
  exact ⟨hstart.trans (if_pos hmem), hhalt⟩

/-! Every event of placement, ends, halts, slices, handlers and saves. -/

/-- A new workgroup goes to the core chosen. -/
theorem dispatchDecision_fresh_effect {s : State} {part vd n first c : Nat} {us : List PlaceUnit} (hr : s.roleStopped 0 = false)
    (hp : s.power.state = 1) (hf : First s part vd) (hu : s.units vd = .fresh n first 1 :: us)
    (hfit : s.fitsAnywhere vd (s.unitRecord (.fresh n first 1)).1 (s.unitRecord (.fresh n first 1)).2 (s.unitKey (.fresh n first 1)) = true)
    (hcore : s.coresFit vd (s.unitRecord (.fresh n first 1)).1 1 (s.unitKey (.fresh n first 1)) [c] = true) :
    Does (.dispatchDecision part [c]) s fun t => (t.grid n).placed = (s.grid n).placed + 1 ∧ (t.group s.uid).grid = n ∧
      (t.group s.uid).core = c ∧ (t.group s.uid).residence = .resident ∧ (t.group s.uid).warps.length = (s.grid n).record.warps := by
  have hyes : s.unitFits vd (.fresh n first 1) [c] = true := (Bool.and_true _).trans hcore
  obtain ⟨hplaced, -, hnew⟩ := s.placeUnit_fresh_effect vd n first c
  have hlen := hnew.length
  obtain ⟨-, hd, -, hc, hres, -⟩ := hnew
  exact ⟨_, (exec_dispatchDecision_eq [c] hr hp hf hu hfit).trans (by rw [hyes, if_pos rfl]), hplaced, hd, hc, hres, hlen⟩

end Sys2Proof.Machine

namespace Sys2Proof

open Machine Claims

/-- Settles O3: each event does what the lemma about it says. -/
theorem coreEventsComplete : Obligations.CoreEventsComplete := by
  refine ⟨?dispatch, fun s g => ⟨?ended, ?mirror, ?sliceEntry, ?trapEntry, ?async, ?forced, ?save, ?swap⟩,
    ?gridEnd, exec_damperWindowEnd_eq, ?bank, fun s vd core => sliceEnd_effect⟩
  case dispatch =>
    intro s part vd n first c us hr hp hmem hw hb hpart hfirst hu u hfit hcore _
    exact dispatchDecision_fresh_effect hr hp ⟨⟨hmem, hw, hb, hpart⟩, fun e ⟨he, hew, heb, hep⟩ => hfirst e he hew heb hep⟩ hu hfit hcore
  case ended =>
    intro h
    obtain ⟨t, hrun, hcount, hlast, -⟩ := workgroupEnd_effect h
    exact ⟨t, hrun, hcount, fun hover m hm => (hlast hover m hm).1⟩
  case mirror => exact fun w hr hm => (exec_mirrorCopyFinished_eq s g w).trans (by rw [if_pos ⟨hr, hm⟩])
  case sliceEntry => exact fun r => handlerEntry_slice_effect
  case trapEntry => exact fun i t ts => handlerEntry_trap_effect
  case async => exact fun r ts => exec_asyncTrap_halts
  case forced => exact fun b r => exec_sliceBudgetExpire_slice
  case save => exact fun coop swap => contextSave_effect
  case swap => exact exec_forwardProgressSwap_only
  case gridEnd => exact fun s n hended hwords hcount hplaced => exec_gridEnd_finished ⟨hended, hwords, hcount, hplaced⟩
  case bank =>
    intro s c b hb hunused
    obtain ⟨t, hrun, hl1, hgated, -⟩ := bankPowerGate_effect (s := s) (c := c) (b := b) (by
      rintro (h | ⟨k, hk, rfl⟩)
      · omega
      · exact hunused k hk rfl)
    exact ⟨t, hrun, hl1, hgated⟩

end Sys2Proof

/-! PROOFS. Loads write their registers, stores their bytes (04 R120, R121; 09 R238; 12 R300; 13 R319, R320). -/

namespace Sys2Proof.Machine

open Sys2Proof.Claims

/-! Agents and their places. -/

/-- An agent that lives has its place. -/
theorem State.has_of_live {s : State} {a : AgentId} (h : s.live a = true) : s.has a := by
  cases a with
  | warp g w =>
    obtain ⟨hw, -⟩ := Bool.and_eq_true_iff.mp h
    exact (decide_eq_true_iff (p := w < (s.group g).warps.length)).mp hw
  | stoker g => trivial
  | ctl c => trivial

/-- No agent loses its place where workgroups stand as they stood. -/
theorem Steady.has {s t : State} (h : Steady s t) {a : AgentId} (ha : s.has a) : t.has a := by
  cases a with
  | warp g w =>
    have hlen : (t.group g).warps.length = (s.group g).warps.length := congrArg Standing.warps (h.group g)
    exact Nat.lt_of_lt_of_eq ha hlen.symm
  | stoker g => trivial
  | ctl c => trivial

theorem Agent.sreg_congr {x y : Agent} (h : x.sregs = y.sregs) (r : Reg) : x.sreg r = y.sreg r := by
  rw [Agent.sreg, Agent.sreg, h]

/-- The agents are the same where the warps and stoker threads of the workgroups, and the control cores, are. -/
theorem State.agent_congr {s t : State} (hw : ∀ g, (t.group g).warps = (s.group g).warps)
    (hk : ∀ g, (t.group g).stoker = (s.group g).stoker) (hc : t.ctl = s.ctl) (a : AgentId) : t.agent a = s.agent a := by
  cases a with
  | warp g w => exact congrArg (fun l => (listGet Warp.start l w).agent) (hw g)
  | stoker g => exact congrArg (fun k : Option Stoker => (k.getD ⟨Agent.start, 0, []⟩).agent) (hk g)
  | ctl c => exact congrArg (fun t => (Table.get (CtlCore.start c) t c).agent) hc

theorem State.agent_updGroup (s : State) {g : Nat} {f : Group → Group} (hw : (f (s.group g)).warps = (s.group g).warps)
    (hk : (f (s.group g)).stoker = (s.group g).stoker) (a : AgentId) : (s.updGroup g f).agent a = s.agent a := by
  have kept (k : Nat) : ((s.updGroup g f).group k).warps = (s.group k).warps ∧ ((s.updGroup g f).group k).stoker = (s.group k).stoker := by
    by_cases h : k = g
    · rw [h, State.group_updGroup]
      exact ⟨hw, hk⟩
    · rw [s.group_updGroup_ne f h]
      exact ⟨rfl, rfl⟩
  exact State.agent_congr (fun k => (kept k).1) (fun k => (kept k).2) rfl a

/-- A position that a list does not have cannot be replaced. -/
theorem listSet_of_length_le {α : Type} {l : List α} {n : Nat} (v : α) (h : l.length ≤ n) : listSet l n v = l := by
  induction l generalizing n with
  | nil => rfl
  | cons a l ih =>
    cases n with
    | zero => simp at h
    | succ n => exact congrArg (a :: ·) (ih (by simpa using h))

/-- An update of a warp that leaves its agent leaves every agent. -/
theorem State.agent_updWarp_of_agent (s : State) {g w : Nat} {f : Warp → Warp} (hf : (f (s.warp g w)).agent = (s.warp g w).agent)
    (a : AgentId) : (s.updWarp g w f).agent a = s.agent a := by
  have other {k : Nat} (h : k ≠ g) : (s.updWarp g w f).group k = s.group k := s.group_updGroup_ne _ h
  have same : (s.updWarp g w f).group g = { s.group g with warps := listSet (s.group g).warps w (f (s.warp g w)) } :=
    s.group_updGroup g _
  cases a with
  | warp k i =>
    by_cases hk : k = g
    · subst hk
      by_cases hi : i = w
      · subst hi
        rcases Nat.lt_or_ge i (s.group k).warps.length with hlt | hge
        · exact (congrArg Warp.agent (s.warp_updWarp k i f hlt)).trans hf
        · rw [State.agent, State.warp, same, listSet_of_length_le _ hge]
          rfl
      · exact congrArg Warp.agent (s.warp_setWarp_ne k _ hi)
    · rw [State.agent, State.warp, other hk]
      rfl
  | stoker k =>
    by_cases hk : k = g
    · rw [State.agent, State.stoker, hk, same]
      rfl
    · rw [State.agent, State.stoker, other hk]
      rfl
  | ctl c => rfl

/-! Writes to memory leave every agent. -/

@[simp] theorem State.agent_writeByte (s : State) (l : Loc) (b : Byte) (a : AgentId) : (s.writeByte l b).agent a = s.agent a := by
  unfold State.writeByte
  split
  · exact s.agent_updWarp_of_agent rfl a
  · exact State.agent_congr (fun _ => rfl) (fun _ => rfl) rfl a

@[simp] theorem State.agent_markDirty (s : State) (l : Loc) (a : AgentId) : (s.markDirty l).agent a = s.agent a := by
  unfold State.markDirty
  split
  · extract_lets n
    split
    · rfl
    · exact s.agent_updGroup rfl rfl a
  · rfl

@[simp] theorem State.agent_setPoison (s : State) (l : Loc) (p : Option Prov) (a : AgentId) : (s.setPoison l p).agent a = s.agent a := by
  unfold State.setPoison
  split
  · exact s.agent_updWarp_of_agent rfl a
  · exact State.agent_congr (fun _ => rfl) (fun _ => rfl) rfl a

@[simp] theorem State.agent_performWrites (s : State) (ws : List ByteWrite) (a : AgentId) :
    (s.performWrites ws).agent a = s.agent a := by
  let P (t : State) : Prop := t.agent a = s.agent a
  unfold State.performWrites
  refine foldl_keeps P _ (fun t l ht => ?_) _ _ (foldl_keeps P _ (fun t w ht => ?_) ws s rfl)
  · dsimp only
    split
    · exact ht
    · exact (t.agent_setPoison l _ a).trans ht
  · exact ((State.agent_markDirty _ _ a).trans (t.agent_writeByte _ _ a)).trans ht

/-- Registering words changes cores and owners alone. -/
theorem State.ownWords_frame (s : State) (a : AgentId) (ws : List ByteWrite) :
    ∃ c o, s.ownWords a ws = { s with cores := c, owners := o } := by
  unfold State.ownWords
  split <;> exact ⟨_, _, rfl⟩

@[simp] theorem State.agent_performBy (s : State) (b : AgentId) (ws : List ByteWrite) (a : AgentId) :
    (s.performBy b ws).agent a = s.agent a := by
  obtain ⟨c, o, h⟩ := s.ownWords_frame b ws
  rw [State.performBy, h, State.agent_performWrites]
  exact State.agent_congr (fun _ => rfl) (fun _ => rfl) rfl a

/-- An agent's writes outside the register windows, in memory. -/
theorem State.performBy_mem (s : State) (a : AgentId) {ws : List ByteWrite} (h : ∀ w ∈ ws, ∀ g x, w.loc.space ≠ .window g x) :
    (s.performBy a ws).mem = memAfter s.mem ws := by
  obtain ⟨c, o, e⟩ := s.ownWords_frame a ws
  rw [State.performBy, e]
  exact State.performWrites_mem_of_not_window _ h

/-! The end of an operation (04 R120). -/

/-- What is left when operation `n` of an agent comes to `k`: memory, registers, and the work of the operation. -/
structure WorkBecomes (s t : State) (a : AgentId) (n : Nat) (k : OpWork) : Prop where
  mem : t.mem = s.mem
  work : ∀ q ∈ (t.agent a).ops, q.id = n → q.work = k
  sregs : (t.agent a).sregs = (s.agent a).sregs
  vregs : ∀ g w, a = .warp g w → (t.warp g w).vregs = (s.warp g w).vregs

theorem Agent.mem_ops_settle {x : Agent} {q : Op} (h : q ∈ x.settle.ops) : q ∈ x.ops := (List.mem_filter.mp h).1

theorem State.workBecomes_setWork {s : State} {a : AgentId} (ha : s.has a) (n : Nat) (k : OpWork) :
    WorkBecomes s (s.setWork a n k) a n k := by
  have hag := s.agent_updAgent a (fun x => Agent.settle { x with ops := x.ops.map fun (o : Op) => if o.id == n then { o with work := k } else o }) ha
  refine ⟨s.updAgent_mem a _, fun q hq hn => ?_, by rw [State.setWork, hag]; rfl, ?_⟩
  · rw [State.setWork, hag] at hq
    obtain ⟨o, -, rfl⟩ := List.mem_map.mp (Agent.mem_ops_settle hq)
    by_cases ho : o.id = n
    · rw [if_pos (beq_iff_eq.mpr ho)]
    · rw [if_neg (by simpa using ho)] at hn
      exact absurd hn ho
  · rintro g w rfl
    rw [State.setWork, State.updAgent, State.setAgent, s.warp_updWarp g w _ ha]

/-- An operation is over, after an acquire where its instruction has one (13 R323). -/
def State.endOp (s : State) (a : AgentId) (m : MemOp) (n : Nat) : State := (if m.acquires then s.acquire a else s).setWork a n .finished

/-- An acquire changes cores alone. -/
theorem State.acquireIf_frame (s : State) (a : AgentId) (b : Bool) : ∃ c, (if b then s.acquire a else s) = { s with cores := c } := by
  unfold State.acquire
  split
  · split <;> exact ⟨_, rfl⟩
  · exact ⟨_, rfl⟩

theorem State.workBecomes_endOp {s : State} {a : AgentId} (ha : s.has a) (m : MemOp) (n : Nat) :
    WorkBecomes s (s.endOp a m n) a n .finished := by
  obtain ⟨c, e⟩ := s.acquireIf_frame a m.acquires
  have hsame (b : AgentId) : ({ s with cores := c } : State).agent b = s.agent b := State.agent_congr (fun _ => rfl) (fun _ => rfl) rfl b
  have hc : ({ s with cores := c } : State).has a := by cases a <;> exact ha
  rw [State.endOp, e]
  obtain ⟨hmem, hwork, hsregs, hvregs⟩ := State.workBecomes_setWork hc n .finished
  exact ⟨hmem, hwork, hsregs.trans (by rw [hsame]), hvregs⟩

/-! Registers that a load holds (09 R238, 07 R188). -/

/-- What a register write names: a scalar register, or a lane of a vector register. -/
def RegWrite.key : RegWrite → Nat
  | .scalar n _ _ => n
  | .vector k _ _ => k

/-- A warp after a register write of a load. -/
def Warp.applyReg (x : Warp) : RegWrite → Warp
  | .scalar n v p => { x with agent := x.agent.setSreg n v p }
  | .vector k v p => x.setV (k / 64) (k % 64) v p

/-- A warp after a load's register writes, in their order. -/
def Warp.applyRegs (x : Warp) (rs : List RegWrite) : Warp := rs.foldl Warp.applyReg x

theorem vkey_div_mod (k : Nat) : vkey (k / 64) (k % 64) = k := by
  unfold vkey
  omega

theorem Warp.v_applyReg_ne (x : Warp) {r : RegWrite} {k : Nat} (h : ∀ v p, r ≠ .vector k v p) :
    (x.applyReg r).v (k / 64) (k % 64) = x.v (k / 64) (k % 64) := by
  cases r with
  | scalar n v p => rfl
  | vector l v p =>
    refine x.v_setV_ne v p fun e => ?_
    rw [vkey_div_mod, vkey_div_mod] at e
    exact h v p (by rw [e])

/-- A lane that no write names keeps its value. -/
theorem Warp.v_applyRegs_of_not_mem (x : Warp) {rs : List RegWrite} {k : Nat} (h : ∀ v p, RegWrite.vector k v p ∉ rs) :
    (x.applyRegs rs).v (k / 64) (k % 64) = x.v (k / 64) (k % 64) := by
  induction rs generalizing x with
  | nil => rfl
  | cons r rs ih =>
    obtain ⟨hr, hrs⟩ : (∀ v p, r ≠ .vector k v p) ∧ ∀ v p, RegWrite.vector k v p ∉ rs :=
      ⟨fun v p e => h v p (by simp [e]), fun v p m => h v p (List.mem_cons_of_mem _ m)⟩
    exact (ih (x.applyReg r) hrs).trans (x.v_applyReg_ne hr)

/-- A lane that one write names has its value. -/
theorem Warp.v_applyRegs_of_mem (x : Warp) {rs : List RegWrite} (hn : (rs.map RegWrite.key).Nodup) {k : Nat} {v : W32} {p : Option Prov}
    (h : RegWrite.vector k v p ∈ rs) : (x.applyRegs rs).v (k / 64) (k % 64) = v := by
  induction rs generalizing x with
  | nil => simp at h
  | cons r rs ih =>
    obtain ⟨hr, hn⟩ := List.nodup_cons.mp hn
    rcases List.mem_cons.mp h with rfl | h
    · have hlater : ∀ u q, RegWrite.vector k u q ∉ rs := fun u q hin => hr (List.mem_map.mpr ⟨_, hin, rfl⟩)
      exact (Warp.v_applyRegs_of_not_mem _ hlater).trans (x.v_setV _ _ v p)
    · exact ih (x.applyReg r) hn h

theorem State.applyRegs_mem (s : State) (a : AgentId) (rs : List RegWrite) : (s.applyRegs a rs).mem = s.mem := by
  refine foldl_keeps (fun t : State => t.mem = s.mem) _ (fun t r ht => ?_) rs s rfl
  cases r with
  | scalar n v p => exact (t.updAgent_mem a _).trans ht
  | vector k v p => cases a <;> exact ht

theorem State.steady_applyRegs (s : State) (a : AgentId) (rs : List RegWrite) : Steady s (s.applyRegs a rs) := by
  refine .foldl (fun t r => ?_) rs s
  cases r with
  | scalar n v p => exact t.steady_setAgent a _
  | vector k v p =>
    cases a with
    | warp g w => exact t.steady_updWarp g w _
    | stoker g => exact .refl t
    | ctl c => exact .refl t

/-- A load's scalar register. -/
theorem State.agent_applyRegs_scalar {s : State} {a : AgentId} (ha : s.has a) (r : Nat) (v : Word) (p : Option Prov) :
    (s.applyRegs a [.scalar r v p]).agent a = (s.agent a).setSreg r v p := s.agent_updAgent a (fun x => x.setSreg r v p) ha

/-- A load's registers in a warp. -/
theorem State.warp_applyRegs {s : State} {g w : Nat} (ha : w < (s.group g).warps.length) (rs : List RegWrite) :
    (s.applyRegs (.warp g w) rs).warp g w = (s.warp g w).applyRegs rs := by
  induction rs generalizing s with
  | nil => rfl
  | cons r rs ih =>
    have step (f : Warp → Warp) : ((s.updWarp g w f).applyRegs (.warp g w) rs).warp g w = (f (s.warp g w)).applyRegs rs := by
      exact (ih (Nat.lt_of_lt_of_eq ha (s.length_warps_setWarp g w _).symm)).trans (congrArg (·.applyRegs rs) (s.warp_updWarp g w f ha))
    cases r with
    | scalar n v p => exact step fun x => { x with agent := (s.agent (.warp g w)).setSreg n v p }
    | vector k v p => exact step fun x => x.setV (k / 64) (k % 64) v p

/-! Loads (04 R120, R121). -/

theorem exec_loadComplete_eq {s : State} {a : AgentId} {n : Nat} {c : OpClass} {m : MemOp} {rs : List RegWrite} {rd : List (LaneAcc × Nat)}
    (h : s.op? a n = some ⟨n, c, .load m rs [] [] [] rd⟩) : exec (.loadComplete a ⟨n, false⟩) s = .next ((s.applyRegs a rs).endOp a m n) := by
  have hc : s.completeLoad a n = (s.applyRegs a rs).endOp a m n := by
    rw [State.completeLoad, h]
    rfl
  exact congrArg Host.Outcome.next hc

/-- 04 R120, R121. -/
theorem loadCompleteWritesRegisters : LoadCompleteWritesRegisters := by
  intro s a n c m rs rd hop hlive
  have ha := State.has_of_live hlive
  obtain ⟨hmem, hwork, hsregs, hvregs⟩ := State.workBecomes_endOp ((s.steady_applyRegs a rs).has ha) m n
  refine ⟨_, exec_loadComplete_eq hop, hmem.trans (s.applyRegs_mem a rs), hwork, ?scalar, ?vector⟩
  case scalar =>
    rintro r v rfl q
    rw [Agent.sreg_congr hsregs, State.agent_applyRegs_scalar ha]
    split
    · next h0 => rw [h0, Agent.sreg_zero]
    · next h0 =>
      split
      · next hr => rw [hr, Agent.sreg_setSreg _ r v none (hr ▸ h0)]
      · next hr => exact Agent.sreg_setSreg_ne _ v none hr
  case vector =>
    rintro g w rfl - hnodup k
    have hv : (((s.applyRegs (.warp g w) rs).endOp (.warp g w) m n).warp g w).v (k / 64) (k % 64) =
        ((s.warp g w).applyRegs rs).v (k / 64) (k % 64) := by
      rw [Warp.v, hvregs g w rfl, State.warp_applyRegs ha]
      rfl
    have hkeys : (rs.map RegWrite.key).Nodup := by
      refine (congrArg List.Nodup (List.map_congr_left fun x _ => ?_)).mp hnodup
      cases x <;> rfl
    exact ⟨fun v hin => hv.trans (Warp.v_applyRegs_of_mem _ hkeys hin), fun hout => hv.trans (Warp.v_applyRegs_of_not_mem _ hout)⟩

/-! Stores (13 R319, R320). -/

/-- Only a pending store has bytes that another operation may have to follow. -/
theorem Op.keys_of_not_store {o : Op} (h : ∀ m ws pk rm, o.work ≠ .store m ws pk rm) : o.keys = [] ∧ o.writesHost = false := by
  unfold Op.keys Op.writesHost
  cases hw : o.work with
  | store m ws pk rm => exact absurd hw (h m ws pk rm)
  | _ => exact ⟨rfl, rfl⟩

theorem mustPrecede_of_no_stores {ops : List Op} (h : ∀ o ∈ ops, ∀ m ws pk rm, o.work ≠ .store m ws pk rm) (ks : List Nat) (host : Bool) :
    mustPrecede ks host ops = [] := by
  unfold mustPrecede
  refine congrArg Prod.fst (a₂ := (([] : List Op), ks, host)) ?_
  induction ops with
  | nil => rfl
  | cons o ops ih =>
    obtain ⟨hkeys, hhost⟩ := Op.keys_of_not_store (h o (by simp))
    rw [List.foldr_cons, ih fun x hx => h x (List.mem_cons_of_mem _ hx), hkeys, hhost, Bool.and_false]
    rfl

/-- What becomes of a store whose bytes are all performed: one to tracked lines waits for its completion point (12 R300). -/
def State.storeWork (s : State) (m : MemOp) (ws : List ByteWrite) : OpWork :=
  if s.trackedLines ws = [] then .finished else .tracked m [] [] [] (s.trackedLines ws)

theorem State.orderOp_store_cons (s : State) (a : AgentId) (n : Nat) (c : OpClass) (m : MemOp) (w : ByteWrite) (ws : List ByteWrite) :
    s.orderOp a ⟨n, c, .store m (w :: ws) [] []⟩ = (s.performBy a (w :: ws)).setWork a n (s.storeWork m (w :: ws)) := by
  refine congrArg (State.setWork _ a n) ?_
  unfold State.storeWork
  cases s.trackedLines (w :: ws) <;> rfl

/-- Before the store's operation comes to what is left of it, its bytes are in memory, and its agent is as it was. -/
theorem State.orderOp_store_effect (s : State) (a : AgentId) (n : Nat) (c : OpClass) (m : MemOp) {ws : List ByteWrite}
    (hw : ∀ w ∈ ws, ∀ g x, w.loc.space ≠ .window g x) :
    ∃ u : State, s.orderOp a ⟨n, c, .store m ws [] []⟩ = u.setWork a n (s.storeWork m ws) ∧ u.mem = memAfter s.mem ws ∧
      u.agent a = s.agent a ∧ Steady s u := by
  cases ws with
  | nil => exact ⟨s, rfl, rfl, rfl, .refl s⟩
  | cons w ws => exact ⟨_, s.orderOp_store_cons a n c m w ws, s.performBy_mem a hw, s.agent_performBy a _ a, s.steady_performBy a _⟩

theorem exec_storeOrderingPoint_eq {s : State} {a : AgentId} {n : Nat} {o : Op} (h : s.op? a n = some o)
    (hfirst : ∀ q ∈ (s.agent a).ops.takeWhile (fun q => q.id != n), ∀ k vs pk rm, q.work ≠ .store k vs pk rm) :
    exec (.storeOrderingPoint a n) s = .next (s.orderOp a o) := by
  rw [exec_storeOrderingPoint, execStoreOrderingPoint, State.orderStore, h]
  dsimp only
  rw [State.flushBefore, mustPrecede_of_no_stores hfirst]
  rfl

/-- 13 R319, R320. -/
theorem storeOrderingPointWritesMemory : StoreOrderingPointWritesMemory := by
  intro s a n c m ws hop hlive hfirst hnodup hnowin
  obtain ⟨u, heq, humem, huagent, husteady⟩ := s.orderOp_store_effect a n c m hnowin
  obtain ⟨hmem, hwork, hsregs, -⟩ := State.workBecomes_setWork (husteady.has (State.has_of_live hlive)) n (s.storeWork m ws)
  refine ⟨_, exec_storeOrderingPoint_eq hop hfirst, ?_⟩
  rw [heq]
  refine ⟨fun w hw => ?written, fun k hk hother => ?other, by rw [hsregs, huagent], hwork⟩
  case written => rw [State.readByte_eq_memGet _ (hnowin w hw), hmem, humem, memGet_memAfter _ hnodup hw]
  case other => rw [State.readByte_eq_memGet _ hk, State.readByte_eq_memGet _ hk, hmem, humem, memGet_memAfter_ne _ _ _ hother]

/-! Stores to lines that a walker has read (12 R300). -/

/-- With no combined writes held, none is sent. -/
theorem State.sendAllEntries_quiet {s : State} (h : ∀ e ∈ s.cores, e.2.wc = []) : s.sendAllEntries = s :=
  foldl_eq_self fun e _ => State.sendEntries_empty _ (Table.get_of_forall (P := fun x : Core => x.wc = []) rfl h e.1)

theorem exec_trackedStoreComplete_eq {s : State} {a : AgentId} {n : Nat} {c : OpClass} {m : MemOp} {rs : List RegWrite} {ls : List Nat}
    (h : s.op? a n = some ⟨n, c, .tracked m rs [] [] ls⟩) (hr : s.remoteIds = []) (hc : ∀ e ∈ s.cores, e.2.wc = []) :
    exec (.trackedStoreComplete a n) s = .next (((s.retranslate ls).applyRegs a rs).endOp a m n) := by
  rw [exec_trackedStoreComplete, execTrackedStoreComplete, State.completeTracked, h]
  dsimp only
  rw [State.sendAllEntries_quiet hc, h]
  dsimp only
  rw [hr, List.any_nil, if_neg Bool.false_ne_true]
  rfl

/-- 12 R300. -/
theorem trackedStoreCompletes : TrackedStoreCompletes := by
  intro s a n c m rs ls hop hlive hremote hcores
  have ha : (s.retranslate ls).has a := (s.steady_retranslate ls).has (State.has_of_live hlive)
  obtain ⟨-, hwork, hsregs, -⟩ := State.workBecomes_endOp ((State.steady_applyRegs _ a rs).has ha) m n
  refine ⟨_, exec_trackedStoreComplete_eq hop hremote hcores, hwork, ?_⟩
  rintro r v hr rfl
  rw [Agent.sreg_congr hsregs, State.agent_applyRegs_scalar ha, Agent.sreg_setSreg _ r v none hr]

end Sys2Proof.Machine

namespace Sys2Proof

open Machine Claims

/-- Settles O25: the completion of a load, the ordering point of a store, and the completion point of a store to tracked lines. -/
theorem memoryOperationsComplete : Obligations.MemoryOperationsComplete :=
  ⟨loadCompleteWritesRegisters, storeOrderingPointWritesMemory, trackedStoreCompletes⟩

end Sys2Proof

/-! PROOFS. Words and their fields: what is read back of bits put together, and of the bytes of a word (06 R148, R158). -/

namespace Sys2Proof
open Machine Claims

/-! Fields of a word. The width of a word is a literal where the model writes one, so that these lemmas leave the shape of the
word out of what `simp` looks up. -/

theorem extractLsb'_append_high {m k lo n : Nat} {x : BitVec m} {y : BitVec k} (h : k ≤ lo) :
    BitVec.extractLsb' lo n (no_index (x ++ y)) = x.extractLsb' (lo - k) n := BitVec.extractLsb'_append_eq_of_le h

theorem extractLsb'_append_low {m k lo n : Nat} {x : BitVec m} {y : BitVec k} (h : lo + n ≤ k) :
    BitVec.extractLsb' lo n (no_index (x ++ y)) = y.extractLsb' lo n := BitVec.extractLsb'_append_eq_of_add_le h

theorem getLsbD_append_high {m k i : Nat} {x : BitVec m} {y : BitVec k} (h : k ≤ i) :
    BitVec.getLsbD (no_index (x ++ y)) i = x.getLsbD (i - k) := by
  rw [BitVec.getLsbD_append, if_neg (by simpa using h)]

theorem getLsbD_append_low {m k i : Nat} {x : BitVec m} {y : BitVec k} (h : i < k) :
    BitVec.getLsbD (no_index (x ++ y)) i = y.getLsbD i := by
  rw [BitVec.getLsbD_append, if_pos (by simpa using h)]

/-- Bits below the width that a word is widened to are its own. -/
theorem extractLsb'_setWidth_low {m k lo n : Nat} (x : BitVec m) (h : lo + n ≤ k) :
    (x.setWidth k).extractLsb' lo n = x.extractLsb' lo n := by
  refine BitVec.eq_of_getLsbD_eq fun i hi => ?_
  simp only [BitVec.getLsbD_extractLsb', BitVec.getLsbD_setWidth]
  simp only [hi, decide_true, show lo + i < k by omega, Bool.true_and]

/-! Bytes of a word. -/

@[simp] theorem length_leBytes (n v : Nat) : (leBytes n v).length = n := by
  induction n generalizing v with
  | zero => rfl
  | succ n ih => simp [leBytes, ih]

theorem take_leBytes {k n : Nat} (h : k ≤ n) (v : Nat) (rest : List Byte) : (leBytes n v ++ rest).take k = leBytes k v := by
  induction k generalizing n v with
  | zero => rfl
  | succ k ih =>
    obtain ⟨n, rfl⟩ : ∃ m, n = m + 1 := ⟨n - 1, by omega⟩
    simp [leBytes, ih (Nat.le_of_succ_le_succ h)]

theorem leBytes_add (n k v : Nat) : leBytes (n + k) v = leBytes n v ++ leBytes k (v / 256 ^ n) := by
  induction n generalizing v with
  | zero => simp [leBytes]
  | succ n ih => simp [Nat.add_right_comm, leBytes, ih, Nat.div_div_eq_div_mul, Nat.pow_succ']

theorem leNat_leBytes (n v : Nat) : leNat (leBytes n v) = v % 256 ^ n := by
  induction n generalizing v with
  | zero => simp [leBytes, leNat, Nat.mod_one]
  | succ n ih =>
    rw [leBytes, leNat, ih, BitVec.toNat_ofNat, show 256 ^ (n + 1) = 256 * 256 ^ n from Nat.pow_succ']
    exact Nat.mod_mul.symm

/-- The bytes of a word, as many as its first parcel says, decode to what the word decodes to, and leave what follows them. -/
theorem decodeBytes_leBytes {n : Nat} {w : BitVec 64} (hn : instrLength (w.setWidth 16) = n) (hw : w.toNat < 256 ^ n)
    (rest : List Byte) : decodeBytes (leBytes n w.toNat ++ rest) = (decodeWord w).map fun i => (i, rest) := by
  have h2 : 2 ≤ n := by subst hn; unfold instrLength; split <;> [skip; split] <;> decide
  have parcel : BitVec.ofNat 16 (leNat ((leBytes n w.toNat ++ rest).take 2)) = w.setWidth 16 := by
    rw [take_leBytes h2, leNat_leBytes]
    exact BitVec.eq_of_toNat_eq (by simp)
  have word : BitVec.ofNat 64 (leNat ((leBytes n w.toNat ++ rest).take n)) = w := by
    rw [take_leBytes le_rfl, leNat_leBytes, Nat.mod_eq_of_lt hw, BitVec.ofNat_toNat, BitVec.setWidth_eq]
  simp only [decodeBytes, parcel, hn, word, List.drop_left' (length_leBytes n _)]
  cases decodeWord w <;> rfl

end Sys2Proof

/-! PROOFS. The general forms: a word put together from a form's fields decodes to the form (06 R158-R166). -/

namespace Sys2Proof
open Machine Claims

/-! Codes name what they are the codes of (05 R137; 06 R163, R164). -/

theorem Ty.ofCode_code (t : Ty) : Ty.ofCode t.code = some t := by cases t <;> rfl

theorem Rnd.ofCode_code (r : Rnd) : Rnd.ofCode r.code = some r := by cases r <;> rfl

theorem Width.ofCode_code (w : Width) : Width.ofCode w.code = some w := by cases w <;> rfl

theorem Order.ofCode_code (o : Order) : Order.ofCode o.code = some o := by cases o <;> rfl

theorem MTy.ofCode_code (t : MTy) : MTy.ofCode t.code = some t := by cases t <;> rfl

/-- The layout of some fields. -/
def Layout.kind : Layout → LayoutKind
  | .sys _ => .sys
  | .s _ => .s
  | .si _ => .si
  | .b _ => .b
  | .v _ => .v
  | .vi _ => .vi
  | .m _ => .m
  | .mm _ => .mm
  | .k _ => .k

/-- Whether the type of a G-V form has a code of the 4 bits that the layout has for it (06 R158, R163). -/
def Layout.Coded : Layout → Prop
  | .v o => o.dtype.code.toNat < 16
  | _ => True

/-- The fields of a general word are those it was put together from. -/
theorem unpack_packGeneral (cls : BitVec 6) (fn : Nat) (l : Layout) (h : l.Coded) :
    unpack l.kind (packGeneral cls fn l) = some l := by
  cases l with
  | v o =>
    have code : (o.dtype.code.setWidth 4).setWidth 6 = o.dtype.code := by
      refine BitVec.eq_of_toNat_eq ?_
      have lt : o.dtype.code.toNat < 16 := h
      simp only [BitVec.toNat_setWidth]
      omega
    simp [Layout.kind, unpack, packGeneral, bitsAt, extractLsb'_append_high, extractLsb'_append_low, getLsbD_append_high,
      getLsbD_append_low, -BitVec.getLsbD_eq_getElem, code, Ty.ofCode_code, Rnd.ofCode_code]
  | m o =>
    simp [Layout.kind, unpack, packGeneral, bitsAt, extractLsb'_append_high, extractLsb'_append_low, getLsbD_append_high,
      getLsbD_append_low, -BitVec.getLsbD_eq_getElem, Width.ofCode_code, Order.ofCode_code]
  | mm o =>
    simp [Layout.kind, unpack, packGeneral, bitsAt, extractLsb'_append_high, extractLsb'_append_low, MTy.ofCode_code]
  | _ =>
    simp [Layout.kind, unpack, packGeneral, bitsAt, extractLsb'_append_high, extractLsb'_append_low, getLsbD_append_high,
      getLsbD_append_low, -BitVec.getLsbD_eq_getElem]

theorem class_packGeneral (cls : BitVec 6) (fn : Nat) (l : Layout) : bitsAt (packGeneral cls fn l) 2 6 = cls := by
  cases l <;> simp [packGeneral, bitsAt, extractLsb'_append_high, extractLsb'_append_low]

theorem low_packGeneral (cls : BitVec 6) (fn : Nat) (l : Layout) :
    (packGeneral cls fn l).getLsbD 0 = true ∧ (packGeneral cls fn l).getLsbD 1 = true := by
  cases l <;> simp [packGeneral, getLsbD_append_low, -BitVec.getLsbD_eq_getElem]

/-- Bits 11:8 hold the low bits of the function in every layout (06 R158). -/
theorem function4_packGeneral (cls : BitVec 6) (fn : Nat) (l : Layout) :
    bitsAt (packGeneral cls fn l) 8 4 = BitVec.ofNat 4 fn := by
  have cut : BitVec.extractLsb' 0 4 (BitVec.ofNat 10 fn) = BitVec.ofNat 4 fn := by
    refine BitVec.eq_of_toNat_eq ?_
    simp only [BitVec.extractLsb'_toNat, BitVec.toNat_ofNat, Nat.shiftRight_zero]
    omega
  cases l <;> simp [packGeneral, bitsAt, extractLsb'_append_high, extractLsb'_append_low, cut]

/-- Bits 17:8 hold the function in the layouts that have 10 bits for it (06 R158). -/
theorem function10_packGeneral (cls : BitVec 6) (fn : Nat) (l : Layout) (h : l.kind.short = false) :
    bitsAt (packGeneral cls fn l) 8 10 = BitVec.ofNat 10 fn := by
  cases l with
  | si | b | vi => cases h
  | _ => simp [packGeneral, bitsAt, extractLsb'_append_high, extractLsb'_append_low]

/-- A general word decodes to the instruction of its form, when its class has the form's layout and its fields have codes. -/
theorem decodeGeneral_packGeneral {cls : BitVec 6} {fn : Nat} {l : Layout} (hk : layoutKind cls (BitVec.ofNat 4 fn == 2) = some l.kind)
    (hf : fn < if l.kind.short then 16 else 1024) (hc : l.Coded) :
    decodeGeneral (packGeneral cls fn l) = accept (Instr.ofForm ⟨8, cls, fn, l⟩) := by
  have function : (if l.kind.short then (BitVec.ofNat 4 fn).toNat else (bitsAt (packGeneral cls fn l) 8 10).toNat) = fn := by
    cases short : l.kind.short with
    | true =>
      rw [short, if_pos rfl] at hf
      rw [if_pos rfl, BitVec.toNat_ofNat, Nat.mod_eq_of_lt hf]
    | false =>
      rw [short, if_neg (by decide)] at hf
      rw [if_neg (by decide), function10_packGeneral _ _ _ short, BitVec.toNat_ofNat, Nat.mod_eq_of_lt hf]
  simp only [decodeGeneral, class_packGeneral, function4_packGeneral, hk, unpack_packGeneral _ _ _ hc, function]

end Sys2Proof

/-! PROOFS. The compact parcels and short words: each decodes to the instruction of its table (06 R153-R157). -/

namespace Sys2Proof
open Machine Claims

/-- A word is `n` bytes long by its first parcel, has no bit past them, and the decoder reads `i` from it. -/
structure Reads (n : Nat) (w : BitVec 64) (i : Instr) : Prop where
  length : instrLength (w.setWidth 16) = n
  size : w.toNat < 256 ^ n
  decodes : decodeWord w = accept (some i)

/-- A parcel with bit 0 clear is a compact instruction (06 R148, R153). -/
theorem Reads.compact {op : BitVec 4} {c : CV → Instr} (h : compactOps[op.toNat]? = some c) (o : CV) :
    Reads 2 (((packCompact op o).setWidth 32).setWidth 64) (c o) := by
  have parcel : (((packCompact op o).setWidth 32).setWidth 64).setWidth 16 = packCompact op o := by
    simp [BitVec.setWidth_setWidth_of_le]
  have length : instrLength (packCompact op o) = 2 := by
    simp [instrLength, packCompact, getLsbD_append_low, -BitVec.getLsbD_eq_getElem]
  refine ⟨by rw [parcel, length], ?_, ?_⟩
  · have := (packCompact op o).isLt
    simp only [BitVec.toNat_setWidth]
    omega
  · have table : decodeCompact (packCompact op o) = accept (some (c o)) := by
      simp [decodeCompact, packCompact, extractLsb'_append_high, extractLsb'_append_low, getLsbD_append_high,
        -BitVec.getLsbD_eq_getElem, h]
    simp only [decodeWord, parcel, length, table]

/-- A word whose bits 1:0 are 01 is a short instruction (06 R148, R155). -/
theorem Reads.ofShort {w : BitVec 32} {i : Instr} (h0 : w.getLsbD 0 = true) (h1 : w.getLsbD 1 = false)
    (h : decodeShort w = accept (some i)) : Reads 4 (w.setWidth 64) i := by
  have length : instrLength ((w.setWidth 64).setWidth 16) = 4 := by
    simp [instrLength, -BitVec.getLsbD_eq_getElem, h0, h1]
  refine ⟨length, ?_, ?_⟩
  · have := w.isLt
    simp only [BitVec.toNat_setWidth]
    omega
  · simp only [decodeWord, length, BitVec.setWidth_setWidth_of_le w (show 32 ≤ 64 by decide), BitVec.setWidth_eq, h]

theorem Reads.v3 {m : BitVec 6} {c : SV3 → Instr} (hl : 0 < m.toNat) (hu : m.toNat < 0x1C)
    (h : shortV3Ops[m.toNat - 1]? = some c) (o : SV3) : Reads 4 ((packV3 m o).setWidth 64) (c o) := by
  refine .ofShort ?_ ?_ ?_
  · simp [packV3, getLsbD_append_low, -BitVec.getLsbD_eq_getElem]
  · simp [packV3, getLsbD_append_low, -BitVec.getLsbD_eq_getElem]
  · simp [decodeShort, packV3, extractLsb'_append_high, extractLsb'_append_low, hu, h, Nat.ne_of_gt hl]

theorem Reads.vi {m : BitVec 6} {c : SVI → Instr} (hl : 0x1C ≤ m.toNat) (hu : m.toNat < 0x24)
    (h : shortVIOps[m.toNat - 0x1C]? = some c) (o : SVI) : Reads 4 ((packVI m o).setWidth 64) (c o) := by
  refine .ofShort ?_ ?_ ?_
  · simp [packVI, getLsbD_append_low, -BitVec.getLsbD_eq_getElem]
  · simp [packVI, getLsbD_append_low, -BitVec.getLsbD_eq_getElem]
  · have major : m.toNat ≠ 0 := by omega
    simp [decodeShort, packVI, extractLsb'_append_high, extractLsb'_append_low, hu, h, major, Nat.not_lt.mpr hl]

theorem Reads.s3 {f : Nat} {c : SS3 → Instr} (hf : f < 32) (h : shortS3Ops[f]? = some c) (o : SS3) :
    Reads 4 ((packS3 f o).setWidth 64) (c o) := by
  refine .ofShort ?_ ?_ ?_
  · simp [packS3, getLsbD_append_low, -BitVec.getLsbD_eq_getElem]
  · simp [packS3, getLsbD_append_low, -BitVec.getLsbD_eq_getElem]
  · have major : (36 + f / 8) % 64 = 36 + f / 8 := by omega
    have row : f / 8 * 8 + f % 8 = f := by omega
    have h1 : ¬ 36 + f / 8 < 28 := by omega
    have h2 : ¬ 36 + f / 8 < 36 := by omega
    have h3 : 36 + f / 8 < 40 := by omega
    simp [decodeShort, packS3, extractLsb'_append_high, extractLsb'_append_low, major, row, h1, h2, h3, h]

theorem Reads.sys {f : BitVec 8} {imm : BitVec 16} {i : Instr} (h : shortSys (packSys f imm) = some i) :
    Reads 4 ((packSys f imm).setWidth 64) i := by
  refine .ofShort ?_ ?_ ?_
  · simp [packSys, getLsbD_append_low, -BitVec.getLsbD_eq_getElem]
  · simp [packSys, getLsbD_append_low, -BitVec.getLsbD_eq_getElem]
  · have major : (packSys f imm).extractLsb' 2 6 = 0 := by simp [packSys, extractLsb'_append_high, extractLsb'_append_low]
    simp [decodeShort, major, h]

/-- What a compact or short encoding puts together decodes to its instruction, before the check that it is well formed. -/
theorem reads_of_encodeShort {i : Instr} {f : Form} {w : BitVec 32} (hf : i.form = some f) (hw : encodeShort i = some w) :
    Reads f.len (w.setWidth 64) i := by
  cases i with
  | cMov o | cAddS32 o | cSubS32 o | cAnd o | cOr o | cXor o | cShlN32 o | cShrN32 o | cFaddF32 o | cFsubF32 o | cFmulF32 o
  | cFminF32 o | cFmaxF32 o | cMinS32 o | cMaxS32 o | cNot o =>
    cases hf; cases hw
    exact .compact rfl o
  | vaddS32Short o | vsubS32Short o | vmulS32Short o | vminS32Short o | vmaxS32Short o | vminN32Short o | vmaxN32Short o
  | vandShort o | vorShort o | vxorShort o | vshlN32Short o | vshrN32Short o | vshrS32Short o | faddF32Short o | fsubF32Short o
  | fmulF32Short o | fminF32Short o | fmaxF32Short o | faddBf16x2Short o | fmulBf16x2Short o | vselShort o | vshflShort o
  | vaddminS32Short o | ffmaF32Short o | ffmaBf16x2Short o | vcmpLtS32Short o | fcmpLtF32Short o =>
    cases hf; cases hw
    exact .v3 (by decide) (by decide) rfl o
  | vintiVaddShort o | vintiVandShort o | vintiVshlShort o | vintiVshrN32Short o | vintiVshrS32Short o | vintiVminShort o
  | vintiVmaxShort o | vintiVcmpEqShort o =>
    cases hf; cases hw
    exact .vi (by decide) (by decide) rfl o
  | saddShort o | ssubShort o | smulShort o | smulhSShort o | smulhNShort o | sdivSShort o | sdivNShort o | sremSShort o
  | sremNShort o | sandShort o | sorShort o | sxorShort o | sandnShort o | sshlShort o | sshrSShort o | sshrNShort o
  | srotrShort o | sminSShort o | sminNShort o | smaxSShort o | smaxNShort o | sclzShort o | sffsShort o | spopcShort o
  | sbrevShort o | sselShort o | scmpShort o | sextShort o | smovShort o | sbfxShort o | sbfiShort o | smadShort o =>
    cases hf; cases hw
    exact .s3 (by decide) rfl o
  | nopShort | exitShort | yieldShort | tretShort | haltShort | wfiShort | trapShort c =>
    cases hf; cases hw
    exact .sys (by simp [shortSys, packSys, extractLsb'_append_high, extractLsb'_append_low])
  | prioShort n =>
    cases hf; cases hw
    have lt : n.toNat % 65536 < 8 := by omega
    exact .sys (by simp [shortSys, packSys, extractLsb'_append_high, extractLsb'_append_low, lt, extractLsb'_setWidth_low])
  | saddiShort d a i | sliShort d i | sld64Short d a i | sst64Short d a i | vld32Short o | vst32Short o | brShort f | callShort f
  | brzShort a f | brnzShort a f | brpShort p n f | waitShort o =>
    cases hf; cases hw
    exact .ofShort (by simp [packVM, getLsbD_append_low, -BitVec.getLsbD_eq_getElem])
      (by simp [packVM, getLsbD_append_low, -BitVec.getLsbD_eq_getElem])
      (by simp [decodeShort, packVM, extractLsb'_append_high, extractLsb'_append_low, getLsbD_append_high,
        getLsbD_append_low, -BitVec.getLsbD_eq_getElem])
  | _ => cases hw

end Sys2Proof

/-! PROOFS. O50: what the encoder puts together decodes to the instruction (06 R148-R166). -/

namespace Sys2Proof
open Machine Claims

/-! The rows of general forms. -/

/-- The table of a form's class and function holds the instruction, and the class and function have the form's layout. -/
structure Tabled (f : Form) (i : Instr) : Prop where
  len : f.len = 8
  row : Instr.ofForm f = some i
  layout : layoutKind f.cls (BitVec.ofNat 4 f.fn == 2) = some f.lay.kind
  bound : f.fn < if f.lay.kind.short then 16 else 1024

/-- A SYS form is in its table when the bits of the form give the instruction whose form it is. -/
theorem Tabled.sys {n : Nat} {b : BitVec 46} {i : Instr} (hi : i.form = some ⟨8, 0, n, .sys b⟩) (ho : sysOp n b = some i)
    (hn : n < 1024) : Tabled ⟨8, 0, n, .sys b⟩ i where
  len := rfl
  row := by simp [Instr.ofForm, ho, hi, Option.filter]
  layout := rfl
  bound := hn

theorem tabled_of_form {i : Instr} {f : Form} (hf : i.form = some f) (hs : encodeShort i = none) (hl : legalEncoding i = true) :
    Tabled f i := by
  cases i with
  | nop | exit | yield | tret | halt | wfi =>
    cases hf
    exact .sys rfl rfl (by decide)
  | trap _ | prio _ | wait _ | launch _ _ | srd _ _ | swr _ _ =>
    cases hf
    refine .sys rfl ?_ (by decide)
    simp [sysOp, waitBits, extractLsb'_setWidth_low, extractLsb'_append_high, extractLsb'_append_low]
  | sadd _ | ssub _ | smul _ | smulhS _ | smulhN _ | sdivS _ | sdivN _ | sremS _ | sremN _ | sand _ | sor _ | sxor _
  | sandn _ | sshl _ | sshrS _ | sshrN _ | srotr _ | sminS _ | sminN _ | smaxS _ | smaxN _ | sclz _ | sffs _ | spopc _
  | sbrev _ | ssel _ | scmp _ | sext _ | smov _ | sbfx _ | sbfi _ | smad _ 
  | saddi _ | sandi _ | sori _ | sxori _ | sshli _ | sshriS _ | sshriN _ | sli _ | slih _ | scmpi _
  | br _ | brz _ | brnz _ | brc _ | call _ | jmpr _ | callr _ | ret _ | brp _ | loop _ | sld _ | sst _ | satom _
  | vadd _ | vsub _ | vmul _ | vmulh _ | vmad _ | vadds _ | vsubs _ | vabsd _ | vmin _ | vmax _ | vand _ | vor _ | vxor _
  | vandn _ | vnot _ | vshl _ | vshr _ | vrotr _ | vclz _ | vffs _ | vpopc _ | vbrev _ | vsel _ | vcmp _ | vaddmin _ | vbfx _
  | vbfi _ | vmov _ | vsrd _
  | vintiVadd _ | vintiVand _ | vintiVor _ | vintiVxor _ | vintiVshl _ | vintiVshr _ | vintiVmin _ | vintiVmax _ | vintiVcmp _
  | vmovi _ | vintiVaddmin _
  | fadd _ | fsub _ | fmul _ | ffma _ | ffms _ | fmin _ | fmax _ | fabs _ | fneg _ | fcmp _ | fclass _ | fscaleb _ | frnd _
  | fdiv _ | faddmin _ | cvt _ | pack _ | unpack _ | mxscale _
  | vshfl _ | vshup _ | vshdn _ | vrotw _ | vbcast _ | vreduce _ | vscan _ | qswap _ | qbcast _ | vballot _ | vvote _ | vmatch _
  | pand _ | por _ | pxor _ | pnot _ | pset _ | pget _ | frcp _ | frsq _ | fsqrt _ | fexp2 _ | flog2 _ | fsin _ | fcos _ | ftanh _
  | vld _ | vst _ | vgather _ | vscatter _ | vldstep _ | vpref _ | vspill _ | vfill _ | vatom _ | vred _
  | fence _ | binit _ | barrive _ | bwait _ | btest _ | wsync _ | cvinit _ | mwait _ | qpush _ | qpop _ | qpops _ | qstat _
  | mma _ | mmas _ | mmai _ | mmax _ | awin _ | azero _ | ald _ | ast _ | arstat _
  | cpy _ | cpyg _ | cpyz _ | sealRecord _ | strdef _ | strrun _ | twany _ | twall _ | tfirst _ | tclr _
  | gattach _ | gstep _ | gstat _ | gdetach _
  | kscan _ | jappend _ | jread _ | irqsend _ | chold _ | crelease _ =>
    cases hf
    exact ⟨rfl, rfl, rfl, of_decide_eq_true rfl⟩
  | vdrd o | vdwr o | qrd o | qwr o | irtrd o | irtwr o | vdcmdStart o | vdcmdRetire o | vdcmdKill o =>
    cases hf
    have operation := eq_of_beq hl
    exact ⟨rfl, by simp [Instr.ofForm, ctlcOp, operation], rfl, of_decide_eq_true rfl⟩
  | _ => cases hf <;> cases hs

/-- The types that the functions of G-V permit have codes of the 4 bits that the layout has for them (06 R163). -/
theorem code_lt_of_mem_laneRules {cls : BitVec 6} {r : LaneRule} (hr : r ∈ laneRules cls) {t : Ty} (ht : t ∈ r.types) :
    t.code.toNat < 16 := by
  have table : ∀ r ∈ laneRules cls, ∀ t ∈ r.types, t.code.toNat < 16 := by
    unfold laneRules
    split <;> decide
  exact table r hr t ht

theorem coded_of_legalForm {f : Form} (h : legalForm f = true) : f.lay.Coded := by
  obtain ⟨len, cls, fn, l⟩ := f
  cases l with
  | v o =>
    have legal : legalV cls fn o = true := h
    unfold legalV at legal
    split at legal
    · exact absurd legal (by decide)
    · next r row =>
      simp only [Bool.and_eq_true, List.contains_iff_mem] at legal
      obtain ⟨⟨⟨⟨⟨⟨⟨⟨type, -⟩, -⟩, -⟩, -⟩, -⟩, -⟩, -⟩, -⟩ := legal
      exact code_lt_of_mem_laneRules (List.mem_of_getElem? row) type
  | _ => trivial

/-- The word of a general form is 8 bytes, and decodes to the instruction of the form. -/
theorem reads_packGeneral {i : Instr} {f : Form} (ht : Tabled f i) (hl : legalForm f = true) :
    Reads 8 (packGeneral f.cls f.fn f.lay) i := by
  obtain ⟨low0, low1⟩ := low_packGeneral f.cls f.fn f.lay
  have length : instrLength ((packGeneral f.cls f.fn f.lay).setWidth 16) = 8 := by
    simp [instrLength, -BitVec.getLsbD_eq_getElem, low0, low1]
  refine ⟨length, BitVec.isLt _, ?_⟩
  obtain ⟨len, row, layout, bound⟩ := ht
  simp only [decodeWord, length, decodeGeneral_packGeneral layout bound (coded_of_legalForm hl)]
  rw [← len, row]

theorem wf_of_form {i : Instr} {f : Form} (hf : i.form = some f) : i.wf = (legalEncoding i && legalForm f) := by
  unfold Instr.wf legalInstr
  split
  · cases hf
  · rw [hf]

/-- The encoding of a well-formed instruction reads as the instruction. -/
theorem reads_of_encode {i : Instr} {n : Nat} {w : BitVec 64} (hw : i.wf = true) (he : encode i = some (n, w)) : Reads n w i := by
  unfold encode at he
  cases hf : i.form with
  | none => rw [hf] at he; cases he
  | some f =>
    rw [hf] at he
    cases hs : encodeShort i with
    | some v =>
      rw [hs] at he
      cases he
      exact reads_of_encodeShort hf hs
    | none =>
      rw [hs] at he
      cases he
      rw [wf_of_form hf, Bool.and_eq_true] at hw
      exact reads_packGeneral (tabled_of_form hf hs hw.1) hw.2

/-- The bytes of a well-formed instruction's encoding, whatever follows them, decode to it. -/
theorem decodeBytes_of_encode {i : Instr} {n : Nat} {w : BitVec 64} (hw : i.wf = true) (he : encode i = some (n, w))
    (rest : List Byte) : decodeBytes (leBytes n w.toNat ++ rest) = .ok (i, rest) := by
  obtain ⟨length, size, decodes⟩ := reads_of_encode hw he
  rw [decodeBytes_leBytes length size, decodes, accept, if_pos hw]
  rfl

/-- Settles O50, by the fields of each layout and the rows of each table. -/
theorem encodeThenDecode : Obligations.EncodeThenDecode := fun _ _ _ rest hw he => decodeBytes_of_encode hw he rest

/-! Words written out. -/

/-- A number whose low bits are the encoding of a well-formed instruction is read as the instruction. -/
theorem decodeTableWord_of_encode {i : Instr} {n bits v : Nat} {w : BitVec 64} (hw : i.wf = true) (he : encode i = some (n, w))
    (hn : n ≤ 8) (hv : v % 2 ^ bits = w.toNat) : decodeTableWord bits v = some i := by
  have bytes := leBytes_add n (8 - n) w.toNat
  rw [Nat.add_sub_cancel' hn] at bytes
  simp only [decodeTableWord, hv, bytes, decodeBytes_of_encode hw he]

/-- Settles O60, each word by its encoding. -/
theorem specWordsDecode : Obligations.SpecWordsDecode := by
  unfold Obligations.SpecWordsDecode
  and_intros <;> exact decodeTableWord_of_encode rfl rfl (by decide) rfl

end Sys2Proof

/-! PROOFS. O59: a compact move of a register to itself (06 R154). -/

namespace Sys2Proof
open Machine Claims

/-- An agent that fetches bytes that are no instruction traps ILLEGAL (06 R168). -/
theorem step_eq_trap_illegal {s u : State} {a : AgentId} {rest : List Sched} {bs : List Byte} {e : Reject}
    (hi : s.inputs = .issue a :: rest) (hc : (issuing s a rest).canIssue a = true)
    (hf : (issuing s a rest).fetch a ((issuing s a rest).pcOf a) = (.bytes bs, u)) (he : decodeBytes bs = .error e) :
    step s = .next (u.trap .illegal) := by
  have agent : step s = stepAgent a { s with clk := s.clk + 1, inputs := rest } := by simp only [step, hi]
  rw [agent, stepAgent]
  change (if !(issuing s a rest).canIssue a then _ else
    match (issuing s a rest).fetch a ((issuing s a rest).pcOf a) with
      | (.cause c p, s) => _ | (.absent f, s) => _ | (.bytes bs, s) => _) = _
  simp only [hc, hf, he, Bool.not_true]
  rfl

/-- The compact parcel of C.MOV of a register to itself. -/
def selfMove (p n : Nat) : CV := ⟨decide (p = 1), BitVec.ofNat 5 n, BitVec.ofNat 5 n⟩

theorem moveOfItself_eq_packCompact {p n : Nat} (hp : p < 2) (hn : n < 32) :
    moveOfItself p n = (((packCompact 0 (selfMove p n)).setWidth 32).setWidth 64).toNat := by
  have table : ∀ p < 2, ∀ n < 32, moveOfItself p n = (((packCompact 0 (selfMove p n)).setWidth 32).setWidth 64).toNat := by decide
  exact table p hp n hn

/-- C.MOV of a register to itself is not well formed (06 R154). -/
theorem wf_selfMove (p n : Nat) : (Instr.cMov (selfMove p n)).wf = false := by
  rw [wf_of_form rfl]
  simp [legalEncoding, selfMove]

theorem decodeBytes_moveOfItself {p n : Nat} (hp : p < 2) (hn : n < 32) (rest : List Byte) :
    decodeBytes (leBytes 2 (moveOfItself p n) ++ rest) = .error .badField := by
  obtain ⟨length, size, decodes⟩ := Reads.compact (op := 0) (c := .cMov) rfl (selfMove p n)
  rw [moveOfItself_eq_packCompact hp hn, decodeBytes_leBytes length size, decodes, accept, if_neg (by simp [wf_selfMove])]
  rfl

theorem decodeTableWord_moveOfItself {p n : Nat} (hp : p < 2) (hn : n < 32) :
    decodeTableWord 16 (moveOfItself p n) = none := by
  have small : moveOfItself p n % 2 ^ 16 = moveOfItself p n := Nat.mod_eq_of_lt (by unfold moveOfItself; omega)
  simp only [decodeTableWord, small, leBytes_add 2 6, decodeBytes_moveOfItself hp hn]

/-- The general move of a register to itself. -/
def generalSelfMove (p n : Nat) : GV := ⟨BitVec.ofNat 3 p, false, .s32, .rne, false, 0, BitVec.ofNat 7 n, BitVec.ofNat 7 n, 0, 0⟩

/-- Bits put together, as a number. -/
theorem toNat_append_eq {m k : Nat} {x : BitVec m} {y : BitVec k} :
    BitVec.toNat (no_index (x ++ y)) = 2 ^ k * x.toNat + y.toNat := by
  rw [BitVec.toNat_append, Nat.shiftLeft_eq, Nat.mul_comm, Nat.two_pow_add_eq_or_of_lt y.isLt]

theorem toNat_generalSelfMove {p n : Nat} (hp : p < 8) (hn : n < 128) :
    (packGeneral 8 27 (.v (generalSelfMove p n))).toNat = 0x1B23 + 2 ^ 18 * p + 2 ^ 36 * n + 2 ^ 43 * n := by
  simp [packGeneral, generalSelfMove, toNat_append_eq, Rnd.code, Ty.code, Nat.mod_eq_of_lt hp, Nat.mod_eq_of_lt hn]
  omega

/-- Settles O59: the parcel's instruction would be C.MOV with va = vb, which is not well formed. -/
theorem moveOfItselfTraps : Obligations.MoveOfItselfTraps := by
  refine ⟨fun p n hp hn => ⟨decodeTableWord_moveOfItself hp hn, fun s a rest hi hc u hf => ?_⟩, rfl, fun p n hp hn => ?_⟩
  · have bad := decodeBytes_moveOfItself hp hn []
    rw [List.append_nil] at bad
    exact step_eq_trap_illegal hi hc hf bad
  · refine decodeTableWord_of_encode (i := .vmov (generalSelfMove p n)) rfl rfl le_rfl ?_
    rw [← toNat_generalSelfMove hp hn, Nat.mod_eq_of_lt (BitVec.isLt _)]

end Sys2Proof

/-! PROOFS. O52 fails: the step counts skid by the halt that stood before the instruction, the statement by the one after it. -/

namespace Sys2Proof
open Machine Claims

/-- A placed warp whose next instruction is TRAP 0 (short), of a grid that has a trap handler; no halt has been broadcast. -/
def trapAhead : State :=
  (State.reset.placed none (leBytes 8 0x401)).updGrid 1 fun x =>
    { x with record := { x.record with words := listSet x.record.words 7 0x2000 } }

/-- The state in which its TRAP is executed. -/
def trapFetched : State := ((issuing trapAhead (.warp 1 0) []).fetch (.warp 1 0) 0x1000).2

/-- The state that the TRAP leaves: the warp holds its trap, and the halt is broadcast in its workgroup (16 R376). -/
def trapTaken : State :=
  trapFetched.holdTrap (.warp 1 0) none .software none
    ⟨.sync, causeWord .software none 0 none, trapFetched.nextPc 4, trapFetched.headMask, trapFetched.headMask, 0, 0, none⟩

theorem fetch_trapAhead :
    (issuing trapAhead (.warp 1 0) []).fetch (.warp 1 0) ((issuing trapAhead (.warp 1 0) []).pcOf (.warp 1 0)) =
      (.bytes (leBytes 4 0x401), trapFetched) := by
  have bytes : ((issuing trapAhead (.warp 1 0) []).fetch (.warp 1 0) 0x1000).1 = .bytes (leBytes 4 0x401) := by decide +kernel
  have pc : (issuing trapAhead (.warp 1 0) []).pcOf (.warp 1 0) = 0x1000 := by decide +kernel
  rw [pc]
  exact Prod.ext bytes rfl

theorem exec_trapAhead : exec (.trapShort 0) trapFetched = .next trapTaken := by
  have runs : trapFetched.decodeCause ⟨4, 0, 4, .sys 0⟩ = none ∧ trapFetched.scalarPoison ⟨4, 0, 4, .sys 0⟩ = none ∧
      trapFetched.cur = .warp 1 0 := by decide +kernel
  obtain ⟨allowed, clean, cur⟩ := runs
  have op : exec (.trapShort 0) trapFetched = trapOp 4 ((0 : BitVec 16).setWidth 46) trapFetched := rfl
  rw [op, trapOp]
  rw [show (0 : BitVec 16).setWidth 46 = 0 from rfl, checked_ok _ _ _ allowed clean, trapTaken, cur]
  rfl

/-- Refutes O52: a TRAP moves on and broadcasts the halt, so that the statement counts it as skid; the step does not, since the
workgroup was not halted when it issued (16 R376). -/
theorem not_stepsRunWhatDecodes : ¬ Obligations.StepsRunWhatDecodes := by
  intro h
  have stepped : step trapAhead = .next (trapTaken.noteIssue (.warp 1 0) true true) := by
    have inputs : trapAhead.inputs = .issue (.warp 1 0) :: [] := rfl
    have issues : (issuing trapAhead (.warp 1 0) []).canIssue (.warp 1 0) = true := by decide +kernel
    have decodes : decodeBytes (leBytes 4 0x401) = .ok (.trapShort 0, []) :=
      decodeBytes_of_encode (n := 4) (w := 0x401) (i := .trapShort 0) rfl rfl []
    have single : trapFetched.fusedAt (.warp 1 0) ⟨4, 0, 4, .sys 0⟩ = none := by decide +kernel
    have noted : trapFetched.issued trapTaken (.warp 1 0) (some ⟨4, 0, 4, .sys 0⟩) = true ∧ (trapTaken.group 1).halt.isSome = true := by
      decide +kernel
    obtain ⟨issued, halted⟩ := noted
    obtain ⟨agents, -⟩ := h
    obtain ⟨fetched, -⟩ := (agents trapAhead (.warp 1 0) [] inputs).2 issues trapFetched
    have noticed := (fetched _ fetch_trapAhead).2 (.trapShort 0) [] _ _ _ decodes rfl (.inl ⟨single, rfl⟩) exec_trapAhead
    rw [noticed, show (Instr.trapShort 0).form = some ⟨4, 0, 4, .sys 0⟩ from rfl, issued]
    simp [groupOf, halted]
  have counted : ((trapTaken.noteIssue (.warp 1 0) true true).agent (.warp 1 0)).skid = 1 := by decide +kernel
  have uncounted : (match step trapAhead with | .next t => (t.agent (.warp 1 0)).skid | _ => 7) = 0 := by decide +kernel
  rw [stepped] at uncounted
  exact absurd (counted.symm.trans uncounted) (by decide)

end Sys2Proof

/-! PROOFS. O51: what decodes is well formed, and the decode checks come before every effect (06 R148-R169; 17 R392; 19 R425). -/

namespace Sys2Proof
open Machine Claims

/-- Every instruction's meaning begins with the checks of its general form (06 R168). -/
theorem exec_eq_checked {i : Instr} {f : Form} (hf : i.form = some f) (s : State) : ∃ k, exec i s = checked f s k := by
  cases i with
  | nop | yield | nopShort | yieldShort => cases hf; exact ⟨_, Eq.refl (nopOp _ _ _ _)⟩
  | exit | exitShort => cases hf; exact ⟨_, Eq.refl (exitOp _ _ _)⟩
  | trap _ | trapShort _ => cases hf; exact ⟨_, Eq.refl (trapOp _ _ _)⟩
  | tret | tretShort => cases hf; exact ⟨_, Eq.refl (tretOp _ _ _)⟩
  | prio _ | prioShort _ => cases hf; exact ⟨_, Eq.refl (prioOp _ _ _)⟩
  | wait _ | waitShort _ => cases hf; exact ⟨_, Eq.refl (waitOp _ _ _)⟩
  | launch _ _ => cases hf; exact ⟨_, Eq.refl (launchOp _ _ _)⟩
  | halt | haltShort => cases hf; exact ⟨_, Eq.refl (haltOp _ _ _)⟩
  | wfi | wfiShort => cases hf; exact ⟨_, Eq.refl (wfiOp _ _ _)⟩
  | srd _ _ => cases hf; exact ⟨_, Eq.refl (execSrd _ _ _)⟩
  | swr _ _ => cases hf; exact ⟨_, Eq.refl (execSwr _ _ _)⟩
  | sadd _ | ssub _ | smul _ | smulhS _ | smulhN _ | sdivS _ | sdivN _ | sremS _ | sremN _ | sand _ | sor _ | sxor _
  | sandn _ | sshl _ | sshrS _ | sshrN _ | srotr _ | sminS _ | sminN _ | smaxS _ | smaxN _ | sclz _ | sffs _ | spopc _
  | sbrev _ | ssel _ | scmp _ | sext _ | smov _ | sbfx _ | sbfi _ | smad _ | saddShort _ | ssubShort _ | smulShort _
  | smulhSShort _ | smulhNShort _ | sdivSShort _ | sdivNShort _ | sremSShort _ | sremNShort _ | sandShort _ | sorShort _
  | sxorShort _ | sandnShort _ | sshlShort _ | sshrSShort _ | sshrNShort _ | srotrShort _ | sminSShort _ | sminNShort _
  | smaxSShort _ | smaxNShort _ | sclzShort _ | sffsShort _ | spopcShort _ | sbrevShort _ | sselShort _ | scmpShort _
  | sextShort _ | smovShort _ | sbfxShort _ | sbfiShort _ | smadShort _ => cases hf; exact ⟨_, Eq.refl (saluOp _ _ _ _)⟩
  | saddi _ | sandi _ | sori _ | sxori _ | sshli _ | sshriS _ | sshriN _ | sli | slih _ | scmpi _ | saddiShort _ _ _
  | sliShort _ _ => cases hf; exact ⟨_, Eq.refl (saluiOp _ _ _ _)⟩
  | br _ | brz _ | brnz _ | brc _ | brShort _ | brzShort _ _ | brnzShort _ _ => cases hf; exact ⟨_, Eq.refl (uniformOp _ _ _ _)⟩
  | call _ | callShort _ => cases hf; exact ⟨_, Eq.refl (callOp _ _ _)⟩
  | jmpr _ | ret _ => cases hf; exact ⟨_, Eq.refl (jumpOp _ _ _ _)⟩
  | callr _ => cases hf; exact ⟨_, Eq.refl (callrOp _ _ _)⟩
  | brp _ | brpShort _ _ _ => cases hf; exact ⟨_, Eq.refl (brpOp _ _ _)⟩
  | loop _ => cases hf; exact ⟨_, Eq.refl (loopOp _ _ _)⟩
  | sld _ | sld64Short _ _ _ => cases hf; exact ⟨_, Eq.refl (sldOp _ _ _)⟩
  | sst _ | sst64Short _ _ _ => cases hf; exact ⟨_, Eq.refl (sstOp _ _ _)⟩
  | satom _ => cases hf; exact ⟨_, Eq.refl (satomOp _ _ _)⟩
  | vadd _ | vsub _ | vmul _ | vmulh _ | vmad _ | vadds _ | vsubs _ | vabsd _ | vmin _ | vmax _ | vand _ | vor _ | vxor _
  | vandn _ | vnot _ | vshl _ | vshr _ | vrotr _ | vclz _ | vffs _ | vpopc _ | vbrev _ | vaddmin _ | vbfx _ | vbfi _
  | vmov _ | cMov _ | cAddS32 _ | cSubS32 _ | cAnd _ | cOr _ | cXor _ | cShlN32 _ | cShrN32 _ | cMinS32 _ | cMaxS32 _
  | cNot _ | vaddS32Short _ | vsubS32Short _ | vmulS32Short _ | vminS32Short _ | vmaxS32Short _ | vminN32Short _
  | vmaxN32Short _ | vandShort _ | vorShort _ | vxorShort _ | vshlN32Short _ | vshrN32Short _ | vshrS32Short _
  | vaddminS32Short _ => cases hf; exact ⟨_, Eq.refl (vintOp _ _ _ _)⟩
  | vsel _ | vselShort _ => cases hf; exact ⟨_, Eq.refl (vselOp _ _ _)⟩
  | vcmp _ | vcmpLtS32Short _ => cases hf; exact ⟨_, Eq.refl (vcmpOp _ _ _)⟩
  | vsrd _ => cases hf; exact ⟨_, Eq.refl (vsrdOp _ _ _)⟩
  | vintiVadd _ | vintiVand _ | vintiVor _ | vintiVxor _ | vintiVshl _ | vintiVshr _ | vintiVmin _ | vintiVmax _
  | vintiVaddmin _ | vintiVaddShort _ | vintiVandShort _ | vintiVshlShort _ | vintiVshrN32Short _ | vintiVshrS32Short _
  | vintiVminShort _ | vintiVmaxShort _ => cases hf; exact ⟨_, Eq.refl (vintiOp _ _ _ _)⟩
  | vintiVcmp _ | vintiVcmpEqShort _ => cases hf; exact ⟨_, Eq.refl (vintiCmpOp _ _ _)⟩
  | vmovi _ => cases hf; exact ⟨_, Eq.refl (vmoviOp _ _ _)⟩
  | fadd _ | fsub _ | fmul _ | ffma _ | ffms _ | fmin _ | fmax _ | fabs _ | fneg _ | fscaleb _ | frnd _ | fdiv _ | faddmin _
  | cFaddF32 _ | cFsubF32 _ | cFmulF32 _ | cFminF32 _ | cFmaxF32 _ | faddF32Short _ | fsubF32Short _ | fmulF32Short _
  | fminF32Short _ | fmaxF32Short _ | faddBf16x2Short _ | fmulBf16x2Short _ | ffmaF32Short _ | ffmaBf16x2Short _ =>
    cases hf; exact ⟨_, Eq.refl (vfltOp _ _ _ _)⟩
  | fcmp _ | fcmpLtF32Short _ => cases hf; exact ⟨_, Eq.refl (fcmpOp _ _ _)⟩
  | fclass _ => cases hf; exact ⟨_, Eq.refl (fclassOp _ _ _)⟩
  | cvt _ => cases hf; exact ⟨_, Eq.refl (cvtOp _ _ _)⟩
  | pack => cases hf; exact ⟨_, Eq.refl (packOp _ _ _)⟩
  | unpack _ => cases hf; exact ⟨_, Eq.refl (unpackOp _ _ _)⟩
  | mxscale _ => cases hf; exact ⟨_, Eq.refl (mxscaleOp _ _ _)⟩
  | vshfl _ | vshup _ | vshdn _ | vrotw _ | vbcast _ | qswap _ | qbcast _ | vshflShort _ =>
    cases hf; exact ⟨_, Eq.refl (vxlMove _ _ _ _)⟩
  | vreduce _ => cases hf; rw [exec_vreduce, execVreduce, vreduceOp]; exact ⟨_, Eq.refl (wholeWarp _ _ _ _ _)⟩
  | vscan _ => cases hf; rw [exec_vscan, execVscan, vscanOp]; exact ⟨_, Eq.refl (wholeWarp _ _ _ _ _)⟩
  | vballot _ => cases hf; rw [exec_vballot, execVballot, vballotOp]; exact ⟨_, Eq.refl (wholeWarp _ _ _ _ _)⟩
  | vvote _ => cases hf; rw [exec_vvote, execVvote, vvoteOp]; exact ⟨_, Eq.refl (wholeWarp _ _ _ _ _)⟩
  | vmatch _ => cases hf; rw [exec_vmatch, execVmatch, vmatchOp]; exact ⟨_, Eq.refl (wholeWarp _ _ _ _ _)⟩
  | pand _ | por | pxor _ | pnot _ => cases hf; exact ⟨_, Eq.refl (ppOp _ _ _ _)⟩
  | pset _ => cases hf; exact ⟨_, Eq.refl (psetOp _ _ _)⟩
  | pget _ => cases hf; exact ⟨_, Eq.refl (pgetOp _ _ _)⟩
  | frcp _ | frsq _ | fexp2 _ | flog2 _ | fsin _ | fcos _ | ftanh _ => cases hf; exact ⟨_, Eq.refl (sfuOp _ _ _ _)⟩
  | fsqrt _ => cases hf; exact ⟨_, Eq.refl (fsqrtOp _ _ _)⟩
  | vld | vst _ | vgather _ | vscatter _ | vldstep | vld32Short _ | vst32Short _ =>
    cases hf; exact ⟨_, Eq.refl (vmemOp _ _ _ _)⟩
  | vpref _ => cases hf; exact ⟨_, Eq.refl (vprefOp _ _ _)⟩
  | vspill _ | vfill _ => cases hf; exact ⟨_, Eq.refl (spillOp _ _ _ _)⟩
  | vatom _ | vred _ => cases hf; exact ⟨_, Eq.refl (vatomOp _ _ _ _)⟩
  | fence _ => cases hf; exact ⟨_, Eq.refl (fenceOp _ _ _)⟩
  | binit _ => cases hf; rw [exec_binit, execBinit, binitOp]; exact ⟨_, Eq.refl (barrierOp _ _ _ _ _ _)⟩
  | barrive _ => cases hf; rw [exec_barrive, execBarrive, barriveOp]; exact ⟨_, Eq.refl (barrierOp _ _ _ _ _ _)⟩
  | bwait _ => cases hf; rw [exec_bwait, execBwait, bwaitOp]; exact ⟨_, Eq.refl (barrierOp _ _ _ _ _ _)⟩
  | btest _ => cases hf; rw [exec_btest, execBtest, btestOp]; exact ⟨_, Eq.refl (barrierOp _ _ _ _ _ _)⟩
  | wsync _ => cases hf; exact ⟨_, Eq.refl (wsyncOp _ _ _)⟩
  | cvinit _ => cases hf; exact ⟨_, Eq.refl (cvinitOp _ _ _)⟩
  | mwait => cases hf; exact ⟨_, Eq.refl (mwaitOp _ _ _)⟩
  | qpush => cases hf; exact ⟨_, Eq.refl (qpushOp _ _ _)⟩
  | qpop => cases hf; exact ⟨_, Eq.refl (qpopOp _ _ _)⟩
  | qpops _ => cases hf; exact ⟨_, Eq.refl (qpopsOp _ _ _)⟩
  | qstat _ => cases hf; exact ⟨_, Eq.refl (qstatOp _ _ _)⟩
  | mma _ | mmas _ | mmai _ | mmax _ => cases hf; exact ⟨_, Eq.refl (mmaOp _ _ _ _)⟩
  | awin _ => cases hf; exact ⟨_, Eq.refl (awinOp _ _ _)⟩
  | azero _ | arstat _ => cases hf; exact ⟨_, Eq.refl (accOp _ _ _ _)⟩
  | ald _ | ast _ => cases hf; exact ⟨_, Eq.refl (accMoveOp _ _ _ _)⟩
  | cpy _ | cpyg _ | cpyz _ => cases hf; exact ⟨_, Eq.refl (copyOp _ _ _ _)⟩
  | sealRecord _ => cases hf; exact ⟨_, Eq.refl (sealOp _ _ _)⟩
  | strdef _ => cases hf; exact ⟨_, Eq.refl (strdefOp _ _ _)⟩
  | strrun _ => cases hf; exact ⟨_, Eq.refl (strrunOp _ _ _)⟩
  | twany _ | twall _ => cases hf; exact ⟨_, Eq.refl (tagWaitOp _ _ _ _)⟩
  | tfirst _ => cases hf; exact ⟨_, Eq.refl (tfirstOp _ _ _)⟩
  | tclr _ => cases hf; exact ⟨_, Eq.refl (tclrOp _ _ _)⟩
  | gattach _ => cases hf; exact ⟨_, Eq.refl (gattachOp _ _ _)⟩
  | gstep => cases hf; exact ⟨_, Eq.refl (gstepOp _ _ _)⟩
  | gstat _ => cases hf; exact ⟨_, Eq.refl (gstatOp _ _ _)⟩
  | gdetach _ => cases hf; exact ⟨_, Eq.refl (gdetachOp _ _ _)⟩
  | kscan _ => cases hf; exact ⟨_, Eq.refl (kscanOp _ _ _)⟩
  | jappend _ => cases hf; exact ⟨_, Eq.refl (jappendOp _ _ _)⟩
  | jread _ => cases hf; exact ⟨_, Eq.refl (jreadOp _ _ _)⟩
  | vdrd _ => cases hf; rw [exec_vdrd, execVdrd, vdrdOp]; exact ⟨_, Eq.refl (vdcmd _ _ _ _ _)⟩
  | vdwr _ => cases hf; rw [exec_vdwr, execVdwr, vdwrOp]; exact ⟨_, Eq.refl (vdcmd _ _ _ _ _)⟩
  | qrd _ => cases hf; rw [exec_qrd, execQrd, qrdOp]; exact ⟨_, Eq.refl (vdcmd _ _ _ _ _)⟩
  | qwr _ => cases hf; rw [exec_qwr, execQwr, qwrOp]; exact ⟨_, Eq.refl (vdcmd _ _ _ _ _)⟩
  | irtrd _ => cases hf; rw [exec_irtrd, execIrtrd, irtrdOp]; exact ⟨_, Eq.refl (vdcmd _ _ _ _ _)⟩
  | irtwr _ => cases hf; rw [exec_irtwr, execIrtwr, irtwrOp]; exact ⟨_, Eq.refl (vdcmd _ _ _ _ _)⟩
  | vdcmdStart _ => cases hf; rw [exec_vdcmdStart, execVdcmdStart, startOp]; exact ⟨_, Eq.refl (vdcmd _ _ _ _ _)⟩
  | vdcmdRetire _ => cases hf; rw [exec_vdcmdRetire, execVdcmdRetire, retireOp]; exact ⟨_, Eq.refl (vdcmd _ _ _ _ _)⟩
  | vdcmdKill _ => cases hf; rw [exec_vdcmdKill, execVdcmdKill, killOp]; exact ⟨_, Eq.refl (vdcmd _ _ _ _ _)⟩
  | irqsend _ => cases hf; exact ⟨_, Eq.refl (irqsendOp _ _ _)⟩
  | chold _ => cases hf; exact ⟨_, Eq.refl (choldOp _ _ _)⟩
  | crelease _ => cases hf; exact ⟨_, Eq.refl (creleaseOp _ _ _)⟩
  | _ => cases hf

theorem checksComeFirst : ChecksComeFirst := by
  intro i f s hf
  obtain ⟨k, meaning⟩ := exec_eq_checked hf s
  rw [meaning]
  exact ⟨fun c => checked_cause f s k c, fun p allowed poisoned => checked_poison f s k p allowed poisoned⟩

/-! The agent checks (06 R169; 19 R425, R428). -/

/-- A QUE form that is an instruction is one of its four functions (13 R338). -/
theorem function_lt_of_legal_que {f : Form} (h : legalForm f = true) (hc : f.cls = 0x13) : f.fn < 4 := by
  obtain ⟨len, cls, fn, l⟩ := f
  subst hc
  cases l with
  | v o =>
    have legal : legalV 0x13 fn o = true := h
    unfold legalV at legal
    split at legal
    · exact absurd legal (by decide)
    · next r row => exact (List.getElem?_eq_some_iff.mp row).1
  | s o => simp [legalForm, legalS] at h
  | si o => simp [legalForm, legalSI] at h
  | m o => simp [legalForm, legalM] at h
  | mm o => simp [legalForm, legalMM] at h
  | k o => simp [legalForm, legalK] at h
  | sys b => simp [legalForm] at h
  | b o => simp [legalForm] at h
  | vi o => simp [legalForm] at h

theorem may_warp_iff {g w c f : Nat} :
    May (.warp g w) c f ↔ (c ≠ 0x1C ∧ c ≠ 0x1E) ∧ (c = 0 → f ≠ 9 ∧ f ≠ 10) :=
  ⟨fun | .warp h h0 => ⟨h, h0⟩, fun ⟨h, h0⟩ => .warp h h0⟩

theorem may_stoker_iff {g c f : Nat} :
    May (.stoker g) c f ↔ (c ≤ 4 ∧ (c = 0 → f ≠ 5 ∧ f ≠ 6 ∧ f ≠ 9 ∧ f ≠ 10) ∧ (c = 3 → f ≠ 8)) ∨
      (c = 0x12 ∧ (f ≤ 4 ∨ f = 7)) ∨ (c = 0x13 ∧ (f = 0 ∨ f = 2 ∨ f = 3)) ∨ c = 0x1C ∨ c = 0x1D := by
  constructor
  · rintro (_ | ⟨h, h0, h3⟩ | ⟨h⟩ | ⟨h⟩ | ⟨h⟩)
    · exact .inl ⟨h, h0, h3⟩
    · exact .inr (.inl ⟨rfl, h⟩)
    · exact .inr (.inr (.inl ⟨rfl, h⟩))
    · exact .inr (.inr (.inr h))
  · rintro (⟨h, h0, h3⟩ | ⟨rfl, h⟩ | ⟨rfl, h⟩ | h)
    · exact .stokerScalar h h0 h3
    · exact .stokerSync h
    · exact .stokerQue h
    · exact .stokerOwn h

theorem may_ctl_iff {n c f : Nat} :
    May (.ctl n) c f ↔ (c ≤ 4 ∧ (c = 0 → f ≠ 2 ∧ f ≠ 6 ∧ f ≠ 8) ∧ (c = 3 → f ≠ 8)) ∨ c = 0x1E := by
  constructor
  · rintro (_ | _ | _ | _ | _ | ⟨h, h0, h3⟩ | _)
    · exact .inl ⟨h, h0, h3⟩
    · exact .inr rfl
  · rintro (⟨h, h0, h3⟩ | rfl)
    · exact .ctlScalar h h0 h3
    · exact .ctlOwn

/-- Outside SYS, the permissions of the model are those of R169. -/
theorem may_iff_permitted {a : AgentId} {cls : BitVec 6} {fn : Nat} (h0 : cls ≠ 0) (hq : cls = 0x13 → fn < 4) :
    May a cls.toNat fn ↔ permitted (kindOf a) cls fn = true := by
  have code (k : BitVec 6) : cls = k ↔ cls.toNat = k.toNat := BitVec.toNat_inj.symm
  have sys : cls.toNat ≠ 0 := fun h => h0 ((code 0).mpr h)
  have que : cls.toNat = 19 → fn < 4 := fun h => hq ((code 0x13).mpr h)
  cases a with
  | warp g w =>
    simp [permitted, kindOf, code, may_warp_iff]
    omega
  | stoker g =>
    simp [permitted, kindOf, code, may_stoker_iff]
    omega
  | ctl c =>
    simp [permitted, kindOf, code, may_ctl_iff]
    omega

/-- A CTLC form that is an instruction has one of its seven functions, and VDCMD one of its nine operations (19 R425, R428). -/
theorem ctlc_function_lt {len fn : Nat} {o : GS} (h : legalForm ⟨len, 0x1E, fn, .s o⟩ = true) :
    fn < 7 ∧ (fn = 3 → o.cw.toNat < 9) := by
  have legal : legalCtlc fn o = true := by
    simp [legalForm, legalS] at h
    exact h.2
  unfold legalCtlc at legal
  split at legal <;> simp_all

/-- The roles that may use a CTLC function are those of R425 and R428. -/
theorem roleMay_iff {r fn : Nat} {cw : BitVec 4} (hf : fn < 7) (ho : fn = 3 → cw.toNat < 9) :
    RoleMay r fn cw.toNat ↔ r ∈ ctlcRoles fn cw := by
  generalize hop : cw.toNat = op at ho ⊢
  constructor
  · intro h
    cases h with
    | scan | kill => simp [ctlcRoles, hop]
    | journal hr h => rcases h with rfl | rfl | rfl <;> simp [ctlcRoles] <;> omega
    | irq h => rcases h with rfl | rfl <;> simp [ctlcRoles]
    | reads hr h => rcases h with rfl | rfl | rfl <;> simp [ctlcRoles, hop] <;> omega
    | writes h => rcases h with rfl | rfl | rfl <;> simp [ctlcRoles, hop]
    | start h => rcases h with rfl | rfl <;> simp [ctlcRoles, hop]
  · intro h
    match fn, hf, ho with
    | 0, _, _ => obtain rfl : r = 0 := by simpa [ctlcRoles] using h
                 exact .scan
    | 1, _, _ | 2, _, _ | 4, _, _ => exact .journal (by simp [ctlcRoles] at h; omega) (by decide)
    | 5, _, _ | 6, _, _ => obtain rfl : r = 0 := by simpa [ctlcRoles] using h
                           exact .irq (by decide)
    | 3, _, ho =>
      have lt := ho rfl
      match op, lt with
      | 0, _ | 2, _ | 4, _ => exact .reads (by simp [ctlcRoles, hop] at h; omega) (by decide)
      | 1, _ | 3, _ | 5, _ => obtain rfl : r = 1 := by simpa [ctlcRoles, hop] using h
                              exact .writes (by decide)
      | 6, _ | 7, _ => obtain rfl : r = 0 := by simpa [ctlcRoles, hop] using h
                       exact .start (by decide)
      | 8, _ => obtain rfl : r = 2 := by simpa [ctlcRoles, hop] using h
                exact .kill

/-- Outside SYS, what remains of the decode checks for a form that is an instruction and whose vector registers are in the
window: the agent, and the role of a control core (06 R168). -/
theorem decodeCause_of_legal {s : State} {f : Form} (hl : legalForm f = true) (h0 : f.cls ≠ 0)
    (hv : ∀ g w, s.cur = .warp g w → vectorsOk f (s.group g).vregs = true) :
    s.decodeCause f = if !permitted (kindOf s.cur) f.cls f.fn then some .wrongAgent
      else match f.lay, s.cur with
        | .s o, .ctl c => if f.cls == 0x1E && !(ctlcRoles f.fn o.cw).contains (c / 2) then some .priv else none
        | _, _ => none := by
  obtain ⟨len, cls, fn, l⟩ := f
  cases l with
  | sys b =>
    simp [legalForm] at hl
    exact absurd hl.1 h0
  | _ =>
    cases ha : s.cur with
    | warp g w => simp [State.decodeCause, hl, ha, hv g w ha]
    | _ => simp [State.decodeCause, hl, ha]

theorem agentsAndRoles : AgentsAndRoles := by
  refine fun s f => ⟨fun hl => by simp [State.decodeCause, hl], fun hl h0 hv => ?_⟩
  have may : May s.cur f.cls.toNat f.fn ↔ permitted (kindOf s.cur) f.cls f.fn = true :=
    may_iff_permitted h0 (function_lt_of_legal_que hl)
  rw [decodeCause_of_legal hl h0 hv, may]
  refine ⟨fun no => by simp [no], fun yes other => ?_, fun c o ha hc hs => ?_⟩
  · have unroled : (f.cls == 0x1E) = false := beq_false_of_ne other
    rw [yes, unroled]
    cases f.lay <;> cases s.cur <;> rfl
  · obtain ⟨len, cls, fn, l⟩ := f
    subst hc hs
    obtain ⟨functions, operations⟩ := ctlc_function_lt hl
    simp [ha, permitted, kindOf, roleMay_iff functions operations]

end Sys2Proof

/-! PROOFS. O51: what the decoder accepts is well formed and has the length of its first parcel (06 R148, R152-R168). -/

namespace Sys2Proof
open Machine Claims

theorem eq_some_of_accept {c : Option Instr} {i : Instr} (h : accept c = .ok i) : c = some i ∧ i.wf = true := by
  unfold accept at h
  split at h
  · cases h
  · split at h
    · next hw => cases h; exact ⟨rfl, hw⟩
    · cases h

/-! The tables: each holds instructions with encodings of one length. -/

/-- The bytes of an instruction's encoding; none for an event. -/
def Instr.size (i : Instr) : Option Nat := i.form.map Form.len

/-- Every instruction of a table has an encoding of `n` bytes. -/
def Sized {α : Type} (n : Nat) (ops : List (α → Instr)) : Prop := ∀ c ∈ ops, ∀ o, (c o).size = some n

theorem Sized.of_map {α : Type} {n : Nat} {ops : List (α → Instr)}
    (h : ∀ o, ops.map (fun c => (c o).size) = List.replicate ops.length (some n)) : Sized n ops := by
  intro c hc o
  have mem : (c o).size ∈ List.replicate ops.length (some n) := h o ▸ List.mem_map.mpr ⟨c, hc, rfl⟩
  exact List.eq_of_mem_replicate mem

theorem Sized.row {α : Type} {n k : Nat} {ops : List (α → Instr)} {o : α} {i : Instr} (h : Sized n ops)
    (hi : ops[k]?.map (· o) = some i) : i.size = some n := by
  obtain ⟨c, hc, rfl⟩ := Option.map_eq_some_iff.mp hi
  exact h c (List.mem_of_getElem? hc) o

theorem sized_compactOps : Sized 2 compactOps := .of_map fun _ => rfl
theorem sized_shortV3Ops : Sized 4 shortV3Ops := .of_map fun _ => rfl
theorem sized_shortVIOps : Sized 4 shortVIOps := .of_map fun _ => rfl
theorem sized_shortS3Ops : Sized 4 shortS3Ops := .of_map fun _ => rfl
theorem sized_saluOps : Sized 8 saluOps := .of_map fun _ => rfl
theorem sized_saluiOps : Sized 8 saluiOps := .of_map fun _ => rfl
theorem sized_smemOps : Sized 8 ([.sld, .sst] : List (GSI → Instr)) := .of_map fun _ => rfl
theorem sized_sctlOps : Sized 8 sctlOps := .of_map fun _ => rfl
theorem sized_vintOps : Sized 8 vintOps := .of_map fun _ => rfl
theorem sized_vintiOps : Sized 8 vintiOps := .of_map fun _ => rfl
theorem sized_vfltOps : Sized 8 vfltOps := .of_map fun _ => rfl
theorem sized_vcvtOps : Sized 8 vcvtOps := .of_map fun _ => rfl
theorem sized_vxlOps : Sized 8 vxlOps := .of_map fun _ => rfl
theorem sized_vpredOps : Sized 8 vpredOps := .of_map fun _ => rfl
theorem sized_vsfuOps : Sized 8 vsfuOps := .of_map fun _ => rfl
theorem sized_vmemOps : Sized 8 vmemOps := .of_map fun _ => rfl
theorem sized_vatomOps : Sized 8 vatomOps := .of_map fun _ => rfl
theorem sized_syncOps : Sized 8 syncOps := .of_map fun _ => rfl
theorem sized_queOps : Sized 8 queOps := .of_map fun _ => rfl
theorem sized_mmaOps : Sized 8 mmaOps := .of_map fun _ => rfl
theorem sized_accOps : Sized 8 accOps := .of_map fun _ => rfl
theorem sized_stkOps : Sized 8 stkOps := .of_map fun _ => rfl
theorem sized_gridOps : Sized 8 gridOps := .of_map fun _ => rfl
theorem sized_vdcmdOps : Sized 8 ([.vdrd, .vdwr, .qrd, .qwr, .irtrd, .irtwr, .vdcmdStart, .vdcmdRetire, .vdcmdKill] :
    List (GS → Instr)) := .of_map fun _ => rfl

theorem size_of_ctlcOp {fn : Nat} {o : GS} {i : Instr} (h : ctlcOp fn o = some i) : i.size = some 8 := by
  unfold ctlcOp at h
  split at h
  case h_4 => exact sized_vdcmdOps.row h
  case h_8 => cases h
  all_goals cases h; rfl

theorem size_of_ofForm {f : Form} {i : Instr} (hf : f.len = 8) (h : Instr.ofForm f = some i) : i.size = some 8 := by
  obtain ⟨len, cls, fn, l⟩ := f
  cases l with
  | sys b =>
    simp only [Instr.ofForm] at h
    split at h
    · obtain ⟨-, own⟩ := Option.filter_eq_some_iff.mp h
      rw [Instr.size, eq_of_beq own, Option.map_some, hf]
    · cases h
  | s o =>
    simp only [Instr.ofForm] at h
    split at h
    · exact sized_saluOps.row h
    · split at h
      · cases h; rfl
      · cases h
    · exact sized_syncOps.row h
    · exact size_of_ctlcOp h
    · cases h
  | si o =>
    simp only [Instr.ofForm] at h
    split at h
    · exact sized_saluiOps.row h
    · exact sized_smemOps.row h
    · cases h
  | b o => exact sized_sctlOps.row h
  | v o =>
    simp only [Instr.ofForm] at h
    split at h
    · exact sized_vintOps.row h
    · exact sized_vfltOps.row h
    · exact sized_vcvtOps.row h
    · exact sized_vxlOps.row h
    · exact sized_vpredOps.row h
    · exact sized_vsfuOps.row h
    · exact sized_queOps.row h
    · cases h
  | vi o => exact sized_vintiOps.row h
  | m o =>
    simp only [Instr.ofForm] at h
    split at h
    · exact sized_vmemOps.row h
    · exact sized_vatomOps.row h
  | mm o =>
    simp only [Instr.ofForm] at h
    split at h
    · exact sized_mmaOps.row h
    · exact sized_accOps.row h
  | k o =>
    simp only [Instr.ofForm] at h
    split at h
    · exact sized_stkOps.row h
    · exact sized_gridOps.row h

theorem size_of_shortSys {w : BitVec 32} {i : Instr} (h : shortSys w = some i) : i.size = some 4 := by
  unfold shortSys at h
  extract_lets f imm plain at h
  have size_of_plain {j : Instr} (hj : j.size = some 4) (hp : plain j = some i) : i.size = some 4 := by
    simp only [plain] at hp
    split at hp
    · cases hp; exact hj
    · cases hp
  split at h
  · exact size_of_plain rfl h
  · exact size_of_plain rfl h
  · exact size_of_plain rfl h
  · cases h; rfl
  · exact size_of_plain rfl h
  · split at h
    · cases h; rfl
    · cases h
  · exact size_of_plain rfl h
  · exact size_of_plain rfl h
  · cases h

/-! What decodes: well formed, with an encoding. -/

theorem decodeCompact_sound {p : BitVec 16} {i : Instr} (h : decodeCompact p = .ok i) : i.wf = true ∧ i.size = some 2 := by
  obtain ⟨row, wf⟩ := eq_some_of_accept h
  exact ⟨wf, sized_compactOps.row row⟩

theorem decodeShort_sound {w : BitVec 32} {i : Instr} (h : decodeShort w = .ok i) : i.wf = true ∧ i.size = some 4 := by
  have sound {c : Option Instr} (hc : ∀ j, c = some j → j.size = some 4) (ha : accept c = .ok i) : i.wf = true ∧ i.size = some 4 := by
    obtain ⟨row, wf⟩ := eq_some_of_accept ha
    exact ⟨wf, hc i row⟩
  unfold decodeShort at h
  extract_lets m v3 vi vm s3 at h
  clear_value m v3 vi vm s3
  split at h
  · exact sound (fun _ => size_of_shortSys) h
  split at h
  · exact sound (fun _ => sized_shortV3Ops.row) h
  split at h
  · exact sound (fun _ => sized_shortVIOps.row) h
  split at h
  · exact sound (fun _ => sized_shortS3Ops.row) h
  split at h
  case h_9 => exact sound (fun j hj => by split at hj <;> cases hj <;> rfl) h
  case h_12 => cases h
  all_goals exact sound (fun j hj => by cases hj; rfl) h

theorem decodeGeneral_sound {w : BitVec 64} {i : Instr} (h : decodeGeneral w = .ok i) : i.wf = true ∧ i.size = some 8 := by
  unfold decodeGeneral at h
  split at h
  · cases h
  · split at h
    · cases h
    · obtain ⟨row, wf⟩ := eq_some_of_accept h
      exact ⟨wf, size_of_ofForm rfl row⟩

theorem instrLength_cases (p : BitVec 16) : instrLength p = 2 ∨ instrLength p = 4 ∨ instrLength p = 8 := by
  unfold instrLength
  split
  · exact .inl rfl
  · split
    · exact .inr (.inl rfl)
    · exact .inr (.inr rfl)

theorem decodeWord_sound {w : BitVec 64} {i : Instr} (h : decodeWord w = .ok i) :
    i.wf = true ∧ i.size = some (instrLength (w.setWidth 16)) := by
  unfold decodeWord at h
  rcases instrLength_cases (w.setWidth 16) with length | length | length <;> rw [length] at h ⊢
  · exact decodeCompact_sound h
  · exact decodeShort_sound h
  · exact decodeGeneral_sound h

/-- The low bits of some bytes as a number are those of the first of them. -/
theorem leNat_take_mod {k n : Nat} (h : k ≤ n) (bs : List Byte) : leNat (bs.take n) % 256 ^ k = leNat (bs.take k) % 256 ^ k := by
  induction k generalizing n bs with
  | zero => simp [Nat.mod_one]
  | succ k ih =>
    obtain ⟨n, rfl⟩ : ∃ m, n = m + 1 := ⟨n - 1, by omega⟩
    cases bs with
    | nil => rfl
    | cons b bs =>
      have tail := ih (Nat.le_of_succ_le_succ h) bs
      simp only [List.take_succ_cons, leNat]
      rw [Nat.pow_succ', Nat.mod_mul, Nat.mod_mul]
      have drop (x : Nat) : (b.toNat + 256 * x) / 256 = x := by have := b.isLt; omega
      rw [drop, drop, tail]
      omega

theorem decodingIsSound : DecodingIsSound := by
  intro bs rest i h
  unfold decodeBytes at h
  extract_lets n at h
  split at h
  · next j decodes =>
    cases h
    have long : 2 ≤ n := by rcases instrLength_cases (BitVec.ofNat 16 (leNat (bs.take 2))) with e | e | e <;> simp only [n, e] <;> decide
    have parcel : (BitVec.ofNat 64 (leNat (bs.take n))).setWidth 16 = BitVec.ofNat 16 (leNat (bs.take 2)) := by
      have low := leNat_take_mod long bs
      refine BitVec.eq_of_toNat_eq ?_
      simp only [BitVec.toNat_setWidth, BitVec.toNat_ofNat]
      omega
    obtain ⟨wf, size⟩ := decodeWord_sound decodes
    obtain ⟨f, form, len⟩ := Option.map_eq_some_iff.mp size
    rw [parcel] at len
    exact ⟨wf, f, form, len, by rw [len]⟩
  · cases h

/-- Settles O51: soundness by the decoder's tables, the checks by their order in every instruction's meaning. -/
theorem decodingAndChecks : Obligations.DecodingAndChecks := ⟨decodingIsSound, checksComeFirst, agentsAndRoles⟩

end Sys2Proof

/-! PROOFS. O8: scalar instructions change their destination and the PC alone, writes read back, and heads move whole (04 R110, R111;
06 R162; 07 R180-R184). -/

namespace Sys2Proof.Machine
open Sys2Proof.Claims

/-! The frontier: no thread of an entry is lost when entries are put together (04 R110). -/

/-- Some entry of a frontier holds every thread of `x` at its priority and PC. -/
def Covers (es : List Entry) (x : Entry) : Prop := ∃ e ∈ es, e.prio = x.prio ∧ e.pc = x.pc ∧ x.mask &&& e.mask = x.mask

theorem Covers.of_mem {es : List Entry} {x : Entry} (h : x ∈ es) : Covers es x := ⟨x, h, rfl, rfl, BitVec.and_self⟩

theorem Covers.cons {es : List Entry} {x : Entry} (h : Covers es x) (e : Entry) : Covers (e :: es) x := by
  obtain ⟨y, hy, place⟩ := h
  exact ⟨y, .tail _ hy, place⟩

/-- Threads stay in an entry that others join. -/
theorem and_or_of_and {x m : Mask} (k : Mask) (h : x &&& m = x) : x &&& (m ||| k) = x := by
  rw [BitVec.and_or_distrib_left, h]
  exact BitVec.eq_of_getLsbD_eq fun i hi => by simp +contextual

theorem Covers.frontierAdd {es : List Entry} {x : Entry} (h : Covers es x) (e : Entry) : Covers (Machine.frontierAdd e es) x := by
  induction es with
  | nil => exact absurd h (by rintro ⟨y, hy, -⟩; cases hy)
  | cons a es ih =>
    obtain ⟨y, hy, prio, pc, mask⟩ := h
    unfold Machine.frontierAdd
    split
    · rcases List.mem_cons.mp hy with rfl | hy
      · exact ⟨_, .head _, prio, pc, and_or_of_and e.mask mask⟩
      · exact ⟨y, .tail _ hy, prio, pc, mask⟩
    · split
      · exact Covers.cons ⟨y, hy, prio, pc, mask⟩ e
      · rcases List.mem_cons.mp hy with rfl | hy
        · exact ⟨_, .head _, prio, pc, mask⟩
        · exact (ih ⟨y, hy, prio, pc, mask⟩).cons a

theorem covers_frontierAdd (e : Entry) (es : List Entry) : Covers (frontierAdd e es) e := by
  induction es with
  | nil => exact .of_mem (.head _)
  | cons a es ih =>
    unfold frontierAdd
    split
    · next same =>
      obtain ⟨prio, pc⟩ := Bool.and_eq_true_iff.mp same
      refine ⟨_, .head _, eq_of_beq prio, eq_of_beq pc, ?_⟩
      rw [BitVec.or_comm]
      exact and_or_of_and _ BitVec.and_self
    · split
      · exact .of_mem (.head _)
      · exact ih.cons a

theorem covers_frontierOf {es : List Entry} {x : Entry} (hx : x ∈ es) (hm : x.mask ≠ 0) : Covers (frontierOf es) x := by
  have add {acc : List Entry} (e : Entry) (h : Covers acc x) : Covers (if e.mask == 0 then acc else frontierAdd e acc) x := by
    split
    · exact h
    · exact h.frontierAdd e
  have rest {es acc : List Entry} (h : Covers acc x) :
      Covers (es.foldl (fun acc e => if e.mask == 0 then acc else frontierAdd e acc) acc) x :=
    foldl_keeps (Covers · x) _ (fun _ e ha => add e ha) es acc h
  obtain ⟨before, after, rfl⟩ := List.append_of_mem hx
  rw [frontierOf, List.foldl_append, List.foldl_cons]
  refine rest ?_
  rw [if_neg (by simpa using hm)]
  exact covers_frontierAdd x _

/-! Updates of the executing agent. -/

theorem State.warp_updWarp_cases (s : State) (g w : Nat) (f : Warp → Warp) (k i : Nat) :
    (s.updWarp g w f).warp k i = s.warp k i ∨ (k = g ∧ i = w ∧ (s.updWarp g w f).warp k i = f (s.warp k i)) := by
  by_cases hk : k = g
  · subst hk
    by_cases hi : i = w
    · subst hi
      rcases Nat.lt_or_ge i (s.group k).warps.length with h | h
      · exact .inr ⟨rfl, rfl, s.warp_updWarp k i f h⟩
      · refine .inl ?_
        simp only [State.updWarp, State.setWarp, State.warp, State.group_updGroup, listSet_of_length_le _ h]
    · exact .inl (s.warp_setWarp_ne k _ hi)
  · refine .inl ?_
    simp only [State.updWarp, State.setWarp, State.warp, s.group_updGroup_ne _ hk]

theorem State.stoker_updWarp (s : State) (g w : Nat) (f : Warp → Warp) (k : Nat) : (s.updWarp g w f).stoker k = s.stoker k := by
  by_cases hk : k = g
  · subst hk
    simp only [State.updWarp, State.setWarp, State.stoker, State.group_updGroup]
  · simp only [State.updWarp, State.setWarp, State.stoker, s.group_updGroup_ne _ hk]

theorem State.warp_setStoker (s : State) (g : Nat) (v : Stoker) (k i : Nat) : (s.setStoker g v).warp k i = s.warp k i := by
  by_cases hk : k = g
  · subst hk
    simp only [State.setStoker, State.warp, State.group_updGroup]
  · simp only [State.setStoker, State.warp, s.group_updGroup_ne _ hk]

theorem State.stoker_setStoker_ne (s : State) {g k : Nat} (v : Stoker) (hk : k ≠ g) : (s.setStoker g v).stoker k = s.stoker k := by
  simp only [State.setStoker, State.stoker, s.group_updGroup_ne _ hk]

/-- The parts that a frame of scalar instructions speaks of give it: memory is the same, and so are the windows' registers. -/
theorem onlyScalar_of_parts {s t : State} {sd : Reg} (rest : t = { s with groups := t.groups, ctl := t.ctl })
    (groups : ∀ g, t.group g = { s.group g with warps := (t.group g).warps, stoker := (t.group g).stoker })
    (warps : ∀ g w, t.warp g w =
      { s.warp g w with agent := (t.warp g w).agent, frontier := (t.warp g w).frontier, replay := (t.warp g w).replay })
    (slots : ∀ g, (t.stoker g).slots = (s.stoker g).slots)
    (cores : ∀ c, t.ctlCore c = { s.ctlCore c with agent := (t.ctlCore c).agent, pc := (t.ctlCore c).pc })
    (others : ∀ a, a ≠ s.cur → t.agent a = s.agent a ∧ t.pcOf a = s.pcOf a)
    (agent : t.agent s.cur = { s.agent s.cur with sregs := (t.agent s.cur).sregs, spoison := (t.agent s.cur).spoison })
    (regs : ∀ r, r ≠ sd → (t.agent s.cur).sreg r = (s.agent s.cur).sreg r) : OnlyScalar s t sd where
  rest := rest
  groups := groups
  warps := warps
  slots := slots
  cores := cores
  others := others
  agent := agent
  regs r hr := by
    have cur : t.cur = s.cur := by rw [rest]
    rw [State.sreg, cur]
    exact regs r hr
  bytes l := by
    have mem : t.mem = s.mem := by rw [rest]
    unfold State.readByte
    split
    · next g w _ => rw [warps g w]; rfl
    · rw [mem]
  poison l := by
    have poison : t.poison = s.poison := by rw [rest]
    unfold State.poisonAt
    split
    · next g w _ => rw [warps g w]
    · rw [poison]

theorem onlyScalar_refl (s : State) (sd : Reg) : OnlyScalar s s sd :=
  onlyScalar_of_parts rfl (fun _ => rfl) (fun _ _ => rfl) (fun _ => rfl) (fun _ => rfl) (fun _ _ => ⟨rfl, rfl⟩) rfl fun _ _ => rfl

theorem cur_eq_of_onlyScalar {s t : State} {sd : Reg} (h : OnlyScalar s t sd) : t.cur = s.cur := by rw [h.rest]

theorem onlyScalar_trans {s t u : State} {sd : Reg} (h : OnlyScalar s t sd) (k : OnlyScalar t u sd) : OnlyScalar s u sd where
  rest := by rw [k.rest, h.rest]
  groups g := by rw [k.groups g, h.groups g]
  warps g w := by rw [k.warps g w, h.warps g w]
  slots g := (k.slots g).trans (h.slots g)
  cores c := by rw [k.cores c, h.cores c]
  others a ha := by
    obtain ⟨agent, pc⟩ := h.others a ha
    obtain ⟨agent', pc'⟩ := k.others a ((cur_eq_of_onlyScalar h).symm ▸ ha)
    exact ⟨agent'.trans agent, pc'.trans pc⟩
  agent := by
    have last := k.agent
    rw [cur_eq_of_onlyScalar h] at last
    rw [last, h.agent]
  regs r hr := (k.regs r hr).trans (h.regs r hr)
  bytes l := (k.bytes l).trans (h.bytes l)
  poison l := (k.poison l).trans (h.poison l)

/-- What an agent's update under a scalar instruction may change: its scalar registers but for `sd`, and their poison. -/
structure ScalarPart (sd : Reg) (a b : Agent) : Prop where
  agent : b = { a with sregs := b.sregs, spoison := b.spoison }
  regs : ∀ r, r ≠ sd → b.sreg r = a.sreg r

theorem ScalarPart.refl (sd : Reg) (a : Agent) : ScalarPart sd a a := ⟨rfl, fun _ _ => rfl⟩

theorem scalarPart_setSreg (sd : Reg) (a : Agent) (v : Word) (p : Option Prov) : ScalarPart sd a (a.setSreg sd.toNat v p) where
  agent := by unfold Agent.setSreg; split <;> rfl
  regs _ hr := Agent.sreg_setSreg_ne a v p hr

theorem onlyScalar_updWarp {s : State} {g w : Nat} {f : Warp → Warp} {sd : Reg} (hc : s.cur = .warp g w)
    (hf : let x := s.warp g w; f x = { x with agent := (f x).agent, frontier := (f x).frontier, replay := (f x).replay })
    (ha : ScalarPart sd (s.warp g w).agent (f (s.warp g w)).agent) : OnlyScalar s (s.updWarp g w f) sd := by
  have agent : ScalarPart sd (s.agent s.cur) ((s.updWarp g w f).agent s.cur) := by
    rw [hc]
    rcases s.warp_updWarp_cases g w f g w with h | ⟨-, -, h⟩ <;> simp only [State.agent, h]
    · exact .refl sd _
    · exact ha
  refine onlyScalar_of_parts rfl (fun k => ?_) (fun k i => ?_) (fun k => ?_) (fun _ => rfl) (fun a hn => ?_) agent.agent agent.regs
  · by_cases hk : k = g
    · subst hk
      simp only [State.updWarp, State.setWarp, State.group_updGroup]
    · simp only [State.updWarp, State.setWarp, s.group_updGroup_ne _ hk]
  · rcases s.warp_updWarp_cases g w f k i with h | ⟨rfl, rfl, h⟩ <;> rw [h]
    exact hf
  · rw [State.stoker_updWarp]
  · cases a with
    | warp k i =>
      rcases s.warp_updWarp_cases g w f k i with h | ⟨rfl, rfl, -⟩
      · simp only [State.agent, State.pcOf, h, and_self]
      · exact absurd hc.symm hn
    | stoker k => simp only [State.agent, State.pcOf, State.stoker_updWarp, and_self]
    | ctl c => exact ⟨rfl, rfl⟩

theorem onlyScalar_setStoker {s : State} {g : Nat} {v : Stoker} {sd : Reg} (hc : s.cur = .stoker g)
    (hv : v.slots = (s.stoker g).slots) (ha : ScalarPart sd (s.stoker g).agent v.agent) : OnlyScalar s (s.setStoker g v) sd := by
  have agent : ScalarPart sd (s.agent s.cur) ((s.setStoker g v).agent s.cur) := by
    simpa only [hc, State.agent, State.stoker_setStoker] using ha
  refine onlyScalar_of_parts rfl (fun k => ?_) (fun k i => ?_) (fun k => ?_) (fun _ => rfl) (fun a hn => ?_) agent.agent agent.regs
  · by_cases hk : k = g
    · subst hk
      simp only [State.setStoker, State.group_updGroup]
    · simp only [State.setStoker, s.group_updGroup_ne _ hk]
  · rw [State.warp_setStoker]
  · by_cases hk : k = g
    · subst hk
      rw [State.stoker_setStoker, hv]
    · rw [s.stoker_setStoker_ne v hk]
  · cases a with
    | warp k i => simp only [State.agent, State.pcOf, State.warp_setStoker, and_self]
    | stoker k =>
      have hk : k ≠ g := fun e => hn (by rw [e, hc])
      simp only [State.agent, State.pcOf, s.stoker_setStoker_ne v hk, and_self]
    | ctl c => exact ⟨rfl, rfl⟩

theorem onlyScalar_updCtl {s : State} {c : Nat} {f : CtlCore → CtlCore} {sd : Reg} (hc : s.cur = .ctl c)
    (hf : let x := s.ctlCore c; f x = { x with agent := (f x).agent, pc := (f x).pc })
    (ha : ScalarPart sd (s.ctlCore c).agent (f (s.ctlCore c)).agent) :
    OnlyScalar s (s.updCtl c f) sd := by
  have agent : ScalarPart sd (s.agent s.cur) ((s.updCtl c f).agent s.cur) := by
    simpa only [hc, State.agent, State.ctlCore_updCtl] using ha
  refine onlyScalar_of_parts rfl (fun _ => rfl) (fun _ _ => rfl) (fun _ => rfl) (fun k => ?_) (fun a hn => ?_) agent.agent agent.regs
  · by_cases hk : k = c
    · subst hk
      rw [State.ctlCore_updCtl]
      exact hf
    · rw [s.ctlCore_updCtl_ne f hk]
  · cases a with
    | warp k i => exact ⟨rfl, rfl⟩
    | stoker k => exact ⟨rfl, rfl⟩
    | ctl k =>
      have hk : k ≠ c := fun e => hn (by rw [e, hc])
      simp only [State.agent, State.pcOf, s.ctlCore_updCtl_ne f hk, and_self]

theorem onlyScalar_setSreg (s : State) (sd : Reg) (v : Word) : OnlyScalar s (s.setSreg sd v) sd := by
  have part : ScalarPart sd (s.agent s.cur) ((s.agent s.cur).setSreg sd.toNat v none) := scalarPart_setSreg _ _ _ _
  unfold State.setSreg State.updAgent
  cases hc : s.cur with
  | warp g w =>
    rw [hc] at part
    exact onlyScalar_updWarp (f := fun x => { x with agent := _ }) hc rfl part
  | stoker g =>
    rw [hc] at part
    exact onlyScalar_setStoker hc rfl part
  | ctl c =>
    rw [hc] at part
    exact onlyScalar_updCtl (f := fun x => { x with agent := _ }) hc rfl part

theorem onlyScalar_setPc (s : State) (pc : Word) (sd : Reg) : OnlyScalar s (s.setPc pc) sd := by
  unfold State.setPc
  cases hc : s.cur with
  | warp g w => exact onlyScalar_updWarp (f := fun x => x.moveHead [{ x.head with pc := pc }]) hc rfl (.refl sd _)
  | stoker g => exact onlyScalar_setStoker hc rfl (.refl sd _)
  | ctl c => exact onlyScalar_updCtl (f := fun x => { x with pc := pc }) hc rfl (.refl sd _)

/-- Writing a register and moving on is within the frame. -/
theorem onlyScalar_writeNext (s : State) (len : Nat) (sd : Reg) (v : Word) : OnlyScalar s (s.writeNext len sd v) sd :=
  onlyScalar_trans (onlyScalar_setSreg s sd v) (onlyScalar_setPc _ _ sd)

/-! Scalar instructions (07 R181-R184). -/

/-- An execution whose two runs agree finds no mismatch and leaves the state (17 R398). -/
theorem State.pairTurn_of_unpaired {s : State} {g : Nat} (h : Unpaired s) (hg : groupOf s.cur = some g) :
    s.pairTurn g = (⟨[], []⟩, s) :=
  s.pairTurn_none g (h.symm.imp_left fun unpaired => unpaired g hg)

/-- Without a mismatch to come, a scalar result is written as without paired issue (17 R398). -/
theorem State.writeScalar_of_unpaired {s : State} (h : Unpaired s) (len : Nat) (sd : Reg) (v : Word) :
    s.writeScalar len sd v = s.writeNext len sd v := by
  unfold State.writeScalar
  cases hg : groupOf s.cur with
  | none => rfl
  | some g =>
    simp only [State.pairTurn_of_unpaired h hg]
    rfl

theorem exec_of_salu {c : GS → Instr} {f : BitVec 4 → Word → Word → Word → Word → Word} (h : Salu c f) :
    ∃ fn, ∀ o, (c o).form = some ⟨8, 1, fn, .s o⟩ ∧ ∀ s, exec (c o) s = saluOp 8 fn o s := by
  cases h <;> exact ⟨_, fun _ => ⟨rfl, fun _ => rfl⟩⟩

theorem exec_of_saluShort {c : SS3 → Instr} {g : GS → Instr} (h : SaluShort c g) :
    ∃ fn, ∀ o, (c o).form = some ⟨4, 1, fn, .s (shortS3 o)⟩ ∧ ∀ s, exec (c o) s = saluOp 4 fn (shortS3 o) s := by
  cases h <;> exact ⟨_, fun _ => ⟨rfl, fun _ => rfl⟩⟩

theorem exec_of_salui {c : GSI → Instr} {f : BitVec 6 → W32 → Word → Word} (h : Salui c f) :
    ∃ fn, ∀ o, (c o).form = some ⟨8, 2, fn, .si o⟩ ∧ ∀ s, exec (c o) s = saluiOp 8 fn o s := by
  cases h <;> exact ⟨_, fun _ => ⟨rfl, fun _ => rfl⟩⟩

/-- An instruction that is executed for its own effect has it. -/
theorem exec_of_runs {i : Instr} {s : State} {f : Form} {k : State → Res} (h : Runs i s) (hf : i.form = some f)
    (hi : exec i s = checked f s k) : exec i s = k s := by
  obtain ⟨d, form, allowed, clean⟩ := h
  obtain rfl : d = f := Option.some.inj (form.symm.trans hf)
  rw [hi, checked_ok d s k allowed clean]

theorem eq_of_runs_of_exec {i : Instr} {s t : State} {f : Form} {k : State → Res} {u : State} (h : Runs i s) (hf : i.form = some f)
    (hi : exec i s = checked f s k) (hk : k s = .next u) (he : exec i s = .next t) : t = u := by
  rw [exec_of_runs h hf hi, hk] at he
  exact (Host.Outcome.next.inj he).symm

theorem onlyScalar_of_saluOp {i : Instr} {s t : State} {len fn : Nat} {o : GS} (h : Computes i s)
    (hf : i.form = some ⟨len, 1, fn, .s o⟩) (hi : exec i s = saluOp len fn o s) (he : exec i s = .next t) : OnlyScalar s t o.sd := by
  obtain ⟨runs, unpaired⟩ := h
  rw [eq_of_runs_of_exec runs hf hi rfl he, State.writeScalar_of_unpaired unpaired]
  exact onlyScalar_writeNext s len o.sd _

theorem onlyScalar_of_saluiOp {i : Instr} {s t : State} {len fn : Nat} {o : GSI} (h : Computes i s)
    (hf : i.form = some ⟨len, 2, fn, .si o⟩) (hi : exec i s = saluiOp len fn o s) (he : exec i s = .next t) :
    OnlyScalar s t o.sd := by
  obtain ⟨runs, unpaired⟩ := h
  rw [eq_of_runs_of_exec runs hf hi rfl he, State.writeScalar_of_unpaired unpaired]
  exact onlyScalar_writeNext s len o.sd _

theorem onlyScalar_of_nopOp {i : Instr} {s t : State} {len fn : Nat} {b : BitVec 46} (h : Runs i s)
    (hf : i.form = some ⟨len, 0, fn, .sys b⟩) (hi : exec i s = nopOp len fn b s) (he : exec i s = .next t) (sd : Reg) :
    OnlyScalar s t sd := by
  rw [eq_of_runs_of_exec h hf hi rfl he]
  exact onlyScalar_setPc s _ sd

theorem onlyScalar_of_uniformOp {i : Instr} {s t : State} {len fn : Nat} {o : GB} (h : Runs i s)
    (hf : i.form = some ⟨len, 3, fn, .b o⟩) (hi : exec i s = uniformOp len fn o s) (he : exec i s = .next t) (sd : Reg) :
    OnlyScalar s t sd := by
  rw [eq_of_runs_of_exec h hf hi rfl he]
  exact onlyScalar_setPc s _ sd

theorem onlyScalar_of_callOp {i : Instr} {s t : State} {len : Nat} {o : GB} (h : Runs i s)
    (hf : i.form = some ⟨len, 3, 4, .b o⟩) (hi : exec i s = callOp len o s) (he : exec i s = .next t) : OnlyScalar s t o.sa := by
  rw [eq_of_runs_of_exec h hf hi rfl he]
  exact onlyScalar_trans (onlyScalar_setSreg s o.sa _) (onlyScalar_setPc _ _ o.sa)

theorem scalarFrame : ScalarFrame := by
  intro i sd hw s t computes he
  obtain ⟨runs, -⟩ := id computes
  cases hw with
  | salu h o =>
    obtain ⟨fn, meaning⟩ := exec_of_salu h
    obtain ⟨form, effect⟩ := meaning o
    exact onlyScalar_of_saluOp computes form (effect s) he
  | short h o =>
    obtain ⟨fn, meaning⟩ := exec_of_saluShort h
    obtain ⟨form, effect⟩ := meaning o
    exact onlyScalar_of_saluOp computes form (effect s) he
  | salui h o =>
    obtain ⟨fn, meaning⟩ := exec_of_salui h
    obtain ⟨form, effect⟩ := meaning o
    exact onlyScalar_of_saluiOp computes form (effect s) he
  | saddiShort sd sa imm => exact onlyScalar_of_saluiOp (o := ⟨sd, sa, 0, imm.signExtend 32⟩) computes rfl rfl he
  | sliShort sd imm => exact onlyScalar_of_saluiOp (o := ⟨sd, 0, 0, imm.signExtend 32⟩) computes rfl rfl he
  | srd sd num =>
    rw [eq_of_runs_of_exec runs rfl (exec_srd sd num s) rfl he]
    exact onlyScalar_writeNext s 8 sd _
  | nop | nopShort | yield | yieldShort => exact onlyScalar_of_nopOp runs rfl rfl he 0
  | br o | brz o | brnz o | brc o | brShort off | brzShort sa off | brnzShort sa off =>
    exact onlyScalar_of_uniformOp runs rfl rfl he 0
  | call o => exact onlyScalar_of_callOp runs rfl rfl he
  | callShort off => exact onlyScalar_of_callOp (o := ⟨94, 0, 0, false, off.signExtend 32⟩) runs rfl rfl he
  | loop o =>
    rw [eq_of_runs_of_exec runs rfl ((exec_loop o s).trans (Eq.refl (loopOp 8 o s))) rfl he]
    exact onlyScalar_trans (onlyScalar_setSreg s o.sa _) (onlyScalar_setPc _ _ o.sa)

/-! Writing and reading back (06 R162). -/

theorem State.agent_writeNext {s : State} (h : s.has s.cur) (len : Nat) (sd : Reg) (v : Word) :
    (s.writeNext len sd v).agent s.cur = (s.agent s.cur).setSreg sd.toNat v none := by
  have written : (s.setSreg sd v).agent s.cur = (s.agent s.cur).setSreg sd.toNat v none := s.agent_updAgent s.cur _ h
  have place : (s.setSreg sd v).has s.cur := (s.steady_setAgent s.cur _).has h
  have moved := State.agent_setPcOf (s.setSreg sd v) s.cur ((s.setSreg sd v).nextPc len) place
  rw [State.writeNext, State.advance, State.setPc, State.setSreg_cur, moved, written]

theorem scalarWriteReadsBack : ScalarWriteReadsBack := by
  intro s len sd v hl
  have written := State.agent_writeNext (State.has_of_live hl) len sd v
  constructor
  · rw [State.sreg, State.writeNext_cur, written]
    split
    · next zero => rw [zero, Agent.sreg_zero]
    · next other => exact Agent.sreg_setSreg _ sd v none other
  · intro other
    have some : (sd.toNat == 0) = false := beq_false_of_ne fun e => other (BitVec.eq_of_toNat_eq e)
    rw [written]
    simp only [Agent.setSreg, some]
    exact Table.look_drop_self _ _

/-! Moving the head (04 R110, R111). -/

theorem State.frontier_setPc {s : State} {g w : Nat} (hc : s.cur = .warp g w) (hl : s.live s.cur = true) (pc : Word) :
    ((s.setPc pc).warp g w).frontier =
      frontierOf ((s.warp g w).frontier.drop 1 ++ [{ (s.warp g w).head with pc := pc }]) := by
  have place := State.has_of_live hl
  rw [hc] at place
  rw [State.setPc, hc, State.setPcOf, State.warp_updWarp _ _ _ _ place]
  rfl

theorem movingTheHead : MovingTheHead := by
  intro s pc hl
  cases hc : s.cur with
  | warp g w =>
    have mask : s.headMask = (s.warp g w).head.mask := by simp only [State.headMask, hc]
    dsimp only
    rw [State.frontier_setPc hc hl, mask]
    refine ⟨fun hm => ?_, fun x hx hm => covers_frontierOf (List.mem_append_left _ hx) hm⟩
    exact covers_frontierOf (x := { (s.warp g w).head with pc := pc }) (List.mem_append_right _ (.head _)) hm
  | stoker g => simp only [State.setPc, State.pc, State.pcOf, State.setPcOf, hc, State.setStoker_cur, State.stoker_setStoker]
  | ctl c => simp only [State.setPc, State.pc, State.pcOf, State.setPcOf, hc, State.updCtl_cur, State.ctlCore_updCtl]

end Sys2Proof.Machine

namespace Sys2Proof
open Machine Claims

/-- Settles O8: each of the three parts by what the shared operations leave of the state. -/
theorem registersAndHeads : Obligations.RegistersAndHeads := ⟨scalarFrame, scalarWriteReadsBack, movingTheHead⟩

end Sys2Proof

/-! PROOFS. O53: the fused softmax operation is its four instructions, one after another (06 R170, R171). -/

namespace Sys2Proof.Machine
open Sys2Proof.Claims

/-! A warp of one entry that holds no poison. -/

/-- The frontier is `e` alone, no vector register or predicate is poisoned and nothing is performed again. -/
structure Warp.Alone (w : Warp) (e : Entry) : Prop where
  frontier : w.frontier = [e]
  vpoison : w.vpoison = []
  ppoison : w.ppoison = []
  replay : w.replay = []

theorem frontierOf_singleton {e : Entry} (h : e.mask ≠ 0) : frontierOf [e] = [e] := by
  rw [frontierOf, List.foldl_cons, List.foldl_nil, if_neg (by simpa using h)]
  rfl

@[simp] theorem Table.look_nil {β : Type} (n : Nat) : Table.look ([] : Table β) n = none := rfl

theorem lowestProv_eq_none {l : List (Option Prov)} (h : ∀ x ∈ l, x = none) : lowestProv l = none := by
  induction l with
  | nil => rfl
  | cons x l ih =>
    obtain ⟨rfl, rest⟩ := List.forall_mem_cons.mp h
    exact ih rest

namespace Warp.Alone
variable {w : Warp} {e : Entry}

theorem head (h : w.Alone e) : w.head = e := by rw [Warp.head, h.frontier, List.headD_cons]

theorem issueMask (h : w.Alone e) : w.issueMask = e.mask := by rw [Warp.issueMask, h.replay, List.foldl_nil, h.head]

theorem sourcePoison (h : w.Alone e) (t : Nat) (srcs : List (Reg × Nat)) : w.sourcePoison t srcs = none := by
  refine lowestProv_eq_none fun x hx => ?_
  obtain ⟨r, -, hx⟩ := List.mem_flatMap.mp hx
  obtain ⟨i, -, rfl⟩ := List.mem_map.mp hx
  rw [h.vpoison, Table.look_nil]

theorem predPoison (h : w.Alone e) (t : Nat) (ks : List Nat) : w.predPoison t ks = none := by
  rw [Warp.predPoison, h.ppoison, Table.look_nil, ite_self]

theorem setV (h : w.Alone e) (n l : Nat) (x : W32) : (w.setV n l x none).Alone e :=
  ⟨h.frontier, by simp [Warp.setV, Warp.markWindow, h.vpoison, Table.drop], h.ppoison, h.replay⟩

theorem setPred (h : w.Alone e) (k : Nat) (m v : Mask) : (w.setPred k m v).Alone e := by
  unfold Warp.setPred
  split
  · exact h
  · exact ⟨h.frontier, h.vpoison, h.ppoison, h.replay⟩

theorem putLane (h : w.Alone e) (t : Nat) (o : LaneOut) : (w.putLane t o).Alone e := by
  have written : Warp.Alone (match o.write with
      | .reg r v => w.setV r.toNat t v none
      | .pair r v => w.setV64 r.toNat t v
      | .pred k b => w.setPred k (BitVec.ofNat 64 (2 ^ t)) (if b then BitVec.allOnes 64 else 0)) e := by
    cases o.write with
    | reg r v => exact h.setV _ _ _
    | pair r v => exact (h.setV _ _ _).setV _ _ _
    | pred k b => exact h.setPred _ _ _
  exact ⟨written.frontier, written.vpoison, written.ppoison, written.replay⟩

theorem putLanes (h : w.Alone e) (f : Nat → LaneOut) (ls : List Nat) : (ls.foldl (fun x t => x.putLane t (f t)) w).Alone e :=
  foldl_keeps (Warp.Alone · e) _ (fun _ t hx => hx.putLane t (f t)) ls w h

theorem raise (h : w.Alone e) (f : FpFlags) : (w.raise f).Alone e := ⟨h.frontier, h.vpoison, h.ppoison, h.replay⟩

/-- The one entry moves and stays the only one. -/
theorem moveHead (h : w.Alone e) (hm : e.mask ≠ 0) (pc : Word) : (w.moveHead [{ w.head with pc := pc }]).Alone { e with pc := pc } where
  frontier := by
    simp only [Warp.moveHead, h.frontier, h.head, List.drop_one, List.tail_cons, List.nil_append]
    exact frontierOf_singleton hm
  vpoison := h.vpoison
  ppoison := h.ppoison
  replay := by simp only [Warp.moveHead, h.replay]; rfl

end Warp.Alone

/-! A state in which such a warp executes. -/

/-- The executing warp's one entry is `e`, its executions do not differ, and what the decode checks read, and the memory, are as in `s0`. -/
structure State.RunsAlone (s0 s : State) (g wn : Nat) (e : Entry) : Prop where
  cur : s.cur = .warp g wn
  place : wn < (s.group g).warps.length
  alone : (s.warp g wn).Alone e
  unpaired : (s.launchOf g).paired = false ∨ s.pairing = []
  mem : s.mem = s0.mem
  checks : ∀ f, s.decodeCause f = s0.decodeCause f

theorem State.decodeCause_updWarp (s : State) (g w : Nat) (u : Warp → Warp) (f : Form) :
    (s.updWarp g w u).decodeCause f = s.decodeCause f := by
  unfold State.decodeCause
  cases hc : s.cur with
  | warp k i =>
    have same : ((s.updWarp g w u).group k).vregs = (s.group k).vregs := by
      by_cases hk : k = g
      · subst hk; simp only [State.updWarp, State.setWarp, State.group_updGroup]
      · simp only [State.updWarp, State.setWarp, s.group_updGroup_ne _ hk]
    simp only [State.updWarp_cur, hc, same]
  | stoker k => simp only [State.updWarp_cur, hc]
  | ctl c => simp only [State.updWarp_cur, hc]

theorem State.launchOf_updWarp (s : State) (g w : Nat) (u : Warp → Warp) : (s.updWarp g w u).launchOf g = s.launchOf g := by
  simp only [State.launchOf, State.updWarp, State.setWarp, State.group_updGroup, State.grid]
  rfl

namespace State.RunsAlone
variable {s0 s : State} {g wn : Nat} {e : Entry}

theorem pc (h : RunsAlone s0 s g wn e) : s.pc = e.pc := by
  rw [State.pc, h.cur, State.pcOf, h.alone.head]

/-- The warp changes and its one entry is another. -/
theorem updWarp (h : RunsAlone s0 s g wn e) {u : Warp → Warp} {d : Entry} (hu : (u (s.warp g wn)).Alone d) :
    RunsAlone s0 (s.updWarp g wn u) g wn d where
  cur := h.cur
  place := by
    rw [State.updWarp, State.length_warps_setWarp]
    exact h.place
  alone := by
    rw [s.warp_updWarp g wn u h.place]
    exact hu
  unpaired := by
    rw [s.launchOf_updWarp]
    exact h.unpaired
  mem := h.mem
  checks f := (s.decodeCause_updWarp g wn u f).trans (h.checks f)

/-- The warp takes a result and moves on. -/
theorem advance (h : RunsAlone s0 s g wn e) (hm : e.mask ≠ 0) {w : Warp} (hw : w.Alone e) (n : Nat) :
    RunsAlone s0 ((s.setWarp g wn w).advance n) g wn { e with pc := e.pc + BitVec.ofNat 64 n } := by
  have stored : RunsAlone s0 (s.setWarp g wn w) g wn e := h.updWarp (u := fun _ => w) hw
  have past : (s.setWarp g wn w).nextPc n = e.pc + BitVec.ofNat 64 n := by rw [State.nextPc, stored.pc]
  rw [State.advance, State.setPc, stored.cur, past]
  exact stored.updWarp (u := fun x => x.moveHead [{ x.head with pc := e.pc + BitVec.ofNat 64 n }]) (stored.alone.moveHead hm _)

/-- What an operation of `len` bytes on a vector form does: some result, and the warp moves past it. -/
theorem laneV_next (h : RunsAlone s0 s g wn e) (hm : e.mask ≠ 0) {f : Form} {o : GV} (hf : s0.decodeCause f = none)
    (hs : scalarSources f = []) (k : Warp → Nat → Nat → LaneOut) :
    ∃ t, laneV f o s k = .next t ∧ RunsAlone s0 t g wn { e with pc := e.pc + BitVec.ofNat 64 f.len } := by
  rw [laneV, checked_ok f s _ ((h.checks f).trans hf) (by rw [State.scalarPoison, hs]; rfl),
    laneOp_clean f.len o.p o.pneg _ k s g wn h.cur h.unpaired fun l _ _ =>
      ⟨h.alone.predPoison _ _, fun _ => h.alone.sourcePoison _ _⟩]
  exact ⟨_, rfl, h.advance hm (h.alone.putLanes _ _) _⟩

theorem wholeWarp_next (h : RunsAlone s0 s g wn e) (hm : e.mask ≠ 0) {f : Form} {o : GV} (hf : s0.decodeCause f = none)
    (hs : scalarSources f = []) (dst : Option LaneWrite) {k : Warp → Mask → Warp × FpFlags} (hk : ∀ w m, w.Alone e → (k w m).1.Alone e) :
    ∃ t, wholeWarp f o dst s k = .next t ∧ RunsAlone s0 t g wn { e with pc := e.pc + BitVec.ofNat 64 f.len } := by
  have clean (preds : List Nat) (act : Mask) : lowestProv ((lanesOf (s.warp g wn).head.mask).map fun t =>
      minProv ((s.warp g wn).predPoison t preds) (if bit act t then (s.warp g wn).sourcePoison t (laneSources f.cls f.fn o) else none)) = none := by
    refine lowestProv_eq_none fun x hx => ?_
    obtain ⟨t, -, rfl⟩ := List.mem_map.mp hx
    rw [h.alone.predPoison, h.alone.sourcePoison, ite_self]
    rfl
  rw [wholeWarp, checked_ok f s _ ((h.checks f).trans hf) (by rw [State.scalarPoison, hs]; rfl)]
  simp only [h.cur, clean, s.pairLanes_none g _ h.unpaired]
  exact ⟨_, rfl, h.advance hm ((hk _ _ h.alone).raise _) _⟩

theorem vreduce_next (h : RunsAlone s0 s g wn e) (hm : e.mask ≠ 0) {len : Nat} {o : GV} (hf : s0.decodeCause ⟨len, 0x0C, 5, .v o⟩ = none) :
    ∃ t, vreduceOp len o s = .next t ∧ RunsAlone s0 t g wn { e with pc := e.pc + BitVec.ofNat 64 len } :=
  h.wholeWarp_next hm hf rfl _ fun _ _ hw => hw.putLanes _ _

/-- One of the operations reaches the next, where the others run on. -/
theorem runFused_cons (h : RunsAlone s0 s g wn e) {f : State → Res} {n : Nat} {t : State} (hf : f s = .next t)
    (ht : RunsAlone s0 t g wn { e with pc := e.pc + BitVec.ofNat 64 n }) (s1 : State) (rest : List ((State → Res) × Nat)) :
    s1.runFused ((f, n) :: rest) s = s1.runFused rest t := by
  rw [State.runFused, hf]
  simp only [ht.pc, State.nextPc, h.pc, beq_self_eq_true, if_true]

end State.RunsAlone

/-- What the fused operation needs to run through: no decode check turns it away, and the executing warp stands at its head with no
poison, nothing to perform again and no mismatch to come. -/
structure RunsThrough (o : FusedOp) (s : State) (g wn : Nat) (e : Entry) (es : List Entry) : Prop where
  cur : s.cur = .warp g wn
  allowed : ∀ f ∈ o.forms, s.decodeCause f = none
  unpaired : Unpaired s
  live : s.live (.warp g wn) = true
  frontier : (s.warp g wn).frontier = e :: es
  mask : e.mask ≠ 0
  vpoison : (s.warp g wn).vpoison = []
  ppoison : (s.warp g wn).ppoison = []
  replay : (s.warp g wn).replay = []

/-- The PC past the four instructions. -/
def fusedPast (o : FusedOp) (pc : Word) : Word :=
  pc + BitVec.ofNat 64 o.n1 + BitVec.ofNat 64 o.n2 + BitVec.ofNat 64 o.n3 + BitVec.ofNat 64 o.n4

theorem exec_fusedSoftmax_cause {o : FusedOp} {s : State} {c : Cause} (h : (o.forms.filterMap s.decodeCause).head? = some c) :
    exec (.fusedSoftmax o) s = .next (s.trap c) := by
  rw [exec_fusedSoftmax, execFusedSoftmax, h]

theorem RunsThrough.runsAlone {o : FusedOp} {s : State} {g wn : Nat} {e : Entry} {es : List Entry} (h : RunsThrough o s g wn e es) :
    State.RunsAlone s s.headAlone g wn e := by
  have place : wn < (s.group g).warps.length := State.has_of_live h.live
  have alone : Warp.Alone { s.warp g wn with frontier := (s.warp g wn).frontier.take 1 } e :=
    ⟨by rw [h.frontier]; rfl, h.vpoison, h.ppoison, h.replay⟩
  have moved : s.headAlone = s.updWarp g wn fun x => { x with frontier := x.frontier.take 1 } := by rw [State.headAlone, h.cur]
  rw [moved]
  refine ⟨h.cur, ?_, ?_, ?_, rfl, fun f => s.decodeCause_updWarp g wn _ f⟩
  · rw [State.updWarp, State.length_warps_setWarp]
    exact place
  · rw [s.warp_updWarp g wn _ place]
    exact alone
  · rw [s.launchOf_updWarp]
    exact h.unpaired.symm.imp_left fun unpaired => unpaired g (by rw [h.cur]; rfl)

/-- The four in order, each from the state the one before it left. -/
theorem RunsThrough.runs {o : FusedOp} {s : State} {g wn : Nat} {e : Entry} {es : List Entry} (h : RunsThrough o s g wn e es) :
    ∃ u1 u2 u3 u4 : State, vreduceOp o.n1 o.i1 s.headAlone = .next u1 ∧ vfltOp o.n2 1 o.i2 u1 = .next u2 ∧
      sfuOp o.n3 3 o.i3 u2 = .next u3 ∧ vreduceOp o.n4 o.i4 u3 = .next u4 ∧ exec (.fusedSoftmax o) s = .next (u4.headJoins s) ∧
      State.RunsAlone s u4 g wn { e with pc := fusedPast o e.pc } := by
  have allowed := h.allowed
  simp only [FusedOp.forms, List.forall_mem_cons] at allowed
  obtain ⟨c1, c2, c3, c4, -⟩ := allowed
  have r0 := h.runsAlone
  obtain ⟨u1, h1, r1⟩ := r0.vreduce_next h.mask c1
  obtain ⟨u2, h2, r2⟩ := r1.laneV_next h.mask (o := o.i2) c2 rfl _
  obtain ⟨u3, h3, r3⟩ := r2.laneV_next h.mask (o := o.i3) c3 rfl _
  obtain ⟨u4, h4, r4⟩ := r3.vreduce_next h.mask c4
  refine ⟨u1, u2, u3, u4, h1, h2, h3, h4, ?_, r4⟩
  have noCause : (o.forms.filterMap s.decodeCause).head? = none := by
    rw [List.filterMap_eq_nil_iff.mpr h.allowed]
    rfl
  rw [exec_fusedSoftmax, execFusedSoftmax, noCause]
  simp only []
  rw [r0.runFused_cons h1 r1, r1.runFused_cons h2 r2, r2.runFused_cons h3 r3, r3.runFused_cons h4 r4, State.runFused]

/-- The head stands past the four, among the entries it stood among. -/
theorem State.RunsAlone.frontier_headJoins {s0 s : State} {g wn : Nat} {d e : Entry} {es : List Entry} (h : RunsAlone s0 s g wn d)
    (hes : (s0.warp g wn).frontier = e :: es) : ((s.headJoins s0).warp g wn).frontier = frontierOf (es ++ [d]) := by
  have joined : s.headJoins s0 = s.updWarp g wn fun x => { x with frontier := frontierOf ((s0.warp g wn).frontier.drop 1 ++ x.frontier) } := by
    rw [State.headJoins, h.cur]
  rw [joined, s.warp_updWarp g wn _ h.place]
  simp only [hes, h.alone.frontier, List.drop_one, List.tail_cons]

theorem State.RunsAlone.mem_headJoins {s0 s : State} {g wn : Nat} {e : Entry} (h : RunsAlone s0 s g wn e) :
    (s.headJoins s0).mem = s0.mem := by
  rw [State.headJoins, h.cur]
  exact h.mem

end Sys2Proof.Machine

namespace Sys2Proof

open Machine Claims

/-- Settles O53: with the head alone in the frontier each of the four runs through and moves it by its own length. -/
theorem fusedSoftmaxRunsTheFour : Obligations.FusedSoftmaxRunsTheFour := by
  unfold Obligations.FusedSoftmaxRunsTheFour
  intro o s g wn e es cur
  refine ⟨fun c hc => exec_fusedSoftmax_cause hc, fun allowed unpaired live frontier mask vpoison ppoison replay => ?_⟩
  have through : RunsThrough o s g wn e es := ⟨cur, allowed, unpaired, live, frontier, mask, vpoison, ppoison, replay⟩
  obtain ⟨u1, u2, u3, u4, h1, h2, h3, h4, run, alone⟩ := through.runs
  exact ⟨u1, u2, u3, u4, h1, h2, h3, h4, run, alone.mem, alone.alone.frontier, alone.frontier_headJoins frontier⟩

end Sys2Proof

/-! PROOFS. The operations of the matrix unit that clear rows start and complete (11 R282, R284, R287). -/

namespace Sys2Proof.Machine

/-- What one step of a fold makes so and every step leaves so holds at the end. -/
theorem foldl_reaches {α β : Type} (P : β → Prop) {f : β → α → β} {a : α} (reach : ∀ b, P (f b a)) (keep : ∀ b x, P b → P (f b x))
    {l : List α} (ha : a ∈ l) (b : β) : P (l.foldl f b) := by
  obtain ⟨before, after, rfl⟩ := List.append_of_mem ha
  rw [List.foldl_append, List.foldl_cons]
  exact foldl_keeps P f keep after _ (reach _)

/-! Cores. -/

/-- A core without the locks of an operation (10 R270). -/
def Core.unlocked (op : Nat) (x : Core) : Core :=
  if x.locks.any (·.op == op) then { x with locks := x.locks.filter fun k => k.op != op } else x

theorem State.core_unlock (s : State) (op c : Nat) : (s.unlock op).core c = (s.core c).unlocked op :=
  Table.get_map (f := Core.unlocked op) rfl s.cores c

/-- The locks of a core change and nothing else of it does. -/
theorem Core.unlocked_frame (op : Nat) (x : Core) : ∃ locks, x.unlocked op = { x with locks := locks } := by
  unfold Core.unlocked
  split <;> exact ⟨_, rfl⟩

theorem State.core_setWork_warp (s : State) (g w n : Nat) (k : OpWork) (c : Nat) : (s.setWork (.warp g w) n k).core c = s.core c := rfl

/-- What the end of an operation leaves of its core: the accumulator, and the operations with another number. -/
theorem State.core_closeMatrix (s : State) (core : Nat) (m : MatOp) (f : FpFlags) :
    ((s.closeMatrix core m f).core core).acc = (s.core core).acc ∧ ((s.closeMatrix core m f).core core).accPoison = (s.core core).accPoison ∧
      ((s.closeMatrix core m f).core core).matrix = (s.core core).matrix.filter fun x => x.id != m.id := by
  obtain ⟨locks, unlocked⟩ := ((s.countClk m).core core).unlocked_frame m.id
  have closed : (s.closeMatrix core m f).core core = { ((s.countClk m).unlock m.id).core core with
      matrix := (((s.countClk m).unlock m.id).core core).matrix.filter fun x => x.id != m.id } :=
    State.core_updCore _ core fun c => { c with matrix := c.matrix.filter fun (x : MatOp) => x.id != m.id }
  rw [closed, State.core_unlock, unlocked]
  exact ⟨rfl, rfl, rfl⟩

/-! Elements of the accumulator. -/

theorem Core.accElem_setAcc_self (c : Core) (row j : Nat) : (c.setAcc row j (0, none)).accElem row j = (0, none) := by
  simp [Core.accElem, Core.setAcc]

/-- An element that is clear stays so when any element is cleared. -/
theorem Core.accElem_setAcc_zero {c : Core} {r l : Nat} (h : c.accElem r l = (0, none)) (row j : Nat) :
    (c.setAcc row j (0, none)).accElem r l = (0, none) := by
  by_cases key : r * 64 + l = row * 64 + j
  · simp [Core.accElem, Core.setAcc, key]
  · simpa [Core.accElem, Core.setAcc, Table.get_set_ne _ key, Table.look_drop_ne key] using h

/-- A core after elements of an accumulator row are written. -/
def Core.setRow (row : Nat) (xs : List (W32 × Option Prov)) (js : List Nat) (c : Core) : Core :=
  js.foldl (fun c j => c.setAcc row j (listGet (0, none) xs j)) c

theorem Core.accElem_setRow_clear (c : Core) (row : Nat) {js : List Nat} {j : Nat} (hj : j ∈ js) :
    (c.setRow row [] js).accElem row j = (0, none) :=
  foldl_reaches (f := fun c j => c.setAcc row j (listGet (0, none) [] j)) (fun c : Core => c.accElem row j = (0, none))
    (fun c => c.accElem_setAcc_self row j)
    (fun _ i hc => Core.accElem_setAcc_zero hc row i) hj c

theorem Core.accElem_setRow_clear_of_clear {c : Core} {r l : Nat} (h : c.accElem r l = (0, none)) (row : Nat) (js : List Nat) :
    (c.setRow row [] js).accElem r l = (0, none) :=
  foldl_keeps (fun c : Core => c.accElem r l = (0, none)) (fun c j => c.setAcc row j (listGet (0, none) [] j))
    (fun _ i hc => Core.accElem_setAcc_zero hc row i) js c h

theorem Core.matrix_setRow (c : Core) (row : Nat) (xs : List (W32 × Option Prov)) (js : List Nat) : (c.setRow row xs js).matrix = c.matrix :=
  foldl_keeps (fun d : Core => d.matrix = c.matrix) (fun c j => c.setAcc row j (listGet (0, none) xs j)) (fun _ _ hd => hd) js c rfl

theorem State.core_writeRow (s : State) (core g row : Nat) (xs : List (W32 × Option Prov)) :
    (s.writeRow core g row xs).core core = (s.core core).setRow row xs (List.range 64) :=
  s.core_updCore core (Core.setRow row xs (List.range 64))

/-! The operation that clears 64 rows (R287). -/

theorem exec_matrixOpStart_zero {s : State} {core : Nat} {m : MatOp} {ms : List MatOp} (hm : (s.core core).matrix = m :: ms)
    (started : m.started = false) (kind : m.kind = .zero) (free : s.conflicts (.warp m.g m.w) m.id = false) :
    exec (.matrixOpStart core) s = .next (s.setMatOp core { m with started := true }) := by
  have first : (m :: ms).find? (fun (m : MatOp) => !m.started) = some m := by rw [List.find?_cons, started]; rfl
  have before : (m :: ms).takeWhile (fun (x : MatOp) => x.id != m.id) = [] := by rw [List.takeWhile_cons, bne_self_eq_false]; rfl
  rw [exec_matrixOpStart, execMatrixOpStart, State.startMatrix, hm]
  simp only [first, before, free, List.any_nil, Bool.or_self, Bool.false_eq_true, if_false, kind]

theorem matrixOpStart_zero {s : State} {core : Nat} {m : MatOp} {ms : List MatOp} (hm : (s.core core).matrix = m :: ms)
    (started : m.started = false) (kind : m.kind = .zero) (ids : ∀ x ∈ ms, x.id ≠ m.id) (free : s.conflicts (.warp m.g m.w) m.id = false) :
    Claims.Does (.matrixOpStart core) s fun t => (t.core core).matrix = { m with started := true } :: ms := by
  have others : ms.map (fun x => if x.id == m.id then { m with started := true } else x) = ms := by
    conv_rhs => rw [← List.map_id ms]
    exact List.map_congr_left fun x hx => if_neg (by simpa using ids x hx)
  refine ⟨_, exec_matrixOpStart_zero hm started kind free, ?_⟩
  dsimp only
  rw [State.setMatOp, State.core_updCore, hm, List.map_cons, if_pos (beq_self_eq_true m.id), others]

/-- The rows that an AZERO clears, one after another. -/
def State.clearRows (s : State) (core : Nat) (m : MatOp) (is : List Nat) : State :=
  is.foldl (fun (s : State) i => s.writeRow core m.g (m.row + i) []) s

theorem State.accElem_clearRows (s : State) (core : Nat) (m : MatOp) {is : List Nat} {k j : Nat} (hk : k ∈ is) (hj : j < 64) :
    ((s.clearRows core m is).core core).accElem (m.row + k) j = (0, none) := by
  refine foldl_reaches (fun t : State => (t.core core).accElem (m.row + k) j = (0, none)) (fun t => ?_) (fun t i ht => ?_) hk s
  · rw [State.core_writeRow]
    exact Core.accElem_setRow_clear _ _ (List.mem_range.mpr hj)
  · rw [State.core_writeRow]
    exact Core.accElem_setRow_clear_of_clear ht _ _

theorem exec_tileOpComplete_zero {s : State} {core : Nat} {m : MatOp} {ms : List MatOp} (hm : (s.core core).matrix = m :: ms)
    (started : m.started = true) (kind : m.kind = .zero) (d : PairDiffer) : exec (.tileOpComplete core ⟨m.id, d⟩) s =
      .next ((s.clearRows core m (List.range 64)).closeMatrix core m fpNone) := by
  rw [exec_tileOpComplete, execTileOpComplete, State.completeMatrix, hm]
  simp only [bne_self_eq_false, started, Bool.not_true, Bool.or_self, Bool.false_eq_true, if_false, kind]
  rfl

theorem tileOpComplete_zero {s : State} {core : Nat} {m : MatOp} {ms : List MatOp} (hm : (s.core core).matrix = m :: ms)
    (started : m.started = true) (kind : m.kind = .zero) : Claims.Does (.tileOpComplete core ⟨m.id, ⟨[], []⟩⟩) s fun t =>
      (∀ x ∈ (t.core core).matrix, x.id ≠ m.id) ∧ ∀ k < 64, ∀ j < 64, (t.core core).accElem (m.row + k) j = (0, none) := by
  obtain ⟨acc, poison, matrix⟩ := State.core_closeMatrix (s.clearRows core m (List.range 64)) core m fpNone
  refine ⟨_, exec_tileOpComplete_zero hm started kind _, fun x hx => ?_, fun k hk j hj => ?_⟩
  · rw [matrix] at hx
    simpa using (List.mem_filter.mp hx).2
  · rw [Core.accElem, acc, poison]
    exact s.accElem_clearRows core m (List.mem_range.mpr hk) hj

end Sys2Proof.Machine

/-! PROOFS. Copies: their start, their sectors and their end; tag waits (10 R264-R267). -/

namespace Sys2Proof.Machine
open Sys2Proof.Claims

/-! Start and end of a copy (R264, R265). -/

theorem copyDeferredStart_effect {s : State} {g op : Nat} {k : OpClass} {c : Copy} (ho : s.op? (.stoker g) op = some ⟨op, k, .copy c⟩)
    (queue : c.queue = none) (started : c.started = false) (resident : (s.group g).residence = .resident)
    (free : s.conflicts (.stoker g) op = false) : Does (.copyDeferredStart g op) s fun t =>
      ∀ y ∈ (t.agent (.stoker g)).ops, y.id = op → y.work = .copy { c with started := true } := by
  have start : s.startCopy g op = s.setWork (.stoker g) op (.copy { c with started := true }) := by
    simp only [State.startCopy, ho, started, resident, free, queue, bne_self_eq_false, Bool.or_self, Bool.false_eq_true, if_false]
  refine ⟨_, rfl, ?_⟩
  rw [start]
  exact (State.workBecomes_setWork (s := s) (a := .stoker g) trivial op _).work

theorem State.group_setWork_stoker (s : State) (g n : Nat) (k : OpWork) :
    (s.setWork (.stoker g) n k).group g = { s.group g with stoker := ((s.setWork (.stoker g) n k).group g).stoker } := by
  simp only [State.setWork, State.updAgent, State.setAgent, State.setStoker, State.group_updGroup]

/-- The count of a tag falls by one, and the tag is set when it comes to 0 (R264). -/
def Group.tagDone (n : Nat) (x : Group) : Group :=
  let left := Table.get 0 x.tagCounts n - 1
  { x with tagCounts := Table.set 0 n left x.tagCounts, tagBits := if left == 0 then setBit x.tagBits n true else x.tagBits }

theorem copyComplete_effect {s : State} {g op : Nat} {k : OpClass} {c : Copy} (ho : s.op? (.stoker g) op = some ⟨op, k, .copy c⟩)
    (queue : c.queue = none) (failed : c.failed = none) (sending : c.sending = []) (started : c.started = true)
    (credited : c.credited = c.len) : Does (.copyComplete g op) s fun t =>
      (∀ y ∈ (t.agent (.stoker g)).ops, y.id = op → y.work = .finished) ∧
      Table.get 0 (t.group g).tagCounts c.tag.toNat = Table.get 0 (s.group g).tagCounts c.tag.toNat - 1 := by
  obtain ⟨u, hu, groups⟩ : ∃ u : State, s.endCopy g op = (u.updGroup g (Group.tagDone c.tag.toNat)).setWork (.stoker g) op .finished ∧
      u.groups = s.groups := by
    refine ⟨{ s.unlock op with engineData := s.engineData.filter fun e => e.who != .agent (.stoker g) op }, ?_, rfl⟩
    simp only [State.endCopy, ho, queue, failed, sending, started, credited, List.isEmpty_nil, Bool.not_true, Option.isNone_none, bne_self_eq_false,
      Bool.or_self, Bool.and_false, Bool.false_eq_true, if_false]
    rfl
  refine ⟨_, rfl, ?_⟩
  rw [hu]
  refine ⟨(State.workBecomes_setWork (a := .stoker g) trivial op _).work, ?_⟩
  rw [State.group_setWork_stoker, State.group_updGroup, State.group, groups]
  exact Table.get_set_self 0 _ _ _

/-! Sectors (R266). -/

/-- Writes of a stoker thread to places of scratchpads leave memory as they write it, one after another. -/
theorem State.mem_engineStoreBy_scratch (s : State) (a : AgentId) {g : Nat} {ws : List ByteWrite} (h : ∀ w ∈ ws, w.loc.space = .scratch g) :
    (s.engineStoreBy a ws).mem = memAfter s.mem ws := by
  have untracked : s.trackedLines ws = [] := State.trackedLines_of_untracked fun l hl hs => by
    obtain ⟨w, hw, rfl⟩ := List.mem_map.mp hl
    rw [h w hw] at hs
    cases hs
  rw [State.engineStoreBy, untracked]
  exact s.performBy_mem a fun w hw i x e => by
    rw [h w hw] at e
    cases e

theorem listGet_map_fst (bs : List (Byte × Option Prov)) (i : Nat) : listGet 0 (bs.map (·.1)) i = (listGet (0, none) bs i).1 := by
  simp only [listGet_eq_getD, List.getD_eq_getElem?_getD, List.getElem?_map]
  cases bs[i]? <;> rfl

theorem mem_engineWrites {ls : List Loc} (bs : List (Byte × Option Prov)) {i : Nat} {l : Loc} (h : ls[i]? = some l) :
    (⟨l, (listGet (0, none) bs i).1, (listGet (0, none) bs i).2⟩ : ByteWrite) ∈ engineWrites ls bs := by
  obtain ⟨hi, hl⟩ := List.getElem?_eq_some_iff.mp h
  have place : listGet ⟨.hbm, 0⟩ ls i = l := by
    rw [listGet_eq_getD, List.getD_eq_getElem?_getD, h, Option.getD_some]
  refine List.mem_map.mpr ⟨(i, l), List.mem_map.mpr ⟨i, List.mem_range.mpr hi, ?_⟩, rfl⟩
  rw [Nat.zero_add, place]

/-- What different places hold after an engine writes them: the bytes given, and every other place what it held. -/
theorem holds_of_mem_eq {s t : State} {ls : List Loc} {bs : List (Byte × Option Prov)} (hm : t.mem = memAfter s.mem (engineWrites ls bs))
    (hw : ∀ l ∈ ls, ∀ g i, l.space ≠ .window g i) (distinct : (ls.map Loc.key).Nodup) :
    Holds t ls (bs.map (·.1)) ∧ OtherBytes s t ls := by
  have locs := map_loc_engineWrites ls bs
  constructor
  · intro i l hl
    have mem : l ∈ ls := List.mem_of_getElem? hl
    have written : (⟨l, (listGet (0, none) bs i).1, (listGet (0, none) bs i).2⟩ : ByteWrite) ∈ engineWrites ls bs :=
      mem_engineWrites bs hl
    have keys : ((engineWrites ls bs).map fun w => w.loc.key).Nodup := by
      rw [← locs, List.map_map] at distinct
      exact distinct
    rw [t.readByte_eq_memGet (hw l mem), hm, listGet_map_fst]
    exact memGet_memAfter _ keys written
  · intro l hl hk
    rw [t.readByte_eq_memGet hl, s.readByte_eq_memGet hl, hm]
    refine memGet_memAfter_ne _ _ _ fun w hw e => ?_
    exact hk w.loc (loc_mem_of_mem_engineWrites hw) e.symm

theorem State.fabricCheck_of_local (s : State) (vd : Nat) {ls : List Loc} (h : ∀ l ∈ ls, l.space ≠ .fabric) :
    s.fabricCheck vd (.ok ls) = .ok ls := by
  refine if_neg ?_
  rw [List.any_eq_true]
  rintro ⟨l, hl, e⟩
  exact h l hl (eq_of_beq (Bool.and_eq_true_iff.mp e).1)

section
variable {g : Nat} {ls : List Loc} (h : ∀ l ∈ ls, l.space = .scratch g)
include h

theorem State.damps_of_scratch (s : State) (vd : Nat) : s.damps vd ls = false := by
  have none (sp : Space) (hsp : sp ≠ .scratch g) : (ls.any fun l => l.space == sp) = false := by
    rw [List.any_eq_false]
    intro l hl e
    exact hsp ((eq_of_beq e).symm.trans (h l hl))
  rw [State.damps, none .hbm (by simp), none .fabric (by simp), Bool.and_false, Bool.and_false, Bool.or_self]

theorem State.meterPlaces_of_scratch (s : State) (vd : Nat) : s.meterPlaces vd ls = s := by
  have none : ls.filter (fun l => l.space == .hbm) = [] := by
    refine List.filter_eq_nil_iff.mpr fun l hl e => ?_
    rw [h l hl] at e
    exact absurd (eq_of_beq e) (by simp)
  rw [State.meterPlaces, none]
  rfl

end

theorem State.mem_setWork (s : State) (a : AgentId) (n : Nat) (k : OpWork) : (s.setWork a n k).mem = s.mem := s.updAgent_mem a _

/-- Crediting a sector of a copy that names no barrier writes nothing. -/
theorem State.mem_creditSector {c : Copy} (barrier : c.barrier = 0) (s : State) (g op n : Nat) (js : List Nat) :
    (s.creditSector g op n c js).mem = s.mem := by
  unfold State.creditSector
  simp only [barrier, beq_self_eq_true, if_true, State.mem_setWork]
  rfl

/-- A sector whose data are there and whose places are a scratchpad's is written at once. -/
theorem State.mem_moveSector {s u v : State} {g op n : Nat} {k : OpClass} {c c' : Copy} {bs : List (Byte × Option Prov)} {ls : List Loc}
    (ho : s.op? (.stoker g) op = some ⟨op, k, .copy c⟩) (queue : c.queue = none) (barrier : c.barrier = 0) (started : c.started = true)
    (failed : c.failed = none) (sending : c.sending = []) (sectors : c.sectors.contains n = false) (parked : c.parked = [])
    (nonempty : c.sectorBytes none n ≠ []) (resident : (s.group g).residence = .resident)
    (data : s.sectorData g op n c (c.sectorBytes none n) = (.bytes bs, c', u)) (same : c' = { c with snapshot := c'.snapshot })
    (places : u.placeBytes (.stoker g) Need.write ((c.sectorBytes none n).map c'.dstAddr) = (.ok ls, v))
    (scratch : ∀ l ∈ ls, l.space = .scratch g) : (s.moveSector g op n).mem = memAfter v.mem (engineWrites ls bs) := by
  have near : ∀ l ∈ ls, l.space ≠ .fabric := fun l hl => by rw [scratch l hl]; simp
  have barrier' : c'.barrier = 0 := by rw [same]; exact barrier
  have moved : s.moveSector g op n = (v.engineStoreBy (.stoker g) (engineWrites ls bs)).creditSector g op n c' (c.sectorBytes none n) := by
    simp only [State.moveSector, ho, queue, Option.bind_none, sending, List.contains_nil, Bool.false_eq_true, if_false, started, failed,
      List.isEmpty_eq_false_iff.mpr nonempty, sectors, parked, List.any_nil, resident, data, places, State.fabricCheck_of_local _ _ near,
      State.damps_of_scratch scratch, State.meterPlaces_of_scratch scratch, State.engineWrite_of_local _ _ _ _ _ _ near, Bool.not_true,
      Option.isSome_none, bne_self_eq_false, Bool.or_self]
  rw [moved, State.mem_creditSector barrier', State.mem_engineStoreBy_scratch _ _ fun w hw => scratch w.loc (loc_mem_of_mem_engineWrites hw)]

/-! Tag waits (R267). -/

theorem tagsMet_iff {all : Bool} {tags m : Word} : tagsMet all tags m = true ↔ m = 0 ∨ if all then tags &&& m = m else tags &&& m ≠ 0 := by
  cases all <;> simp [tagsMet]

theorem State.acquire_cur (s : State) (a : AgentId) : (s.acquire a).cur = s.cur := by
  unfold State.acquire
  split <;> rfl

theorem exec_tagWaitComplete_met {s : State} {g : Nat} {a : AgentId} {m : Word} {sd : Reg} {all : Bool} {pc next : Word} (hg : groupOf a = some g)
    (hw : (s.agent a).wait = some ⟨.tags m sd all, pc, next⟩) (resumes : s.mayResume a = true)
    (met : tagsMet all (s.group g).tagBits m = true) : exec (.tagWaitComplete a) s =
      .next ((((({ s with cur := a } : State).acquire a).setSreg sd (if all then 0 else (s.group g).tagBits &&& m)).updAgent a
        fun x => { x with wait := none }).setPc next) := by
  simp only [exec_tagWaitComplete, execTagWaitComplete, hw, hg, Option.getD_some, resumes, met, Bool.and_self, if_true, State.resumeAt,
    State.unwait, State.as, State.setSreg_cur, State.acquire_cur]

end Sys2Proof.Machine

/-! PROOFS. The stoker thread's seals and streams (10 R260, R268, R269). -/

namespace Sys2Proof.Machine
open Sys2Proof.Claims

theorem State.coreSeals_congr {s u : State} (h : u.groups = s.groups) (core : Nat) : u.coreSeals core = s.coreSeals core := by
  rw [State.coreSeals, State.coreSeals, h]

theorem State.stoker_congr {s u : State} (h : u.groups = s.groups) (g : Nat) : u.stoker g = s.stoker g := by
  rw [State.stoker, State.stoker, State.group, State.group, h]

/-- SEAL holds the layout of its record, where there is room for it (R260). -/
theorem exec_sealRecord_new {o : GK} {s u : State} {g : Nat} {bs : List Byte} {l : LayoutRec} (hc : s.cur = .stoker g)
    (runs : Runs (.sealRecord o) s) (aligned : (s.sreg o.sc).toNat % 64 = 0) (seals : o.flags.getLsbD 0 = false)
    (record : ∀ k, recordLoad (s.sreg o.sc) 64 s k = k bs u) (groups : u.groups = s.groups)
    (layout : parseLayout bs (s.sreg o.sc) = some l) (new : ∀ y ∈ (s.group g).seals, y.addr ≠ s.sreg o.sc)
    (room : (s.group g).seals.length < 8) (coreRoom : s.coreSeals (s.group g).core < 32) :
    exec (.sealRecord o) s = .next ((u.updGroup g fun y => { y with seals := y.seals ++ [l] }).writeNext 8 o.sd 0) := by
  have unsealed : (s.group g).sealAt (s.sreg o.sc) = none := by
    refine List.find?_eq_none.mpr fun y hy e => ?_
    exact new y hy (eq_of_beq e)
  have fits : (decide (8 ≤ (s.group g).seals.length) || decide (32 ≤ u.coreSeals (s.group g).core)) = false := by
    rw [State.coreSeals_congr groups]
    simp only [Bool.or_eq_false_iff, decide_eq_false_iff_not]
    omega
  rw [exec_of_runs (f := ⟨8, 0x1C, 3, .k o⟩) runs rfl (Eq.refl (sealOp 8 o s))]
  simp only [hc, groupOf, Option.getD_some, aligned, seals, unsealed, record, layout, fits, bne_self_eq_false, Bool.false_eq_true, if_false,
    Option.isSome_none]

/-- A stoker thread that runs no stream runs none in any slot. -/
theorem Agent.streams_eq_nil {a : Agent} (h : ∀ q ∈ a.ops, ∀ y, q.work ≠ .stream y) : a.streams = [] := by
  refine List.filterMap_eq_nil_iff.mpr fun q hq => ?_
  have idle := h q hq
  split
  · next y e => exact absurd e (idle y)
  · rfl

/-- STRDEF defines a slot while no stream runs in it (R268). -/
theorem exec_strdef_new {o : GK} {s u : State} {g : Nat} {bs : List Byte} {r : StreamRec} (hc : s.cur = .stoker g)
    (runs : Runs (.strdef o) s) (aligned : (s.sreg o.sa).toNat % 32 = 0) (record : ∀ k, recordLoad (s.sreg o.sa) 32 s k = k bs u)
    (groups : u.groups = s.groups) (cur : u.cur = s.cur) (parsed : parseStream bs = some r)
    (idle : ∀ q ∈ (s.stoker g).agent.ops, ∀ y, q.work ≠ .stream y) : exec (.strdef o) s =
      .next ((u.setStoker g { s.stoker g with slots := Table.put o.tag.toNat r (s.stoker g).slots }).writeNext 8 o.sd 0) := by
  have none : (u.agent u.cur).streams = [] := by
    rw [cur, hc, State.agent, State.stoker_congr groups]
    exact Agent.streams_eq_nil idle
  rw [exec_of_runs (f := ⟨8, 0x1C, 4, .k o⟩) runs rfl (Eq.refl (strdefOp 8 o s))]
  simp only [hc, groupOf, Option.getD_some, aligned, record, parsed, none, List.any_nil, bne_self_eq_false, Bool.false_eq_true, if_false,
    State.stoker_congr groups]

theorem State.register_cur (s : State) (a : AgentId) (ks : List RangeLock) : (s.register a ks).cur = s.cur := by
  unfold State.register
  refine foldl_keeps (fun t : State => t.cur = s.cur) _ (fun t k ht => ?_) ks s rfl
  dsimp only
  split
  · exact ht
  · exact ht

theorem State.agent_register_stoker (s : State) (a : AgentId) (ks : List RangeLock) (g : Nat) :
    (s.register a ks).agent (.stoker g) = s.agent (.stoker g) :=
  congrArg Stoker.agent (State.stoker_congr (s.apart_register a ks).groups g)

theorem Agent.ops_setSreg (a : Agent) (n : Nat) (v : Word) (p : Option Prov) : (a.setSreg n v p).ops = a.ops := by
  unfold Agent.setSreg
  split <;> rfl

/-- A stoker thread's new operation is the last of its operations when its locks are held and a register is written. -/
theorem State.ops_addOp_register {s : State} {g : Nat} (hc : s.cur = .stoker g) (k : OpClass) (w : OpWork) (ks : List RangeLock) (len : Nat)
    (sd : Reg) (v : Word) : ((((s.addOp (.stoker g) k w).2.register (.stoker g) ks).writeNext len sd v).agent (.stoker g)).ops =
      (s.agent (.stoker g)).ops ++ [⟨s.uid, k, w⟩] := by
  have added : (s.addOp (.stoker g) k w).2.agent (.stoker g) =
      { s.agent (.stoker g) with ops := (s.agent (.stoker g)).ops ++ [⟨s.uid, k, w⟩] } :=
    State.agent_updAgent { s with uid := s.uid + 1 } (.stoker g) (fun x => { x with ops := x.ops ++ [⟨s.uid, k, w⟩] }) trivial
  have cur : ((s.addOp (.stoker g) k w).2.register (.stoker g) ks).cur = .stoker g := by
    rw [State.register_cur]
    exact (State.updAgent_cur _ _ _).trans hc
  have written := State.agent_writeNext (s := (s.addOp (.stoker g) k w).2.register (.stoker g) ks) (by rw [cur]; trivial) len sd v
  rw [cur] at written
  rw [written, Agent.ops_setSreg, State.agent_register_stoker, added]

/-- STRRUN starts the stream of a defined slot with a push queue that fits it (R269). -/
theorem strrun_effect {o : GK} {s : State} {g : Nat} {r : StreamRec} {q : FeedQueue} (hc : s.cur = .stoker g) (runs : Runs (.strrun o) s)
    (slot : Table.look (s.stoker g).slots o.tag.toNat = some r) (index : r.index = false) (use : r.use = false)
    (idle : ∀ q ∈ (s.stoker g).agent.ops, ∀ y, q.work ≠ .stream y) (queue : s.feedQueue g r.qnum = some q) (size : 2 ^ q.sizeLog = r.esize)
    (room : s.classFull s.cur .copies = false) (locks : s.lockRoom s.cur (s.streamLocks s.cur 0 ⟨o.tag.toNat, r, none, 0, []⟩) = true) :
    Does (.strrun o) s fun t => (t.agent s.cur).ops = (s.agent s.cur).ops ++ [⟨s.uid, .copies, .stream ⟨o.tag.toNat, r, none, 0, []⟩⟩] := by
  have none := Agent.streams_eq_nil idle
  have fits : (q.size != r.esize) = false := by rw [FeedQueue.size, size, bne_self_eq_false]
  rw [hc] at room locks
  have run : ∃ ks, exec (.strrun o) s =
      .next (((s.addOp (.stoker g) .copies (.stream ⟨o.tag.toNat, r, Option.none, 0, []⟩)).2.register (.stoker g) ks).writeNext 8 o.sd 0) := by
    refine ⟨(s.addOp (.stoker g) .copies (.stream ⟨o.tag.toNat, r, Option.none, 0, []⟩)).2.streamLocks (.stoker g) s.uid
      ⟨o.tag.toNat, r, Option.none, 0, []⟩, ?_⟩
    rw [exec_of_runs (f := ⟨8, 0x1C, 5, .k o⟩) runs rfl (Eq.refl (strrunOp 8 o s))]
    simp only [hc, groupOf, Option.getD_some, Stoker.slot, slot, index, use, none, List.any_nil, queue, fits, room, locks, Bool.not_true,
      Bool.or_self, Bool.false_and, Bool.false_eq_true, if_false]
    rfl
  obtain ⟨ks, run⟩ := run
  refine ⟨_, run, ?_⟩
  rw [hc]
  exact State.ops_addOp_register hc _ _ ks 8 o.sd 0

/-! The push of a stream (R269). -/

theorem State.feedQueue_congr {s u : State} {g k : Nat} (h : (u.group g).queues = (s.group g).queues) : u.feedQueue g k = s.feedQueue g k := by
  rw [State.feedQueue, State.feedQueue, h]

theorem State.feedQueue_updFeed {s : State} {g k : Nat} {q : FeedQueue} (h : s.feedQueue g k = some q) (f : FeedQueue → FeedQueue) :
    (s.updFeed g k f).feedQueue g k = some (f q) := by
  have look : Table.look (s.group g).queues k = some q := h
  simp only [State.updFeed, State.feedQueue, State.group_updGroup, look, Table.look_put_self]

theorem State.queues_setWork_stoker (s : State) (g n : Nat) (k : OpWork) :
    ((s.setWork (.stoker g) n k).group g).queues = (s.group g).queues := by
  rw [State.group_setWork_stoker]

theorem State.queues_updGroup (s : State) {k : Nat} {f : Group → Group} (hf : (f (s.group k)).queues = (s.group k).queues) (g : Nat) :
    ((s.updGroup k f).group g).queues = (s.group g).queues := by
  by_cases hg : g = k
  · rw [hg, State.group_updGroup, hf]
  · rw [s.group_updGroup_ne f hg]

theorem State.queues_writeByte (s : State) (l : Loc) (b : Byte) (g : Nat) : ((s.writeByte l b).group g).queues = (s.group g).queues := by
  unfold State.writeByte
  split
  · exact s.queues_updGroup (f := fun x => { x with warps := listSet x.warps _ _ }) rfl g
  · rfl

theorem State.queues_markDirty (s : State) (l : Loc) (g : Nat) : ((s.markDirty l).group g).queues = (s.group g).queues := by
  unfold State.markDirty
  split
  · extract_lets n
    split
    · rfl
    · exact s.queues_updGroup rfl g
  · rfl

theorem State.queues_setPoison (s : State) (l : Loc) (p : Option Prov) (g : Nat) : ((s.setPoison l p).group g).queues = (s.group g).queues := by
  unfold State.setPoison
  split
  · exact s.queues_updGroup (f := fun x => { x with warps := listSet x.warps _ _ }) rfl g
  · rfl

theorem State.queues_performWrites (s : State) (ws : List ByteWrite) (g : Nat) : ((s.performWrites ws).group g).queues = (s.group g).queues := by
  let P (t : State) : Prop := (t.group g).queues = (s.group g).queues
  unfold State.performWrites
  refine foldl_keeps P _ (fun t l ht => ?_) _ _ (foldl_keeps P _ (fun t w ht => ?_) ws s rfl)
  · dsimp only
    split
    · exact ht
    · exact (t.queues_setPoison l _ g).trans ht
  · exact ((State.queues_markDirty _ _ g).trans (t.queues_writeByte _ _ g)).trans ht

theorem State.queues_endStream (s : State) (g op : Nat) (x : Stream) : ((s.endStream g op x false).group g).queues = (s.group g).queues := by
  rw [State.endStream, if_neg (by decide), State.queues_setWork_stoker]
  rfl

/-- The entry's bytes are written to the queue's next slot, which is then filled. -/
theorem streamPush_effect {s u : State} {g n op : Nat} {x : Stream} {q : FeedQueue} {bs : List (Byte × Option Prov)}
    (found : (s.agent (.stoker g)).streams.find? (fun y => y.2.slot == n) = some (op, x)) (use : x.record.use = false)
    (source : x.source = none) (queue : s.feedQueue g x.record.qnum = some q) (room : q.room ≠ 0) (parked : x.parked = [])
    (free : s.conflicts (.stoker g) op = false) (resident : (s.group g).residence = .resident)
    (data : s.streamRead g op x.next 0 (x.record.base + BitVec.ofNat 64 x.next * x.record.stride) x.record.esize = (.bytes bs, u))
    (groups : u.groups = s.groups) : Does (.streamPush g n) s fun t =>
      t.feedQueue g x.record.qnum = some (FeedQueue.fill { q with pres := q.pres + 1 } q.pres.toNat) := by
  obtain ⟨v, queues, pushed⟩ : ∃ v : State, (v.group g).queues = (u.group g).queues ∧
      let y := { x with next := x.next + 1 }
      let w := v.updFeed g x.record.qnum fun p => ({ p with pres := p.pres + 1 } : FeedQueue).fill q.pres.toNat
      s.pushElement g op x = if y.next == x.record.bound then w.endStream g op y false else w.setWork (.stoker g) op (.stream y) := by
    refine ⟨(u.performWrites ((List.range x.record.esize).map fun j =>
      (⟨⟨.scratch g, q.slot q.pres.toNat + j⟩, (listGet (0, none) bs j).1, (listGet (0, none) bs j).2⟩ : ByteWrite))).forget
      (.agent (.stoker g) op) x.next, State.queues_performWrites _ _ _, ?_⟩
    simp only [State.pushElement, queue, beq_false_of_ne room, parked, List.isEmpty_nil, free, resident, source, use, data, Bool.not_true,
      bne_self_eq_false, Bool.or_self, Bool.false_and, Bool.false_eq_true, if_false]
  have slot : v.feedQueue g x.record.qnum = some q := by
    rw [State.feedQueue_congr (queues.trans (congrArg Group.queues (congrArg (Table.get Group.start · g) groups))), queue]
  refine ⟨_, by rw [exec_streamPush, execStreamPush, found], ?_⟩
  rw [pushed]
  split
  · rw [State.feedQueue_congr (State.queues_endStream _ _ _ _), State.feedQueue_updFeed slot]
  · rw [State.feedQueue_congr (State.queues_setWork_stoker _ _ _ _), State.feedQueue_updFeed slot]

end Sys2Proof.Machine

/-! PROOFS. Partition states and the flue engine: attachments, rounds and exchanges (14 R342-R354). -/

namespace Sys2Proof.Machine
open Sys2Proof.Claims

/-! Partition states in their table. -/

theorem Table.look_cons {β : Type} (k : Nat) (v : β) (t : Table β) (n : Nat) :
    Table.look ((k, v) :: t) n = if n == k then some v else Table.look t n := rfl

theorem State.look_updPart (s : State) (k : Nat) (f : Partition → Partition) (j : Nat) :
    Table.look (s.updPart k f).parts j = if j = k then (Table.look s.parts k).map f else Table.look s.parts j := by
  have each (t : Table Partition) : Table.look (t.map fun p => if p.1 == k then (p.1, f p.2) else p) j =
      if j = k then (Table.look t k).map f else Table.look t j := by
    induction t with
    | nil => rw [List.map_nil, Table.look_nil, Table.look_nil, Option.map_none, ite_self]
    | cons e t ih =>
      obtain ⟨n, p⟩ := e
      rw [List.map_cons, Table.look_cons, Table.look_cons]
      by_cases hn : n = k
      · subst hn
        simp only [beq_self_eq_true, if_true, Table.look_cons, ih]
        by_cases hj : j = n <;> simp [hj]
      · simp only [beq_false_of_ne hn, Bool.false_eq_true, if_false, Table.look_cons, ih, beq_false_of_ne (Ne.symm hn)]
        by_cases hj : j = k
        · subst hj; simp [Ne.symm hn]
        · simp [hj]
  exact each s.parts

theorem State.look_updPart_self {s : State} {k : Nat} {p : Partition} (h : Table.look s.parts k = some p) (f : Partition → Partition) :
    Table.look (s.updPart k f).parts k = some (f p) := by
  rw [State.look_updPart, if_pos rfl, h, Option.map_some]

theorem State.isSome_look_updPart (s : State) (k : Nat) (f : Partition → Partition) (j : Nat) :
    (Table.look (s.updPart k f).parts j).isSome = (Table.look s.parts j).isSome := by
  rw [State.look_updPart]
  split
  · next e => rw [e, Option.isSome_map]
  · rfl

/-! What the partitions tell each other (R350). -/

/-- Workgroups and the executing agent are the same, and the same partition states stand. -/
structure Told (s t : State) : Prop where
  groups : t.groups = s.groups
  cur : t.cur = s.cur
  stands : ∀ k, (Table.look t.parts k).isSome = (Table.look s.parts k).isSome

namespace Told
variable {s t u : State}

theorem refl (s : State) : Told s s := ⟨rfl, rfl, fun _ => rfl⟩

theorem trans (h : Told s t) (k : Told t u) : Told s u :=
  ⟨k.groups.trans h.groups, k.cur.trans h.cur, fun n => (k.stands n).trans (h.stands n)⟩

theorem foldl {α : Type} {f : State → α → State} (hf : ∀ s a, Told s (f s a)) (l : List α) (s : State) : Told s (l.foldl f s) :=
  foldl_keeps (Told s) f (fun _ a h => h.trans (hf _ a)) l s (.refl s)

theorem ite {c : Prop} [Decidable c] (h : Told s t) (k : Told s u) : Told s (if c then t else u) := by
  split
  · exact h
  · exact k

end Told

theorem State.told_updPart (s : State) (k : Nat) (f : Partition → Partition) : Told s (s.updPart k f) :=
  ⟨rfl, rfl, s.isSome_look_updPart k f⟩

theorem State.told_learn (s : State) (k f : Nat) (c : FlueNote) : Told s (s.learn k f c) := s.told_updPart k _

theorem State.told_flushChannel (s : State) (n peer : Nat) : Told s (s.flushChannel n peer) := by
  unfold State.flushChannel
  split
  next fs c _ =>
    refine Told.trans (t := s.setChannel n peer c) ⟨rfl, rfl, fun _ => rfl⟩ (.foldl (fun t f => ?_) fs _)
    exact ⟨rfl, rfl, fun _ => rfl⟩

theorem State.told_transmit (s : State) (n peer : Nat) (c : FlitContent) : Told s (s.transmit n peer c) := by
  unfold State.transmit
  extract_lets x
  split
  · exact Told.trans (t := s.setChannel n peer { x with waiting := x.waiting ++ [.data c] }) ⟨rfl, rfl, fun _ => rfl⟩
      (State.told_flushChannel _ n peer)
  · exact ⟨rfl, rfl, fun _ => rfl⟩

theorem State.told_sendNote (s : State) (e : Word) (dest : FlueDest) (c : FlueNote) : Told s (s.sendNote e dest c) := by
  unfold State.sendNote
  split
  · split
    · exact s.told_learn _ _ _
    · exact .refl s
  · exact .ite (s.told_transmit _ _ _) (.refl s)

theorem State.told_takeNote (s : State) (station acc : Nat) (dest : FlueDest) (c : FlueNote) : Told s (s.takeNote station acc dest c) := by
  unfold State.takeNote
  split
  · exact .refl s
  · next k p _ =>
    extract_lets names t
    have learned : Told s t := .ite (s.told_learn _ _ _) (.refl s)
    split
    · exact learned
    · split
      · split
        · exact learned.trans (t.told_learn _ _ _)
        · exact learned
      · exact .ite (learned.trans (t.told_transmit _ _ _)) learned

theorem State.told_tellNeighbours (s : State) (k : Nat) (p : Partition) (steps : Option Nat) (ask : Bool) :
    Told s (s.tellNeighbours k p steps ask) := by
  unfold State.tellNeighbours
  refine .foldl (fun t f => ?_) _ s
  extract_lets n
  split
  · split
    · exact .ite (t.told_takeNote _ _ _ _) (t.told_sendNote _ _ _)
    · exact .refl t
  · exact .refl t

theorem State.told_syncFlue (s : State) (k : Nat) : Told s (s.syncFlue k) := by
  unfold State.syncFlue
  split
  · exact .refl s
  · refine .foldl (fun t e => ?_) _ s
    refine Told.trans (t := t.unlock e.2) ⟨rfl, rfl, fun _ => rfl⟩ (.foldl (fun u c => ?_) _ _)
    exact ⟨rfl, rfl, fun _ => rfl⟩

/-! Attachments (R347, R352, R353). -/

theorem State.attached_setStoker (s : State) (k : Nat) (v : Stoker) (g : Nat) : ((s.setStoker k v).group g).attached = (s.group g).attached := by
  by_cases hg : g = k
  · rw [hg, State.setStoker, State.group_updGroup]
  · rw [State.setStoker, s.group_updGroup_ne _ hg]

theorem State.attached_advance_stoker {s : State} {k : Nat} (hc : s.cur = .stoker k) (len g : Nat) :
    ((s.advance len).group g).attached = (s.group g).attached := by
  rw [State.advance, State.setPc, hc]
  exact s.attached_setStoker _ _ _

theorem State.partOf_of_attachAt {s : State} {g : Nat} {addr : Word} {t : Attach} {k : Nat} {p : Partition}
    (h : s.attachAt g addr = some (t, k, p)) : s.partOf t.die (s.group g).vd t.grid = some (k, p) := by
  unfold State.attachAt at h
  dsimp only at h
  split at h
  · obtain ⟨⟨k', p'⟩, found, e⟩ := Option.map_eq_some_iff.mp h
    obtain ⟨rfl, rfl, rfl⟩ := Prod.mk.injEq .. ▸ e
    exact found
  · cases h

/-- What is left of a detachment: its workgroup without the attachment. -/
theorem State.detach_effect {s : State} {g : Nat} {t : Attach} {k : Nat} {p : Partition}
    (found : s.partOf t.die (s.group g).vd t.grid = some (k, p)) : (s.detach g t).cur = s.cur ∧
      ((s.detach g t).group g).attached = (s.group g).attached.filter fun y => y.addr != t.addr := by
  have detached : s.detach g t = ((s.updPart k fun p => { p with attached := p.attached - 1 }).updGroup g fun x =>
      { x with attached := x.attached.filter fun y => y.addr != t.addr }).syncFlue k := by
    rw [State.detach, found]
  obtain ⟨groups, cur, -⟩ := State.told_syncFlue ((s.updPart k fun p => { p with attached := p.attached - 1 }).updGroup g fun x =>
    { x with attached := x.attached.filter fun y => y.addr != t.addr }) k
  rw [detached]
  refine ⟨cur, ?_⟩
  rw [State.group, groups, ← State.group, State.group_updGroup]
  rfl

theorem gdetach_effect {o : GK} {s : State} {g : Nat} {t : Attach} {k : Nat} {p : Partition} (hc : s.cur = .stoker g) (runs : Runs (.gdetach o) s)
    (found : s.attachAt g (s.sreg o.sa) = some (t, k, p)) :
    Does (.gdetach o) s fun u => (u.group g).attached = (s.group g).attached.filter fun y => y.addr != t.addr := by
  obtain ⟨cur, attached⟩ := State.detach_effect (State.partOf_of_attachAt found)
  refine ⟨(s.detach g t).advance 8, ?_, (State.attached_advance_stoker (cur.trans hc) 8 g).trans attached⟩
  rw [exec_of_runs (f := ⟨8, 0x1D, 3, .k o⟩) runs rfl (Eq.refl (gdetachOp 8 o s))]
  simp only [hc, groupOf, Option.getD_some, found]

theorem exec_gstat_counts {o : GK} {s : State} {g : Nat} {t : Attach} {k : Nat} {p : Partition} (hc : s.cur = .stoker g) (runs : Runs (.gstat o) s)
    (found : s.attachAt g (s.sreg o.sa) = some (t, k, p)) (tag : o.tag = 0) : exec (.gstat o) s = .next (s.writeNext 8 o.sd
      (BitVec.ofNat 64 (p.steps + (if p.done0 then 2 ^ 32 else 0) + 2 ^ 40 * p.error + 2 ^ 48 * p.arrivals))) := by
  rw [exec_of_runs (f := ⟨8, 0x1D, 2, .k o⟩) runs rfl (Eq.refl (gstatOp 8 o s))]
  simp only [hc, groupOf, Option.getD_some, found, tag]
  rfl

/-- A workgroup attaches to the partition state of key `k`. -/
def State.attached (s : State) (g k : Nat) (a : Attach) : State :=
  ((s.updPart k fun p => { p with attached := p.attached + 1 }).updGroup g fun x => { x with attached := x.attached ++ [a] }).syncFlue k

theorem State.attached_effect (s : State) (g k : Nat) (a : Attach) : ((s.attached g k a).group g).attached = (s.group g).attached ++ [a] ∧
    ∀ j, (Table.look (s.attached g k a).parts j).isSome = (Table.look s.parts j).isSome := by
  obtain ⟨groups, -, stands⟩ := State.told_syncFlue
    ((s.updPart k fun p => { p with attached := p.attached + 1 }).updGroup g fun x => { x with attached := x.attached ++ [a] }) k
  refine ⟨?_, fun j => (stands j).trans (s.isSome_look_updPart k (fun p => { p with attached := p.attached + 1 }) j)⟩
  rw [State.attached, State.group, groups, ← State.group, State.group_updGroup]
  rfl

/-- The state with a new partition state in place `k`, a workgroup attached to it, and its neighbours told. -/
def State.withPart (s : State) (g k : Nat) (p : Partition) (a : Attach) : State :=
  (({ s with parts := Table.put k p s.parts } : State).attached g k a).tellNeighbours k p (some 0) true

theorem State.withPart_effect (s : State) (g k : Nat) (p : Partition) (a : Attach) :
    ((s.withPart g k p a).group g).attached = (s.group g).attached ++ [a] ∧ (Table.look (s.withPart g k p a).parts k).isSome = true := by
  obtain ⟨groups, -, stands⟩ := State.told_tellNeighbours (({ s with parts := Table.put k p s.parts } : State).attached g k a) k p (some 0) true
  obtain ⟨attached, stood⟩ := State.attached_effect { s with parts := Table.put k p s.parts } g k a
  refine ⟨?_, (stands k).trans ((stood k).trans ?_)⟩
  · rw [State.withPart, State.group, groups, ← State.group, attached]
    rfl
  · simp only [Table.look_put_self, Option.isSome_some]

/-- GATTACH of a record that no state of the die has makes one in the first free place (R347). -/
theorem gattach_effect {o : GK} {s u : State} {g i : Nat} {bs : List Byte} {r : GridRec} (hc : s.cur = .stoker g) (runs : Runs (.gattach o) s)
    (aligned : (s.sreg o.sa).toNat % 64 = 0) (record : ∀ f, recordLoad (s.sreg o.sa) 128 s f = f bs u) (groups : u.groups = s.groups)
    (new : ∀ t ∈ (s.group g).attached, t.addr ≠ s.sreg o.sa) (room : (s.group g).attached.length < 4)
    (parsed : u.parseGrid (s.group g).vd bs = some r) (absent : u.partOf (dieOf (s.group g).core) (s.group g).vd r.gridId = none) (hi : i < 64)
    (free : Table.look u.parts (dieOf (s.group g).core * 64 + i) = none)
    (before : ∀ j < i, (Table.look u.parts (dieOf (s.group g).core * 64 + j)).isSome = true) :
    ∃ t : State, exec (.gattach o) s = .next (t.writeNext 8 o.sd 0) ∧ (Table.look t.parts (dieOf (s.group g).core * 64 + i)).isSome = true ∧
      (t.group g).attached.length = (s.group g).attached.length + 1 := by
  have unattached : ((s.group g).attached.any fun t => t.addr == s.sreg o.sa) = false := by
    rw [List.any_eq_false]
    exact fun t ht e => new t ht (eq_of_beq e)
  have first : (List.range 64).find? (fun i => (Table.look u.parts (dieOf (s.group g).core * 64 + i)).isNone) = some i := by
    refine List.find?_range_eq_some.mpr ⟨by rw [free]; rfl, List.mem_range.mpr hi, fun j hj => ?_⟩
    rw [Option.not_isNone, before j hj]
  obtain ⟨attached, stands⟩ := u.withPart_effect g (dieOf (s.group g).core * 64 + i)
    (Partition.start (s.group g).vd r (u.grid (s.group g).grid).queue (u.launchOf g).ktag) ⟨s.sreg o.sa, dieOf (s.group g).core, r.gridId, 0⟩
  refine ⟨_, ?_, stands, ?_⟩
  · rw [exec_of_runs (f := ⟨8, 0x1D, 0, .k o⟩) runs rfl (Eq.refl (gattachOp 8 o s))]
    simp only [hc, groupOf, Option.getD_some, aligned, record, unattached, parsed, absent, first, Nat.not_le.mpr room, bne_self_eq_false,
      Bool.false_eq_true, if_false]
    rfl
  · rw [attached, List.length_append, State.group, State.group, groups]
    rfl

end Sys2Proof.Machine

/-! PROOFS. Rounds, exchanges and pushes of the flue engine (14 R349, R350, R353). -/

namespace Sys2Proof.Machine
open Sys2Proof.Claims

/-! The executing agent is the same through a round (R349). -/

theorem State.arrive_cur {s u : State} {l : Loc} {n : Nat} (h : s.arrive l n = some u) : u.cur = s.cur := by
  have stored (bs : List Byte) : (s.store l bs).cur = s.cur := by
    obtain ⟨m, p, g, e⟩ := s.performWrites_frame (writesAt l bs none)
    rw [State.store, e]
  unfold State.arrive at h
  extract_lets w0 expect remain late w t at h
  split at h
  · cases h
  · split at h
    · rw [← Option.some.inj h]
      exact stored (bytesOf w)
    · rw [← Option.some.inj h]
      exact stored _

theorem State.flueCredit_cur (s : State) (c : Credit) : (s.flueCredit c).cur = s.cur := by
  unfold State.flueCredit
  split
  · rfl
  · split
    · next e => exact State.arrive_cur e
    · rfl

theorem State.flueCredits_cur (s : State) (cs : List Credit) : (cs.foldl State.flueCredit s).cur = s.cur :=
  foldl_keeps (fun t : State => t.cur = s.cur) _ (fun t c ht => (t.flueCredit_cur c).trans ht) cs s rfl

theorem State.exchange_cur (s : State) (k step : Nat) : (s.exchange k step).cur = s.cur := by
  unfold State.exchange
  split
  · rfl
  · split
    next id u hu =>
    extract_lets v
    have begun : v.cur = s.cur := (State.told_syncFlue _ k).cur.trans (by cases hu; rfl)
    refine foldl_keeps (fun t : State => t.cur = s.cur) _ (fun t f ht => ?_) _ v begun
    extract_lets own n absent
    split
    · exact ht
    · exact ht

theorem State.arriveRound_cur (s : State) (g : Nat) (addr barrier : Word) (r : Nat) : (s.arriveRound g addr barrier r).cur = s.cur := by
  unfold State.arriveRound
  split
  · rfl
  · extract_lets t u steps v w exchanges due
    have counted : u.cur = s.cur := by
      show (if _ then _ else _ : State).cur = s.cur
      split <;> rfl
    have told : w.cur = s.cur := by
      show (if _ then _ else _ : State).cur = s.cur
      split
      · exact (State.told_tellNeighbours _ _ _ _ _).cur.trans counted
      · exact counted
    split
    · exact counted
    · split
      · exact (State.exchange_cur _ _ _).trans told
      · exact (State.flueCredits_cur _ _).trans told

/-! GSTEP and its resumption (R349). -/

theorem exec_gstep_arrives {o : GK} {s : State} {g : Nat} {t : Attach} {k : Nat} {p : Partition} (hc : s.cur = .stoker g)
    (runs : Runs (.gstep o) s) (found : s.attachAt g (s.sreg o.sa) = some (t, k, p)) (barrier : s.creditAt (s.sreg o.se) = none)
    (init : o.flags.getLsbD 0 = true ↔ t.round = 0) (bound : t.round < 2 ^ 32) (round : t.round = p.round)
    (released : s.released s.cur = true) (room : s.exchangeWaits k p = false) :
    exec (.gstep o) s = .next ((s.arriveRound g (s.sreg o.sa) (s.sreg o.se) t.round).advance 8) := by
  rw [round] at init bound
  have agrees : (o.flags.getLsbD 0 != (p.round == 0)) = false := by
    rw [bne_eq_false_iff_eq, Bool.eq_iff_iff, init, beq_iff_eq]
  have below : (p.round == 2 ^ 32) = false := beq_false_of_ne (by omega)
  rw [hc] at released
  rw [exec_of_runs (f := ⟨8, 0x1D, 1, .k o⟩) runs rfl (Eq.refl (gstepOp 8 o s))]
  simp only [hc, groupOf, Option.getD_some, found, barrier, agrees, below, round, Nat.lt_irrefl, decide_false, released, room, Bool.not_true,
    Bool.or_self, Bool.false_eq_true, if_false]

theorem exec_gstepResume_arrives {s : State} {a : AgentId} {g : Nat} {t : Attach} {k : Nat} {p : Partition} {addr barrier pc next : Word} {r : Nat}
    (hg : groupOf a = some g) (found : s.attachAt g addr = some (t, k, p)) (hw : (s.agent a).wait = some ⟨.round addr barrier r, pc, next⟩)
    (resumes : s.mayResume a = true) (released : s.released a = true) (round : r = p.round) (room : s.exchangeWaits k p = false) :
    exec (.gstepResume a) s = .next ((((({ s with cur := a } : State).arriveRound g addr barrier r).updAgent a
      fun x => { x with wait := none }).setPc next)) := by
  have due : (r != p.round) = false := by rw [round, bne_self_eq_false]
  simp only [exec_gstepResume, execGstepResume, hw, hg, found, resumes, due, room, released, Bool.not_true, Bool.or_self, Bool.false_eq_true,
    if_false, State.resumeAt, State.unwait, State.arriveRound_cur, State.as]

/-! Pushes, notes, slabs and credits (R350, R353). -/

theorem State.parts_receivedTag (s : State) (station : Nat) (q : Option Prov) : (s.receivedTag station q).2.parts = s.parts := by
  unfold State.receivedTag
  split
  · rfl
  · split <;> rfl

theorem State.parts_receivedBytes (s : State) (station : Nat) (bs : List (Byte × Option Prov)) : (s.receivedBytes station bs).2.parts = s.parts := by
  unfold State.receivedBytes
  split
  · rfl
  · exact s.parts_receivedTag station _

/-- A push from another accelerator joins its receiver's pushes (R350). -/
theorem fluePush_arrive_effect {s : State} {st acc step k : Nat} {dest : FlueDest} {p : Partition} (target : s.flueTarget st acc dest = some (k, p))
    (stands : Table.look s.parts k = some p) (names : s.namesSender p dest.face acc dest = true) (cells : List (Byte × Option Prov)) :
    Does (.fluePush (k / 64) k (.arrive st acc dest step cells)) s fun t => ∃ q x, Table.look t.parts k = some q ∧ q.pushes = p.pushes ++ [x] ∧
      x.step = step ∧ x.face = dest.face := by
  have run : exec (.fluePush (k / 64) k (.arrive st acc dest step cells)) s = .next (s.takePush st acc dest step cells) := by
    simp only [exec_fluePush, execFluePush, target, bne_self_eq_false, Option.any_some, beq_self_eq_true, Bool.false_eq_true, if_false, if_true]
  obtain ⟨u, x, taken, parts, hstep, hface⟩ : ∃ (u : State) (x : Push), s.takePush st acc dest step cells =
      u.updPart k (fun p => { p with pushes := p.pushes ++ [x] }) ∧ u.parts = s.parts ∧ x.step = step ∧ x.face = dest.face := by
    refine ⟨_, ⟨s.uid, dest.face, step, true, true, some (({ s with uid := s.uid + 1 } : State).receivedBytes st cells).1, false, []⟩, ?_,
      State.parts_receivedBytes { s with uid := s.uid + 1 } st cells, rfl, rfl⟩
    simp only [State.takePush, target, names, Bool.not_true, Bool.false_eq_true, if_false, State.fresh]
  refine ⟨_, run, { p with pushes := p.pushes ++ [x] }, x, ?_, rfl, hstep, hface⟩
  rw [taken]
  exact State.look_updPart_self ((congrArg (Table.look · k) parts).trans stands) fun p => { p with pushes := p.pushes ++ [x] }

/-- A partition that learns what a neighbour tells knows it (R350). -/
theorem State.look_learn {s : State} {k : Nat} {p : Partition} (h : Table.look s.parts k = some p) (f : Nat) (c : FlueNote) :
    ∃ q, Table.look (s.learn k f c).parts k = some q ∧ Table.look q.known f = some { c with ask := false } := by
  refine ⟨_, State.look_updPart_self h _, ?_⟩
  extract_lets gone q
  have known : Table.look q.known f = some { c with ask := false } := Table.look_put_self f _ p.known
  split
  · exact known
  · exact known

theorem flueCounterUpdate_effect {s : State} {st acc k : Nat} {dest : FlueDest} {p : Partition} (target : s.flueTarget st acc dest = some (k, p))
    (stands : Table.look s.parts k = some p) (names : s.namesSender p dest.face acc dest = true) {c : FlueNote} (tells : c.ask = false) :
    Does (.flueCounterUpdate st acc dest c) s fun t => ∃ q, Table.look t.parts k = some q ∧ Table.look q.known dest.face = some c := by
  have taken : s.takeNote st acc dest c = s.learn k dest.face c := by
    simp only [State.takeNote, target, names, tells, Bool.not_false, if_true]
  have same : { c with ask := false } = c := by rw [← tells]
  obtain ⟨q, found, known⟩ := State.look_learn stands dest.face c
  refine ⟨_, rfl, q, ?_, known.trans (congrArg some same)⟩
  rw [taken]
  exact found

/-- Replacing a push leaves the tags of every partition. -/
theorem State.look_setPush {s : State} {k : Nat} {p : Partition} (h : Table.look s.parts k = some p) (j id : Nat) (v : Option Push) :
    ∃ q, Table.look (s.setPush j id v).parts k = some q ∧ q.tags = p.tags := by
  rw [State.setPush, State.look_updPart]
  split
  · next e =>
    rw [← e, h]
    exact ⟨_, rfl, rfl⟩
  · exact ⟨p, h, rfl⟩

theorem slabRetag_effect {s : State} {k f ks : Nat} {x : Push} {rest : List (Nat × Push)} {p : Partition} (stands : Table.look s.parts k = some p)
    (written : s.slabPushes k f = (ks, x) :: rest) : Does (.slabRetag (k / 64) k f) s fun t =>
      ∃ q, Table.look t.parts k = some q ∧ q.tags = listSet p.tags f (some x.step) := by
  refine ⟨_, by rw [exec_slabRetag, execSlabRetag, if_pos (beq_self_eq_true _), State.retag, written], ?_⟩
  exact State.look_setPush (State.look_updPart_self stands fun p => { p with tags := listSet p.tags f (some x.step) }) ks x.id none

theorem gstepCredit_effect {s : State} {k step lockId : Nat} {rest : List (Nat × Nat)} {p : Partition} (stands : Table.look s.parts k = some p)
    (oldest : p.exchanges = (step, lockId) :: rest) (read : ∀ x ∈ p.pushes, x.step = step → x.cells ≠ none)
    (none : ∀ c ∈ p.credits, c.step ≠ some step) : Does (.gstepCredit (k / 64) k) s fun t =>
      ∃ q, Table.look t.parts k = some q ∧ q.exchanges = rest := by
  have unread : (p.pushes.any fun x => x.step == step && x.cells.isNone) = false := by
    rw [List.any_eq_false]
    intro x hx e
    obtain ⟨same, unread⟩ := Bool.and_eq_true_iff.mp e
    exact read x hx (eq_of_beq same) (Option.isNone_iff_eq_none.mp unread)
  have due : (p.credits.filter fun (c : Credit) => c.step == some step) = [] :=
    List.filter_eq_nil_iff.mpr fun c hc e => none c hc (eq_of_beq e)
  refine ⟨_, ?_, _, State.look_updPart_self (s := s.unlock lockId) stands fun p => { p with
    exchanges := rest, credits := p.credits.filter fun (c : Credit) => c.step != some step }, rfl⟩
  simp only [exec_gstepCredit, execGstepCredit, stands, oldest, unread, due, bne_self_eq_false, Bool.or_self, Bool.false_eq_true, if_false,
    List.foldl_nil]

theorem Table.look_map_snd {β : Type} (f : Nat × β → β) (t : Table β) (n : Nat) :
    Table.look (t.map fun e => (e.1, f e)) n = (Table.look t n).map fun v => f (n, v) := by
  induction t with
  | nil => rfl
  | cons e t ih =>
    obtain ⟨k, v⟩ := e
    rw [List.map_cons, Table.look_cons, Table.look_cons, ih]
    split
    · next same => rw [Option.map_some, eq_of_beq same]
    · rfl

/-- A partition state that is deleted no longer stands (R353). -/
theorem State.look_dropPart {s : State} {k : Nat} {p : Partition} (h : Table.look s.parts k = some p) : Table.look (s.dropPart k).parts k = none := by
  unfold State.dropPart
  simp only [h]
  rw [← Option.not_isSome_iff_eq_none, (State.told_tellNeighbours _ _ _ _ _).stands]
  dsimp only
  rw [Table.look_map_snd, Table.look_drop_self]
  exact Bool.false_ne_true

theorem flueStateDelete_effect {s : State} {k : Nat} {p : Partition} (stands : Table.look s.parts k = some p) (attached : p.attached = 0)
    (pushes : p.pushes = []) (exchanges : p.exchanges = []) : Does (.flueStateDelete (k / 64) k) s fun t => Table.look t.parts k = none := by
  refine ⟨s.dropPart k, ?_, State.look_dropPart stands⟩
  simp only [exec_flueStateDelete, execFlueStateDelete, stands, attached, pushes, exchanges, beq_self_eq_true, List.isEmpty_nil, Bool.and_self,
    if_true]

end Sys2Proof.Machine

/-! PROOFS. O6: the events of the engines, and the stoker thread's instructions (06 R170, R171; 10 R259-R270; 11 R277-R289;
14 R347-R353). -/

namespace Sys2Proof.Machine
open Sys2Proof.Claims

/-- A sector whose bytes go to different places of the scratchpad leaves them there and every other byte alone. -/
theorem copySectorComplete_effect {s u v : State} {g op n : Nat} {k : OpClass} {c c' : Copy} {bs : List (Byte × Option Prov)} {ls : List Loc}
    (ho : s.op? (.stoker g) op = some ⟨op, k, .copy c⟩) (queue : c.queue = none) (barrier : c.barrier = 0) (started : c.started = true)
    (failed : c.failed = none) (sending : c.sending = []) (sectors : c.sectors.contains n = false) (parked : c.parked = [])
    (nonempty : c.sectorBytes none n ≠ []) (resident : (s.group g).residence = .resident)
    (data : s.sectorData g op n c (c.sectorBytes none n) = (.bytes bs, c', u)) (same : c' = { c with snapshot := c'.snapshot })
    (places : u.placeBytes (.stoker g) Need.write ((c.sectorBytes none n).map c'.dstAddr) = (.ok ls, v))
    (scratch : ∀ l ∈ ls, l.space = .scratch g) (distinct : (ls.map Loc.key).Nodup) :
    Does (.copySectorComplete g op n) s fun t => Holds t ls (bs.map (·.1)) ∧ OtherBytes v t ls :=
  ⟨_, rfl, holds_of_mem_eq (State.mem_moveSector ho queue barrier started failed sending sectors parked nonempty resident data same places scratch)
    (fun l hl i x e => by rw [scratch l hl] at e; cases e) distinct⟩

/-- The fused softmax operation runs through where its four instructions would. -/
theorem RunsThrough.fusedSoftmax_effect {o : FusedOp} {s : State} {g wn : Nat} {e : Entry} {es : List Entry} (h : RunsThrough o s g wn e es) :
    Does (.fusedSoftmax o) s fun t => t.mem = s.mem ∧
      (t.warp g wn).frontier = frontierOf (es ++ [{ e with pc := fusedPast o e.pc }]) := by
  obtain ⟨-, -, -, u, -, -, -, -, run, alone⟩ := h.runs
  exact ⟨_, run, alone.mem_headJoins, alone.frontier_headJoins h.frontier⟩

end Sys2Proof.Machine

namespace Sys2Proof

open Machine Claims

/-- Settles O6, event by event. -/
theorem engineEventsComplete : Obligations.EngineEventsComplete := by
  unfold Obligations.EngineEventsComplete
  refine ⟨?matrix, ?copies, ?tags, ?stoker, ?stream, ?messages, ?parts, ?fused⟩
  case matrix =>
    intro s core m ms hm
    exact ⟨matrixOpStart_zero hm, tileOpComplete_zero hm⟩
  case copies =>
    intro s g op k c ho _ queue
    refine ⟨copyDeferredStart_effect ho queue, copyComplete_effect ho queue, ?_⟩
    intro n bs ls c' u v js barrier started failed sending sectors parked nonempty resident data same places scratch distinct _
    exact copySectorComplete_effect ho queue barrier started failed sending sectors parked nonempty resident data same places scratch distinct
  case tags =>
    intro s g a m sd all pc next hg hw _ resumes tags met
    exact exec_tagWaitComplete_met hg hw resumes (tagsMet_iff.mpr met)
  case stoker =>
    intro o s g hc _ x
    refine ⟨fun u bs l => exec_sealRecord_new hc, fun u bs r => exec_strdef_new hc, fun r q => strrun_effect hc, ?_,
      fun u bs r i => gattach_effect hc⟩
    intro t k p found
    refine ⟨fun runs tag => exec_gstat_counts hc runs found tag, fun runs => gdetach_effect hc runs found, ?_, ?_⟩
    · intro runs barrier init bound round released room
      exact exec_gstep_arrives hc runs found barrier init bound round released room
    · intro a pc next r barrier hg hw resumes released round room
      exact exec_gstepResume_arrives hg found hw resumes released round room
  case stream =>
    intro s u g n op x q bs found _ use source queue room parked free resident data groups _
    exact streamPush_effect found use source queue room parked free resident data groups
  case messages =>
    intro s st acc step k dest p target stands names
    exact ⟨fluePush_arrive_effect target stands names, fun c => flueCounterUpdate_effect target stands names⟩
  case parts =>
    intro s k p stands
    exact ⟨fun f ks x rest written _ => slabRetag_effect stands written, fun step lockId rest => gstepCredit_effect stands,
      flueStateDelete_effect stands⟩
  case fused =>
    intro o s g wn e es cur allowed unpaired live frontier mask vpoison ppoison replay
    exact RunsThrough.fusedSoftmax_effect ⟨cur, allowed, unpaired, live, frontier, mask, vpoison, ppoison, replay⟩

end Sys2Proof

/-! PROOFS. The SYS instructions that only move on, PRIO and TRAP; a frontier is ordered by priority and PC (04 R110; 07 R190, R192,
R193). -/

namespace Sys2Proof.Machine
open Sys2Proof.Claims

/-! The order of a frontier (04 R110). -/

/-- Whether an entry may stand before another: its priority is higher, or is the same and its PC is not higher. -/
def Entry.Leads (a b : Entry) : Prop := b.prio.toNat < a.prio.toNat ∨ (b.prio = a.prio ∧ a.pc.toNat ≤ b.pc.toNat)

theorem Entry.Leads.trans {a b c : Entry} (h : a.Leads b) (k : b.Leads c) : a.Leads c := by
  rcases h with hlt | ⟨heq, hpc⟩ <;> rcases k with klt | ⟨keq, kpc⟩
  · exact .inl (klt.trans hlt)
  · exact .inl (keq ▸ hlt)
  · exact .inl (heq ▸ klt)
  · exact .inr ⟨keq.trans heq, hpc.trans kpc⟩

theorem Entry.leads_of_before {a b : Entry} (h : a.before b = true) : a.Leads b := by
  simp only [Entry.before, Bool.or_eq_true, Bool.and_eq_true, decide_eq_true_eq, beq_iff_eq] at h
  exact h.imp id fun ⟨prio, pc⟩ => ⟨prio.symm, pc.le⟩

theorem Entry.leads_of_not_before {a b : Entry} (h : b.before a = false) : a.Leads b := by
  simp only [Entry.before, Bool.or_eq_false_iff, Bool.and_eq_false_iff, decide_eq_false_iff_not, beq_eq_false_iff_ne] at h
  obtain ⟨prio, pc⟩ := h
  rcases Nat.lt_or_ge b.prio.toNat a.prio.toNat with lt | ge
  · exact .inl lt
  · have same : b.prio = a.prio := BitVec.eq_of_toNat_eq (by omega)
    exact .inr ⟨same, by rcases pc with pc | pc <;> [exact absurd same pc; omega]⟩

theorem Entry.leads_frontierAdd {a e : Entry} {es : List Entry} (he : a.Leads e) (h : ∀ x ∈ es, a.Leads x) :
    ∀ x ∈ frontierAdd e es, a.Leads x := by
  induction es with
  | nil => simpa [frontierAdd] using he
  | cons b es ih =>
    obtain ⟨hb, hes⟩ := List.forall_mem_cons.mp h
    unfold frontierAdd
    split
    · exact List.forall_mem_cons.mpr ⟨hb, hes⟩
    · split
      · exact List.forall_mem_cons.mpr ⟨he, h⟩
      · exact List.forall_mem_cons.mpr ⟨hb, ih hes⟩

theorem pairwise_leads_frontierAdd (e : Entry) {es : List Entry} (h : es.Pairwise Entry.Leads) :
    (frontierAdd e es).Pairwise Entry.Leads := by
  induction es with
  | nil => simp [frontierAdd]
  | cons b es ih =>
    obtain ⟨hb, hes⟩ := List.pairwise_cons.mp h
    unfold frontierAdd
    split
    · exact List.pairwise_cons.mpr ⟨hb, hes⟩
    · split
      · next before =>
        have lead := Entry.leads_of_before before
        exact List.pairwise_cons.mpr ⟨List.forall_mem_cons.mpr ⟨lead, fun x hx => lead.trans (hb x hx)⟩, h⟩
      · next after =>
        exact List.pairwise_cons.mpr ⟨Entry.leads_frontierAdd (Entry.leads_of_not_before (by simpa using after)) hb, ih hes⟩

theorem pairwise_leads_frontierOf (es : List Entry) : (frontierOf es).Pairwise Entry.Leads := by
  refine foldl_keeps (List.Pairwise Entry.Leads) _ (fun acc e h => ?_) es [] .nil
  split
  · exact h
  · exact pairwise_leads_frontierAdd e h

/-- The head of a frontier leads every entry of it. -/
theorem Warp.head_leads {w : Warp} (h : w.frontier.Pairwise Entry.Leads) : ∀ e ∈ w.frontier, w.head.Leads e := by
  unfold Warp.head
  cases hf : w.frontier with
  | nil => simp
  | cons a es =>
    rw [hf] at h
    exact List.forall_mem_cons.mpr ⟨.inr ⟨rfl, le_rfl⟩, (List.pairwise_cons.mp h).1⟩

/-! NOP, YIELD, PRIO and TRAP (07 R190, R192, R193). -/

theorem exec_of_idle {i : Instr} {len : Nat} {s : State} (hi : Idle i len) (h : Runs i s) : exec i s = .next (s.advance len) := by
  cases hi <;> exact exec_of_runs h rfl (Eq.refl (nopOp _ _ 0 s))

theorem exec_of_prioForm {n : BitVec 3} {i : Instr} {len g w : Nat} {s : State} (hi : PrioForm n i len) (hc : s.cur = .warp g w)
    (h : Runs i s) : exec i s =
      .next (s.updWarp g w fun x => x.moveHead [⟨n, s.pc + BitVec.ofNat 64 len, x.head.mask⟩]) := by
  have own : (n.setWidth 46).setWidth 3 = n := by rw [BitVec.setWidth_setWidth_of_le _ (by decide), BitVec.setWidth_eq]
  cases hi <;>
  · rw [exec_of_runs h rfl (Eq.refl (prioOp _ (n.setWidth 46) s)), hc]
    simp only [own, State.nextPc]

theorem exec_of_trapForm {code : BitVec 16} {i : Instr} {len : Nat} {s : State} (hi : TrapForm code i len) (h : Runs i s) :
    exec i s = .next (s.holdTrap s.cur none .software none
      ⟨.sync, BitVec.ofNat 64 (0x0D + 2 ^ 16 * code.toNat), s.pc + BitVec.ofNat 64 len, s.headMask, s.headMask, 0, 0, none⟩) := by
  have field : fieldN (code.setWidth 46) 15 0 % 2 ^ 16 = code.toNat := by
    have := code.isLt
    simp only [fieldN, BitVec.toNat_setWidth]
    omega
  have cause : causeWord .software none (fieldN (code.setWidth 46) 15 0) none = BitVec.ofNat 64 (0x0D + 2 ^ 16 * code.toNat) := by
    simp only [causeWord, field, Cause.code, Nat.add_zero]
  cases hi <;>
  · rw [exec_of_runs h rfl (Eq.refl (trapOp _ (code.setWidth 46) s)), ← cause]
    rfl

/-- 07 R190, R193, R192. -/
theorem nopPrioTrap : NopPrioTrap := fun _ =>
  ⟨fun _ _ => exec_of_idle, fun _ _ _ _ _ => exec_of_prioForm, fun _ _ _ => exec_of_trapForm⟩

end Sys2Proof.Machine

/-! PROOFS. O56: PRIO's effect and its encodings (04 R110; 06 R156, R159; 07 R193). -/

namespace Sys2Proof
open Machine Claims

theorem prioMovesTheHead (s : State) (g w : Nat) (n : BitVec 3) (i : Instr) (len : Nat) (hi : PrioForm n i len)
    (hc : s.cur = .warp g w) (hl : s.live (.warp g w) = true) (h : Runs i s) : ∃ t : State, exec i s = .next t ∧
      t = s.updWarp g w (fun x => x.moveHead [⟨n, s.pc + BitVec.ofNat 64 len, x.head.mask⟩]) ∧
      (s.headMask ≠ 0 → ∃ e ∈ (t.warp g w).frontier, e.prio = n ∧ e.pc = s.pc + BitVec.ofNat 64 len ∧
        s.headMask &&& e.mask = s.headMask) ∧
      ∀ e ∈ (t.warp g w).frontier, e.prio.toNat < (t.warp g w).head.prio.toNat ∨
        (e.prio = (t.warp g w).head.prio ∧ (t.warp g w).head.pc.toNat ≤ e.pc.toNat) := by
  have mask : s.headMask = (s.warp g w).head.mask := by simp only [State.headMask, hc]
  have frontier : ((s.updWarp g w fun x => x.moveHead [⟨n, s.pc + BitVec.ofNat 64 len, x.head.mask⟩]).warp g w).frontier =
      frontierOf ((s.warp g w).frontier.drop 1 ++ [⟨n, s.pc + BitVec.ofNat 64 len, s.headMask⟩]) := by
    rw [s.warp_updWarp g w _ (State.has_of_live hl), mask]
    rfl
  refine ⟨_, exec_of_prioForm hi hc h, rfl, fun hm => ?_, Warp.head_leads ?_⟩
  · rw [frontier]
    exact covers_frontierOf (x := ⟨n, s.pc + BitVec.ofNat 64 len, s.headMask⟩) (List.mem_append_right _ (.head _)) hm
  · rw [frontier]
    exact pairwise_leads_frontierOf _

/-- The encodings of PRIO, with any immediate: bits 31:16 of the short word, bits 63:18 of the general one. -/
def prioShortWord (imm : Nat) : BitVec 32 := packSys 6 (BitVec.ofNat 16 imm)
def prioWord (imm : Nat) : BitVec 64 := packGeneral 0 6 (.sys (BitVec.ofNat 46 imm))

theorem toNat_prioShortWord {imm : Nat} (h : imm < 2 ^ 16) : (prioShortWord imm).toNat = 0x0601 + 2 ^ 16 * imm := by
  simp [prioShortWord, packSys, toNat_append_eq]
  omega

theorem toNat_prioWord {imm : Nat} (h : imm < 2 ^ 46) : (prioWord imm).toNat = 0x0603 + 2 ^ 18 * imm := by
  simp [prioWord, packGeneral, toNat_append_eq]
  omega

/-- A number whose low bits are a word that the decoder rejects is no instruction. -/
theorem decodeTableWord_of_rejected {n bits v : Nat} {w : BitVec 64} {e : Reject} (hl : instrLength (w.setWidth 16) = n)
    (hw : w.toNat < 256 ^ n) (hn : n ≤ 8) (hv : v % 2 ^ bits = w.toNat) (he : decodeWord w = .error e) :
    decodeTableWord bits v = none := by
  have bytes := leBytes_add n (8 - n) w.toNat
  rw [Nat.add_sub_cancel' hn] at bytes
  simp only [decodeTableWord, hv, bytes, decodeBytes_leBytes hl hw, he]
  rfl

/-- A short word of the SYS function 6 whose immediate is over 7 names no instruction (06 R156). -/
theorem decodeTableWord_prioShort_large {imm : Nat} (h : imm < 2 ^ 16) (h8 : 8 ≤ imm) :
    decodeTableWord 32 (0x0601 + 2 ^ 16 * imm) = none := by
  have none : shortSys (prioShortWord imm) = none := by
    have large : ¬ imm % 65536 < 8 := by omega
    simp [shortSys, prioShortWord, packSys, extractLsb'_append_high, extractLsb'_append_low, large]
  have length : instrLength (((prioShortWord imm).setWidth 64).setWidth 16) = 4 := by
    simp [instrLength, prioShortWord, packSys, getLsbD_append_low, -BitVec.getLsbD_eq_getElem]
  have major : (prioShortWord imm).extractLsb' 2 6 = 0 := by
    simp [prioShortWord, packSys, extractLsb'_append_high, extractLsb'_append_low]
  have word : ((prioShortWord imm).setWidth 64).toNat = 0x0601 + 2 ^ 16 * imm := by
    rw [BitVec.toNat_setWidth, toNat_prioShortWord h]
    omega
  refine decodeTableWord_of_rejected (e := .unknownFunction) length (by omega) (by decide) (by omega) ?_
  rw [decodeWord, length]
  simp [BitVec.setWidth_setWidth_of_le _ (show 32 ≤ 64 by decide), decodeShort, major, none, accept]

/-- A general word of the SYS function 6 whose immediate is over 7 names no instruction (06 R152, R159). -/
theorem decodeTableWord_prio_large {imm : Nat} (h : imm < 2 ^ 46) (h8 : 8 ≤ imm) :
    decodeTableWord 64 (0x0603 + 2 ^ 18 * imm) = none := by
  obtain ⟨low0, low1⟩ := low_packGeneral 0 6 (.sys (BitVec.ofNat 46 imm))
  have length : instrLength ((prioWord imm).setWidth 16) = 8 := by
    simp only [prioWord, instrLength, BitVec.getLsbD_setWidth, low0, low1]
    rfl
  have other : ((BitVec.ofNat 46 imm).extractLsb' 0 3).setWidth 46 ≠ BitVec.ofNat 46 imm := fun same => by
    have := congrArg BitVec.toNat same
    simp only [BitVec.toNat_setWidth, BitVec.extractLsb'_toNat, BitVec.toNat_ofNat, Nat.shiftRight_zero] at this
    omega
  have row : Instr.ofForm ⟨8, 0, 6, .sys (BitVec.ofNat 46 imm)⟩ = none := by
    simp [Instr.ofForm, sysOp, Option.filter, Instr.form, other]
  have word := toNat_prioWord h
  refine decodeTableWord_of_rejected (e := .unknownFunction) length (BitVec.isLt _) le_rfl (by omega) ?_
  have general : decodeGeneral (prioWord imm) = accept (Instr.ofForm ⟨8, 0, 6, .sys (BitVec.ofNat 46 imm)⟩) :=
    decodeGeneral_packGeneral rfl (show 6 < 1024 by decide) trivial
  rw [decodeWord, length]
  exact general.trans (by rw [row]; rfl)

theorem wf_prio (n : BitVec 3) : (Instr.prioShort n).wf = true ∧ (Instr.prio n).wf = true := by
  revert n
  decide

/-- Settles O56: the head moves with its new priority to a frontier that is kept in order, and the immediate is n or nothing. -/
theorem prioSetsThePriority : Obligations.PrioSetsThePriority := by
  refine ⟨prioMovesTheHead, fun imm h => ?_, fun imm h => ?_⟩
  · split
    · next small =>
      have own : (BitVec.ofNat 3 imm).setWidth 16 = BitVec.ofNat 16 imm := BitVec.eq_of_toNat_eq (by simp; omega)
      have encoded : encode (.prioShort (BitVec.ofNat 3 imm)) = some (4, (prioShortWord imm).setWidth 64) := by
        rw [prioShortWord, ← own]
        rfl
      refine decodeTableWord_of_encode (wf_prio _).1 encoded (by decide) ?_
      rw [BitVec.toNat_setWidth, toNat_prioShortWord h]
      omega
    · next large => exact decodeTableWord_prioShort_large h (Nat.le_of_not_lt large)
  · split
    · next small =>
      have own : (BitVec.ofNat 3 imm).setWidth 46 = BitVec.ofNat 46 imm := BitVec.eq_of_toNat_eq (by simp; omega)
      have encoded : encode (.prio (BitVec.ofNat 3 imm)) = some (8, prioWord imm) := by
        rw [prioWord, ← own]
        rfl
      refine decodeTableWord_of_encode (wf_prio _).2 encoded le_rfl ?_
      rw [toNat_prioWord h]
      omega
    · next large => exact decodeTableWord_prio_large h (Nat.le_of_not_lt large)

end Sys2Proof

/-! PROOFS. O10: EXIT ends its threads (07 R191; 11 R456; 13 R335). -/

namespace Sys2Proof.Machine
open Sys2Proof.Claims

/-! What stays of the warps when a workgroup's halt changes (16 R376, R381). -/

/-- From one state to another memory is the same, and every warp but for its agent and its place on a core. -/
structure SameBodies (s t : State) : Prop where
  mem : t.mem = s.mem
  warps : ∀ g, (t.group g).warps.map Warp.body = (s.group g).warps.map Warp.body

theorem SameBodies.refl (s : State) : SameBodies s s := ⟨rfl, fun _ => rfl⟩

theorem SameBodies.trans {s t u : State} (h : SameBodies s t) (k : SameBodies t u) : SameBodies s u :=
  ⟨k.mem.trans h.mem, fun g => (k.warps g).trans (h.warps g)⟩

theorem SameBodies.warp {s t : State} (h : SameBodies s t) (g w : Nat) : (t.warp g w).body = (s.warp g w).body :=
  map_listGet_eq Warp.start (h.warps g) w

theorem State.sameBodies_updGroup (s : State) {g : Nat} {f : Group → Group}
    (hf : (f (s.group g)).warps.map Warp.body = (s.group g).warps.map Warp.body) : SameBodies s (s.updGroup g f) where
  mem := rfl
  warps k := by
    by_cases hk : k = g
    · rw [hk, State.group_updGroup, hf]
    · rw [s.group_updGroup_ne f hk]

theorem State.sameBodies_haltBroadcast (s : State) (g : Nat) : SameBodies s (s.haltBroadcast g) := by
  unfold State.haltBroadcast
  split
  · exact .refl s
  · refine s.sameBodies_updGroup ?_
    rw [List.map_map]
    rfl

theorem State.sameBodies_startSlice (s : State) (g : Nat) : SameBodies s (s.startSlice g) := by
  unfold State.startSlice
  split
  · exact s.sameBodies_updGroup rfl
  · exact (s.sameBodies_haltBroadcast g).trans (State.sameBodies_updGroup _ rfl)

theorem State.sameBodies_afterHandler (s : State) (g w : Nat) (k : TrapKind) : SameBodies s (s.afterHandler g w k) := by
  unfold State.afterHandler
  extract_lets x r
  split
  · split
    · exact .refl s
    · have resumed : SameBodies s (s.updGroup g fun x => { x with halt := none }) := s.sameBodies_updGroup rfl
      split
      · exact resumed.trans (State.sameBodies_startSlice _ g)
      · exact resumed
  · split
    · exact .refl s
    · extract_lets r all
      exact s.sameBodies_updGroup rfl
  · split
    · exact s.sameBodies_haltBroadcast g
    · exact .refl s
  · exact .refl s

/-! The head exits. -/

/-- With no thread parked at a WSYNC, none returns to the frontier. -/
theorem Warp.frontier_exitHead {w : Warp} (h : w.groups = []) : w.exitHead.frontier = frontierOf (w.frontier.drop 1) := by
  simp only [Warp.exitHead, Warp.releaseGroups, h, List.map_nil, List.filter_nil, List.flatMap_nil, List.append_nil]

/-- The state that EXIT leaves when its matrix operations are issued: the head has exited, and a handler that its warp ends in is over
(07 R191, 16 R377). -/
def State.headExits (s : State) (g w : Nat) : State :=
  let x := (s.warp g w).exitHead
  match x.unended, x.handler with
  | false, h :: _ => (s.setWarp g w { x with handler := [], held := [] }).afterHandler g w h.kind
  | _, _ => s.setWarp g w x

theorem State.headExits_cases (s : State) (g w : Nat) : ∃ x : Warp, SameBodies (s.setWarp g w x) (s.headExits g w) ∧
    x.exited = (s.warp g w).exitHead.exited ∧ x.frontier = (s.warp g w).exitHead.frontier ∧ x.vregs = (s.warp g w).exitHead.vregs := by
  unfold State.headExits
  dsimp only
  split
  · exact ⟨_, State.sameBodies_afterHandler _ g w _, rfl, rfl, rfl⟩
  · exact ⟨_, .refl _, rfl, rfl, rfl⟩

theorem State.headExits_effect {s : State} {g w : Nat} (h : s.has (.warp g w)) :
    ((s.headExits g w).warp g w).exited = (s.warp g w).exited ||| (s.warp g w).head.mask ∧
    ((s.warp g w).groups = [] → ((s.headExits g w).warp g w).frontier = frontierOf ((s.warp g w).frontier.drop 1)) ∧
    ((s.headExits g w).warp g w).vregs = (s.warp g w).vregs ∧ (s.headExits g w).mem = s.mem := by
  obtain ⟨x, same, exited, frontier, vregs⟩ := s.headExits_cases g w
  have body : ((s.headExits g w).warp g w).body = x.body := by rw [same.warp, s.warp_setWarp g w x h]
  refine ⟨?_, fun hg => ?_, ?_, same.mem⟩
  · exact (congrArg Warp.exited body).trans exited
  · exact (congrArg Warp.frontier body).trans (frontier.trans (Warp.frontier_exitHead hg))
  · exact (congrArg Warp.vregs body).trans vregs

/-! EXIT (07 R191). -/

theorem exec_of_exitForm_warp {i : Instr} {len g w : Nat} {s u : State} (hi : ExitForm i len) (h : Runs i s)
    (hc : s.cur = .warp g w) (issued : s.exitConvs g w (s.warp g w).head.mask (List.range 8) = .done u) :
    exec i s = .next (u.headExits g w) := by
  cases hi <;>
  · rw [exec_of_runs h rfl (Eq.refl (exitOp _ 0 s)), hc]
    simp only [issued]
    dsimp only [State.headExits]
    cases (u.warp g w).exitHead.unended <;> cases (u.warp g w).exitHead.handler <;> rfl

theorem exec_of_exitForm_stoker {i : Instr} {len g : Nat} {s : State} (hi : ExitForm i len) (h : Runs i s)
    (hc : s.cur = .stoker g) : exec i s = .next ((s.updAgent (.stoker g) fun a => { a with ended := true }).advance len) := by
  cases hi <;> rw [exec_of_runs h rfl (Eq.refl (exitOp _ 0 s)), hc]

/-- Where the head has signed every declared set, no matrix operation is completed by its leaving (11 R456). -/
theorem State.exitConvs_of_signed {s : State} {g w : Nat} {h : Mask} {ns : List Nat}
    (hs : ∀ n ∈ ns, ((s.warp g w).conv n).declared &&& ~~~((s.warp g w).conv n).signed &&& h = 0) :
    s.exitConvs g w h ns = .done s := by
  induction ns with
  | nil => rfl
  | cons n ns ih =>
    obtain ⟨hn, hns⟩ := List.forall_mem_cons.mp hs
    have kept : ((s.warp g w).conv n).declared &&& ~~~(h &&& ~~~((s.warp g w).conv n).signed) = ((s.warp g w).conv n).declared := by
      refine BitVec.eq_of_getLsbD_eq fun i hi => ?_
      have bit := congrArg (BitVec.getLsbD · i) hn
      change _ = BitVec.getLsbD (0#64) i at bit
      simp only [BitVec.getLsbD_and, BitVec.getLsbD_not, hi, decide_true, Bool.true_and, BitVec.getLsbD_zero] at bit ⊢
      revert bit
      cases ((s.warp g w).conv n).declared.getLsbD i <;> cases ((s.warp g w).conv n).signed.getLsbD i <;> cases h.getLsbD i <;> decide
    simp only [State.exitConvs, kept, bne_self_eq_false, Bool.and_false, beq_self_eq_true, if_true, Bool.false_eq_true, if_false]
    exact ih hns

/-- A control core may not execute EXIT (06 R169). -/
theorem not_runs_exit_of_ctl {i : Instr} {len c : Nat} {s : State} (hi : ExitForm i len) (hc : s.cur = .ctl c) : ¬ Runs i s := by
  have refused (f : Form) (hf : f = ⟨len, 0, 2, .sys 0⟩) : s.decodeCause f ≠ none := by
    subst hf
    simp only [State.decodeCause, hc]
    split <;> simp [kindOf, permitted]
  rintro ⟨f, form, allowed, -⟩
  cases hi <;> exact refused f (Option.some.inj form).symm allowed

/-- A stoker thread that exits ends; nothing but its workgroup changes. -/
theorem State.stoker_exits {s : State} {g : Nat} (hc : s.cur = .stoker g) (len : Nat) :
    let t := (s.updAgent (.stoker g) fun a => { a with ended := true }).advance len
    (t.stoker g).agent.ended = true ∧ t = { s with groups := t.groups } := by
  have cur : (s.updAgent (.stoker g) fun a => { a with ended := true }).cur = .stoker g := hc
  simp only [State.advance, State.setPc, cur, State.setPcOf, State.stoker_setStoker]
  exact ⟨by simp [State.updAgent, State.setAgent], rfl⟩

/-- 07 R191. -/
theorem exitEndsTheHead : ExitEndsTheHead := by
  intro s i len hi hr hl
  split
  · next g w hc =>
    exact ⟨fun u issued live => ⟨_, exec_of_exitForm_warp hi hr hc issued, State.headExits_effect (State.has_of_live live)⟩,
      fun signed => State.exitConvs_of_signed fun n hn => signed n (List.mem_range.mp hn)⟩
  · next g hc => exact ⟨_, exec_of_exitForm_stoker hi hr hc, State.stoker_exits hc len⟩
  · next c hc => exact not_runs_exit_of_ctl hi hc hr

end Sys2Proof.Machine

namespace Sys2Proof
open Machine Claims

/-- Settles O10: each form by its operation; EXIT by what its head's leaving does to the warp. -/
theorem nopYieldPrioTrapExit : Obligations.NopYieldPrioTrapExit := ⟨nopPrioTrap, exitEndsTheHead⟩

end Sys2Proof

/-! PROOFS. O12: WAIT and its resumption, HALT, WFI and LAUNCH (07 R194-R196; 03 R96, R97; 19 R420, R430-R432). -/

namespace Sys2Proof.Machine
open Sys2Proof.Claims

/-! WAIT (07 R194). -/

theorem Agent.within_iff (a : Agent) (o : WaitOp) : a.within o = true ↔ Within a o := by
  simp only [Agent.within, Within, Bool.and_eq_true, decide_eq_true_eq, and_assoc]

theorem waitLimits_waitBits (o : WaitOp) : waitLimits (waitBits o) = o := by
  simp [waitBits, waitLimits, extractLsb'_setWidth_low, extractLsb'_append_high, extractLsb'_append_low]

theorem exec_of_waitForm {o : WaitOp} {i : Instr} {len : Nat} {s : State} (hi : WaitForm o i len) (h : Runs i s) :
    exec i s = .next (if (s.agent s.cur).within o then s.advance len else s.waitFor len (.counters o)) := by
  cases hi <;>
  · rw [exec_of_runs h rfl (Eq.refl (waitOp _ (waitBits o) s)), waitLimits_waitBits]
    dsimp only
    split <;> rfl

theorem execWaitResume_of_within {s : State} {a : AgentId} {o : WaitOp} {pc next : Word}
    (hw : (s.agent a).wait = some ⟨.counters o, pc, next⟩) (may : s.mayResume a = true) (within : (s.agent a).within o = true) :
    execWaitResume a s = .next ((s.as a).resumeAt ⟨.counters o, pc, next⟩) := by
  simp only [execWaitResume, hw, may, within, Bool.and_self, if_true]

/-- 07 R194. -/
theorem waitForCounters : WaitForCounters := by
  refine fun s => ⟨fun o i len hi h => ?_, fun a o pc next hw may within => ?_⟩
  · rw [exec_of_waitForm hi h, ← Agent.within_iff]
    exact ⟨fun within => by rw [if_pos within], fun beyond => by rw [if_neg beyond]; rfl⟩
  · exact execWaitResume_of_within hw may ((s.agent a).within_iff o |>.mpr within)

/-! HALT and WFI (07 R196). -/

theorem exec_of_haltForm {i : Instr} {c : Nat} {s : State} (hi : HaltForm i) (hc : s.cur = .ctl c) (h : Runs i s) :
    exec i s = .next (s.machineCheck c 5) := by
  cases hi <;> rw [exec_of_runs h rfl (Eq.refl (haltOp _ 0 s)), hc]

theorem exec_of_wfiForm {i : Instr} {len c : Nat} {s : State} (hi : WfiForm i len) (hc : s.cur = .ctl c) (h : Runs i s) :
    exec i s = .next (if s.ipend c = 0 then s else s.advance len) := by
  cases hi <;>
  · rw [exec_of_runs h rfl (Eq.refl (wfiOp _ 0 s)), hc]
    simp only [beq_iff_eq]
    split <;> rfl

/-- A machine check leaves memory and the workgroups as they are, and its core halted (19 R430-R432). -/
theorem State.machineCheck_effect (s : State) (c code : Nat) : ((s.machineCheck c code).ctlCore c).halted = true ∧
    (s.machineCheck c code).mem = s.mem ∧ (s.machineCheck c code).groups = s.groups := by
  unfold State.machineCheck
  split
  · next hc => simp [beq_iff_eq.mp hc, State.securityCheck, State.send, State.updCtl, State.setCtl, State.ctlCore]
  · have peer : c ≠ c + 1 - 2 * (c % 2) := by omega
    extract_lets p q s1 s2
    have halted : (s2.ctlCore c).halted = true := by simp [s2]
    split
    · split <;> exact ⟨halted, rfl, rfl⟩
    · exact ⟨by rw [State.updCtl, State.ctlCore_setCtl_ne _ _ peer]; exact halted, rfl, rfl⟩

/-- A machine check of a core other than the security core reaches its pair, and the standby or the host where it was active (19 R430,
R431). -/
theorem State.machineCheck_pair (s : State) {c : Nat} (code : Nat) (hc : c ≠ 6) :
    let t := (s.machineCheck c code).pair (c / 2)
    t.mcause = BitVec.ofNat 3 code ∧ t.mcpeer = BitVec.ofNat 8 code ∧
      ((s.ctlCore c).active = true → (s.pair (c / 2)).standby = true → t.takeover = some c) ∧
      ((s.ctlCore c).active = true → (s.pair (c / 2)).standby = false → t.lost = true) := by
  have other : (c == 6) = false := by simpa using hc
  have ctl (u : State) (n : Nat) (f : CtlCore → CtlCore) : (u.updCtl n f).pair = u.pair := rfl
  have core (u : State) (n : Nat) (f : Pair → Pair) : (u.updPair n f).ctlCore = u.ctlCore := rfl
  simp only [State.machineCheck, other, Bool.false_eq_true, if_false, State.ctlCore_updCtl, core, ctl, State.pair_updPair]
  cases (s.ctlCore c).active <;> cases (s.pair (c / 2)).standby <;> simp

/-- A machine check of the security core stands in the package's registers (19 R432). -/
theorem State.machineCheck_security (s : State) (code : Nat) : (s.machineCheck 6 code).pf.secMc = BitVec.ofNat 3 code := rfl

/-- 07 R196. -/
theorem haltAndWfi : HaltAndWfi := by
  refine fun s c hc => ⟨fun i hi h => ⟨_, exec_of_haltForm hi hc h, ?_⟩, fun i len hi h => exec_of_wfiForm hi hc h⟩
  obtain ⟨halted, mem, groups⟩ := s.machineCheck_effect c 5
  exact ⟨halted, s.machineCheck_pair 5, fun six => six ▸ s.machineCheck_security 5, mem, groups⟩

/-! LAUNCH (07 R195; 03 R96, R97). -/

theorem State.mem_noteBacklog (s : State) (vd : Nat) : (s.noteBacklog vd).mem = s.mem := by
  obtain ⟨e, h | h⟩ := s.noteBacklog_frame vd <;> rw [h]; rfl

theorem State.uid_noteBacklog (s : State) (vd : Nat) : (s.noteBacklog vd).uid = s.uid := by
  obtain ⟨e, h | h⟩ := s.noteBacklog_frame vd <;> rw [h]; rfl

/-- A launch that is queued adds its grid under the next number, and changes neither memory nor the workgroups (03 R96). -/
theorem State.queueGrid_effect (s : State) (n vd : Nat) (child : Grid) (f : Vd → Vd) :
    let t := ((({ s with uid := n + 1 } : State).setGrid n child).updVd vd f).noteBacklog vd
    t.grid n = child ∧ t.uid = n + 1 ∧ t.mem = s.mem ∧ t.groups = s.groups := by
  refine ⟨?_, State.uid_noteBacklog _ vd, State.mem_noteBacklog _ vd, State.groups_noteBacklog _ vd⟩
  rw [State.grid, State.grids_noteBacklog]
  exact State.grid_setGrid _ n child

theorem exec_of_launch {s u : State} {sd sa : Reg} {g : Nat} {bs : List Byte} (h : Runs (.launch sd sa) s) (hg : groupOf s.cur = some g)
    (aligned : (s.sreg sa).toNat % 64 = 0) (released : s.released s.cur = true) (load : ∀ k, launchLoad (s.sreg sa) s k = k bs u) :
    exec (.launch sd sa) s = .next ((u.queueLaunch g (LaunchRec.ofBytes bs)).2.writeNext 8 sd
      (BitVec.ofNat 64 (u.queueLaunch g (LaunchRec.ofBytes bs)).1)) := by
  have low : ((sa ++ sd).setWidth 46).extractLsb' 0 7 = sd := by simp [extractLsb'_setWidth_low, extractLsb'_append_low]
  have high : ((sa ++ sd).setWidth 46).extractLsb' 7 7 = sa := by simp [extractLsb'_setWidth_low, extractLsb'_append_high]
  rw [exec_of_runs h rfl (Eq.refl (launchOp 8 ((sa ++ sd).setWidth 46) s)), hg, low, high]
  simp [aligned, released, load]

/-- 07 R195. -/
theorem launchQueuesAChild : LaunchQueuesAChild := by
  intro s u sd sa g bs h hg aligned released load
  extract_lets r vd die room
  rw [exec_of_launch h hg aligned released load]
  have inStore : (decide (u.storeHeld die < 4096) && decide (u.storeHeldBy die vd < 1024)) = room := (Bool.decide_and ..).symm
  simp only [State.queueLaunch]
  split
  · rfl
  · rw [show (decide (u.storeHeld (dieOf (u.group g).core) < 4096) &&
      decide (u.storeHeldBy (dieOf (u.group g).core) (u.group g).vd < 1024)) = room from inStore]
    clear_value room
    split
    · next full => rw [if_pos (by simpa using full)]; rfl
    · next free =>
      rw [if_neg (by simpa using free)]
      exact ⟨_, by cases room <;> rfl, u.queueGrid_effect ..⟩

end Sys2Proof.Machine

namespace Sys2Proof
open Machine Claims

/-- Settles O12: WAIT by its counters, HALT by the machine check, LAUNCH by the queueing of its child. -/
theorem waitsOfAgents : Obligations.WaitsOfAgents := ⟨waitForCounters, haltAndWfi, launchQueuesAChild⟩

end Sys2Proof

/-! PROOFS. O13: SRD and SWR (04 R120, R124; 05 R139, R140, R144; 07 R197-R199; 19 R421). -/

namespace Sys2Proof.Machine
open Sys2Proof.Claims

theorem exec_of_srd {s : State} {sd : Reg} {n : BitVec 12} (h : Runs (.srd sd n) s) :
    exec (.srd sd n) s = .next (s.writeNext 8 sd (s.special s.cur n.toNat)) :=
  exec_of_runs h rfl (Eq.refl (execSrd sd n s))

theorem exec_of_swr {s : State} {sa : Reg} {n : BitVec 12} (h : Runs (.swr sa n) s) :
    exec (.swr sa n) s = .next ((s.setSpecial s.cur n.toNat (s.sreg sa)).advance 8) :=
  exec_of_runs h rfl (Eq.refl (execSwr sa n s))

/-- SWR of JTRIM takes a value within JTRIM to JNEXT, and no other (19 R421). -/
theorem State.setSpecial_jtrim (s : State) (c : Nat) (v : Word) : s.setSpecial (.ctl c) 0x802 v = s.updPair (c / 2) fun p =>
    if p.jtrim.toNat ≤ v.toNat % 2 ^ 32 ∧ v.toNat % 2 ^ 32 ≤ p.jnext.toNat then { p with jtrim := v.setWidth 32 } else p := by
  have outside (p : Pair) : ((v.setWidth 32).ult p.jtrim || p.jnext.ult (v.setWidth 32)) = true ↔
      ¬ (p.jtrim.toNat ≤ v.toNat % 2 ^ 32 ∧ v.toNat % 2 ^ 32 ≤ p.jnext.toNat) := by
    simp only [Bool.or_eq_true, BitVec.ult, decide_eq_true_eq, BitVec.toNat_setWidth]
    omega
  simp only [State.setSpecial, outside, ite_not]

/-- 07 R197-R199: each register is a field of the state. -/
theorem srdReadsSpecialRegisters : SrdReadsSpecialRegisters := by
  refine ⟨fun s sd n => exec_of_srd, fun s g w => ?_, fun s c => ?_⟩
  · simp only [State.special, groupOf, Option.getD_some, clusterOf, dieOf, Option.isSome_some, if_true, and_self]
  · simp only [State.special, and_self]

/-- 07 R197, R199. -/
theorem swrWritesSpecialRegisters : SwrWritesSpecialRegisters := by
  refine fun s sa => ⟨fun g w hc => ⟨fun h => ?_, fun h => ?_, fun h => ?_, fun h => ?_, fun h => ?_⟩,
    fun c hc => ⟨fun h => ?jtrim, fun h => ?_⟩⟩
  case jtrim => rw [exec_of_swr h, hc, ← State.setSpecial_jtrim]; rfl
  all_goals rw [exec_of_swr h, hc]; rfl

end Sys2Proof.Machine

namespace Sys2Proof
open Machine Claims

/-- Settles O13: SRD by the fields that the registers read, SWR by the writes of each register. -/
theorem specialRegisters : Obligations.SpecialRegisters := ⟨srdReadsSpecialRegisters, swrWritesSpecialRegisters⟩

end Sys2Proof

/-! PROOFS. O9: the branches, and the PCs that trap (06 R149, R155; 07 R184-R186; 16 R379). -/

namespace Sys2Proof.Machine
open Sys2Proof.Claims

/-- A write of a scalar register leaves the agent where it is. -/
@[simp] theorem State.pc_setSreg (s : State) (r : Reg) (v : Word) : (s.setSreg r v).pc = s.pc := by
  have cur : (s.setSreg r v).cur = s.cur := s.setSreg_cur r v
  rw [State.pc, cur, State.pc]
  unfold State.setSreg State.updAgent State.setAgent
  cases hc : s.cur with
  | warp g w =>
    rcases s.warp_updWarp_cases g w (fun x => { x with agent := ((s.agent (.warp g w)).setSreg r.toNat v none) }) g w with h | h
    all_goals simp [State.pcOf, h, Warp.head]
  | stoker g => simp [State.pcOf]
  | ctl c => simp [State.pcOf]

theorem signExtend_signExtend {n m : Nat} (h : n ≤ m) (x : BitVec n) (k : Nat) : (x.signExtend m).signExtend k = x.signExtend k := by
  rw [BitVec.signExtend, BitVec.toInt_signExtend_of_le h, BitVec.signExtend]

/-! The uniform branches (06 R155; 07 R184). -/

theorem branchTarget_signExtend {n : Nat} (h : n ≤ 32) (s : State) (off : BitVec n) :
    s.branchTarget (off.signExtend 32) = s.pc + off.signExtend 64 * 2 := by
  rw [State.branchTarget, signExtend_signExtend h]

/-- A branch on a register that is 0, and on one that is not. -/
theorem State.branchIf_zero (s : State) (len : Nat) (off : W32) (v : Word) :
    s.branchIf len off (v == 0) = s.setPc (if v = 0 then s.branchTarget off else s.nextPc len) := by
  simp only [State.branchIf, beq_iff_eq]

theorem State.branchIf_nonzero (s : State) (len : Nat) (off : W32) (v : Word) :
    s.branchIf len off (v != 0) = s.setPc (if v = 0 then s.nextPc len else s.branchTarget off) := by
  simp only [State.branchIf, bne_iff_ne, ite_not]

/-- 07 R184: LOOP counts down, and branches back while the count is not over. -/
theorem exec_of_loop {s : State} {o : GB} (h : Runs (.loop o) s) : exec (.loop o) s = .next ((s.setSreg o.sa (s.sreg o.sa - 1)).setPc
    (if s.sreg o.sa = 1 then s.pc + 8 else s.pc + o.off.signExtend 64 * 2)) := by
  have last : s.sreg o.sa - 1 = 0 ↔ s.sreg o.sa = 1 := sub_eq_zero
  rw [exec_of_runs h rfl (Eq.refl (loopOp 8 o s))]
  simp only [State.branchIf_nonzero, last, State.nextPc, State.branchTarget, State.pc_setSreg]
  rfl

/-- 07 R184, 06 R155. -/
theorem uniformBranches : UniformBranches := by
  refine fun s o => ⟨fun h => ?_, fun h => ?_, fun h => ?_, fun h => ?_, fun h => ?_, exec_of_loop, fun sa far near =>
    ⟨fun h => ?_, fun h => ?_, fun h => ?_, fun h => ?_⟩⟩
  · exact exec_of_runs h rfl (Eq.refl (uniformOp 8 0 o s))
  · rw [exec_of_runs h rfl (Eq.refl (uniformOp 8 1 o s))]
    exact congrArg _ (s.branchIf_zero 8 o.off _)
  · rw [exec_of_runs h rfl (Eq.refl (uniformOp 8 2 o s))]
    exact congrArg _ (s.branchIf_nonzero 8 o.off _)
  · exact exec_of_runs h rfl (Eq.refl (uniformOp 8 3 o s))
  · exact exec_of_runs h rfl (Eq.refl (callOp 8 o s))
  · rw [← branchTarget_signExtend (by decide)]
    exact exec_of_runs h rfl (Eq.refl (uniformOp 4 0 ⟨0, 0, 0, false, far.signExtend 32⟩ s))
  · rw [exec_of_runs h rfl (Eq.refl (uniformOp 4 1 ⟨sa, 0, 0, false, near.signExtend 32⟩ s)), ← branchTarget_signExtend (by decide)]
    exact congrArg _ (s.branchIf_zero 4 _ _)
  · rw [exec_of_runs h rfl (Eq.refl (uniformOp 4 2 ⟨sa, 0, 0, false, near.signExtend 32⟩ s)), ← branchTarget_signExtend (by decide)]
    exact congrArg _ (s.branchIf_nonzero 4 _ _)
  · rw [← branchTarget_signExtend (by decide)]
    exact exec_of_runs h rfl (Eq.refl (callOp 4 ⟨94, 0, 0, false, far.signExtend 32⟩ s))

/-! The indirect branches (07 R184, R185; 16 R379). -/

theorem State.jumpTo_of_even {s : State} {t : Word} (h : t.getLsbD 0 = false) (k : State → State) : s.jumpTo t k = (k s).setPc t := by
  rw [State.jumpTo, h]
  rfl

theorem State.jumpTo_of_odd {s : State} {t : Word} (h : t.getLsbD 0 = true) (k : State → State) : s.jumpTo t k = s.trapAt .misalign t := by
  rw [State.jumpTo, if_pos h]

theorem exec_of_jmpr {s : State} {o : GB} (h : Runs (.jmpr o) s) : exec (.jmpr o) s = .next (s.jumpTo (s.sreg o.sa) fun s => s) :=
  exec_of_runs h rfl (Eq.refl (jumpOp 8 5 o s))

theorem exec_of_ret {s : State} {o : GB} (h : Runs (.ret o) s) : exec (.ret o) s = .next (s.jumpTo (s.sreg o.sa) fun s => s) :=
  exec_of_runs h rfl (Eq.refl (jumpOp 8 7 o s))

theorem exec_of_callr {s : State} {o : GB} (h : Runs (.callr o) s) :
    exec (.callr o) s = .next (s.jumpTo (s.sreg o.sa) fun s => s.setSreg o.sb (s.nextPc 8)) :=
  exec_of_runs h rfl (Eq.refl (callrOp 8 o s))

/-- 07 R184. -/
theorem indirectBranches : IndirectBranches := by
  refine fun s o even => ⟨fun h => ?_, fun h => ?_, fun h => ?_⟩
  · rw [exec_of_jmpr h, State.jumpTo_of_even even]
  · rw [exec_of_ret h, State.jumpTo_of_even even]
  · rw [exec_of_callr h, State.jumpTo_of_even even]
    rfl

/-- 07 R185, 16 R379. -/
theorem oddTargetsTrap : OddTargetsTrap := by
  intro s o odd i hi h
  simp only [List.mem_cons, List.not_mem_nil, or_false] at hi
  rcases hi with rfl | rfl | rfl
  · rw [exec_of_jmpr h, State.jumpTo_of_odd odd, State.trapAt]
  · rw [exec_of_ret h, State.jumpTo_of_odd odd, State.trapAt]
  · rw [exec_of_callr h, State.jumpTo_of_odd odd, State.trapAt]

/-! BRP (07 R186). -/

theorem brp_moves {s : State} {g w len : Nat} {o : GB} {i : Instr} (hc : s.cur = .warp g w)
    (clean : ∀ l < 64, bit s.headMask l = true → (s.warp g w).predPoison l [o.cond.toNat] = none)
    (h : Runs i s) (hf : i.form = some ⟨len, 3, 8, .b o⟩) (hi : exec i s = brpOp len o s) :
    let x := s.warp g w
    let take : Mask := x.head.mask &&& x.active o.cond o.neg
    exec i s = .next (s.setWarp g w (x.moveHead [⟨x.head.prio, s.branchTarget o.off, take⟩,
      ⟨x.head.prio, s.nextPc len, x.head.mask &&& ~~~take⟩])) := by
  have mask : s.headMask = (s.warp g w).head.mask := by simp only [State.headMask, hc]
  have none : lowestProv ((lanesOf (s.warp g w).head.mask).map fun t => (s.warp g w).predPoison t [o.cond.toNat]) = none := by
    refine lowestProv_eq_none fun p hp => ?_
    obtain ⟨l, hl, rfl⟩ := List.mem_map.mp hp
    obtain ⟨small, on⟩ := (mem_lanesOf _ l).mp hl
    exact clean l small (mask ▸ on)
  rw [exec_of_runs h hf (hi.trans rfl), hc]
  simp only [none]

/-- 07 R186. -/
theorem brpMovesEachThread : BrpMovesEachThread := by
  refine fun s g w p neg hc clean => ⟨fun o cond sign h => ?_, fun off h => ?_⟩
  · subst cond sign
    exact brp_moves hc clean h rfl rfl
  · rw [← branchTarget_signExtend (by decide)]
    exact brp_moves (o := ⟨0, 0, p, neg, off.signExtend 32⟩) hc clean h rfl rfl

/-! The PC at the fetch (06 R149). -/

theorem pcCanonical_of_large {pc : Word} (h : 2 ^ 57 ≤ pc.toNat) : pcCanonical pc = false := by
  have := pc.isLt
  simp only [pcCanonical, fieldN, beq_eq_false_iff_ne]
  omega

theorem State.fetch_of_large {s : State} {a : AgentId} {pc : Word} (ha : ∀ c, a ≠ .ctl c) (h : 2 ^ 57 ≤ pc.toNat) :
    s.fetch a pc = (.cause .permission none, s) := by
  unfold State.fetch
  cases a with
  | ctl c => exact absurd rfl (ha c)
  | warp g w => simp [pcCanonical_of_large h]
  | stoker g => simp [pcCanonical_of_large h]

/-- An agent whose fetch gives a cause takes it (06 R149). -/
theorem step_eq_trapWith {s u : State} {a : AgentId} {rest : List Sched} {c : Cause} {p : Option Prov}
    (hi : s.inputs = .issue a :: rest) (hc : (issuing s a rest).canIssue a = true)
    (hf : (issuing s a rest).fetch a ((issuing s a rest).pcOf a) = (.cause c p, u)) :
    step s = .next (u.trapWith c none p u.headMask 0 0 none) := by
  have agent : step s = stepAgent a { s with clk := s.clk + 1, inputs := rest } := by simp only [step, hi]
  rw [agent, stepAgent]
  change (if !(issuing s a rest).canIssue a then _ else
    match (issuing s a rest).fetch a ((issuing s a rest).pcOf a) with
      | (.cause c p, s) => _ | (.absent f, s) => _ | (.bytes bs, s) => _) = _
  simp only [hc, hf, Bool.not_true]
  rfl

/-- 06 R149. -/
theorem badPcsTrap : BadPcsTrap := fun _ _ _ hi ha hc large => step_eq_trapWith hi hc (State.fetch_of_large ha large)

end Sys2Proof.Machine

namespace Sys2Proof
open Machine Claims

/-- Settles O9: each branch by its operation, and a PC that is too large by the fetch. -/
theorem branches : Obligations.Branches :=
  ⟨uniformBranches, indirectBranches, oddTargetsTrap, brpMovesEachThread, badPcsTrap⟩

end Sys2Proof

/-! PROOFS. O7: a core outside the package has a die with no UNIT of its own (17 R398, R400). -/

namespace Sys2Proof.Machine
open Sys2Proof.Claims

/-- A tag of 12 bits has a UNIT below 32 (17 R390). -/
theorem unit_lt (q : Prov) : q.toNat / 128 < 32 := by
  have := q.isLt
  omega

/-- A warp of a grid issued in pairs, on a core of die 14, whose next executions differ before and after the retry. -/
def pairedFar : State := { State.reset with
  cur := .warp 0 0
  groups := [(0, { Group.start with core := 2240 })]
  grids := [(0, { Grid.start with record := ⟨[0, 0, 0, 0, 0, 0, 0, 0, 0, 2 ^ 33], 0⟩ })]
  pairing := [⟨[0], [0]⟩] }

theorem runs_sadd_pairedFar : Runs (.sadd ⟨0, 0, 0, 0, 0⟩) pairedFar := ⟨_, rfl, by decide, by decide⟩

end Sys2Proof.Machine

namespace Sys2Proof
open Machine Claims

/-- Refutes O7: by the paired issue, a SALU instruction whose executions differ still on a core of die 14 would poison its register
with UNIT 18 + 14, and a tag of 12 bits has no UNIT over 31. The statement takes the core of a workgroup to be any number. -/
theorem not_scalarResults : ¬ Obligations.ScalarResults := by
  rintro ⟨-, -, -, -, paired⟩
  obtain ⟨p, u, -, -, poisons, -⟩ := paired _ _ .sadd ⟨0, 0, 0, 0, 0⟩ pairedFar 0 runs_sadd_pairedFar rfl (by decide)
  obtain ⟨q, -, unit⟩ := poisons (by decide)
  have die : dieOf (pairedFar.group 0).core = 14 := by decide
  have := unit_lt q
  omega

end Sys2Proof

/-! PROOFS. What finding a place changes: tables, caches and A and D bits (12 R296, R297, R299, R303). -/

namespace Sys2Proof.Machine
open Sys2Proof.Claims

/-- From one state to another only walks were made: memory, the directory of walked lines, the translation caches, the firewall's
registers and the messages may differ. -/
def Walks (s t : State) : Prop := ∃ m tb tl w tc pf sent,
  t = { s with mem := m, tables := tb, tlb := tl, walks := w, tlbChoice := tc, pf := pf, sent := sent }

section
variable {s t : State}

theorem Walks.refl (s : State) : Walks s s := ⟨s.mem, s.tables, s.tlb, s.walks, s.tlbChoice, s.pf, s.sent, rfl⟩

theorem Walks.trans {u : State} (h : Walks s t) (k : Walks t u) : Walks s u := by
  obtain ⟨_, _, _, _, _, _, _, rfl⟩ := h
  obtain ⟨_, _, _, _, _, _, _, rfl⟩ := k
  exact ⟨_, _, _, _, _, _, _, rfl⟩

theorem Walks.snd {α : Type} {x : α} {p : α × State} (h : Walks s p.2) (e : p = (x, t)) : Walks s t := by
  rw [e] at h
  exact h

theorem Walks.thd {α β : Type} {x : α} {y : β} {p : α × β × State} (h : Walks s p.2.2) (e : p = (x, y, t)) : Walks s t := by
  rw [e] at h
  exact h

theorem Walks.ite {c : Prop} [Decidable c] {u v : State} (h : Walks s u) (k : Walks s v) : Walks s (if c then u else v) := by
  split
  · exact h
  · exact k

theorem Walks.foldl {α : Type} {f : State → α → State} (h : Walks s t) (hf : ∀ u x, Walks s u → Walks s (f u x)) (l : List α) :
    Walks s (l.foldl f t) := foldl_keeps (Walks s) f hf l t h

end

section
variable (s : State)

theorem State.walks_lookaside : Walks s s.lookaside.2 := ⟨_, _, _, _, _, _, _, rfl⟩
theorem State.walks_keepCached (x : Site) (c : Cached) : Walks s (s.keepCached x c) := ⟨_, _, _, _, _, _, _, rfl⟩
theorem State.walks_keepWalk (x : Site) (e : WalkEntry) : Walks s (s.keepWalk x e) := ⟨_, _, _, _, _, _, _, rfl⟩
theorem State.walks_recordLines (x : Site) (ls : List Nat) : Walks s (s.recordLines x ls) := ⟨_, _, _, _, _, _, _, rfl⟩
theorem State.walks_logEvent (c vd : Nat) : Walks s (s.logEvent c vd) := ⟨_, _, _, _, _, _, _, rfl⟩

/-- A leaf's bits are written in HBM (12 R303). -/
theorem State.walks_markLeaf {l : Loc} (h : l.space = .hbm) (e : Word) (b : Bool) : Walks s (s.markLeaf l e b) := by
  have write : ∀ x, s.writeByte l x = { s with mem := memSet s.mem l.key x } := fun x => by simp only [State.writeByte, h]
  unfold State.markLeaf
  extract_lets e'
  split
  · exact .refl s
  · rw [write]
    exact ⟨_, _, _, _, _, _, _, rfl⟩

theorem State.walks_stage2Walk (x : Site) (use : Bool) (vd pa : Nat) (n : Need) (d : Bool) :
    Walks s (s.stage2Walk x use vd pa n d).2.2 := by
  unfold State.stage2Walk
  extract_lets v w s1 s2
  have h1 : Walks s s1 := s.walks_recordLines x _
  have h2 : Walks s s2 := .ite (h1.foldl (fun u e hu => hu.trans (u.walks_keepWalk x _)) _) h1
  split
  · exact .refl s
  · split
    · exact h2.trans (s2.walks_logEvent _ _)
    · exact h2
    · exact h2.trans (s2.walks_markLeaf rfl _ _)

theorem State.walks_tableWord (x : Site) (use : Bool) (vd pa : Nat) : Walks s (s.tableWord x use vd pa).2.2 := by
  have walk := s.walks_stage2Walk x use vd pa Need.read false
  unfold State.tableWord
  split
  · exact .refl s
  · split
    · next e => exact walk.thd e
    · next e => exact walk.thd e
    · next t e =>
      have h := walk.thd e
      extract_lets l
      split
      · exact h.trans (t.walks_recordLines x _)
      · exact h.trans (t.walks_logEvent _ _)

end

/-- A table entry that a walk reads stands in HBM (12 R294). -/
theorem State.space_of_tableWord {s t : State} {x : Site} {use : Bool} {vd pa : Nat} {l : Loc} {e : Word} {ls : List Nat}
    (h : s.tableWord x use vd pa = (.ok (l, e), ls, t)) : l.space = .hbm := by
  unfold State.tableWord at h
  split at h
  · cases h
    rfl
  · split at h
    · cases h
    · cases h
    · extract_lets k at h
      clear_value k
      split at h
      · next hk =>
        cases h
        exact hk
      · cases h

theorem walks_walkStage1 (x : Site) (use : Bool) (vd va lvl table : Nat) (s : State) :
    Walks s (walkStage1 x use vd va lvl table s).2.2 := by
  induction lvl generalizing s table with
  | zero => exact .refl s
  | succ lvl ih =>
    unfold walkStage1
    extract_lets k
    split
    · next e => exact (s.walks_tableWord ..).thd e
    · next t e =>
      have h := (s.walks_tableWord ..).thd e
      split
      · exact h
      · split
        · exact h
        · split
          · exact h
          · exact (Walks.ite (h.trans (t.walks_keepWalk ..)) h).trans (ih ..)

theorem space_of_walkStage1 {x : Site} {use : Bool} {vd va lvl table : Nat} {s t : State} {l : Loc} {e : Word} {n : Nat} {ls : List Nat}
    (h : walkStage1 x use vd va lvl table s = (.ok (l, e, n), ls, t)) : l.space = .hbm := by
  induction lvl generalizing s table ls with
  | zero => cases h
  | succ lvl ih =>
    unfold walkStage1 at h
    extract_lets k at h
    split at h
    · cases h
    · next word =>
      split at h
      · cases h
      · split at h
        · cases h
        · split at h
          · cases h
            exact State.space_of_tableWord word
          · extract_lets s1 at h
            generalize hr : walkStage1 x use vd va lvl _ s1 = r at h
            obtain ⟨r, ls', u⟩ := r
            cases h
            exact ih hr

section
variable (s : State)

theorem State.walks_translate (x : Site) (vd root va : Nat) (n : Need) : Walks s (s.translate x vd root va n).2 := by
  unfold State.translate
  split
  next t e =>
  have h : Walks s t := s.walks_lookaside.snd e
  split
  · exact h
  · split
    · next e => exact h.trans ((walks_walkStage1 ..).thd e)
    · next u e =>
      extract_lets cbw permits v
      have hv : Walks s v := (h.trans ((walks_walkStage1 ..).thd e)).trans (u.walks_markLeaf (space_of_walkStage1 e) _ _)
      split
      · exact hv
      · split
        · next e => exact hv.trans ((v.walks_stage2Walk ..).thd e)
        · next e => exact hv.trans ((v.walks_stage2Walk ..).thd e)
        · next w e =>
          have hw := hv.trans ((v.walks_stage2Walk ..).thd e)
          split
          · exact hw
          · extract_lets f loc both
            exact .ite (hw.trans (w.walks_keepCached ..)) hw

theorem State.walks_logCrossing (a : AgentId) : Walks s (s.logCrossing a) := by
  unfold State.logCrossing State.logCrossingAt
  extract_lets n t
  exact .ite ⟨_, _, _, _, _, _, _, rfl⟩ ⟨_, _, _, _, _, _, _, rfl⟩

theorem State.walks_place (a : AgentId) (x : Target) (n : Nat) (need : Need) : Walks s (s.place a x n need).2 := by
  unfold State.place
  split
  · exact .refl s
  · split
    · split
      · exact s.walks_logCrossing a
      · exact .refl s
    · exact .refl s
  · split
    · exact .refl s
    · split
      · next t e =>
        have h := (s.walks_translate ..).snd e
        split
        · exact h.trans (t.walks_logCrossing a)
        · exact h
      · next e => exact (s.walks_translate ..).snd e
      · next e => exact (s.walks_translate ..).snd e
      · next e => exact (s.walks_translate ..).snd e

theorem State.walks_placePieces (a : AgentId) (base : Word) (need : Need) (size n i : Nat) (acc : List Loc) :
    Walks s (s.placePieces a base need size n i acc).2.2 := by
  induction n generalizing s i acc with
  | zero => exact .refl s
  | succ n ih =>
    unfold State.placePieces
    split
    · next e => exact ((s.walks_place ..).snd e).trans (ih ..)
    · next e => exact (s.walks_place ..).snd e

theorem State.walks_classify (a : AgentId) (m : MemOp) (expired : Bool) (x : LaneAcc) : Walks s (s.classify a m expired x).2 := by
  unfold State.classify
  extract_lets
  split
  · exact .refl s
  · split
    next t e =>
    have h := (s.walks_placePieces ..).thd e
    split
    next u e1 =>
    have hu : Walks s u := by
      split at e1
      · split at e1
        · cases e1
          exact h
        · split at e1
          next e2 =>
          cases e1
          exact h.trans ((t.walks_placePieces ..).thd e2)
      · cases e1
        exact h
    -- every answer from here on leaves that state
    extract_lets
    repeat' split
    all_goals exact hu

end

end Sys2Proof.Machine

/-! PROOFS. How a memory instruction issues whose lanes all find local places (04 R120, R121; 09 R240, R241; 13 R321; 15 R365). -/

namespace Sys2Proof.Machine
open Sys2Proof.Claims

/-! What the walks leave. -/

section
variable {s t : State} (h : Walks s t)
include h

theorem Walks.groups : t.groups = s.groups := by obtain ⟨_, _, _, _, _, _, _, rfl⟩ := h; rfl
theorem Walks.ctl : t.ctl = s.ctl := by obtain ⟨_, _, _, _, _, _, _, rfl⟩ := h; rfl
theorem Walks.vds : t.vds = s.vds := by obtain ⟨_, _, _, _, _, _, _, rfl⟩ := h; rfl
theorem Walks.poison : t.poison = s.poison := by obtain ⟨_, _, _, _, _, _, _, rfl⟩ := h; rfl
theorem Walks.cores : t.cores = s.cores := by obtain ⟨_, _, _, _, _, _, _, rfl⟩ := h; rfl

theorem Walks.group (g : Nat) : t.group g = s.group g := by rw [State.group, h.groups]; rfl
theorem Walks.vdOf (a : AgentId) : t.vdOf a = s.vdOf a := by rw [State.vdOf, h.group]; rfl
theorem Walks.vd (n : Nat) : t.vd n = s.vd n := by rw [State.vd, h.vds]; rfl

theorem Walks.agent (a : AgentId) : t.agent a = s.agent a :=
  State.agent_congr (fun g => by rw [h.group]) (fun g => by rw [h.group]) h.ctl a

theorem Walks.has {a : AgentId} : t.has a ↔ s.has a := by
  cases a with
  | warp g w => rw [State.has, h.group]; rfl
  | stoker g => rfl
  | ctl c => rfl

theorem Walks.poisonAt (l : Loc) : t.poisonAt l = s.poisonAt l := by
  have warp (g w : Nat) : t.warp g w = s.warp g w := by rw [State.warp, h.group]; rfl
  unfold State.poisonAt
  split
  · rw [warp]
  · rw [h.poison]

end

/-! The lanes found (09 R240). -/

theorem State.length_placePieces {s t : State} {a : AgentId} {base : Word} {need : Need} {size n i : Nat} {acc ls : List Loc} {l : Loc}
    (h : s.placePieces a base need size n i acc = (.ok l, ls, t)) : ls.length = acc.length + n := by
  induction n generalizing s i acc with
  | zero =>
    cases h
    rfl
  | succ n ih =>
    unfold State.placePieces at h
    split at h
    · rw [ih h, List.length_append]
      simp only [List.length_cons, List.length_nil]
      omega
    · next other _ => exact (other _ (Prod.mk.inj h).1).elim

theorem State.classify_atomic {s t : State} {a : AgentId} {m : MemOp} {code : BitVec 4} {keep e : Bool} {x : LaneAcc} {ls : List Loc}
    (hm : m.act = .atomic code keep) (h : s.classify a m e x = (.ok ls, t)) :
    ls.length = m.bytes / m.piece ∧ (∀ l ∈ ls, atomicAllowed l (atomicHost code.toNat) = true) ∧
      (s.loadPieces a (ls.filter fun l => l.space != .fabric) m.piece).2 = none := by
  unfold State.classify at h
  simp only [hm, MemAct.whole, MemAct.writes, MemAct.returns, MemAct.consumes, Bool.false_eq_true, if_false, Bool.true_and, if_true] at h
  generalize hp : s.placePieces a x.addr m.need m.piece (m.bytes / m.piece) 0 [] = r at h
  obtain ⟨f, ks, u⟩ := r
  split at h
  · cases h
  · cases f with
    | cause => cases h
    | absent =>
      dsimp only at h
      repeat' split at h
      all_goals cases h
    | ok l =>
      dsimp only at h
      split at h
      · cases h
      · next permitted =>
        simp only [Bool.or_eq_true, not_or, List.any_eq_true, not_exists, not_and, Bool.not_eq_true', Bool.not_eq_false] at permitted
        repeat' split at h
        all_goals cases h
        next clean => exact ⟨(State.length_placePieces hp).trans (Nat.zero_add _), permitted.1, clean⟩

/-- Lanes with their places, as the checks of 09 R240 hand them on. -/
def found (ys : List (LaneAcc × List Loc)) : List (LaneAcc × LaneFound) := ys.map fun y => (y.1, .ok y.2)

section
variable {s u : State} {a : AgentId} {m : MemOp} {xs : List LaneAcc} {ys : List (LaneAcc × List Loc)} (h : FoundAll a m s xs ys u)
include h

theorem FoundAll.walks : Walks s u := by
  induction h with
  | none s => exact .refl s
  | lane h _ _ ih => exact ((State.walks_classify ..).snd h).trans ih

/-- The lanes' places, found one lane after another. -/
theorem FoundAll.foldl (acc : List (LaneAcc × LaneFound)) :
    xs.foldl (fun (acc : List (LaneAcc × LaneFound) × State) x =>
      (acc.1 ++ [(x, (acc.2.classify a m false x).1)], (acc.2.classify a m false x).2)) (acc, s) = (acc ++ found ys, u) := by
  induction h generalizing acc with
  | none s => simp [found]
  | lane h _ _ ih =>
    rw [List.foldl_cons]
    simp only [h, ih, found, List.map_cons, List.append_assoc, List.singleton_append]

theorem FoundAll.local_of_mem {y : LaneAcc × List Loc} (hy : y ∈ ys) : ∀ l ∈ y.2, l.space ≠ .fabric := by
  induction h with
  | none => cases hy
  | lane _ here _ ih =>
    rcases List.mem_cons.mp hy with rfl | hy
    · exact here
    · exact ih hy

/-- Each lane was classified in a state that differs by walks alone. -/
theorem FoundAll.classified {y : LaneAcc × List Loc} (hy : y ∈ ys) : ∃ v w, Walks s v ∧ v.classify a m false y.1 = (.ok y.2, w) := by
  induction h with
  | none => cases hy
  | lane here _ _ ih =>
    rcases List.mem_cons.mp hy with rfl | hy
    · exact ⟨_, _, .refl _, here⟩
    · obtain ⟨v, w, hv, hc⟩ := ih hy
      exact ⟨v, w, ((State.walks_classify ..).snd here).trans hv, hc⟩

end

/-! Operations (04 R120). -/

theorem mem_dropWhile_of_not {α : Type} {p : α → Bool} {x : α} {l : List α} (hx : x ∈ l) (hp : p x = false) : x ∈ l.dropWhile p := by
  induction l with
  | nil => exact hx
  | cons y l ih =>
    rcases List.mem_cons.mp hx with rfl | hx
    · rw [List.dropWhile_cons_of_neg (by simp [hp])]
      exact List.mem_cons_self
    · rw [List.dropWhile_cons]
      split
      · exact ih hx
      · exact List.mem_cons_of_mem _ hx

/-- An operation that is not over stays counted. -/
theorem Agent.mem_settle {x : Agent} {o : Op} (h : o ∈ x.ops) (unfinished : o.over = false) : o ∈ x.settle.ops := by
  refine List.mem_filter.mpr ⟨h, List.any_eq_true.mpr ⟨o, mem_dropWhile_of_not ?_ unfinished, beq_self_eq_true _⟩⟩
  exact List.mem_filter.mpr ⟨h, beq_self_eq_true _⟩

theorem State.agent_addOp {s : State} {a : AgentId} (ha : s.has a) (c : OpClass) (k : OpWork) :
    (s.addOp a c k).2.agent a = { s.agent a with ops := (s.agent a).ops ++ [⟨s.uid, c, k⟩] } := by
  have fresh : ({ s with uid := s.uid + 1 } : State).agent a = s.agent a :=
    State.agent_congr (fun _ => rfl) (fun _ => rfl) rfl a
  have here : ({ s with uid := s.uid + 1 } : State).has a := by cases a <;> exact ha
  refine (State.agent_updAgent _ a _ here).trans ?_
  rw [fresh]

theorem State.mem_ops_setWork {s : State} {a : AgentId} (ha : s.has a) {n : Nat} {c : OpClass} {j k : OpWork}
    (h : ⟨n, c, j⟩ ∈ (s.agent a).ops) (unfinished : (Op.mk n c k).over = false) : ⟨n, c, k⟩ ∈ ((s.setWork a n k).agent a).ops := by
  rw [State.setWork, State.agent_updAgent s a _ ha]
  exact Agent.mem_settle (List.mem_map.mpr ⟨_, h, by simp⟩) unfinished

end Sys2Proof.Machine

/-! PROOFS. What follows when every lane of a memory instruction is found: its operation carries what the lanes leave (09 R241-R252). -/

namespace Sys2Proof.Machine
open Sys2Proof.Claims

/-! No paired execution differs, and no damper holds a request (03 R89; 17 R398). -/

theorem State.pairAccesses_of_unpaired {s : State} (h : Unpaired s) (m : MemOp) (xs : List LaneAcc) :
    s.pairAccesses s.cur m xs = (([], xs), s) := by
  unfold State.pairAccesses
  split
  · rfl
  · next g hg =>
    simp only [State.pairTurn_of_unpaired h hg, List.filter_nil, State.countPair, List.isEmpty_nil, Bool.and_self, if_true, State.pairTag,
      List.contains_nil, Bool.false_eq_true, if_false, List.filter_false, List.map_nil, Bool.not_false, List.filter_true, List.map_id',
      ite_self]

theorem State.damps_of_not_held {s : State} {vd : Nat} (hbm : (s.vd vd).hbmHeld = false) (link : (s.vd vd).linkHeld = false)
    (ls : List Loc) : s.damps vd ls = false := by
  simp only [State.damps, hbm, link, Bool.false_and, Bool.or_self]

/-! Lanes performed in order. -/

/-- The lanes are performed one after another from what the operation carries and a state on, none meeting poison on the way; the
last two are what the operation then carries and the state after them. -/
inductive Performs (a : AgentId) (id : Nat) (m : MemOp) : Parts → State → List (LaneAcc × List Loc) → Parts → State → Prop
  | nil (p : Parts) (s : State) : Performs a id m p s [] p s
  | cons {p q s t x ls ys} (clean : s.latePoison m ls = none)
      (rest : Performs a id m (s.performLane a id m p x ls).1 (s.performLane a id m p x ls).2 ys q t) :
      Performs a id m p s ((x, ls) :: ys) q t

/-- Only an atomic meets poison when its turn comes. -/
theorem State.latePoison_of_not_atomic {m : MemOp} (h : ∀ code keep, m.act ≠ .atomic code keep) (s : State) (ls : List Loc) :
    s.latePoison m ls = none := by
  unfold State.latePoison
  split
  · next e => exact absurd e (h _ _)
  · rfl

theorem filterMap_found {β : Type} {f : LaneAcc × LaneFound → Option β} (hf : ∀ x ls, f (x, .ok ls) = none)
    (ys : List (LaneAcc × List Loc)) : (found ys).filterMap f = [] := by
  refine List.filterMap_eq_nil_iff.mpr fun x hx => ?_
  obtain ⟨y, -, rfl⟩ := List.mem_map.mp hx
  exact hf _ _

theorem any_found {f : LaneAcc × LaneFound → Bool} (hf : ∀ x ls, f (x, .ok ls) = false) (ys : List (LaneAcc × List Loc)) :
    (found ys).any f = false := by
  refine List.any_eq_false.mpr fun x hx => ?_
  obtain ⟨y, -, rfl⟩ := List.mem_map.mp hx
  simp [hf]

section
variable {s t : State} {a : AgentId} {id : Nat} {m : MemOp} {p q : Parts} {ys : List (LaneAcc × List Loc)}

theorem Performs.foldl {f : Parts × List (LaneAcc × LaneFound) × State → LaneAcc × LaneFound → Parts × List (LaneAcc × LaneFound) × State}
    (hf : ∀ p done (s : State) x ls, s.latePoison m ls = none → f (p, done, s) (x, .ok ls) =
      ((s.performLane a id m p x ls).1, done ++ [(x, .ok ls)], (s.performLane a id m p x ls).2))
    (h : Performs a id m p s ys q t) (done : List (LaneAcc × LaneFound)) :
    (found ys).foldl f (p, done, s) = (q, done ++ found ys, t) := by
  induction h generalizing done with
  | nil => simp [found]
  | @cons p _ s _ x ls _ clean _ ih =>
    rw [found, List.map_cons, List.foldl_cons, hf _ _ _ _ _ clean]
    exact (ih _).trans (by rw [List.append_assoc]; rfl)

/-- The operation carries what its lanes left, none of which traps: beside tracked lines its writes are performed first (12 R300); an
acquire follows when every value is bound (13 R323). -/
def State.carry (t : State) (a : AgentId) (id : Nat) (m : MemOp) (q : Parts) : State :=
  let now := !q.lines.isEmpty
  let u := if now then t.flushBefore a id (q.writes.map fun w => w.loc.key) (q.writes.any fun w => w.loc.space == .host) else t
  let lines := if now then (q.lines ++ u.trackedLines q.writes).eraseDups else q.lines
  let u := if now then u.performBy a q.writes else u
  let q := { q with lines := lines, writes := if now then [] else q.writes }
  (if m.acquires && q.bound then u.acquire a else u).setWork a id (q.work { m with acquires := m.acquires && !q.bound })

theorem State.resolve_of_performs (h : Performs a id m p s ys q t) (full : ∀ c, t.coreOf a = some c → t.flushFull c = t) :
    s.resolve a id m p (found ys) = (false, t.carry a id m q) := by
  unfold State.resolve
  extract_lets causes vd aborted
  rw [any_found fun _ _ => rfl, Bool.and_false, if_neg Bool.false_ne_true]
  dsimp only
  rw [h.foldl fun p done s x ls clean => by simp only [clean]]
  dsimp only
  have none : causes (found ys) = [] := filterMap_found (fun _ _ => rfl) ys
  rw [List.nil_append, none, filterMap_found fun _ _ => rfl, filterMap_found fun _ _ => rfl]
  simp only [List.isEmpty_nil, Bool.not_true, Bool.false_or, if_true, List.append_nil, List.map_nil]
  obtain ⟨regs, writes, waiting, parked, remote, lines, reads⟩ := q
  cases hc : t.coreOf a with
  | none => cases lines <;> rfl
  | some c =>
    simp only [full c hc]
    cases lines <;> rfl

theorem State.carry_of_untracked (untracked : q.lines = []) : t.carry a id m q =
    (if m.acquires && q.bound then t.acquire a else t).setWork a id (q.work { m with acquires := m.acquires && !q.bound }) := by
  obtain ⟨regs, writes, waiting, parked, remote, lines, reads⟩ := q
  subst untracked
  rfl

/-- Nothing need precede an access to no byte (13 R319). -/
theorem mustPrecede_nil (ops : List Op) : mustPrecede [] false ops = [] := by
  refine congrArg Prod.fst (a₂ := (([] : List Op), ([] : List Nat), false)) ?_
  induction ops with
  | nil => rfl
  | cons o ops ih =>
    rw [List.foldr_cons, ih]
    simp

/-- With no writes left, cores and owners alone change beside the operation. -/
theorem State.carry_of_written (t : State) (a : AgentId) (id : Nat) (m : MemOp) {q : Parts} (written : q.writes = []) : ∃ c o k,
    t.carry a id m q = ({ t with cores := c, owners := o } : State).setWork a id k := by
  have flushed : t.flushBefore a id [] false = t := by rw [State.flushBefore, mustPrecede_nil]; rfl
  have performed : ∃ c o, t.performBy a [] = { t with cores := c, owners := o } := t.ownWords_frame a []
  unfold State.carry
  extract_lets now u lines v r
  have hv : ∃ c o, v = { t with cores := c, owners := o } := by
    simp only [v, u, written, List.map_nil, List.any_nil, flushed, ite_self]
    split
    · exact performed
    · exact ⟨t.cores, t.owners, rfl⟩
  obtain ⟨c, o, hv⟩ := hv
  obtain ⟨d, acquired⟩ := v.acquireIf_frame a (m.acquires && r.bound)
  exact ⟨d, o, _, by rw [acquired, hv]⟩

end

/-! The whole issue (09 R241). -/

/-- No write-combining entry is due to be sent (15 R365). -/
theorem State.flushFull_of_combining {s : State} {c : Nat} (h : ∀ e ∈ (s.core c).wc, s.pf.fabWc = true ∧ e.bytes.length < 64) :
    s.flushFull c = s := by
  have none : ((s.core c).wc.filter fun e => !s.pf.fabWc || decide (64 ≤ e.bytes.length)) = [] := by
    refine List.filter_eq_nil_iff.mpr fun e he => ?_
    obtain ⟨on, short⟩ := h e he
    simp [on, short]
  rw [State.flushFull, State.sendEntries, none]
  rfl

/-- The class that a memory instruction's operation counts in (04 R120). -/
def MemOp.cls (m : MemOp) : OpClass := if m.act.stores then .stores else .loads

/-- A memory instruction whose lanes are all found, and that nothing holds up, adds its operation, performs its lanes and moves on. -/
theorem memIssue_of_found {s u t : State} {len : Nat} {m : MemOp} {releases : Bool} {xs : List LaneAcc} {ys : List (LaneAcc × List Loc)}
    {q : Parts} (flows : Flows s s.cur) (ready : s.memStalled s.cur m.cls m xs = false) (released : releases = true → s.released s.cur = true)
    (places : FoundAll s.cur m s xs ys u) (some : ys ≠ [])
    (performs : Performs s.cur u.uid m Parts.none (u.addOp s.cur m.cls .finished).2 ys q t)
    (full : ∀ c, t.coreOf s.cur = .some c → t.flushFull c = t) :
    memIssue len m releases [] xs s = ((t.carry s.cur u.uid m q).updAgent s.cur Agent.settle).advance len := by
  obtain ⟨hbm, link, unpaired⟩ := flows
  have walks := FoundAll.walks places
  have fold := FoundAll.foldl places []
  have here : (found ys).isEmpty = false := by simpa [found] using some
  have damps (ls : List Loc) : u.damps (u.vdOf s.cur) ls = false :=
    State.damps_of_not_held (by rw [walks.vdOf, walks.vd]; exact hbm) (by rw [walks.vdOf, walks.vd]; exact link) ls
  have waits : (releases && !s.released s.cur) = false := by
    cases releases with
    | false => rfl
    | true => simp [released rfl]
  have resolved := State.resolve_of_performs performs full
  unfold memIssue
  simp only [MemOp.cls] at ready resolved ⊢
  have id : (u.addOp s.cur (if m.act.stores then .stores else .loads) .finished).1 = u.uid := rfl
  simp only [ready, waits, State.pairAccesses_of_unpaired unpaired, List.append_nil, fold, List.nil_append, damps, Bool.and_false, here,
    Bool.false_eq_true, if_false, id, resolved]

end Sys2Proof.Machine

/-! PROOFS. What issuing a memory operation leaves as it was (04 R120, R121; 13 R321; 03 R90). -/

namespace Sys2Proof.Machine
open Sys2Proof.Claims

theorem State.core_updCore_cases (s : State) (c : Nat) (f : Core → Core) (k : Nat) :
    (s.updCore c f).core k = s.core k ∨ (k = c ∧ (s.updCore c f).core k = f (s.core k)) := by
  by_cases hk : k = c
  · exact .inr ⟨hk, by rw [hk, State.core_updCore]⟩
  · exact .inl (Table.get_put_ne _ hk _ _)

/-- From one state to another the meters, the choices of the L1 and the unowned copies alone differ (03 R90; 13 R321). -/
structure Meters (s t : State) : Prop where
  rest : ∃ v c l, t = { s with vds := v, cores := c, l1Choice := l }
  wc : ∀ k, (t.core k).wc = (s.core k).wc

theorem Meters.refl (s : State) : Meters s s := ⟨⟨_, _, _, rfl⟩, fun _ => rfl⟩

theorem Meters.trans {s t u : State} (h : Meters s t) (k : Meters t u) : Meters s u := by
  obtain ⟨⟨_, _, _, rfl⟩, hw⟩ := h
  obtain ⟨⟨_, _, _, rfl⟩, kw⟩ := k
  exact ⟨⟨_, _, _, rfl⟩, fun c => (kw c).trans (hw c)⟩

section
variable (s : State)

theorem State.meters_updCore (c : Nat) {f : Core → Core} (hf : ∀ x, (f x).wc = x.wc) : Meters s (s.updCore c f) where
  rest := ⟨_, _, _, rfl⟩
  wc k := by
    rcases s.core_updCore_cases c f k with h | ⟨-, h⟩
    · rw [h]
    · rw [h, hf]

theorem State.meters_meterHbm (vd n : Nat) : Meters s (s.meterHbm vd n) := ⟨⟨_, _, _, rfl⟩, fun _ => rfl⟩

theorem State.meters_meterLane (a : AgentId) (ls : List Loc) (n : Nat) : Meters s (s.meterLane a ls n) := by
  unfold State.meterLane
  split
  · exact .refl s
  · refine foldl_keeps (Meters s) _ (fun t l h => ?_) ls s (.refl s)
    split
    · exact h.trans (t.meters_meterHbm _ _)
    · exact h

theorem State.meters_dropCopies (a : AgentId) (l : Loc) (n : Nat) : Meters s (s.dropCopies a l n) := by
  unfold State.dropCopies
  split
  · exact s.meters_updCore _ fun _ => rfl
  · exact .refl s

theorem State.meters_acquire (a : AgentId) : Meters s (s.acquire a) := by
  unfold State.acquire
  split
  · exact s.meters_updCore _ fun _ => rfl
  · exact .refl s

theorem State.meters_acquireIf (a : AgentId) (b : Bool) : Meters s (if b then s.acquire a else s) := by
  split
  · exact s.meters_acquire a
  · exact .refl s

end

section
variable {s t : State} (h : Meters s t)
include h

theorem Meters.agent (a : AgentId) : t.agent a = s.agent a := by
  obtain ⟨⟨_, _, _, rfl⟩, -⟩ := h
  exact State.agent_congr (fun _ => rfl) (fun _ => rfl) rfl a

theorem Meters.has {a : AgentId} (ha : s.has a) : t.has a := by
  obtain ⟨⟨_, _, _, rfl⟩, -⟩ := h
  cases a <;> exact ha

theorem Meters.coreOf (a : AgentId) : t.coreOf a = s.coreOf a := by
  obtain ⟨⟨_, _, _, rfl⟩, -⟩ := h
  rfl

theorem Meters.uid : t.uid = s.uid := by
  obtain ⟨⟨_, _, _, rfl⟩, -⟩ := h
  rfl

/-- Nothing is due to be sent that was not. -/
theorem Meters.combining {a : AgentId} (hs : Combining s a) : Combining t a := by
  intro c hc e he
  rw [h.coreOf] at hc
  rw [h.wc] at he
  have := hs c hc e he
  obtain ⟨⟨_, _, _, rfl⟩, -⟩ := h
  exact this

end

/-- From one state to another only what issuing a memory operation of an agent may change has changed. -/
structure Issuing (a : AgentId) (s t : State) : Prop where
  rest : ∃ gs ct c v l n, t = { s with groups := gs, ctl := ct, cores := c, vds := v, l1Choice := l, uid := n }
  sregs : (t.agent a).sregs = (s.agent a).sregs
  warps : ∀ g w, (t.warp g w).vregs = (s.warp g w).vregs ∧ (t.warp g w).preds = (s.warp g w).preds ∧
    (t.warp g w).fpflags = (s.warp g w).fpflags ∧ (t.warp g w).frontier = (s.warp g w).frontier
  core : ∀ g, (t.group g).core = (s.group g).core
  wc : ∀ k, (t.core k).wc = (s.core k).wc
  has : s.has a → t.has a

section
variable {s t u : State} {a : AgentId}

theorem Issuing.trans (h : Issuing a s t) (k : Issuing a t u) : Issuing a s u := by
  obtain ⟨⟨_, _, _, _, _, _, rfl⟩, hr, hw, hc, hb, hh⟩ := h
  obtain ⟨⟨_, _, _, _, _, _, rfl⟩, kr, kw, kc, kb, kh⟩ := k
  refine ⟨⟨_, _, _, _, _, _, rfl⟩, kr.trans hr, fun g w => ?_, fun g => (kc g).trans (hc g), fun c => (kb c).trans (hb c),
    fun ha => kh (hh ha)⟩
  obtain ⟨h1, h2, h3, h4⟩ := hw g w
  obtain ⟨k1, k2, k3, k4⟩ := kw g w
  exact ⟨k1.trans h1, k2.trans h2, k3.trans h3, k4.trans h4⟩

theorem Meters.issuing (h : Meters s t) (a : AgentId) : Issuing a s t := by
  refine ⟨?_, by rw [h.agent], ?_, ?_, h.wc, h.has⟩
  all_goals obtain ⟨⟨_, _, _, rfl⟩, -⟩ := h
  · exact ⟨_, _, _, _, _, _, rfl⟩
  · exact fun _ _ => ⟨rfl, rfl, rfl, rfl⟩
  · exact fun _ => rfl

/-- Of the warps an agent's change touches its agent alone. -/
theorem State.warp_updAgent (s : State) (a : AgentId) (f : Agent → Agent) (g w : Nat) :
    ∃ x, (s.updAgent a f).warp g w = { s.warp g w with agent := x } := by
  cases a with
  | warp k i =>
    rcases s.warp_updWarp_cases k i (fun x => { x with agent := f (s.agent (.warp k i)) }) g w with h | ⟨-, -, h⟩
    · exact ⟨_, h⟩
    · exact ⟨_, h⟩
  | stoker k => exact ⟨_, s.warp_setStoker k { s.stoker k with agent := f (s.agent (.stoker k)) } g w⟩
  | ctl c => exact ⟨_, rfl⟩

/-- An agent's operations change; its registers and everything of its warp stay. -/
theorem State.issuing_updAgent (s : State) (a : AgentId) {f : Agent → Agent} (ha : s.has a) (hf : ∀ x, (f x).sregs = x.sregs) :
    Issuing a s (s.updAgent a f) where
  rest := by cases a <;> exact ⟨_, _, _, _, _, _, rfl⟩
  sregs := by rw [State.agent_updAgent s a f ha, hf]
  warps g w := by
    obtain ⟨x, h⟩ := s.warp_updAgent a f g w
    rw [h]
    exact ⟨rfl, rfl, rfl, rfl⟩
  core g := by
    have kept {k : Nat} {f : Group → Group} (hf : ∀ x, (f x).core = x.core) : ((s.updGroup k f).group g).core = (s.group g).core := by
      by_cases hk : g = k
      · rw [hk, State.group_updGroup, hf]
      · rw [s.group_updGroup_ne f hk]
    cases a with
    | warp k i => exact kept fun _ => rfl
    | stoker k => exact kept fun _ => rfl
    | ctl c => rfl
  wc k := by cases a <;> rfl
  has := (s.steady_setAgent a _).has

theorem State.issuing_addOp (s : State) (a : AgentId) (ha : s.has a) (c : OpClass) (k : OpWork) : Issuing a s (s.addOp a c k).2 := by
  have fresh : Issuing a s { s with uid := s.uid + 1 } := ⟨⟨_, _, _, _, _, _, rfl⟩,
    congrArg Agent.sregs (State.agent_congr (fun _ => rfl) (fun _ => rfl) rfl a), fun _ _ => ⟨rfl, rfl, rfl, rfl⟩, fun _ => rfl,
    fun _ => rfl, fun h => by cases a <;> exact h⟩
  exact fresh.trans (State.issuing_updAgent (f := fun x => { x with ops := x.ops ++ [⟨s.uid, c, k⟩] }) _ a (fresh.has ha) fun _ => rfl)

theorem Issuing.coreOf (h : Issuing a s t) (b : AgentId) : t.coreOf b = s.coreOf b := by
  unfold State.coreOf
  cases groupOf b with
  | none => rfl
  | some g => exact congrArg some (h.core g)

theorem Issuing.combining (h : Issuing a s t) (hs : Combining s a) : Combining t a := by
  intro c hc e he
  rw [h.coreOf] at hc
  rw [h.wc] at he
  have := hs c hc e he
  obtain ⟨⟨_, _, _, _, _, _, rfl⟩, -⟩ := h
  exact this

theorem Issuing.frame (h : Issuing a s t) (hu : t.uid = s.uid + 1) : IssueFrame s t a := by
  obtain ⟨⟨_, _, _, _, _, _, rfl⟩, sregs, warps, -⟩ := h
  dsimp only at hu
  subst hu
  exact ⟨rfl, sregs, warps⟩

/-- Bytes read as they did. -/
theorem Issuing.readByte (h : Issuing a s t) (l : Loc) : t.readByte l = s.readByte l := by
  have value (g w n k : Nat) : (t.warp g w).v n k = (s.warp g w).v n k := congrArg (fun r => Table.get 0 r (vkey n k)) (h.warps g w).1
  have mem : t.mem = s.mem := by
    obtain ⟨⟨_, _, _, _, _, _, rfl⟩, -⟩ := h
    rfl
  unfold State.readByte
  split
  · simp only [value]
  · rw [mem]

end

/-- What an operation carries when all its values are bound is nothing of tracked lines. -/
theorem Parts.lines_of_bound {q : Parts} (h : q.bound = true) : q.lines = [] := by
  simp only [Parts.bound, Bool.and_eq_true, List.isEmpty_iff] at h
  exact h.2

/-- Where nothing of tracked lines was written, the added operation carries what its lanes left. -/
theorem State.mem_ops_carry {u t : State} {a : AgentId} {m : MemOp} {q : Parts} (ha : u.has a) (here : t.has a)
    (agent : t.agent a = (u.addOp a m.cls .finished).2.agent a) (untracked : q.lines = [])
    (unfinished : (Op.mk u.uid m.cls (q.work { m with acquires := m.acquires && !q.bound })).over = false) :
    (⟨u.uid, m.cls, q.work { m with acquires := m.acquires && !q.bound }⟩ : Op) ∈
      (((t.carry a u.uid m q).updAgent a Agent.settle).agent a).ops := by
  have acquired := t.meters_acquireIf a (m.acquires && q.bound)
  rw [State.carry_of_untracked untracked]
  generalize (if m.acquires && q.bound then t.acquire a else t) = v at acquired
  have hv := acquired.has here
  rw [State.agent_updAgent _ a _ ((v.steady_setWork a _ _).has hv)]
  refine Agent.mem_settle (State.mem_ops_setWork (j := .finished) hv ?_ unfinished) unfinished
  rw [acquired.agent, agent, State.agent_addOp ha]
  exact List.mem_append_right _ (List.mem_singleton_self _)

/-- A memory instruction whose lanes only load, or leave their stores pending, adds one operation that carries what they left, and
changes nothing else. -/
theorem State.issued_of_meters {u t : State} {a : AgentId} {m : MemOp} {q : Parts} (ha : u.has a)
    (meters : Meters (u.addOp a m.cls .finished).2 t) (bound : q.bound = true)
    (unfinished : (Op.mk u.uid m.cls (q.work { m with acquires := false })).over = false) :
    IssueFrame u ((t.carry a u.uid m q).updAgent a Agent.settle) a ∧
    (⟨u.uid, m.cls, q.work { m with acquires := false }⟩ : Op) ∈
      (((t.carry a u.uid m q).updAgent a Agent.settle).agent a).ops := by
  have added := u.issuing_addOp a ha m.cls .finished
  have untracked := Parts.lines_of_bound bound
  have plain : (m.acquires && !q.bound) = false := by rw [bound, Bool.not_true, Bool.and_false]
  refine ⟨?_, by simpa only [plain] using State.mem_ops_carry ha (meters.has (added.has ha)) (meters.agent a) untracked (by rwa [plain])⟩
  have acquired := t.meters_acquireIf a (m.acquires && q.bound)
  rw [State.carry_of_untracked untracked]
  have before := meters.trans acquired
  generalize (if m.acquires && q.bound then t.acquire a else t) = v at before
  have hv := (added.trans (before.issuing a)).has ha
  have worked : Issuing a v (v.setWork a u.uid (q.work { m with acquires := m.acquires && !q.bound })) :=
    v.issuing_updAgent a hv fun _ => rfl
  have settled := State.issuing_updAgent _ a (worked.has hv) (f := Agent.settle) fun _ => rfl
  have uid : (u.addOp a m.cls .finished).2.uid = u.uid + 1 := State.updAgent_uid _ a _
  refine (((added.trans (before.issuing a)).trans worked).trans settled).frame ?_
  rw [State.updAgent_uid, State.setWork, State.updAgent_uid, before.uid, uid]

theorem State.full_of_combining {s : State} {a : AgentId} (h : Combining s a) : ∀ c, s.coreOf a = some c → s.flushFull c = s :=
  fun c hc => State.flushFull_of_combining (h c hc)

/-- The issue of such an instruction, whole (09 R241). -/
theorem memIssue_issues {s u t : State} {len : Nat} {m : MemOp} {releases : Bool} {xs : List LaneAcc} {ys : List (LaneAcc × List Loc)}
    {q : Parts} (flows : Flows s s.cur) (ready : s.memStalled s.cur m.cls m xs = false) (released : releases = true → s.released s.cur = true)
    (places : FoundAll s.cur m s xs ys u) (some : ys ≠ []) (combining : Combining u s.cur) (live : u.live s.cur = true)
    (performs : Performs s.cur u.uid m Parts.none (u.addOp s.cur m.cls .finished).2 ys q t)
    (meters : Meters (u.addOp s.cur m.cls .finished).2 t) (bound : q.bound = true)
    (unfinished : (Op.mk u.uid m.cls (q.work { m with acquires := false })).over = false) :
    ∃ v : State, memIssue len m releases [] xs s = v.advance len ∧ IssueFrame u v s.cur ∧
      (⟨u.uid, m.cls, q.work { m with acquires := false }⟩ : Op) ∈ (v.agent s.cur).ops := by
  have ha := State.has_of_live live
  have full := State.full_of_combining (((u.issuing_addOp s.cur ha m.cls .finished).trans (meters.issuing s.cur)).combining combining)
  exact ⟨_, memIssue_of_found flows ready released places some performs full, State.issued_of_meters ha meters bound unfinished⟩

end Sys2Proof.Machine

/-! PROOFS. O21: SLD and SST (04 R120, R121; 07 R188; 13 R321-R323). -/

namespace Sys2Proof.Machine
open Sys2Proof.Claims

/-! What a load reads that uses no copy (13 R321). -/

/-- A byte as an agent loads it where its core holds no copy: its own pending store's, or the home's. -/
theorem State.loadByte_of_no_copy {s : State} {a : AgentId} {l : Loc} (here : l.space ≠ .fabric)
    (none : l.space = .hbm → ∀ c, s.coreOf a = some c → Table.look (s.core c).l1 (l.off / 4) = none) :
    s.loadByte a l = ((s.agent a).pending l.key).getD (s.readByte l, s.poisonAt l) := by
  have copy : (if l.space == .hbm then (s.coreOf a).bind fun c => Table.look (s.core c).l1 (l.off / 4) else Option.none) = Option.none := by
    split
    · next hbm =>
      cases hc : s.coreOf a with
      | none => rfl
      | some c => exact none (beq_iff_eq.mp hbm) c hc
    · rfl
  have fabric : (l.space == .fabric) = false := by simpa using here
  unfold State.loadByte
  simp only [copy, fabric, Bool.false_eq_true, if_false]
  cases (s.agent a).pending l.key <;> rfl

theorem look_foldl_drop {β : Type} {f : Nat → Nat} {is : List Nat} {k : Nat} (t : Table β) (h : ∃ i ∈ is, f i = k) :
    Table.look (is.foldl (fun t i => Table.drop (f i) t) t) k = none := by
  obtain ⟨i, hi, rfl⟩ := h
  refine foldl_reaches (fun t : Table β => Table.look t (f i) = none) (Table.look_drop_self _) (fun t j ht => ?_) hi t
  by_cases hk : f i = f j
  · rw [hk, Table.look_drop_self]
  · rw [Table.look_drop_ne hk, ht]

/-- The words of the bytes that leave a core's L1 are in it no more. -/
theorem State.look_dropCopies {s : State} {a : AgentId} {l : Loc} {n i c : Nat} (hbm : l.space = .hbm) (hc : s.coreOf a = some c)
    (hi : i < n) : Table.look ((s.dropCopies a l n).core c).l1 ((l.off + i) / 4) = none := by
  simp only [State.dropCopies, hbm, hc, State.core_updCore]
  exact look_foldl_drop _ ⟨(l.off + i) / 4 - l.off / 4, List.mem_range.mpr (by omega), by omega⟩

theorem State.l1_fresh (u : State) (c : Nat) : ((Fresh u).core c).l1 = [] :=
  congrArg Core.l1 (Table.get_map (f := fun x : Core => { x with l1 := [] }) rfl u.cores c)

/-- A load that leaves its core's copies reads, after the operation is added, what the agent reads where no core has a copy. -/
theorem State.loadBytes_dropCopies {u v : State} {a : AgentId} {l : Loc} (here : l.space ≠ .fabric) (added : Issuing a u v)
    (pending : (v.agent a).pending = (u.agent a).pending) (n : Nat) :
    ((v.dropCopies a l n).loadBytes a l n).1 = ((Fresh u).loadPieces a [l] n).1 := by
  have meters := v.meters_dropCopies a l n
  have issuing := added.trans (meters.issuing a)
  have byte (i : Nat) (hi : i < n) :
      ((v.dropCopies a l n).loadByte a (l.plus i)).1 = ((Fresh u).loadByte a (l.plus i)).1 := by
    have fresh : (Fresh u).agent a = u.agent a := State.agent_congr (fun _ => rfl) (fun _ => rfl) rfl a
    have same : (Fresh u).readByte (l.plus i) = u.readByte (l.plus i) := rfl
    rw [State.loadByte_of_no_copy (l := l.plus i) here fun hbm c hc => State.look_dropCopies hbm (by rwa [meters.coreOf] at hc) hi,
      State.loadByte_of_no_copy (l := l.plus i) here fun _ c _ => by rw [State.l1_fresh]; rfl, meters.agent, pending, fresh]
    cases (u.agent a).pending (l.plus i).key with
    | none => exact (issuing.readByte _).trans same.symm
    | some x => rfl
  simp only [State.loadPieces, State.loadBytes, List.map_cons, List.map_nil, List.flatMap_cons, List.flatMap_nil, List.append_nil,
    List.map_map]
  exact List.map_congr_left fun i hi => byte i (List.mem_range.mp hi)

/-- An operation that is no store has no pending byte. -/
theorem Agent.pending_append_finished (x : Agent) (n : Nat) (c : OpClass) :
    ({ x with ops := x.ops ++ [⟨n, c, .finished⟩] } : Agent).pending = x.pending := by
  funext k
  simp only [Agent.pending, List.foldl_append, List.foldl_cons, List.foldl_nil]

/-! The lanes of a load and of a store. -/

theorem State.loadTurn_of_no_choice {s : State} (h : s.l1Choice = []) (a : AgentId) (l : Loc) (n : Nat) (tagged : Bool) :
    s.loadTurn a l n tagged = (false, s.dropCopies a l n) := by
  have choices : s.l1Choice.drop 1 = s.l1Choice := by rw [h]; rfl
  have turn : s.l1Turn a l = (false, s) := by
    unfold State.l1Turn
    rw [choices, show s.l1Choice.headD false = false by rw [h]; rfl]
    split <;> rfl
  simp only [State.loadTurn, turn, Bool.false_and, Bool.false_eq_true, if_false]

/-- A load of bytes that are here holds what it reads for its registers. -/
theorem State.performLane_load {s : State} {m : MemOp} {x : LaneAcc} {l : Loc} (hm : m.act = .load) (hx : x.data = [])
    (here : l.space ≠ .fabric) (choice : s.l1Choice = []) (a : AgentId) (id : Nat) (p : Parts) : s.performLane a id m p x [l] =
      ({ p with regs := p.regs ++ laneRegs m x ((s.dropCopies a l m.piece).loadBytes a l m.piece).1,
                reads := p.reads ++ (hbmLines [l] m.piece).map fun n => (x, n) },
        (s.dropCopies a l m.piece).meterLane a [l] m.piece) := by
  have local_ : (l.space == .fabric) = false := by simpa using here
  have turn := State.loadTurn_of_no_choice choice a l m.piece false
  simp only [State.performLane, hm, hx, MemAct.tagged, List.take_nil, List.length_nil, Nat.zero_div, List.drop_zero, State.readPieces,
    State.mustSend, local_, Bool.false_and, Bool.false_eq_true, if_false, turn, List.nil_append]

/-- A store of bytes that are here leaves its writes pending. -/
theorem State.performLane_store {m : MemOp} {x : LaneAcc} {l : Loc} (hm : m.act = .store) (hx : x.data.length = m.piece)
    (here : l.space ≠ .fabric) (s : State) (a : AgentId) (id : Nat) (p : Parts) : s.performLane a id m p x [l] =
      ({ p with writes := p.writes ++ writesAt l x.data x.prov }, s.meterLane a [l] x.data.length) := by
  have local_ : (l.space == .fabric) = false := by simpa using here
  simp only [State.performLane, hm, List.length_cons, List.length_nil, Nat.zero_add, List.range_one, List.foldl_cons, List.foldl_nil,
    List.headD_cons, listGet, local_, Bool.false_eq_true, if_false, Nat.zero_mul, List.drop_zero, ← hx, List.take_length]

theorem Performs.single {a : AgentId} {id : Nat} {m : MemOp} {p q : Parts} {s t : State} {x : LaneAcc} {ls : List Loc}
    (clean : s.latePoison m ls = none) (lane : s.performLane a id m p x ls = (q, t)) : Performs a id m p s [(x, ls)] q t := by
  refine .cons clean ?_
  rw [lane]
  exact .nil q t

/-! SLD (07 R188). -/

theorem exec_of_sldForm {i : Instr} {len : Nat} {o : GSI} {s : State} (hi : SldForm i len o) (h : Runs i s) :
    exec i s = .next (memIssue len ⟨.load, 2 ^ (o.aux.toNat % 4), false, o.sd, o.aux.getLsbD 4, o.aux.getLsbD 2, s.pc, s.headMask⟩ false []
      [⟨0, s.sreg o.sa + o.imm.signExtend 64, [], none, []⟩] s) := by
  have width : fieldN o.aux 1 0 = o.aux.toNat % 4 := by simp [fieldN]
  rw [← width]
  cases hi
  · exact exec_of_runs h rfl (Eq.refl (sldOp 8 o s))
  · exact exec_of_runs h rfl (Eq.refl (sldOp 4 _ s))

theorem scalarWidth_le (n : Nat) : 2 ^ (n % 4) ≤ 8 := by
  have := Nat.mod_lt n (show 0 < 4 by decide)
  calc 2 ^ (n % 4) ≤ 2 ^ 3 := Nat.pow_le_pow_right (by decide) (by omega)
    _ = 8 := rfl

theorem State.length_loadBytes (s : State) (a : AgentId) (l : Loc) (n : Nat) : (s.loadBytes a l n).1.length = n := by
  simp [State.loadBytes]

/-- 07 R188, 13 R321, R323. -/
theorem scalarLoadIssues : ScalarLoadIssues := by
  intro i len o hi s u l h n x m flows ready places choice combining live
  have ha := State.has_of_live live
  have here : l.space ≠ .fabric := FoundAll.local_of_mem places (List.mem_singleton_self _) l (List.mem_singleton_self _)
  have piece : m.piece = n := Nat.min_eq_left ((scalarWidth_le _).trans (by decide))
  have added := u.issuing_addOp s.cur ha m.cls .finished
  have pending : ((u.addOp s.cur m.cls .finished).2.agent s.cur).pending = (u.agent s.cur).pending := by
    rw [State.agent_addOp ha, Agent.pending_append_finished]
  have kept : (u.addOp s.cur m.cls .finished).2.l1Choice = [] :=
    (State.updAgent_l1Choice { u with uid := u.uid + 1 } _ _).trans choice
  have lane := State.performLane_load (m := m) (x := x) rfl rfl here kept s.cur u.uid Parts.none
  obtain ⟨t, moved, frame, op⟩ := memIssue_issues (len := len) (m := m) (releases := false) flows ready (fun h => by cases h) places
    (by simp) combining live (.single (State.latePoison_of_not_atomic (fun _ _ h => by cases h) _ _) lane)
    ((State.meters_dropCopies _ _ _ _).trans (State.meters_meterLane _ _ _ _)) rfl rfl
  have regs (bs : List Byte) (hn : bs.length = n) : laneRegs m x bs = [.scalar o.sd.toNat
      (if o.aux.getLsbD 4 then bitFieldGet true (BitVec.ofNat 64 (leN bs)) 0 (8 * n) else BitVec.ofNat 64 (leN bs)) none] := by
    rw [← hn]
    rfl
  rw [piece, regs _ (State.length_loadBytes ..), State.loadBytes_dropCopies here added pending] at op
  exact ⟨t, (exec_of_sldForm hi h).trans (congrArg _ moved), frame, _, op⟩

/-! SST (07 R188). -/

theorem exec_of_sstForm {i : Instr} {len : Nat} {o : GSI} {s : State} (hi : SstForm i len o) (h : Runs i s) :
    exec i s = .next (memIssue len ⟨.store, 2 ^ (o.aux.toNat % 4), false, 0, false, false, s.pc, s.headMask⟩ (o.aux.getLsbD 3) []
      [⟨0, s.sreg o.sa + o.imm.signExtend 64, leB (2 ^ (o.aux.toNat % 4)) (s.sreg o.sd).toNat,
        if o.sd = 0 then none else Table.look (s.agent s.cur).spoison o.sd.toNat, []⟩] s) := by
  have width : fieldN o.aux 1 0 = o.aux.toNat % 4 := by simp [fieldN]
  have prov : (if (o.sd == 0) = true then none else Table.look (s.agent s.cur).spoison o.sd.toNat) =
      if o.sd = 0 then none else Table.look (s.agent s.cur).spoison o.sd.toNat := by simp only [beq_iff_eq]
  rw [← width, ← prov]
  cases hi
  · exact exec_of_runs h rfl (Eq.refl (sstOp 8 o s))
  · exact exec_of_runs h rfl (Eq.refl (sstOp 4 _ s))

theorem length_leB (n v : Nat) : (leB n v).length = n := by
  induction n generalizing v with
  | zero => rfl
  | succ n ih => rw [leB, List.length_cons, ih]

/-- 07 R188, 13 R322. -/
theorem scalarStoreIssues : ScalarStoreIssues := by
  intro i len o hi s u l h n p x m flows ready released places combining live
  have here : l.space ≠ .fabric := FoundAll.local_of_mem places (List.mem_singleton_self _) l (List.mem_singleton_self _)
  have piece : m.piece = n := Nat.min_eq_left ((scalarWidth_le _).trans (by decide))
  have lane := State.performLane_store (m := m) (x := x) (l := l) rfl ((length_leB n _).trans piece.symm) here
    (u.addOp s.cur m.cls .finished).2 s.cur u.uid Parts.none
  obtain ⟨t, moved, frame, op⟩ := memIssue_issues (len := len) (m := m) (releases := o.aux.getLsbD 3) flows ready released places
    (by simp) combining live (.single (State.latePoison_of_not_atomic (fun _ _ h => by cases h) _ _) lane)
    (State.meters_meterLane _ _ _ _) rfl rfl
  exact ⟨t, (exec_of_sstForm hi h).trans (congrArg _ moved), frame, op⟩

end Sys2Proof.Machine

namespace Sys2Proof
open Machine Claims

/-- Settles O21: a load and a store whose place is found add one operation that holds the bytes. -/
theorem scalarMemoryIssues : Obligations.ScalarMemoryIssues := ⟨scalarLoadIssues, scalarStoreIssues⟩

end Sys2Proof

/-! PROOFS. Writes of unpoisoned bytes outside the register windows (09 R252; 17 R390). -/

namespace Sys2Proof.Machine
open Sys2Proof.Claims

/-- A place outside the register windows. -/
def Loc.Home (l : Loc) : Prop := ∀ g w, l.space ≠ .window g w

theorem State.poisonAt_home (s : State) {l : Loc} (h : l.Home) : s.poisonAt l = Table.look s.poison l.granuleKey := by
  unfold State.poisonAt
  split
  · next g w e => exact absurd e (h g w)
  · rfl

/-- From one state to another unpoisoned bytes outside the windows were written, beside the meters and what the coherence of the L1
keeps: workgroups differ in the segments marked dirty alone, and no poison has come. -/
structure Lands (s t : State) : Prop where
  rest : ∃ m p g o c v l,
    t = { s with mem := m, poison := p, groups := g, owners := o, cores := c, vds := v, l1Choice := l }
  group : ∀ g, ∃ d, t.group g = { s.group g with dirty := d }
  wc : ∀ k, (t.core k).wc = (s.core k).wc
  clean : ∀ l : Loc, l.Home → s.poisonAt l = none → t.poisonAt l = none

theorem Lands.refl (s : State) : Lands s s := ⟨⟨_, _, _, _, _, _, _, rfl⟩, fun _ => ⟨_, rfl⟩, fun _ => rfl, fun _ _ h => h⟩

theorem Lands.trans {s t u : State} (h : Lands s t) (k : Lands t u) : Lands s u := by
  obtain ⟨⟨_, _, _, _, _, _, _, rfl⟩, hg, hw, hc⟩ := h
  obtain ⟨⟨_, _, _, _, _, _, _, rfl⟩, kg, kw, kc⟩ := k
  refine ⟨⟨_, _, _, _, _, _, _, rfl⟩, fun g => ?_, fun c => (kw c).trans (hw c), fun l hl hs => kc l hl (hc l hl hs)⟩
  obtain ⟨d, hd⟩ := hg g
  obtain ⟨e, he⟩ := kg g
  exact ⟨e, he.trans (by rw [hd])⟩

theorem Meters.lands {s t : State} (h : Meters s t) : Lands s t := by
  obtain ⟨⟨_, _, _, rfl⟩, wc⟩ := h
  exact ⟨⟨_, _, _, _, _, _, _, rfl⟩, fun _ => ⟨_, rfl⟩, wc, fun _ _ h => h⟩

section
variable (s : State)

theorem State.lands_writeByte {l : Loc} (h : l.Home) (b : Byte) : Lands s (s.writeByte l b) := by
  unfold State.writeByte
  split
  · next g w e => exact absurd e (h g w)
  · exact ⟨⟨_, _, _, _, _, _, _, rfl⟩, fun _ => ⟨_, rfl⟩, fun _ => rfl, fun _ _ h => h⟩

theorem State.lands_markDirty (l : Loc) : Lands s (s.markDirty l) := by
  unfold State.markDirty
  split
  · next k _ =>
    extract_lets n
    split
    · exact .refl s
    · refine ⟨⟨_, _, _, _, _, _, _, rfl⟩, fun g => ?_, fun _ => rfl, fun l hl hs => ?_⟩
      · by_cases hg : g = k
        · exact ⟨_, by rw [hg, State.group_updGroup]⟩
        · exact ⟨_, by rw [s.group_updGroup_ne _ hg]⟩
      · rwa [State.poisonAt_home _ hl] at hs ⊢
  · exact .refl s

end

/-- A granule's poison is set to what it was at first, or to none. -/
theorem Lands.setPoison {s t : State} (h : Lands s t) {l : Loc} (hl : l.Home) {p : Option Prov} (hp : p = none ∨ p = s.poisonAt l) :
    Lands s (t.setPoison l p) := by
  obtain ⟨⟨_, _, _, _, _, _, _, rfl⟩, group, wc, clean⟩ := h
  unfold State.setPoison
  split
  · next g w e => exact absurd e (hl g w)
  · refine ⟨⟨_, _, _, _, _, _, _, rfl⟩, group, wc, fun k hk hs => ?_⟩
    have before := clean k hk hs
    rw [State.poisonAt_home _ hk] at hs before ⊢
    rw [State.poisonAt_home _ hl] at hp
    by_cases same : k.granuleKey = l.granuleKey
    · rw [same] at hs ⊢
      rw [hs, or_self] at hp
      simp [hp]
    · cases p with
      | none => exact (Table.look_drop_ne same _).trans before
      | some q => exact (Table.look_put_ne same q _).trans before

/-- Bytes without poison, written outside the windows. -/
def Unpoisoning (ws : List ByteWrite) : Prop := ∀ w ∈ ws, w.loc.Home ∧ w.prov = none

theorem State.lands_performWrites (s : State) {ws : List ByteWrite} (h : Unpoisoning ws) : Lands s (s.performWrites ws) := by
  unfold State.performWrites
  extract_lets s1 grans
  have bytes : Lands s s1 := List.foldlRecOn (motive := Lands s) ws _ (.refl s) fun t ht w hw =>
    (ht.trans (t.lands_writeByte (h w hw).1 _)).trans (State.lands_markDirty _ _)
  have home : ∀ l ∈ grans, l.Home := by
    refine List.foldlRecOn (motive := fun ls : List Loc => ∀ l ∈ ls, l.Home) ws _ (by simp) fun ls hls w hw => ?_
    split
    · exact hls
    · exact List.forall_mem_cons.mpr ⟨(h w hw).1, hls⟩
  refine List.foldlRecOn (motive := Lands s) grans _ bytes fun t ht l hl => ?_
  extract_lets written after
  have none : written = none := by
    refine lowestProv_eq_none fun p hp => ?_
    obtain ⟨w, hw, rfl⟩ := List.mem_map.mp hp
    exact (h w (List.mem_filter.mp hw).1).2
  split
  · exact ht
  · refine ht.setPoison (home l hl) ?_
    simp only [after, none, poisonAfter]
    split
    · exact .inl rfl
    · exact .inr rfl

theorem State.lands_ownWords (s : State) (a : AgentId) (ws : List ByteWrite) : Lands s (s.ownWords a ws) := by
  unfold State.ownWords
  split
  · next c _ =>
    extract_lets ks
    have core : Meters s (s.updCore c fun x => { x with l1 := ks.foldl (fun t k => Table.drop k t) x.l1 }) :=
      s.meters_updCore c fun _ => rfl
    exact core.lands.trans ⟨⟨_, _, _, _, _, _, _, rfl⟩, fun _ => ⟨_, rfl⟩, fun _ => rfl, fun _ _ h => h⟩
  · exact ⟨⟨_, _, _, _, _, _, _, rfl⟩, fun _ => ⟨_, rfl⟩, fun _ => rfl, fun _ _ h => h⟩

theorem State.lands_performBy (s : State) (a : AgentId) {ws : List ByteWrite} (h : Unpoisoning ws) : Lands s (s.performBy a ws) :=
  (s.lands_ownWords a ws).trans (State.lands_performWrites _ h)

section
variable {s t : State} (h : Lands s t)
include h

theorem Lands.warp (g w : Nat) : t.warp g w = s.warp g w := by
  obtain ⟨d, hd⟩ := h.group g
  rw [State.warp, hd]
  rfl

theorem Lands.agent (a : AgentId) : t.agent a = s.agent a := by
  refine State.agent_congr (fun g => ?_) (fun g => ?_) ?_ a
  · obtain ⟨d, hd⟩ := h.group g
    rw [hd]
  · obtain ⟨d, hd⟩ := h.group g
    rw [hd]
  · obtain ⟨⟨_, _, _, _, _, _, _, rfl⟩, -⟩ := h
    rfl

theorem Lands.has {a : AgentId} (ha : s.has a) : t.has a := by
  cases a with
  | warp g w =>
    obtain ⟨d, hd⟩ := h.group g
    rw [State.has, hd]
    exact ha
  | stoker g => trivial
  | ctl c => trivial

theorem Lands.coreOf (a : AgentId) : t.coreOf a = s.coreOf a := by
  unfold State.coreOf
  cases groupOf a with
  | none => rfl
  | some g =>
    obtain ⟨d, hd⟩ := h.group g
    rw [Option.map_some, Option.map_some, hd]

theorem Lands.tables : t.tables = s.tables := by
  obtain ⟨⟨_, _, _, _, _, _, _, rfl⟩, -⟩ := h
  rfl

theorem Lands.combining {a : AgentId} (hs : Combining s a) : Combining t a := by
  intro c hc e he
  rw [h.coreOf] at hc
  rw [h.wc] at he
  have := hs c hc e he
  obtain ⟨⟨_, _, _, _, _, _, _, rfl⟩, -⟩ := h
  exact this

end

end Sys2Proof.Machine

/-! PROOFS. O22: SATOM, VATOM and VRED (07 R189; 09 R250-R252). -/

namespace Sys2Proof.Machine
open Sys2Proof.Claims

/-! What an atomic finds that no store of its agent precedes. -/

/-- None of some operations is a store that has bytes to perform. -/
def Storeless (ops : List Op) : Prop := ∀ q ∈ ops, ∀ k ws pk rm, q.work ≠ .store k ws pk rm

theorem Storeless.append_finished {ops : List Op} (h : Storeless ops) (n : Nat) (c : OpClass) : Storeless (ops ++ [⟨n, c, .finished⟩]) := by
  intro q hq k ws pk rm
  rcases List.mem_append.mp hq with hq | hq
  · exact h q hq k ws pk rm
  · rw [List.mem_singleton.mp hq]
    exact OpWork.noConfusion

theorem Agent.pending_of_storeless {x : Agent} (h : Storeless x.ops) (k : Nat) : x.pending k = none := by
  refine List.foldlRecOn (motive := fun acc => acc = none) x.ops _ rfl fun acc hacc o ho => ?_
  split
  · next work => exact absurd work (h o ho _ _ _ _)
  · exact hacc

theorem eq_none_of_lowestProv {l : List (Option Prov)} (h : lowestProv l = none) : ∀ x ∈ l, x = none := by
  have both {x y : Option Prov} (h : minProv x y = none) : x = none ∧ y = none := by
    cases x <;> cases y <;> simp_all [minProv]
  have all : ∀ (l : List (Option Prov)) (acc : Option Prov), l.foldl minProv acc = none → acc = none ∧ ∀ x ∈ l, x = none := by
    intro l
    induction l with
    | nil => exact fun acc h => ⟨h, by simp⟩
    | cons y l ih =>
      intro acc h
      obtain ⟨head, rest⟩ := ih _ h
      obtain ⟨hacc, hy⟩ := both head
      exact ⟨hacc, List.forall_mem_cons.mpr ⟨hy, rest⟩⟩
  exact (all l none h).2

/-- With no store pending, a byte that is here is loaded with its home's poison. -/
theorem State.loadByte_prov {s : State} {a : AgentId} {l : Loc} (ops : Storeless (s.agent a).ops) (here : l.space ≠ .fabric) :
    (s.loadByte a l).2 = s.poisonAt l := by
  have fabric : (l.space == .fabric) = false := by simpa using here
  unfold State.loadByte
  simp only [Agent.pending_of_storeless ops, fabric, Bool.false_eq_true, if_false]
  split <;> rfl

/-- Where the check of a lane's bytes finds no poison, none is at home (09 R240). -/
theorem State.poisonAt_of_loadPieces {s : State} {a : AgentId} {ls : List Loc} {n : Nat} (ops : Storeless (s.agent a).ops)
    (here : ∀ l ∈ ls, l.space ≠ .fabric) (h : (s.loadPieces a ls n).2 = none) : ∀ l ∈ ls, ∀ i < n, s.poisonAt (l.plus i) = none := by
  intro l hl i hi
  have bytes : (s.loadBytes a l n).2 = none :=
    eq_none_of_lowestProv h _ (List.mem_map.mpr ⟨s.loadBytes a l n, List.mem_map_of_mem hl, rfl⟩)
  rw [← State.loadByte_prov (l := l.plus i) ops (here l hl)]
  exact eq_none_of_lowestProv bytes _ (List.mem_map.mpr ⟨s.loadByte a (l.plus i), List.mem_map.mpr ⟨i, List.mem_range.mpr hi, rfl⟩, rfl⟩)

/-! One lane of an atomic. -/

/-- The writes of an atomic at a place. -/
def State.atomWrites (s : State) (m : MemOp) (code : BitVec 4) (x : LaneAcc) (l : Loc) : List ByteWrite :=
  writesAt l (atomicBytes code.toNat (s.readBytes l m.piece) x.data x.compare) x.prov

theorem length_atomicBytes (code : Nat) (old d c : List Byte) : (atomicBytes code old d c).length = old.length := length_leB _ _

theorem mem_writesAt {l : Loc} {bs : List Byte} {p : Option Prov} {w : ByteWrite} :
    w ∈ writesAt l bs p ↔ ∃ i < bs.length, w = ⟨l.plus i, listGet 0 bs i, p⟩ := by
  simp only [writesAt, List.mem_map, List.mem_range, eq_comm]

theorem State.mem_atomWrites {s : State} {m : MemOp} {code : BitVec 4} {x : LaneAcc} {l : Loc} {w : ByteWrite} :
    w ∈ s.atomWrites m code x l ↔ ∃ i < m.piece, w = ⟨l.plus i,
      listGet 0 (atomicBytes code.toNat (s.readBytes l m.piece) x.data x.compare) i, x.prov⟩ := by
  rw [State.atomWrites, mem_writesAt, length_atomicBytes, State.readBytes, List.length_map, List.length_range]

theorem State.unpoisoning_atomWrites {s : State} {m : MemOp} {code : BitVec 4} {x : LaneAcc} {l : Loc} (hl : l.Home) (hx : x.prov = none) :
    Unpoisoning (s.atomWrites m code x l) := by
  intro w hw
  obtain ⟨i, -, rfl⟩ := State.mem_atomWrites.mp hw
  exact ⟨hl, hx⟩

theorem State.flushOverlap_of_storeless {s : State} {a : AgentId} (h : Storeless (s.agent a).ops) (ks : List Nat) :
    s.flushOverlap a ks = s := by
  rw [State.flushOverlap, mustPrecede_of_no_stores h]
  rfl

/-- An atomic at a place that is here replaces its bytes at once; VATOM and SATOM keep the old ones (09 R250-R252). -/
theorem State.performLane_atomic {s : State} {a : AgentId} {m : MemOp} {x : LaneAcc} {l : Loc} {ls : List Loc} {code : BitVec 4} {keep : Bool}
    (hm : m.act = .atomic code keep) (here : l.space ≠ .fabric) (ops : Storeless (s.agent a).ops) (id : Nat) (p : Parts) :
    let t := (s.meterLane a [l] m.piece).performBy a (s.atomWrites m code x l)
    s.performLane a id m p x (l :: ls) =
      ({ p with regs := if keep then p.regs ++ laneRegs m x (s.readBytes l m.piece) else p.regs
                lines := (p.lines ++ t.trackedLines (s.atomWrites m code x l)).eraseDups
                reads := if keep then p.reads ++ (hbmLines [l] m.piece).map fun n => (x, n) else p.reads }, t) := by
  have local_ : (l.space == .fabric) = false := by simpa using here
  have read : (s.meterLane a [l] m.piece).readBytes l m.piece = s.readBytes l m.piece :=
    List.map_congr_left fun i _ => ((s.meters_meterLane a [l] m.piece).issuing a).readByte _
  simp only [State.performLane, hm, List.headD_cons, local_, Bool.false_eq_true, if_false, State.flushOverlap_of_storeless ops, read,
    State.atomWrites]

/-- A lane of an atomic whose turn may come: it has places, all here and outside the windows, with no poison, and its operand has none. -/
structure Ready (s : State) (m : MemOp) (y : LaneAcc × List Loc) : Prop where
  places : y.2 ≠ []
  home : ∀ l ∈ y.2, l.Home
  here : ∀ l ∈ y.2, l.space ≠ .fabric
  clean : ∀ l ∈ y.2, ∀ i < m.piece, s.poisonAt (l.plus i) = none
  operand : y.1.prov = none

theorem Ready.of_lands {s t : State} {m : MemOp} {y : LaneAcc × List Loc} (h : Ready s m y) (k : Lands s t) : Ready t m y :=
  ⟨h.places, h.home, h.here, fun l hl i hi => k.clean (l.plus i) (h.home l hl) (h.clean l hl i hi), h.operand⟩

theorem Ready.latePoison {s : State} {m : MemOp} {y : LaneAcc × List Loc} (h : Ready s m y) : s.latePoison m y.2 = none := by
  unfold State.latePoison
  split
  · refine lowestProv_eq_none fun p hp => ?_
    obtain ⟨l, hl, rfl⟩ := List.mem_map.mp hp
    split
    · rfl
    · refine lowestProv_eq_none fun p hp => ?_
      obtain ⟨i, hi, rfl⟩ := List.mem_map.mp hp
      exact h.clean l hl i (List.mem_range.mp hi)
  · rfl

/-- Lanes that are ready are performed in order, and change no byte outside their places. -/
theorem performs_atomics {a : AgentId} {id : Nat} {m : MemOp} {code : BitVec 4} {keep : Bool} (hm : m.act = .atomic code keep)
    (ys : List (LaneAcc × List Loc)) (s : State) (p : Parts) (ops : Storeless (s.agent a).ops) (ready : ∀ y ∈ ys, Ready s m y)
    (written : p.writes = []) : ∃ q t, Performs a id m p s ys q t ∧ Lands s t ∧ q.writes = [] ∧
      ∀ k, (∀ y ∈ ys, ∀ l ∈ y.2, ∀ j < m.piece, k ≠ (l.plus j).key) → memGet t.mem k = memGet s.mem k := by
  induction ys generalizing s p with
  | nil => exact ⟨p, s, .nil p s, .refl s, written, fun _ _ => rfl⟩
  | cons y ys ih =>
    obtain ⟨hy, hys⟩ := List.forall_mem_cons.mp ready
    obtain ⟨x, ls⟩ := y
    cases ls with
    | nil => exact absurd rfl hy.places
    | cons l ls =>
      obtain ⟨home, -⟩ := List.forall_mem_cons.mp hy.home
      obtain ⟨here, -⟩ := List.forall_mem_cons.mp hy.here
      have lane := State.performLane_atomic (x := x) (ls := ls) hm here ops id p
      have unpoisoning := s.unpoisoning_atomWrites (m := m) (code := code) home hy.operand
      have metered := (s.meters_meterLane a [l] m.piece).lands
      have lands := metered.trans (State.lands_performBy _ a unpoisoning)
      have mem : (s.meterLane a [l] m.piece).mem = s.mem := by
        obtain ⟨⟨_, _, _, h⟩, -⟩ := s.meters_meterLane a [l] m.piece
        rw [h]
      generalize ht : (s.meterLane a [l] m.piece).performBy a (s.atomWrites m code x l) = t at lane lands
      obtain ⟨q, u, rest, follow, done, others⟩ := ih t (s.performLane a id m p x (l :: ls)).1 (by rwa [lands.agent])
        (fun y hy => (hys y hy).of_lands lands) (by rw [lane]; exact written)
      refine ⟨q, u, .cons hy.latePoison ?_, lands.trans follow, done, fun k hk => ?_⟩
      · rw [lane] at rest ⊢
        exact rest
      · obtain ⟨first, later⟩ := List.forall_mem_cons.mp hk
        rw [others k later, ← ht, State.performBy_mem _ a fun w hw => (unpoisoning w hw).1, memGet_memAfter_ne _ _ k, mem]
        intro w hw e
        obtain ⟨i, hi, rfl⟩ := State.mem_atomWrites.mp hw
        exact first l List.mem_cons_self i hi e.symm

/-- A single lane's bytes become the operation's result. -/
theorem memGet_of_performs_atomic {a : AgentId} {id : Nat} {m : MemOp} {code : BitVec 4} {keep : Bool} (hm : m.act = .atomic code keep)
    {s t : State} {p q : Parts} {x : LaneAcc} {l : Loc} (home : l.Home) (here : l.space ≠ .fabric) (ops : Storeless (s.agent a).ops)
    (h : Performs a id m p s [(x, [l])] q t) {k : Nat} (hk : k < m.piece) : memGet t.mem (l.plus k).key =
      listGet 0 (atomicBytes code.toNat (s.readBytes l m.piece) x.data x.compare) k := by
  cases h with
  | cons _ rest =>
    rw [State.performLane_atomic hm here ops] at rest
    cases rest
    rw [State.performBy_mem _ a fun w hw => ?_]
    · exact memGet_memAfter _ (nodup_keys_writesAt _ _ _) (State.mem_atomWrites.mpr ⟨k, hk, rfl⟩)
    · obtain ⟨i, -, rfl⟩ := State.mem_atomWrites.mp hw
      exact home

/-! What a single atomic leaves for its operation. -/

/-- The lines that writes touch are those of their places. -/
theorem State.trackedLines_congr {s t : State} {ws vs : List ByteWrite} (tables : t.tables = s.tables)
    (places : ws.map (·.loc) = vs.map (·.loc)) : t.trackedLines ws = s.trackedLines vs := by
  have lines (ws : List ByteWrite) : ((ws.filter fun w => w.loc.space == .hbm).map fun w => w.loc.off / 64) =
      ((ws.map (·.loc)).filter fun l => l.space == .hbm).map fun l => l.off / 64 := by
    rw [List.filter_map, List.map_map]
    rfl
  rw [State.trackedLines, State.trackedLines, lines, lines, places, tables]

theorem map_loc_writesAt (l : Loc) (bs : List Byte) (p : Option Prov) :
    (writesAt l bs p).map (·.loc) = (List.range bs.length).map l.plus := by
  rw [writesAt, List.map_map]
  rfl

/-- On no tracked line, an atomic that returns its old value keeps it for its registers, and one that does not keeps nothing. -/
theorem parts_of_performs_atomic {a : AgentId} {id : Nat} {m : MemOp} {code : BitVec 4} {keep : Bool} (hm : m.act = .atomic code keep)
    {s t : State} {q : Parts} {x : LaneAcc} {l : Loc} (home : l.Home) (here : l.space ≠ .fabric) (ops : Storeless (s.agent a).ops)
    (operand : x.prov = none) (size : x.data.length = m.piece) (untracked : s.trackedLines (writesAt l x.data none) = [])
    (h : Performs a id m Parts.none s [(x, [l])] q t) :
    ∃ rd, q = ⟨if keep then laneRegs m x (s.readBytes l m.piece) else [], [], [], [], [], [], rd⟩ := by
  cases h with
  | cons _ rest =>
    rw [State.performLane_atomic hm here ops] at rest
    cases rest
    have lands := (s.meters_meterLane a [l] m.piece).lands.trans
      (State.lands_performBy _ a (s.unpoisoning_atomWrites (m := m) (code := code) home operand))
    have lines : State.trackedLines ((s.meterLane a [l] m.piece).performBy a (s.atomWrites m code x l)) (s.atomWrites m code x l) = [] := by
      rw [← untracked]
      refine State.trackedLines_congr lands.tables ?_
      rw [State.atomWrites, map_loc_writesAt, map_loc_writesAt, length_atomicBytes, size, State.readBytes, List.length_map,
        List.length_range]
    rw [lines]
    exact ⟨_, rfl⟩

/-! The issue of an atomic. -/

/-- The lanes that were found are ready, once the operation is added. -/
theorem FoundAll.ready {s u v : State} {a : AgentId} {m : MemOp} {code : BitVec 4} {keep : Bool} {xs : List LaneAcc}
    {ys : List (LaneAcc × List Loc)} (hm : m.act = .atomic code keep) (h : FoundAll a m s xs ys u) (whole : m.bytes / m.piece ≠ 0)
    (ops : Storeless (u.agent a).ops) (operands : ∀ y ∈ ys, y.1.prov = none) (same : v.poison = u.poison) :
    ∀ y ∈ ys, Ready v m y := by
  intro y hy
  obtain ⟨z, w, walks, found⟩ := FoundAll.classified h hy
  obtain ⟨length, allowed, clean⟩ := State.classify_atomic hm found
  have here := FoundAll.local_of_mem h hy
  have all : (y.2.filter fun l => l.space != .fabric) = y.2 := List.filter_eq_self.mpr fun l hl => by simpa using here l hl
  have agent : (z.agent a).ops = (u.agent a).ops := by rw [walks.agent, (FoundAll.walks h).agent]
  rw [all] at clean
  have home : ∀ l ∈ y.2, l.Home := fun l hl g w window => by
    have := allowed l hl
    simp [atomicAllowed, window] at this
  refine ⟨fun none => whole (by rw [← length, none]; rfl), home, here, fun l hl i hi => ?_, operands y hy⟩
  · have at_ : (l.plus i).Home := home l hl
    rw [v.poisonAt_home at_, same, ← u.poisonAt_home at_, (FoundAll.walks h).poisonAt, ← walks.poisonAt]
    exact State.poisonAt_of_loadPieces (agent ▸ ops) here clean l hl i hi

/-- Beside its operation, an atomic changes what its lanes have changed, and no register. -/
theorem State.carried_of_lands {u t : State} {a : AgentId} {m : MemOp} {q : Parts} (ha : u.has a)
    (lands : Lands (u.addOp a m.cls .finished).2 t) (written : q.writes = []) :
    ((t.carry a u.uid m q).updAgent a Agent.settle).mem = t.mem ∧
    (∀ g w, (((t.carry a u.uid m q).updAgent a Agent.settle).warp g w).vregs = (u.warp g w).vregs) ∧
    (((t.carry a u.uid m q).updAgent a Agent.settle).agent a).sregs = (u.agent a).sregs := by
  have added := u.issuing_addOp a ha m.cls .finished
  obtain ⟨c, o, k, carried⟩ := t.carry_of_written a u.uid m written
  rw [carried]
  generalize hv : ({ t with cores := c, owners := o } : State) = v
  have warp (g w : Nat) : v.warp g w = t.warp g w := by rw [← hv]; rfl
  have agent : v.agent a = t.agent a := by
    rw [← hv]
    exact State.agent_congr (fun _ => rfl) (fun _ => rfl) rfl a
  have has : v.has a := by
    have := lands.has (added.has ha)
    rw [← hv]
    cases a <;> exact this
  have worked : Issuing a v (v.setWork a u.uid k) := v.issuing_updAgent a has fun _ => rfl
  have settled := worked.trans (State.issuing_updAgent _ a (worked.has has) (f := Agent.settle) fun _ => rfl)
  refine ⟨?_, fun g w => ?_, ?_⟩
  · rw [State.updAgent_mem, State.mem_setWork, ← hv]
  · rw [(settled.warps g w).1, warp, lands.warp, (added.warps g w).1]
  · rw [settled.sregs, agent, lands.agent, added.sregs]

end Sys2Proof.Machine

/-! PROOFS. O22, the issue of SATOM, VATOM and VRED (07 R189; 09 R250-R252). -/

namespace Sys2Proof.Machine
open Sys2Proof.Claims

/-- An operation with anything to carry is not over. -/
theorem Parts.work_unfinished (q : Parts) (m : MemOp) (n : Nat) (c : OpClass) : (Op.mk n c (q.work m)).over = false := by
  unfold Parts.work
  repeat' split
  all_goals rfl

/-- The issue of an atomic whose lanes are all found: it changes no register and no byte elsewhere, and the bytes of a single lane
become the operation's result, the old ones kept when they are to be returned. -/
theorem memIssue_atomics {s u : State} {len : Nat} {m : MemOp} {code : BitVec 4} {keep releases : Bool} {xs : List LaneAcc}
    {ys : List (LaneAcc × List Loc)} (hm : m.act = .atomic code keep) (flows : Flows s s.cur)
    (ready : s.memStalled s.cur m.cls m xs = false) (released : releases = true → s.released s.cur = true)
    (places : FoundAll s.cur m s xs ys u) (some : ys ≠ []) (combining : Combining u s.cur) (live : u.live s.cur = true)
    (whole : m.bytes / m.piece ≠ 0) (operands : ∀ y ∈ ys, y.1.prov = none) (ops : Storeless (u.agent s.cur).ops) :
    ∃ t : State, memIssue len m releases [] xs s = t.advance len ∧ (∀ g w, (t.warp g w).vregs = (u.warp g w).vregs) ∧
      (t.agent s.cur).sregs = (u.agent s.cur).sregs ∧
      (∀ k : Loc, (∀ y ∈ ys, ∀ l ∈ y.2, ∀ j < m.piece, k.key ≠ (l.plus j).key) → k.Home → t.readByte k = u.readByte k) ∧
      ∀ x l, ys = [(x, [l])] →
        (∀ k < m.piece, t.readByte (l.plus k) = listGet 0 (atomicBytes code.toNat (u.readBytes l m.piece) x.data x.compare) k) ∧
        (x.data.length = m.piece → u.trackedLines (writesAt l x.data none) = [] → ∃ rd, (⟨u.uid, m.cls,
          Parts.work ⟨if keep then laneRegs m x (u.readBytes l m.piece) else [], [], [], [], [], [], rd⟩ { m with acquires := false }⟩ :
            Op) ∈ (t.agent s.cur).ops) := by
  have ha := State.has_of_live live
  have added := u.issuing_addOp s.cur ha m.cls .finished
  have storeless : Storeless ((u.addOp s.cur m.cls .finished).2.agent s.cur).ops := by
    rw [State.agent_addOp ha]
    exact ops.append_finished _ _
  have lanes : ∀ y ∈ ys, Ready (u.addOp s.cur m.cls .finished).2 m y :=
    FoundAll.ready hm places whole ops operands (State.updAgent_poison _ _ _)
  obtain ⟨q, t, performs, lands, written, others⟩ := performs_atomics (id := u.uid) hm ys _ Parts.none storeless lanes rfl
  have issued := memIssue_of_found (len := len) flows ready released places some performs
    (State.full_of_combining (lands.combining (added.combining combining)))
  obtain ⟨mem, vregs, sregs⟩ := State.carried_of_lands ha lands written
  have before : (u.addOp s.cur m.cls .finished).2.mem = u.mem := State.updAgent_mem _ _ _
  refine ⟨_, issued, vregs, sregs, fun k away home => ?_, fun x l single => ?_⟩
  · rw [State.readByte_eq_memGet _ home, State.readByte_eq_memGet _ home, mem, others _ away, before]
  · subst single
    have lane := lanes _ (List.mem_singleton_self _)
    have home := lane.home l (List.mem_singleton_self _)
    have here := lane.here l (List.mem_singleton_self _)
    have old : (u.addOp s.cur m.cls .finished).2.readBytes l m.piece = u.readBytes l m.piece :=
      List.map_congr_left fun i _ => added.readByte _
    refine ⟨fun k hk => ?_, fun size untracked => ?_⟩
    · rw [State.readByte_eq_memGet _ (l := l.plus k) home, mem, memGet_of_performs_atomic hm home here storeless performs hk, old]
    · have tables : (u.addOp s.cur m.cls .finished).2.tables = u.tables := State.updAgent_tables _ _ _
      obtain ⟨rd, hq⟩ := parts_of_performs_atomic hm home here storeless lane.operand size
        ((State.trackedLines_congr tables rfl).trans untracked) performs
      have op := State.mem_ops_carry (q := q) ha (lands.has (added.has ha)) (lands.agent s.cur) (by rw [hq])
        (Parts.work_unfinished q _ _ _)
      rw [show q.bound = true by rw [hq]; rfl, Bool.not_true, Bool.and_false] at op
      rw [old] at hq
      exact ⟨rd, hq ▸ op⟩

/-! SATOM (07 R189). -/

theorem satomCode_width (cw : BitVec 4) : (satomCode cw).2 = 4 ∨ (satomCode cw).2 = 8 := by
  unfold satomCode
  split <;> simp

/-- An atomic that returns its old values is a load, and one that does not a store (04 R120). -/
theorem Parts.work_atomic {m : MemOp} {code : BitVec 4} {keep : Bool} (hm : m.act = .atomic code keep) (regs : List RegWrite)
    (rd : List (LaneAcc × Nat)) : Parts.work ⟨regs, [], [], [], [], [], rd⟩ m =
      if keep then .load m regs [] [] [] rd else .store m [] [] [] := by
  cases keep <;> simp [Parts.work, MemAct.stores, hm]

/-- What an atomic returns is unpoisoned. -/
theorem laneRegs_of_atomic {m : MemOp} {code : BitVec 4} (hm : m.act = .atomic code true) (hv : m.vector = false) (hs : m.signed = false)
    (x : LaneAcc) (bs : List Byte) : laneRegs m x bs = [.scalar m.dst.toNat (BitVec.ofNat 64 (leN bs)) none] := by
  simp only [laneRegs, hm, hv, hs, MemAct.returns, Bool.false_eq_true, if_true, if_false]

theorem FoundAll.ne_nil {s u : State} {a : AgentId} {m : MemOp} {xs : List LaneAcc} {ys : List (LaneAcc × List Loc)}
    (h : FoundAll a m s xs ys u) (some : xs ≠ []) : ys ≠ [] := by
  cases h with
  | none => exact absurd rfl some
  | lane => exact List.cons_ne_nil _ _

theorem FoundAll.lane_mem {s u : State} {a : AgentId} {m : MemOp} {xs : List LaneAcc} {ys : List (LaneAcc × List Loc)}
    (h : FoundAll a m s xs ys u) {y : LaneAcc × List Loc} (hy : y ∈ ys) : y.1 ∈ xs := by
  induction h with
  | none => cases hy
  | lane _ _ _ ih =>
    rcases List.mem_cons.mp hy with rfl | hy
    · exact List.mem_cons_self
    · exact List.mem_cons_of_mem _ (ih hy)

/-- 07 R189. -/
theorem scalarAtomic : ScalarAtomic := by
  intro o s u l h code n x m flows ready places combining live home untracked ops
  have hn : n = 4 ∨ n = 8 := satomCode_width o.cw
  have piece : m.piece = n := Nat.min_eq_left (show n ≤ 64 by omega)
  have cls : m.cls = if o.sd = 0 then .stores else .loads := by
    by_cases hd : o.sd = 0 <;> simp [MemOp.cls, MemAct.stores, m, hd]
  have whole : m.bytes / m.piece ≠ 0 := by
    rw [piece, Nat.div_self (show 0 < n by omega)]
    exact one_ne_zero
  rw [← cls] at ready ⊢
  obtain ⟨t, issued, -, sregs, others, single⟩ := memIssue_atomics (len := 8) (m := m) (releases := false) rfl flows ready (by simp) places
    (by simp) combining live whole (by simp [x]) ops
  obtain ⟨bytes, op⟩ := single x l rfl
  obtain ⟨rd, op⟩ := op ((length_leB n _).trans piece.symm) untracked
  rw [piece] at bytes op others
  refine ⟨t, (exec_of_runs h rfl (Eq.refl (satomOp 8 o s))).trans (congrArg _ issued), bytes,
    fun k away hk => others k (by simpa using away) hk, sregs, rd, ?_⟩
  rw [Parts.work_atomic rfl] at op
  by_cases hd : o.sd = 0
  · rw [if_pos hd]
    rwa [show (o.sd != 0) = false by simpa using hd, if_neg Bool.false_ne_true] at op
  · have returns : (o.sd != 0) = true := by simpa using hd
    have act : m.act = .atomic code true := congrArg _ returns
    rw [if_neg hd]
    rwa [returns, if_pos rfl, if_pos rfl, laneRegs_of_atomic act rfl rfl] at op

/-! VATOM and VRED (09 R250-R252). -/

theorem Warp.length_laneBytes (w : Warp) (r l n : Nat) : (w.laneBytes r l n).length = n := by
  simp only [Warp.laneBytes, List.length_take, List.length_flatMap, length_leB, List.map_const', List.length_range, List.sum_replicate,
    smul_eq_mul]
  omega

/-- A lane that reads an operand has as many bytes of it as its access. -/
theorem State.length_data_of_vmemLanes {s : State} {w : Warp} {unit atomic : Bool} {o : GM} {r : Nat} {compare : Option Nat}
    {pre : List (LaneAcc × LaneFound)} {xs : List LaneAcc} (h : s.vmemLanes w unit atomic o (some r) compare = (pre, xs)) {x : LaneAcc}
    (hx : x ∈ xs) : x.data.length = o.width.bytes := by
  unfold State.vmemLanes at h
  extract_lets base n act at h
  obtain rfl : _ = xs := congrArg Prod.snd h
  refine foldl_keeps (fun acc : List (LaneAcc × LaneFound) × List LaneAcc => ∀ x ∈ acc.2, x.data.length = n) _ (fun acc l hacc => ?_) _ _
    (by simp) x hx
  split
  · exact hacc
  · split
    · exact hacc
    · split
      · exact hacc
      · exact fun y hy => (List.mem_append.mp hy).elim (hacc y) fun last =>
          (List.mem_singleton.mp last) ▸ w.length_laneBytes r l n

theorem width_bytes_pos (w : Width) : 0 < w.bytes := by cases w <;> decide

theorem width_bytes_le (w : Width) : w.bytes ≤ 64 := by cases w <;> decide

theorem exec_of_vectorAtomic {o : GM} {keep : Bool} {s : State} {g wn : Nat} {xs : List LaneAcc} (hc : s.cur = .warp g wn)
    (h : Runs (if keep then Instr.vatom o else .vred o) s)
    (lanes : s.vmemLanes (s.warp g wn) false true o (some o.vdata.toNat)
      (if (o.off.setWidth 4 : BitVec 4) = 9 then some (o.vdata.toNat + o.width.regs) else none) = ([], xs)) :
    exec (if keep then Instr.vatom o else .vred o) s = .next (memIssue 8 ⟨.atomic (o.off.setWidth 4) keep, o.width.bytes, true, o.vdata,
      false, o.order.acquires, s.pc, s.headMask⟩ o.order.releases [] xs s) := by
  cases keep
  case' false => refine (exec_of_runs h rfl (Eq.refl (vatomOp 8 1 o s))).trans ?_
  case' true => refine (exec_of_runs h rfl (Eq.refl (vatomOp 8 0 o s))).trans ?_
  all_goals
    simp only [hc, beq_iff_eq]
    rw [lanes]
    rfl

/-- 09 R250-R252. -/
theorem vectorAtomics : VectorAtomics := by
  intro o s u g wn keep xs ys hc i code r n h lanes some m flows ready released places combining live operands ops
  have piece : m.piece = n := Nat.min_eq_left (width_bytes_le _)
  have cls : m.cls = if keep then .loads else .stores := by cases keep <;> rfl
  have whole : m.bytes / m.piece ≠ 0 := by
    rw [piece, Nat.div_self (width_bytes_pos _)]
    exact one_ne_zero
  rw [← cls] at ready
  obtain ⟨t, issued, vregs, sregs, others, single⟩ := memIssue_atomics (len := 8) (m := m) rfl flows ready released places
    (FoundAll.ne_nil places some) combining live whole operands ops
  rw [piece] at others
  refine ⟨t, (exec_of_vectorAtomic hc h lanes).trans (congrArg _ issued), vregs g wn, sregs, others, fun x l alone => ?_⟩
  obtain ⟨bytes, op⟩ := single x l alone
  rw [piece] at bytes op
  refine ⟨bytes, fun returns untracked => ?_⟩
  have hx : x ∈ xs := FoundAll.lane_mem places (y := (x, [l])) (alone ▸ List.mem_singleton_self _)
  obtain ⟨rd, op⟩ := op (State.length_data_of_vmemLanes lanes hx) untracked
  rw [Parts.work_atomic rfl, if_pos returns, if_pos returns, cls, if_pos returns] at op
  exact ⟨_, rd, op⟩

end Sys2Proof.Machine

namespace Sys2Proof
open Machine Claims

/-- Settles O22: an atomic that no store precedes replaces its bytes as it issues, and its operation holds the old ones. -/
theorem atomicsUpdate : Obligations.AtomicsUpdate := ⟨scalarAtomic, vectorAtomics⟩

end Sys2Proof
